-- ==== Sys2Proof/Word.lean ====
section
/-! DEFINITION. The word types of the module: bytes, 32-bit words, quality codes. Byte order and
bit fields are in Machine/Ops.lean. -/

namespace Sys2Proof

/-- A register, memory or instruction word (00_scope.md: all registers are 32 bits wide). -/
abbrev Word := BitVec 32

/-- One byte of a memory, a frame or a board. -/
abbrev Byte := BitVec 8

/-- A string of bytes, first byte first. -/
abbrev Bytes := List Byte

end Sys2Proof
end

