-- ==== Sys2Proof/Syntax.lean ====
section
/-! DEFINITION. The commands of the module: one constructor for each row of spec/opcode_table.json,
with the operands that the row's rule gives the step. The table gives no row an encoding; the operands
are those the rules name (a lane, a register number, an index of a track entry, a frame's bytes). An
operand that carries a physical outcome (a self-test's result, a flash write that failed, the instant
of a frame) is what the environment decides and the module observes. -/

namespace Sys2Proof

/-- The two Mebarid channels. -/
inductive Chan where
  | a | b
  deriving DecidableEq, Repr

/-- What a comparator roll or a self-test segment observed (R188, R190, R386): every injection was
reported as it must be; an LBIST signature differed; an injected line did not fire; an injection on a
line fired on another; a dual-rail injection was not reported. -/
inductive SegResult where
  | pass
  | lbistFail
  | silent (line : BitVec 8)
  | stray (line : BitVec 8)
  | railSilent
  deriving DecidableEq, Repr

/-- Where a host message comes from: the IP address (4 or 16 bytes) and the UDP port. -/
structure HostAddr where
  ip   : Bytes
  udp  : BitVec 16
  deriving DecidableEq, Repr

/-- Where a HAP datagram comes from, the UDP port it is sent to, and whether it came in fragments (R464). -/
structure HapSrc where
  addr  : HostAddr
  port  : BitVec 16
  split : Bool
  deriving DecidableEq, Repr

/-- What becomes of the writing of a record: programmed and read back, a program operation that failed
(R433), or cut short after `n` bytes by power loss or a reset of HOST (R430). -/
inductive ProgRes where
  | ok
  | fail
  | cut (n : Nat)
  deriving DecidableEq, Repr

/-- How a frame that a CAN channel put on the bus ended: sent without error, arbitration lost, or an error with its code
of CAN_ERR LEC; `acked` says that the attempt was acknowledged all the same, `exempt` that ISO 11898-1 excepts the error
from raising TEC (a stuff error in the arbitration field, R488), (R496, R502, R504). -/
inductive CanEnd where
  | ok
  | lost
  | err (lec : BitVec 4) (acked exempt : Bool)
  deriving DecidableEq, Repr

/-- The buffers that a REQ names, and whether a frame of another node is on the bus (R495, R496). -/
structure CanReq where
  bufs : BitVec 3
  busy : Bool
  deriving DecidableEq, Repr

/-- A Sync as the steward has it: its domain, the ns of the master's time at which it left the master, and the ns that
transparent clocks have added to it (R58, R59). -/
structure SyncMsg where
  domain : BitVec 8
  origin : BitVec 64
  corr   : BitVec 64
  deriving DecidableEq, Repr

/-- The states of the PTP slave (R484). -/
inductive PtpState where
  | listening | slave | lost
  deriving DecidableEq, Repr

/-- A corrected word: its physical address, and the lane whose fetch or load found it, if one did (R168, R227, R254). -/
structure Corrected where
  addr : BitVec 40
  lane : Option (Fin 16)
  deriving DecidableEq, Repr

/-- What the steward reports with SERIALISED: the ms since T, and what of its handover block is not yet in its area (R451). -/
structure Serialised where
  ms    : BitVec 16
  block : List (BitVec 8)
  deriving DecidableEq, Repr

/-- The levels of the slot's pins: whether the presence pin is open, the slot code SC1, SC0, and whether the service key
input is active (R24, R411, R413, R532). -/
structure SlotPins where
  isOpen : Bool
  code   : BitVec 2
  svcKey : Bool
  deriving DecidableEq, Repr

/-- An instruction code of the test port that selects BYPASS, and the bit shifted in (R533). -/
structure Bypass where
  code : BitVec 6
  bit  : Bool
  deriving DecidableEq, Repr

/-- A confirmation: its key, and whether the bank choice record could be written (R456, R461). -/
structure Confirmation where
  key     : BitVec 16
  written : Bool
  deriving DecidableEq, Repr

/-- Which of the flash writes that follow HANDED succeed: that of the bank choice record and that of the settings (R452,
R459, R461). -/
structure HandedWrites where
  choice   : Bool
  settings : Bool
  deriving DecidableEq, Repr

/-- The commands, one for each row of spec/opcode_table.json, in its order. -/
inductive Instr where
  /-- REGISTER_WRITE (R12). A write to a register field that has no row of its own sets or ignores the field according to its access code. -/
  | registerWrite (addr : BitVec 20) (width : BitVec 4) (value : Word)
  /-- PG_LOCK_WRITE (R16). Writing 0x0000_A5A5 to PG_LOCK sets LOCKED until a System reset or any wider reach. -/
  | pgLockWrite (page : BitVec 8) (value : Word)
  /-- PG_BRST_WRITE (R20). Writing 0x0000_B10C while IDLE = 1 applies a Block reset to the page's block; a write while IDLE = 0 logs 0x0004. -/
  | pgBrstWrite (page : BitVec 8) (value : Word)
  /-- PG_IRQ_CLEAR (R15). A W1C write clears latched PG_IRQ bits unless a rising condition falls in the same cycle. -/
  | pgIrqClear (page : BitVec 8) (value rising : Word)
  /-- PG_ERR_CLEAR (R18). A W1C write clears the first error code, PG_ERR_INFO and the count, or the count alone. -/
  | pgErrClear (page : BitVec 8) (value : Word) (err : Option (BitVec 16 × Word))
  /-- CLOCK_MONITOR_WINDOW_END (R34). At the end of each 20.48 µs window the clock count is judged against LOW and HIGH, and an out-of-range clock becomes not good. -/
  | clockMonitorWindowEnd (idx : Fin 20) (count : BitVec 16)
  /-- PLL_LOSS_OF_LOCK (R34). A PLL or trim loop that loses lock makes its clock not good in the same BCLK cycle. -/
  | pllLossOfLock (idx : Fin 20)
  /-- XTAL_STOP (R37). When the 32.768 kHz crystal stops, the ACLK trim freezes, XTAL_OK clears and one record is written. -/
  | xtalStop
  /-- TIM_NOW_LO_READ (R43). A read of TIM_NOW_LO returns global time [31:0] and latches [63:32] into TIM_NOW_HI. -/
  | timNowLoRead
  /-- ROUND_BOUNDARY (R129). At the edge of pip 0 the applied mask takes the pending mask, a new RSN begins, and the watchdog is kicked. -/
  | roundBoundary
  /-- SYNC_CORRECT (R49). At the correction pip the time base reduces the sync values, computes d, and sets the slew, trim and time base state. -/
  | syncCorrect
  /-- TIME_STEP (R54). At a round boundary of the old time, global time, pip counter and RSN are stepped; plies in flight are aborted and issue resumes at a later RSN. -/
  | timeStep
  /-- TIM_STEP_CMD (R545). Writing 0x0000_57E9 in UNSYNC schedules TIM_STEP_HI:LO to be loaded as global time at the next round boundary. -/
  | timStepCmd (value : Word)
  /-- TIM_EXT_OFS_WRITE (R60). A write of the PTP offset sets EXT_FRESH so the next correction pip can use the value. -/
  | timExtOfsWrite (value : Word)
  /-- PTP_TC_CORRECT (R58). A PTP Sync or Delay_Req message passing between H1 and H2 has its residence time added to correctionField. -/
  | ptpTcCorrect (inPort : Fin 2) (ingress egress : BitVec 64) (frame : Bytes)
  /-- PTP_SYNC_RX (R59). The steward's PTP slave takes a Sync message, writes its measured offset to TIM_EXT_OFS and copies the UTC offset into TIM_UTC. -/
  | ptpSyncRx (port : Fin 2) (seqId : BitVec 16) (ts : BitVec 64) (sync : SyncMsg) (utc : BitVec 16)
  /-- BSQ_START (R112). A START in OFF with the board LOADED moves the sequencer to WAIT. -/
  | bsqStart
  /-- BSQ_STOP (R113). A STOP in BOOT, STOOD_DOWN or BENCH is accepted and takes effect at the next round boundary. -/
  | bsqStop
  /-- SEQ_ENTER_RUN (R112). At the next turn boundary after START, the sequencer enters RUN and BRD_STATE ACTIVE becomes RUNNING. -/
  | seqEnterRun
  /-- SEQ_STOP_TAKES_EFFECT (R113). At the round boundary after an accepted STOP, plies in flight are decided and the sequencer enters OFF. -/
  | seqStopTakesEffect
  /-- TRACK_WALK_BEGIN (R114). At pip 4,936 each walker begins walking the next round's entries into its issue buffer. -/
  | trackWalkBegin (corrected : Nat) (bad : Option (Fin 4 × Nat))
  /-- PLY_DISPATCH (R119). At pip START of an enabled PLY entry the sequencer toggles GO, and the lane loads its dispatch state and starts the ply. -/
  | plyDispatch (idx : Nat) (seg : SegResult)
  /-- PLY_READY_COMMIT (R120). A READY seen before the deadline makes the sequencer send COMMIT, and the lane publishes its buffered writes. -/
  | plyReadyCommit (lane : Fin 16)
  /-- PLY_DEADLINE_ABORT (R122). At the deadline without READY the sequencer sends ABORT; the lane halts and discards its writes, and the ply ends late. -/
  | plyDeadlineAbort (lane : Fin 16)
  /-- PLY_TRAP_SEEN (R166). A TRAP seen before the deadline ends the ply as trapped and applies QUAL event 6. -/
  | plyTrapSeen (lane : Fin 16)
  /-- MOVE_START (R124). At pip START of an enabled MOVE entry the sequencer starts the board mover's transfer. -/
  | moveStart (idx : Nat) (limit : Option Nat)
  /-- MOVE_DEADLINE (R124). At START + DUR an unfinished mover is stopped, MOVER_OVR is raised and the transfer is a board mover fault. -/
  | moveDeadline (mover : Fin 8)
  /-- BOARD_MOVER_FAULT (R243). A range, ECC or overrun fault stops a board mover transfer, raises BM_FAULT and applies QUAL event 4. -/
  | boardMoverFault (mover : Fin 8) (cause : BitVec 2) (addr : BitVec 40)
  /-- SLOT_OPEN (R125). At pip START of a SLOT entry both channel interfaces open the slot and send the module's frame if R301 allows. -/
  | slotOpen (idx : Nat)
  /-- SLOT_CLOSE (R304). At START + LEN the interface closes the slot and decides its outcome on each channel. -/
  | slotClose (slot : BitVec 16)
  /-- GUARDIAN_WINDOW_OPEN (R303). The guardian enables the transmitters of a record's ports at the window START. -/
  | guardianWindowOpen (idx : Nat)
  /-- GUARDIAN_WINDOW_CLOSE (R303). At the window end the guardian disables the transmitters and cuts a frame still in progress. -/
  | guardianWindowClose (idx : Nat)
  /-- TASK_START (R258). The FIELD event copies the local inputs, clears the output written marks and opens the gambit context. -/
  | taskStart (idx : Nat)
  /-- AGREE_CLOSE (R263). The FIELD event closes the input agreement window and applies QUAL events 0 and 1. -/
  | agreeClose (idx : Nat)
  /-- TASK_END (R261). The FIELD event applies QUAL events 4, 5 and 6 and publishes the output image with the RSN. -/
  | taskEnd (idx : Nat)
  /-- DIGEST (R348). The FIELD event sends the task's cycle digest to the partner in a DIGEST message. -/
  | digest (idx : Nat)
  /-- FIO_SAMPLE (R509). The FIELD event latches the named input channels with level, wire break and L+ low flags. -/
  | fioSample (idx : Nat)
  /-- FIO_REFRESH (R511). The FIELD event commands the named outputs from their output words and restarts their refresh timers. -/
  | fioRefresh (idx : Nat)
  /-- HEALTH_XCHG (R366). The FIELD event builds and sends the round's health block, sets the loop current and sends a NOTIFY every 4,000 rounds. -/
  | healthXchg (idx : Nat)
  /-- COMMIT_ENTRY (R210). At the COMMIT entry the gambit unit tests read sets against the change mask and delivers commit or squash. -/
  | commitEntry (idx : Nat)
  /-- RERUN_SELECT (R127). At the COMMIT entry's START + DUR the task's RERUN entries are enabled on squash or missing result, and skipped otherwise. -/
  | rerunSelect (idx : Nat)
  /-- BG_RESUME (R134). At START of an idle window with BSQ_BG_EN set, the lane restores its job from the save area and continues. -/
  | bgResume (idx : Nat)
  /-- BG_PREEMPT (R135). At START + DUR − 1 the lane stops its job at an instruction boundary and saves 64 words. -/
  | bgPreempt (lane : Fin 16) (fault : Bool)
  /-- BG_SAVE_ABORT (R137). A save unfinished at the window end is aborted, the job is invalidated, BSQ_BG_EN cleared and 0x0104 logged. -/
  | bgSaveAbort (lane : Fin 16)
  /-- SEQ_WATCHDOG_EXPIRY (R140). No kick for WDT_ROUNDS rounds in RUN or FAULT requests a System reset. -/
  | seqWatchdogExpiry
  /-- ADD (R153). rd takes ra + rb modulo 2^32. -/
  | add (lane : Fin 16) (rd ra rb : BitVec 5)
  /-- SUB (R153). rd takes ra − rb modulo 2^32. -/
  | sub (lane : Fin 16) (rd ra rb : BitVec 5)
  /-- AND (R153). rd takes ra and rb. -/
  | and (lane : Fin 16) (rd ra rb : BitVec 5)
  /-- OR (R153). rd takes ra or rb. -/
  | or (lane : Fin 16) (rd ra rb : BitVec 5)
  /-- XOR (R153). rd takes ra xor rb. -/
  | xor (lane : Fin 16) (rd ra rb : BitVec 5)
  /-- SLL (R153). rd takes ra shifted left by rb[4:0]. -/
  | sll (lane : Fin 16) (rd ra rb : BitVec 5)
  /-- SRL (R153). rd takes ra shifted right by rb[4:0] with zero fill. -/
  | srl (lane : Fin 16) (rd ra rb : BitVec 5)
  /-- SRA (R153). rd takes ra shifted right by rb[4:0] with sign fill. -/
  | sra (lane : Fin 16) (rd ra rb : BitVec 5)
  /-- CMPLT (R153). rd takes 1 if ra < rb signed, else 0. -/
  | cmplt (lane : Fin 16) (rd ra rb : BitVec 5)
  /-- CMPLTU (R153). rd takes 1 if ra < rb unsigned, else 0. -/
  | cmpltu (lane : Fin 16) (rd ra rb : BitVec 5)
  /-- MIN (R153). rd takes the signed smaller of ra and rb. -/
  | min (lane : Fin 16) (rd ra rb : BitVec 5)
  /-- MAX (R153). rd takes the signed larger of ra and rb. -/
  | max (lane : Fin 16) (rd ra rb : BitVec 5)
  /-- MINU (R153). rd takes the unsigned smaller of ra and rb. -/
  | minu (lane : Fin 16) (rd ra rb : BitVec 5)
  /-- MAXU (R153). rd takes the unsigned larger of ra and rb. -/
  | maxu (lane : Fin 16) (rd ra rb : BitVec 5)
  /-- ADDS (R153). rd takes the signed saturating sum, setting QA[4] on a clamp. -/
  | adds (lane : Fin 16) (rd ra rb : BitVec 5)
  /-- SUBS (R153). rd takes the signed saturating difference, setting QA[4] on a clamp. -/
  | subs (lane : Fin 16) (rd ra rb : BitVec 5)
  /-- ADDSU (R153). rd takes the unsigned saturating sum. -/
  | addsu (lane : Fin 16) (rd ra rb : BitVec 5)
  /-- SUBSU (R153). rd takes the unsigned difference clamped to 0. -/
  | subsu (lane : Fin 16) (rd ra rb : BitVec 5)
  /-- ADDK (R154). rd takes ra + sext(imm). -/
  | addk (lane : Fin 16) (rd ra : BitVec 5) (imm : BitVec 16)
  /-- ADDSK (R154). rd takes ra + sext(imm) with signed saturation. -/
  | addsk (lane : Fin 16) (rd ra : BitVec 5) (imm : BitVec 16)
  /-- ANDK (R154). rd takes ra and zext(imm). -/
  | andk (lane : Fin 16) (rd ra : BitVec 5) (imm : BitVec 16)
  /-- ORK (R154). rd takes ra or zext(imm). -/
  | ork (lane : Fin 16) (rd ra : BitVec 5) (imm : BitVec 16)
  /-- XORK (R154). rd takes ra xor zext(imm). -/
  | xork (lane : Fin 16) (rd ra : BitVec 5) (imm : BitVec 16)
  /-- CMPLTK (R154). rd takes 1 if ra < sext(imm) signed, else 0. -/
  | cmpltk (lane : Fin 16) (rd ra : BitVec 5) (imm : BitVec 16)
  /-- SHK (R154). ra is shifted by imm[4:0] in the kind chosen by imm[6:5]. -/
  | shk (lane : Fin 16) (rd ra : BitVec 5) (imm : BitVec 16)
  /-- KCAT (R154). rd takes (rd << 16) or zext(imm). -/
  | kcat (lane : Fin 16) (rd ra : BitVec 5) (imm : BitVec 16)
  /-- MUL (R155). rd takes the low 32 bits of ra × rb. -/
  | mul (lane : Fin 16) (rd ra rb : BitVec 5)
  /-- MULL (R155). rd+1:rd take the signed 64-bit product. -/
  | mull (lane : Fin 16) (rd ra rb : BitVec 5)
  /-- MULLU (R155). rd+1:rd take the unsigned 64-bit product. -/
  | mullu (lane : Fin 16) (rd ra rb : BitVec 5)
  /-- MULS (R155). rd takes the signed product clamped to 32 bits. -/
  | muls (lane : Fin 16) (rd ra rb : BitVec 5)
  /-- DIV (R155). rd takes the signed quotient rounded towards zero; a zero divisor traps Z. -/
  | div (lane : Fin 16) (rd ra rb : BitVec 5)
  /-- DIVU (R155). rd takes the unsigned quotient; a zero divisor traps Z. -/
  | divu (lane : Fin 16) (rd ra rb : BitVec 5)
  /-- REM (R155). rd takes the signed remainder with the sign of ra; a zero divisor traps Z. -/
  | rem (lane : Fin 16) (rd ra rb : BitVec 5)
  /-- REMU (R155). rd takes the unsigned remainder; a zero divisor traps Z. -/
  | remu (lane : Fin 16) (rd ra rb : BitVec 5)
  /-- FADD (R156). rd takes the binary32 sum. -/
  | fadd (lane : Fin 16) (rd ra rb : BitVec 5)
  /-- FSUB (R156). rd takes the binary32 difference. -/
  | fsub (lane : Fin 16) (rd ra rb : BitVec 5)
  /-- FMUL (R156). rd takes the binary32 product. -/
  | fmul (lane : Fin 16) (rd ra rb : BitVec 5)
  /-- FDIV (R156). rd takes the binary32 quotient. -/
  | fdiv (lane : Fin 16) (rd ra rb : BitVec 5)
  /-- FMIN (R156). rd takes minNum(ra, rb). -/
  | fmin (lane : Fin 16) (rd ra rb : BitVec 5)
  /-- FMAX (R156). rd takes maxNum(ra, rb). -/
  | fmax (lane : Fin 16) (rd ra rb : BitVec 5)
  /-- FEQ (R156). rd takes 1 if ra = rb (quiet), else 0. -/
  | feq (lane : Fin 16) (rd ra rb : BitVec 5)
  /-- FLT (R156). rd takes 1 if ra < rb (signalling), else 0. -/
  | flt (lane : Fin 16) (rd ra rb : BitVec 5)
  /-- FLE (R156). rd takes 1 if ra ≤ rb (signalling), else 0. -/
  | fle (lane : Fin 16) (rd ra rb : BitVec 5)
  /-- FCVTWS (R156). rd takes ra converted to a signed integer, rounded towards zero. -/
  | fcvtws (lane : Fin 16) (rd ra rb : BitVec 5)
  /-- FCVTSW (R156). rd takes signed integer ra converted to binary32. -/
  | fcvtsw (lane : Fin 16) (rd ra rb : BitVec 5)
  /-- FABS (R156). rd takes ra with bit 31 cleared. -/
  | fabs (lane : Fin 16) (rd ra rb : BitVec 5)
  /-- FNEG (R156). rd takes ra with bit 31 inverted. -/
  | fneg (lane : Fin 16) (rd ra rb : BitVec 5)
  /-- LDW (R158). rd takes the word at ea. -/
  | ldw (lane : Fin 16) (rd ra : BitVec 5) (imm : BitVec 16)
  /-- LDH (R158). rd takes the sign-extended halfword at ea. -/
  | ldh (lane : Fin 16) (rd ra : BitVec 5) (imm : BitVec 16)
  /-- LDHU (R158). rd takes the zero-extended halfword at ea. -/
  | ldhu (lane : Fin 16) (rd ra : BitVec 5) (imm : BitVec 16)
  /-- LDB (R158). rd takes the sign-extended byte at ea. -/
  | ldb (lane : Fin 16) (rd ra : BitVec 5) (imm : BitVec 16)
  /-- LDBU (R158). rd takes the zero-extended byte at ea. -/
  | ldbu (lane : Fin 16) (rd ra : BitVec 5) (imm : BitVec 16)
  /-- QLD (R158). rd takes the quality code of the IMEM word at ea, and QA[3:0] merges it. -/
  | qld (lane : Fin 16) (rd ra : BitVec 5) (imm : BitVec 16)
  /-- STW (R158). The word at ea takes rs, and an IMEM word takes QA[3:0] as its quality. -/
  | stw (lane : Fin 16) (rs ra : BitVec 5) (imm : BitVec 16)
  /-- STH (R158). The halfword at ea takes rs[15:0]. -/
  | sth (lane : Fin 16) (rs ra : BitVec 5) (imm : BitVec 16)
  /-- STB (R158). The byte at ea takes rs[7:0]. -/
  | stb (lane : Fin 16) (rs ra : BitVec 5) (imm : BitVec 16)
  /-- STQ (R158). The quality of the IMEM word at ea takes rs[3:0]. -/
  | stq (lane : Fin 16) (rs ra : BitVec 5) (imm : BitVec 16)
  /-- JC (R159). The PC jumps by the offset if the condition holds for ra and rb. -/
  | jc (lane : Fin 16) (cond : BitVec 4) (ra rb : BitVec 5) (off : BitVec 12)
  /-- CALL (R159). rd takes the return address and the PC jumps by the offset. -/
  | call (lane : Fin 16) (rd : BitVec 5) (off : BitVec 21)
  /-- CALLR (R159). rd takes the return address and the PC takes ra + sext(imm). -/
  | callr (lane : Fin 16) (rd ra : BitVec 5) (imm : BitVec 16)
  /-- EXT (R160). rd takes a zero-extended bit field of ra. -/
  | ext (lane : Fin 16) (rd ra pos wm1 : BitVec 5) (zero : BitVec 6)
  /-- EXTS (R160). rd takes a sign-extended bit field of ra. -/
  | exts (lane : Fin 16) (rd ra pos wm1 : BitVec 5) (zero : BitVec 6)
  /-- INS (R160). The low w bits of ra are inserted into rd at pos. -/
  | ins (lane : Fin 16) (rd ra pos wm1 : BitVec 5) (zero : BitVec 6)
  /-- QMRG (R161). QA[3:0] merges ra[3:0]. -/
  | qmrg (lane : Fin 16) (rd ra rb : BitVec 5)
  /-- QGET (R161). rd takes QA. -/
  | qget (lane : Fin 16) (rd ra rb : BitVec 5)
  /-- QTAKE (R161). rd takes QA, and QA is cleared. -/
  | qtake (lane : Fin 16) (rd ra rb : BitVec 5)
  /-- TIME (R144). rd+1:rd take the scheduled start of the ply in global time. -/
  | time (lane : Fin 16) (rd ra rb : BitVec 5)
  /-- PLYEND (R169). The ply ends, the final comparison runs and READY is sent if it passes. -/
  | plyend (lane : Fin 16) (rd ra rb : BitVec 5)
  /-- LOCKSTEP_MISMATCH (R182). A comparator difference halts both copies, discards the ply, and bars the lane. -/
  | lockstepMismatch (lane : Fin 16) (line : Fin 216) (pc : BitVec 20)
  /-- DUAL_RAIL_DISAGREE (R188). A dual-rail disagreement in a delay register makes the lane untrusted and bears it off. -/
  | dualRailDisagree (lane : Fin 16) (results : Bool)
  /-- BAR_SEQUENCE_START (R184). At the first pip edge with no ply awaiting decision, the bar sequence begins, logs its start in the history and runs LBIST. -/
  | barSequenceStart (lane : Fin 16)
  /-- BAR_LBIST_DONE (R184). After 20,000 pips LBIST ends; a pass starts the full roll and a failure bears the lane off. -/
  | barLbistDone (lane : Fin 16) (pass : Bool)
  /-- BAR_ROLL_DONE (R185). After the roll the lane returns as transient or is borne off, by the result and the transient limit. -/
  | barRollDone (lane : Fin 16) (res : SegResult)
  /-- POWER_ON_TEST_DONE (R192). After LBIST and a full roll at LG release the lane enters IDLE or BORNE_OFF. -/
  | powerOnTestDone (lane : Fin 16) (lbist : Bool) (res : SegResult)
  /-- CLAIM (R198). A debug CLAIM in BENCH requests that the lane move to BENCH at the next round boundary. -/
  | claim (lane : Fin 16)
  /-- RELEASE (R193). A debug RELEASE requests the return of a BENCH lane to RUNNING or IDLE at the next round boundary. -/
  | release (lane : Fin 16)
  /-- LANE_BENCH_CHANGE_APPLY (R193). At the round boundary after CLAIM or RELEASE the lane enters or leaves BENCH. -/
  | laneBenchChangeApply (lane : Fin 16)
  /-- HALT (R196). A HALT request stops the main copy at the next instruction boundary and the shadow 2 LCLK later. -/
  | halt (lane : Fin 16)
  /-- RESUME (R196). A debug RESUME restarts the main copy, and the shadow follows 2 LCLK later. -/
  | resume (lane : Fin 16)
  /-- STEP (R196). A STEP executes one instruction in both copies and halts them again. -/
  | step (lane : Fin 16)
  /-- CMP_DBG_REG_DATA_WRITE (R197). A write sets the selected register in both copies of a halted lane. -/
  | cmpDbgRegDataWrite (value : Word)
  /-- SRAM_UNCORR (R229). An uncorrectable SRAM or MRAM word is repaired, poisoned or zeroed by memory, with one record. -/
  | sramUncorr (addr : BitVec 40)
  /-- CODE_REPAIR_DONE (R229). The loader finishes rewriting an ITCM word from its DRAM copy and raises REPAIR. -/
  | codeRepairDone (addr : BitVec 40)
  /-- DRAM_UNCORR (R230). An uncorrectable DRAM word raises DRAM_UNCORR and starts retirement of its page. -/
  | dramUncorr (addr : BitVec 40)
  /-- PAGE_RETIRE_DONE (R231). The retirement copy of a DRAM page to the spare pool completes. -/
  | pageRetireDone
  /-- SRAM_SWEEP_END (R228). A scrub sweep ends and the corrected-error count of each page restarts. -/
  | sramSweepEnd (dram : Bool)
  /-- REGION_WRITE (R238). A write to a region 13–15 register is accepted while the lane's background job is disabled. -/
  | regionWrite (ofs : BitVec 12) (value : Word)
  /-- REGION_TAKE_EFFECT (R238). At the next round boundary a written region takes effect, or is disabled if it overlaps region 2 or the save area. -/
  | regionTakeEffect
  /-- MMU_INV (R241). A write removes the TLB entries of one context or of all, and sets BUSY. -/
  | mmuInv (value : Word)
  /-- MMU_INV_DONE (R241). BUSY falls once every affected background mover has finished its page, and INV_DONE is raised. -/
  | mmuInvDone
  /-- RING_HEAD_WRITE (R246). The producer advances RING_HEAD, or the write is rejected with 0x0101. -/
  | ringHeadWrite (ring : Fin 64) (value : Word)
  /-- RING_CFG_WRITE (R252). A RING_CFG or RING_BASE write reconfigures an idle or halted ring and resets its indices. -/
  | ringCfgWrite (ring : Fin 64) (ofs : BitVec 12) (value : Word)
  /-- DESCRIPTOR_START (R247). A free background mover takes the oldest pending descriptor of the highest-priority ring. -/
  | descriptorStart (mover : Fin 4)
  /-- DESCRIPTOR_COMPLETE (R248). The mover writes STATUS and DONE, advances RING_TAIL and raises DONE if asked. -/
  | descriptorComplete (ring : Fin 64)
  /-- RING_PAGE_FAULT (R250). A page fault or PERM halts the ring with its descriptor in progress and raises HALT. -/
  | ringPageFault (ring : Fin 64)
  /-- RING_CMD_RESUME (R250). RESUME restarts a halted descriptor from SRC + DONE and DST + DONE. -/
  | ringCmdResume (ring : Fin 64)
  /-- RING_CMD_SKIP (R250). SKIP completes a halted descriptor with its fault status. -/
  | ringCmdSkip (ring : Fin 64)
  /-- BRD_CMD_VERIFY (R105). VERIFY checks the staged board. -/
  | brdCmdVerify
  /-- BRD_CMD_STORE (R105). STORE checks the staged board and writes it to the standby area. -/
  | brdCmdStore
  /-- BRD_CMD_ARM (R105). ARM re-checks the standby, loads its tables, code and new instance area, and sets ARMED. -/
  | brdCmdArm
  /-- BRD_CMD_DISARM (R105). DISARM returns an ARMED standby to STORED. -/
  | brdCmdDisarm
  /-- BRD_CMD_DISCARD (R105). DISCARD empties a STORED standby. -/
  | brdCmdDiscard
  /-- BRD_CMD_ACTIVATE (R105). ACTIVATE in BOOT exchanges the board areas and loads the new active board. -/
  | brdCmdActivate
  /-- BRD_CMD_DONE (R542). A board command completes, sets BRD_RESULT and BRD_INFO, increments SEQ and raises DONE or REFUSED. -/
  | brdCmdDone (readErr writeErr : Bool)
  /-- BOARD_LOAD_AT_RESET (R104). After a Cold or System reset the loader checks the active area, loads its tables and builds the instance store. -/
  | boardLoadAtReset (readErr : Bool)
  /-- PAIR_CMD_CHANGE (R280). The leader accepts or refuses an online change request and computes the switch round S. -/
  | pairCmdChange
  /-- CHANGE_DECISION (R282). At pip 0 of round S − 4 each partner decides whether to switch, and the leader sends CANCEL if not. -/
  | changeDecision
  /-- ONLINE_CHANGE_SWITCH (R285). At pip 0 of round S the table sets, regions and instance area switch, and kept lines become unmigrated. -/
  | onlineChangeSwitch
  /-- CONVERT_ROUND_END (R289). At the end of round S, lines of ACTION 2 ranges still unmigrated are migrated as ACTION 0. -/
  | convertRoundEnd
  /-- MIGRATION_DONE (R288). The migration engine finishes copying the kept lines, writes one record and frees the old area. -/
  | migrationDone
  /-- SYNC_RX (R45). A received SYNC frame is measured for deviation and counted against its slot. -/
  | syncRx (ch : Chan) (port : Fin 4) (ts : BitVec 64) (frame : Bytes)
  /-- COLDSTART_RX (R315). A received COLDSTART frame is measured as SYNC, and in LISTEN or ATTEMPT it ends or abandons the cold start. -/
  | coldstartRx (ch : Chan) (port : Fin 4) (ts : BitVec 64) (frame : Bytes)
  /-- DATA_IN_RX (R340). A VALID DATA_IN, granted SPARE or foreign PEER frame is kept for landing and forwarded to the partner. -/
  | dataInRx (ch : Chan) (port : Fin 4) (ts : BitVec 64) (frame : Bytes)
  /-- PEER_RX (R312). A PEER frame of another domain is received like a DATA_IN frame. -/
  | peerRx (ch : Chan) (port : Fin 4) (ts : BitVec 64) (frame : Bytes)
  /-- JOIN_REQ_RX (R319). A leader grants, refuses or promotes the grant for a VALID JOIN_REQ. -/
  | joinReqRx (ch : Chan) (port : Fin 4) (ts : BitVec 64) (frame : Bytes)
  /-- GRANT_RX (R320). A follower takes grants from a received GRANT frame. -/
  | grantRx (ch : Chan) (port : Fin 4) (ts : BitVec 64) (frame : Bytes)
  /-- ANNOUNCE_RX (R299). A received ANNOUNCE frame is checked and counted for the LEADER slot. -/
  | announceRx (ch : Chan) (port : Fin 4) (ts : BitVec 64) (frame : Bytes)
  /-- COLD_LISTEN (R313). At the first round boundary at which it is eligible, the cold-start engine enters LISTEN with its timer set. -/
  | coldListen
  /-- COLD_ATTEMPT (R314). When the LISTEN timer expires the node sets the pair epoch, enters SYNCED and sends COLDSTART. -/
  | coldAttempt
  /-- COLD_ABANDON (R315). At the round boundary after a competing frame or COLD_ROUNDS rounds, the attempt is abandoned and LISTEN restarts. -/
  | coldAbandon
  /-- COLD_DONE (R314). From the round after a usable SYNC frame from another sync node, the engine is DONE and the module sends all allowed slots. -/
  | coldDone
  /-- PORT_DOWN (R324). A port that loses NCLK, block lock or training goes down and counts a retrain. -/
  | portDown (ch : Chan) (port : Fin 4)
  /-- PORT_UP (R324). A port whose block lock has held for 100 µs comes up. -/
  | portUp (ch : Chan) (port : Fin 4)
  /-- RETRAIN (R327). MB_CMD RETRAIN takes the selected ports down and retrains them. -/
  | retrain (ch : Chan) (ports : BitVec 4)
  /-- MBS_CLR_SLOT (R329). A write with SLOT = 1 clears the counts of the selected slot. -/
  | mbsClrSlot
  /-- MBS_CLR_ALL (R329). A write with ALL = 1 clears the counts of every slot. -/
  | mbsClrAll
  /-- LEAD_TAKE (R331). A BOOT module whose lead conditions hold and whose latch grants the lead enters LEADER and starts the sequencer. -/
  | leadTake
  /-- JOIN_ENTER (R331). A BOOT module whose join conditions hold enters JOINING and sends JOINC REQUEST. -/
  | joinEnter
  /-- PAIR_CMD_LEAD (R331). LEAD releases the module to take the lead when the lead conditions hold. -/
  | pairCmdLead
  /-- PAIR_CMD_JOIN (R331). JOIN releases the module to join when the join conditions hold. -/
  | pairCmdJoin
  /-- PAIR_CMD_CASTLE (R355). The leader accepts castling and sends CASTLE OFFER with C = RSN + 8 each round. -/
  | pairCmdCastle
  /-- PAIR_CMD_STAND_DOWN (R376). STAND_DOWN makes the module enter STOOD_DOWN at once. -/
  | pairCmdStandDown
  /-- PAIR_CMD_BENCH (R330). BENCH in BOOT with BENCH_EN and the service key moves the module to BENCH. -/
  | pairCmdBench
  /-- PAIR_CMD_ABORT_JOIN (R330). ABORT_JOIN returns a JOINING module to BOOT. -/
  | pairCmdAbortJoin
  /-- PAIR_CMD_RESET_PARTNER (R346). The leader sends RESET_REQ to a STOOD_DOWN partner. -/
  | pairCmdResetPartner
  /-- DXL_LINK_UP (R336). The Dunly link comes up once XCLK, block lock and two HEALTH messages qualify, and LINK_UP is raised. -/
  | dxlLinkUp
  /-- DXL_LINK_DOWN (R336). The Dunly link goes down on XCLK, block lock or HEALTH loss, and LINK_DOWN is raised. -/
  | dxlLinkDown (lanes : BitVec 4) (health : Bool)
  /-- HEALTH_MSG_RX (R367). A HEALTH message is checked and kept as the partner's last valid health block. -/
  | healthMsgRx (lane : Fin 4) (msg : Bytes)
  /-- DIGEST_MSG_RX (R348). A DIGEST message from the partner is kept for comparison. -/
  | digestMsgRx (lane : Fin 4) (msg : Bytes)
  /-- DIGEST_COMPARE (R348). At DIGEST START + 8 the module compares its digest with the partner's and starts the pair check on a difference. -/
  | digestCompare (idx : Nat)
  /-- PAIR_CHECK_END (R349). At the round boundary after all parts end, or after 1,280 rounds, the check result is sent and applied. -/
  | pairCheckEnd (engine : Bool)
  /-- CHECK_MSG_RX (R349). A CHECK message gives the partner's result, which decides the pair check outcome. -/
  | checkMsgRx (lane : Fin 4) (msg : Bytes)
  /-- CHG_PROPOSE_RX (R282). The follower answers PROPOSE with ACCEPT or REFUSE. -/
  | chgProposeRx (lane : Fin 4) (msg : Bytes)
  /-- CHG_ACCEPT_RX (R282). The leader takes ACCEPT and sends COMMIT each round until the decision point. -/
  | chgAcceptRx (lane : Fin 4) (msg : Bytes)
  /-- CHG_REFUSE_RX (R282). The leader takes REFUSE and stops proposing. -/
  | chgRefuseRx (lane : Fin 4) (msg : Bytes)
  /-- CHG_COMMIT_RX (R282). The follower takes COMMIT as permission to switch at the decision point. -/
  | chgCommitRx (lane : Fin 4) (msg : Bytes)
  /-- CHG_CANCEL_RX (R282). The follower takes CANCEL; both standbys stay ARMED. -/
  | chgCancelRx (lane : Fin 4) (msg : Bytes)
  /-- CASTLE_OFFER_RX (R355). The follower answers OFFER with TAKE and arms its latch, or with CANCEL. -/
  | castleOfferRx (lane : Fin 4) (msg : Bytes)
  /-- CASTLE_TAKE_RX (R356). The leader takes TAKE and prepares the hand-off at round C. -/
  | castleTakeRx (lane : Fin 4) (msg : Bytes)
  /-- CASTLE_CANCEL_RX (R355). A CASTLE CANCEL ends the castling without change. -/
  | castleCancelRx (lane : Fin 4) (msg : Bytes)
  /-- CASTLE_DEADLINE (R355). A leader without TAKE by pip 0 of round C − 2 sends CANCEL. -/
  | castleDeadline
  /-- CASTLE_HAND_OFF (R356). The leader holds its line low through round C, releases it at C + 1 and becomes FOLLOWER. -/
  | castleHandOff
  /-- CASTLE_TAKE_LEAD (R356). The armed follower's latch enables its driver after 200 µs of low line, and it becomes LEADER at C + 1. -/
  | castleTakeLead
  /-- GRANT_MSG_RX (R346). The follower updates its copy of the grant table from a Dunly GRANT message. -/
  | grantMsgRx (lane : Fin 4) (msg : Bytes)
  /-- HOSTW_RX (R346). The follower takes a HOSTW plant write for its EFF_RSN. -/
  | hostwRx (lane : Fin 4) (msg : Bytes)
  /-- PLANT_WRITE_APPLY (R473). At pip 0 of EFF_RSN the host-written words enter the instance store and the retained mirror. -/
  | plantWriteApply
  /-- FIOL_RX (R345). A follower or joiner takes the leader's local input latch for an FIO_SAMPLE entry. -/
  | fiolRx (lane : Fin 4) (msg : Bytes)
  /-- RESET_REQ_RX (R396). A RESET_REQ asserts the partner request reset while STOOD_DOWN with the partner's line live, else it is discarded. -/
  | resetReqRx (lane : Fin 4) (msg : Bytes)
  /-- FWD_RX (R341). Forward records are taken as copies for landing, and SEQ gaps count FWD_LOST. -/
  | fwdRx (lane : Fin 4) (msg : Bytes)
  /-- JOINC_REQUEST_RX (R360). The leader answers a join request with WAIT, REFUSE or START. -/
  | joincRequestRx (lane : Fin 4) (msg : Bytes)
  /-- JOINC_WAIT_RX (R360). The joiner takes WAIT and waits for a further answer. -/
  | joincWaitRx (lane : Fin 4) (msg : Bytes)
  /-- JOINC_START_RX (R360). The joiner takes START and enters landing-only RUN at the next turn boundary. -/
  | joincStartRx (lane : Fin 4) (msg : Bytes)
  /-- JOINC_CLOSE_RX (R364). The joiner takes CLOSE for the closing round. -/
  | joincCloseRx (lane : Fin 4) (msg : Bytes)
  /-- JOINC_DONE_RX (R364). DONE ends the transfer, and the joiner becomes FOLLOWER at the following turn boundary. -/
  | joincDoneRx (lane : Fin 4) (msg : Bytes)
  /-- JOINC_ABORT_RX (R364). ABORT with reason 2 reports a closing overrun, and the passes continue. -/
  | joincAbortRx (lane : Fin 4) (msg : Bytes)
  /-- XFER_RX (R363). The joiner applies transferred units over the values it holds. -/
  | xferRx (lane : Fin 4) (msg : Bytes)
  /-- JOIN_CLOSING_TEST (R364). At the last round of a turn after pass 1, the leader tests whether the dirty bytes fit BUDGET and starts the closing round. -/
  | joinClosingTest
  /-- JOINER_TO_FOLLOWER (R364). At the turn boundary after DONE the joiner becomes FOLLOWER. -/
  | joinerToFollower
  /-- JOIN_TRANSFER_SILENCE (R365). A transfer with no XFER or JOINC message for 2 ms is abandoned and the joiner logs 0x0103. -/
  | joinTransferSilence
  /-- LEAD_PULSE (R350). A leading module drives its lead line low for 50 µs in every 100 µs. -/
  | leadPulse
  /-- PARTNER_LINE_DEAD_2MS (R352). The partner line dead for 2 ms (2.5 ms for B) enables the latch and lets a follower, mute or booting module take the lead. -/
  | partnerLineDead2ms
  /-- PARTNER_LINE_CHANGE (R351). The partner line changes between live and dead and ILK raises PARTNER_CHG. -/
  | partnerLineChange (live : Bool)
  /-- YIELD (R352). Partner B's latch turns off its driver when Partner A's line becomes live, and B leaves LEADER. -/
  | yield
  /-- READBACK (R354). A leader whose own line is not live for 300 µs releases it and leaves LEADER. -/
  | readback
  /-- STAND_DOWN_TAKE_EFFECT (R377). A pending stand-down cause takes effect at a round boundary at which the partner can carry control. -/
  | standDownTakeEffect
  /-- BLOCK_WEDGED (R383). A block meeting its wedge condition raises WEDGE, logs 0x0102 and writes one record. -/
  | blockWedged (page : BitVec 8)
  /-- TEMP_WARN (R388). The die temperature reaches TEMP_WARN. -/
  | tempWarn (temp : BitVec 16)
  /-- POWER_ON_RESET (R390). The power-on source asserts a Cold reset, and releases once VIN and presence qualify. -/
  | powerOnReset (on : Bool)
  /-- AON_BROWN_OUT (R390). A low AON rail or an ACLK not good asserts a Cold reset. -/
  | aonBrownOut (on : Bool)
  /-- CORE_BROWN_OUT (R390). A core or memory rail out of limits for 2 µs asserts a System reset. -/
  | coreBrownOut (on : Bool)
  /-- RESET_N_ASSERT (R395). RESET_N low for 10 µs while undriven asserts a System reset, and high for 10 µs releases it. -/
  | resetNAssert (on : Bool)
  /-- RESET_N_LONG (R395). RESET_N asserted for 2 s widens the episode to Cold. -/
  | resetNLong
  /-- CLOCK_FAILURE_RESET (R401). An essential domain's gating clock that stops being good after release asserts a System reset. -/
  | clockFailureReset (idx : Fin 20)
  /-- STEWARD_LOCKSTEP_FAULT (R483). A steward lockstep mismatch asserts a System reset and counts in STW_LS. -/
  | stewardLockstepFault
  /-- RST_SW (R396). A steward write with KEY 0xD1CE asserts a System or Warm reset. -/
  | rstSw (hap : Bool) (value : Word)
  /-- PRESENCE_LOST (R411). The presence pin open for 1 ms asserts a System reset until presence is stable for 100 ms. -/
  | presenceLost (pins : SlotPins)
  /-- DOMAIN_RELEASE (R394). The reset controller releases the next domain once sources, stretch, gap, clock and option loader allow. -/
  | domainRelease
  /-- DOMAIN_CLOCK_TIMEOUT (R398). A domain whose gating clock is not good within 10 ms is marked failed and the sequence continues. -/
  | domainClockTimeout
  /-- OPTION_LOADER_DONE (R404). The option loader finishes choosing copy 1, copy 2 or defaults, and raises OPT_DONE. -/
  | optionLoaderDone (err1 err2 : Bool)
  /-- OPERATING_TIME_SAVE (R402). Every 1,000 ms operating time is written to retention memory. -/
  | operatingTimeSave
  /-- VIN_LOW (R419). VIN falls below 19.2 V and RST raises VIN_LOW. -/
  | vinLow (vin : BitVec 16)
  /-- SYS_OPT_CMD_WRITE (R406). WRITE checks the staged option record and writes copy 2 then copy 1 with read-back. -/
  | sysOptCmdWrite
  /-- SYS_FUSE_CMD_BURN (R409). A burn command burns the staged fuse bits and LOCKED, then reads the block back. -/
  | sysFuseCmdBurn (value : Word) (ok : Bool)
  /-- ROM_BOOT (R416). At HOST release the ROM verifies boot extension copies against the root key hashes. -/
  | romBoot (err1 err2 : Bool)
  /-- FIRMWARE_BANK_VERIFY (R417). The boot extension picks and verifies a firmware bank, falling back to the other bank or to recovery. -/
  | firmwareBankVerify (errA errB : Bool)
  /-- SEC_KEY_STORE (R418). STORE writes a staged P-384 point into a board key slot, disabled. -/
  | secKeyStore (value : Word)
  /-- SEC_KEY_ENABLE (R418). ENABLE enables a stored board key slot. -/
  | secKeyEnable (value : Word)
  /-- SEC_KEY_DISABLE (R418). DISABLE disables a board key slot. -/
  | secKeyDisable (value : Word)
  /-- SEC_KEY_REVOKE (R418). REVOKE burns a slot's revoke fuse with the service key active. -/
  | secKeyRevoke (value : Word)
  /-- RST_OPTIME_LO_READ (R419). A read of RST_OPTIME_LO latches operating time [47:32] into RST_OPTIME_HI. -/
  | rstOptimeLoRead
  /-- RECORD_EVENT_ADMIT (R436). An event raised by a page is stamped and admitted to the ingest queue or dropped by priority. -/
  | recordEventAdmit
  /-- RECORD_WRITE (R430). The engine writes the next queued record, reads it back and programs its MARK. -/
  | recordWrite (res : ProgRes)
  /-- SEGMENT_ERASE_DONE (R434). A segment erase completes, or on failure the segment is removed from use and FLASH_FAIL written. -/
  | segmentEraseDone (ok : Bool)
  /-- SUPPRESS_TIMEOUT (R437). A drop count 60 s old triggers SUPPRESS records ahead of the queue. -/
  | suppressTimeout
  /-- RECORDER_START (R432). At HOST release the engine checks the write point, writes TORN if needed and then START. -/
  | recorderStart (indexOk : Bool)
  /-- INDEX_REBUILT (R432). The scan that rebuilds a failed index ends and INDEX_REBUILT is written. -/
  | indexRebuilt (ms : Word)
  /-- REC_SUB_CMD (R440). SUBMIT copies a steward submission block into the queue or refuses it. -/
  | recSubCmd (hap : Bool)
  /-- REC_RD_CMD_READ (R439). READ copies a batch of records from the cursor into the readout window. -/
  | recRdCmdRead (hap : Bool)
  /-- REC_READ_DONE (R439). A READ completes, updates the cursor and RD_STAT, and raises RD_DONE. -/
  | recReadDone
  /-- UPD_CMD_VERIFY (R448). VERIFY checks the staged firmware image. -/
  | updCmdVerify
  /-- UPD_CMD_STORE (R448). STORE checks the image and writes it to the spare bank and the inactive library halves. -/
  | updCmdStore
  /-- UPD_CMD_DISCARD (R449). DISCARD sets the spare bank to EMPTY. -/
  | updCmdDiscard
  /-- UPD_CMD_HANDOVER (R450). HANDOVER sets PENDING and re-verifies the spare bank. -/
  | updCmdHandover
  /-- UPD_CMD_CANCEL (R450). CANCEL returns a PENDING handover to IDLE. -/
  | updCmdCancel
  /-- UPD_CMD_DONE (R448). A VERIFY, STORE or re-verification completes and sets UPD_RESULT. -/
  | updCmdDone (flashOk : Bool)
  /-- HANDOVER_SWITCH_POINT (R451). At T the running steward begins serialising and HAP answers BUSY. -/
  | handoverSwitchPoint
  /-- UPD_HO_SERIALISED (R451). SERIALISED makes the engine load and start the new steward part. -/
  | updHoSerialised (hap : Bool) (report : Serialised)
  /-- UPD_HO_HANDED (R452). HANDED makes the running bank TRIAL, starts the trial timer and loads BRD_FMT. -/
  | updHoHanded (hap : Bool) (ms : BitVec 16) (len : Word) (writes : HandedWrites)
  /-- SER_LIMIT_EXPIRY (R451). Serialising past SER_LIMIT cancels the handover, and the running steward continues. -/
  | serLimitExpiry
  /-- START_LIMIT_EXPIRY (R451). Starting past START_LIMIT aborts the handover and restarts the former steward. -/
  | startLimitExpiry
  /-- LIBRARY_SWITCH (R452). At the round boundary after HANDED, LANE_LIB HALF changes and affected background jobs are invalidated. -/
  | librarySwitch
  /-- UPD_CONFIRM_OK (R456). RESULT 1 with KEY 0xC0F1 confirms the trial bank. -/
  | updConfirmOk (hap : Bool) (conf : Confirmation)
  /-- UPD_CONFIRM_FAIL (R456). RESULT 2 reports a failed self-check and fails the trial. -/
  | updConfirmFail (hap : Bool) (code : Byte)
  /-- CONF_LIMIT_EXPIRY (R456). No confirmation within CONF_LIMIT fails the trial and sets FALLBACK. -/
  | confLimitExpiry
  /-- FALLBACK_RETURN (R457). At the next turn boundary after a failed trial the state is handed back to the former steward. -/
  | fallbackReturn
  /-- HAP_READ (R472). READ returns register values or host window bytes. -/
  | hapRead (src : HapSrc) (msg : Bytes)
  /-- HAP_WRITE (R472). WRITE with SPACE 0 or 2 carries out register writes or host window writes. -/
  | hapWrite (src : HapSrc) (msg : Bytes)
  /-- HAP_PLANT_WRITE (R473). WRITE with SPACE 1 on the leader schedules a plant write at EFF_RSN = RSN + 4 and sends HOSTW. -/
  | hapPlantWrite (src : HapSrc) (msg : Bytes)
  /-- RING_PUSH (R475). RING_PUSH writes descriptors into a host-owned ring and advances RING_HEAD. -/
  | ringPush (src : HapSrc) (msg : Bytes)
  /-- RING_PULL (R475). RING_PULL returns ring indices, status and descriptors. -/
  | ringPull (src : HapSrc) (msg : Bytes)
  /-- BOARD_CHUNK (R476). A board segment is written into board staging within its transaction. -/
  | boardChunk (src : HapSrc) (msg : Bytes)
  /-- UPDATE_CHUNK (R476). An image segment is written into image staging within its transaction. -/
  | updateChunk (src : HapSrc) (msg : Bytes)
  /-- REC_READ (R478). REC_READ runs one recorder READ and returns the batch in segments. -/
  | recRead (src : HapSrc) (msg : Bytes)
  /-- RESET_ARM (R480). RESET_ARM arms a reset with its reach and key slot. -/
  | resetArm (src : HapSrc) (msg : Bytes)
  /-- RESET_FIRE (R480). A matching RESET_FIRE within 1 s is answered OK, else NOT_ARMED. -/
  | resetFire (src : HapSrc) (msg : Bytes)
  /-- HAP_RESET_ASSERT (R480). 5 ms after the RESET_FIRE response the HAP reset source asserts. -/
  | hapResetAssert
  /-- RESET_ARM_LAPSE (R396). An arm without RESET_FIRE lapses after 1 s. -/
  | resetArmLapse
  /-- HAP_BUSY_TIMEOUT (R469). A message the steward has not taken within 20 ms is answered BUSY. -/
  | hapBusyTimeout (src : HapSrc) (msg : Bytes)
  /-- REASSEMBLY_TIMEOUT (R476). A chunked transaction without a segment for 50 ms is discarded and answered INCOMPLETE. -/
  | reassemblyTimeout (key : BitVec 8) (xid : Word)
  /-- STAGING_CLAIM_TIMEOUT (R477). A staging claim ends after 60 s without a segment from its claimant. -/
  | stagingClaimTimeout (image : Bool)
  /-- HAP_KEY_STORE (R487). STORE writes the staged key into a slot, disabled, with counters set to 0. -/
  | hapKeyStore (value : Word) (hapKey : Option (BitVec 8))
  /-- HAP_KEY_ENABLE (R487). ENABLE enables a host key slot. -/
  | hapKeyEnable (value : Word) (hapKey : Option (BitVec 8))
  /-- HAP_KEY_DISABLE (R487). DISABLE disables a host key slot. -/
  | hapKeyDisable (value : Word) (hapKey : Option (BitVec 8))
  /-- HAP_KEY_ERASE (R487). ERASE removes the key of a host key slot. -/
  | hapKeyErase (value : Word) (hapKey : Option (BitVec 8))
  /-- HAP_CTR_LO_READ (R487). A read of HAP_CTR_LO latches the selected slot's counter [63:32] into HAP_CTR_HI. -/
  | hapCtrLoRead
  /-- STW_WDT_KICK (R483). The steward writes 0x0000_5A17 to restart the steward watchdog period. -/
  | stwWdtKick (hap : Bool) (value : Word)
  /-- STEWARD_WATCHDOG_EXPIRY (R483). WDT_MS without a kick asserts a System reset. -/
  | stewardWatchdogExpiry
  /-- HST_TS_POP (R486). A read of HST_TS_W2 removes the oldest PTP timestamp entry. -/
  | hstTsPop
  /-- CAN_CTRL_WRITE (R490). A mode change from OFF is accepted only with valid bit timing and after the internal loopback check. -/
  | canCtrlWrite (ch : Fin 2) (value : Word) (check : Bool)
  /-- CAN_FRAME_RX (R493). A correctly received frame is acknowledged, filtered and queued or discarded. -/
  | canFrameRx (ch : Fin 2) (hdr0 hdr1 : Word) (data : Bytes)
  /-- CAN_RX_POP (R494). POP removes the head entry of the selected queue. -/
  | canRxPop (ch : Fin 2)
  /-- CAN_TX_REQ (R495). REQ sets a transmit buffer PENDING. -/
  | canTxReq (ch : Fin 2) (req : CanReq)
  /-- CAN_TX_ABORT (R498). ABORT makes a buffer ABORTED at once, or at the end of its frame on the bus. -/
  | canTxAbort (ch : Fin 2) (bufs : BitVec 3)
  /-- CAN_FRAME_TX_END (R496). At the end of a transmitted frame the buffer becomes SENT, or is chosen again, fails or counts an ack error. -/
  | canFrameTxEnd (ch : Fin 2) (res : CanEnd)
  /-- CAN_CMD_RECOVER (R499). RECOVER in bus-off starts waiting for 128 × 11 recessive bits. -/
  | canCmdRecover (ch : Fin 2)
  /-- CAN_RECOVERY_DONE (R499). After the recessive bits TEC and REC are zeroed and the channel is error-active. -/
  | canRecoveryDone (ch : Fin 2)
  /-- CAN_DOMINANT_TIMEOUT (R489). TXD dominant for 4 ms releases the driver, and a second within an hour retires the channel. -/
  | canDominantTimeout (ch : Fin 2)
  /-- CAN_RECOVERY_DELAY (R501). After the configured recovery delay in bus-off the steward issues RECOVER. -/
  | canRecoveryDelay (ch : Fin 2)
  /-- FIO_INPUT_SAMPLE (R507). Every 1 ms each input is sampled for level and current, debounced and checked for wire break. -/
  | fioInputSample (levels breaks : BitVec 16)
  /-- FIO_TRIP (R512). An output at its current limit for 1 ms or thermally shut down trips off, counting a retry and latching at four. -/
  | fioTrip (chan : Fin 16)
  /-- FIO_RETRY (R512). 100 ms after a trip the channel retries with its present command. -/
  | fioRetry (chan : Fin 16)
  /-- FIO_RETRY_COUNT_RESET (R512). A channel on for 10 s without a trip has its retry count set to 0. -/
  | fioRetryCountReset (chan : Fin 16)
  /-- FIO_EXT_DRIVE (R513). Readback high for 2 ms while off latches a non-shared channel off. -/
  | fioExtDrive (chan : Fin 16)
  /-- FIO_REFRESH_TIMEOUT (R515). A channel unrefreshed for TIMEOUT_MS takes its safe state and logs 0x0103. -/
  | fioRefreshTimeout (mask : BitVec 16)
  /-- FIO_LPLUS_MEASURE (R516). Every 100 µs L+ is measured and its NORMAL, LOW or OFF state applied. -/
  | fioLplusMeasure (volt : BitVec 12)
  /-- FIO_LPLUS_RESTORED (R516). L+ at or above 18 V for 100 ms after OFF releases the forced-off outputs. -/
  | fioLplusRestored
  /-- FIO_CMD_CLEAR (R517). CLEAR with KEY 0xF10C releases the latch of the named channels. -/
  | fioCmdClear (value : Word) (trips : BitVec 16)
  /-- FIO_CFG_WRITE (R515). A write of a channel's configuration, refused for SAFE = ON without the fuse bit. -/
  | fioCfgWrite (value : Word)
  /-- LOOP_HEALTH_TIMEOUT (R519). No HEALTH_XCHG for 10 ms sets the loop to 3,600 µA. -/
  | loopHealthTimeout
  /-- LOOP_COMPL (R520). A terminal voltage too low for the set current starts a compliance episode. -/
  | loopCompl (meas : BitVec 15) (term : BitVec 16)
  /-- LOOP_COMPL_END (R520). The set current reached for 1 s ends the compliance episode. -/
  | loopComplEnd (meas : BitVec 15) (term : BitVec 16)
  /-- LOOP_TEST_WRITE (R521). A write sets 21,000 µA for the given duration, or 0 ends a running test. -/
  | loopTestWrite (value : Word)
  /-- LOOP_TEST_END (R521). A loop test duration expires and TEST_END is raised. -/
  | loopTestEnd
  /-- JTAG_EXTEST (R533). EXTEST drives the boundary scan while SEQ is in reset with the service key active. -/
  | jtagExtest (pins : Bytes)
  /-- JTAG_SAMPLE_PRELOAD (R533). SAMPLE/PRELOAD samples the boundary scan. -/
  | jtagSamplePreload (pins : Bytes)
  /-- JTAG_IDCODE (R533). IDCODE returns the 32-bit identity. -/
  | jtagIdcode
  /-- JTAG_REGREAD (R534). REGREAD returns a register's value without side effects, or 0 and a DBG log when disabled. -/
  | jtagRegread (addr : BitVec 20)
  /-- JTAG_BYPASS (R533). BYPASS selects the 1-bit bypass register. -/
  | jtagBypass (x : Bypass)
  /-- JTAG_ACT (R539). The test access port leaves Test-Logic-Reset and DBG raises JTAG_ACT. -/
  | jtagAct (leave : Bool)
  /-- DATA_OUT_RX (R304). A DATA_OUT or PEER frame sent by the partner arrives on a channel and is timestamped, checked and kept for its slot's outcome and SEQ. -/
  | dataOutRx (ch : Chan) (port : Fin 4) (ts : BitVec 64) (frame : Bytes)
  /-- STRAY_FRAME_RX (R304). A frame that starts outside every span of an open slot, or a received pause frame, is counted in MB_STRAY STRAY and discarded. -/
  | strayFrameRx (ch : Chan) (port : Fin 4) (ts : BitVec 64) (frame : Bytes)
  /-- DRAM_CORRECTED_ERROR (R230). A read or scrub finds a correctable DRAM word, corrects it and counts it against its page, and retirement starts when the count reaches CE_LIM. -/
  | dramCorrectedError (word : Corrected)
  /-- OPTION_WRITE_DONE (R406). The two-copy flash write of the option record completes, and SYS_OPT_RES shows the result with BUSY cleared. -/
  | optionWriteDone (ok : Bool)
  /-- HOST_LINK_CHANGE (R486). Host port H1 or H2 links up or down, HST_PORT LINK and DOWNS change and LINK_CHG is raised. -/
  | hostLinkChange (port : Fin 2) (link : BitVec 2)
  /-- SWITCH_FRAME_FORWARD (R462). The internal switch learns a source address and forwards or floods a non-PTP frame between H1, H2 and the steward. -/
  | switchFrameForward (port : Fin 3) (frame : Bytes)
  /-- ARP_ND_ICMP_RX (R463). An ARP, IPv6 neighbour discovery or ICMP echo request reaches the module and is answered, and other IP traffic is dropped. -/
  | arpNdIcmpRx (port : Fin 2) (frame : Bytes)
  /-- CAN_BUS_ERROR (R488). An error detected on the bus while receiving raises REC and sets LEC, which can move the channel to error-passive. -/
  | canBusError (ch : Fin 2) (lec : BitVec 4) (dominant : Bool)
  /-- JOINC_REFUSE_RX (R360). The joiner receives the leader's refusal for differing identities, stays JOINING, logs 0x0104 and writes one record per episode. -/
  | joincRefuseRx (lane : Fin 4) (msg : Bytes)
  /-- XTAL_RESTART (R37). The 32.768 kHz crystal starts again, XTAL_OK returns to 1 and the ACLK trim loop resumes. -/
  | xtalRestart
  /-- AUTH_SUMMARY (R484). Every 60 s the steward writes an AUTH_SUMMARY record of the authentication drops per key slot when the counts are not zero. -/
  | authSummary
  /-- PTP_STATE_CHANGE (R484). The steward's PTP slave changes between listening, slave and lost, for example when the master's messages stop, and writes a PTP_STATE record. -/
  | ptpStateChange (port : Fin 2) (st : PtpState) (clockId : BitVec 64)
  deriving DecidableEq, Repr

end Sys2Proof
end

