-- ==== Sys2Proof/Machine/Crypto.lean ====
section
/-! DEFINITION. The checks over bytes that the manual names: CRC-32C, the IEEE 802.3 CRC, CRC-64 (R347),
SHA-256 and SHA-384 (FIPS 180-4), HMAC-SHA-256, ECDSA P-384 verification (FIPS 186, curve P-384). The
manual names these algorithms and does not repeat them; they are taken from their standards
(assumption 9). -/

namespace Sys2Proof.Machine

/-! ### Cyclic checks -/

/-- One bit of a reflected 32-bit CRC with polynomial `p`. -/
def crcBit (p : BitVec 32) (c : BitVec 32) : BitVec 32 :=
  if c.getLsbD 0 then (c >>> 1) ^^^ p else c >>> 1

/-- One byte of a reflected 32-bit CRC. -/
def crcByte (p : BitVec 32) (c : BitVec 32) (b : Byte) : BitVec 32 :=
  let c := c ^^^ b.setWidth 32
  let c := crcBit p (crcBit p (crcBit p (crcBit p c)))
  crcBit p (crcBit p (crcBit p (crcBit p c)))

/-- CRC-32C of bytes: reflected, polynomial 0x1EDC6F41, initial value and final XOR all ones. -/
def crc32c (l : Bytes) : BitVec 32 := ~~~(l.foldl (crcByte 0x82F63B78) 0xFFFFFFFF)

/-- The IEEE 802.3 CRC of bytes: reflected, polynomial 0x04C11DB7, initial value and final XOR all ones;
it is sent least significant byte first. -/
def crcEth (l : Bytes) : BitVec 32 := ~~~(l.foldl (crcByte 0xEDB88320) 0xFFFFFFFF)

/-- One bit of the CRC-64 of R347. -/
def crc64Bit (c : BitVec 64) : BitVec 64 :=
  if c.getLsbD 63 then (c <<< 1) ^^^ 0x42F0E1EBA9EA3693 else c <<< 1

/-- One byte of the CRC-64 of R347. -/
def crc64Byte (c : BitVec 64) (b : Byte) : BitVec 64 :=
  let c := c ^^^ ((b.setWidth 64) <<< 56)
  let c := crc64Bit (crc64Bit (crc64Bit (crc64Bit c)))
  crc64Bit (crc64Bit (crc64Bit (crc64Bit c)))

/-- The CRC-64 of R347: initial value 0, no reflection, final XOR 0. -/
def crc64 (l : Bytes) : BitVec 64 := l.foldl crc64Byte 0

/-! ### SHA-2 -/

/-- The number that bytes spell, most significant byte first. -/
def natOfBytes (l : Bytes) : Nat := l.foldl (fun n b => n * 256 + b.toNat) 0

/-- The `n` bytes of a number, most significant byte first. -/
def bytesOfNat : Nat → Nat → Bytes
  | 0, _ => []
  | n + 1, v => bytesOfNat n (v / 256) ++ [BitVec.ofNat 8 v]

/-- A list cut into pieces of `k` elements, at most `fuel` of them. -/
def cut {α : Type} (k : Nat) : Nat → List α → List (List α)
  | 0, _ => []
  | f + 1, l => if l.isEmpty then [] else l.take k :: cut k f (l.drop k)

/-- The padding of SHA-2: a 1 bit, zeros, the length in bits, to a multiple of `blk` bytes. -/
def shaPad (blk lenBytes : Nat) (l : Bytes) : Bytes :=
  let n := l.length
  let z := (blk - (n + 1 + lenBytes) % blk) % blk
  l ++ [0x80] ++ List.replicate z 0 ++ bytesOfNat lenBytes (n * 8)

/-- The round constants of SHA-512, part 0. -/
def sha512K_0 : List (BitVec 64) :=
  [0x428A2F98D728AE22, 0x7137449123EF65CD, 0xB5C0FBCFEC4D3B2F,
  0xE9B5DBA58189DBBC, 0x3956C25BF348B538, 0x59F111F1B605D019,
  0x923F82A4AF194F9B, 0xAB1C5ED5DA6D8118, 0xD807AA98A3030242,
  0x12835B0145706FBE, 0x243185BE4EE4B28C, 0x550C7DC3D5FFB4E2,
  0x72BE5D74F27B896F, 0x80DEB1FE3B1696B1, 0x9BDC06A725C71235,
  0xC19BF174CF692694, 0xE49B69C19EF14AD2, 0xEFBE4786384F25E3,
  0x0FC19DC68B8CD5B5, 0x240CA1CC77AC9C65]

/-- The round constants of SHA-512, part 1. -/
def sha512K_1 : List (BitVec 64) :=
  [0x2DE92C6F592B0275, 0x4A7484AA6EA6E483, 0x5CB0A9DCBD41FBD4,
  0x76F988DA831153B5, 0x983E5152EE66DFAB, 0xA831C66D2DB43210,
  0xB00327C898FB213F, 0xBF597FC7BEEF0EE4, 0xC6E00BF33DA88FC2,
  0xD5A79147930AA725, 0x06CA6351E003826F, 0x142929670A0E6E70,
  0x27B70A8546D22FFC, 0x2E1B21385C26C926, 0x4D2C6DFC5AC42AED,
  0x53380D139D95B3DF, 0x650A73548BAF63DE, 0x766A0ABB3C77B2A8,
  0x81C2C92E47EDAEE6, 0x92722C851482353B]

/-- The round constants of SHA-512, part 2. -/
def sha512K_2 : List (BitVec 64) :=
  [0xA2BFE8A14CF10364, 0xA81A664BBC423001, 0xC24B8B70D0F89791,
  0xC76C51A30654BE30, 0xD192E819D6EF5218, 0xD69906245565A910,
  0xF40E35855771202A, 0x106AA07032BBD1B8, 0x19A4C116B8D2D0C8,
  0x1E376C085141AB53, 0x2748774CDF8EEB99, 0x34B0BCB5E19B48A8,
  0x391C0CB3C5C95A63, 0x4ED8AA4AE3418ACB, 0x5B9CCA4F7763E373,
  0x682E6FF3D6B2B8A3, 0x748F82EE5DEFB2FC, 0x78A5636F43172F60,
  0x84C87814A1F0AB72, 0x8CC702081A6439EC]

/-- The round constants of SHA-512, part 3. -/
def sha512K_3 : List (BitVec 64) :=
  [0x90BEFFFA23631E28, 0xA4506CEBDE82BDE9, 0xBEF9A3F7B2C67915,
  0xC67178F2E372532B, 0xCA273ECEEA26619C, 0xD186B8C721C0C207,
  0xEADA7DD6CDE0EB1E, 0xF57D4F7FEE6ED178, 0x06F067AA72176FBA,
  0x0A637DC5A2C898A6, 0x113F9804BEF90DAE, 0x1B710B35131C471B,
  0x28DB77F523047D84, 0x32CAAB7B40C72493, 0x3C9EBE0A15C9BEBC,
  0x431D67C49C100D4C, 0x4CC5D4BECB3E42B6, 0x597F299CFC657E2A,
  0x5FCB6FAB3AD6FAEC, 0x6C44198C4A475817]

/-- The round constants of SHA-512. -/
def sha512K : List (BitVec 64) := sha512K_0 ++ sha512K_1 ++ sha512K_2 ++ sha512K_3

/-- The round constants of SHA-256, part 0. -/
def sha256K_0 : List (BitVec 32) :=
  [0x428A2F98, 0x71374491, 0xB5C0FBCF, 0xE9B5DBA5, 0x3956C25B, 0x59F111F1,
  0x923F82A4, 0xAB1C5ED5, 0xD807AA98, 0x12835B01, 0x243185BE, 0x550C7DC3,
  0x72BE5D74, 0x80DEB1FE, 0x9BDC06A7, 0xC19BF174, 0xE49B69C1, 0xEFBE4786,
  0x0FC19DC6, 0x240CA1CC, 0x2DE92C6F, 0x4A7484AA, 0x5CB0A9DC, 0x76F988DA,
  0x983E5152, 0xA831C66D, 0xB00327C8, 0xBF597FC7, 0xC6E00BF3, 0xD5A79147,
  0x06CA6351, 0x14292967]

/-- The round constants of SHA-256, part 1. -/
def sha256K_1 : List (BitVec 32) :=
  [0x27B70A85, 0x2E1B2138, 0x4D2C6DFC, 0x53380D13, 0x650A7354, 0x766A0ABB,
  0x81C2C92E, 0x92722C85, 0xA2BFE8A1, 0xA81A664B, 0xC24B8B70, 0xC76C51A3,
  0xD192E819, 0xD6990624, 0xF40E3585, 0x106AA070, 0x19A4C116, 0x1E376C08,
  0x2748774C, 0x34B0BCB5, 0x391C0CB3, 0x4ED8AA4A, 0x5B9CCA4F, 0x682E6FF3,
  0x748F82EE, 0x78A5636F, 0x84C87814, 0x8CC70208, 0x90BEFFFA, 0xA4506CEB,
  0xBEF9A3F7, 0xC67178F2]

/-- The round constants of SHA-256. -/
def sha256K : List (BitVec 32) := sha256K_0 ++ sha256K_1

/-- The working variables of SHA-512. -/
structure Sha512 where
  a : BitVec 64
  b : BitVec 64
  c : BitVec 64
  d : BitVec 64
  e : BitVec 64
  f : BitVec 64
  g : BitVec 64
  h : BitVec 64
  deriving DecidableEq, Repr

/-- The message schedule of SHA-512: `w` holds the last 16 words, oldest first. -/
def sha512Next (w : List (BitVec 64)) : BitVec 64 :=
  let x := w.getD 1 0
  let y := w.getD 14 0
  let s0 := x.rotateRight 1 ^^^ x.rotateRight 8 ^^^ (x >>> 7)
  let s1 := y.rotateRight 19 ^^^ y.rotateRight 61 ^^^ (y >>> 6)
  s1 + w.getD 9 0 + s0 + w.getD 0 0

/-- The rounds of SHA-512 over the constants left. -/
def sha512Rounds : List (BitVec 64) → List (BitVec 64) → Sha512 → Sha512
  | [], _, v => v
  | k :: ks, w, v =>
    let s1 := v.e.rotateRight 14 ^^^ v.e.rotateRight 18 ^^^ v.e.rotateRight 41
    let ch := (v.e &&& v.f) ^^^ (~~~v.e &&& v.g)
    let t1 := v.h + s1 + ch + k + w.getD 0 0
    let s0 := v.a.rotateRight 28 ^^^ v.a.rotateRight 34 ^^^ v.a.rotateRight 39
    let mj := (v.a &&& v.b) ^^^ (v.a &&& v.c) ^^^ (v.b &&& v.c)
    sha512Rounds ks (w.drop 1 ++ [sha512Next w]) ⟨t1 + s0 + mj, v.a, v.b, v.c, v.d + t1, v.e, v.f, v.g⟩

/-- One block of SHA-512. -/
def sha512Block (v : Sha512) (blk : Bytes) : Sha512 :=
  let w := (cut 8 16 blk).map (fun b => BitVec.ofNat 64 (natOfBytes b))
  let r := sha512Rounds sha512K w v
  ⟨v.a + r.a, v.b + r.b, v.c + r.c, v.d + r.d, v.e + r.e, v.f + r.f, v.g + r.g, v.h + r.h⟩

/-- The working variables of SHA-256. -/
structure Sha256 where
  a : BitVec 32
  b : BitVec 32
  c : BitVec 32
  d : BitVec 32
  e : BitVec 32
  f : BitVec 32
  g : BitVec 32
  h : BitVec 32
  deriving DecidableEq, Repr

/-- The message schedule of SHA-256: `w` holds the last 16 words, oldest first. -/
def sha256Next (w : List (BitVec 32)) : BitVec 32 :=
  let x := w.getD 1 0
  let y := w.getD 14 0
  let s0 := x.rotateRight 7 ^^^ x.rotateRight 18 ^^^ (x >>> 3)
  let s1 := y.rotateRight 17 ^^^ y.rotateRight 19 ^^^ (y >>> 10)
  s1 + w.getD 9 0 + s0 + w.getD 0 0

/-- The rounds of SHA-256 over the constants left. -/
def sha256Rounds : List (BitVec 32) → List (BitVec 32) → Sha256 → Sha256
  | [], _, v => v
  | k :: ks, w, v =>
    let s1 := v.e.rotateRight 6 ^^^ v.e.rotateRight 11 ^^^ v.e.rotateRight 25
    let ch := (v.e &&& v.f) ^^^ (~~~v.e &&& v.g)
    let t1 := v.h + s1 + ch + k + w.getD 0 0
    let s0 := v.a.rotateRight 2 ^^^ v.a.rotateRight 13 ^^^ v.a.rotateRight 22
    let mj := (v.a &&& v.b) ^^^ (v.a &&& v.c) ^^^ (v.b &&& v.c)
    sha256Rounds ks (w.drop 1 ++ [sha256Next w]) ⟨t1 + s0 + mj, v.a, v.b, v.c, v.d + t1, v.e, v.f, v.g⟩

/-- One block of SHA-256. -/
def sha256Block (v : Sha256) (blk : Bytes) : Sha256 :=
  let w := (cut 4 16 blk).map (fun b => BitVec.ofNat 32 (natOfBytes b))
  let r := sha256Rounds sha256K w v
  ⟨v.a + r.a, v.b + r.b, v.c + r.c, v.d + r.d, v.e + r.e, v.f + r.f, v.g + r.g, v.h + r.h⟩

/-- SHA-384 of bytes, 48 bytes. -/
def sha384 (l : Bytes) : Bytes :=
  let p := shaPad 128 16 l
  let v := (cut 128 (p.length / 128) p).foldl sha512Block
    ⟨0xCBBB9D5DC1059ED8, 0x629A292A367CD507, 0x9159015A3070DD17, 0x152FECD8F70E5939,
     0x67332667FFC00B31, 0x8EB44A8768581511, 0xDB0C2E0D64F98FA7, 0x47B5481DBEFA4FA4⟩
  [v.a, v.b, v.c, v.d, v.e, v.f].flatMap (fun x => bytesOfNat 8 x.toNat)

/-- SHA-256 of bytes, 32 bytes. -/
def sha256 (l : Bytes) : Bytes :=
  let p := shaPad 64 8 l
  let v := (cut 64 (p.length / 64) p).foldl sha256Block
    ⟨0x6A09E667, 0xBB67AE85, 0x3C6EF372, 0xA54FF53A,
     0x510E527F, 0x9B05688C, 0x1F83D9AB, 0x5BE0CD19⟩
  [v.a, v.b, v.c, v.d, v.e, v.f, v.g, v.h].flatMap (fun x => bytesOfNat 4 x.toNat)

/-- HMAC-SHA-256 of a message under a key of at most 64 bytes. -/
def hmacSha256 (key msg : Bytes) : Bytes :=
  let k := key ++ List.replicate (64 - key.length) 0
  sha256 (k.map (fun b => b ^^^ 0x5C) ++ sha256 (k.map (fun b => b ^^^ 0x36) ++ msg))

/-! ### ECDSA over P-384 -/

/-- The prime of P-384. -/
def p384P : Nat := 2 ^ 384 - 2 ^ 128 - 2 ^ 96 + 2 ^ 32 - 1
/-- The coefficient b of P-384. -/
def p384B : Nat := 0xB3312FA7E23EE7E4988E056BE3F82D19181D9C6EFE8141120314088F5013875AC656398D8A2ED19D2A85C8EDD3EC2AEF
/-- The order of P-384. -/
def p384N : Nat := 0xFFFFFFFFFFFFFFFFFFFFFFFFFFFFFFFFFFFFFFFFFFFFFFFFC7634D81F4372DDF581A0DB248B0A77AECEC196ACCC52973
/-- The base point of P-384. -/
def p384G : Nat × Nat :=
  (0xAA87CA22BE8B05378EB1C71EF320AD746E1D3B628BA79B9859F741E082542A385502F25DBF55296C3A545E3872760AB7,
   0x3617DE4A96262C6F5D9E98BF9292DC29F8F41DBD289A147CE9DA3113B5F0B8C00A60B1CE1D7E819D7A431D7C90EA0E5F)

/-- `a ^ e` modulo `m`, over the low `k` bits of `e`. -/
def powMod (m : Nat) : Nat → Nat → Nat → Nat
  | 0, _, _ => 1
  | k + 1, a, e =>
    let r := powMod m k (a * a % m) (e / 2)
    if e % 2 = 1 then a * r % m else r

/-- The inverse of `a` modulo the prime `m` of 384 bits. -/
def invMod (m a : Nat) : Nat := powMod m 384 a (m - 2)

/-- A point in Jacobian coordinates; z = 0 is the point at infinity. -/
structure JacPt where
  x : Nat
  y : Nat
  z : Nat
  deriving DecidableEq, Repr

/-- `a - b` modulo the prime of P-384. -/
def pSub (a b : Nat) : Nat := (a + p384P - b % p384P) % p384P

/-- Twice a point of P-384 (a = -3). -/
def jacDouble (q : JacPt) : JacPt :=
  let zz := q.z * q.z % p384P
  let m := 3 * pSub q.x zz * (q.x + zz) % p384P
  let yy := q.y * q.y % p384P
  let s := 4 * q.x * yy % p384P
  let x := pSub (m * m % p384P) (2 * s)
  ⟨x, pSub (m * pSub s x % p384P) (8 * yy * yy % p384P), 2 * q.y * q.z % p384P⟩

/-- The sum of two points of P-384. -/
def jacAdd (q r : JacPt) : JacPt :=
  if q.z = 0 then r
  else if r.z = 0 then q
  else
    let zq := q.z * q.z % p384P
    let zr := r.z * r.z % p384P
    let u1 := q.x * zr % p384P
    let u2 := r.x * zq % p384P
    let s1 := q.y * zr % p384P * r.z % p384P
    let s2 := r.y * zq % p384P * q.z % p384P
    if u1 = u2 then (if s1 = s2 then jacDouble q else ⟨1, 1, 0⟩)
    else
      let h := pSub u2 u1
      let t := pSub s2 s1
      let hh := h * h % p384P
      let hhh := h * hh % p384P
      let v := u1 * hh % p384P
      let x := pSub (t * t % p384P) (hhh + 2 * v)
      ⟨x, pSub (t * pSub v x % p384P) (s1 * hhh % p384P), q.z * r.z % p384P * h % p384P⟩

/-- `k` times a point, over the low `n` bits of `k`. -/
def jacMul : Nat → Nat → JacPt → JacPt
  | 0, _, _ => ⟨1, 1, 0⟩
  | n + 1, k, q =>
    let r := jacMul n (k / 2) (jacDouble q)
    if k % 2 = 1 then jacAdd q r else r

/-- A pair of coordinates is a point of the curve. -/
def onCurve (x y : Nat) : Bool :=
  decide (x < p384P) && decide (y < p384P)
    && decide (y * y % p384P = (x * x % p384P * x + (p384P - 3) * x + p384B) % p384P)

/-- A 96-byte public key, X then Y, is a point of the curve. -/
def keyOnCurve (key : Bytes) : Bool :=
  key.length == 96 && onCurve (natOfBytes (key.take 48)) (natOfBytes (key.drop 48))

/-- ECDSA P-384 verification of a 96-byte signature, r then s, over a 48-byte digest. -/
def ecdsaVerify (key digest sig : Bytes) : Bool :=
  let r := natOfBytes (sig.take 48)
  let s := natOfBytes ((sig.drop 48).take 48)
  if sig.length = 96 ∧ keyOnCurve key ∧ 0 < r ∧ r < p384N ∧ 0 < s ∧ s < p384N then
    let w := invMod p384N s
    let u1 := natOfBytes digest * w % p384N
    let u2 := r * w % p384N
    let q := jacAdd (jacMul 384 u1 ⟨p384G.1, p384G.2, 1⟩)
      (jacMul 384 u2 ⟨natOfBytes (key.take 48), natOfBytes (key.drop 48), 1⟩)
    if q.z = 0 then false
    else
      let zi := invMod p384P q.z
      decide (q.x * (zi * zi % p384P) % p384P % p384N = r)
  else false

end Sys2Proof.Machine
end

