-- ==== Sys2Proof/Config.lean ====
section
/-! DEFINITION. What an implementation fixes and what the manual leaves open. Each free value is an
opaque constant applied to the counter State.free: nothing is known of it. -/

namespace Sys2Proof.Config

/-- Words 36 to 63 of a save area after a preempted window: "internal lane state; contents not
specified" (R170). The first argument is the counter of free values, the second the word. -/
opaque saveWord : Nat → Nat → Word

/-- The receive error counter after a good frame received with a count above 127: ISO 11898-1 asks for a
value from 119 to 127 (R488, R499 refer to it). -/
opaque canRec : Nat → Word

/-- Whether a frame of another node is on the chassis bus when a plain register write requests a buffer (R496): the write
does not say it. The argument is the counter of free values. -/
opaque canBusy : Nat → Bool

/-- What the power loss finds of the bank choice record that is being written at that instant: 0 both copies whole, 1
copy 2 cut short, 2 copy 1 cut short (R445). The argument is the counter of free values. -/
opaque choiceCut : Nat → Fin 3

/-- Whether a write of the bank choice record succeeds, where the command does not say it (R445, R461). The argument is
the counter of free values. -/
opaque choiceWritten : Nat → Bool

/-- The group, 0 to 7, of a setting (R459): no rule gives it. The argument is the key of a register, or 2^40 and up for
the PTP domain, the notify targets and the recovery delay of the CAN channels. -/
opaque settingGroup : Nat → Fin 8

/-- TIM_EXT_OFS after a Sync whose offset 32 bits cannot hold (R59): no rule gives it. The argument is the counter of
free values. -/
opaque extOfs : Nat → Word

/-- Where the unreadable word of 0x011C lies (R109): the command does not say it. The first argument is the counter of
free values, the second 0 for the place of the section in the directory, 1 for the record in the section. -/
opaque flashReadAt : Nat → Nat → Nat

/-- [15:0] of the detail of a missing item for which R109 names no gap: a RERUN, cover, guardian or sync node record.
The arguments are the section type and the index of the entry or record that asks for the item. -/
opaque gapName : Nat → Nat → BitVec 16

/-- BRD_RESULT CODE of a command whose check passed but whose flash write failed: no rule gives it. -/
opaque boardWriteCode : Nat → BitVec 16

/-- Time to live, hop limit and identification bytes of an answer to ICMP echo (R463): no rule gives them. The
first argument is the counter of free values, the second 0 for the time to live or hop limit, 1 and 2 for the
bytes of the identification. -/
opaque echoByte : Nat → Nat → Byte

/-- The length of the forward block that a steward reports with UPD_HO_CMD HANDED when a plain register write brings it
(R452, R484): the write does not carry it. The argument is the counter of free values. -/
opaque hoReport : Nat → Word

/-- What a library routine leaves in the registers that R270 lets it change and for which R271 names no result, and in
the bits of g10 that no result fills. The first argument is the counter of free values, the second the register. -/
opaque libReg : Nat → Nat → Word

/-- The detail of the trap I that a call of an unassigned library number takes, less 1 (R269): its first instruction is
illegal, in a way that no rule names. -/
opaque libTrap : Nat → Fin 3

/-- Where in background memory the steward keeps the level-1 table of translation context `k` (R474): no rule gives the
place. -/
opaque hostTable : Nat → Nat

end Sys2Proof.Config
end

