-- ==== Sys2Proof/Machine/BoardTypes.lean ====
section
/-! DEFINITION. What a board holds once it is read (03_boards.md): the header, the records of each
section, the 16-byte track entries. The track entries keep their four words; their fields are read
by the accessors of Machine/Board.lean. -/

namespace Sys2Proof.Machine

/-- A track entry, the four words W0 to W3 of R72. -/
structure Entry where
  w0 : Word
  w1 : Word
  w2 : Word
  w3 : Word
  deriving DecidableEq, Repr

/-- The board header (R65). -/
structure BoardHeader where
  magic      : Nat
  fmtVer     : Nat
  hdrLen     : Nat
  boardLen   : Nat
  sigOfs     : Nat
  serial     : Word
  pairDomain : Nat
  laneCount  : Nat
  taskCount  : Nat
  syncCount  : Nat
  turnExp    : Nat
  flags      : Nat
  sectCount  : Nat
  instLen    : Nat
  retLen     : Nat
  keyId      : Nat
  buildTime  : BitVec 64
  prevDigest : Bytes
  deriving DecidableEq, Repr

/-- A section directory entry (R68). -/
structure DirEntry where
  type   : Nat
  recSz  : Nat
  offset : Nat
  count  : Nat
  rsv    : Nat
  deriving DecidableEq, Repr

/-- A task record (R70). -/
structure TaskRec where
  id        : Nat
  perExp    : Nat
  flags     : Nat
  phase     : Nat
  inBase    : Nat
  inLen     : Nat
  outBase   : Nat
  outLen    : Nat
  stageBase : Nat
  deriving DecidableEq, Repr

/-- A slot record (R89). -/
structure SlotRec where
  slot    : Nat
  len     : Nat
  node    : Nat
  skind   : Nat
  task    : Nat
  port    : Nat
  payload : Nat
  dest    : Nat
  deriving DecidableEq, Repr

/-- A guardian record (R93). -/
structure GuardRec where
  start : Nat
  len   : Nat
  slot  : Nat
  owner : Nat
  port  : Nat
  rexp  : Nat
  phase : Nat
  deriving DecidableEq, Repr

/-- An I/O map record (R95); slot 0xFFFF is the local field block. -/
structure IomapRec where
  slot    : Nat
  pofs    : Nat
  words   : Nat
  imemOfs : Nat
  deriving DecidableEq, Repr

/-- A quality rule (R98). -/
structure QualRec where
  ofs    : Nat
  words  : Nat
  event  : Nat
  qual   : Nat
  action : Nat
  subst  : Word
  deriving DecidableEq, Repr

/-- A transfer record (R99); the addresses are 40-bit physical addresses. -/
structure XferRec where
  src : Nat
  dst : Nat
  len : Nat
  deriving DecidableEq, Repr

/-- A sync node record (R94); the path delays are in ns. -/
structure SyncRec where
  node  : Nat
  slot  : Nat
  csidx : Nat
  dlyA0 : Nat
  dlyB0 : Nat
  dlyA1 : Nat
  dlyB1 : Nat
  deriving DecidableEq, Repr

/-- A CODE or INIT load record (R100). -/
structure LoadRec where
  dest  : Nat
  lanes : Nat
  data  : Bytes
  deriving DecidableEq, Repr

/-- A migration record (R101). -/
structure MigrRec where
  newOfs : Nat
  oldOfs : Nat
  len    : Nat
  action : Nat
  conv   : Nat
  deriving DecidableEq, Repr

/-- A board read into its tables (R64 to R101). `identity` is the SHA-384 digest of R66. -/
structure Tables where
  identity : Bytes
  hdr      : BoardHeader
  tasks    : List TaskRec
  trackN   : List Entry
  trackL   : List Entry
  trackM   : List Entry
  trackF   : List Entry
  slots    : List SlotRec
  guards   : List GuardRec
  iomap    : List IomapRec
  quals    : List QualRec
  xfers    : List XferRec
  syncs    : List SyncRec
  code     : List LoadRec
  init     : List LoadRec
  migr     : List MigrRec
  deriving DecidableEq, Repr

/-- BRD_STATE ACTIVE (R110). -/
inductive ActiveState where
  | none | loaded | running
  deriving DecidableEq, Repr

/-- BRD_STATE STANDBY (R110). -/
inductive StandbyState where
  | empty | stored | armed
  deriving DecidableEq, Repr

/-- The commands of BRD_CMD (R105, R110). -/
inductive BrdOp where
  | verify | store | arm | disarm | discard | activate
  deriving DecidableEq, Repr

/-- The board store and the loader: the two flash areas, their states, the on-die tables of the
active and the standby board, the command that runs (R103 to R110, R542). -/
structure Boards where
  activeArea  : Bytes            -- board bytes of the active area; empty: no board
  standbyArea : Bytes
  active      : ActiveState
  standby     : StandbyState
  act         : Option Tables    -- the active on-die tables
  stb         : Option Tables    -- the standby on-die tables (ARMED)
  running     : Option BrdOp     -- PG_STATUS BUSY
  writing     : Bytes            -- the checked board that STORE writes; empty: no flash write has begun (R105)
  busyAt      : Nat              -- ns of operating time at which the running command was accepted (R383)
  loadDue     : Bool             -- the load that follows a reset has not been made (R104)
  rolesDirty  : Bool             -- the exchanged area roles are not yet in flash (R106)
  deriving DecidableEq, Repr

end Sys2Proof.Machine
end

