-- ==== Sys2Proof/Machine/CoreTypes.lean ====
section
/-! DEFINITION. The state of the time base, the sequencer, the lanes, the gambit unit, the movers
and the recorder's events, as plain data (chapters 02 and 04 to 09 of spec/). What the manual gives
as a register stands in the register file (Machine/State.lean) and not here. -/

namespace Sys2Proof.Machine


/-- The time base states (R52). -/
inductive TbState where
  | unsync | integrating | synced | holdover
  deriving DecidableEq, Repr

/-- The module states (R22, R330). -/
inductive ModState where
  | boot | joining | follower | leader | mute | stoodDown | bench
  deriving DecidableEq, Repr

/-- The lane states (R23, R193). -/
inductive LaneState where
  | idle | running | barred | borneOff | bench
  deriving DecidableEq, Repr

/-- LANE_STATE ACT (R174). -/
inductive LaneAct where
  | none | ply | job | busy
  deriving DecidableEq, Repr

/-- The last save or restore of a lane (R135, R170, R213), in ns of operating time: LANE_STATE ACT is 3 from its beginning
to its end. -/
structure BusyRun where
  save  : Bool        -- the save of a job, else a restore
  since : Nat
  till  : Nat
  deriving DecidableEq, Repr

/-- The sequencer states (R111). -/
inductive SeqState where
  | off | wait | run | fault
  deriving DecidableEq, Repr

/-- One copy of a sync node's frame in the present round: its deviation in ns (R45), whether it is
used (R46), and the pair epoch its header gives (R42). -/
structure SyncCopy where
  used  : Bool
  dev   : Int
  epoch : BitVec 64
  deriving DecidableEq, Repr

/-- The copies of the frame of sync node `j` in the present round, one a channel (R47). -/
structure SyncMeas where
  j : Nat
  a : Option SyncCopy
  b : Option SyncCopy
  deriving DecidableEq, Repr

/-- After a step the sequencer waits for a round boundary (R54): `last` is the RSN it must be later
than, absent when any boundary will do. -/
structure StepHold where
  last : Option Word
  held : Nat
  deriving DecidableEq, Repr

/-- The time base (R38 to R55, R544 to R546). -/
structure TimeBase where
  gt         : BitVec 96       -- global time: 64 bits of ns, 32 fractional bits (R38)
  trim       : BitVec 32       -- rate trim, signed (R38)
  slewTotal  : Int             -- units of 2^-32 ns that the running slew applies in all (R546)
  slewCycle  : Nat             -- BCLK cycles of the running slew that have passed
  slewMoved  : Bool            -- an online change has moved the correction pip since the last correction (R50)
  slewRest   : Int             -- what the first slew under the new board still has to add (R50)
  state      : TbState
  epoch      : BitVec 64       -- pair epoch (R42)
  epochSet   : Bool            -- an epoch has been taken or set since reset
  roundStart : BitVec 64       -- global time of the boundary at which the present round began
  begun      : Bool            -- a round has begun since reset
  meas       : List SyncMeas   -- values of the round (R45 to R47)
  search     : List SyncMeas   -- values of the search of the round (R53)
  kept       : List SyncMeas   -- the search values of the round that has just ended (R315)
  good       : Nat             -- consecutive rounds counted towards INTEG_ROUNDS (R52)
  noCorr     : Nat             -- consecutive rounds without correction (R52)
  inState    : Nat             -- ROUNDS_IN_STATE, stops at 0xFFFF
  nValid     : Nat             -- n of the last correction pip
  kSel       : Nat             -- k of the last correction pip
  extFresh   : Bool            -- TIM_EXT_OFS holds a value not yet consumed (R63)
  extNew     : Bool            -- TIM_EXT_OFS has been written since the last correction pip (R60)
  stepPend   : Option (BitVec 64)   -- global time that TIM_STEP_CMD loads at the next round boundary (R545)
  hold       : Option StepHold
  corrected  : Bool            -- the correction pip of the present round has passed
  deriving DecidableEq, Repr

/-- The walkers of the four tracks (R114): the RSN of the round they have walked and the entries in
each issue buffer, by index. -/
structure Walk where
  rsn   : Word
  n     : List Nat
  l     : List Nat
  m     : List Nat
  f     : List Nat
  opens : List Nat            -- TASK_START entries whose gambit context is still to open (R202), by TRACK_F index
  deriving DecidableEq, Repr

/-- What the per-round record of the BSQ page lists (end of 04_sequencer.md): by lane, track or mover, how often. -/
structure RoundLog where
  late : List (Nat × Nat)        -- lanes
  drop : List (Nat × Nat)        -- lanes
  slip : List (Nat × Nat)        -- tracks
  ovr  : List (Nat × Nat)        -- movers
  deriving DecidableEq, Repr

/-- The sequencer (R111 to R141). -/
structure Seqr where
  state    : SeqState
  stopPend : Bool
  applied  : BitVec 16      -- applied lane-state mask (R129)
  pending  : BitVec 16      -- pending lane-state mask
  rerun    : BitVec 16      -- RERUN selections (R127)
  walk     : Option Walk
  walkNext : Option Walk    -- what the walkers have placed for the round that follows (R114)
  log      : RoundLog
  comAt    : BitVec 96            -- global time of the BCLK edge at which a ply last committed (R150)
  comWords : List (Nat × Nat)     -- IMEM words committed at that edge, by byte offset, with the highest lane
  fDone    : Option (BitVec 96)   -- global time of the BCLK edge at which an F entry was last carried out (R115)
  kick     : Nat            -- ns of operating time at the last kick of the watchdog (R140)
  cmdAt    : BitVec 64      -- global time at which the last START or STOP was accepted (R112, R113)
  pendAt   : BitVec 64      -- global time of the last change of the pending mask (R129)
  pendOld  : BitVec 16      -- the pending mask before the changes at that time
  switched : Option Word    -- RSN of the round at which an online change last switched the boards (R78, R138)
  deriving DecidableEq, Repr

/-- The architectural registers of one copy of a lane (R143). -/
structure Core where
  g  : Vector Word 32
  pc : Word
  qa : BitVec 8
  tc : Word
  deriving DecidableEq, Repr

/-- How far a ply has come: executing, READY sent, trapped, halted, or its TRAP seen in time (R119, R166, R182). -/
inductive PlyPhase where
  | running | ready | trapped | halted | seen
  deriving DecidableEq, Repr

/-- A ply in flight on a lane: the TRACK_L index, the entry, the RSN of its round. -/
structure Ply where
  idx   : Nat
  entry : Entry
  rsn   : Word
  phase : PlyPhase
  deriving DecidableEq, Repr

/-- One line of a lane's shadow buffer: the original 64 bytes and the words that were poisoned (R207). -/
structure ShadowLine where
  addr   : Nat
  bytes  : Bytes
  poison : List Nat
  deriving DecidableEq, Repr

/-- The write log of a ply (R149): the lines it uses, the bytes of its DTCM lines by lane address,
the values and the quality codes of its IMEM words by IMEM byte offset. -/
structure WriteLog where
  lines : List Nat
  dtcm  : List (Nat × Byte)
  words : List Nat               -- DTCM words that the ply stored whole, by lane address
  imem  : List (Nat × Word)
  qual  : List (Nat × BitVec 4)
  deriving DecidableEq, Repr

/-- A trace record of R200. -/
structure TraceRec where
  entry   : Nat
  outcome : Nat
  kind    : Nat
  rsn     : Word
  cyc     : Nat
  qa      : BitVec 8
  lines   : Nat
  deriving DecidableEq, Repr

/-- A debug request that waits for the next round boundary (R193, R198). -/
inductive BenchReq where
  | none | claim | release
  deriving DecidableEq, Repr

/-- The steps of the bar sequence or the power-on test of a lane (R184, R192). -/
inductive TestPhase where
  | none | awaiting | lbist | roll | powerOn
  deriving DecidableEq, Repr

/-- One lane: both copies of the core, its work, its write log, its gambit state, its trace (R142 to
R215). -/
structure Lane where
  state     : LaneState
  act       : LaneAct
  main      : Core
  shadow    : Core
  lastPc    : Word                -- address of the instruction that led to the PC (R165)
  ply       : Option Ply
  start     : BitVec 64           -- scheduled start that TIME returns (R144)
  window    : BitVec 64           -- end of the idle window of the job that runs (R135)
  busy      : Option BusyRun      -- the save or restore that ACT 3 shows (R174)
  ready     : Nat                 -- ns of operating time from which the ply in flight executes (R214)
  cyc       : Nat                 -- LCLK cycles since the first instruction
  log       : WriteLog
  jobStat   : Word                -- word 0 of the job that runs
  jobLast   : Word × Word         -- PC of the job last saved, and the address of the instruction that led to it (R165)
  bgLost    : Bool                -- LANE_STATE BG_LOST (R173)
  stuck     : Bool                -- the save or restore has been reported as wedged (R383)
  deferred  : Bool                -- a fault struck during the save (R136)
  halted    : Bool                -- halted for debug (R196)
  benchReq  : BenchReq
  benchAt   : BitVec 64           -- global time of the request
  test      : TestPhase
  testEnd   : Nat                 -- ns of operating time at which the running step of the test ends (R184, R192)
  rolls     : Nat                 -- roll segments that R387 still asks for
  owner     : Option Nat          -- task of the open gambit context the lane belongs to (R202)
  readSet   : List Nat            -- IMEM lines read by GAMBIT plies (R204)
  shadowBuf : List ShadowLine     -- original DTCM lines (R207)
  trace     : List TraceRec       -- newest first, at most 32 (R200)
  history   : List Nat            -- operating times of bar starts, newest first, at most 15 (R186)
  deriving DecidableEq, Repr

/-- The gambit context of one task (R202 to R220). -/
structure GmbCtx where
  isOpen  : Bool
  spoiled : Option (Nat × Nat)    -- cause and lane of R209
  spoilAt : BitVec 96             -- global time of the BCLK edge of that event (R209)
  overdue : Bool                  -- the next context of the task has been due while this one was open (R383)
  forced  : Bool                  -- FORCE latched at the opening (R219)
  mask    : List Nat              -- lines with the task's change mask bit set (R205)
  staged  : List Nat              -- staged lines, by IMEM line (R206)
  result  : Option Bool           -- result of the present period not yet taken: true commit (R127)
  deriving DecidableEq, Repr

/-- What a task's present period has gathered (R258 to R263). -/
structure TaskRun where
  late     : Bool                 -- a NOMINAL, RERUN or CONVERT ply was late or dropped (event 5)
  trapped  : Bool                 -- such a ply trapped (event 6)
  moverEv  : Bool                 -- event 4 is due at TASK_END (R244)
  enabled  : List Nat             -- slots with an enabled LAND_IN entry in the period
  landed   : List Nat             -- slots whose LAND_IN landed a copy
  missed   : List Nat             -- slots whose last LAND_IN landed none (R312)
  pub      : Option Word          -- RSN with which the output image was published (R261)
  agreed   : Bool                 -- the input agreement window has closed
  deriving DecidableEq, Repr

/-- A board mover transfer in flight (R124): the TRACK_M index, its entry, START + DUR in global time, whether it
reports done, and the physical address it has reached. -/
structure MoverXfer where
  idx   : Nat
  entry : Entry
  ends  : BitVec 64
  isDone : Bool
  next  : Nat
  deriving DecidableEq, Repr

/-- A descriptor in progress on a ring (R247 to R250). -/
structure DescRun where
  ring   : Nat
  mover  : Option Nat
  done   : Nat
  doneAt : Nat                    -- ns of operating time at which DONE last changed (R383)
  halt   : Option Nat             -- fault status of a halted descriptor: 2 PAGE_FAULT or 6 PERM
  status : Word                   -- STATUS written when it halted
  deriving DecidableEq, Repr

/-- One TLB entry (R241). -/
structure TlbEntry where
  ctx   : Nat
  vpage : Nat
  frame : Nat
  rd    : Bool
  wr    : Bool
  deriving DecidableEq, Repr

/-- The migration that follows an online change switch (R285 to R289): the records, the lengths that
place the retained ranges, and the new-area lines migrated so far. -/
structure Migration where
  recs     : List MigrRec
  oldBase  : Nat
  newBase  : Nat
  retStart : Nat                  -- INST_LEN - RET_LEN of the new board
  retLen   : Nat
  kept     : List Nat             -- retained lines whose MRAM position R278 keeps
  moved    : List Nat             -- new-area line numbers migrated
  copied   : Nat
  mirrored : Nat
  convDone : Bool                 -- the lines left over by CONVERT plies have been migrated (R289)
  deriving DecidableEq, Repr

/-- DRAM page retirement (R230 to R232): the remap table (page, spare index), the pages whose copy
runs or waits, oldest first, the corrected errors of each page in the present sweep. -/
structure Retire where
  table   : List (Nat × Nat)
  copying : List Nat
  counts  : List (Nat × Nat)
  refused : List Nat              -- pages that met R230 while the spare pool was full, oldest first (R232)
  deriving DecidableEq, Repr

/-- Record priorities (R426). -/
inductive Prio where
  | critical | normal | bulk
  deriving DecidableEq, Repr

/-- An event that a page raises for the recorder (R425): TYPE, SOURCE, priority, payload. -/
structure Event where
  type    : Nat
  src     : Nat
  prio    : Prio
  payload : Bytes
  deriving DecidableEq, Repr

end Sys2Proof.Machine
end

