-- ==== Sys2Proof/Machine/NetTypes.lean ====
section
/-! DEFINITION. The state of the reset controller, the boot memories, the Mebarid network, the pair and
the castle latch, as plain data (chapters 10 to 13 of spec/). -/

namespace Sys2Proof.Machine

/-- The reset controller (R390 to R394). The domains released and failed stand in RST_DOM. -/
structure ResetCtl where
  on        : BitVec 13     -- sources asserted now, bits of R390
  running   : Bool          -- an episode is running
  reach     : Nat           -- reach of the episode: 0 Cold, 1 System, 2 Warm
  sources   : BitVec 13     -- sources of the episode
  next      : Nat           -- domain the sequence waits for; 10 when the episode has ended
  optBusy   : Bool          -- the option loader runs
  optDone   : Bool          -- the option loader has finished in this episode
  warmAsSys : Bool          -- a Warm source acted with System reach (R391)
  was       : ModState      -- module state when the episode began (R330, R408)
  firstRel  : Nat           -- ns of operating time at the first release of the episode (R419)
  lastRel   : Nat           -- ns of operating time at the last release, or failure, of a domain (R394)
  stretch   : Nat           -- ns of operating time at which the stretch of the last release of a source ends (R394)
  coldRel   : Bool          -- that source was one of Cold reach (R394)
  code      : BitVec 2      -- levels of the slot code pins SC1 and SC0 (R24, R413)
  xtal      : Bool          -- the 32.768 kHz crystal runs (R37)
  optAt     : Nat           -- ns of operating time at which the option loader finished (R394)
  cycled    : Bool          -- the power-cycle count has risen in this episode (R402)
  clkAt     : Vector (Option Nat) 20  -- since when each clock of R35, and 18, 19 NET's transmit PLLs, has been good (R397)
  deriving DecidableEq, Repr

/-- The boot flash, the eFuse blocks and the board keys (R403, R407, R414 to R418). An empty list of
bytes is erased flash or an empty slot. -/
structure BootMem where
  opt1    : Bytes           -- option record, copy 1
  opt2    : Bytes           -- option record, copy 2
  fuse    : BitVec 256      -- the pin fuse map in use
  fuseBlk : BitVec 256      -- the pin fuse block as burnt
  ext1    : Bytes           -- boot extension, copy 1: header and code
  ext2    : Bytes
  root0   : Bytes           -- root key hash of slot 0, 48 bytes
  root1   : Bytes
  extKey  : Bytes           -- root key that verified the extension, 96 bytes
  keys    : Vector Bytes 8  -- board key slots, 96 bytes each
  deriving DecidableEq, Repr

/-- A frame received in the span of an open slot on one channel (R304): its start less the receive
delay, whether its FCS is good and it passed the header checks, SEQ, header and payload. -/
structure RxCopy where
  start   : BitVec 64
  good    : Bool
  seq     : BitVec 16
  header  : Bytes
  payload : Bytes
  deriving DecidableEq, Repr

/-- An occurrence of a slot (R125, R304): its start in global time and its RSN, whether this module
sends in it, the frames that started in its span, newest last, and the decided copies. -/
structure SlotRun where
  slot  : Nat
  start : BitVec 64
  rsn   : Word
  pip   : Word              -- pip counter at START
  own   : Bool
  isOpen : Bool
  a     : List RxCopy
  b     : List RxCopy
  fwd   : List (Nat × RxCopy)   -- VALID copies the partner forwarded, by channel (R340)
  deriving DecidableEq, Repr

/-- A grant of a SPARE slot (R319 to R322). -/
structure Grant where
  slot    : Nat
  node    : Nat
  port    : Nat
  start   : Nat
  len     : Nat
  payload : Nat
  eff     : Word
  mapped  : Bool
  age     : Nat             -- rounds for which the MAPPED grant has been carried
  front   : Bool            -- moved to the front by R319
  deriving DecidableEq, Repr

/-- The Mebarid interface, guardian and grant table. Counts and link states stand in the registers. -/
structure Net where
  slots     : List SlotRun            -- occurrences, at most one for each slot, ascending
  txBuf     : List (Nat × Bytes)      -- payloads filled by LOAD_OUT, by slot (R302)
  ownSeq    : List (Nat × Nat)        -- frames sent in the slot since SYNCED (R295)
  grants    : List Grant              -- ascending slot order
  passSlot  : Nat                     -- the cyclic pass of R320 continues at the next slot from here
  windows   : List (Nat × Nat)        -- enabled guardian records: index, slot (R303)
  leadRound : Bool                    -- the module was LEADER at the boundary of the round (R303)
  portHist  : List (Nat × Nat)        -- port (0 to 7) and operating time of a retrain, retention (R324)
  blocks    : List (Nat × Word)       -- port and RSN of its last guardian block (R325)
  back      : List (Nat × Nat)        -- consecutive VALID rounds of a RETURNING station (R308)
  lostDue   : List Nat                -- DATA_IN slots of stations declared LOST that event 1 has not yet been applied to (R307)
  active    : List (Nat × Bool)       -- stations with a slot opened in the round, and whether a copy came (R307)
  ending    : Bool                    -- the cold-start attempt is abandoned at the next boundary (R315)
  usable    : Bool                    -- the attempt has seen a usable SYNC frame (R314)
  heard     : Bool                    -- the attempt has seen a frame of another node (R316)
  rounds    : Nat                     -- rounds of the attempt
  fresh     : Bool                    -- the engine's state began at a boundary whose round has not begun
  deriving DecidableEq, Repr

/-- A digest of a task and the RSN of its DIGEST entry (R347, R348). -/
structure DigRec where
  task : Nat
  rsn  : Word
  dig  : BitVec 64
  deriving DecidableEq, Repr

/-- A pair check that runs (R349): the RSN of its start, this module's result and cause (part), the
partner's result. -/
structure CheckRun where
  start   : Word
  since   : Nat             -- ns of operating time at the TASK_START of the disagreeing period
  own     : Option Nat      -- part that failed, 0 for a pass
  partner : Option Bool
  deriving DecidableEq, Repr

/-- The leader's side of a transfer (R361 to R364): the units still to be sent in the present pass, the
dirty units, both as (space, unit number), the bytes sent and the tracked bytes written in the round. -/
structure XferRun where
  start   : Word
  pass    : Nat
  todo    : List (Nat × Nat)
  dirty   : List (Nat × Nat)
  sent    : Nat
  wrote   : Nat
  last    : Nat             -- tracked bytes written in the round before
  closing : Bool
  tested  : Bool            -- the transfer work of the present round is done
  deriving DecidableEq, Repr

/-- An online change that has been requested or agreed (R280 to R284): S, and how far it has come. -/
structure ChangeRun where
  s        : Word
  identity : Bytes
  accepted : Bool           -- ACCEPT received (leader), or sent (follower)
  refused  : Bool           -- REFUSE received (leader)
  alone    : Bool           -- the link was down at acceptance (R283)
  commit   : Bool           -- COMMIT sent or received
  decided  : Option Bool
  deriving DecidableEq, Repr

/-- A castling that runs (R355, R356). -/
structure CastleRun where
  c    : Word
  take : Bool
  deriving DecidableEq, Repr

/-- A local input latch (R345): the TRACK_F index of its FIO_SAMPLE entry, the channels that entry names, levels, wire
breaks, L+ low, and the global time from which it is usable. -/
structure Latch where
  entry  : Nat
  chans  : BitVec 16
  levels : BitVec 16
  brk    : BitVec 16
  low    : Bool
  usable : BitVec 64
  deriving DecidableEq, Repr

/-- A plant write that waits for its EFF_RSN (R346, R473). -/
structure PlantWrite where
  eff   : Word
  ofs   : Nat
  words : List Word
  deriving DecidableEq, Repr

/-- The redundancy manager and the Dunly link (chapter 11). -/
structure Pair where
  own      : Bytes                 -- own health block, empty before the first
  partner  : Bytes                 -- the partner's last valid health block, empty when none
  seqOut   : Vector (BitVec 32) 4  -- frames sent on each lane since the link came up
  seqIn    : Vector (BitVec 32) 4  -- SEQ expected next on each lane
  goodRun  : Nat                   -- consecutive rounds with a valid HEALTH message
  fwdRound : Nat                   -- forward record bytes sent in the round
  lostRound : Nat                  -- forward frames lost in the round
  latches  : List Latch            -- newest first
  digAcc   : Vector (BitVec 64) 16 -- digest terms of each task's period
  digOwn   : List DigRec
  digPart  : List DigRec
  digStart : Vector Nat 16         -- ns of operating time at the TASK_START of each task's period
  faultAt  : List Nat              -- ns of operating time at which the evidence of R349 part 3 was recorded
  check    : Option CheckRun
  pulseRsn : Option Word           -- round at whose pip 40 the first low pulse after a castling begins (R356)
  castle   : Option CastleRun      -- leader: OFFER sent; follower: TAKE sent
  xfer     : Option XferRun        -- leader: transfer that runs
  reqId    : Bytes                 -- leader: identity of a join request that waits, empty when none
  joinDone : Bool                  -- joiner: DONE exchanged
  fromBoot : Bool                  -- joiner: it has come from BOOT (R284)
  xferAt   : Nat                   -- joiner: ns of operating time at the last XFER or JOINC message (R365)
  lockAt   : Nat                   -- ns of operating time since which all four lanes hold block lock (R336)
  heardRsn : Word                  -- RSN of the last round in which a valid HEALTH message came (R336)
  joinLand : Nat                   -- joiner: 0 no START yet, 1 START received, 2 a turn boundary has passed since (R360)
  leadRel  : Bool                  -- PAIR_CMD LEAD has released the module
  joinRel  : Bool                  -- PAIR_CMD JOIN has released the module
  episode  : Bool                  -- the record of the present episode of R331 or R360 is written
  change   : Option ChangeRun
  expect   : List (Nat × BitVec 64)   -- FIO_SAMPLE entries whose latch the leader is to send, and when each is usable (R345)
  downIn   : Bool                  -- the link went down in the present round (R381)
  replaced : Bool                  -- the record of R380 has been written since the reset
  plant    : List PlantWrite       -- oldest first
  late     : Nat                   -- plies aborted or dropped in the round (R367)
  squash   : Nat                   -- squashes delivered in the round
  deriving DecidableEq, Repr

/-- What the block sends to the outside, oldest first: a frame on a Mebarid port at a global time, a
message on a Dunly lane, a frame to the host switch ports, a HAP message, a CAN frame, a castle line
pulse. -/
inductive Output where
  | frame (port : Nat) (at_ : BitVec 64) (bytes : Bytes)
  | cutFrame (port : Nat) (at_ : BitVec 64) (bytes : Bytes)
  | dunly (lane : Nat) (bytes : Bytes)
  | host (port : Nat) (bytes : Bytes)
  | hap (dst : HostAddr) (bytes : Bytes)
  | can (ch : Nat) (hdr0 hdr1 : Word) (data : Bytes)
  | canAck (ch : Nat)
  | canRelease (ch : Nat)
  | ptpDelayReq (port : Nat) (seqId : BitVec 16)
  | leadLow (pips : Nat)
  | pins (level : Bytes)
  deriving DecidableEq, Repr

end Sys2Proof.Machine
end

