-- ==== Sys2Proof/Machine/HostTypes.lean ====
section
/-! DEFINITION. The state of the event recorder, the firmware update engine, the host interface, the
chassis bus and the local field block, as plain data (chapters 14 to 18 of spec/). -/

namespace Sys2Proof.Machine

/-! ### Recorder (chapter 14) -/

/-- The state of a segment of the recorder flash (R428, R433, R434). -/
inductive SegState where
  | erased | inUse | erasing | removed
  deriving DecidableEq, Repr

/-- A segment of the recorder flash: the bytes programmed from its start on; the rest reads 0xFF. -/
structure Segment where
  state : SegState
  bytes : Bytes
  deriving DecidableEq, Repr

/-- An event admitted to the recorder's queue (R427, R436). -/
structure QEntry where
  type    : Nat
  src     : Nat
  prio    : Prio
  op      : BitVec 48
  pow     : Word
  cal     : Option (BitVec 64)
  payload : Bytes
  deriving DecidableEq, Repr

/-- The counts of dropped events of one source, with the OP_TIME of the first and of the last event dropped and the
operating time of the first drop (R437). -/
structure DropCnt where
  src    : Nat
  bulk   : Nat
  normal : Nat
  crit   : Nat
  first  : BitVec 48
  last   : BitVec 48
  since  : BitVec 48
  deriving DecidableEq, Repr

/-- A READ in progress (R439): the bytes to copy, the records, the first SEQ and the cursor after it,
and the segments it copies from. -/
structure ReadRun where
  bytes  : Bytes
  count  : Nat
  first  : Word
  cursor : Word
  gap    : Bool
  ahead  : Bool
  deriving DecidableEq, Repr

/-- The recorder (R422 to R441). `due` holds the records the engine itself owes, written ahead of the
queue, each with the SEQ it keeps when it is written again (R433). -/
structure Recorder where
  segs   : List Segment
  wseg   : Nat
  lastOp : BitVec 48
  opened : Nat               -- segments opened over the recorder's life (SERIAL)
  due    : List (QEntry × Option Word)
  queue  : List QEntry
  drops  : List DropCnt
  reading : Option ReadRun
  deriving DecidableEq, Repr

/-! ### Firmware update (chapter 15) -/

/-- The state of a firmware bank (R445). -/
inductive BankState where
  | empty | staged | trial | confirmed | previous | failed
  deriving DecidableEq, Repr

/-- UPD_STATE STATE (R461). -/
inductive UpdState where
  | idle | busy | pending | serialising | starting | trial | fallback
  deriving DecidableEq, Repr

/-- The command of the update engine that runs (R448, R450). -/
inductive UpdOp where
  | verify | store | reverify
  deriving DecidableEq, Repr

/-- The block that a steward is started on at a handover (R444, R451, R457). -/
inductive HoBlock where
  | forward | back
  deriving DecidableEq, Repr

/-- The steward that the engine or the boot extension has loaded: the bank of its steward part, the ENTRY at which it
starts, and the handover block that it resumes from (R446, R451, R457). -/
structure StewardRun where
  bankB : Bool
  entry : Word
  block : Option HoBlock
  deriving DecidableEq, Repr

/-- A notify target of the settings (R479): where it is, its key slot, its mask of kinds, how many
NOTIFY messages it has been sent. -/
structure Target where
  addr  : HostAddr
  key   : Nat
  mask  : BitVec 8
  count : Word
  deriving DecidableEq, Repr

/-- A settings area: the stored format of the groups 0 to 7, the RWL fields of the registers that have some, the notify
targets, the PTP domain, the recovery delays of the two CAN channels (R459, R479, R501). -/
structure Settings where
  fmts    : List Nat
  regs    : List (Nat × Word)
  targets : List Target
  domain  : Byte
  delays  : List Nat
  deriving DecidableEq, Repr

/-- The update engine, the two banks and the settings areas. -/
structure Update where
  state    : UpdState
  runB     : Bool               -- the running bank is B
  imgA     : Bytes              -- image of bank A, empty when the bank is EMPTY
  imgB     : Bytes
  bankA    : BankState
  bankB    : BankState
  running  : Option UpdOp
  copy1    : Option (BankState × BankState)  -- bank choice record, copies 1 and 2 (R445): states of A and B
  copy2    : Option (BankState × BankState)  -- none: the CRC-32C of the copy fails
  copyNs   : Option Nat         -- ns of operating time at the last write of the record
  copyOld  : Option (BankState × BankState)  -- what copy 1 held before that write
  stw      : StewardRun
  ret      : Bool               -- the handover in progress is a return (R457)
  verified : Word               -- RSN at which re-verification ended (R451)
  ready    : Bool               -- re-verification has ended
  libPend  : Bool               -- LANE_LIB HALF changes at the next round boundary (R452)
  deadline : BitVec 48          -- operating time at which the trial fails (R456)
  failCause : Nat               -- cause of a return (0x0103)
  failCode : Nat
  useForward : Bool             -- the return hands over the forward block (R457)
  setA     : Settings           -- settings area of the running firmware
  setB     : Settings           -- the other area
  hoLen    : Word               -- forward block bytes and late CAN timestamps of the handover (R454)
  hoLate   : Word
  swapped  : Bool               -- the trial firmware uses the other area (R459)
  half     : Bool               -- the library half that the running firmware uses (R444, R452)
  hoStart  : Nat                -- ns of operating time at T, or at the begin of a return (R451)
  deriving DecidableEq, Repr

/-! ### Host interface (chapter 16) -/

/-- A host key slot (R467, R487): the key (32 bytes, empty when none), the highest accepted counter, the
record of the counters accepted since the last reset of HOST, the send counter. -/
structure KeySlot where
  key  : Bytes
  high : BitVec 64
  seen : List (BitVec 64)
  send : BitVec 64
  deriving DecidableEq, Repr

/-- A reassembly context (R476). -/
structure Reasm where
  key   : Nat
  xid   : Word
  type  : Nat
  segs  : Nat
  got   : List Nat
  bytes : Nat
  addr  : HostAddr
  at_   : Nat                   -- ns of operating time of its last accepted segment
  rsn   : Word                  -- round in which that segment was accepted (R470)
  deriving DecidableEq, Repr

/-- A discarded transaction (R476): whether its first orphan has been answered. -/
structure Orphan where
  key      : Nat
  xid      : Word
  until_   : BitVec 48
  answered : Bool
  deriving DecidableEq, Repr

/-- A staging claim (R477): the key slot, the largest OFS + LEN written, and the ns of operating time of the claimant's
last segment. -/
structure Claim where
  key : Nat
  top : Nat
  at_ : Nat
  deriving DecidableEq, Repr

/-- A PTP timestamp of a host port (R57, R486). -/
structure PtpStamp where
  seqId : BitVec 16
  msg   : BitVec 4
  port  : Fin 2
  tx    : Bool
  ts    : BitVec 64
  deriving DecidableEq, Repr

/-- The HAP engine, the host switch, the steward's watchdog and settings (chapter 16). -/
structure HostIf where
  slots    : Vector KeySlot 8
  stage    : Vector Word 8            -- HAP_KEY_DATA staging words
  reasm    : List Reasm
  orphans  : List Orphan
  boardClaim : Option Claim
  imageClaim : Option Claim
  fire     : Option (Nat × Nat)       -- RESET_FIRE answered: the reach, and the ns of operating time at which it asserts
  armEnd   : Nat                      -- ns of operating time at which the arm of R480 lapses
  drops    : Vector Nat 8             -- R466 drops per key slot since the last AUTH_SUMMARY
  table    : List (Bytes × Nat)       -- learned source addresses and their switch port (R462)
  stamps   : List PtpStamp            -- both ports' queues, oldest first
  ptp      : PtpState
  ptpPort  : Fin 2                    -- port of the PTP slave (R59, R484)
  domain   : Byte                     -- PTP domain number of the settings (R59)
  ptpSync  : Option Int               -- ns from the master's time of the last Sync to its arrival (R59)
  ptpReq   : Option (BitVec 16 × BitVec 64)  -- sequenceId and time of sending of the last Delay_Req (R59)
  ptpDelay : Int                      -- mean path delay in ns (R59)
  ptpSeq   : BitVec 16                -- sequenceId of the next Delay_Req
  malformed : Nat                     -- messages of TYPE 5 received (R471)
  wedgeAt  : Option Nat               -- ns of operating time of a WEDGE for which the steward's request is due (R384)
  targets  : List Target
  wdtPaused : Bool
  wdtEnd   : Nat                      -- ns of operating time at which the steward watchdog expires; ns left while it is paused
  wdtWarned : Bool                    -- WDT_WARN has been raised in this period
  sumAt    : Nat                      -- ns of operating time at which the 60 s of AUTH_SUMMARY began (R484)
  deriving DecidableEq, Repr

/-! ### Chassis bus (chapter 17) -/

/-- An entry of a receive queue (R494). -/
structure CanRx where
  hdr0 : Word
  hdr1 : Word
  data : Bytes
  stamp : Option (BitVec 64)    -- the steward's timestamp, once its receive interrupt has been served (R61, R454)
  deriving DecidableEq, Repr

/-- What a CAN channel keeps beside its registers (R488 to R503). -/
structure CanCh where
  q0      : List CanRx
  q1      : List CanRx
  seq     : BitVec 16
  onBus   : Option Nat        -- buffer whose frame is on the bus
  foreign : Bool              -- a frame of another node is on the bus (R496)
  released : Bool             -- the dominant timeout has released the bus driver (R489)
  abort   : Bool              -- an ABORT waits for the end of that frame (R498)
  first   : Option Nat        -- buffer whose frame goes first after recovery (R500)
  noAcked : Bool                -- NOACK has been raised since STREAK was last 0 (R502)
  offAt   : Nat                 -- ns of operating time at which bus-off was entered
  delayMs : Nat                 -- recovery delay of the chassis bus settings in ms; 0: never (R501)
  hist    : List Nat          -- operating times of dominant timeouts, retention (R503)
  deriving DecidableEq, Repr

/-! ### Local field block (chapter 18) -/

/-- What a field channel keeps beside its registers (R507, R512 to R517). -/
structure FioCh where
  cand  : Bool                -- level of the last samples and how many samples had it
  candN : Nat
  brk   : Bool                -- the same for a wire break
  brkN  : Nat
  qsafe : Bool                -- the last refresh took the safe state under QSAFE
  last  : Bool                -- level the switch was last driven to
  latch : Bool                -- the output latch: SAFE_ON at the release of FLD, then the command (R408, R517)
  warm  : Bool                -- held through Warm (R408)
  lead  : Bool                -- the module was LEADER at the last refresh (R346)
  refAt : Nat                 -- ns of operating time at which the refresh timer last began (R515)
  swAt  : Nat                 -- ns of operating time at which the switch last went on or off (R512, R513)
  retryAt : Nat               -- ns of operating time of the pending retry; ns left while outputs are forced off (R512, R516)
  fresh : Bool                -- became an output at an online change and has not been refreshed since (R505)
  deriving DecidableEq, Repr

/-- The field block (chapter 18). -/
structure FieldIo where
  ch       : Vector FioCh 16
  lowSeen  : Bool             -- L+ measured below 19.2 V since the last FIO_SAMPLE (R509)
  lowEp    : Bool             -- LPLUS_LOW has been raised in this episode
  healthy  : Bool             -- a HEALTH_XCHG has come within the last 10 ms (R519)
  reserve  : Nat              -- RESERVE of the last health block
  testEnd  : Nat              -- ns of operating time at which a loop test ends (R521)
  healthAt : Nat              -- ns of operating time of the last HEALTH_XCHG (R519)
  lpAt     : Nat              -- ns of operating time of the last measurement of L+ (R516)
  lpFell   : Bool             -- L+ has fallen below 15 V under a Warm hold since FLD was reset (R408)
  lpGood   : Option Nat       -- ns of operating time since which L+ has been at or above 18 V after OFF (R516)
  complAt  : Nat              -- ns of operating time at which the compliance episode began (R520)
  deriving DecidableEq, Repr

/-- The test access port (R533, R534): its instruction, the boundary register, the 52-bit data register
of REGREAD, the bypass bit, the identity register. -/
structure Jtag where
  code     : Nat
  boundary : Bytes
  data     : BitVec 52
  bypass   : Bool
  ident    : Word
  deriving DecidableEq, Repr

end Sys2Proof.Machine
end

