-- ==== Sys2Proof/Machine/RegMap.lean ====
section
/-! DEFINITION. The register map: the key of every register of every page, and for every register
the masks its field table gives (R12): the bits a read returns, the bits of access RW, RWL and W1C.
A key is bank * 2^20 + page * 0x1000 + offset; bank is 0 but for a register that a select register
indexes (one copy per lane, task, slot, clock, channel or word). -/

namespace Sys2Proof.Machine

/-- One row of a page's register table: offset, readable bits, and the RW, RWL and W1C bits (R12). -/
structure RegSpec where
  ofs : Nat
  rd  : Word
  rw  : Word
  rwl : Word
  w1c : Word
  deriving DecidableEq, Repr

/-- The pages by the kind of block they hold (R537); the four kinds with more than one page are
pLane, pRing, pMb (MBA and MBB) and pCan. -/
inductive PageClass where
  | pClk | pTim | pBrd | pBsq | pLane | pCmp | pGmb | pImg | pMmu | pMov | pRing | pMb | pMbg | pMbs | pDxl | pPair | pIlk | pHlt | pRst | pSys | pSec | pRec | pUpd | pStw | pHst | pHap | pCan | pFio | pLoop | pDbg
  deriving DecidableEq, Repr

namespace Reg
abbrev clkGood : Nat := 0x02040
abbrev clkLocked : Nat := 0x02044
abbrev clkFail : Nat := 0x02048
abbrev clkSel : Nat := 0x0204C
abbrev clkCount : Nat := 0x02050
abbrev clkLim : Nat := 0x02054
abbrev clkAclkTrim : Nat := 0x02058
end Reg

/-- The register table of the CLK page. -/
def regsClk : List RegSpec := [
  ⟨0x040, 0x0003FFFF, 0x00000000, 0x00000000, 0x00000000⟩,
  ⟨0x044, 0x0003FFFF, 0x00000000, 0x00000000, 0x00000000⟩,
  ⟨0x048, 0x0003FFFF, 0x00000000, 0x00000000, 0x0003FFFF⟩,
  ⟨0x04C, 0x0000001F, 0x0000001F, 0x00000000, 0x00000000⟩,
  ⟨0x050, 0x0000FFFF, 0x00000000, 0x00000000, 0x00000000⟩,
  ⟨0x054, 0xFFFFFFFF, 0x00000000, 0xFFFFFFFF, 0x00000000⟩,
  ⟨0x058, 0x000103FF, 0x00000000, 0x00000000, 0x00000000⟩]

namespace Reg
abbrev timNowLo : Nat := 0x03040
abbrev timNowHi : Nat := 0x03044
abbrev timPip : Nat := 0x03048
abbrev timRound : Nat := 0x0304C
abbrev timRsn : Nat := 0x03050
abbrev timRateFrac : Nat := 0x03054
abbrev timRateInt : Nat := 0x03058
abbrev timTrim : Nat := 0x0305C
abbrev timCtrl : Nat := 0x03060
abbrev timState : Nat := 0x03064
abbrev timDev : Nat := 0x03068
abbrev timDevPeak : Nat := 0x0306C
abbrev timSyncUsed : Nat := 0x03070
abbrev timExtOfs : Nat := 0x03074
abbrev timStepLo : Nat := 0x03078
abbrev timStepHi : Nat := 0x0307C
abbrev timStepCmd : Nat := 0x03080
abbrev timEpochLo : Nat := 0x03084
abbrev timEpochHi : Nat := 0x03088
abbrev timUtc : Nat := 0x0308C
abbrev timEvtCnt : Nat := 0x03090
end Reg

/-- The register table of the TIM page. -/
def regsTim : List RegSpec := [
  ⟨0x040, 0xFFFFFFFF, 0x00000000, 0x00000000, 0x00000000⟩,
  ⟨0x044, 0xFFFFFFFF, 0x00000000, 0x00000000, 0x00000000⟩,
  ⟨0x048, 0xFFFFFFFF, 0x00000000, 0x00000000, 0x00000000⟩,
  ⟨0x04C, 0x00001FFF, 0x00000000, 0x00000000, 0x00000000⟩,
  ⟨0x050, 0xFFFFFFFF, 0x00000000, 0x00000000, 0x00000000⟩,
  ⟨0x054, 0xFFFFFFFF, 0x00000000, 0x00000000, 0x00000000⟩,
  ⟨0x058, 0x0000000F, 0x00000000, 0x00000000, 0x00000000⟩,
  ⟨0x05C, 0xFFFFFFFF, 0x00000000, 0x00000000, 0x00000000⟩,
  ⟨0x060, 0x0000FFF3, 0x00000000, 0x0000FFF3, 0x00000000⟩,
  ⟨0x064, 0xFFFF07FF, 0x00000000, 0x00000000, 0x00000000⟩,
  ⟨0x068, 0xFFFFFFFF, 0x00000000, 0x00000000, 0x00000000⟩,
  ⟨0x06C, 0x0000FFFF, 0x0000FFFF, 0x00000000, 0x00000000⟩,
  ⟨0x070, 0xFFFFFFFF, 0x00000000, 0x00000000, 0x00000000⟩,
  ⟨0x074, 0xFFFFFFFF, 0xFFFFFFFF, 0x00000000, 0x00000000⟩,
  ⟨0x078, 0xFFFFFFFF, 0xFFFFFFFF, 0x00000000, 0x00000000⟩,
  ⟨0x07C, 0xFFFFFFFF, 0xFFFFFFFF, 0x00000000, 0x00000000⟩,
  ⟨0x080, 0x00000000, 0x00000000, 0x00000000, 0x00000000⟩,
  ⟨0x084, 0xFFFFFFFF, 0x00000000, 0x00000000, 0x00000000⟩,
  ⟨0x088, 0xFFFFFFFF, 0x00000000, 0x00000000, 0x00000000⟩,
  ⟨0x08C, 0x0001FFFF, 0x0001FFFF, 0x00000000, 0x00000000⟩,
  ⟨0x090, 0xFFFFFFFF, 0x00000000, 0x00000000, 0x00000000⟩]

namespace Reg
abbrev brdCmd : Nat := 0x05040
abbrev brdState : Nat := 0x05044
abbrev brdResult : Nat := 0x05048
abbrev brdInfo : Nat := 0x0504C
abbrev brdStgLen : Nat := 0x05050
abbrev brdFmt : Nat := 0x05054
abbrev brdSerial : Nat := 0x05058
abbrev brdDigSel : Nat := 0x0505C
abbrev brdDig : Nat := 0x05060
abbrev brdCnt : Nat := 0x05064
end Reg

/-- The register table of the BRD page. -/
def regsBrd : List RegSpec := [
  ⟨0x040, 0x00000000, 0x00000000, 0x00000000, 0x00000000⟩,
  ⟨0x044, 0x00000033, 0x00000000, 0x00000000, 0x00000000⟩,
  ⟨0x048, 0xFFFFFFFF, 0x00000000, 0x00000000, 0x00000000⟩,
  ⟨0x04C, 0xFFFFFFFF, 0x00000000, 0x00000000, 0x00000000⟩,
  ⟨0x050, 0xFFFFFFFF, 0xFFFFFFFF, 0x00000000, 0x00000000⟩,
  ⟨0x054, 0xFFFFFFFF, 0x00000000, 0xFFFFFFFF, 0x00000000⟩,
  ⟨0x058, 0xFFFFFFFF, 0x00000000, 0x00000000, 0x00000000⟩,
  ⟨0x05C, 0x0000001F, 0x0000001F, 0x00000000, 0x00000000⟩,
  ⟨0x060, 0xFFFFFFFF, 0x00000000, 0x00000000, 0x00000000⟩,
  ⟨0x064, 0xFFFFFFFF, 0x00000000, 0x00000000, 0x00000000⟩]

namespace Reg
abbrev bsqCtrl : Nat := 0x04040
abbrev bsqCmd : Nat := 0x04044
abbrev bsqState : Nat := 0x04048
abbrev bsqMask : Nat := 0x0404C
abbrev bsqBgEn : Nat := 0x04050
abbrev bsqBgSave : Nat := 0x04054
abbrev bsqBgFault : Nat := 0x04058
abbrev bsqSel : Nat := 0x0405C
abbrev bsqLaneCnt : Nat := 0x04060
abbrev bsqSlip : Nat := 0x04064
abbrev bsqRerun : Nat := 0x04068
abbrev bsqEcc : Nat := 0x0406C
abbrev bsqLastAbort : Nat := 0x04070
end Reg

/-- The register table of the BSQ page. -/
def regsBsq : List RegSpec := [
  ⟨0x040, 0x000000FF, 0x00000000, 0x000000FF, 0x00000000⟩,
  ⟨0x044, 0x00000000, 0x00000000, 0x00000000, 0x00000000⟩,
  ⟨0x048, 0x1FFF0007, 0x00000000, 0x00000000, 0x00000000⟩,
  ⟨0x04C, 0xFFFFFFFF, 0x00000000, 0x00000000, 0x00000000⟩,
  ⟨0x050, 0x0000FFFF, 0x0000FFFF, 0x00000000, 0x00000000⟩,
  ⟨0x054, 0x00003FFF, 0x00000000, 0x00003FFF, 0x00000000⟩,
  ⟨0x058, 0x0000FFFF, 0x00000000, 0x00000000, 0x0000FFFF⟩,
  ⟨0x05C, 0x0000000F, 0x0000000F, 0x00000000, 0x00000000⟩,
  ⟨0x060, 0xFFFFFFFF, 0x00000000, 0x00000000, 0x00000000⟩,
  ⟨0x064, 0x0003FFFF, 0x00000000, 0x00000000, 0x00000000⟩,
  ⟨0x068, 0x0000FFFF, 0x00000000, 0x00000000, 0x00000000⟩,
  ⟨0x06C, 0xFFFFFFFF, 0x00000000, 0x00000000, 0x00000000⟩,
  ⟨0x070, 0x000FFFFF, 0x00000000, 0x00000000, 0x00000000⟩]

namespace Reg
abbrev laneState (n : Nat) : Nat := (0x08 + n) * 0x1000 + 0x040
abbrev laneCur (n : Nat) : Nat := (0x08 + n) * 0x1000 + 0x044
abbrev laneTrap (n : Nat) : Nat := (0x08 + n) * 0x1000 + 0x048
abbrev laneTrapAddr (n : Nat) : Nat := (0x08 + n) * 0x1000 + 0x04C
abbrev laneTrapEnt (n : Nat) : Nat := (0x08 + n) * 0x1000 + 0x050
abbrev laneCnt (n : Nat) : Nat := (0x08 + n) * 0x1000 + 0x054
abbrev laneCycLast (n : Nat) : Nat := (0x08 + n) * 0x1000 + 0x058
abbrev laneCycMax (n : Nat) : Nat := (0x08 + n) * 0x1000 + 0x05C
abbrev laneWlog (n : Nat) : Nat := (0x08 + n) * 0x1000 + 0x060
abbrev laneEcc (n : Nat) : Nat := (0x08 + n) * 0x1000 + 0x064
abbrev laneEccAddr (n : Nat) : Nat := (0x08 + n) * 0x1000 + 0x068
abbrev laneLib (n : Nat) : Nat := (0x08 + n) * 0x1000 + 0x06C
end Reg

/-- The register table of the LANE page. -/
def regsLane : List RegSpec := [
  ⟨0x040, 0x0000003F, 0x00000000, 0x00000000, 0x00000000⟩,
  ⟨0x044, 0x000FFFFF, 0x00000000, 0x00000000, 0x00000000⟩,
  ⟨0x048, 0x0FFFFFFF, 0x00000000, 0x00000000, 0x00000000⟩,
  ⟨0x04C, 0xFFFFFFFF, 0x00000000, 0x00000000, 0x00000000⟩,
  ⟨0x050, 0x0001FFFF, 0x00000000, 0x00000000, 0x00000000⟩,
  ⟨0x054, 0xFFFFFFFF, 0x00000000, 0x00000000, 0x00000000⟩,
  ⟨0x058, 0xFFFFFFFF, 0x00000000, 0x00000000, 0x00000000⟩,
  ⟨0x05C, 0xFFFFFFFF, 0xFFFFFFFF, 0x00000000, 0x00000000⟩,
  ⟨0x060, 0x0FFF0FFF, 0x0FFF0000, 0x00000000, 0x00000000⟩,
  ⟨0x064, 0xFFFFFFFF, 0x00000000, 0x00000000, 0x00000000⟩,
  ⟨0x068, 0xFFFFFFFF, 0x00000000, 0x00000000, 0x00000000⟩,
  ⟨0x06C, 0x00000001, 0x00000000, 0x00000000, 0x00000000⟩]

namespace Reg
abbrev cmpCtrl : Nat := 0x18040
abbrev cmpSel : Nat := 0x18044
abbrev cmpLast : Nat := 0x18048
abbrev cmpLastPc : Nat := 0x1804C
abbrev cmpLastRsn : Nat := 0x18050
abbrev cmpHist : Nat := 0x18054
abbrev cmpBar : Nat := 0x18058
abbrev cmpBorne : Nat := 0x1805C
abbrev cmpRollCnt : Nat := 0x18060
abbrev cmpTrcSel : Nat := 0x18064
abbrev cmpTrcW0 : Nat := 0x18068
abbrev cmpTrcW1 : Nat := 0x1806C
abbrev cmpTrcW2 : Nat := 0x18070
abbrev cmpTrcW3 : Nat := 0x18074
abbrev cmpDbgCmd : Nat := 0x18078
abbrev cmpDbgStat : Nat := 0x1807C
abbrev cmpDbgRegSel : Nat := 0x18080
abbrev cmpDbgRegData : Nat := 0x18084
end Reg

/-- The register table of the CMP page. -/
def regsCmp : List RegSpec := [
  ⟨0x040, 0x0000000F, 0x00000000, 0x0000000F, 0x00000000⟩,
  ⟨0x044, 0x0000000F, 0x0000000F, 0x00000000, 0x00000000⟩,
  ⟨0x048, 0xFFFF1FFF, 0x00000000, 0x00000000, 0x00000000⟩,
  ⟨0x04C, 0x000FFFFF, 0x00000000, 0x00000000, 0x00000000⟩,
  ⟨0x050, 0xFFFFFFFF, 0x00000000, 0x00000000, 0x00000000⟩,
  ⟨0x054, 0xFFFF000F, 0x00000000, 0x00000000, 0x00000000⟩,
  ⟨0x058, 0x0000003F, 0x00000000, 0x00000000, 0x00000000⟩,
  ⟨0x05C, 0x0000FFFF, 0x00000000, 0x00000000, 0x00000000⟩,
  ⟨0x060, 0xFFFFFFFF, 0x00000000, 0x00000000, 0x00000000⟩,
  ⟨0x064, 0x000001FF, 0x000001FF, 0x00000000, 0x00000000⟩,
  ⟨0x068, 0xFFFFFFFF, 0x00000000, 0x00000000, 0x00000000⟩,
  ⟨0x06C, 0xFFFFFFFF, 0x00000000, 0x00000000, 0x00000000⟩,
  ⟨0x070, 0xFFFFFFFF, 0x00000000, 0x00000000, 0x00000000⟩,
  ⟨0x074, 0xFFFFFFFF, 0x00000000, 0x00000000, 0x00000000⟩,
  ⟨0x078, 0x00000000, 0x00000000, 0x00000000, 0x00000000⟩,
  ⟨0x07C, 0xFFFFFFFF, 0x00000000, 0x00000000, 0x00000000⟩,
  ⟨0x080, 0x000003FF, 0x000003FF, 0x00000000, 0x00000000⟩,
  ⟨0x084, 0xFFFFFFFF, 0xFFFFFFFF, 0x00000000, 0x00000000⟩]

namespace Reg
abbrev gmbCtrl : Nat := 0x19040
abbrev gmbSel : Nat := 0x19044
abbrev gmbOpen : Nat := 0x19048
abbrev gmbResult : Nat := 0x1904C
abbrev gmbResultRsn : Nat := 0x19050
abbrev gmbCnt : Nat := 0x19054
abbrev gmbTest : Nat := 0x19058
abbrev gmbStaged : Nat := 0x1905C
abbrev gmbHit : Nat := 0x19060
abbrev gmbLane : Nat := 0x19064
abbrev gmbRestore : Nat := 0x19068
end Reg

/-- The register table of the GMB page. -/
def regsGmb : List RegSpec := [
  ⟨0x040, 0x0000FFFF, 0x0000FFFF, 0x00000000, 0x00000000⟩,
  ⟨0x044, 0x00000F0F, 0x00000F0F, 0x00000000, 0x00000000⟩,
  ⟨0x048, 0xFFFFFFFF, 0x00000000, 0x00000000, 0x00000000⟩,
  ⟨0x04C, 0x00000FF3, 0x00000000, 0x00000000, 0x00000000⟩,
  ⟨0x050, 0xFFFFFFFF, 0x00000000, 0x00000000, 0x00000000⟩,
  ⟨0x054, 0xFFFFFFFF, 0x00000000, 0x00000000, 0x00000000⟩,
  ⟨0x058, 0xFFFF07FF, 0x00000000, 0x00000000, 0x00000000⟩,
  ⟨0x05C, 0x001FFFFF, 0x00000000, 0x00000000, 0x00000000⟩,
  ⟨0x060, 0x01FFFFFF, 0x00000000, 0x00000000, 0x00000000⟩,
  ⟨0x064, 0x1FFFFFFF, 0x0FFF0000, 0x00000000, 0x00000000⟩,
  ⟨0x068, 0xFFFF0FFF, 0x00000000, 0x00000000, 0x00000000⟩]

namespace Reg
abbrev imgCtrl : Nat := 0x1A040
abbrev imgSramEcc : Nat := 0x1A044
abbrev imgSramAddr : Nat := 0x1A048
abbrev imgDramEcc : Nat := 0x1A04C
abbrev imgDramAddrLo : Nat := 0x1A050
abbrev imgDramAddrHi : Nat := 0x1A054
abbrev imgRetire : Nat := 0x1A058
abbrev imgSweep : Nat := 0x1A05C
abbrev imgRepair : Nat := 0x1A060
end Reg

/-- The register table of the IMG page. -/
def regsImg : List RegSpec := [
  ⟨0x040, 0x0FFFFFFF, 0x00000000, 0x0FFFFFFF, 0x00000000⟩,
  ⟨0x044, 0xFFFFFFFF, 0x00000000, 0x00000000, 0x00000000⟩,
  ⟨0x048, 0xFFFFFFFF, 0x00000000, 0x00000000, 0x00000000⟩,
  ⟨0x04C, 0xFFFFFFFF, 0x00000000, 0x00000000, 0x00000000⟩,
  ⟨0x050, 0xFFFFFFFF, 0x00000000, 0x00000000, 0x00000000⟩,
  ⟨0x054, 0x000000FF, 0x00000000, 0x00000000, 0x00000000⟩,
  ⟨0x058, 0xFFFFFFFF, 0x00000000, 0x00000000, 0x00000000⟩,
  ⟨0x05C, 0xFFFFFFFF, 0x00000000, 0x00000000, 0x00000000⟩,
  ⟨0x060, 0x0000FFFF, 0x00000000, 0x00000000, 0x00000000⟩]

namespace Reg
abbrev mmuRsel : Nat := 0x1B040
abbrev mmuRbase : Nat := 0x1B044
abbrev mmuRlimit : Nat := 0x1B048
abbrev mmuRattr : Nat := 0x1B04C
abbrev mmuCsel : Nat := 0x1B050
abbrev mmuRoot : Nat := 0x1B054
abbrev mmuInv : Nat := 0x1B058
abbrev mmuInvStat : Nat := 0x1B05C
abbrev mmuFaultVa : Nat := 0x1B060
abbrev mmuFaultInfo : Nat := 0x1B064
end Reg

/-- The register table of the MMU page. -/
def regsMmu : List RegSpec := [
  ⟨0x040, 0x000000FF, 0x000000FF, 0x00000000, 0x00000000⟩,
  ⟨0x044, 0xFFFFFFFF, 0xFFFFFFFF, 0x00000000, 0x00000000⟩,
  ⟨0x048, 0xFFFFFFFF, 0xFFFFFFFF, 0x00000000, 0x00000000⟩,
  ⟨0x04C, 0x0000001F, 0x0000000F, 0x00000000, 0x00000000⟩,
  ⟨0x050, 0x0000000F, 0x0000000F, 0x00000000, 0x00000000⟩,
  ⟨0x054, 0x8FFFFFFF, 0x8FFFFFFF, 0x00000000, 0x00000000⟩,
  ⟨0x058, 0x00000000, 0x00000000, 0x00000000, 0x00000000⟩,
  ⟨0x05C, 0xFFFF0001, 0x00000000, 0x00000000, 0x00000000⟩,
  ⟨0x060, 0xFFFFFFFF, 0x00000000, 0x00000000, 0x00000000⟩,
  ⟨0x064, 0x00000FFF, 0x00000000, 0x00000000, 0x00000000⟩]

namespace Reg
abbrev movStat : Nat := 0x1C040
abbrev movInst : Nat := 0x1C044
abbrev movBmFault : Nat := 0x1C048
abbrev movBmLast : Nat := 0x1C04C
abbrev movBmAddrLo : Nat := 0x1C050
abbrev movBmAddrHi : Nat := 0x1C054
end Reg

/-- The register table of the MOV page. -/
def regsMov : List RegSpec := [
  ⟨0x040, 0x00000FFF, 0x00000000, 0x00000000, 0x00000000⟩,
  ⟨0x044, 0x00000001, 0x00000000, 0x00000000, 0x00000000⟩,
  ⟨0x048, 0xFFFF00FF, 0x00000000, 0x00000000, 0x000000FF⟩,
  ⟨0x04C, 0x003FFFFF, 0x00000000, 0x00000000, 0x00000000⟩,
  ⟨0x050, 0xFFFFFFFF, 0x00000000, 0x00000000, 0x00000000⟩,
  ⟨0x054, 0x000000FF, 0x00000000, 0x00000000, 0x00000000⟩]

namespace Reg
abbrev ringCfg (n : Nat) : Nat := (0x20 + n) * 0x1000 + 0x040
abbrev ringBaseLo (n : Nat) : Nat := (0x20 + n) * 0x1000 + 0x044
abbrev ringBaseHi (n : Nat) : Nat := (0x20 + n) * 0x1000 + 0x048
abbrev ringHead (n : Nat) : Nat := (0x20 + n) * 0x1000 + 0x04C
abbrev ringTail (n : Nat) : Nat := (0x20 + n) * 0x1000 + 0x050
abbrev ringStat (n : Nat) : Nat := (0x20 + n) * 0x1000 + 0x054
abbrev ringCmd (n : Nat) : Nat := (0x20 + n) * 0x1000 + 0x058
end Reg

/-- The register table of the RING page. -/
def regsRing : List RegSpec := [
  ⟨0x040, 0x00FFFFFF, 0x00FFFFFF, 0x00000000, 0x00000000⟩,
  ⟨0x044, 0xFFFFFFFF, 0xFFFFFFFF, 0x00000000, 0x00000000⟩,
  ⟨0x048, 0x000000FF, 0x000000FF, 0x00000000, 0x00000000⟩,
  ⟨0x04C, 0xFFFFFFFF, 0xFFFFFFFF, 0x00000000, 0x00000000⟩,
  ⟨0x050, 0xFFFFFFFF, 0x00000000, 0x00000000, 0x00000000⟩,
  ⟨0x054, 0xFFFF001F, 0x00000000, 0x00000000, 0x00000000⟩,
  ⟨0x058, 0x00000000, 0x00000000, 0x00000000, 0x00000000⟩]

namespace Reg
abbrev mbPort0 (n : Nat) : Nat := (0x60 + n) * 0x1000 + 0x040
abbrev mbPort1 (n : Nat) : Nat := (0x60 + n) * 0x1000 + 0x044
abbrev mbPort2 (n : Nat) : Nat := (0x60 + n) * 0x1000 + 0x048
abbrev mbPort3 (n : Nat) : Nat := (0x60 + n) * 0x1000 + 0x04C
abbrev mbRxdly0 (n : Nat) : Nat := (0x60 + n) * 0x1000 + 0x050
abbrev mbRxdly1 (n : Nat) : Nat := (0x60 + n) * 0x1000 + 0x054
abbrev mbRxdly2 (n : Nat) : Nat := (0x60 + n) * 0x1000 + 0x058
abbrev mbRxdly3 (n : Nat) : Nat := (0x60 + n) * 0x1000 + 0x05C
abbrev mbRxCnt (n : Nat) : Nat := (0x60 + n) * 0x1000 + 0x060
abbrev mbTxCnt (n : Nat) : Nat := (0x60 + n) * 0x1000 + 0x064
abbrev mbStray (n : Nat) : Nat := (0x60 + n) * 0x1000 + 0x068
abbrev mbCmd (n : Nat) : Nat := (0x60 + n) * 0x1000 + 0x06C
abbrev mbNetCfg : Nat := 0x60080
abbrev mbCold : Nat := 0x60084
end Reg

/-- The register table of the MB page. -/
def regsMb : List RegSpec := [
  ⟨0x040, 0xFFFF00F3, 0x00000000, 0x00000000, 0x00000000⟩,
  ⟨0x044, 0xFFFF00F3, 0x00000000, 0x00000000, 0x00000000⟩,
  ⟨0x048, 0xFFFF00F3, 0x00000000, 0x00000000, 0x00000000⟩,
  ⟨0x04C, 0xFFFF00F3, 0x00000000, 0x00000000, 0x00000000⟩,
  ⟨0x050, 0x000007FF, 0x00000000, 0x000007FF, 0x00000000⟩,
  ⟨0x054, 0x000007FF, 0x00000000, 0x000007FF, 0x00000000⟩,
  ⟨0x058, 0x000007FF, 0x00000000, 0x000007FF, 0x00000000⟩,
  ⟨0x05C, 0x000007FF, 0x00000000, 0x000007FF, 0x00000000⟩,
  ⟨0x060, 0xFFFFFFFF, 0x00000000, 0x00000000, 0x00000000⟩,
  ⟨0x064, 0xFFFFFFFF, 0x00000000, 0x00000000, 0x00000000⟩,
  ⟨0x068, 0xFFFFFFFF, 0x00000000, 0x00000000, 0x00000000⟩,
  ⟨0x06C, 0x00000000, 0x00000000, 0x00000000, 0x00000000⟩,
  ⟨0x080, 0x001FFFFF, 0x00000000, 0x001FFFFF, 0x00000000⟩,
  ⟨0x084, 0xFFFFFFF7, 0x00000000, 0x00000000, 0x00000000⟩]

namespace Reg
abbrev mbgStat : Nat := 0x62040
abbrev mbgBlock : Nat := 0x62044
abbrev mbgJoin : Nat := 0x62048
abbrev mbgGcnt : Nat := 0x6204C
abbrev mbgGsel : Nat := 0x62050
abbrev mbgGnode : Nat := 0x62054
abbrev mbgGslot : Nat := 0x62058
abbrev mbgGrsn : Nat := 0x6205C
end Reg

/-- The register table of the MBG page. -/
def regsMbg : List RegSpec := [
  ⟨0x040, 0x000001FF, 0x00000000, 0x00000000, 0x00000000⟩,
  ⟨0x044, 0xFFF7FFFF, 0x00000000, 0x00000000, 0x00000000⟩,
  ⟨0x048, 0xFFFFFFFF, 0x00000000, 0x00000000, 0x00000000⟩,
  ⟨0x04C, 0xFFFF01FF, 0x00000000, 0x00000000, 0x00000000⟩,
  ⟨0x050, 0x000000FF, 0x000000FF, 0x00000000, 0x00000000⟩,
  ⟨0x054, 0x8703FFFF, 0x00000000, 0x00000000, 0x00000000⟩,
  ⟨0x058, 0xFFFFFFFF, 0x00000000, 0x00000000, 0x00000000⟩,
  ⟨0x05C, 0xFFFFFFFF, 0x00000000, 0x00000000, 0x00000000⟩]

namespace Reg
abbrev mbsSel : Nat := 0x63040
abbrev mbsInfo : Nat := 0x63044
abbrev mbsCntA : Nat := 0x63048
abbrev mbsCntB : Nat := 0x6304C
abbrev mbsWin : Nat := 0x63050
abbrev mbsSeq : Nat := 0x63054
abbrev mbsTsA : Nat := 0x63058
abbrev mbsTsB : Nat := 0x6305C
abbrev mbsClr : Nat := 0x63060
abbrev mbsStnSel : Nat := 0x63064
abbrev mbsStn : Nat := 0x63068
abbrev mbsLost : Nat := 0x6306C
end Reg

/-- The register table of the MBS page. -/
def regsMbs : List RegSpec := [
  ⟨0x040, 0x0000FFFF, 0x0000FFFF, 0x00000000, 0x00000000⟩,
  ⟨0x044, 0xFFFF03FF, 0x00000000, 0x00000000, 0x00000000⟩,
  ⟨0x048, 0xFFFFFFFF, 0x00000000, 0x00000000, 0x00000000⟩,
  ⟨0x04C, 0xFFFFFFFF, 0x00000000, 0x00000000, 0x00000000⟩,
  ⟨0x050, 0xFFFFFFFF, 0x00000000, 0x00000000, 0x00000000⟩,
  ⟨0x054, 0x0000FFFF, 0x00000000, 0x00000000, 0x00000000⟩,
  ⟨0x058, 0xFFFFFFFF, 0x00000000, 0x00000000, 0x00000000⟩,
  ⟨0x05C, 0xFFFFFFFF, 0x00000000, 0x00000000, 0x00000000⟩,
  ⟨0x060, 0x00000000, 0x00000000, 0x00000000, 0x00000000⟩,
  ⟨0x064, 0x00000FFF, 0x00000FFF, 0x00000000, 0x00000000⟩,
  ⟨0x068, 0xFFFF003F, 0x00000000, 0x00000000, 0x00000000⟩,
  ⟨0x06C, 0xFFFF0FFF, 0x00000000, 0x00000000, 0x00000000⟩]

namespace Reg
abbrev dxlState : Nat := 0x68040
abbrev dxlErr : Nat := 0x68044
abbrev dxlFwd : Nat := 0x68048
abbrev dxlDowns : Nat := 0x6804C
end Reg

/-- The register table of the DXL page. -/
def regsDxl : List RegSpec := [
  ⟨0x040, 0x0000001F, 0x00000000, 0x00000000, 0x00000000⟩,
  ⟨0x044, 0xFFFFFFFF, 0x00000000, 0x00000000, 0x00000000⟩,
  ⟨0x048, 0x001FFFFF, 0x001FFFFF, 0x00000000, 0x00000000⟩,
  ⟨0x04C, 0x0000FFFF, 0x00000000, 0x00000000, 0x00000000⟩]

namespace Reg
abbrev pairCtrl : Nat := 0x69040
abbrev pairCmd : Nat := 0x69044
abbrev pairState : Nat := 0x69048
abbrev pairDigCnt : Nat := 0x6904C
abbrev pairDigLast : Nat := 0x69050
abbrev pairJoin : Nat := 0x69054
abbrev pairDirty : Nat := 0x69058
abbrev pairXfer : Nat := 0x6905C
abbrev pairHltSel : Nat := 0x69060
abbrev pairHlt : Nat := 0x69064
end Reg

/-- The register table of the PAIR page. -/
def regsPair : List RegSpec := [
  ⟨0x040, 0x00000003, 0x00000000, 0x00000003, 0x00000000⟩,
  ⟨0x044, 0x00000000, 0x00000000, 0x00000000, 0x00000000⟩,
  ⟨0x048, 0x000003FF, 0x00000000, 0x00000000, 0x00000000⟩,
  ⟨0x04C, 0xFFFFFFFF, 0x00000000, 0x00000000, 0x00000000⟩,
  ⟨0x050, 0xFFFFFFFF, 0x00000000, 0x00000000, 0x00000000⟩,
  ⟨0x054, 0x00FFFF07, 0x00000000, 0x00000000, 0x00000000⟩,
  ⟨0x058, 0xFFFFFFFF, 0x00000000, 0x00000000, 0x00000000⟩,
  ⟨0x05C, 0x001FFFFF, 0x00000000, 0x001FFFFF, 0x00000000⟩,
  ⟨0x060, 0x0000007F, 0x0000007F, 0x00000000, 0x00000000⟩,
  ⟨0x064, 0xFFFFFFFF, 0x00000000, 0x00000000, 0x00000000⟩]

namespace Reg
abbrev ilkStat : Nat := 0x6A040
abbrev ilkCnt : Nat := 0x6A044
end Reg

/-- The register table of the ILK page. -/
def regsIlk : List RegSpec := [
  ⟨0x040, 0xFFFF000F, 0x00000000, 0x00000000, 0x00000000⟩,
  ⟨0x044, 0xFFFFFFFF, 0x00000000, 0x00000000, 0x00000000⟩]

namespace Reg
abbrev hltCtrl : Nat := 0x76040
abbrev hltSel : Nat := 0x76044
abbrev hltPos : Nat := 0x76048
abbrev hltCnt : Nat := 0x7604C
abbrev hltLast : Nat := 0x76050
abbrev hltLastRsn : Nat := 0x76054
abbrev hltSd : Nat := 0x76058
abbrev hltWedge : Nat := 0x7605C
abbrev hltEnv : Nat := 0x76060
end Reg

/-- The register table of the HLT page. -/
def regsHlt : List RegSpec := [
  ⟨0x040, 0x0000FF01, 0x00000000, 0x0000FF01, 0x00000000⟩,
  ⟨0x044, 0x0000000F, 0x0000000F, 0x00000000, 0x00000000⟩,
  ⟨0x048, 0xFFFF01FF, 0x00000000, 0x00000000, 0x00000000⟩,
  ⟨0x04C, 0xFFFFFFFF, 0x00000000, 0x00000000, 0x00000000⟩,
  ⟨0x050, 0x00001FFF, 0x00000000, 0x00000000, 0x00000000⟩,
  ⟨0x054, 0xFFFFFFFF, 0x00000000, 0x00000000, 0x00000000⟩,
  ⟨0x058, 0x0000001F, 0x00000000, 0x00000000, 0x00000000⟩,
  ⟨0x05C, 0xFFFF00FF, 0x00000000, 0x00000000, 0x00000000⟩,
  ⟨0x060, 0xFFFFFFFF, 0x00000000, 0x00000000, 0x00000000⟩]

namespace Reg
abbrev rstCause : Nat := 0x01040
abbrev rstLast : Nat := 0x01044
abbrev rstCount : Nat := 0x01048
abbrev rstDom : Nat := 0x0104C
abbrev rstSeq : Nat := 0x01050
abbrev rstRelTime : Nat := 0x01054
abbrev rstSw : Nat := 0x01058
abbrev rstPwr : Nat := 0x0105C
abbrev rstCycles : Nat := 0x01060
abbrev rstOptimeLo : Nat := 0x01064
abbrev rstOptimeHi : Nat := 0x01068
end Reg

/-- The register table of the RST page. -/
def regsRst : List RegSpec := [
  ⟨0x040, 0x00001FFF, 0x00000000, 0x00000000, 0x00001FFF⟩,
  ⟨0x044, 0x1FFF0007, 0x00000000, 0x00000000, 0x00000000⟩,
  ⟨0x048, 0xFFFFFFFF, 0x00000000, 0x00000000, 0x00000000⟩,
  ⟨0x04C, 0x03FF03FF, 0x00000000, 0x00000000, 0x00000000⟩,
  ⟨0x050, 0x0000007F, 0x00000000, 0x00000000, 0x00000000⟩,
  ⟨0x054, 0xFFFFFFFF, 0x00000000, 0x00000000, 0x00000000⟩,
  ⟨0x058, 0x00000000, 0x00000000, 0x00000000, 0x00000000⟩,
  ⟨0x05C, 0x0000001F, 0x00000000, 0x00000000, 0x00000000⟩,
  ⟨0x060, 0xFFFFFFFF, 0x00000000, 0x00000000, 0x00000000⟩,
  ⟨0x064, 0xFFFFFFFF, 0x00000000, 0x00000000, 0x00000000⟩,
  ⟨0x068, 0x0000FFFF, 0x00000000, 0x00000000, 0x00000000⟩]

namespace Reg
abbrev sysId : Nat := 0x00040
abbrev sysSerialLo : Nat := 0x00044
abbrev sysSerialHi : Nat := 0x00048
abbrev sysSlot : Nat := 0x0004C
abbrev sysOptStat : Nat := 0x00050
abbrev sysOptSel : Nat := 0x00054
abbrev sysOptData : Nat := 0x00058
abbrev sysOptCmd : Nat := 0x0005C
abbrev sysOptRes : Nat := 0x00060
abbrev sysFuseSel : Nat := 0x00064
abbrev sysFuseData : Nat := 0x00068
abbrev sysFuseCmd : Nat := 0x0006C
end Reg

/-- The register table of the SYS page. -/
def regsSys : List RegSpec := [
  ⟨0x040, 0x01FFFFFF, 0x00000000, 0x00000000, 0x00000000⟩,
  ⟨0x044, 0xFFFFFFFF, 0x00000000, 0x00000000, 0x00000000⟩,
  ⟨0x048, 0xFFFFFFFF, 0x00000000, 0x00000000, 0x00000000⟩,
  ⟨0x04C, 0x0000003F, 0x00000000, 0x00000000, 0x00000000⟩,
  ⟨0x050, 0x0000FF1F, 0x00000000, 0x00000000, 0x00000000⟩,
  ⟨0x054, 0x0000003F, 0x0000003F, 0x00000000, 0x00000000⟩,
  ⟨0x058, 0xFFFFFFFF, 0xFFFFFFFF, 0x00000000, 0x00000000⟩,
  ⟨0x05C, 0x00000000, 0x00000000, 0x00000000, 0x00000000⟩,
  ⟨0x060, 0xFFFF0007, 0x00000000, 0x00000000, 0x00000000⟩,
  ⟨0x064, 0x0000000F, 0x0000000F, 0x00000000, 0x00000000⟩,
  ⟨0x068, 0xFFFFFFFF, 0xFFFFFFFF, 0x00000000, 0x00000000⟩,
  ⟨0x06C, 0x00000000, 0x00000000, 0x00000000, 0x00000000⟩]

namespace Reg
abbrev secStat : Nat := 0x7E040
abbrev secRoot : Nat := 0x7E044
abbrev secFail : Nat := 0x7E048
abbrev secKeyEn : Nat := 0x7E04C
abbrev secKeySel : Nat := 0x7E050
abbrev secKeyData : Nat := 0x7E054
abbrev secKeyCmd : Nat := 0x7E058
end Reg

/-- The register table of the SEC page. -/
def regsSec : List RegSpec := [
  ⟨0x040, 0xFFFF01FF, 0x00000000, 0x00000000, 0x00000000⟩,
  ⟨0x044, 0x0000000F, 0x00000000, 0x00000000, 0x00000000⟩,
  ⟨0x048, 0x000000FF, 0x00000000, 0x00000000, 0x00000000⟩,
  ⟨0x04C, 0x00FFFFFF, 0x00000000, 0x00000000, 0x00000000⟩,
  ⟨0x050, 0x0000001F, 0x0000001F, 0x00000000, 0x00000000⟩,
  ⟨0x054, 0xFFFFFFFF, 0xFFFFFFFF, 0x00000000, 0x00000000⟩,
  ⟨0x058, 0x00000000, 0x00000000, 0x00000000, 0x00000000⟩]

namespace Reg
abbrev recCtrl : Nat := 0x74040
abbrev recStat : Nat := 0x74044
abbrev recWptr : Nat := 0x74048
abbrev recNextSeq : Nat := 0x7404C
abbrev recOldestSeq : Nat := 0x74050
abbrev recQueue : Nat := 0x74054
abbrev recDropSel : Nat := 0x74058
abbrev recDrop : Nat := 0x7405C
abbrev recCnt : Nat := 0x74060
abbrev recSubLo : Nat := 0x74064
abbrev recSubHi : Nat := 0x74068
abbrev recSubCmd : Nat := 0x7406C
abbrev recSubStat : Nat := 0x74070
abbrev recRdBaseLo : Nat := 0x74074
abbrev recRdBaseHi : Nat := 0x74078
abbrev recRdLen : Nat := 0x7407C
abbrev recRdCursor : Nat := 0x74080
abbrev recRdCmd : Nat := 0x74084
abbrev recRdStat : Nat := 0x74088
abbrev recRdFirst : Nat := 0x7408C
end Reg

/-- The register table of the REC page. -/
def regsRec : List RegSpec := [
  ⟨0x040, 0x0000003F, 0x00000000, 0x0000003F, 0x00000000⟩,
  ⟨0x044, 0x0FFF7F03, 0x00000000, 0x00000000, 0x00000000⟩,
  ⟨0x048, 0x03FFFFFF, 0x00000000, 0x00000000, 0x00000000⟩,
  ⟨0x04C, 0xFFFFFFFF, 0x00000000, 0x00000000, 0x00000000⟩,
  ⟨0x050, 0xFFFFFFFF, 0x00000000, 0x00000000, 0x00000000⟩,
  ⟨0x054, 0x3FFF3FFF, 0x00000000, 0x00000000, 0x00000000⟩,
  ⟨0x058, 0x000000FF, 0x000000FF, 0x00000000, 0x00000000⟩,
  ⟨0x05C, 0xFFFFFFFF, 0x00000000, 0x00000000, 0x00000000⟩,
  ⟨0x060, 0xFFFFFFFF, 0x00000000, 0x00000000, 0x00000000⟩,
  ⟨0x064, 0xFFFFFFFF, 0xFFFFFFFF, 0x00000000, 0x00000000⟩,
  ⟨0x068, 0x000000FF, 0x000000FF, 0x00000000, 0x00000000⟩,
  ⟨0x06C, 0x00000000, 0x00000000, 0x00000000, 0x00000000⟩,
  ⟨0x070, 0x00000007, 0x00000000, 0x00000000, 0x00000000⟩,
  ⟨0x074, 0xFFFFFFFF, 0xFFFFFFFF, 0x00000000, 0x00000000⟩,
  ⟨0x078, 0x000000FF, 0x000000FF, 0x00000000, 0x00000000⟩,
  ⟨0x07C, 0x001FFFFF, 0x001FFFFF, 0x00000000, 0x00000000⟩,
  ⟨0x080, 0xFFFFFFFF, 0xFFFFFFFF, 0x00000000, 0x00000000⟩,
  ⟨0x084, 0x00000000, 0x00000000, 0x00000000, 0x00000000⟩,
  ⟨0x088, 0x0007FFFF, 0x00000000, 0x00000000, 0x00000000⟩,
  ⟨0x08C, 0xFFFFFFFF, 0x00000000, 0x00000000, 0x00000000⟩]

namespace Reg
abbrev updCmd : Nat := 0x75040
abbrev updState : Nat := 0x75044
abbrev updResult : Nat := 0x75048
abbrev updStgLen : Nat := 0x7504C
abbrev updVerA : Nat := 0x75050
abbrev updVerB : Nat := 0x75054
abbrev updCtrl : Nat := 0x75058
abbrev updHoCmd : Nat := 0x7505C
abbrev updConfirm : Nat := 0x75060
abbrev updTrial : Nat := 0x75064
abbrev updHoTime : Nat := 0x75068
abbrev updSet : Nat := 0x7506C
end Reg

/-- The register table of the UPD page. -/
def regsUpd : List RegSpec := [
  ⟨0x040, 0x00000000, 0x00000000, 0x00000000, 0x00000000⟩,
  ⟨0x044, 0x0000077F, 0x00000000, 0x00000000, 0x00000000⟩,
  ⟨0x048, 0xFFFFFFFF, 0x00000000, 0x00000000, 0x00000000⟩,
  ⟨0x04C, 0xFFFFFFFF, 0xFFFFFFFF, 0x00000000, 0x00000000⟩,
  ⟨0x050, 0xFFFFFFFF, 0x00000000, 0x00000000, 0x00000000⟩,
  ⟨0x054, 0xFFFFFFFF, 0x00000000, 0x00000000, 0x00000000⟩,
  ⟨0x058, 0xFFFFFFFF, 0x00000000, 0xFFFFFFFF, 0x00000000⟩,
  ⟨0x05C, 0x00000000, 0x00000000, 0x00000000, 0x00000000⟩,
  ⟨0x060, 0x00000000, 0x00000000, 0x00000000, 0x00000000⟩,
  ⟨0x064, 0xFFFFFFFF, 0x00000000, 0x00000000, 0x00000000⟩,
  ⟨0x068, 0xFFFFFFFF, 0x00000000, 0x00000000, 0x00000000⟩,
  ⟨0x06C, 0xFFFF00FF, 0x00000000, 0x00000000, 0x00000000⟩]

namespace Reg
abbrev stwCtrl : Nat := 0x70040
abbrev stwWdt : Nat := 0x70044
abbrev stwStat : Nat := 0x70048
abbrev stwLs : Nat := 0x7004C
end Reg

/-- The register table of the STW page. -/
def regsStw : List RegSpec := [
  ⟨0x040, 0x00003FFF, 0x00000000, 0x00003FFF, 0x00000000⟩,
  ⟨0x044, 0x00000000, 0x00000000, 0x00000000, 0x00000000⟩,
  ⟨0x048, 0x00007FFF, 0x00000000, 0x00000000, 0x00000000⟩,
  ⟨0x04C, 0x0000FFFF, 0x00000000, 0x00000000, 0x00000000⟩]

namespace Reg
abbrev hstPort1 : Nat := 0x71040
abbrev hstPort2 : Nat := 0x71044
abbrev hstMacLo : Nat := 0x71048
abbrev hstMacHi : Nat := 0x7104C
abbrev hstTc : Nat := 0x71050
abbrev hstTsStat : Nat := 0x71054
abbrev hstTsW0 : Nat := 0x71058
abbrev hstTsW1 : Nat := 0x7105C
abbrev hstTsW2 : Nat := 0x71060
end Reg

/-- The register table of the HST page. -/
def regsHst : List RegSpec := [
  ⟨0x040, 0xFFFF0103, 0x00000000, 0x00000100, 0x00000000⟩,
  ⟨0x044, 0xFFFF0103, 0x00000000, 0x00000100, 0x00000000⟩,
  ⟨0x048, 0xFFFFFFFF, 0x00000000, 0x00000000, 0x00000000⟩,
  ⟨0x04C, 0x0000FFFF, 0x00000000, 0x00000000, 0x00000000⟩,
  ⟨0x050, 0xFFFFFFFF, 0x00000000, 0x00000000, 0x00000000⟩,
  ⟨0x054, 0xFFFF001F, 0x00000000, 0x00000000, 0x00000000⟩,
  ⟨0x058, 0x003FFFFF, 0x00000000, 0x00000000, 0x00000000⟩,
  ⟨0x05C, 0xFFFFFFFF, 0x00000000, 0x00000000, 0x00000000⟩,
  ⟨0x060, 0xFFFFFFFF, 0x00000000, 0x00000000, 0x00000000⟩]

namespace Reg
abbrev hapCtrl : Nat := 0x72040
abbrev hapKeySel : Nat := 0x72044
abbrev hapKeyData : Nat := 0x72048
abbrev hapKeyCmd : Nat := 0x7204C
abbrev hapKeyStat : Nat := 0x72050
abbrev hapCtrSel : Nat := 0x72054
abbrev hapCtrLo : Nat := 0x72058
abbrev hapCtrHi : Nat := 0x7205C
abbrev hapCnt : Nat := 0x72060
abbrev hapCnt2 : Nat := 0x72064
abbrev hapArm : Nat := 0x72068
end Reg

/-- The register table of the HAP page. -/
def regsHap : List RegSpec := [
  ⟨0x040, 0x0003FFFF, 0x00000000, 0x0003FFFF, 0x00000000⟩,
  ⟨0x044, 0x00000007, 0x00000007, 0x00000000, 0x00000000⟩,
  ⟨0x048, 0x00000000, 0x00000000, 0x00000000, 0x00000000⟩,
  ⟨0x04C, 0x00000000, 0x00000000, 0x00000000, 0x00000000⟩,
  ⟨0x050, 0x0000FFFF, 0x00000000, 0x00000000, 0x00000000⟩,
  ⟨0x054, 0x00000007, 0x00000007, 0x00000000, 0x00000000⟩,
  ⟨0x058, 0xFFFFFFFF, 0x00000000, 0x00000000, 0x00000000⟩,
  ⟨0x05C, 0xFFFFFFFF, 0x00000000, 0x00000000, 0x00000000⟩,
  ⟨0x060, 0xFFFFFFFF, 0x00000000, 0x00000000, 0x00000000⟩,
  ⟨0x064, 0xFFFFFFFF, 0x00000000, 0x00000000, 0x00000000⟩,
  ⟨0x068, 0x03FF0077, 0x00000000, 0x00000000, 0x00000000⟩]

namespace Reg
abbrev canCtrl (n : Nat) : Nat := (0x78 + n) * 0x1000 + 0x040
abbrev canNbt (n : Nat) : Nat := (0x78 + n) * 0x1000 + 0x044
abbrev canDbt (n : Nat) : Nat := (0x78 + n) * 0x1000 + 0x048
abbrev canErr (n : Nat) : Nat := (0x78 + n) * 0x1000 + 0x04C
abbrev canCmd (n : Nat) : Nat := (0x78 + n) * 0x1000 + 0x050
abbrev canNoack (n : Nat) : Nat := (0x78 + n) * 0x1000 + 0x054
abbrev canFsel (n : Nat) : Nat := (0x78 + n) * 0x1000 + 0x058
abbrev canFmatch (n : Nat) : Nat := (0x78 + n) * 0x1000 + 0x05C
abbrev canFmask (n : Nat) : Nat := (0x78 + n) * 0x1000 + 0x060
abbrev canRxqStat (n : Nat) : Nat := (0x78 + n) * 0x1000 + 0x064
abbrev canRxCnt (n : Nat) : Nat := (0x78 + n) * 0x1000 + 0x068
abbrev canRxSel (n : Nat) : Nat := (0x78 + n) * 0x1000 + 0x06C
abbrev canRxHdr0 (n : Nat) : Nat := (0x78 + n) * 0x1000 + 0x070
abbrev canRxHdr1 (n : Nat) : Nat := (0x78 + n) * 0x1000 + 0x074
abbrev canRxPop (n : Nat) : Nat := (0x78 + n) * 0x1000 + 0x078
abbrev canRxData0 (n : Nat) : Nat := (0x78 + n) * 0x1000 + 0x080
abbrev canRxData1 (n : Nat) : Nat := (0x78 + n) * 0x1000 + 0x084
abbrev canRxData2 (n : Nat) : Nat := (0x78 + n) * 0x1000 + 0x088
abbrev canRxData3 (n : Nat) : Nat := (0x78 + n) * 0x1000 + 0x08C
abbrev canRxData4 (n : Nat) : Nat := (0x78 + n) * 0x1000 + 0x090
abbrev canRxData5 (n : Nat) : Nat := (0x78 + n) * 0x1000 + 0x094
abbrev canRxData6 (n : Nat) : Nat := (0x78 + n) * 0x1000 + 0x098
abbrev canRxData7 (n : Nat) : Nat := (0x78 + n) * 0x1000 + 0x09C
abbrev canRxData8 (n : Nat) : Nat := (0x78 + n) * 0x1000 + 0x0A0
abbrev canRxData9 (n : Nat) : Nat := (0x78 + n) * 0x1000 + 0x0A4
abbrev canRxData10 (n : Nat) : Nat := (0x78 + n) * 0x1000 + 0x0A8
abbrev canRxData11 (n : Nat) : Nat := (0x78 + n) * 0x1000 + 0x0AC
abbrev canRxData12 (n : Nat) : Nat := (0x78 + n) * 0x1000 + 0x0B0
abbrev canRxData13 (n : Nat) : Nat := (0x78 + n) * 0x1000 + 0x0B4
abbrev canRxData14 (n : Nat) : Nat := (0x78 + n) * 0x1000 + 0x0B8
abbrev canRxData15 (n : Nat) : Nat := (0x78 + n) * 0x1000 + 0x0BC
abbrev canTxSel (n : Nat) : Nat := (0x78 + n) * 0x1000 + 0x0C0
abbrev canTxHdr0 (n : Nat) : Nat := (0x78 + n) * 0x1000 + 0x0C4
abbrev canTxHdr1 (n : Nat) : Nat := (0x78 + n) * 0x1000 + 0x0C8
abbrev canTxData0 (n : Nat) : Nat := (0x78 + n) * 0x1000 + 0x0CC
abbrev canTxData1 (n : Nat) : Nat := (0x78 + n) * 0x1000 + 0x0D0
abbrev canTxData2 (n : Nat) : Nat := (0x78 + n) * 0x1000 + 0x0D4
abbrev canTxData3 (n : Nat) : Nat := (0x78 + n) * 0x1000 + 0x0D8
abbrev canTxData4 (n : Nat) : Nat := (0x78 + n) * 0x1000 + 0x0DC
abbrev canTxData5 (n : Nat) : Nat := (0x78 + n) * 0x1000 + 0x0E0
abbrev canTxData6 (n : Nat) : Nat := (0x78 + n) * 0x1000 + 0x0E4
abbrev canTxData7 (n : Nat) : Nat := (0x78 + n) * 0x1000 + 0x0E8
abbrev canTxData8 (n : Nat) : Nat := (0x78 + n) * 0x1000 + 0x0EC
abbrev canTxData9 (n : Nat) : Nat := (0x78 + n) * 0x1000 + 0x0F0
abbrev canTxData10 (n : Nat) : Nat := (0x78 + n) * 0x1000 + 0x0F4
abbrev canTxData11 (n : Nat) : Nat := (0x78 + n) * 0x1000 + 0x0F8
abbrev canTxData12 (n : Nat) : Nat := (0x78 + n) * 0x1000 + 0x0FC
abbrev canTxData13 (n : Nat) : Nat := (0x78 + n) * 0x1000 + 0x100
abbrev canTxData14 (n : Nat) : Nat := (0x78 + n) * 0x1000 + 0x104
abbrev canTxData15 (n : Nat) : Nat := (0x78 + n) * 0x1000 + 0x108
abbrev canTxCmd (n : Nat) : Nat := (0x78 + n) * 0x1000 + 0x10C
abbrev canTxStat (n : Nat) : Nat := (0x78 + n) * 0x1000 + 0x110
abbrev canCnt (n : Nat) : Nat := (0x78 + n) * 0x1000 + 0x114
abbrev canLife (n : Nat) : Nat := (0x78 + n) * 0x1000 + 0x118
end Reg

/-- The register table of the CAN page. -/
def regsCan : List RegSpec := [
  ⟨0x040, 0x0000000F, 0x0000000F, 0x00000000, 0x00000000⟩,
  ⟨0x044, 0x3FFFFFFF, 0x3FFFFFFF, 0x00000000, 0x00000000⟩,
  ⟨0x048, 0xFFFF1F1F, 0xFFFF1F1F, 0x00000000, 0x00000000⟩,
  ⟨0x04C, 0xF7FF01FF, 0x00000000, 0x00000000, 0x00000000⟩,
  ⟨0x050, 0x00000000, 0x00000000, 0x00000000, 0x00000000⟩,
  ⟨0x054, 0x01FFFFFF, 0x01FF0000, 0x00000000, 0x00000000⟩,
  ⟨0x058, 0x0000000F, 0x0000000F, 0x00000000, 0x00000000⟩,
  ⟨0x05C, 0xFFFFFFFF, 0xFFFFFFFF, 0x00000000, 0x00000000⟩,
  ⟨0x060, 0x3FFFFFFF, 0x3FFFFFFF, 0x00000000, 0x00000000⟩,
  ⟨0x064, 0x00003F3F, 0x00000000, 0x00000000, 0x00000000⟩,
  ⟨0x068, 0xFFFFFFFF, 0x00000000, 0x00000000, 0x00000000⟩,
  ⟨0x06C, 0x00000001, 0x00000001, 0x00000000, 0x00000000⟩,
  ⟨0x070, 0xFFFFFFFF, 0x00000000, 0x00000000, 0x00000000⟩,
  ⟨0x074, 0xFFFF0F3F, 0x00000000, 0x00000000, 0x00000000⟩,
  ⟨0x078, 0x00000000, 0x00000000, 0x00000000, 0x00000000⟩,
  ⟨0x080, 0xFFFFFFFF, 0x00000000, 0x00000000, 0x00000000⟩,
  ⟨0x084, 0xFFFFFFFF, 0x00000000, 0x00000000, 0x00000000⟩,
  ⟨0x088, 0xFFFFFFFF, 0x00000000, 0x00000000, 0x00000000⟩,
  ⟨0x08C, 0xFFFFFFFF, 0x00000000, 0x00000000, 0x00000000⟩,
  ⟨0x090, 0xFFFFFFFF, 0x00000000, 0x00000000, 0x00000000⟩,
  ⟨0x094, 0xFFFFFFFF, 0x00000000, 0x00000000, 0x00000000⟩,
  ⟨0x098, 0xFFFFFFFF, 0x00000000, 0x00000000, 0x00000000⟩,
  ⟨0x09C, 0xFFFFFFFF, 0x00000000, 0x00000000, 0x00000000⟩,
  ⟨0x0A0, 0xFFFFFFFF, 0x00000000, 0x00000000, 0x00000000⟩,
  ⟨0x0A4, 0xFFFFFFFF, 0x00000000, 0x00000000, 0x00000000⟩,
  ⟨0x0A8, 0xFFFFFFFF, 0x00000000, 0x00000000, 0x00000000⟩,
  ⟨0x0AC, 0xFFFFFFFF, 0x00000000, 0x00000000, 0x00000000⟩,
  ⟨0x0B0, 0xFFFFFFFF, 0x00000000, 0x00000000, 0x00000000⟩,
  ⟨0x0B4, 0xFFFFFFFF, 0x00000000, 0x00000000, 0x00000000⟩,
  ⟨0x0B8, 0xFFFFFFFF, 0x00000000, 0x00000000, 0x00000000⟩,
  ⟨0x0BC, 0xFFFFFFFF, 0x00000000, 0x00000000, 0x00000000⟩,
  ⟨0x0C0, 0x00000003, 0x00000003, 0x00000000, 0x00000000⟩,
  ⟨0x0C4, 0xFFFFFFFF, 0xFFFFFFFF, 0x00000000, 0x00000000⟩,
  ⟨0x0C8, 0x0000003F, 0x0000003F, 0x00000000, 0x00000000⟩,
  ⟨0x0CC, 0xFFFFFFFF, 0xFFFFFFFF, 0x00000000, 0x00000000⟩,
  ⟨0x0D0, 0xFFFFFFFF, 0xFFFFFFFF, 0x00000000, 0x00000000⟩,
  ⟨0x0D4, 0xFFFFFFFF, 0xFFFFFFFF, 0x00000000, 0x00000000⟩,
  ⟨0x0D8, 0xFFFFFFFF, 0xFFFFFFFF, 0x00000000, 0x00000000⟩,
  ⟨0x0DC, 0xFFFFFFFF, 0xFFFFFFFF, 0x00000000, 0x00000000⟩,
  ⟨0x0E0, 0xFFFFFFFF, 0xFFFFFFFF, 0x00000000, 0x00000000⟩,
  ⟨0x0E4, 0xFFFFFFFF, 0xFFFFFFFF, 0x00000000, 0x00000000⟩,
  ⟨0x0E8, 0xFFFFFFFF, 0xFFFFFFFF, 0x00000000, 0x00000000⟩,
  ⟨0x0EC, 0xFFFFFFFF, 0xFFFFFFFF, 0x00000000, 0x00000000⟩,
  ⟨0x0F0, 0xFFFFFFFF, 0xFFFFFFFF, 0x00000000, 0x00000000⟩,
  ⟨0x0F4, 0xFFFFFFFF, 0xFFFFFFFF, 0x00000000, 0x00000000⟩,
  ⟨0x0F8, 0xFFFFFFFF, 0xFFFFFFFF, 0x00000000, 0x00000000⟩,
  ⟨0x0FC, 0xFFFFFFFF, 0xFFFFFFFF, 0x00000000, 0x00000000⟩,
  ⟨0x100, 0xFFFFFFFF, 0xFFFFFFFF, 0x00000000, 0x00000000⟩,
  ⟨0x104, 0xFFFFFFFF, 0xFFFFFFFF, 0x00000000, 0x00000000⟩,
  ⟨0x108, 0xFFFFFFFF, 0xFFFFFFFF, 0x00000000, 0x00000000⟩,
  ⟨0x10C, 0x00000000, 0x00000000, 0x00000000, 0x00000000⟩,
  ⟨0x110, 0x00000777, 0x00000000, 0x00000000, 0x00000000⟩,
  ⟨0x114, 0xFFFFFFFF, 0x00000000, 0x00000000, 0x00000000⟩,
  ⟨0x118, 0x0007FFFF, 0x00000000, 0x00000000, 0x00000000⟩]

namespace Reg
abbrev fioCtrl : Nat := 0x7C040
abbrev fioSel : Nat := 0x7C044
abbrev fioCfg : Nat := 0x7C048
abbrev fioIn : Nat := 0x7C04C
abbrev fioOut : Nat := 0x7C050
abbrev fioRb : Nat := 0x7C054
abbrev fioFault : Nat := 0x7C058
abbrev fioSafe : Nat := 0x7C05C
abbrev fioCmd : Nat := 0x7C060
abbrev fioLplus : Nat := 0x7C064
abbrev fioCnt : Nat := 0x7C068
end Reg

/-- The register table of the FIO page. -/
def regsFio : List RegSpec := [
  ⟨0x040, 0x000003FF, 0x00000000, 0x000003FF, 0x00000000⟩,
  ⟨0x044, 0x0000000F, 0x0000000F, 0x00000000, 0x00000000⟩,
  ⟨0x048, 0x000003FF, 0x00000000, 0x000003FC, 0x00000000⟩,
  ⟨0x04C, 0xFFFFFFFF, 0x00000000, 0x00000000, 0x00000000⟩,
  ⟨0x050, 0xFFFFFFFF, 0x00000000, 0x00000000, 0x00000000⟩,
  ⟨0x054, 0xFFFFFFFF, 0x00000000, 0x00000000, 0x00000000⟩,
  ⟨0x058, 0xFFFFFFFF, 0x00000000, 0x00000000, 0x00000000⟩,
  ⟨0x05C, 0xFFFFFFFF, 0x00000000, 0x00000000, 0x00000000⟩,
  ⟨0x060, 0x00000000, 0x00000000, 0x00000000, 0x00000000⟩,
  ⟨0x064, 0xFFFF3FFF, 0x00000000, 0x00000000, 0x00000000⟩,
  ⟨0x068, 0xFFFF0007, 0x00000000, 0x00000000, 0x00000000⟩]

namespace Reg
abbrev loopCfg : Nat := 0x7D040
abbrev loopApp : Nat := 0x7D044
abbrev loopStat : Nat := 0x7D048
abbrev loopMeas : Nat := 0x7D04C
abbrev loopTest : Nat := 0x7D050
abbrev loopCnt : Nat := 0x7D054
end Reg

/-- The register table of the LOOP page. -/
def regsLoop : List RegSpec := [
  ⟨0x040, 0x0000FFF3, 0x00000000, 0x0000FFF3, 0x00000000⟩,
  ⟨0x044, 0x03FFFFFF, 0x00000000, 0x03FFFFFF, 0x00000000⟩,
  ⟨0x048, 0x0003FFFF, 0x00000000, 0x00000000, 0x00000000⟩,
  ⟨0x04C, 0xFFFF7FFF, 0x00000000, 0x00000000, 0x00000000⟩,
  ⟨0x050, 0x0000FFFF, 0x0000FFFF, 0x00000000, 0x00000000⟩,
  ⟨0x054, 0xFFFFFFFF, 0x00000000, 0x00000000, 0x00000000⟩]

namespace Reg
abbrev dbgCtrl : Nat := 0x7F040
abbrev dbgStat : Nat := 0x7F044
abbrev dbgIdcode : Nat := 0x7F048
abbrev dbgReads : Nat := 0x7F04C
end Reg

/-- The register table of the DBG page. -/
def regsDbg : List RegSpec := [
  ⟨0x040, 0x00000001, 0x00000000, 0x00000001, 0x00000000⟩,
  ⟨0x044, 0xFFFF0007, 0x00000000, 0x00000000, 0x00000000⟩,
  ⟨0x048, 0xFFFFFFFF, 0x00000000, 0x00000000, 0x00000000⟩,
  ⟨0x04C, 0xFFFFFFFF, 0x00000000, 0x00000000, 0x00000000⟩]

/-- The register table of a kind of page. -/
def PageClass.regs : PageClass → List RegSpec
  | .pClk => regsClk
  | .pTim => regsTim
  | .pBrd => regsBrd
  | .pBsq => regsBsq
  | .pLane => regsLane
  | .pCmp => regsCmp
  | .pGmb => regsGmb
  | .pImg => regsImg
  | .pMmu => regsMmu
  | .pMov => regsMov
  | .pRing => regsRing
  | .pMb => regsMb
  | .pMbg => regsMbg
  | .pMbs => regsMbs
  | .pDxl => regsDxl
  | .pPair => regsPair
  | .pIlk => regsIlk
  | .pHlt => regsHlt
  | .pRst => regsRst
  | .pSys => regsSys
  | .pSec => regsSec
  | .pRec => regsRec
  | .pUpd => regsUpd
  | .pStw => regsStw
  | .pHst => regsHst
  | .pHap => regsHap
  | .pCan => regsCan
  | .pFio => regsFio
  | .pLoop => regsLoop
  | .pDbg => regsDbg

/-- The number of interrupt bits a kind of page defines, from bit 0 up; the others are RSV. -/
def PageClass.irqBits : PageClass → Nat
  | .pClk => 18
  | .pTim => 6
  | .pBrd => 4
  | .pBsq => 10
  | .pLane => 3
  | .pCmp => 6
  | .pGmb => 5
  | .pImg => 5
  | .pMmu => 2
  | .pMov => 1
  | .pRing => 3
  | .pMb => 6
  | .pMbg => 5
  | .pMbs => 3
  | .pDxl => 4
  | .pPair => 7
  | .pIlk => 5
  | .pHlt => 5
  | .pRst => 2
  | .pSys => 2
  | .pSec => 1
  | .pRec => 8
  | .pUpd => 6
  | .pStw => 1
  | .pHst => 3
  | .pHap => 5
  | .pCan => 8
  | .pFio => 8
  | .pLoop => 3
  | .pDbg => 1

end Sys2Proof.Machine
end

