-- ==== Sys2Proof/Machine/ResetValues.lean ====
section
/-! DEFINITION. What the module holds after reset: the register values that are not 0 and the reset
value of every structure of the state. A module fresh from the factory whose flashes are erased and
whose pins name Partner A (assumption 2). -/

namespace Sys2Proof.Machine

/-! ### Registers: the registers whose reset value is not 0, by key (the reset columns of the register tables; R35 for
 CLK_LIM). SYS_ID, SYS_SLOT, HST_MAC and DBG_IDCODE take the pins and the identity of assumption 2. -/

/-- Registers with a reset value other than 0, part 1. -/
def regReset1 : List (Nat × Word) := [
  (0x0000040, 0x00006216), (0x000004C, 0x00000002), (0x0001040, 0x00000001), (0x0002054, 0x020A01F6),
  (0x0002058, 0x00000200), (0x0003060, 0x00001040), (0x0004040, 0x00000004),
  (0x0018040, 0x00000003), (0x001A040, 0x0418003C), (0x0060080, 0x00131823),
  (0x0069040, 0x00000003), (0x006905C, 0x00100000), (0x0070040, 0x000003E8),
  (0x0071048, 0x56000000), (0x007104C, 0x00000641), (0x0072040, 0x00035047),
  (0x0074040, 0x00000008), (0x007407C, 0x00100000), (0x0075058, 0x961F47D0),
  (0x0076040, 0x00006E00), (0x0078044, 0x04892604)]

/-- Registers with a reset value other than 0, part 2. -/
def regReset2 : List (Nat × Word) := [
  (0x0078048, 0x94441200), (0x0078054, 0x00400000), (0x0079044, 0x04892604),
  (0x0079048, 0x94441200), (0x0079054, 0x00400000), (0x007C040, 0x00000064),
  (0x007C048, 0x0000000C), (0x007D040, 0x00007D00), (0x007D048, 0x00000E10),
  (0x007F040, 0x00000001), (0x007F048, 0x06216BA7), (0x0102054, 0x20A31F5D),
  (0x017C048, 0x0000000C), (0x0202054, 0x40A33F5D), (0x027C048, 0x0000000C),
  (0x0302054, 0x0A1909E7), (0x037C048, 0x0000000C), (0x0402054, 0x01A10192),
  (0x047C048, 0x0000000C), (0x0502054, 0x1F901EF0)]

/-- Registers with a reset value other than 0, part 3. -/
def regReset3 : List (Nat × Word) := [
  (0x057C048, 0x0000000C), (0x0602054, 0x81477EB8), (0x067C048, 0x0000000C),
  (0x0702054, 0x81477EB8), (0x077C048, 0x0000000C), (0x0802054, 0x81477EB8),
  (0x087C048, 0x0000000C), (0x0902054, 0x81477EB8), (0x097C048, 0x0000000C),
  (0x0A02054, 0x0CA00C60), (0x0A7C048, 0x0000000C), (0x0B02054, 0x0CA00C60),
  (0x0B7C048, 0x0000000C), (0x0C02054, 0x0CA00C60), (0x0C7C048, 0x0000000C),
  (0x0D02054, 0x0CA00C60), (0x0D7C048, 0x0000000C), (0x0E02054, 0x0CA00C60),
  (0x0E7C048, 0x0000000C), (0x0F02054, 0x0CA00C60)]

/-- Registers with a reset value other than 0, part 4. -/
def regReset4 : List (Nat × Word) := [
  (0x0F7C048, 0x0000000C), (0x1002054, 0x0CA00C60), (0x1102054, 0x0CA00C60)]

/-- The registers with a reset value other than 0, keys rising. -/
def regReset : List (Nat × Word) := regReset1 ++ regReset2 ++ regReset3 ++ regReset4

/-! ### The structures of the state -/

/-- The time base after a reset of SEQ: global time starts at 0, UNSYNC (R44, R52). -/
def TimeBase.reset : TimeBase :=
  { gt := 0, trim := 0, slewTotal := 0, slewCycle := 0, slewMoved := false, slewRest := 0, state := .unsync, epoch := 0, epochSet := false
    roundStart := 0, begun := false, meas := [], search := [], kept := [], good := 0, noCorr := 0, inState := 0
    nValid := 0, kSel := 0, extFresh := false, extNew := false, stepPend := none, hold := none, corrected := false }

/-- The per-round record lists, empty. -/
def RoundLog.empty : RoundLog := { late := [], drop := [], slip := [], ovr := [] }

/-- The sequencer after a reset of SEQ: OFF (R111). -/
def Seqr.reset : Seqr :=
  { state := .off, stopPend := false, applied := 0, pending := 0, rerun := 0, walk := none, walkNext := none
    log := .empty, comAt := 0, comWords := [], fDone := none, kick := 0, cmdAt := 0, pendAt := 0, pendOld := 0, switched := none }

/-- The board store of a module that has no board (R103). -/
def Boards.reset : Boards :=
  { activeArea := [], standbyArea := [], active := .none, standby := .empty, act := none, stb := none
    running := none, writing := [], busyAt := 0, loadDue := true, rolesDirty := false }

/-- The architectural registers of a lane after reset (assumption 2). -/
def Core.reset : Core := { g := Vector.replicate 32 0, pc := 0, qa := 0, tc := 0 }

/-- An empty write log (R149). -/
def WriteLog.empty : WriteLog := { lines := [], dtcm := [], words := [], imem := [], qual := [] }

/-- A lane after a reset of its domain (R193). -/
def Lane.reset : Lane :=
  { state := .idle, act := .none, main := .reset, shadow := .reset, lastPc := 0, ply := none, start := 0, window := 0
    cyc := 0, log := .empty, jobStat := 0, jobLast := (0, 0), bgLost := false, busy := none, ready := 0, stuck := false, deferred := false, halted := false
    benchReq := .none, benchAt := 0, test := .none, testEnd := 0, rolls := 0, owner := none, readSet := [], shadowBuf := [], trace := []
    history := [] }

/-- A gambit context that is not open (R202). -/
def GmbCtx.reset : GmbCtx :=
  { isOpen := false, spoiled := none, spoilAt := 0, overdue := false, forced := false, mask := [], staged := [], result := none }

/-- A task before its first period (R258). -/
def TaskRun.reset : TaskRun :=
  { late := false, trapped := false, moverEv := false, enabled := [], landed := [], missed := [], pub := none
    agreed := false }

/-- No page is retired (R230). -/
def Retire.reset : Retire := { table := [], copying := [], counts := [], refused := [] }

/-- The reset controller at power-on: the power-on source is asserted (R390, R411). -/
def ResetCtl.reset : ResetCtl :=
  { on := 1, running := true, reach := 0, sources := 1, next := 0, optBusy := false, optDone := false
    warmAsSys := false, was := .boot, firstRel := 0, lastRel := 0, stretch := 0, coldRel := true, optAt := 0, cycled := false
    code := 1, xtal := false
    clkAt := Vector.replicate 20 none }

/-- Erased boot flash, unburnt fuses, empty key slots (assumption 2). -/
def BootMem.reset : BootMem :=
  { opt1 := [], opt2 := [], fuse := 0, fuseBlk := 0, ext1 := [], ext2 := [], root0 := [], root1 := []
    extKey := [], keys := Vector.replicate 8 [] }

/-- The network block after a reset of NET. -/
def Net.reset : Net :=
  { slots := [], txBuf := [], ownSeq := [], grants := [], passSlot := 0, windows := []
    leadRound := false, portHist := [], blocks := [], back := [], lostDue := [], active := []
    ending := false, usable := false, heard := false, rounds := 0, fresh := false }

/-- The redundancy manager after a reset of SEQ and NET. -/
def Pair.reset : Pair :=
  { own := [], partner := [], seqOut := Vector.replicate 4 0, seqIn := Vector.replicate 4 0, goodRun := 0
    fwdRound := 0, lostRound := 0, latches := [], digAcc := Vector.replicate 16 0, digOwn := []
    digPart := [], digStart := Vector.replicate 16 0, faultAt := [], check := none, pulseRsn := none, castle := none
    xfer := none, reqId := [], joinDone := false, fromBoot := false, xferAt := 0, lockAt := 0, heardRsn := 0, joinLand := 0, leadRel := false, joinRel := false
    episode := false, change := none, expect := [], downIn := false, replaced := false, plant := [], late := 0, squash := 0 }

/-- The recorder of a new module: 64 erased segments (R428). -/
def Recorder.reset : Recorder :=
  { segs := List.replicate 64 ⟨.erased, []⟩, wseg := 0, lastOp := 0, opened := 0, due := [], queue := []
    drops := [], reading := none }

/-- An empty settings area, with the defaults of R59, R479 and R501. -/
def Settings.reset : Settings := { fmts := [], regs := [], targets := [], domain := 0, delays := [1000, 1000] }

/-- The update engine of a new module: bank A CONFIRMED, bank B EMPTY (R445). -/
def Update.reset : Update :=
  { state := .idle, runB := false, imgA := [], imgB := [], bankA := .confirmed, bankB := .empty
    running := none, copy1 := some (.confirmed, .empty), copy2 := some (.confirmed, .empty), copyNs := none, copyOld := none
    stw := ⟨false, 0, none⟩, ret := false, verified := 0, ready := false, libPend := false
    deadline := 0, failCause := 0, failCode := 0, useForward := false, setA := .reset, setB := .reset
    hoLen := 0, hoLate := 0, swapped := false, half := false, hoStart := 0 }

/-- An empty host key slot (R467). -/
def KeySlot.reset : KeySlot := { key := [], high := 0, seen := [], send := 0 }

/-- The host interface of a new module. -/
def HostIf.reset : HostIf :=
  { slots := Vector.replicate 8 .reset, stage := Vector.replicate 8 0, reasm := [], orphans := []
    boardClaim := none, imageClaim := none, fire := none, armEnd := 0, drops := Vector.replicate 8 0, table := []
    stamps := [], ptp := .listening, ptpPort := 0, domain := 0, ptpSync := none, ptpReq := none, ptpDelay := 0, ptpSeq := 0
    malformed := 0, wedgeAt := none, targets := [], wdtPaused := false, wdtEnd := 0, wdtWarned := false, sumAt := 0 }

/-- A chassis bus channel after reset. -/
def CanCh.reset : CanCh :=
  { q0 := [], q1 := [], seq := 0, onBus := none, foreign := false, released := false, abort := false, first := none, hist := [], noAcked := false, offAt := 0
    delayMs := 1000 }

/-- A field channel after reset. -/
def FioCh.reset : FioCh :=
  { cand := false, candN := 0, brk := false, brkN := 0, qsafe := false, last := false, latch := false, warm := false, lead := false
    refAt := 0, swAt := 0, retryAt := 0, fresh := false }

/-- The field block after reset. -/
def FieldIo.reset : FieldIo :=
  { ch := Vector.replicate 16 .reset, lowSeen := false, lowEp := false, healthy := false, reserve := 0, testEnd := 0
    healthAt := 0, lpAt := 0, lpFell := false, lpGood := none, complAt := 0 }

/-- The test access port in Test-Logic-Reset: IDCODE is the instruction. -/
def Jtag.reset : Jtag := { code := 2, boundary := [], data := 0, bypass := false, ident := 0x06216BA7 }

end Sys2Proof.Machine
end

