-- ==== Sys2Proof/Machine/State.lean ====
section
/-! DEFINITION. The state of the module as plain data, its faults and refusals, and the state right
after reset. -/

namespace Sys2Proof.Machine

/-- A memory: addresses strictly rising, no entry equal to what an unlisted address reads as. -/
abbrev Memory := List Host.Cell

/-- The register file: register keys strictly rising; a key that is not listed reads 0. -/
abbrev RegFile := List (Nat × Word)

/-- No command stops the module with a fault: every error the manual describes is logged in a page,
recorded, or acted on (R9 to R21). The type has no constructor. -/
inductive Fault where
  deriving DecidableEq, Repr

/-- Why the model refuses a command. -/
inductive Refusal where
  /-- Raised by exec's arm of a command that has no meaning yet; safe. -/
  | notModelled (mnemonic : String)
  deriving DecidableEq, Repr

/-- The state of the module. -/
structure State where
  pending : List Instr          -- commands that wait, first in, first out
  regs    : RegFile             -- every register that is not computed from the fields below
  mem     : Memory              -- IMEM, IMEM quality, lane TCMs, MRAM, DRAM by physical address (R221)
  poison  : List Nat            -- physical word addresses of poisoned words (R229)
  state   : ModState            -- the module state (R22, R330)
  option  : Bytes               -- the option record in use, 128 bytes (R403, R404)
  opTime  : BitVec 48           -- operating time in ms (R402)
  opFrac  : Nat                 -- half ns of the running millisecond of operating time
  opSaved : BitVec 48           -- operating time as last written to retention memory (R402)
  time    : TimeBase
  boards  : Boards
  seqr    : Seqr
  lanes   : Vector Lane 16
  gmb     : Vector GmbCtx 16
  tasks   : Vector TaskRun 16
  written : List Nat            -- IMEM words with a written mark, by word number (R260)
  movers  : List MoverXfer
  descs   : List DescRun
  ringTurn : Vector Nat 4       -- for each PRIO, the ring at which the next turn begins (R247)
  tlb     : List TlbEntry
  retire  : Retire
  retMark : List Nat            -- retained MRAM lines with a written mark (R543)
  migr    : Option Migration
  invAt   : Nat                 -- ns of operating time at which the running TLB invalidation began (R383)
  regionW : List (Nat × Word)   -- accepted writes of regions 13 to 15 that wait (R238), by key
  events  : List Event          -- events raised, oldest first, not yet admitted (R436)
  lineDead : Nat                -- operating time in ns at which the partner line went dead (R351)
  ownFall : List Nat            -- operating time in ns of the last two falling edges of the own line, newest first (R351)
  rst     : ResetCtl
  boot    : BootMem
  net     : Net
  pair    : Pair
  sdPend  : List (Nat × Bool)   -- stand-down causes that have arisen (R377), oldest first, and whether each has been pending
  wedged  : List Nat            -- pages whose wedge episode has been reported (R383)
  rcd     : Recorder
  upd     : Update
  host    : HostIf
  can     : Vector CanCh 2
  fio     : FieldIo
  jtag    : Jtag
  out     : List Output         -- what the block has sent to the outside, oldest first
  free    : Nat                 -- the model's own: how many free values have been taken
  deriving DecidableEq, Repr

/-- The module right after reset: the power-on source has just asserted and no domain is released
(R390, R393). Register values are those of the register tables, with RST_CAUSE 1 (R419); what no rule
gives is named by assumption 2. -/
def State.reset : State :=
  { pending := [], regs := regReset1 ++ regReset2 ++ regReset3 ++ regReset4, mem := [], poison := []
    state := .boot, option := List.replicate 128 0, opTime := 0, opFrac := 0, opSaved := 0
    time := .reset, boards := .reset, seqr := .reset, lanes := Vector.replicate 16 .reset
    gmb := Vector.replicate 16 .reset, tasks := Vector.replicate 16 .reset, written := [], movers := []
    descs := [], ringTurn := Vector.replicate 4 0, tlb := [], retire := .reset, retMark := [], migr := none, invAt := 0, regionW := [], events := []
    lineDead := 0, ownFall := [], rst := .reset, boot := .reset, net := .reset, pair := .reset, sdPend := [], wedged := []
    rcd := .reset, upd := .reset, host := .reset, can := Vector.replicate 2 .reset, fio := .reset
    jtag := .reset, out := [], free := 0 }

end Sys2Proof.Machine
end

