-- ==== Sys2Proof/Machine/Ops.lean ====
section
/-! DEFINITION. The named operations over bits, bytes, tables, memory and registers that every
meaning is built from. -/

namespace Sys2Proof.Machine

/-! ### Bits and bytes (R4, R5) -/

/-- The bit range [hi:lo] of a word as a number (R4). -/
def bits (w : Word) (hi lo : Nat) : Nat := (w.toNat >>> lo) % 2 ^ (hi + 1 - lo)

/-- A word with the bit range [hi:lo] replaced by `v` (R4). -/
def withBits (w : Word) (hi lo v : Nat) : Word :=
  let m := BitVec.ofNat 32 ((2 ^ (hi + 1 - lo) - 1) <<< lo)
  (w &&& ~~~m) ||| (BitVec.ofNat 32 (v <<< lo) &&& m)

/-- Bit `i` of a word. -/
def bit (w : Word) (i : Nat) : Bool := w.getLsbD i

/-- The word with bit `i` alone. -/
def oneBit (i : Nat) : Word := BitVec.ofNat 32 (2 ^ i)

/-- 1 for true, 0 for false. -/
def b2n (b : Bool) : Nat := if b then 1 else 0

/-- The number that bytes spell, least significant byte first (R5). -/
def leNat : Bytes → Nat
  | [] => 0
  | b :: r => b.toNat + 256 * leNat r

/-- The number that bytes spell in network order (R5). -/
def beNat (l : Bytes) : Nat := leNat l.reverse

/-- The `n` bytes of a number, least significant first (R5). -/
def toLe : Nat → Nat → Bytes
  | 0, _ => []
  | n + 1, v => BitVec.ofNat 8 v :: toLe n (v / 256)

/-- The `n` bytes of a number in network order (R5). -/
def toBe (n v : Nat) : Bytes := (toLe n v).reverse

/-- `n` bytes of `l` from offset `ofs`. -/
def slice (l : Bytes) (ofs n : Nat) : Bytes := (l.drop ofs).take n

/-- The little-endian field of `n` bytes at `ofs`. -/
def leAt (l : Bytes) (ofs n : Nat) : Nat := leNat (slice l ofs n)

/-- The big-endian field of `n` bytes at `ofs`. -/
def beAt (l : Bytes) (ofs n : Nat) : Nat := beNat (slice l ofs n)

/-- The four bytes of a word. -/
def wordBytes (w : Word) : Bytes := toLe 4 w.toNat

/-- The word that four bytes spell. -/
def bytesWord (l : Bytes) : Word := BitVec.ofNat 32 (leNat l)

/-- `n` zero bytes. -/
def zeros (n : Nat) : Bytes := List.replicate n 0

/-- The signed 32-bit difference of R6 is above 0: `a` is later than `b`. -/
def later (a b : Word) : Bool := 0 < (a - b).toInt

/-- `a` is at most `n` later than `b`, and not earlier (R6). -/
def within (a b : Word) (n : Nat) : Bool := decide (0 ≤ (a - b).toInt ∧ (a - b).toInt ≤ n)

/-- `a` is later than `b` for global times (R7). -/
def later64 (a b : BitVec 64) : Bool := 0 < (a - b).toInt

/-- Rounds `n / d` to the nearest integer, half to even (R546); `d` is positive. -/
def roundHalfEven (n : Int) (d : Nat) : Int :=
  let q := n.fdiv d
  let r := n - q * d
  if 2 * r < d then q
  else if 2 * r > d then q + 1
  else if q % 2 = 0 then q else q + 1

/-- Increment that stops at `lim`. -/
def satInc (lim n : Nat) : Nat := if n < lim then n + 1 else lim

/-! ### Tables by key -/

/-- The value of key `k` in a table with rising keys; `d` where the table has none. -/
def tget {β : Type} (d : β) : List (Nat × β) → Nat → β
  | [], _ => d
  | (a, x) :: r, k => if k < a then d else if k = a then x else tget d r k

/-- The table with the value of key `k` set. -/
def tput {β : Type} : List (Nat × β) → Nat → β → List (Nat × β)
  | [], k, v => [(k, v)]
  | (a, x) :: r, k, v =>
    if k < a then (k, v) :: (a, x) :: r
    else if k = a then (k, v) :: r
    else (a, x) :: tput r k v

/-- The value of a key, if the table lists it. -/
def tfind {β : Type} : List (Nat × β) → Nat → Option β
  | [], _ => none
  | (a, x) :: r, k => if k < a then none else if k = a then some x else tfind r k

/-- The count of key `k` in a table of counts, one more. -/
def tinc (l : List (Nat × Nat)) (k : Nat) : List (Nat × Nat) := tput l k (tget 0 l k + 1)

/-- A sorted set of numbers with `k` put in. -/
def sins : List Nat → Nat → List Nat
  | [], k => [k]
  | a :: r, k => if k < a then k :: a :: r else if k = a then a :: r else a :: sins r k

/-- A sorted set of numbers with `k` taken out. -/
def sdel (l : List Nat) (k : Nat) : List Nat := l.filter (fun a => a != k)

/-- An element put before the first of a list that it does not come after. -/
def sortPut {α : Type} (le : α → α → Bool) (a : α) : List α → List α
  | [] => [a]
  | b :: l => if le a b then a :: b :: l else b :: sortPut le a l

/-- A list in the order `le`; elements that are equal in it keep their order. -/
def sortBy {α : Type} (le : α → α → Bool) (l : List α) : List α := l.foldr (sortPut le) []

/-- Element `i` of a list after replacing it by `f` of it. -/
def modAt {α : Type} (l : List α) (i : Nat) (f : α → α) : List α := l.modify i f

/-! ### Memory (R221) -/

/-- What a byte that nothing has written reads as. DESIGN CHOICE 0 (assumption 3): the manual gives
no contents of RAM after power-on. -/
def Memory.unlisted : Byte := 0

/-- The byte at a physical address. -/
def Memory.byte (m : Memory) (a : Nat) : Byte := tget Memory.unlisted m a

/-- The memory with the byte at `a` set; an entry equal to what an unlisted address reads as is removed. -/
def Memory.setByte : Memory → Nat → Byte → Memory
  | [], a, v => if v = Memory.unlisted then [] else [(a, v)]
  | (b, x) :: r, a, v =>
    if a < b then (if v = Memory.unlisted then (b, x) :: r else (a, v) :: (b, x) :: r)
    else if a = b then (if v = Memory.unlisted then r else (a, v) :: r)
    else (b, x) :: Memory.setByte r a v

/-- The canonical form from a lower bound on: addresses rise and no entry is the unlisted value. -/
def Memory.wfFrom : Nat → Memory → Bool
  | _, [] => true
  | lo, (a, v) :: r => decide (lo ≤ a) && v != Memory.unlisted && Memory.wfFrom (a + 1) r

/-- The canonical form of a memory. -/
def Memory.wf (m : Memory) : Bool := Memory.wfFrom 0 m

/-- `n` bytes from address `a`. -/
def Memory.read (m : Memory) (a : Nat) : Nat → Bytes
  | 0 => []
  | n + 1 => m.byte a :: Memory.read m (a + 1) n

/-- The memory with the bytes `l` written from address `a` on, in ascending order. -/
def Memory.write (m : Memory) (a : Nat) : Bytes → Memory
  | [] => m
  | b :: r => Memory.write (m.setByte a b) (a + 1) r

/-- The little-endian word at `a` (R5). -/
def Memory.word (m : Memory) (a : Nat) : Word := bytesWord (m.read a 4)

/-- The memory with the word at `a` set (R5). -/
def Memory.setWord (m : Memory) (a : Nat) (w : Word) : Memory := m.write a (wordBytes w)

/-- `n` copies of byte `b` written from `a` on. -/
def Memory.fill (m : Memory) (a n : Nat) (b : Byte) : Memory := m.write a (List.replicate n b)

/-- The memory with every byte of [a, a + n) reading as unlisted. -/
def Memory.clear (m : Memory) (a n : Nat) : Memory := m.filter (fun c => c.1 < a || a + n ≤ c.1)

/-- Physical base of IMEM (R221). -/
abbrev imemBase : Nat := 0x08000000
/-- Physical base of the IMEM quality view (R221). -/
abbrev qualBase : Nat := 0x0C000000
/-- Physical base of the TCMs of lane `n` (R221). -/
abbrev laneBase (n : Nat) : Nat := 0x10000000 + n * 0x01000000
/-- Physical base of MRAM (R221). -/
abbrev mramBase : Nat := 0x40000000
/-- First DRAM address (R222). -/
abbrev dramBase : Nat := 0x100000000
/-- First address after the DRAM data space (R221). -/
abbrev dramEnd : Nat := 0x4C0000000
/-- Board working copy of the active (0) and the standby (1) board (R222). -/
abbrev boardCopyBase : Nat := 0x200000000
/-- Board staging area (R222). -/
abbrev boardStaging : Nat := 0x220000000
/-- Firmware staging (R222). -/
abbrev fwStaging : Nat := 0x230000000
/-- Background memory (R222). -/
abbrev bgMem : Nat := 0x240000000
/-- Spare page pool (R222). -/
abbrev sparePool : Nat := 0x4BC000000

/-- The poisoned 32-bit word at `p` belongs to a word that lies whole in [a, a + n): SECDED covers 64 bits in DRAM, 32
elsewhere (R227, R229). -/
def wholeIn (p a n : Nat) : Bool :=
  if dramBase ≤ p then decide (a ≤ p / 8 * 8 ∧ p / 8 * 8 + 8 ≤ a + n) else decide (a ≤ p ∧ p + 4 ≤ a + n)

/-- Writes bytes to physical memory; a word that is written whole loses its poison mark (R229). -/
def State.writeMem (s : State) (a : Nat) (l : Bytes) : State :=
  { s with mem := s.mem.write a l, poison := s.poison.filter (fun p => !wholeIn p a l.length) }

/-- Some word that overlaps [a, a + n) is poisoned (R229). -/
def State.poisoned (s : State) (a n : Nat) : Bool :=
  s.poison.any (fun p => decide (p < a + n) && decide (a < p + 4))

/-! ### Registers (R12, R13) -/

namespace Reg
/-- PG_CTRL of page `p` (R13), and the further header registers below. -/
abbrev pgCtrl (p : Nat) : Nat := p * 0x1000 + 0x004
abbrev pgIrqEn (p : Nat) : Nat := p * 0x1000 + 0x010
abbrev pgIrq (p : Nat) : Nat := p * 0x1000 + 0x014
abbrev pgLock (p : Nat) : Nat := p * 0x1000 + 0x018
abbrev pgErr (p : Nat) : Nat := p * 0x1000 + 0x01C
abbrev pgErrInfo (p : Nat) : Nat := p * 0x1000 + 0x020
/-- The copy of a register that a select register indexes. -/
abbrev bank (i k : Nat) : Nat := i * 0x100000 + k
end Reg

/-- The page numbers of the blocks (R537). -/
abbrev pSYS : Nat := 0x00
abbrev pRST : Nat := 0x01
abbrev pCLK : Nat := 0x02
abbrev pTIM : Nat := 0x03
abbrev pBSQ : Nat := 0x04
abbrev pBRD : Nat := 0x05
abbrev pLANE (n : Nat) : Nat := 0x08 + n
abbrev pCMP : Nat := 0x18
abbrev pGMB : Nat := 0x19
abbrev pIMG : Nat := 0x1A
abbrev pMMU : Nat := 0x1B
abbrev pMOV : Nat := 0x1C
abbrev pRING (n : Nat) : Nat := 0x20 + n
abbrev pMB (n : Nat) : Nat := 0x60 + n
abbrev pMBG : Nat := 0x62
abbrev pMBS : Nat := 0x63
abbrev pDXL : Nat := 0x68
abbrev pPAIR : Nat := 0x69
abbrev pILK : Nat := 0x6A
abbrev pSTW : Nat := 0x70
abbrev pHST : Nat := 0x71
abbrev pHAP : Nat := 0x72
abbrev pREC : Nat := 0x74
abbrev pUPD : Nat := 0x75
abbrev pHLT : Nat := 0x76
abbrev pCAN (n : Nat) : Nat := 0x78 + n
abbrev pFIO : Nat := 0x7C
abbrev pLOOP : Nat := 0x7D
abbrev pSEC : Nat := 0x7E
abbrev pDBG : Nat := 0x7F

/-- The register of key `k`. -/
def State.reg (s : State) (k : Nat) : Word := tget 0 s.regs k

/-- The state with the register of key `k` set. -/
def State.setReg (s : State) (k : Nat) (v : Word) : State := { s with regs := tput s.regs k v }

/-- The field [hi:lo] of a register. -/
def State.fld (s : State) (k hi lo : Nat) : Nat := bits (s.reg k) hi lo

/-- The state with the field [hi:lo] of a register set. -/
def State.setFld (s : State) (k hi lo v : Nat) : State := s.setReg k (withBits (s.reg k) hi lo v)

/-- A count field that stops at its largest value. -/
def State.incSat (s : State) (k hi lo : Nat) : State :=
  s.setFld k hi lo (satInc (2 ^ (hi + 1 - lo) - 1) (s.fld k hi lo))

/-- A count field that wraps. -/
def State.incWrap (s : State) (k hi lo : Nat) : State :=
  s.setFld k hi lo ((s.fld k hi lo + 1) % 2 ^ (hi + 1 - lo))

/-- A field that keeps the largest value it was given. -/
def State.peak (s : State) (k hi lo v : Nat) : State :=
  if s.fld k hi lo < v then s.setFld k hi lo (min v (2 ^ (hi + 1 - lo) - 1)) else s

/-- An interrupt bit of page `p` rises: PG_IRQ latches it if it is enabled (R14). -/
def State.raise (s : State) (p b : Nat) : State :=
  if bit (s.reg (Reg.pgIrqEn p)) b then s.setReg (Reg.pgIrq p) (s.reg (Reg.pgIrq p) ||| oneBit b) else s

/-- Page `p` logs an error: the first code and its detail are kept, the count rises and stops (R18). -/
def State.logErr (s : State) (p code : Nat) (info : Word) : State :=
  let e := s.reg (Reg.pgErr p)
  let n := satInc 0xFFFF (bits e 31 16)
  if bits e 15 0 = 0 then
    (s.setReg (Reg.pgErr p) (BitVec.ofNat 32 (n * 0x10000 + code))).setReg (Reg.pgErrInfo p) info
  else s.setReg (Reg.pgErr p) (withBits e 31 16 n)

/-- A write that the block forbids in its present state logs 0x0005 with the register's offset (R21). -/
def State.refuse (s : State) (k : Nat) : State :=
  s.logErr (k / 0x1000 % 0x100) 0x0005 (BitVec.ofNat 32 (k % 0x1000))

/-- The page is locked (R16). -/
def State.locked (s : State) (p : Nat) : Bool := bit (s.reg (Reg.pgLock p)) 0

/-! ### Lanes, contexts, tasks -/

/-- A lane replaced by `f` of it. -/
def State.modLane (s : State) (n : Fin 16) (f : Lane → Lane) : State :=
  { s with lanes := s.lanes.set n (f s.lanes[n]) }

/-- At operating time `t` ns the lane saves or restores (R135, R174, R213); one that is wedged does so until a reset
(R383, R384). -/
def Lane.busy3 (l : Lane) (t : Nat) : Bool := l.stuck || l.busy.any (fun b => decide (t < b.till))

/-- The lane saves a job at operating time `t` ns. -/
def Lane.saving (l : Lane) (t : Nat) : Bool := l.busy.any (fun b => b.save && decide (t < b.till))

/-- What a lane does at operating time `t` ns (LANE_STATE ACT, R174). -/
def Lane.actAt (l : Lane) (t : Nat) : LaneAct := if l.busy3 t then .busy else l.act

/-- A save or a restore of `d` ns begins at operating time `t` ns, after one that is still under way. -/
def Lane.begin3 (l : Lane) (save : Bool) (t d : Nat) : Lane :=
  { l with busy := some (match l.busy with
    | some b => if t < b.till then ⟨save, b.since, b.till + d⟩ else ⟨save, t, t + d⟩
    | none => ⟨save, t, t + d⟩) }

/-- The length in ns of `k` LCLK cycles, counted at 79 a pip and rounded up (assumption 95). -/
def lclkNs (k : Nat) : Nat := (50 * k + 78) / 79

/-- The lane belongs to the context of task `t` (R202). -/
def Lane.inCtx (l : Lane) (t : Fin 16) : Bool := l.owner == some t.val

/-- A gambit context replaced by `f` of it. -/
def State.modCtx (s : State) (t : Fin 16) (f : GmbCtx → GmbCtx) : State :=
  { s with gmb := s.gmb.set t (f s.gmb[t]) }

/-- A task's period data replaced by `f` of it. -/
def State.modTask (s : State) (t : Fin 16) (f : TaskRun → TaskRun) : State :=
  { s with tasks := s.tasks.set t (f s.tasks[t]) }

/-- The network data replaced by `f` of it. -/
def State.modNet (s : State) (f : Net → Net) : State := { s with net := f s.net }

/-- The pair data replaced by `f` of it. -/
def State.modPair (s : State) (f : Pair → Pair) : State := { s with pair := f s.pair }

/-- The time base replaced by `f` of it. -/
def State.modTime (s : State) (f : TimeBase → TimeBase) : State := { s with time := f s.time }

/-- The sequencer replaced by `f` of it. -/
def State.modSeqr (s : State) (f : Seqr → Seqr) : State := { s with seqr := f s.seqr }

/-- The fold of `f` over the 16 lanes (or tasks), in ascending order. -/
def over16 (f : State → Fin 16 → State) (s : State) : State := (List.finRange 16).foldl f s

/-! ### Time (R38 to R41) -/

/-- Length of a round in ns (R40). -/
abbrev roundNs : Nat := 250000

/-- Global time in ns. -/
def State.now (s : State) : BitVec 64 := s.time.gt.extractLsb' 32 64

/-- The pip counter (R39). -/
def State.pipCount (s : State) : Word := BitVec.ofNat 32 (s.now.toNat / 50)

/-- The pip within the round (R40). -/
def State.pipInRound (s : State) : Nat := s.now.toNat / 50 % 5000

/-- The RSN of the round that holds the global time `t` (R41). -/
def TimeBase.rsnAt (tb : TimeBase) (t : BitVec 64) : Word :=
  BitVec.ofInt 32 ((t - tb.epoch).toInt.fdiv roundNs)

/-- The present RSN (R41). -/
def State.rsn (s : State) : Word := s.time.rsnAt s.now

/-- A slew value at BCLK cycle `c` of a slew of `total` units (R546). -/
def slewAt (total : Int) (c : Nat) : Int :=
  let d := total.natAbs
  let u := d / 100000 + b2n (decide (c < d % 100000))
  if c < 100000 then (if total < 0 then -(u : Int) else u) else 0

/-- What a slew of `total` units has applied after `c` of its cycles (R546). -/
def slewGone (total : Int) (c : Nat) : Int :=
  let d := total.natAbs
  let c := min c 100000
  let g : Nat := c * (d / 100000) + min c (d % 100000)
  if total < 0 then -(g : Int) else g

/-- The part of the running slew that is not yet applied (R50). -/
def TimeBase.slewLeft (tb : TimeBase) : Int := tb.slewTotal - slewGone tb.slewTotal tb.slewCycle

/-- The rate without slew, in units of 2^-32 ns per BCLK cycle (R38). -/
def TimeBase.baseRate (tb : TimeBase) : Int := 0x280000000 + tb.trim.toInt

/-- The current rate in units of 2^-32 ns per BCLK cycle (R38). -/
def TimeBase.rate (tb : TimeBase) : Int := tb.baseRate + slewAt tb.slewTotal tb.slewCycle

/-- What global time gains on the next `k` BCLK edges, in units of 2^-32 ns (R38). -/
def TimeBase.gain (tb : TimeBase) (k : Nat) : Int :=
  k * tb.baseRate + (slewGone tb.slewTotal (tb.slewCycle + k) - slewGone tb.slewTotal tb.slewCycle)

/-- By how much the instant `t` lies ahead of global time, in units of 2^-32 ns, as a signed difference (R7). -/
def TimeBase.ahead (tb : TimeBase) (t : BitVec 64) : Int := (BitVec.ofNat 96 (t.toNat * 2 ^ 32) - tb.gt).toInt

/-- The edges, at most `n`, that a gain of `d` takes at rate `r`. -/
def edgesIn (d r : Int) (n : Nat) : Nat := if r ≤ 0 then n else min n ((d + r - 1) / r).toNat

/-- The BCLK edges after which global time has reached or passed the instant `t` (R39): those that carry one unit more,
those that carry the slew, and those after it. -/
def TimeBase.edgesTo (tb : TimeBase) (t : BitVec 64) : Nat :=
  let d := tb.ahead t
  let m := tb.slewTotal.natAbs % 100000
  let r1 := tb.baseRate + slewAt tb.slewTotal 0
  let r2 := tb.baseRate + slewAt tb.slewTotal 99999
  let k1 := edgesIn d r1 (m - tb.slewCycle)
  let d := d - k1 * r1
  let k2 := edgesIn d r2 (100000 - max m tb.slewCycle)
  let d := d - k2 * r2
  k1 + k2 + edgesIn d tb.baseRate (d.toNat)

/-- The present BCLK edge is the first at which global time has reached the instant `t` (R39). -/
def TimeBase.atEdge (tb : TimeBase) (t : BitVec 64) : Bool :=
  let d := -(tb.ahead t)
  decide (0 ≤ d ∧ d < tb.baseRate + slewAt tb.slewTotal (tb.slewCycle - 1))

/-- Operating time counts `h` half nanoseconds more, while AON is released (R402). -/
def State.opAdvance (s : State) (h : Nat) : State :=
  let n := s.opFrac + h
  { s with opTime := s.opTime + BitVec.ofNat 48 (n / 2000000), opFrac := n % 2000000 }

/-- PIP_WRAP is raised when the pip counter has passed from 0xFFFF_FFFF to 0 since global time stood at `t` (the
interrupt bits of the TIM page). -/
def State.pipWrap (s : State) (t : BitVec 64) : State :=
  if t.toNat / 50 / 2 ^ 32 < s.now.toNat / 50 / 2 ^ 32 then s.raise pTIM 4 else s

/-- `k` BCLK edges pass (R38): global time advances by the rate, trim and slew of each, operating time by 2.5 ns for
each (assumption 5). -/
def State.edges (s : State) (k : Nat) : State :=
  let was := s.now
  { s.opAdvance (5 * k) with time := { s.time with
      gt := s.time.gt + BitVec.ofInt 96 (s.time.gain k)
      slewCycle := s.time.slewCycle + k } }.pipWrap was

/-- Time passes up to the BCLK edge at which global time reaches or passes the instant `t`, if that instant lies ahead
(R39, assumption 5). -/
def State.advanceTo (s : State) (t : BitVec 64) : State :=
  if later64 t s.now then s.edges (s.time.edgesTo t) else s

/-- Operating time in half nanoseconds. -/
def State.opHalf (s : State) : Nat := 2000000 * s.opTime.toNat + s.opFrac

/-- Operating time in ns. -/
def State.opNs (s : State) : Nat := 1000000 * s.opTime.toNat + s.opFrac / 2

/-- An error that part 3 of the pair check looks for is recorded (R349). -/
def State.evidence (s : State) : State := s.modPair fun p => { p with faultAt := p.faultAt ++ [s.opNs] }

/-- Time passes until operating time reaches `t` ns. -/
def State.waitOp (s : State) (t : Nat) : State :=
  if bit (s.reg Reg.rstDom) 2 then s.edges ((2 * t - s.opHalf + 4) / 5) else s.opAdvance (2 * t - s.opHalf)

/-- Global time moved forward to the edge of pip `p` of the round in progress (assumption 5). -/
def State.toPip (s : State) (p : Nat) : State :=
  s.advanceTo (s.time.roundStart + BitVec.ofNat 64 (p * 50))

/-- The last multiple of 250,000 ns that global time has reached (R40). -/
def State.roundEdge (s : State) : BitVec 64 := BitVec.ofNat 64 (s.now.toNat / roundNs * roundNs)

/-- The round in progress begins at the present BCLK edge. -/
def State.atRoundEdge (s : State) : Bool := s.time.begun && s.time.atEdge s.time.roundStart

/-- The next round boundary: the first multiple of 250,000 ns at which no round has begun yet (R40). -/
def State.nextBoundary (s : State) : BitVec 64 :=
  if s.time.atEdge s.roundEdge && !(s.time.begun && s.time.roundStart == s.roundEdge) then s.roundEdge
  else s.roundEdge + BitVec.ofNat 64 roundNs

/-! ### Records (R425, R426) -/

/-- An event is raised for the recorder (R425). -/
def State.event (s : State) (type src : Nat) (prio : Prio) (payload : Bytes) : State :=
  { s with events := s.events ++ [⟨type, src, prio, payload⟩] }

/-- A record of an error that page `p` logs: TYPE is the code, the payload begins with PG_ERR_INFO. -/
def State.recErr (s : State) (p code : Nat) (info : Word) (prio : Prio) (more : Bytes) : State :=
  s.event code p prio (wordBytes info ++ more)

/-- A new free value is taken: the counter moves on. -/
def State.takeFree (s : State) : State := { s with free := s.free + 1 }

end Sys2Proof.Machine
end

