-- ==== Sys2Proof/Machine/Flags.lean ====
section
/-! DEFINITION. The quality accumulator: the merges of R97 and R163, the sticky flags of R162, the
saturating results of R153 to R155. -/

namespace Sys2Proof.Machine

/-- A quality code of R97; any other value is taken as 0xC, fault (R163). -/
def qnorm (q : BitVec 4) : BitVec 4 :=
  if q = 0x0 ∨ q = 0x1 ∨ q = 0x4 ∨ q = 0x8 ∨ q = 0x9 then q else 0xC

/-- The merge of two quality codes: the larger (R97), codes outside R97 taken as fault (R163). -/
def qmerge (a b : BitVec 4) : BitVec 4 :=
  let a := qnorm a
  let b := qnorm b
  if a.toNat < b.toNat then b else a

/-- QA[3:0], QUAL (R162). -/
def qaQual (qa : BitVec 8) : BitVec 4 := qa.extractLsb' 0 4

/-- QA with a code merged into QUAL (R162). -/
def qaMerge (qa : BitVec 8) (q : BitVec 4) : BitVec 8 :=
  (qa &&& 0xF0) ||| (qmerge (qaQual qa) q).setWidth 8

/-- QA with a flag bit set when `c` holds (R162). -/
def qaSet (qa : BitVec 8) (b : Nat) (c : Bool) : BitVec 8 :=
  if c then qa ||| BitVec.ofNat 8 (2 ^ b) else qa

/-- QA[4] SAT, QA[5] FINV, QA[6] FOVF, QA[7] FCVT (R162). -/
abbrev qSAT : Nat := 4
abbrev qFINV : Nat := 5
abbrev qFOVF : Nat := 6
abbrev qFCVT : Nat := 7

/-- A signed result clamped to [0x8000_0000, 0x7FFF_FFFF], and whether it was clamped (R153). -/
def clampS (v : Int) : Word × Bool :=
  if v < -0x80000000 then (0x80000000, true)
  else if 0x7FFFFFFF < v then (0x7FFFFFFF, true)
  else (BitVec.ofInt 32 v, false)

/-- An unsigned result clamped to [0, 0xFFFF_FFFF], and whether it was clamped (R153). -/
def clampU (v : Int) : Word × Bool :=
  if v < 0 then (0, true)
  else if 0xFFFFFFFF < v then (0xFFFFFFFF, true)
  else (BitVec.ofInt 32 v, false)

end Sys2Proof.Machine
end

