-- ==== Sys2Proof/Machine/Float.lean ====
section
/-! DEFINITION. IEEE 754 binary32 with the fixed choices of R157, computed exactly on integers and
rounded once. -/

namespace Sys2Proof.Machine

/-- A binary32 value: NaN (signalling or quiet), infinity, or (-1)^neg * m * 2^e. -/
inductive F32 where
  | nan (sig : Bool)
  | inf (neg : Bool)
  | fin (neg : Bool) (m : Nat) (e : Int)
  deriving DecidableEq, Repr

/-- The canonical quiet NaN (R157). -/
abbrev fNaN : Word := 0x7FC00000

/-- The value a word spells. -/
def F32.of (w : Word) : F32 :=
  let neg := bit w 31
  let ex := bits w 30 23
  let fr := bits w 22 0
  if ex = 255 then (if fr = 0 then .inf neg else .nan (!bit w 22))
  else if ex = 0 then .fin neg fr (-149)
  else .fin neg (fr + 2 ^ 23) ((ex : Int) - 150)

/-- The word of a sign and 31 low bits. -/
def fPack (neg : Bool) (v : Nat) : Word := BitVec.ofNat 32 (b2n neg * 2 ^ 31 + v)

/-- Infinity of a sign. -/
def fInf (neg : Bool) : Word := fPack neg 0x7F800000

/-- (-1)^neg * m * 2^e, with `sticky` saying that a nonzero part below was cut off, rounded to nearest,
ties to even; the flag says that it overflowed (R157). Where `sticky` is set, `m` has at least 26 bits. -/
def fRound (neg : Bool) (m : Nat) (e : Int) (sticky : Bool) : Word × Bool :=
  if m = 0 then (fPack neg 0, false)
  else
    let top : Int := (Nat.log2 m : Int) + e
    let lsb : Int := max (top - 23) (-149)
    let q : Int := lsb - e
    let r : Nat :=
      if q ≤ 0 then m <<< (-q).toNat
      else
        let k := q.toNat
        let hi := m >>> k
        let lo := m % 2 ^ k
        let half := 2 ^ (k - 1)
        if half < lo ∨ (lo = half ∧ (sticky ∨ hi % 2 = 1)) then hi + 1 else hi
    let (r, lsb) := if r = 2 ^ 24 then (2 ^ 23, lsb + 1) else (r, lsb)
    if r < 2 ^ 23 then (fPack neg r, false)
    else
      let ex := lsb + 150
      if 255 ≤ ex then (fInf neg, true) else (fPack neg (ex.toNat * 2 ^ 23 + (r - 2 ^ 23)), false)

/-- The result of a binary32 operation: the word, FINV, FOVF, FCVT (R162). -/
structure FRes where
  val  : Word
  finv : Bool
  fovf : Bool
  fcvt : Bool
  deriving DecidableEq, Repr

/-- An exact result. -/
def FRes.ok (w : Word) : FRes := ⟨w, false, false, false⟩
/-- A NaN result; `inv` says that the operation was invalid (R157). -/
def FRes.nan (inv : Bool) : FRes := ⟨fNaN, inv, false, false⟩
/-- A rounded result. -/
def FRes.rnd (r : Word × Bool) : FRes := ⟨r.1, false, r.2, false⟩

/-- The operand is a signalling NaN. -/
def F32.isSig : F32 → Bool
  | .nan sig => sig
  | _ => false

/-- The operand is a NaN. -/
def F32.isNan : F32 → Bool
  | .nan _ => true
  | _ => false

/-- FADD (R156, R157). -/
def fAdd (a b : Word) : FRes :=
  match F32.of a, F32.of b with
  | .nan s, y => .nan (s || y.isSig)
  | _, .nan s => .nan s
  | .inf n, .inf m => if n = m then .ok (fInf n) else .nan true
  | .inf n, _ => .ok (fInf n)
  | _, .inf n => .ok (fInf n)
  | .fin n m e, .fin n' m' e' =>
    let lo := min e e'
    let x : Int := (if n then -1 else 1) * ((m <<< (e - lo).toNat : Nat) : Int)
    let y : Int := (if n' then -1 else 1) * ((m' <<< (e' - lo).toNat : Nat) : Int)
    if x + y = 0 then .ok (fPack (n && n' && decide (m = 0 ∧ m' = 0)) 0)
    else .rnd (fRound (decide (x + y < 0)) (x + y).natAbs lo false)

/-- FSUB (R156): the sum with the sign of the second operand inverted; a NaN stays a NaN. -/
def fSub (a b : Word) : FRes := fAdd a (b ^^^ 0x80000000)

/-- FMUL (R156, R157). -/
def fMul (a b : Word) : FRes :=
  match F32.of a, F32.of b with
  | .nan s, y => .nan (s || y.isSig)
  | _, .nan s => .nan s
  | .inf n, .inf m => .ok (fInf (n != m))
  | .inf n, .fin n' m _ => if m = 0 then .nan true else .ok (fInf (n != n'))
  | .fin n m _, .inf n' => if m = 0 then .nan true else .ok (fInf (n != n'))
  | .fin n m e, .fin n' m' e' => .rnd (fRound (n != n') (m * m') (e + e') false)

/-- FDIV (R156, R157). -/
def fDiv (a b : Word) : FRes :=
  match F32.of a, F32.of b with
  | .nan s, y => .nan (s || y.isSig)
  | _, .nan s => .nan s
  | .inf _, .inf _ => .nan true
  | .inf n, .fin n' _ _ => .ok (fInf (n != n'))
  | .fin n _ _, .inf n' => .ok (fPack (n != n') 0)
  | .fin n m e, .fin n' m' e' =>
    if m' = 0 then (if m = 0 then .nan true else ⟨fInf (n != n'), false, true, false⟩)
    else .rnd (fRound (n != n') ((m <<< 64) / m') (e - e' - 64) (decide ((m <<< 64) % m' ≠ 0)))

/-- Order of two values that are no NaN: -1, 0 or 1. -/
def F32.cmp : F32 → F32 → Int
  | .inf n, .inf m => if n = m then 0 else if n then -1 else 1
  | .inf n, _ => if n then -1 else 1
  | _, .inf n => if n then 1 else -1
  | .fin n m e, .fin n' m' e' =>
    let lo := min e e'
    let x : Int := (if n then -1 else 1) * ((m <<< (e - lo).toNat : Nat) : Int)
    let y : Int := (if n' then -1 else 1) * ((m' <<< (e' - lo).toNat : Nat) : Int)
    if x < y then -1 else if x = y then 0 else 1
  | _, _ => 0

/-- FMIN (`mx` false) and FMAX (`mx` true): minNum and maxNum with the choices of R157. -/
def fMinMax (mx : Bool) (a b : Word) : FRes :=
  let x := F32.of a
  let y := F32.of b
  let inv := x.isSig || y.isSig
  if x.isNan && y.isNan then .nan inv
  else if x.isNan then ⟨b, inv, false, false⟩
  else if y.isNan then ⟨a, inv, false, false⟩
  else
    let c := x.cmp y
    let aWins := if c = 0 then (bit a 31 != mx) else ((c < 0) != mx)
    .ok (if aWins then a else b)

/-- FEQ, quiet (R156). -/
def fEq (a b : Word) : FRes :=
  let x := F32.of a
  let y := F32.of b
  if x.isNan || y.isNan then ⟨0, x.isSig || y.isSig, false, false⟩
  else .ok (BitVec.ofNat 32 (b2n (x.cmp y == 0)))

/-- FLT (`le` false) and FLE (`le` true), signalling (R156). -/
def fLess (le : Bool) (a b : Word) : FRes :=
  let x := F32.of a
  let y := F32.of b
  if x.isNan || y.isNan then ⟨0, true, false, false⟩
  else .ok (BitVec.ofNat 32 (b2n (x.cmp y < 0 || (le && x.cmp y == 0))))

/-- FCVTWS: to a signed integer, towards zero; out of range sets FCVT alone (R157). -/
def fToInt (a : Word) : FRes :=
  match F32.of a with
  | .nan _ => ⟨0, false, false, true⟩
  | .inf n => ⟨if n then 0x80000000 else 0x7FFFFFFF, false, false, true⟩
  | .fin n m e =>
    let v : Nat := if 0 ≤ e then m <<< e.toNat else m >>> (-e).toNat
    let (w, c) := clampS (if n then -(v : Int) else v)
    ⟨w, false, false, c⟩

/-- FCVTSW: a signed integer to binary32 (R156). -/
def fOfInt (a : Word) : FRes :=
  .rnd (fRound (decide (a.toInt < 0)) a.toInt.natAbs 0 false)

end Sys2Proof.Machine
end

