-- ==== Sys2Proof/Machine/Operands.lean ====
section
/-! DEFINITION. The operand forms of the lane instruction set (R143, R151, R152): general registers,
register pairs, immediates, and the effect of an instruction that touches registers alone. -/

namespace Sys2Proof.Machine

/-- A general register; g0 reads as zero (R143). -/
def Core.get (c : Core) (r : BitVec 5) : Word :=
  if r = 0 then 0 else c.g[r.toNat]'r.isLt

/-- The core with a general register written; a write to g0 is discarded. -/
def Core.put (c : Core) (r : BitVec 5) (v : Word) : Core :=
  if r = 0 then c else { c with g := c.g.set r.toNat v r.isLt }

/-- The core with the pair rd+1:rd written, low word to rd (R152). -/
def Core.putPair (c : Core) (rd : BitVec 5) (v : BitVec 64) : Core :=
  (c.put rd (v.setWidth 32)).put (rd + 1) (v.extractLsb' 32 32)

/-- sext() of a 16-bit immediate (R152). -/
def sext16 (imm : BitVec 16) : Word := imm.signExtend 32
/-- zext() of a 16-bit immediate (R152). -/
def zext16 (imm : BitVec 16) : Word := imm.setWidth 32

/-- What the execution part of an instruction gives: the core with its new registers, QA and PC and
the latency; a trap with cause, detail and LANE_TRAP_ADDR (R164, R165); an uncorrectable word at a lane
address (R168). -/
inductive CoreRes where
  | done (c : Core) (lat : Nat)
  | trap (cause detail : Nat) (addr : Word)
  | ecc (addr : Word)
  deriving DecidableEq, Repr

/-- The core moves on to the instruction that follows. -/
def Core.seq (c : Core) : Core := { c with pc := c.pc + 4 }

/-- rd takes a value, in sequence. -/
def CoreRes.write (c : Core) (rd : BitVec 5) (v : Word) (lat : Nat) : CoreRes :=
  .done (c.put rd v).seq lat

/-- rd takes a clamped value, SAT is set on a clamp (R162). -/
def CoreRes.writeSat (c : Core) (rd : BitVec 5) (v : Word × Bool) (lat : Nat) : CoreRes :=
  .write { c with qa := qaSet c.qa qSAT v.2 } rd v.1 lat

/-- rd takes a floating-point result, its conditions are recorded in QA (R157). -/
def CoreRes.writeF (c : Core) (rd : BitVec 5) (r : FRes) (lat : Nat) : CoreRes :=
  .write { c with qa := qaSet (qaSet (qaSet c.qa qFINV r.finv) qFOVF r.fovf) qFCVT r.fcvt } rd r.val lat

/-- The pair rule of R152: an even rd from 2 to 30. -/
def pairOk (rd : BitVec 5) : Bool := rd != 0 && rd.toNat % 2 == 0

/-- ILLEGAL detail 2, a field that must be 0 is not 0 (R152, R164). -/
def CoreRes.mustBe0 : CoreRes := .trap 3 2 0
/-- ILLEGAL detail 3, a value rule is broken (R152, R164). -/
def CoreRes.valueRule : CoreRes := .trap 3 3 0
/-- ILLEGAL detail 1, an undefined opcode or fn (R152, R164). -/
def CoreRes.undefinedOp : CoreRes := .trap 3 1 0
/-- DIVZERO (R164). -/
def CoreRes.divZero : CoreRes := .trap 4 0 0

/-- DIV: the quotient rounded towards zero, clamped (R155). -/
def divS (a b : Word) : Word × Bool := clampS (a.toInt.tdiv b.toInt)

/-- EXT: the field ra[pos + w - 1 : pos], zero-extended (R160). -/
def extField (a : Word) (pos w : Nat) : Word := BitVec.ofNat 32 ((a.toNat >>> pos) % 2 ^ w)

/-- EXTS: the same field, sign-extended (R160). -/
def extSField (a : Word) (pos w : Nat) : Word :=
  let v := (a.toNat >>> pos) % 2 ^ w
  BitVec.ofInt 32 (if 2 ^ (w - 1) ≤ v then (v : Int) - 2 ^ w else v)

/-- INS: the low w bits of ra inserted into rd at pos (R160). -/
def insField (d a : Word) (pos w : Nat) : Word := withBits d (pos + w - 1) pos (a.toNat % 2 ^ w)

/-- The condition of a JC (R159); none for the codes 10 to 15. -/
def jcHolds (cond : BitVec 4) (a b : Word) : Option Bool :=
  match cond.toNat with
  | 0 => some (a == b)
  | 1 => some (a != b)
  | 2 => some (decide (a.toInt < b.toInt))
  | 3 => some (decide (b.toInt ≤ a.toInt))
  | 4 => some (decide (a.toNat < b.toNat))
  | 5 => some (decide (b.toNat ≤ a.toNat))
  | 6 => some (a == 0)
  | 7 => some (a != 0)
  | 8 => some (decide (a.toInt < 0))
  | 9 => some (decide (0 ≤ a.toInt))
  | _ => none

/-- The core after a jump to `t`. -/
def Core.jump (c : Core) (t : Word) : Core := { c with pc := t }

end Sys2Proof.Machine
end

