-- ==== Sys2Proof/Machine/Status.lean ====
section
/-! DEFINITION. PG_STATUS of every page (R13 and the page sections of each chapter), and the records
that carry it. -/

namespace Sys2Proof.Machine

/-- PG_STATUS from its four bits (R13). -/
def statusWord (busy idle fault retired : Bool) : Word :=
  BitVec.ofNat 32 (b2n busy + 2 * b2n idle + 4 * b2n fault + 8 * b2n retired)

/-- The number of a lane state in LANE_STATE STATE (R174). -/
def LaneState.code : LaneState → Nat
  | .idle => 0 | .running => 1 | .barred => 2 | .borneOff => 3 | .bench => 4

/-- The number of a lane's activity in LANE_STATE ACT (R174). -/
def LaneAct.code : LaneAct → Nat
  | .none => 0 | .ply => 1 | .job => 2 | .busy => 3

/-- Some lane is in the given state. -/
def State.anyLane (s : State) (st : LaneState) : Bool := s.lanes.toList.any (fun l => l.state == st)

/-- PG_STATUS of page `p`. A bit the page's chapter says nothing about reads 0 (assumption 6). -/
def pgStatus (s : State) (p : Nat) : Word :=
  if p = pBSQ then
    statusWord (s.seqr.state == .wait || s.seqr.state == .run) (s.seqr.state == .off) false false
  else if p = pBRD then statusWord s.boards.running.isSome false false false
  else if h : 0x08 ≤ p ∧ p ≤ 0x17 then
    let l := s.lanes[p - 0x08]'(by omega)
    statusWord (l.actAt s.opNs != .none) (l.actAt s.opNs == .none && (l.state == .idle || l.state == .borneOff))
      (l.state == .barred) (l.state == .borneOff)
  else if p = pCMP then statusWord false false (s.anyLane .barred) (s.anyLane .borneOff)
  else if p = pGMB then
    let o := s.gmb.toList.any (fun c => c.isOpen)
    statusWord o (!o) false false
  else if p = pMB 0 ∨ p = pMB 1 then
    let links := (List.range 4).map (fun q => s.fld (p * 0x1000 + 0x040 + 4 * q) 1 0)
    statusWord false false (links.any (fun l => l < 2)) (links.all (fun l => l == 3))
  else if p = pMBG then
    statusWord false false (s.net.blocks.any (fun b => within s.rsn b.2 4000)) false
  else if p = pCAN 0 ∨ p = pCAN 1 then
    let retired := bit (s.reg (p * 0x1000 + 0x118)) 16
    let tx := s.reg (p * 0x1000 + 0x110)
    statusWord (bits tx 2 0 == 1 || bits tx 6 4 == 1 || bits tx 10 8 == 1)
      (retired || bits (s.reg (p * 0x1000 + 0x040)) 1 0 == 0)
      (bits (s.reg (p * 0x1000 + 0x04C)) 25 24 != 0) retired
  else if p = pFIO then statusWord false false (s.fld Reg.fioFault 15 0 != 0) false
  else if p = pLOOP then statusWord false false (s.fld Reg.loopStat 14 0 == 3600) false
  else if p = pDBG then statusWord (bit (s.reg Reg.dbgStat) 0) false false false
  else if 0x20 ≤ p ∧ p ≤ 0x5F then
    let d := s.descs.any (fun d => d.ring == p - 0x20)
    statusWord d (!d) (s.descs.any (fun d => d.ring == p - 0x20 && d.halt.isSome)) false
  else 0

/-- A record of an event that raises interrupt bit `b` of page `p` but logs no error: TYPE is
0x1000 + b, the payload begins with PG_STATUS (R425). -/
def State.recIrq (s : State) (p b : Nat) (prio : Prio) (more : Bytes) : State :=
  s.event (0x1000 + b) p prio (wordBytes (pgStatus s p) ++ more)

end Sys2Proof.Machine
end

