-- ==== Sys2Proof/Machine/Pages.lean ====
section
/-! DEFINITION. Reading a register (R9 to R13, R538, R540): the pages and their domains, the register
that a select register picks, the registers computed from the state. -/

namespace Sys2Proof.Machine

/-- The kind of block a page holds; none for a reserved page (R10, R537). -/
def pageClass (p : Nat) : Option PageClass :=
  if p = 0x00 then some .pSys else if p = 0x01 then some .pRst else if p = 0x02 then some .pClk
  else if p = 0x03 then some .pTim else if p = 0x04 then some .pBsq else if p = 0x05 then some .pBrd
  else if 0x08 ≤ p ∧ p ≤ 0x17 then some .pLane
  else if p = 0x18 then some .pCmp else if p = 0x19 then some .pGmb else if p = 0x1A then some .pImg
  else if p = 0x1B then some .pMmu else if p = 0x1C then some .pMov
  else if 0x20 ≤ p ∧ p ≤ 0x5F then some .pRing
  else if p = 0x60 ∨ p = 0x61 then some .pMb
  else if p = 0x62 then some .pMbg else if p = 0x63 then some .pMbs else if p = 0x68 then some .pDxl
  else if p = 0x69 then some .pPair else if p = 0x6A then some .pIlk else if p = 0x70 then some .pStw
  else if p = 0x71 then some .pHst else if p = 0x72 then some .pHap else if p = 0x74 then some .pRec
  else if p = 0x75 then some .pUpd else if p = 0x76 then some .pHlt
  else if p = 0x78 ∨ p = 0x79 then some .pCan
  else if p = 0x7C then some .pFio else if p = 0x7D then some .pLoop else if p = 0x7E then some .pSec
  else if p = 0x7F then some .pDbg else none

/-- The domain of a page by its index in R389 (R537). -/
def pageDomain (p : Nat) : Nat :=
  if p = 0x00 ∨ p = 0x01 ∨ p = 0x6A ∨ p = 0x7F then 0
  else if 0x1A ≤ p ∧ p ≤ 0x5F then 1
  else if 0x08 ≤ p ∧ p ≤ 0x17 then 4 + (p - 8) / 4
  else if 0x60 ≤ p ∧ p ≤ 0x68 then 3
  else if 0x70 ≤ p ∧ p ≤ 0x75 then 8
  else if p = 0x78 ∨ p = 0x79 ∨ p = 0x7E then 8
  else if p = 0x7C ∨ p = 0x7D then 9
  else 2

/-- Domain `d` is released and has not failed (R389, R398, R538). -/
def State.domainUp (s : State) (d : Nat) : Bool :=
  bit (s.reg Reg.rstDom) d && !bit (s.reg Reg.rstDom) (16 + d)

/-- An access to page `p` while its domain is not released: SYS logs 0x0105 with the page number (R538), unless AON is in
reset itself (assumption 29). -/
def State.downError (s : State) (p : Nat) : State :=
  if s.domainUp 0 then s.logErr pSYS 0x0105 (BitVec.ofNat 32 p) else s

/-- An access to page `p` does `f` while the page's domain is released (R538). -/
def State.onPage (s : State) (p : Nat) (f : State → State) : State :=
  if s.domainUp (pageDomain p) then f s else s.downError p

/-- The two ASCII characters of a page's block type code (R537). -/
def PageClass.typeCode : PageClass → Nat
  | .pSys => 0x5359 | .pRst => 0x5253 | .pClk => 0x434B | .pTim => 0x544D | .pBsq => 0x4251
  | .pBrd => 0x4244 | .pLane => 0x4C4E | .pCmp => 0x4350 | .pGmb => 0x4742 | .pImg => 0x494D
  | .pMmu => 0x4D55 | .pMov => 0x4D56 | .pRing => 0x5247 | .pMb => 0x4D42 | .pMbg => 0x4D47
  | .pMbs => 0x4D53 | .pDxl => 0x4458 | .pPair => 0x5052 | .pIlk => 0x494B | .pStw => 0x5357
  | .pHst => 0x4854 | .pHap => 0x4850 | .pRec => 0x5243 | .pUpd => 0x5550 | .pHlt => 0x484C
  | .pCan => 0x434E | .pFio => 0x4649 | .pLoop => 0x4C50 | .pSec => 0x5343 | .pDbg => 0x4447

/-- The instance number of a page (R537). -/
def pageInstance (p : Nat) : Nat :=
  if 0x08 ≤ p ∧ p ≤ 0x17 then p - 0x08
  else if 0x20 ≤ p ∧ p ≤ 0x5F then p - 0x20
  else if p = 0x61 ∨ p = 0x79 then 1 else 0

/-- PG_ID (R13): type code, instance, layout version 1 (R537). -/
def pgId (p : Nat) : Word :=
  match pageClass p with
  | some c => BitVec.ofNat 32 (c.typeCode * 0x10000 + pageInstance p * 0x100 + 1)
  | none => 0

/-- Which copy of the register at `ofs` of page `p` its select register picks: the field tables of
CLK_SEL, BSQ_SEL, CMP_SEL, GMB_SEL, MMU_RSEL, MMU_CSEL, MBS_SEL, MBS_STN_SEL, HLT_SEL, FIO_SEL,
CAN_FSEL, CAN_TX_SEL, SYS_OPT_SEL, SYS_FUSE_SEL, SEC_KEY_SEL. -/
def State.bankOf (s : State) (p ofs : Nat) : Nat :=
  if p = pCLK then (if ofs = 0x050 ∨ ofs = 0x054 then s.fld Reg.clkSel 4 0 else 0)
  else if p = pBSQ then (if ofs = 0x060 then s.fld Reg.bsqSel 3 0 else 0)
  else if p = pCMP then (if 0x048 ≤ ofs ∧ ofs ≤ 0x060 ∧ ofs ≠ 0x05C then s.fld Reg.cmpSel 3 0 else 0)
  else if p = pGMB then
    (if 0x04C ≤ ofs ∧ ofs ≤ 0x060 then s.fld Reg.gmbSel 3 0
     else if ofs = 0x064 ∨ ofs = 0x068 then s.fld Reg.gmbSel 11 8 else 0)
  else if p = pMMU then
    (if 0x044 ≤ ofs ∧ ofs ≤ 0x04C then s.fld Reg.mmuRsel 7 0
     else if ofs = 0x054 then s.fld Reg.mmuCsel 3 0 else 0)
  else if p = pMBS then
    (if 0x044 ≤ ofs ∧ ofs ≤ 0x05C then s.fld Reg.mbsSel 15 0
     else if ofs = 0x068 then s.fld Reg.mbsStnSel 11 0 else 0)
  else if p = pHLT then (if ofs = 0x048 ∨ ofs = 0x04C then s.fld Reg.hltSel 3 0 else 0)
  else if p = pFIO then (if ofs = 0x048 ∨ ofs = 0x068 then s.fld Reg.fioSel 3 0 else 0)
  else if p = pCAN 0 ∨ p = pCAN 1 then
    (if ofs = 0x05C ∨ ofs = 0x060 then s.fld (p * 0x1000 + 0x058) 3 0
     else if 0x0C4 ≤ ofs ∧ ofs ≤ 0x108 then s.fld (p * 0x1000 + 0x0C0) 1 0 else 0)
  else if p = pSYS then
    (if ofs = 0x058 then s.fld Reg.sysOptSel 5 0
     else if ofs = 0x068 then s.fld Reg.sysFuseSel 3 0 else 0)
  else if p = pSEC then (if ofs = 0x054 then s.fld Reg.secKeySel 4 0 else 0)
  else if p = pREC then (if ofs = 0x05C then s.fld Reg.recDropSel 7 0 else 0)
  else 0

/-- The key of the register at `ofs` of page `p`, with its select register as it stands. -/
def State.keyOf (s : State) (p ofs : Nat) : Nat := Reg.bank (s.bankOf p ofs) (p * 0x1000 + ofs)

end Sys2Proof.Machine
end

