-- ==== Sys2Proof/Machine/Read.lean ====
section
/-! DEFINITION. The value a register read returns, without side effects: the stored registers masked
by their readable bits, and the registers that are computed from the state. -/

namespace Sys2Proof.Machine

/-- The number of a time base state in TIM_STATE (R63). -/
def TbState.code : TbState → Nat
  | .unsync => 0 | .integrating => 1 | .synced => 2 | .holdover => 3

/-- The number of a module state in PAIR_STATE (R369). -/
def ModState.code : ModState → Nat
  | .boot => 0 | .joining => 1 | .follower => 2 | .leader => 3 | .mute => 4 | .stoodDown => 5
  | .bench => 6

/-- The number of a sequencer state in BSQ_STATE (R141). -/
def SeqState.code : SeqState → Nat
  | .off => 0 | .wait => 1 | .run => 2 | .fault => 3

/-- The number of a BRD_STATE ACTIVE value (R110). -/
def ActiveState.code : ActiveState → Nat
  | .none => 0 | .loaded => 1 | .running => 2

/-- The number of a BRD_STATE STANDBY value (R110). -/
def StandbyState.code : StandbyState → Nat
  | .empty => 0 | .stored => 1 | .armed => 2

/-- Bar starts of a history that lie in the window of R186 that ends at operating time `t`. -/
def inWindow (hist : List Nat) (t : Nat) : Nat := (hist.filter (fun h => decide (t ≤ h + 86400000))).length

/-- The turn length of the active board, 1 without one (R41, R65). -/
def State.turnLen (s : State) : Nat :=
  match s.boards.act with
  | some t => 2 ^ t.hdr.turnExp
  | none => 1

/-- PAIR_DOMAIN of the option record in use (R403). -/
def State.pairDomain (s : State) : Nat := leAt s.option 0x0C 1

/-- The node address of this module (R25): the pair domain of the option record in use times 4,096,
plus 0 for Partner A, 1 for Partner B. -/
def State.nodeAddr (s : State) : Nat :=
  s.pairDomain * 4096 + s.fld Reg.sysSlot 0 0

/-- This module is Partner B (R24). -/
def State.isB (s : State) : Bool := bit (s.reg Reg.sysSlot) 0

/-- The board names this module a sync node (R94). -/
def State.isSyncNode (s : State) : Bool :=
  match s.boards.act with
  | some t => t.syncs.any (fun r => r.node == s.nodeAddr)
  | none => false

/-- The words of a trace record (R200). -/
def TraceRec.word (t : TraceRec) : Nat → Word
  | 0 => BitVec.ofNat 32 (t.entry + t.outcome * 2 ^ 16 + t.kind * 2 ^ 19)
  | 1 => t.rsn
  | 2 => BitVec.ofNat 32 t.cyc
  | _ => BitVec.ofNat 32 (t.qa.toNat + t.lines * 2 ^ 8)

/-- Bit `n` of a 16-bit mask from a property of lane `n`. -/
def laneMask (f : Fin 16 → Bool) : Nat :=
  (List.finRange 16).foldl (fun m n => if f n then m + 2 ^ n.val else m) 0

/-- The halted lane's register that CMP_DBG_REG_SEL names (R197). -/
def Core.dbgGet (c : Core) (r : Nat) : Word :=
  if r < 32 then c.get (BitVec.ofNat 5 r)
  else if r = 32 then c.pc
  else if r = 33 then c.qa.setWidth 32
  else if r = 34 then c.tc
  else 0

/-- Word `k` of an identity (BRD_DIG, R110). -/
def digWord (dig : Bytes) (k : Nat) : Word := if k < 12 then bytesWord (slice dig (4 * k) 4) else 0

/-- The registers of the SEQ pages that are computed. -/
def viewSeq (s : State) (k : Nat) : Option Word :=
  if k = Reg.timNowLo then some (s.now.setWidth 32)
  else if k = Reg.timPip then some s.pipCount
  else if k = Reg.timRound then some (BitVec.ofNat 32 s.pipInRound)
  else if k = Reg.timRsn then some s.rsn
  else if k = Reg.timRateFrac then some (BitVec.ofInt 32 s.time.rate)
  else if k = Reg.timRateInt then some (BitVec.ofInt 32 (s.time.rate / 2 ^ 32))
  else if k = Reg.timTrim then some s.time.trim
  else if k = Reg.timState then
    some (BitVec.ofNat 32 (s.time.state.code + b2n s.isSyncNode * 4 + s.time.nValid * 8
      + s.time.kSel * 2 ^ 8 + b2n s.time.extFresh * 2 ^ 10 + s.time.inState * 2 ^ 16))
  else if k = Reg.timEpochLo then some (s.time.epoch.setWidth 32)
  else if k = Reg.timEpochHi then some (s.time.epoch.extractLsb' 32 32)
  else if k = Reg.brdState then
    some (BitVec.ofNat 32 (s.boards.active.code + s.boards.standby.code * 16))
  else if k = Reg.brdSerial then some (match s.boards.act with | some t => t.hdr.serial | none => 0)
  else if k = Reg.bsqState then
    some (BitVec.ofNat 32 (s.seqr.state.code + b2n s.seqr.stopPend * 4
      + s.rsn.toNat % s.turnLen * 2 ^ 16))
  else if k = Reg.bsqMask then
    some (BitVec.ofNat 32 (s.seqr.applied.toNat + s.seqr.pending.toNat * 2 ^ 16))
  else if k = Reg.bsqRerun then some (s.seqr.rerun.setWidth 32)
  else if k = Reg.cmpDbgStat then
    some (BitVec.ofNat 32 (laneMask (fun n => s.lanes[n].halted)
      + laneMask (fun n => s.lanes[n].state == .bench) * 2 ^ 16))
  else if k = Reg.gmbOpen then
    some (BitVec.ofNat 32 (laneMask (fun t => s.gmb[t].isOpen)
      + laneMask (fun t => s.gmb[t].isOpen && s.gmb[t].spoiled.isSome) * 2 ^ 16))
  else none

/-- The registers of lane pages, and those of CMP and GMB that show one lane. -/
def viewLane (s : State) (k : Nat) : Option Word :=
  let p := k / 0x1000 % 0x100
  let ofs := k % 0x1000
  if h : 0x08 ≤ p ∧ p ≤ 0x17 then
    let l := s.lanes[p - 0x08]'(by omega)
    if ofs = 0x040 then
      some (BitVec.ofNat 32 (l.state.code + (l.actAt s.opNs).code * 8 + b2n l.bgLost * 32))
    else none
  else if p = pCMP then
    if ofs = 0x054 then
      let l := s.lanes[k / 0x100000 % 16]'(by omega)
      some (BitVec.ofNat 32 (inWindow l.history s.opTime.toNat) ||| (s.reg k &&& 0xFFFF0000))
    else if 0x068 ≤ ofs ∧ ofs ≤ 0x074 then
      let l := s.lanes[s.fld Reg.cmpTrcSel 3 0 % 16]'(by omega)
      some (match l.trace[s.fld Reg.cmpTrcSel 8 4]? with
        | some t => t.word ((ofs - 0x068) / 4)
        | none => 0)
    else if ofs = 0x084 then
      let l := s.lanes[s.fld Reg.cmpDbgRegSel 3 0 % 16]'(by omega)
      some (if l.halted then l.main.dbgGet (s.fld Reg.cmpDbgRegSel 9 4) else 0)
    else none
  else if p = pGMB ∧ ofs = 0x064 then
    let l := s.lanes[k / 0x100000 % 16]'(by omega)
    some (BitVec.ofNat 32 (l.shadowBuf.length + l.owner.getD 0 * 2 ^ 12 + b2n l.owner.isSome * 2 ^ 28)
      ||| (s.reg k &&& 0x0FFF0000))
  else none

/-- The registers of the memory pages that are computed. -/
def viewMem (s : State) (k : Nat) : Option Word :=
  let p := k / 0x1000 % 0x100
  let ofs := k % 0x1000
  if p = pMMU ∧ ofs = 0x04C then
    let r := k / 0x100000 / 16
    some ((s.reg k &&& 0xF) ||| (if r = 0 ∨ r = 1 ∨ r = 3 ∨ 12 ≤ r then 0x10 else 0))
  else if k = Reg.movStat then
    some (BitVec.ofNat 32
      ((List.range 8).foldl (fun m i => if s.movers.any (fun x => !x.isDone && bits x.entry.w1 18 16 == i) then m + 2 ^ i else m) 0
      + (List.range 4).foldl (fun m j => if s.descs.any (fun d => d.mover == some j) then m + 2 ^ (8 + j) else m) 0))
  else none

/-- The service key input is active (R532). -/
def State.svcKey (s : State) : Bool := bit (s.reg Reg.sysSlot) 4

/-- The test port drives the pins (R533, R539): EXTEST is the instruction, SEQ is in reset and the service key input is
active. -/
def State.extestDrives (s : State) : Bool :=
  s.jtag.code == 0x00 && bit (s.reg Reg.dbgStat) 0 && !bit (s.reg Reg.rstDom) 2 && s.svcKey

/-- A stretch of R394 runs, so the module drives RESET_N (R395): that of AON until AON is released, that of the other
domains to its end. -/
def State.stretching (s : State) : Bool :=
  s.rst.running && (if bit (s.reg Reg.rstDom) 0 then decide (s.opNs < s.rst.stretch)
    else s.rst.on &&& 0x1003 == 0)

/-- The registers of the always-on pages that are computed. -/
def viewAon (s : State) (k : Nat) : Option Word :=
  if k = Reg.rstOptimeLo then some (s.opTime.setWidth 32)
  else if k = Reg.rstSeq then some (withBits (s.reg k) 4 4 (b2n s.stretching))
  else if k = Reg.rstPwr then
    some (withBits (s.reg k) 4 3 (b2n s.stretching * 2 + b2n (!s.stretching && !s.rst.on.getLsbD 3)))
  else none

/-- Word `w` of the identity of an area's board: that of its tables where they are loaded, else the digest of its bytes;
0 for an empty area (R66, R110). -/
def areaDigest (t : Option Tables) (area : Bytes) (w : Nat) : Word :=
  match t with
  | some t => digWord t.identity w
  | none => if area.isEmpty then 0 else digWord (sha384 (area.take (leAt area 0x0C 4))) w

/-- The registers of the board page that show the identity of an area. -/
def viewBrd (s : State) (k : Nat) : Option Word :=
  if k = Reg.brdDig then
    let b := s.boards
    let sb := bit (s.reg Reg.brdDigSel) 4
    some (areaDigest (if sb then b.stb else b.act) (if sb then b.standbyArea else b.activeArea)
      (s.fld Reg.brdDigSel 3 0))
  else none

end Sys2Proof.Machine
end

