-- ==== Sys2Proof/Machine/HostOps.lean ====
section
/-! DEFINITION. HAP messages as bytes, the responses and notifications the module sends (R464 to R471,
R479). -/

namespace Sys2Proof.Machine

/-- MMU_ROOT of context `k` as the steward sets it: a level-1 table in background memory (R222, R474). -/
def hostRoot (k : Nat) : Word := BitVec.ofNat 32 (0x80000000 + bgMem / 0x1000 + Config.hostTable k % 0x27C000)

/-- A message to the outside is appended to what the block has sent. -/
def State.send (s : State) (o : Output) : State := { s with out := s.out ++ [o] }

/-- The header of a HAP message (R465). -/
def hapHeader (type flags status key counter : Nat) (xid : Word) (seg segs len : Nat) : Bytes :=
  [1] ++ toBe 1 type ++ toBe 1 flags ++ toBe 1 status ++ toBe 1 key ++ [0] ++ toBe 2 len
    ++ toBe 8 counter ++ toBe 4 xid.toNat ++ toBe 2 seg ++ toBe 2 segs ++ zeros 8

/-- The module sends a HAP message on key slot `key`: the send counter of the slot rises by 1 and is
carried; key 0xFF carries a MAC field of zeros (R467, R468). -/
def State.hapSend (s : State) (dst : HostAddr) (key type flags status : Nat) (xid : Word)
    (seg segs : Nat) (body : Bytes) : State :=
  if h : key < 8 then
    let k := s.host.slots[key]
    let c := k.send + 1
    let hd := hapHeader type flags status key c.toNat xid seg segs body.length
    let s := { s with host := { s.host with slots := s.host.slots.set key { k with send := c } } }
    s.send (.hap dst (hd ++ body ++ hmacSha256 k.key (hd ++ body)))
  else
    let hd := hapHeader type flags status key 0 xid seg segs body.length
    s.send (.hap dst (hd ++ body ++ zeros 32))

/-- A handover is between its switch point and HANDED (R451, R469). -/
def State.handingOver (s : State) : Bool :=
  s.upd.state == .serialising || s.upd.state == .starting

/-- The boot extension serves recovery (R417, R481). -/
def State.inRecovery (s : State) : Bool := s.fld Reg.secStat 3 0 == 9

/-- Some core takes what the engine passes: the steward firmware, or the boot extension in recovery. -/
def State.stewardUp (s : State) : Bool := s.fld Reg.secStat 3 0 == 2 || s.inRecovery

/-- The NOTIFY messages of one kind, to every target whose mask includes it (R479); none is sent
during a handover (R454) or while HOST is not released. -/
def State.notify (s : State) (kind : Nat) (body : Bytes) : State :=
  if s.handingOver || !s.domainUp 8 then s
  else
    (List.range s.host.targets.length).foldl (fun s i =>
      match s.host.targets[i]? with
      | some t =>
        if t.mask.getLsbD kind then
          let c := t.count + 1
          let s := { s with host := { s.host with
            targets := modAt s.host.targets i (fun t => { t with count := c }) } }
          s.hapSend t.addr t.key 5 0 0 c 0 1 (toLe 1 kind ++ zeros 3 ++ body)
        else s
      | none => s) s

end Sys2Proof.Machine
end

