-- ==== Sys2Proof/Machine/FieldIo.lean ====
section
/-! DEFINITION. The local field block and the health loop (18_field_io.md). -/

namespace Sys2Proof.Machine

/-- A bit of the pin fuse map in use; a map with LOCKED = 0 acts as all zeros (R407). -/
def State.fuseBit (s : State) (i : Nat) : Bool := s.boot.fuse.getLsbD 255 && s.boot.fuse.getLsbD i

/-- SAFE_ON, HOLD, SHARED and OUT_EN of channel `c` (R407). -/
abbrev State.safeOn (s : State) (c : Nat) : Bool := s.fuseBit c
abbrev State.holdBit (s : State) (c : Nat) : Bool := s.fuseBit (16 + c)
abbrev State.shared (s : State) (c : Nat) : Bool := s.fuseBit (32 + c)
abbrev State.outEn (s : State) (c : Nat) : Bool := s.fuseBit (48 + c)

/-- A field channel's own data replaced by `f` of it. -/
def State.modFio (s : State) (c : Fin 16) (f : FioCh → FioCh) : State :=
  { s with fio := { s.fio with ch := s.fio.ch.set c (f s.fio.ch[c]) } }

/-- FIO_CFG of channel `c`. -/
def State.fioCfg (s : State) (c : Fin 16) : Word := s.reg (Reg.bank c Reg.fioCfg)

/-- Channel `c` is an output (R505). -/
def State.isOutput (s : State) (c : Fin 16) : Bool := bit (s.fioCfg c) 0

/-- The safe state of FIO_CFG SAFE (R515). -/
def State.safeLevel (s : State) (c : Fin 16) : Bool :=
  match bits (s.fioCfg c) 8 7 with
  | 0 => false
  | 1 => true
  | _ => s.fio.ch[c].last

/-- Something switches the channel off, whatever the rules 5 to 8 of R517 give. -/
def State.fioOff (s : State) (c : Fin 16) : Bool :=
  s.fld Reg.fioLplus 13 12 == 2 || bit (s.reg Reg.fioFault) c || bit (s.reg Reg.fioSafe) (16 + c)

/-- The level that rules 5 to 8 of R517 give; a channel that has become an output starts off and is driven from its first
refresh (R505). -/
def State.fioLevel (s : State) (c : Fin 16) : Bool :=
  if s.state == .stoodDown || bit (s.reg Reg.fioSafe) c then s.safeLevel c
  else if s.fio.ch[c].fresh then false
  else if s.shared c && !(s.fio.ch[c].lead && s.state == .leader) then s.safeOn c
  else if s.fio.ch[c].qsafe then s.safeLevel c
  else s.fio.ch[c].latch

/-- Whether the switch of channel `c` is on: the first rule of R517 that applies. -/
def State.fioDrive (s : State) (c : Fin 16) : Bool :=
  if s.fio.ch[c].warm then s.fio.ch[c].last && s.fld Reg.fioLplus 13 12 != 2
  else if !s.isOutput c || !s.domainUp 9 then false
  else if s.fioOff c then false
  else s.fioLevel c

/-- FIO_OUT DRIVE of channel `c` follows R517; the level last driven is kept for HOLD (R515), and the time of a change.
While its own switch is on, no channel has external drive (R513). -/
def State.fioApply (s : State) (c : Fin 16) : State :=
  let d := s.fioDrive c
  let s := if d then s.setFld Reg.fioRb (16 + c) (16 + c) 0 else s
  let s := if bit (s.reg Reg.fioOut) (16 + c) = d then s else s.modFio c (fun x => { x with swAt := s.opNs })
  let s := s.setFld Reg.fioOut (16 + c) (16 + c) (b2n d)
  if s.isOutput c && !s.fio.ch[c].warm && !s.fioOff c && s.domainUp 9 then
    s.modFio c (fun x => { x with last := d })
  else s

/-- Every channel follows R517. -/
def State.fioApplyAll (s : State) : State := over16 State.fioApply s

/-- The direction that the board's I/O map gives channel `c`: none when no local record names it (R505). -/
def fioMapOf (t : Tables) (c : Nat) : Option Bool :=
  (t.iomap.find? (fun r => r.slot == 0xFFFF && r.pofs == c)).map (fun r =>
    t.tasks.any (fun k => decide (k.outBase ≤ r.imemOfs ∧ r.imemOfs < k.outBase + k.outLen)))

/-- Channel `c` has changed its direction (R505): at an online change one that becomes an output starts off, without the
refresh timeout of its former life, and its refresh timer begins; one that becomes an input is switched off, with nothing
left of the output. A board that is loaded leaves the latch and the timer as FLD's release set them (R408, R515). -/
def State.fioTurned (s : State) (c : Fin 16) (now : Bool) : State :=
  let change := s.boards.active == .running
  let s := if !now || change then (s.setFld Reg.fioOut c c 0).modFio c (fun x => { x with latch := false }) else s
  let s := (s.setFld Reg.fioSafe c c 0).setFld Reg.fioSafe (16 + c) (16 + c) 0
  let s := s.modFio c (fun x => { x with
    fresh := now && change, qsafe := false, refAt := if now && change then s.opNs else x.refAt })
  s.fioApply c

/-- DIR and MAPPED of every channel follow the active board (R505). -/
def State.fioDirections (s : State) : State :=
  over16 (fun s c =>
    let m := match s.boards.act with | some t => fioMapOf t c.val | none => none
    let was := s.isOutput c
    let now := m.getD false
    let s := s.setFld (Reg.bank c Reg.fioCfg) 1 0 (b2n now + 2 * b2n m.isSome)
    if was = now then s else s.fioTurned c now) s

/-! ### Inputs (R507, R508) -/

/-- One debounced signal: a new value is accepted after DEB + 1 consecutive samples (R507). -/
def debounce (deb : Nat) (cand : Bool) (n : Nat) (acc x : Bool) : Bool × Nat × Bool :=
  let n := if x = cand then n + 1 else 1
  (x, min n 16, if deb + 1 ≤ n then x else acc)

/-- One sample of channel `c` (R507, R508). -/
def State.fioSampleCh (levels breaks : BitVec 16) (s : State) (c : Fin 16) : State :=
  let cfg := s.fioCfg c
  let x := s.fio.ch[c]
  if s.isOutput c then
    let h := levels.getLsbD c
    let s := s.setFld Reg.fioRb c c (b2n h)
    if h then s else s.setFld Reg.fioRb (16 + c) (16 + c) 0
  else
    let deb := bits cfg 5 2
    let acc := bit (s.reg Reg.fioIn) c
    let brk := bit (s.reg Reg.fioIn) (16 + c)
    let r := debounce deb x.cand x.candN acc (levels.getLsbD c)
    let b := debounce deb x.brk x.brkN brk (bit cfg 6 && breaks.getLsbD c)
    let s := s.modFio c (fun x => { x with cand := r.1, candN := r.2.1, brk := b.1, brkN := b.2.1 })
    let s := s.setFld Reg.fioIn c c (b2n (r.2.2 && !b.2.2))
    let s := s.setFld Reg.fioIn (16 + c) (16 + c) (b2n b.2.2)
    if b.2.2 && !brk then s.raise pFIO 3 else s

/-- The next sampling instant: 90 µs into the window that opens at each multiple of 1 ms of global time (R507). -/
def State.sampleAt (s : State) : BitVec 64 :=
  let n := s.now.toNat
  let k := n / 1000000 * 1000000 + 90000
  BitVec.ofNat 64 (if n < k then k else k + 1000000)

/-- FIO_INPUT_SAMPLE (R507, R508): the levels of all terminals and, for each input, whether its current
is below 0.3 mA; for an output channel the level is the readback of FIO_RB (assumption 11). -/
def fioInputSample (levels breaks : BitVec 16) (s : State) : State :=
  if s.domainUp 9 then over16 (State.fioSampleCh levels breaks) (s.advanceTo s.sampleAt) else s

/-! ### Outputs (R512 to R517) -/

/-- Channel `c` is latched off; cause 0 for trips, 1 for external drive (R512, R513). -/
def State.fioLatch (s : State) (c : Fin 16) (cause : Nat) : State :=
  let i := BitVec.ofNat 32 (c.val + cause * 16)
  let s := s.setFld Reg.fioFault c c 1
  let s := s.setFld Reg.fioSafe (16 + c) (16 + c) 0
  (((s.raise pFIO 1).logErr pFIO 0x0101 i).recErr pFIO 0x0101 i .normal []).fioApply c

/-- FIO_TRIP (R512). A channel whose switch is off does not trip. -/
def fioTrip (c : Fin 16) (s : State) : State :=
  if !(s.domainUp 9 && bit (s.reg Reg.fioOut) (16 + c)) then s
  else
    let k := Reg.bank c Reg.fioCnt
    let s := (s.incSat k 2 0).incSat k 31 16
    let s := s.raise pFIO 0
    if 4 ≤ s.fld k 2 0 then s.fioLatch c 0
    else
      ((s.setFld Reg.fioSafe (16 + c) (16 + c) 1).modFio c (fun x => { x with retryAt := s.opNs + 100000000 })).fioApply c

/-- FIO_RETRY (R512): 100 ms after the trip; the retry timer pauses while outputs are forced off (R516). -/
def fioRetry (c : Fin 16) (s : State) : State :=
  if bit (s.reg Reg.fioSafe) (16 + c) && s.fld Reg.fioLplus 13 12 != 2 then
    ((s.waitOp s.fio.ch[c].retryAt).setFld Reg.fioSafe (16 + c) (16 + c) 0).fioApply c
  else s

/-- FIO_RETRY_COUNT_RESET (R512): the channel has been on for 10 s without a trip. -/
def fioRetryCountReset (c : Fin 16) (s : State) : State :=
  if bit (s.reg Reg.fioOut) (16 + c) then
    (s.waitOp (s.fio.ch[c].swAt + 10000000000)).setFld (Reg.bank c Reg.fioCnt) 2 0 0
  else s

/-- FIO_EXT_DRIVE (R513): the switch has been off for 1 ms and more. A channel that is not SHARED latches off; on a SHARED
channel FIO_RB shows it. -/
def fioExtDrive (c : Fin 16) (s : State) : State :=
  if !(s.domainUp 9 && s.isOutput c) || bit (s.reg Reg.fioOut) (16 + c) then s
  else
  let s := s.waitOp (s.fio.ch[c].swAt + 1000000)
  if s.shared c then s.setFld Reg.fioRb (16 + c) (16 + c) 1
  else
    let s := (s.setFld Reg.fioFault (16 + c) (16 + c) 1).raise pFIO 2
    s.fioLatch c 1

/-- FIO_REFRESH_TIMEOUT (R515): the channels of `mask` that are not in their safe state for it yet have not been refreshed
for TIMEOUT_MS; a Warm hold ends (R408). -/
def fioRefreshTimeout (mask : BitVec 16) (s : State) : State :=
  let m := mask.toNat
  let outs := laneMask (fun c => (s.isOutput c && !bit (s.reg Reg.fioSafe) c || s.fio.ch[c].warm) && mask.getLsbD c)
  let limit := min 1000 (max 1 (s.fld Reg.fioCtrl 9 0)) * 1000000
  if !s.domainUp 9 || outs = 0 || m = 0 then s
  else
    let since := (List.finRange 16).foldl (fun t c => if outs.testBit c.val then max t s.fio.ch[c].refAt else t) 0
    let s := s.waitOp (since + limit)
    let s := s.setReg Reg.fioSafe (s.reg Reg.fioSafe ||| BitVec.ofNat 32 outs)
    let s := over16 (fun s c => if outs.testBit c.val then
      (s.modFio c (fun x => { x with warm := false })).fioApply c else s) s
    (s.raise pFIO 7).logErr pFIO 0x0103 (BitVec.ofNat 32 outs)

/-- The retry timers pause, or run on, as outputs are forced off or are not (R516). -/
def State.fioPause (s : State) (off : Bool) : State :=
  over16 (fun s c => s.modFio c (fun x => { x with retryAt := if off then x.retryAt - s.opNs else s.opNs + x.retryAt })) s

/-- L+ falls below 15 V while FLD is in reset: a Warm hold ends, whose cell L+ supplies, and the outputs stay forced off
after the release of FLD until L+ is restored (R408, R516). -/
def State.holdLost (s : State) : State :=
  if (List.finRange 16).any (fun c => s.fio.ch[c].warm) then
    over16 (fun s c => (s.modFio c (fun x => { x with warm := false })).fioApply c)
      { s with fio := { s.fio with lpFell := true } }
  else s

/-- FIO_LPLUS_MEASURE (R509, R516): L+ in units of 10 mV, every 100 µs. -/
def fioLplusMeasure (volt : BitVec 12) (s : State) : State :=
  if !s.domainUp 9 then (if volt.toNat < 1500 then s.holdLost else s)
  else
    let v := volt.toNat
    let s := s.waitOp (s.fio.lpAt + 100000)
    let s := { s with fio := { s.fio with lpAt := s.opNs } }
    let was := s.fld Reg.fioLplus 13 12
    let s := s.setFld Reg.fioLplus 11 0 v
    let s := { s with fio := { s.fio with lowSeen := s.fio.lowSeen || decide (v < 1920) } }
    if was = 2 then
      { s with fio := { s.fio with lpGood := if v < 1800 then none else some (s.fio.lpGood.getD s.opNs) } }
    else if v < 1500 then
      let s := ((s.setFld Reg.fioLplus 13 12 2).raise pFIO 5).fioPause true
      let s := over16 (fun s c => s.modFio c (fun x => { x with warm := false })) s
      ({ s with fio := { s.fio with lowEp := false, lpGood := none } }.recIrq pFIO 5 .normal []).fioApplyAll
    else if v < 1920 then
      let s := s.setFld Reg.fioLplus 13 12 1
      if s.fio.lowEp then s else { s with fio := { s.fio with lowEp := true } }.raise pFIO 4
    else { s with fio := { s.fio with lowEp := false } }.setFld Reg.fioLplus 13 12 0

/-- FIO_LPLUS_RESTORED (R516): L+ has been at or above 18 V for 100 ms after OFF. -/
def fioLplusRestored (s : State) : State :=
  match s.fio.lpGood with
  | none => s
  | some t =>
  if s.fld Reg.fioLplus 13 12 ≠ 2 then s
  else
    let s := { (s.waitOp (t + 100000000)).fioPause false with fio := { s.fio with lpGood := none } }
    let v := s.fld Reg.fioLplus 11 0
    let s := s.setFld Reg.fioLplus 13 12 (if v < 1920 then 1 else 0)
    let s := s.incSat Reg.fioLplus 31 16
    ((s.raise pFIO 6).recIrq pFIO 6 .normal []).fioApplyAll

/-- FIO_CMD CLEAR (R517, R522): `trips` are the channels that trip in the same BCLK cycle; they stay
latched. -/
def fioCmdClear (value : Word) (trips : BitVec 16) (s : State) : State :=
  if !s.domainUp 9 then s.downError pFIO
  else if bits value 31 16 ≠ 0xF10C then s.refuse Reg.fioCmd
  else
    over16 (fun s c => if bit value c && !trips.getLsbD c then
      ((s.setFld Reg.fioFault c c 0).setFld Reg.fioFault (16 + c) (16 + c) 0).fioApply c else s) s

/-- FIO_CFG_WRITE (R515): SAFE = ON needs SAFE_ON of the fuse map; SAFE = 3 has no effect. A locked page
refuses the write (R17). -/
def fioCfgWrite (value : Word) (s : State) : State :=
  let c : Fin 16 := Fin.ofNat 16 (s.fld Reg.fioSel 3 0)
  if !s.domainUp 9 then s.downError pFIO
  else if s.locked pFIO then s.logErr pFIO 0x0002 (BitVec.ofNat 32 (Reg.fioCfg % 0x1000))
  else if bits value 8 7 = 1 ∧ ¬ s.safeOn c then s.logErr pFIO 0x0102 0
  else
    let old := s.fioCfg c
    let safe := if bits value 8 7 = 3 then bits old 8 7 else bits value 8 7
    let v := withBits ((value &&& 0x0000027C) ||| (old &&& 0x3)) 8 7 safe
    (s.setReg (Reg.bank c Reg.fioCfg) v).fioApply c

/-! ### The health loop (R519 to R521) -/

/-- Rounds `n / d` to the nearest, halves up; both are positive. -/
def roundDiv (n d : Nat) : Nat := (2 * n + d) / (2 * d)

/-- The current that LOOP_CFG QTY gives, in µA (R519). -/
def State.loopQty (s : State) : Nat :=
  let v := match s.fld Reg.loopCfg 1 0 with
    | 1 => 4000 + 1000 * (s.lanes.toList.filter (fun l => l.state == .running)).length
    | 2 =>
      let ofs := s.fld Reg.loopApp 25 2 * 4
      if s.mem.byte (qualBase + ofs / 4) = 0x0C then 3600
      else 4000 + roundDiv (16000 * bits (s.mem.word (imemBase + ofs)) 15 0) 65535
    | _ =>
      let full := max 1 (s.fld Reg.loopCfg 15 4)
      4000 + roundDiv (16000 * min s.fio.reserve full) full
  if v = 3600 then v else max 3800 (min 20500 v)

/-- The loop shows the fault current (R519). -/
def State.loopFault (s : State) : Bool :=
  !s.fuseBit 65 || !s.domainUp 9 || s.state == .boot || s.state == .stoodDown || s.state == .bench
    || !s.fio.healthy

/-- The loop delivers the set current `ua`, which LOOP_MEAS shows; in a compliance episode no more than it could (R520,
R523). -/
def State.loopDeliver (s : State) (ua : Nat) : State :=
  s.setFld Reg.loopMeas 14 0 (if bit (s.reg Reg.loopStat) 15 then min ua (s.fld Reg.loopMeas 14 0) else ua)

/-- The loop current is set: a test, the fault current, or the quantity (R519, R521); FAULT_CUR as it goes to 3,600 µA. -/
def State.loopSet (s : State) : State :=
  let test := s.fld Reg.loopTest 15 0 != 0
  let ua := if test then 21000 else if s.loopFault then 3600 else s.loopQty
  let s := if ua = 3600 ∧ s.fld Reg.loopStat 14 0 ≠ 3600 then s.raise pLOOP 1 else s
  let s := s.setFld Reg.loopStat 14 0 ua
  (s.setFld Reg.loopStat 17 16 (if test then 2 else if s.loopFault then 0 else 1)).loopDeliver ua

/-- The module state has changed: in BOOT, STOOD_DOWN and BENCH the loop shows the fault current (R519). -/
def State.loopFollow (s : State) : State := if s.loopFault then s.loopSet else s

/-- LOOP_HEALTH_TIMEOUT (R519): no HEALTH_XCHG for 10 ms. -/
def loopHealthTimeout (s : State) : State :=
  if !s.fio.healthy then s else
  let s := s.waitOp (s.fio.healthAt + 10000000)
  { s with fio := { s.fio with healthy := false } }.loopSet

/-- LOOP_COMPL (R520): the loop cannot carry the set current; the measured current and voltage. -/
def loopCompl (meas : BitVec 15) (term : BitVec 16) (s : State) : State :=
  if !s.domainUp 9 then s
  else
    let s := s.setReg Reg.loopMeas (BitVec.ofNat 32 (meas.toNat + term.toNat * 2 ^ 16))
    if bit (s.reg Reg.loopStat) 15 then s
    else
      let i := BitVec.ofNat 32 (s.fld Reg.loopStat 14 0)
      let s := ({ s with fio := { s.fio with complAt := s.opNs } }.setFld Reg.loopStat 15 15 1).incSat Reg.loopCnt 15 0
      ((s.raise pLOOP 0).logErr pLOOP 0x0101 i).recErr pLOOP 0x0101 i .normal []

/-- LOOP_COMPL_END (R520): the set current has been reached for 1 s, so the episode is longer than that. -/
def loopComplEnd (meas : BitVec 15) (term : BitVec 16) (s : State) : State :=
  if !s.domainUp 9 then s
  else ((if bit (s.reg Reg.loopStat) 15 then s.waitOp (s.fio.complAt + 1000000000) else s).setReg Reg.loopMeas (BitVec.ofNat 32 (meas.toNat + term.toNat * 2 ^ 16))).setFld Reg.loopStat 15 15 0

/-- A loop test ends (R521). -/
def State.loopTestStop (s : State) : State :=
  if s.fld Reg.loopTest 15 0 = 0 then s
  else ((s.setFld Reg.loopTest 15 0 0).raise pLOOP 2).loopSet

/-- LOOP_TEST_END (R521): the duration of the test has passed. -/
def loopTestEnd (s : State) : State :=
  if s.fld Reg.loopTest 15 0 = 0 then s else (s.waitOp s.fio.testEnd).loopTestStop

/-- LOOP_TEST_WRITE (R521): a test runs while FLD is released and LOOP_EN is 1. -/
def loopTestWrite (value : Word) (s : State) : State :=
  let ms := min (bits value 15 0) 60000
  if !s.domainUp 9 then s.downError pLOOP
  else if ms = 0 then s.loopTestStop
  else if s.fuseBit 65 then
    let s := { s with fio := { s.fio with testEnd := s.opNs + ms * 1000000 } }
    ((s.setFld Reg.loopTest 15 0 ms).incSat Reg.loopCnt 31 16).loopSet
  else s

/-! ### The commands -/

/-- FIO_INPUT_SAMPLE (R507). -/
def execFioInputSample (levels breaks : BitVec 16) (s : State) : Host.Outcome State Fault Refusal :=
  .next (fioInputSample levels breaks s)
/-- FIO_TRIP (R512). -/
def execFioTrip (chan : Fin 16) (s : State) : Host.Outcome State Fault Refusal := .next (fioTrip chan s)
/-- FIO_RETRY (R512). -/
def execFioRetry (chan : Fin 16) (s : State) : Host.Outcome State Fault Refusal := .next (fioRetry chan s)
/-- FIO_RETRY_COUNT_RESET (R512). -/
def execFioRetryCountReset (chan : Fin 16) (s : State) : Host.Outcome State Fault Refusal := .next (fioRetryCountReset chan s)
/-- FIO_EXT_DRIVE (R513). -/
def execFioExtDrive (chan : Fin 16) (s : State) : Host.Outcome State Fault Refusal := .next (fioExtDrive chan s)
/-- FIO_REFRESH_TIMEOUT (R515). -/
def execFioRefreshTimeout (mask : BitVec 16) (s : State) : Host.Outcome State Fault Refusal := .next (fioRefreshTimeout mask s)
/-- FIO_LPLUS_MEASURE (R516). -/
def execFioLplusMeasure (volt : BitVec 12) (s : State) : Host.Outcome State Fault Refusal := .next (fioLplusMeasure volt s)
/-- FIO_LPLUS_RESTORED (R516). -/
def execFioLplusRestored (s : State) : Host.Outcome State Fault Refusal := .next (fioLplusRestored s)
/-- FIO_CMD_CLEAR (R517). -/
def execFioCmdClear (value : Word) (trips : BitVec 16) (s : State) : Host.Outcome State Fault Refusal :=
  .next (fioCmdClear value trips s)
/-- FIO_CFG_WRITE (R515). -/
def execFioCfgWrite (value : Word) (s : State) : Host.Outcome State Fault Refusal := .next (fioCfgWrite value s)
/-- LOOP_HEALTH_TIMEOUT (R519). -/
def execLoopHealthTimeout (s : State) : Host.Outcome State Fault Refusal := .next (loopHealthTimeout s)
/-- LOOP_COMPL (R520). -/
def execLoopCompl (meas : BitVec 15) (term : BitVec 16) (s : State) : Host.Outcome State Fault Refusal := .next (loopCompl meas term s)
/-- LOOP_COMPL_END (R520). -/
def execLoopComplEnd (meas : BitVec 15) (term : BitVec 16) (s : State) : Host.Outcome State Fault Refusal := .next (loopComplEnd meas term s)
/-- LOOP_TEST_WRITE (R521). -/
def execLoopTestWrite (value : Word) (s : State) : Host.Outcome State Fault Refusal := .next (loopTestWrite value s)
/-- LOOP_TEST_END (R521). -/
def execLoopTestEnd (s : State) : Host.Outcome State Fault Refusal := .next (loopTestEnd s)

end Sys2Proof.Machine
end

