-- ==== Sys2Proof/Machine/Firmware.lean ====
section
/-! DEFINITION. Firmware images: their header, their checks, the writing of the library part (R442 to R448).
Used by the boot extension (R417) and the update engine (R448). -/

namespace Sys2Proof.Machine

/-- Some byte of `l` in [ofs, ofs + n) is not 0. -/
def rsvBad (l : Bytes) (ofs n : Nat) : Bool := (slice l ofs n).any (fun b => b != 0)

/-- IMG_LEN of an image (R442). -/
def imgLen (l : Bytes) : Nat := leAt l 0x08 4
/-- VERSION of an image; 0 for none (R442, R461). -/
def imgVersion (l : Bytes) : Nat := leAt l 0x10 4
/-- BRD_MIN and BRD_MAX as BRD_FMT holds them (R442, R460). -/
def imgBrdFmt (l : Bytes) : Word := BitVec.ofNat 32 (leAt l 0x14 2 + leAt l 0x16 2 * 2 ^ 16)
/-- HO_FMT of an image (R442). -/
def imgHoFmt (l : Bytes) : Nat := leAt l 0x18 2
/-- HO_MIN of an image (R442). -/
def imgHoMin (l : Bytes) : Nat := leAt l 0x1A 2
/-- SET_FMT of group `g` of an image (R442). -/
def imgSetFmt (l : Bytes) (g : Nat) : Nat := leAt l (0x30 + 2 * g) 2
/-- The library part of an image (R442). -/
def imgLib (l : Bytes) : Bytes := slice l (leAt l 0x24 4) (leAt l 0x28 4)

/-- Reason 1 of R448: the header of the image of `len` staged bytes. -/
def imgHeaderOk (l : Bytes) (len : Nat) : Bool :=
  let n := imgLen l
  decide (leAt l 0 4 = 0x57465641) && decide (leAt l 4 2 = 256) && decide (512 ≤ n ∧ n ≤ 67108864)
    && decide (n % 16 = 0) && decide (leAt l 0x0C 4 = n - 128) && decide (len = n)
    && !rsvBad l 0x06 2 && !rsvBad l 0x40 192

/-- Reason 2 of R448: the signature block and the signature (R443), for the given root slot and key. -/
def imgSigOk (l : Bytes) (slot : Nat) (key : Bytes) : Bool :=
  let o := imgLen l - 128
  decide (leAt l o 4 = 0x46474953) && decide (leAt l (o + 4) 4 = slot) && decide (leAt l (o + 8) 4 = 1)
    && !rsvBad l (o + 12) 4 && !rsvBad l (o + 112) 16
    && ecdsaVerify key (sha384 (l.take o)) (slice l (o + 16) 96)

/-- Reason 3 of R448: the parts lie between 0x100 and SIG_OFS and do not overlap (R442, R443). -/
def imgPartsOk (l : Bytes) : Bool :=
  let so := leAt l 0x1C 4
  let sl := leAt l 0x20 4
  let lo := leAt l 0x24 4
  let ll := leAt l 0x28 4
  let e := imgLen l - 128
  decide (so % 16 = 0 ∧ 1 ≤ sl ∧ sl ≤ 50331648 ∧ 0x100 ≤ so ∧ so + sl ≤ e)
    && decide (lo % 16 = 0 ∧ 1 ≤ ll ∧ ll ≤ 1048576 ∧ 0x100 ≤ lo ∧ lo + ll ≤ e)
    && decide (so + sl ≤ lo ∨ lo + ll ≤ so) && decide (leAt l 0x2C 4 < sl)

/-- The reason of the first of the checks 1 to 3 of R448 that fails. -/
def imgFormat (l : Bytes) (len slot : Nat) (key : Bytes) : Option Nat :=
  if !imgHeaderOk l len then some 1
  else if !imgSigOk l slot key then some 2
  else if !imgPartsOk l then some 3
  else none

/-- A library part is written into half `h` of the ITCM of the lanes that `p` picks, and into its DRAM copy
(R444, R447, R448). -/
def State.writeLib (s : State) (lib : Bytes) (h : Nat) (p : Fin 16 → Bool) : State :=
  let s := over16 (fun s n =>
    if p n then s.writeMem (laneBase n.val + 0x00200000 + h * 0x00100000) lib else s) s
  s.writeMem (fwStaging + 0x04000000 + h * 0x00100000) lib

/-- The image of a bank. -/
def State.bankImg (s : State) (b : Bool) : Bytes := if b then s.upd.imgB else s.upd.imgA
/-- The state of a bank. -/
def State.bankState (s : State) (b : Bool) : BankState := if b then s.upd.bankB else s.upd.bankA
/-- ENTRY of an image (R442). -/
def imgEntry (l : Bytes) : Word := BitVec.ofNat 32 (leAt l 0x2C 4)
/-- The bank choice record is written, copy 2 first and copy 1 second, at `ns` of operating time (R445). -/
def Update.writeChoice (u : Update) (ns : Option Nat) : Update :=
  let u := { u with copy2 := some (u.bankA, u.bankB), copyOld := u.copy1 }
  { u with copy1 := some (u.bankA, u.bankB), copyNs := ns }
/-- Power is lost at `ns`, with the record in the midst of being written if that is its instant: what it finds is `cut`
of Config.choiceCut; copy 1 is as before while copy 2 is being written (R445). -/
def Update.cutChoice (u : Update) (ns : Nat) (cut : Fin 3) : Update :=
  let u := if u.copyNs = some ns then
      (if cut = 1 then { u with copy2 := none, copy1 := u.copyOld }
       else if cut = 2 then { u with copy1 := none } else u)
    else u
  { u with copyNs := none }
/-- The boot extension reads the record: copy 1, or copy 2 where the CRC-32C of copy 1 fails; a broken copy is written
again (R445). -/
def Update.readChoice (u : Update) : Update :=
  match u.copy1, u.copy2 with
  | some c, _ => { u with bankA := c.1, bankB := c.2 }.writeChoice none
  | none, some c => { u with bankA := c.1, bankB := c.2 }.writeChoice none
  | none, none => u
/-- Bank `b` takes a state. -/
def Update.bank (u : Update) (b : Bool) (st : BankState) : Update := if b then { u with bankB := st } else { u with bankA := st }
/-- The banks take the states that `f` gives them and the bank choice record is written; where the write fails, copy 2
fails its CRC-32C, copy 1 stands as it was, and 0x0104 is logged (R445, R461). -/
def State.writeBanks (s : State) (f : Update → Update) (written : Bool) : State :=
  let old := s.upd.copy1
  let s := { s with upd := (f s.upd).writeChoice (some s.opNs) }
  if written then s
  else ({ s with upd := { s.upd with copy1 := old, copy2 := none, copyNs := none } }.logErr pUPD 0x0104 0).raise pUPD 5
/-- A bank takes a state, and the bank choice record is written, which can fail (R445, R461). -/
def State.setBank (s : State) (b : Bool) (st : BankState) : State :=
  (s.writeBanks (fun u => u.bank b st) (Config.choiceWritten s.free)).takeFree
/-- A steward is loaded from a bank and started at ENTRY on a block (R446, R451, R457). -/
def State.startSteward (s : State) (b : Bool) (block : Option HoBlock) : State :=
  { s with upd := { s.upd with stw := ⟨b, imgEntry (s.bankImg b), block⟩ } }
/-- Where a handover block stands (R444). -/
def HoBlock.base : HoBlock → Nat
  | .forward => fwStaging + 0x08000000
  | .back => fwStaging + 0x0C000000
/-- The library part of an image stands in half `h` of the ITCM of every lane that is not BORNE_OFF (R448, R450). -/
def State.libStands (s : State) (lib : Bytes) (h : Nat) : Bool :=
  (List.finRange 16).all (fun n => s.lanes[n].state == .borneOff
    || s.mem.read (laneBase n.val + 0x00200000 + h * 0x00100000) lib.length == lib)
/-! ### Settings (R459) -/

/-- The registers with RWL fields, by key, with the mask of those fields (R12). BRD_FMT is not among them: the update
engine loads it (R460). -/
def settingRegs : List (Nat × Word) :=
  [(Reg.timCtrl, 0x0000FFF3), (0x04040, 0x000000FF), (0x04054, 0x00003FFF), (0x18040, 0x0000000F), (0x1A040, 0x0FFFFFFF),
   (0x60050, 0x000007FF), (0x60054, 0x000007FF), (0x60058, 0x000007FF), (0x6005C, 0x000007FF), (0x60080, 0x001FFFFF),
   (0x61050, 0x000007FF), (0x61054, 0x000007FF), (0x61058, 0x000007FF), (0x6105C, 0x000007FF), (0x69040, 0x00000003),
   (0x6905C, 0x001FFFFF), (0x76040, 0x0000FF01), (0x74040, 0x0000003F), (0x75058, 0xFFFFFFFF), (0x70040, 0x00003FFF),
   (0x71040, 0x00000100), (0x71044, 0x00000100), (0x72040, 0x0003FFFF), (0x7C040, 0x000003FF), (0x7D040, 0x0000FFF3),
   (0x7D044, 0x03FFFFFF), (0x7F040, 0x00000001)]
  ++ (List.range 18).map (fun i => (Reg.bank i Reg.clkLim, 0xFFFFFFFF))
  ++ (List.range 16).map (fun c => (Reg.bank c Reg.fioCfg, 0x000003FC))

/-- The default of a register's RWL fields: the reset value. -/
def settingDefault (x : Nat × Word) : Word :=
  (((regReset1 ++ regReset2 ++ regReset3 ++ regReset4).find? (fun e => e.1 == x.1)).map Prod.snd).getD 0 &&& x.2

/-- The settings in use, stamped with formats. -/
def State.settings (s : State) (fmts : List Nat) : Settings :=
  { fmts := fmts, regs := settingRegs.map (fun x => (x.1, s.reg x.1 &&& x.2)), targets := s.host.targets
    domain := s.host.domain, delays := s.can.toList.map CanCh.delayMs }

/-- A register's RWL fields take a value, as a write by the steward gives it: not on a locked page, nor while its domain is
down (R16, R538). -/
def State.setSetting (s : State) (x : Nat × Word) (v : Word) : State :=
  let p := x.1 / 0x1000 % 0x100
  if s.locked p || !s.domainUp (pageDomain p) then s else s.setReg x.1 ((s.reg x.1 &&& ~~~x.2) ||| (v &&& x.2))

/-- The value of a register in a settings area. -/
def Settings.value (a : Settings) (k : Nat) : Word := ((a.regs.find? (fun x => x.1 == k)).map Prod.snd).getD 0

/-- The host settings of area `a` whose group `p` picks are in use: PTP domain, notify targets, recovery delays. -/
def State.hostSettings (s : State) (a : Settings) (p : Fin 8 → Bool) : State :=
  let g := fun (i : Nat) => p (Config.settingGroup (2 ^ 40 + i))
  { s with
    host := { s.host with domain := if g 0 then a.domain else s.host.domain, targets := if g 1 then a.targets else s.host.targets }
    can := (s.can.set 0 { s.can[0] with delayMs := if g 2 then a.delays.getD 0 1000 else s.can[0].delayMs }).set 1
      { s.can[1] with delayMs := if g 3 then a.delays.getD 1 1000 else s.can[1].delayMs } }

/-- The settings of the groups that `p` picks take the values that `f` gives registers and those of area `a`; the field
block and the loop follow (R459). -/
def State.useSettings (s : State) (a : Settings) (f : Nat × Word → Word) (p : Fin 8 → Bool) : State :=
  let s := settingRegs.foldl (fun s x => if p (Config.settingGroup x.1) then s.setSetting x (f x) else s) s
  ((s.hostSettings a p).fioApplyAll).loopFollow

/-- The groups, as a bit mask, in which two sets of settings differ. -/
def Settings.differ (a b : Settings) : Nat :=
  let bad := (settingRegs.filter (fun x => a.value x.1 != b.value x.1)).map Prod.fst
    ++ (if a.domain = b.domain then [] else [2 ^ 40])
    ++ (if a.targets.map (fun t => { t with count := 0 }) = b.targets.map (fun t => { t with count := 0 }) then []
        else [2 ^ 40 + 1])
    ++ (if a.delays.head? = b.delays.head? then [] else [2 ^ 40 + 2])
    ++ (if a.delays.drop 1 = b.delays.drop 1 then [] else [2 ^ 40 + 3])
  (List.range 8).foldl (fun m g => if bad.any (fun k => (Config.settingGroup k).val == g) then m + 2 ^ g else m) 0

/-- A bank takes an image; UPD_VER_A and UPD_VER_B show its VERSION (R461). -/
def State.setImg (s : State) (b : Bool) (l : Bytes) : State :=
  let v := BitVec.ofNat 32 (imgVersion l)
  if b then { s with upd := { s.upd with imgB := l } }.setReg Reg.updVerB v
  else { s with upd := { s.upd with imgA := l } }.setReg Reg.updVerA v

end Sys2Proof.Machine
end

