-- ==== Sys2Proof/Machine/LaneOps.lean ====
section
/-! DEFINITION. The shared operations of the lanes: address checks, loads and stores, the write log,
lane states, traps, halts, the issue of an instruction (05_lanes.md, 06_lockstep.md, 07_gambit.md). -/

namespace Sys2Proof.Machine

/-! ### Entry fields (R72, R77, R81, R83, R85) -/

abbrev Entry.etype (e : Entry) : Nat := bits e.w0 3 0
abbrev Entry.start (e : Entry) : Nat := bits e.w0 16 4
abbrev Entry.phase (e : Entry) : Nat := bits e.w0 28 17
abbrev Entry.rexp (e : Entry) : Nat := bits e.w1 3 0
abbrev Entry.cond (e : Entry) : Nat := bits e.w1 7 4
abbrev Entry.ca (e : Entry) : Nat := bits e.w1 11 8
abbrev Entry.cb (e : Entry) : Nat := bits e.w1 15 12
/-- LANE of a PLY entry (R77). -/
abbrev Entry.lane (e : Entry) : Fin 16 := (e.w1.extractLsb' 16 4).toFin
/-- KIND of a PLY entry (R78). -/
abbrev Entry.kind (e : Entry) : Nat := bits e.w1 23 20
/-- TASK of a PLY, COMMIT, MOVE or FIELD entry. -/
abbrev Entry.task (e : Entry) : Fin 16 := (e.w1.extractLsb' 24 4).toFin
/-- DUR of a PLY, COMMIT or MOVE entry. -/
abbrev Entry.dur (e : Entry) : Nat := bits e.w2 12 0
abbrev Entry.arg (e : Entry) : Nat := bits e.w2 31 16
abbrev Entry.entry (e : Entry) : Nat := bits e.w3 19 0
abbrev Entry.frame (e : Entry) : Nat := bits e.w3 29 20
abbrev Entry.mover (e : Entry) : Nat := bits e.w1 18 16
abbrev Entry.mkind (e : Entry) : Nat := bits e.w1 23 20
abbrev Entry.ref (e : Entry) : Nat := bits e.w3 23 0
/-- The slot index of a SLOT entry (R85). -/
abbrev Entry.slot (e : Entry) : Nat := bits e.w1 31 16
abbrev Entry.fevt (e : Entry) : Nat := bits e.w1 23 16

/-- KIND GAMBIT (R78). -/
abbrev Entry.isGambit (e : Entry) : Bool := e.kind == 2

/-- The task record of task `t` in the active board. -/
def State.taskRec (s : State) (t : Fin 16) : Option TaskRec :=
  match s.boards.act with
  | some b => b.tasks[t.val]?
  | none => none

/-! ### Image memory (R205, R234) -/

/-- The quality code of the IMEM word at byte offset `ofs` (R221). -/
def State.imemQual (s : State) (ofs : Nat) : BitVec 4 := (s.mem.byte (qualBase + ofs / 4)).setWidth 4

/-- The IMEM word at byte offset `ofs`. -/
def State.imemWord (s : State) (ofs : Nat) : Word := s.mem.word (imemBase + ofs)

/-- An IMEM word and its quality code are written as one event; a change of either sets all 16 change
mask bits of the line (R205, R234). -/
def State.imemSet (s : State) (ofs : Nat) (w : Word) (q : BitVec 4) : State :=
  if s.imemWord ofs = w ∧ s.imemQual ofs = q then s
  else
    let s := s.writeMem (imemBase + ofs) (wordBytes w)
    let s := { s with mem := s.mem.setByte (qualBase + ofs / 4) (q.setWidth 8) }
    { s with gmb := s.gmb.map (fun c => { c with mask := sins c.mask (ofs / 64) }) }

/-! ### The lane address space (R145 to R147, R235) -/

/-- The ranges of R145. -/
inductive LaneRange where
  | itcm | dtcm | imem | regs | outside
  deriving DecidableEq, Repr

/-- The range a lane address falls in (R145). -/
def laneRange (a : Nat) : LaneRange :=
  if a < 0x00300000 then .itcm
  else if 0x00400000 ≤ a ∧ a < 0x00800000 then .dtcm
  else if 0x10000000 ≤ a ∧ a < 0x14000000 then .imem
  else if 0xF0000000 ≤ a ∧ a < 0xF0100000 then .regs
  else .outside

/-- Fetch, load or store. -/
inductive Access where
  | fetch | load | store
  deriving DecidableEq, Repr

/-- LANE_LIB HALF of a lane (R146). -/
def State.libHalf (s : State) (n : Nat) : Nat := s.fld (Reg.laneLib n) 0 0

/-- The physical address of a TCM address of lane `n` (R146, R221). -/
def State.lanePhys (s : State) (n a : Nat) : Nat :=
  if 0x00200000 ≤ a ∧ a < 0x00300000 then laneBase n + a + s.libHalf n * 0x00100000 else laneBase n + a

/-- The save area of every lane, by lane address (R133). -/
def State.saveArea (s : State) : Nat := 0x00400000 + s.fld Reg.bsqBgSave 13 0 * 256

/-- Region `r` of lane `n` is enabled and allows the access at address `a` (R147, R235, R237, R255). -/
def State.regionAllows (s : State) (n r : Nat) (k : Access) (a : Nat) : Bool :=
  let b := n + r * 16
  let base := (s.reg (Reg.bank b Reg.mmuRbase)).toNat
  let limit := (s.reg (Reg.bank b Reg.mmuRlimit)).toNat
  let attr := s.reg (Reg.bank b Reg.mmuRattr)
  bit attr 0 && decide (base ≤ a ∧ a < limit + 64)
    && (match k with
        | .fetch => bit attr 1 && decide (r < 13)
        | .load => bit attr 2
        | .store => bit attr 3 && (decide (r < 13) || laneRange a == .dtcm))
    && !(r == 2 && decide (s.saveArea ≤ a ∧ a < s.saveArea + 256))

/-- The regions a ply (`bg` false) or a background job (`bg` true) is checked against (R235). -/
def regionSet (bg : Bool) : List Nat :=
  if bg then [0, 1, 3, 12, 13, 14, 15] else [0, 1, 2, 3, 4, 5, 6, 7, 8, 9, 10, 11, 12]

/-- Some region allows the access (R147). -/
def State.mayAccess (s : State) (n : Nat) (bg : Bool) (k : Access) (a : Nat) : Bool :=
  (regionSet bg).any (fun r => s.regionAllows n r k a)

/-- The word at lane address `a` can be fetched (R145, R147). -/
def State.fetchOk (s : State) (n : Nat) (bg : Bool) (a : Nat) : Bool :=
  laneRange a == .itcm && s.mayAccess n bg .fetch a

/-! ### Loads and stores of a ply and of a job (R148 to R150, R171, R206, R207) -/

/-- What executes on a lane: a GAMBIT ply of a task, another ply, or a background job. -/
inductive Work where
  | gambit (t : Fin 16)
  | ply
  | job
  deriving DecidableEq, Repr

/-- What executes on a lane. -/
def Lane.work (l : Lane) : Work :=
  if l.act = .job then .job
  else match l.ply with
    | some p => if p.entry.isGambit then .gambit p.entry.task else .ply
    | none => .job

/-- The job's region set applies: a background job, or a BENCH lane (R171, R198). -/
def Work.bg : Work → Bool
  | .job => true
  | _ => false

/-- IMEM offset `ofs` lies in the output image of task `t`. -/
def State.inOutput (s : State) (t : Fin 16) (ofs : Nat) : Bool :=
  match s.taskRec t with
  | some r => decide (r.outBase ≤ ofs ∧ ofs < r.outBase + r.outLen)
  | none => false

/-- IMEM offset `ofs` lies in the staging area of task `t`. -/
def State.inStaging (s : State) (t : Fin 16) (ofs : Nat) : Bool :=
  match s.taskRec t with
  | some r => decide (r.stageBase ≤ ofs ∧ ofs < r.stageBase + r.outLen)
  | none => false

/-- The staging offset of an output image offset of task `t` (R206). -/
def State.stageOf (s : State) (t : Fin 16) (ofs : Nat) : Nat :=
  match s.taskRec t with
  | some r => r.stageBase + (ofs - r.outBase)
  | none => ofs

/-- The IMEM offset a load of lane `n` reads: in a GAMBIT ply, a load from the task's output image reads
the staging area for lines that are staged, by the task or by this ply (R206). -/
def State.loadOfs (s : State) (n : Fin 16) (ofs : Nat) : Nat :=
  match s.lanes[n].work with
  | .gambit t =>
    if s.inOutput t ofs && (s.gmb[t].staged.contains (ofs / 64)
        || s.lanes[n].log.lines.contains (0x10000000 + s.stageOf t ofs / 64 * 64))
    then s.stageOf t ofs else ofs
  | _ => ofs

/-- The IMEM word a load of lane `n` at offset `ofs` returns, with its own stores (R148). -/
def State.plyImemWord (s : State) (n : Fin 16) (ofs : Nat) : Word :=
  let o := s.loadOfs n ofs
  match tfind s.lanes[n].log.imem o with
  | some w => w
  | none => s.imemWord o

/-- The quality code of the IMEM word a load of lane `n` at offset `ofs` sees. -/
def State.plyImemQual (s : State) (n : Fin 16) (ofs : Nat) : BitVec 4 :=
  let o := s.loadOfs n ofs
  match tfind s.lanes[n].log.qual o with
  | some q => q
  | none => s.imemQual o

/-- The byte at lane address `a` as lane `n` sees it, with the stores of its ply (R148). -/
def State.plyByte (s : State) (n : Fin 16) (a : Nat) : Byte :=
  match laneRange a with
  | .imem =>
    let ofs := a - 0x10000000
    ((s.plyImemWord n (ofs / 4 * 4)).extractLsb' (ofs % 4 * 8) 8)
  | .dtcm =>
    match tfind s.lanes[n].log.dtcm a with
    | some b => b
    | none => s.mem.byte (s.lanePhys n a)
  | _ => s.mem.byte (s.lanePhys n a)

/-- `k` bytes from lane address `a` as lane `n` sees them. -/
def State.plyBytes (s : State) (n : Fin 16) (a : Nat) : Nat → Bytes
  | 0 => []
  | k + 1 => s.plyByte n a :: State.plyBytes s n (a + 1) k

/-- A load of the word that holds lane address `a` meets an uncorrectable word (R168). -/
def State.loadPoisoned (s : State) (n : Fin 16) (a : Nat) : Bool :=
  match laneRange a with
  | .itcm => s.poisoned (s.lanePhys n (a / 4 * 4)) 4
  | .dtcm => !s.lanes[n].log.words.contains (a / 4 * 4) && s.poisoned (s.lanePhys n (a / 4 * 4)) 4
  | .imem =>
    let o := s.loadOfs n ((a - 0x10000000) / 4 * 4)
    (tfind s.lanes[n].log.imem o).isNone && s.poisoned (imemBase + o) 4
  | _ => false

/-- The latency of a load by its range (R145). -/
def loadLat : LaneRange → Nat
  | .imem => 4
  | .regs => 24
  | _ => 2

/-- The PROT check of a load of `size` bytes (R145, R158, R164): the detail of the trap, if any. -/
def State.loadProt (s : State) (n : Fin 16) (a size : Nat) (qual : Bool) : Option Nat :=
  match laneRange a with
  | .outside => some 1
  | r =>
    if (r = .regs ∧ (size ≠ 4 ∨ qual)) ∨ (qual ∧ r ≠ .imem) then some 4
    else if s.mayAccess n s.lanes[n].work.bg .load a then none
    else some 2

/-- The read set takes the line that a load of a GAMBIT ply read, unless it lies in the task's own
output image or staging area (R204) or the lane is outside the task's context (R547). -/
def State.noteRead (s : State) (n : Fin 16) (a : Nat) : State :=
  match s.lanes[n].work, laneRange a with
  | .gambit t, .imem =>
    let ofs := a - 0x10000000
    if s.inOutput t ofs || s.inStaging t ofs || !s.lanes[n].inCtx t then s
    else s.modLane n (fun l => { l with readSet := sins l.readSet (ofs / 64) })
  | _, _ => s

/-- The lane address a store of lane `n` goes to: a GAMBIT ply's store to its task's output image goes
to the staging area (R206). -/
def State.storeAddr (s : State) (n : Fin 16) (a : Nat) : Nat :=
  match s.lanes[n].work, laneRange a with
  | .gambit t, .imem => 0x10000000 + s.stageOf t (a - 0x10000000)
  | _, _ => a

/-- The PROT check of a store of `size` bytes (R145, R149, R158, R171, R206, R207): the detail of the
trap, if any; a store to ITCM or the register window has detail 3 whatever its width, an STH or STB to IMEM detail 4 in a
GAMBIT ply too, whatever image it goes to (assumption 76). `sub` is true for STH and STB, `qual` for STQ. -/
def State.storeProt (s : State) (n : Fin 16) (a : Nat) (sub qual : Bool) : Option Nat :=
  let l := s.lanes[n]
  let w := l.work
  match laneRange a with
  | .outside => some 1
  | .itcm => some 3
  | .regs => some 3
  | r =>
    if (r = .imem ∧ (sub ∨ w = .job)) ∨ (r = .dtcm ∧ qual) then some 4
    else
      let foreign := match w with
        | .gambit t => r == .imem && !s.inOutput t (a - 0x10000000)
        | _ => false
      if foreign || !s.mayAccess n w.bg .store a then some 2
      else if w = .job then none
      else
        let line := s.storeAddr n a / 64 * 64
        if l.log.lines.contains line then none
        else if 2048 ≤ l.log.lines.length then some 5
        else
          let newDtcm := (l.log.lines.filter (fun x => laneRange x == .dtcm
            && !l.shadowBuf.any (fun e => e.addr == x))).length
          match w with
          | .gambit _ =>
            if r = .dtcm ∧ ¬ l.shadowBuf.any (fun e => e.addr == line)
                ∧ 2048 ≤ l.shadowBuf.length + newDtcm then some 5 else none
          | _ => none

/-- The write log with the line of DTCM address `a` in it, the whole line as it stands (R149, R150). -/
def State.logLine (s : State) (n : Fin 16) (a : Nat) : WriteLog :=
  let lg := s.lanes[n].log
  let line := a / 64 * 64
  if lg.lines.contains line then lg
  else
    { lg with
      lines := lg.lines ++ [line]
      dtcm := (s.mem.read (s.lanePhys n line) 64).zipIdx.foldl (fun m b => tput m (line + b.2) b.1) lg.dtcm }

/-- A store of bytes to DTCM: into the write log of a ply, at once for a job (R148, R171). -/
def State.storeDtcm (s : State) (n : Fin 16) (a : Nat) (l : Bytes) : State :=
  if s.lanes[n].work = .job then s.writeMem (s.lanePhys n a) l
  else
    let lg := s.logLine n a
    let lg := { lg with
      dtcm := l.zipIdx.foldl (fun m b => tput m (a + b.2) b.1) lg.dtcm
      words := if l.length = 4 then sins lg.words a else lg.words }
    s.modLane n (fun x => { x with log := lg })

/-- A store of an IMEM word with its quality, or of the quality alone, into the write log (R148, R206). -/
def State.storeImem (s : State) (n : Fin 16) (a : Nat) (w : Option Word) (q : BitVec 4) : State :=
  let t := s.storeAddr n a
  let ofs := t - 0x10000000
  let line := t / 64 * 64
  let lg := s.lanes[n].log
  let lg := { lg with
    lines := if lg.lines.contains line then lg.lines else lg.lines ++ [line]
    imem := match w with | some w => tput lg.imem ofs w | none => lg.imem
    qual := tput lg.qual ofs (qnorm q) }
  s.modLane n (fun x => { x with log := lg })

/-! ### Lane states (R193, R202, R209) -/

/-- The open context of task `t` is spoiled by its first event; of events in one BCLK cycle the lowest cause counts
(R209). -/
def State.spoil (s : State) (t : Fin 16) (cause lane : Nat) : State :=
  let c := s.gmb[t]
  if !c.isOpen then s
  else match c.spoiled with
    | none => (s.modCtx t (fun c => { c with spoiled := some (cause, lane), spoilAt := s.time.gt })).raise pGMB 2
    | some x => if c.spoilAt = s.time.gt ∧ cause < x.1 then
        s.modCtx t (fun c => { c with spoiled := some (cause, lane) }) else s

/-- A lane changes state: STATE_CHG and one record (R193), the pending mask follows (R129), a context
the lane belongs to is spoiled when the lane leaves RUNNING (R209 cause 6). -/
def State.setLane (s : State) (n : Fin 16) (st : LaneState) : State :=
  if s.lanes[n].state = st then s
  else
    let was : LaneState := s.lanes[n].state
    let s := match s.lanes[n].owner with
      | some t => if was = LaneState.running then s.spoil (Fin.ofNat 16 t) 6 n else s
      | none => s
    let out := decide (st = .barred ∨ st = .borneOff)
    let s := s.modLane n (fun l => { l with state := st, rolls := if out then 0 else l.rolls })
    let m := s.seqr.pending &&& ~~~(BitVec.ofNat 16 (2 ^ n.val))
    let s := { s with seqr := { s.seqr with
      pending := if out then m ||| BitVec.ofNat 16 (2 ^ n.val) else m
      pendAt := s.now, pendOld := if s.seqr.pendAt = s.now then s.seqr.pendOld else s.seqr.pending } }
    let s := s.raise (pLANE n) 2
    let s := s.recIrq (pLANE n) 2 .normal (toLe 4 (was.code + st.code * 16))
    if st = .borneOff then
      let s := s.setReg Reg.cmpBorne (s.reg Reg.cmpBorne ||| oneBit n.val)
      s.raise pCMP 3
    else s

/-- OUTCOME of the ply on lane `n`: in LANE_CUR (R174) and in the newest trace record (R200). -/
def State.plyOutcome (s : State) (n : Fin 16) (outcome : Nat) : State :=
  (s.setFld (Reg.laneCur n) 19 17 outcome).modLane n (fun l => { l with
    trace := modAt l.trace 0 (fun t => { t with outcome := outcome }) })

/-- What a ply that stops on lane `n` leaves beside its outcome: the use of the write log (LANE_WLOG, R174), QA and the
log lines in the newest trace record (R200). -/
def State.plyUse (s : State) (n : Fin 16) : State :=
  let k := s.lanes[n].log.lines.length
  ((s.setFld (Reg.laneWlog n) 11 0 k).peak (Reg.laneWlog n) 27 16 k).modLane n (fun l => { l with
    trace := modAt l.trace 0 (fun t => { t with qa := l.main.qa, lines := k }) })

/-- The ply in flight on lane `n` ends with an outcome. -/
def State.endOfPly (s : State) (n : Fin 16) (outcome : Nat) : State := (s.plyUse n).plyOutcome n outcome

/-- The write log of lane `n` is discarded (R148). -/
def State.dropLog (s : State) (n : Fin 16) : State :=
  s.modLane n (fun l => { l with log := .empty })

/-- CMP_LAST and CMP_LAST_PC, CMP_LAST_RSN of lane `n` (R201). An R188 event that fills CMP_LAST writes CMP_LAST_RSN too
(assumption 96). -/
def State.cmpLast (s : State) (n : Fin 16) (point line : Nat) (inPly : Option Nat) (pc : Nat) : State :=
  let k := BitVec.ofNat 32 (point + line * 16 + b2n inPly.isSome * 2 ^ 12 + inPly.getD 0 * 2 ^ 16)
  ((s.setReg (Reg.bank n Reg.cmpLast) k).setReg (Reg.bank n Reg.cmpLastPc) (BitVec.ofNat 32 pc)).setReg
    (Reg.bank n Reg.cmpLastRsn) s.rsn

/-- PG_ERR_INFO of the CMP codes 0x0101 and 0x0102 (R201). -/
def cmpInfo (n : Fin 16) (point line : Nat) : Word :=
  BitVec.ofNat 32 (n.val + point * 16 + line * 256)

/-- The TRACK_L index of the ply in flight on a lane. -/
def Lane.plyIdx (l : Lane) : Option Nat := l.ply.map (fun p => p.idx)

/-- The ply of lane `n` halts: its writes are discarded, it awaits its deadline, its outcome is 4; a
job is lost with BG_LOST (R173, R182, R195), in the BENCH module state as in any other (assumption 97). A GAMBIT ply spoils
its context (R209 cause 3). A ply that has ended as trapped stays so (R195). A restore under way stops, with BG_LOST; a
save is complete (R195). -/
def State.haltWork (s : State) (n : Fin 16) : State :=
  let now := s.opNs
  let s := s.modLane n (fun l =>
    if l.stuck ∨ !l.busy3 now then l else { l with busy := none, bgLost := true })
  let l := s.lanes[n]
  match l.ply with
  | some p =>
    if p.phase ≠ .running ∧ p.phase ≠ .ready then s
    else
      let s := if p.entry.isGambit then s.spoil p.entry.task 3 n else s
      let s := (s.endOfPly n 4).dropLog n
      s.modLane n (fun l => { l with ply := some { p with phase := .halted }, act := .none })
  | none =>
    s.modLane n (fun l => { l with
      act := .none
      bgLost := l.bgLost || decide (l.act = .job) })

/-- The comparator finds a difference, or R187 reports an uncorrectable word as one (R182, R187, R199). -/
def State.mismatch (s : State) (n : Fin 16) (point line pc : Nat) : State :=
  let idx := s.lanes[n].plyIdx
  let s := s.cmpLast n point line idx pc
  let s := s.haltWork n
  let s := (s.raise pCMP 0).logErr pCMP 0x0101 (cmpInfo n point line)
  if s.state = .bench then s.modLane n (fun l => { l with halted := l.halted || l.state == .bench })
  else
    let s := s.setLane n .barred
    let s := s.modLane n (fun l => { l with test := .awaiting })
    (s.raise pCMP 1).recErr pCMP 0x0101 (cmpInfo n point line) .normal []

/-- A lane becomes untrusted and is borne off (R188). `last` says whether CMP_LAST takes the event. A GAMBIT ply that it
halts spoils its context with cause 3 before the lane's leaving RUNNING does with cause 6 (assumption 98). -/
def State.untrusted (s : State) (n : Fin 16) (point line : Nat) (last inPly : Bool) : State :=
  let idx := if inPly then s.lanes[n].plyIdx else none
  let s := if last then s.cmpLast n point line idx 0 else s
  let s := if s.lanes[n].actAt s.opNs = .none then s else s.haltWork n
  let s := s.setFld (Reg.bank n Reg.cmpBar) 5 5 1
  let s := s.setLane n .borneOff
  let s := s.modLane n (fun l => { l with test := .none, halted := false, benchReq := .none })
  ((s.raise pCMP 4).logErr pCMP 0x0102 (cmpInfo n point line)).recErr pCMP 0x0102
    (cmpInfo n point line) .normal []

/-! ### Background jobs (R133, R170, R171) -/

/-- The 64 words of a save area from the state of the job that runs (R170); words 36 to 63 are free
values. -/
def State.saveWords (s : State) (n : Fin 16) (stat : Word) : List Word :=
  let c := s.lanes[n].main
  [stat] ++ (List.range 31).map (fun i => c.get (BitVec.ofNat 5 (i + 1)))
    ++ [c.pc, c.qa.setWidth 32, c.tc, 0]
    ++ (List.range 28).map (fun i => Config.saveWord s.free (36 + i))

/-- A lane that is still RUNNING without a ply or a job while the sequencer is not in RUN goes IDLE (R193). -/
def State.settleLane (s : State) (n : Fin 16) : State :=
  let l := s.lanes[n]
  if s.seqr.state ≠ .run ∧ l.state = .running ∧ l.ply.isNone ∧ l.act = .none then s.setLane n .idle else s

/-- The job of lane `n` is saved with the given status word, in `d` ns (R135, R170). -/
def State.saveJob (s : State) (n : Fin 16) (stat : Word) (d : Nat) : State :=
  let ws := s.saveWords n stat
  let s := (s.writeMem (laneBase n + s.saveArea) (ws.flatMap wordBytes)).takeFree
  let now := s.opNs
  (s.modLane n (fun l => { l with act := .none, jobStat := stat, jobLast := (l.main.pc, l.lastPc) }.begin3 true now d)).settleLane n

/-- A job status word with STATE replaced (R170). -/
def jobState (w : Word) (st : Nat) : Word := withBits w 1 0 st

/-! ### Traps (R164 to R166, R171) -/

/-- TC of a trap (R164). -/
def trapWord (cause detail wordAddr : Nat) : Word :=
  BitVec.ofNat 32 (cause + detail * 16 + wordAddr % 2 ^ 20 * 256)

/-- Both copies of a lane take a core state (R175, R176). -/
def State.setCore (s : State) (n : Fin 16) (c : Core) : State :=
  s.modLane n (fun l => { l with main := c, shadow := c })

/-- What every trap records (R166); LANE_TRAP_ENT ENTRY of a background job's trap is 0 (assumption 99). -/
def State.recordTrap (s : State) (n : Fin 16) (tc addr : Word) (idx : Nat) (bg : Bool) : State :=
  let s := (s.setReg (Reg.laneTrap n) tc).setReg (Reg.laneTrapAddr n) addr
  let s := s.setReg (Reg.laneTrapEnt n) (BitVec.ofNat 32 (idx + b2n bg * 2 ^ 16))
  let s := s.incSat (Reg.laneCnt n) 31 16
  (s.raise (pLANE n) 0).logErr (pLANE n) 0x0101 tc

/-- An instruction of lane `n` traps: a ply stops and its writes are discarded, its outcome awaits the sequencer (R166), a job goes to
STATE 3 and is saved (R171), a BENCH lane halts. -/
def State.takeTrap (s : State) (n : Fin 16) (cause detail wordAddr : Nat) (addr : Word) : State :=
  let tc := trapWord cause detail wordAddr
  let l := s.lanes[n]
  let s := s.setCore n { l.main with tc := tc }
  match l.ply with
  | some p =>
    let s := s.recordTrap n tc addr p.idx false
    let s := (s.plyUse n).dropLog n
    s.modLane n (fun l => { l with ply := some { p with phase := .trapped }, act := .none })
  | none =>
    let s := s.recordTrap n tc addr 0 true
    if l.state = .bench then s.modLane n (fun l => { l with halted := true })
    else s.saveJob n (jobState l.jobStat 3) (lclkNs 40)

/-- A fetch or a load of lane `n` meets an uncorrectable word (R168, R187). -/
def State.laneEcc (s : State) (n : Fin 16) (addr : Word) (pc : Nat) : State :=
  let s := s.evidence.incSat (Reg.laneEcc n) 31 16
  let s := s.setReg (Reg.laneEccAddr n) addr
  let s := (s.raise (pLANE n) 1).logErr (pLANE n) 0x0102 addr
  s.mismatch n 12 0 pc

/-! ### Issue -/

/-- Lane `n` executes: a ply that runs, a background job before the last pip of its window (R135), or a claimed BENCH
lane, none of them during a save or a restore (R214); `step` lets a halted lane take one instruction (R196, R198). -/
def State.executes (s : State) (n : Fin 16) (step : Bool) : Bool :=
  let l := s.lanes[n]
  (step || !l.halted) && !l.busy3 s.opNs &&
    (match l.ply with
     | some p => p.phase == .running && decide (l.ready ≤ s.opNs)
     | none => (l.act == .job && later64 (l.window - 50) s.now) || l.state == .bench)

/-- Time passes to the end of a save or restore of lane `n`, or of the register load after it, before the lane issues an
instruction (R214); one that is wedged does not end (R384). -/
def State.awaitLane (s : State) (n : Fin 16) : State :=
  let l := s.lanes[n]
  let t := max ((l.busy.map (·.till)).getD 0) (if l.ply.isSome then l.ready else 0)
  if !l.stuck && decide (s.opNs < t) then s.waitOp t else s

/-- Lane `n` issues an instruction: the fetch is checked (R147, R165, R168; a word that may not be fetched is PROT detail
6, whichever rule forbids it: assumption 77), the body gives the state
and the core after it, a trap or an uncorrectable word. Both copies take the same result (R175). -/
def State.issueAs (s : State) (n : Fin 16) (step : Bool) (body : State → Core → State × CoreRes) : State :=
  let s := s.awaitLane n
  if !s.executes n step then s
  else
    let l := s.lanes[n]
    let pc := l.main.pc
    if !s.fetchOk n l.work.bg pc.toNat then s.takeTrap n 2 6 (l.lastPc.toNat / 4) pc
    else if s.poisoned (s.lanePhys n pc.toNat) 4 then s.laneEcc n pc (pc.toNat / 4)
    else
      match body s l.main with
      | (s', .done c lat) =>
        (s'.setCore n c).modLane n (fun l => { l with lastPc := pc, cyc := l.cyc + lat })
      | (_, .trap cause detail addr) => s.takeTrap n cause detail (pc.toNat / 4) addr
      | (_, .ecc addr) => s.laneEcc n addr (pc.toNat / 4)

/-- The issue of an instruction by a lane that runs. -/
def State.issue (s : State) (n : Fin 16) (body : State → Core → State × CoreRes) : State :=
  s.issueAs n false body

end Sys2Proof.Machine
end

