-- ==== Sys2Proof/Machine/Reset.lean ====
section
/-! DEFINITION. The reset controller: sources, reaches, what a reset of each domain leaves, the release
sequence (13_reset_power_boot.md, R389 to R402). -/

namespace Sys2Proof.Machine

/-! ### What a reset of a domain leaves -/

/-- The part of a register that its domain's reset leaves alone: what lies in retention memory, in eFuse,
on the pins or in the episode itself (the reset column of the register tables). -/
def retained (p ofs : Nat) (w : Word) : Word :=
  let all := fun (b : Bool) => if b then w else 0
  if p = pSYS then all (decide (ofs = 0x040 ∨ ofs = 0x044 ∨ ofs = 0x048 ∨ ofs = 0x04C ∨ ofs = 0x050))
  else if p = pRST then
    all (decide (ofs = 0x040 ∨ ofs = 0x044 ∨ ofs = 0x04C ∨ ofs = 0x050 ∨ ofs = 0x054 ∨ ofs = 0x05C ∨ ofs = 0x060 ∨ ofs = 0x068))
  else if p = pBRD then all (decide (ofs = 0x064))
  else if p = pCMP then all (decide (ofs = 0x054 ∨ ofs = 0x05C))
  else if p = pIMG then all (decide (ofs = 0x058))
  else if p = pMB 0 ∨ p = pMB 1 then
    (if 0x040 ≤ ofs ∧ ofs ≤ 0x04C then
      (w &&& 0xFFFF0000) ||| (if w &&& 3 = 3 then 3 else 0) else 0)
  else if p = pSTW then all (decide (ofs = 0x04C))
  else if p = pHST then all (decide (ofs = 0x048 ∨ ofs = 0x04C))
  else if p = pHAP then all (decide (ofs = 0x050 ∨ ofs = 0x05C))
  else if p = pREC then all (decide (ofs = 0x048 ∨ ofs = 0x04C ∨ ofs = 0x050 ∨ ofs = 0x060))
  else if p = pUPD then
    (if ofs = 0x050 ∨ ofs = 0x054 then w else if ofs = 0x06C then w &&& 0xFFFF0000 else 0)
  else if p = pCAN 0 ∨ p = pCAN 1 then all (decide (ofs = 0x118))
  else if p = pSEC then all (decide (ofs = 0x044 ∨ ofs = 0x04C))
  else if p = pDBG then all (decide (ofs = 0x048))
  else 0

/-- The page of a register key. -/
def keyPage (k : Nat) : Nat := k / 0x1000 % 0x100

/-- The registers of the pages that `f` picks take their reset values. -/
def State.resetRegs (s : State) (f : Nat → Bool) : State :=
  let left := s.regs.filterMap (fun e =>
    if f (keyPage e.1) then
      let w := retained (keyPage e.1) (e.1 % 0x1000) e.2
      if w = 0 then none else some (e.1, w)
    else some e)
  let fresh := regReset.filter (fun e =>
    f (keyPage e.1) && decide (retained (keyPage e.1) (e.1 % 0x1000) 0xFFFFFFFF = 0))
  { s with regs := fresh.foldl (fun r e => tput r e.1 e.2) left }

/-- The record of a grant (R299). -/
def Grant.bytes (g : Grant) : Bytes :=
  toLe 4 (g.node + g.port * 2 ^ 24 + b2n g.mapped * 2 ^ 26) ++ wordBytes g.eff ++ toLe 2 g.slot ++ toLe 2 g.start
    ++ toLe 2 g.len ++ toLe 2 g.payload

/-- The castle latch turns its driver off (R333, R350, R352). -/
def State.releaseLine (s : State) : State :=
  let was := bit (s.reg Reg.ilkStat) 0
  let s := s.setFld Reg.ilkStat 0 0 0
  let s := s.setFld Reg.ilkStat 3 3 0
  if was then s.raise pILK 1 else s

/-- STANDBY of a standby area that is not ARMED (R105). -/
def standbyOf (area : Bytes) : StandbyState := if area.isEmpty then .empty else .stored

/-- The board store after a reset of SEQ: an ARMED standby is STORED (R104), a STORE that wrote leaves the
standby EMPTY (R105, R106), a board that was RUNNING is LOADED (R112), otherwise ACTIVE has its reset value NONE (R110).
The load of R104 is due: every reset of SEQ is one of System reach or wider. -/
def Boards.atReset (b : Boards) : Boards :=
  let run := b.active == .running
  { b with
    standby := standbyOf b.standbyArea, active := if run then .loaded else .none
    act := if run then b.act else none, stb := none, running := none, writing := [], loadDue := true }

/-- The update engine after a reset of HOST: a handover ends without a trace (R455); the trial bank is judged at boot
(R446). -/
def Update.atReset (u : Update) : Update :=
  { u with
    state := .idle, running := none, ret := false, ready := false, libPend := false
    deadline := 0, failCause := 0, failCode := 0, useForward := false, swapped := false, half := false, hoStart := 0 }

/-- A STORE that the reset breaks off leaves the spare bank EMPTY (R106, R448); UPD_VER shows it (R461). -/
def State.storeBroken (s : State) : State :=
  if s.upd.running = some .store then
    let s := s.setImg (!s.upd.runB) []
    { s with upd := (s.upd.bank (!s.upd.runB) .empty).writeChoice none }
  else s

/-- The firmware of before the trial uses its own settings again (R459). -/
def State.formerSettings (s : State) : State :=
  if s.upd.swapped then s.hostSettings s.upd.setA (fun _ => true) else s

/-- The host interface after a reset of HOST: keys, H and send counters stand, and only counters above H pass, as if all
others had been accepted (R467); the settings stand; all else is lost. -/
def HostIf.atReset (h : HostIf) : HostIf :=
  { HostIf.reset with
    slots := h.slots.map (fun k => { k with
      seen := ((List.range 64).filter (fun i => i ≤ k.high.toNat)).map (fun i => k.high - BitVec.ofNat 64 i) })
    domain := h.domain, targets := h.targets.map (fun t => { t with count := 0 }) }

/-- The recorder after a reset of HOST: the waiting events are lost (R430). -/
def Recorder.atReset (r : Recorder) : Recorder :=
  { r with due := [], queue := [], drops := [], reading := none }

/-- A channel holds its output through the episode (R408). -/
def State.holdsWarm (s : State) (c : Nat) : Bool :=
  s.rst.running && decide (s.rst.reach = 2) && s.holdBit c && s.outEn c
    && (!s.shared c || s.rst.was == .leader)

/-- FLD is reset: outputs are off but for those that a Warm episode holds: they keep their latch, their latched flag and
the level they have (R408, R410, R517). -/
def State.resetFld (s : State) : State :=
  let kept := s.reg Reg.fioFault
  let out := s.reg Reg.fioOut
  let latch := s.fio.ch.map FioCh.latch
  let s := s.resetRegs (fun p => (pageClass p).isSome && pageDomain p == 9)
  let s := { s with fio := FieldIo.reset }
  over16 (fun s c =>
    if s.holdsWarm c then
      let s := s.modFio c (fun x => { x with warm := true, last := bit out (16 + c), latch := latch[c] })
      ((s.setFld Reg.fioFault c c (bits kept c c)).setFld Reg.fioFault (16 + c) (16 + c)
        (bits kept (16 + c) (16 + c))).fioApply c
    else s) s

/-- Domain `d` is reset (R389, R393). Memories keep their contents (assumption 3). -/
def State.resetDomain (s : State) (d : Nat) : State :=
  let s := s.setFld Reg.rstDom d d 0
  let s := if d = 9 then s else s.resetRegs (fun p => (pageClass p).isSome && pageDomain p == d)
  match d with
  | 0 =>
    let s := { s with
      opTime := s.opSaved, opFrac := 0, jtag := { Jtag.reset with ident := s.jtag.ident }
      rst := { s.rst with clkAt := Vector.replicate 20 none, stretch := 0, optAt := 0, lastRel := 0 } }
    { s with lineDead := s.opNs, ownFall := [] }
  | 1 => { s with
      movers := [], descs := [], ringTurn := Vector.replicate 4 0, tlb := [], regionW := [], migr := none
      retire := { s.retire with copying := [], counts := [] } }
  | 2 => { s with
      time := .reset, boards := s.boards.atReset, seqr := .reset, gmb := Vector.replicate 16 .reset
      tasks := Vector.replicate 16 .reset, written := [], state := .boot, sdPend := [], wedged := []
      pair := .reset }.releaseLine
  | 3 => { s with net := { Net.reset with portHist := s.net.portHist, grants := s.net.grants } }
  | 8 =>
    let s := s.storeBroken.formerSettings
    { s with
      rcd := s.rcd.atReset, events := [], upd := s.upd.atReset, host := s.host.atReset
      can := s.can.map (fun (c : CanCh) => { CanCh.reset with hist := c.hist, delayMs := c.delayMs }) }.releaseLine
  | 9 => s.resetFld
  | _ => over16 (fun s n =>
      if 4 + n.val / 4 = d then s.modLane n (fun l => { Lane.reset with history := l.history }) else s) s

/-! ### Sources and episodes (R390 to R393) -/

/-- Reach of a source of R390 as a number; HAP reset and steward request bring their own. -/
def sourceReach (b : Nat) : Nat := if b = 0 ∨ b = 1 ∨ b = 12 then 0 else 1

/-- Some source asserted now holds domain `d` (R393). -/
def State.heldBy (s : State) (d : Nat) : Bool :=
  (List.range 13).any (fun b => s.rst.on.getLsbD b && (sourceReach b == 0 || decide (1 ≤ d)))

/-- RST_LAST and RST_SEQ show the episode (R419). -/
def State.showRst (s : State) : State :=
  let r := s.rst
  let s := s.setReg Reg.rstLast
    (BitVec.ofNat 32 (r.reach + b2n r.warmAsSys * 4 + r.sources.toNat * 2 ^ 16))
  let q := r.next + b2n (r.running && s.heldBy r.next) * 32 + b2n r.optBusy * 64
  s.setReg Reg.rstSeq (BitVec.ofNat 32 q)

/-- Domain `d` has failed in the episode or since (R398, R401). -/
def State.domainFailed (s : State) (d : Nat) : Bool := bit (s.reg Reg.rstDom) (16 + d)

/-- The first domain from `d` on that has not failed; 10 when there is none (R398). -/
def State.skipFailed (s : State) (d : Nat) : Nat :=
  ((List.range 10).find? (fun x => decide (d ≤ x) && !s.domainFailed x)).getD 10

/-- The test port begins to drive the pins if what EXTEST waited for has come (R533); `was` says that it drove before. -/
def State.driveExtest (s : State) (was : Bool) : State :=
  if s.extestDrives && !was then s.send (.pins s.jtag.boundary) else s

/-- The episode is not, or no longer, a Warm one: nothing is held, and the latches are released (R408, R517). -/
def State.endWarm (s : State) : State :=
  over16 (fun s c => (s.modFio c (fun x => { x with warm := false })).fioApply c) (s.setReg Reg.fioFault 0)

/-- A source asserts (R390 to R393): an episode begins or widens, the held domains enter reset, locks are
cleared (R16, R539). A domain that has failed in the episode is passed over (R398). `level` sources stay asserted until
they release, the others for one ACLK period. -/
def State.assertSource (s : State) (b reach : Nat) (level : Bool) : State :=
  let drove := s.extestDrives
  let demoted := decide (reach = 2) && !s.fuseBit 64
  let reach := if demoted then 1 else reach
  let r := s.rst
  let r := if r.running then r else { r with
    running := true, reach := 3, sources := 0, warmAsSys := false, was := s.state, optDone := false
    optBusy := false, next := 10, cycled := false }
  let first := if reach = 0 then 0 else 1
  let s := if s.rst.running then s else s.setFld Reg.rstDom 25 16 0
  let widest := min r.reach reach
  let r := { r with
    on := if level then r.on ||| BitVec.ofNat 13 (2 ^ b) else r.on
    sources := r.sources ||| BitVec.ofNat 13 (2 ^ b)
    reach := widest
    warmAsSys := r.warmAsSys || demoted
    next := s.skipFailed (min r.next first)
    optDone := r.optDone && decide (first = 1)
    optBusy := r.optBusy && decide (first = 1) }
  let s := { s with rst := r }
  let s := if widest = 0 then s.setReg Reg.brdCnt 0 else s
  let s := (List.range 10).foldl (fun s d =>
    if first ≤ d && bit (s.reg Reg.rstDom) d then s.resetDomain d else s) s
  let s := if widest = 2 then s else s.endWarm
  let s := [pSYS, pRST, pILK, pDBG].foldl (fun s p => s.setReg (Reg.pgLock p) 0) s
  let s := s.setReg Reg.dbgCtrl 1
  let s := s.setReg Reg.rstCause ((s.reg Reg.rstCause ||| BitVec.ofNat 32 r.sources.toNat) &&& 0x1FFF)
  let s := if level then s
    else { s with rst := { s.rst with stretch := s.opNs + 200040, coldRel := decide (widest = 0) } }
  (s.driveExtest drove).showRst

/-- A source releases; the stretch begins (R394). -/
def State.releaseSource (s : State) (b : Nat) : State :=
  if !s.rst.on.getLsbD b then s
  else
    { s with rst := { s.rst with
        on := s.rst.on &&& ~~~(BitVec.ofNat 13 (2 ^ b))
        stretch := s.opNs + 200000
        coldRel := sourceReach b == 0 } }.showRst

/-! ### The release sequence (R394 to R402) -/

/-- The clocks that gate the release of domain `d`: those of R35, and 18, 19 NET's two transmit PLLs (R389). AON has none:
its 2 ms are counted in ACLK, which has then run for 256 cycles (R397). -/
def gateClocks (d : Nat) : List Nat :=
  match d with
  | 1 => [2] | 2 => [1] | 3 => [1, 18, 19] | 4 => [6] | 5 => [7] | 6 => [8] | 7 => [9] | 8 => [3] | 9 => [4] | _ => []

/-- 256 cycles of clock `i` in ns (R33, R397). -/
def qualifyNs (i : Nat) : Nat :=
  if i = 2 then 320 else if i = 3 then 2048 else if i = 4 then 12800 else if 6 ≤ i ∧ i ≤ 9 then 160 else 640

/-- Clock `i` is good (R34). -/
def State.clockGood (s : State) (i : Nat) : Bool := (s.rst.clkAt[i]?.join).isSome

/-- Operating time in ns at which the gating clocks of `d` have been good for 256 cycles, if they are good (R397). -/
def State.clockReady (s : State) (d : Nat) : Option Nat :=
  (gateClocks d).foldl (fun o i =>
    match o, s.rst.clkAt[i]?.join with
    | some t, some u => some (max t (u + qualifyNs i))
    | _, _ => none) (some 0)

/-- Operating time in ns at which the stretch, the 2,048 ACLK periods after the domain before and, for SEQ, the option
loader let domain `d` be released (R394). -/
def State.readyAt (s : State) (d : Nat) : Nat :=
  let first := if s.rst.reach = 0 then 0 else 1
  let gap := if d ≤ first then 0 else s.rst.lastRel + 81920
  let stretch := if d = 0 then 0 else s.rst.stretch
  max (max gap stretch) (if d = 2 then s.rst.optAt else 0)

/-- The sequence waits for domain `d`, which no source holds; SEQ waits for the option loader too (R393, R394). -/
def State.dueDomain (s : State) : Option Nat :=
  let d := s.rst.next
  if !s.rst.running || decide (10 ≤ d) || s.heldBy d || (decide (d = 2) && !s.rst.optDone) then none else some d

/-- The sequence moves on from domain `d` to the next that has not failed; after the last the episode ends (R391, R398,
R419). -/
def State.nextDomain (s : State) (d : Nat) : State :=
  let first := if s.rst.reach = 0 then 0 else 1
  let s := { s with rst := { s.rst with
    next := s.skipFailed (d + 1), lastRel := s.opNs, firstRel := if d ≤ first then s.opNs else s.rst.firstRel } }
  let s := if s.rst.next = 10 then
      let s := { s with rst := { s.rst with running := false } }
      let s := s.setReg Reg.rstRelTime (BitVec.ofNat 32 ((s.opNs - s.rst.firstRel) / 40))
      if s.rst.reach = 1 then s.incSat Reg.rstCount 15 0
      else if s.rst.reach = 2 then s.incSat Reg.rstCount 31 16 else s
    else s
  s.showRst

/-- The pin fuse map is read and the option loader started (R402, R403); the slot code pins are read, and an invalid code
is reported (R24, R413). -/
def State.firstRelease (s : State) : State :=
  let s := { s with
    boot := { s.boot with fuse := s.boot.fuseBlk }
    rst := { s.rst with optBusy := true, optDone := false } }
  let code := s.rst.code.toNat
  let s := s.setFld Reg.sysSlot 2 1 code
  let bad := decide (code = 0 ∨ code = 3)
  let s := s.setFld Reg.sysSlot 3 3 (b2n bad)
  let s := if bad then s else s.setFld Reg.sysSlot 0 0 (code - 1)
  if bad then s.logErr pSYS 0x0104 0 else s

/-- The lanes of LGn after its release: a borne-off lane stays out (R189), the others take the power-on
test (R192, R194); the test rotation starts at position 0 (R385). -/
def State.releaseLanes (s : State) (d : Nat) : State :=
  over16 (fun s n =>
    if 4 + n.val / 4 = d then
      let s := s.setFld (Reg.bank n Reg.hltPos) 8 0 0
      if bit (s.reg Reg.cmpBorne) n.val then s.setLane n .borneOff
      else s.modLane n (fun l => { l with test := .powerOn, testEnd := s.opNs + 21300 * 50 })
    else s) s

/-- The period of the steward watchdog in ns (R485). -/
def State.wdtNs (s : State) : Nat := min 10000 (max 10 (s.fld Reg.stwCtrl 13 0)) * 1000000

/-- The steward watchdog begins a period (R483). -/
def State.wdtStart (s : State) : State :=
  { s with host := { s.host with
    wdtWarned := false, wdtEnd := if s.host.wdtPaused then s.wdtNs else s.opNs + s.wdtNs } }

/-- HOST is released: any module state becomes BOOT (R330), the ROM runs next (R416), the steward watchdog
begins a period. -/
def State.releaseHost (s : State) : State :=
  let s := (s.setFld Reg.secStat 3 0 0).wdtStart
  if s.rst.was = .boot then s
  else (s.raise pPAIR 0).recIrq pPAIR 0 .normal (wordBytes 0)

/-- FLD is released: an output latch that nothing holds takes SAFE_ON (R407, R408), SAFE of FIO_CFG its reset value, the
refresh timers begin (R515); where L+ failed a Warm hold, the outputs are forced off until it is restored (R516). -/
def State.releaseFld (s : State) : State :=
  let s := over16 (fun s c =>
    (s.setFld (Reg.bank c Reg.fioCfg) 8 7 (b2n (s.safeOn c))).modFio c (fun x => { x with
      refAt := s.opNs, latch := if x.warm then x.latch else s.safeOn c && s.outEn c })) s
  let s := if s.fio.lpFell then
      { s with fio := { s.fio with lpFell := false, lpGood := none } }.setFld Reg.fioLplus 13 12 2
    else s
  (s.fioDirections.fioApplyAll).loopSet

/-- SEQ is released: the clock monitors show which clocks are good, and XTAL_OK whether the crystal runs (R34, R37,
R62). -/
def State.showClocks (s : State) : State :=
  let m := (List.range 18).foldl (fun m i => if s.clockGood i then m + 2 ^ i else m) 0
  let s := (s.setReg Reg.clkGood (BitVec.ofNat 32 m)).setReg Reg.clkLocked (BitVec.ofNat 32 m)
  s.setFld Reg.clkAclkTrim 16 16 (b2n s.rst.xtal)

/-- NET is released after a reset: the grants the module held have ended unless the partner, whose lead line is then live,
still holds them and passes them on again (R320, R322). -/
def State.loseGrants (s : State) : State :=
  let l := s.net.grants
  let s := s.modNet fun n => { n with grants := [] }
  if bit (s.reg Reg.ilkStat) 2 then s
  else l.foldl (fun s g => (s.raise pMBG 4).recIrq pMBG 4 .normal g.bytes) s

/-- AON is released: the 200 µs after a source of Cold reach have passed within AON's 2 ms. Those after a source of System
reach that has released since are counted from here (R394, assumption 79). -/
def State.stretchOver (s : State) : State :=
  if s.rst.coldRel then { s with rst := { s.rst with stretch := s.opNs } } else s

/-- What the release of domain `d` brings with it. -/
def State.onRelease (s : State) (d : Nat) : State :=
  match d with
  | 0 =>
    let s := s.firstRelease
    let s := s.stretchOver
    if (s.rst.sources.getLsbD 0 || s.rst.sources.getLsbD 1) && !s.rst.cycled then
      { s with rst := { s.rst with cycled := true } }.setReg Reg.rstCycles (s.reg Reg.rstCycles + 1)
    else s
  | 1 => if s.rst.optDone || s.rst.optBusy then s else s.firstRelease
  | 2 => s.showClocks
  | 3 => s.loseGrants
  | 8 => s.releaseHost
  | 9 => s.releaseFld
  | _ => if 4 ≤ d ∧ d ≤ 7 then s.releaseLanes d else s

/-- DOMAIN_RELEASE (R394, R397): the next domain is released at the first instant at which every condition holds; one
whose gating clock is not good, or qualifies only after the limit of R398, is not. -/
def domainRelease (s : State) : State :=
  match s.dueDomain with
  | none => s
  | some d =>
    match s.clockReady d with
    | none => s
    | some c =>
      if s.readyAt d + 10000000 < c then s
      else
        let s := if d = 0 then s else s.waitOp (max (s.readyAt d) c)
        let s := s.setFld Reg.rstDom d d 1
        (s.onRelease d).nextDomain d

/-- An essential domain (MEM, SEQ, NET, HOST) has failed (R399). -/
def State.essentialFailed (s : State) : Bool :=
  [1, 2, 3, 8].any s.domainFailed

/-- The module stays in BOOT: an essential domain has failed (R399) or the slot code is invalid (R413). -/
def State.heldInBoot (s : State) : Bool := s.essentialFailed || bit (s.reg Reg.sysSlot) 3

/-- The lanes of an LG domain without a clock are borne off (R400, R401); a context such a lane belongs to is spoiled with
cause LANE_OUT (R209). -/
def State.failLanes (s : State) (d : Nat) : State :=
  over16 (fun s n =>
    if 4 + n.val / 4 = d then
      let s := s.setLane n .borneOff
      let s := if s.lanes[n].actAt s.opNs = .none then s else s.haltWork n
      s.modLane n (fun l => { Lane.reset with
        state := .borneOff, ply := l.ply, history := l.history })
    else s) s

/-- Domain `d` has failed: RST_DOM FAILED, DOM_FAIL, one critical record (R398, R401, R426). -/
def State.markFailed (s : State) (d : Nat) : State :=
  let s := s.setFld Reg.rstDom (16 + d) (16 + d) 1
  (s.raise pRST 0).recIrq pRST 0 .critical (toLe 4 d)

/-- DOMAIN_CLOCK_TIMEOUT (R398): the gating clock of the next domain, at least MEM, is not good 10 ms after every other
condition holds. -/
def domainClockTimeout (s : State) : State :=
  match s.dueDomain with
  | none => s
  | some d =>
    let t := s.readyAt d + 10000000
    if d = 0 || (match s.clockReady d with | some c => decide (c ≤ t) | none => false) then s
    else
      let s := s.waitOp t
      let s := if 4 ≤ d ∧ d ≤ 7 then s.failLanes d else s
      (s.markFailed d).nextDomain d

/-- The domain whose gating clock is clock `i` of R35, or transmit PLL 18 or 19 of NET; none for NCLK and XCLK (R36, R389,
R397). -/
def clockDomain (i : Nat) : Option Nat :=
  if i = 0 then some 0 else if i = 1 then some 2 else if i = 2 then some 1 else if i = 3 then some 8
  else if i = 4 then some 9 else if 6 ≤ i ∧ i ≤ 9 then some (4 + (i - 6)) else if i = 18 ∨ i = 19 then some 3 else none

/-- The gating clock of a released domain stops being good (R36, R401). -/
def State.clockLost (s : State) (i : Nat) : State :=
  match clockDomain i with
  | none => s
  | some 0 => s.assertSource 1 0 false
  | some d =>
    if !s.domainUp d then s
    else if d = 1 ∨ d = 2 ∨ d = 3 ∨ d = 8 then s.assertSource 8 1 false
    else if d = 9 then ((s.resetDomain 9).markFailed 9).loopSet
    else
      let s := s.failLanes d
      let s := (s.setFld Reg.rstDom d d 0).resetRegs (fun p => (pageClass p).isSome && pageDomain p == d)
      s.markFailed d

/-! ### The sources as commands -/

/-- Power is lost at `ns` of operating time: what is not retention memory, MRAM or flash forgets (assumption 3), the
loaded tables too; area roles that are not yet in flash fall back to the former board (R106). -/
def State.powerLost (s : State) (ns : Nat) : State :=
  let b := s.boards
  let b := if b.rolesDirty then
      { b with activeArea := b.standbyArea, standbyArea := b.activeArea, rolesDirty := false
               standby := standbyOf b.activeArea } else b
  let b := { b with act := none, active := .none }
  { s with
    boards := b, upd := s.upd.cutChoice ns (Config.choiceCut s.free), net := { s.net with grants := [] }, free := s.free + 1
    mem := s.mem.filter (fun c => decide (mramBase ≤ c.1 ∧ c.1 < mramBase + 0x01000000))
    poison := s.poison.filter (fun a => decide (mramBase ≤ a ∧ a < mramBase + 0x01000000)) }

/-- POWER_ON_RESET (R390, R411): VIN has fallen below 16.5 V, or VIN and presence have qualified. -/
def powerOnReset (on : Bool) (s : State) : State :=
  if on then
    let s := (s.assertSource 0 0 true).powerLost s.opNs
    (s.setFld Reg.rstPwr 2 0 0).setReg Reg.rstCause 1
  else
    let s := (s.setFld Reg.rstPwr 1 1 1).setFld Reg.rstPwr 2 2 (b2n (!s.rst.on.getLsbD 2))
    (s.setFld Reg.sysSlot 5 5 1).releaseSource 0

/-- AON_BROWN_OUT (R390). -/
def aonBrownOut (on : Bool) (s : State) : State :=
  if on then s.assertSource 1 0 true else s.releaseSource 1

/-- CORE_BROWN_OUT (R390, R419 CORE_GOOD). -/
def coreBrownOut (on : Bool) (s : State) : State :=
  if on then (s.setFld Reg.rstPwr 2 2 0).assertSource 2 1 true
  else (s.setFld Reg.rstPwr 2 2 1).releaseSource 2

/-- RESET_N_ASSERT (R395): RESET_N has been low, or high, for 10 µs while the module does not drive it: not before its own
stretch has ended. -/
def resetNAssert (on : Bool) (s : State) : State :=
  let s := if s.stretching && bit (s.reg Reg.rstDom) 0 then s.waitOp s.rst.stretch else s
  if s.stretching then s
  else if on then s.assertSource 3 1 true else (s.releaseSource 12).releaseSource 3

/-- RESET_N_LONG (R395): the source has been asserted for 2 s. -/
def resetNLong (s : State) : State :=
  if s.rst.on.getLsbD 3 then s.assertSource 12 0 true else s

/-- Clock `i` is no longer good for the reset controller (R397). -/
def State.clockOff (s : State) (i : Nat) : State :=
  { s with rst := { s.rst with clkAt := s.rst.clkAt.setIfInBounds i none } }

/-- CLOCK_FAILURE_RESET (R401): the gating clock of a released essential domain stops being good; NET has
BCLK and its transmit PLLs. -/
def clockFailureReset (i : Fin 20) (s : State) : State :=
  match clockDomain i.val with
  | some d => if (d = 1 ∨ d = 2 ∨ d = 3 ∨ d = 8) ∧ s.domainUp d then (s.clockOff i).assertSource 8 1 false else s
  | none => s

/-- STEWARD_LOCKSTEP_FAULT (R483): the steward runs only while HOST is released. -/
def stewardLockstepFault (s : State) : State :=
  if !s.domainUp 8 then s
  else (s.incSat Reg.stwLs 15 0).assertSource 9 1 false

/-- RST_SW (R396, R419): `hap` marks a write that HAP made. -/
def rstSw (hap : Bool) (value : Word) (s : State) : State :=
  if !s.domainUp 0 then s
  else if hap then s.refuse Reg.rstSw
  else if bits value 31 16 ≠ 0xD1CE ∨ bits value 1 0 = 0 ∨ bits value 1 0 = 3 then s.logErr pRST 0x0101 value
  else s.assertSource 10 (bits value 1 0) false

/-- PRESENCE_LOST (R411, R412): the presence pin has been open for 1 ms, or stable again for 100 ms. With it come the
levels of the other pins of the slot, for which the table has no row: the slot code, which the next reset release reads
(R24), and the service key input (R532): assumption 93. -/
def presenceLost (p : SlotPins) (s : State) : State :=
  let drove := s.extestDrives
  let s := { s with rst := { s.rst with code := p.code } }.setFld Reg.sysSlot 4 4 (b2n p.svcKey)
  let s := (s.setFld Reg.rstPwr 1 1 (b2n (!p.isOpen))).setFld Reg.sysSlot 5 5 (b2n (!p.isOpen))
  let s := s.driveExtest drove
  if !p.isOpen then s.releaseSource 11 else if s.rst.on.getLsbD 11 then s else s.assertSource 11 1 true

/-- OPERATING_TIME_SAVE (R402): another 1,000 ms have been counted and are written. -/
def operatingTimeSave (s : State) : State :=
  if !bit (s.reg Reg.rstDom) 0 then s
  else
    let t := s.opSaved + 1000
    let s := if s.opTime.toNat < t.toNat then s.waitOp (t.toNat * 1000000) else s
    { s with opSaved := s.opTime }

/-- VIN_LOW (R419): VIN as measured, in units of 10 mV; VIN_GOOD and HLT_ENV show it (R388), and a fall below 19.2 V
raises VIN_LOW. -/
def vinLow (vin : BitVec 16) (s : State) : State :=
  let was := bit (s.reg Reg.rstPwr) 0
  let good := decide (1920 ≤ vin.toNat)
  let s := s.setFld Reg.rstPwr 0 0 (b2n good)
  let s := if s.domainUp 2 then s.setFld Reg.hltEnv 31 16 vin.toNat else s
  if was && !good then s.raise pRST 1 else s

/-- RST_OPTIME_LO_READ (R419): a read latches bits 47:32. -/
def rstOptimeLoRead (s : State) : State :=
  if s.domainUp 0 then s.setReg Reg.rstOptimeHi (BitVec.ofNat 32 (s.opTime.toNat / 2 ^ 32)) else s

/-- POWER_ON_RESET (R390). -/
def execPowerOnReset (on : Bool) (s : State) : Host.Outcome State Fault Refusal := .next (powerOnReset on s)
/-- AON_BROWN_OUT (R390). -/
def execAonBrownOut (on : Bool) (s : State) : Host.Outcome State Fault Refusal := .next (aonBrownOut on s)
/-- CORE_BROWN_OUT (R390). -/
def execCoreBrownOut (on : Bool) (s : State) : Host.Outcome State Fault Refusal := .next (coreBrownOut on s)
/-- RESET_N_ASSERT (R395). -/
def execResetNAssert (on : Bool) (s : State) : Host.Outcome State Fault Refusal := .next (resetNAssert on s)
/-- RESET_N_LONG (R395). -/
def execResetNLong (s : State) : Host.Outcome State Fault Refusal := .next (resetNLong s)
/-- CLOCK_FAILURE_RESET (R401). -/
def execClockFailureReset (idx : Fin 20) (s : State) : Host.Outcome State Fault Refusal := .next (clockFailureReset idx s)
/-- STEWARD_LOCKSTEP_FAULT (R483). -/
def execStewardLockstepFault (s : State) : Host.Outcome State Fault Refusal := .next (stewardLockstepFault s)
/-- RST_SW (R396). -/
def execRstSw (hap : Bool) (value : Word) (s : State) : Host.Outcome State Fault Refusal := .next (rstSw hap value s)
/-- PRESENCE_LOST (R411). -/
def execPresenceLost (pins : SlotPins) (s : State) : Host.Outcome State Fault Refusal := .next (presenceLost pins s)
/-- DOMAIN_RELEASE (R394). -/
def execDomainRelease (s : State) : Host.Outcome State Fault Refusal := .next (domainRelease s)
/-- DOMAIN_CLOCK_TIMEOUT (R398). -/
def execDomainClockTimeout (s : State) : Host.Outcome State Fault Refusal := .next (domainClockTimeout s)
/-- OPERATING_TIME_SAVE (R402). -/
def execOperatingTimeSave (s : State) : Host.Outcome State Fault Refusal := .next (operatingTimeSave s)
/-- VIN_LOW (R419). -/
def execVinLow (vin : BitVec 16) (s : State) : Host.Outcome State Fault Refusal := .next (vinLow vin s)
/-- RST_OPTIME_LO_READ (R419). -/
def execRstOptimeLoRead (s : State) : Host.Outcome State Fault Refusal := .next (rstOptimeLoRead s)

end Sys2Proof.Machine
end

