-- ==== Sys2Proof/Machine/Recorder.lean ====
section
/-! DEFINITION. The event recorder (14_event_recorder.md): admission, writing, segments, readout. -/

namespace Sys2Proof.Machine

/-! ### Records and segments as bytes -/

/-- Bytes of a segment (R428). -/
abbrev segBytes : Nat := 0x04000000

/-- The number of a priority in PRIO (R422). -/
def Prio.code : Prio → Nat
  | .critical => 0 | .normal => 1 | .bulk => 2

/-- A record as stored (R422), with the payload shortened to fit 4,096 bytes. -/
def QEntry.record (q : QEntry) (seq : Word) : Bytes :=
  let cal : Bytes := match q.cal with | some t => toLe 8 t.toNat | none => []
  let pay := q.payload.take (4067 - cal.length)
  let trunc := decide (pay.length < q.payload.length)
  let n := 29 + cal.length + pay.length
  let body := toLe 2 n ++ toLe 2 q.type ++ toLe 1 q.src ++ toLe 1 q.prio.code ++ toLe 6 q.op.toNat
    ++ toLe 4 q.pow.toNat ++ toLe 4 seq.toNat ++ toLe 1 (b2n q.cal.isSome + 2 * b2n trunc) ++ zeros 3
    ++ cal ++ pay
  body ++ toLe 4 (crc32c body).toNat ++ [0xA5]

/-- `n` bytes of a segment at `ofs`; erased flash reads 0xFF. -/
def flashAt (b : Bytes) (ofs n : Nat) : Bytes :=
  let l := slice b ofs n
  l ++ List.replicate (n - l.length) 0xFF

/-- The LENGTH word at `ofs` is acceptable under R429. -/
def lengthOk (w ofs : Nat) : Bool :=
  decide (w / 0x2000 = 0) && decide (29 ≤ w ∧ w ≤ 4096) && decide (ofs + w ≤ segBytes)

/-- The candidate records of a segment from `ofs` on (R429), with their offsets. -/
def walkRecs (b : Bytes) : Nat → Nat → List (Nat × Bytes)
  | 0, _ => []
  | f + 1, ofs =>
    let w := leNat (flashAt b ofs 2)
    if w = 0xFFFF || !lengthOk w ofs then []
    else (ofs, flashAt b ofs w) :: walkRecs b f (ofs + w)

/-- The candidate records of a segment. -/
def Segment.recs (g : Segment) : List (Nat × Bytes) := walkRecs g.bytes (g.bytes.length / 29 + 1) 0x40

/-- MARK and CRC are right (R424). -/
def recValid (r : Bytes) : Bool :=
  let n := r.length
  r.getD (n - 1) 0 == 0xA5 && decide (leAt r (n - 5) 4 = (crc32c (r.take (n - 5))).toNat)

/-- SEQ of a stored record. -/
def recSeq (r : Bytes) : Word := BitVec.ofNat 32 (leAt r 0x10 4)

/-- The segment header is valid (R428). -/
def Segment.hdrOk (g : Segment) : Bool :=
  decide (leNat (flashAt g.bytes 0 4) = 0x53525641)
    && decide (leNat (flashAt g.bytes 0x3C 4) = (crc32c (flashAt g.bytes 0 0x3C)).toNat)

/-- SERIAL of a segment. -/
def Segment.serial (g : Segment) : Nat := leNat (flashAt g.bytes 4 4)

/-- A segment is in use and a reader finds it (R429). -/
def Segment.live (g : Segment) : Bool := (g.state == .inUse || g.state == .erasing) && g.hdrOk

/-- The live segments in the order of SERIAL, by index. -/
def Recorder.ordered (r : Recorder) : List Nat :=
  sortBy (fun i j => decide ((r.segs[i]?.map Segment.serial).getD 0 ≤ (r.segs[j]?.map Segment.serial).getD 0))
    ((List.range r.segs.length).filter (fun i => (r.segs[i]?.map Segment.live).getD false))

/-- All records held, in write order. -/
def Recorder.held (r : Recorder) : List Bytes :=
  r.ordered.flatMap (fun i => ((r.segs[i]?.map Segment.recs).getD []).map Prod.snd)

/-- All valid records held, in write order (R424, R429). -/
def Recorder.valid (r : Recorder) : List Bytes := r.held.filter recValid

/-- The lowest SEQ held, by the comparison of R6; `next` when no record is held (R441). -/
def Recorder.oldest (r : Recorder) (next : Word) : Word :=
  match r.valid.map recSeq with
  | [] => next
  | q :: l => l.foldl (fun a b => if later a b then b else a) q

/-- Erased segments. -/
def Recorder.erased (r : Recorder) : Nat := (r.segs.filter (fun g => g.state == .erased)).length

/-- REC_STAT, REC_QUEUE and REC_OLDEST_SEQ as the recorder stands (R441). -/
def State.recShow (s : State) : State :=
  let r := s.rcd
  let s := s.setFld Reg.recStat 14 8 r.erased
  let s := s.setFld Reg.recStat 21 16 r.wseg
  let s := s.setFld Reg.recStat 27 22 (r.ordered.headD 0)
  let s := s.setFld Reg.recQueue 13 0 r.queue.length
  let s := s.setFld Reg.recQueue 29 16 (r.queue.filter (fun q => q.prio == .critical)).length
  s.setReg Reg.recOldestSeq (r.oldest (s.reg Reg.recNextSeq))

/-! ### Admission (R427, R436, R437) -/

/-- The engine runs: HOST is released and the engine has started (R432). -/
def State.recRuns (s : State) : Bool := s.domainUp 8 && s.fld Reg.recStat 1 0 != 0

/-- OP_TIME of an event admitted now (R427). -/
def State.opStamp (s : State) : BitVec 48 :=
  if s.opTime.toNat < s.rcd.lastOp.toNat then s.rcd.lastOp else s.opTime

/-- Global time is reported as synchronised (R44). -/
def State.inSync (s : State) : Bool := s.time.state == .synced || s.time.state == .holdover

/-- An event stamped with the module's clocks (R427). -/
def State.stamp (s : State) (e : Event) : QEntry :=
  ⟨e.type, e.src, e.prio, s.opStamp, s.reg Reg.rstCycles, if s.inSync then some s.now else none, e.payload⟩

/-- A record that the engine writes ahead of the queue, stamped now. -/
def State.oweEvent (s : State) (e : Event) : State :=
  let q := s.stamp e
  { s with rcd := { s.rcd with due := s.rcd.due ++ [(q, none)], lastOp := q.op } }

/-- The engine owes a record of its own (R432 to R437): INDEX_REBUILT is normal, the others critical (R426). -/
def State.owe (s : State) (type : Nat) (payload : Bytes) : State :=
  s.oweEvent ⟨type, pREC, if type = 0xF006 then .normal else .critical, payload⟩

/-- The counts of one dropped event. -/
def QEntry.drop (q : QEntry) (now : BitVec 48) : DropCnt :=
  ⟨q.src, b2n (q.prio == .bulk), b2n (q.prio == .normal), b2n (q.prio == .critical), q.op, q.op, now⟩

/-- A drop is counted against its source and priority (R437). -/
def dropInto (q : QEntry) (now : BitVec 48) : List DropCnt → List DropCnt
  | [] => [q.drop now]
  | d :: r =>
    if q.src < d.src then q.drop now :: d :: r
    else if q.src = d.src then
      { d with bulk := d.bulk + b2n (q.prio == .bulk), normal := d.normal + b2n (q.prio == .normal)
               crit := d.crit + b2n (q.prio == .critical), last := q.op } :: r
    else d :: dropInto q now r

/-- An event is dropped (R436, R437); REC_DROP counts it and stops at 0xFFFF. -/
def State.dropEvent (s : State) (q : QEntry) : State :=
  let s := { s with rcd := { s.rcd with drops := dropInto q s.opTime s.rcd.drops } }
  let k := Reg.bank q.src Reg.recDrop
  let s := match q.prio with
    | .bulk => s.incSat k 15 0
    | .normal => s.incSat k 31 16
    | .critical => s
  s.raise pREC 1

/-- The most recently admitted entry that satisfies `p` is taken out of the queue. -/
def takeLast (p : QEntry → Bool) (l : List QEntry) : Option (QEntry × List QEntry) :=
  match l.reverse.find? p with
  | none => none
  | some q => some (q, (l.reverse.eraseP p).reverse)

/-- An event is admitted to the queue or dropped by priority; the queue holds at most 8,192 entries (R436). The flag
says whether it was admitted. -/
def State.recAdmit (s : State) (e : Event) : State × Bool :=
  let q := s.stamp e
  let n := s.rcd.queue.length
  let low := (s.rcd.queue.filter (fun x => x.prio != .critical)).length
  let room := decide (low < 7936 ∧ n < 8192)
  let put (s : State) (l : List QEntry) : State :=
    { s with rcd := { s.rcd with queue := l ++ [q], lastOp := q.op } }
  let swap (s : State) (p : QEntry → Bool) : Option State :=
    match takeLast p s.rcd.queue with
    | some (d, l) => some ((put s l).dropEvent d)
    | none => none
  match e.prio with
  | .bulk => if room then (put s s.rcd.queue, true) else (s.dropEvent q, false)
  | .normal =>
    if room then (put s s.rcd.queue, true)
    else match swap s (fun x => x.prio == .bulk) with
      | some s => (s, true)
      | none => (s.dropEvent q, false)
  | .critical =>
    if n < 8192 then (put s s.rcd.queue, true)
    else match swap s (fun x => x.prio == .bulk) with
      | some s => (s, true)
      | none =>
        match swap s (fun x => x.prio == .normal) with
        | some s => (s, true)
        | none => ((s.dropEvent q).logErr pREC 0x0103 (BitVec.ofNat 32 (q.src * 2 ^ 16 + q.type)), false)

/-- RECORD_EVENT_ADMIT: the oldest raised event is stamped and admitted or dropped. -/
def recordEventAdmit (s : State) : State :=
  if !s.recRuns then s
  else match s.events with
    | [] => s
    | e :: r => ({ s with events := r }.recAdmit e).1.recShow

/-! ### Writing (R430 to R434) -/

/-- SUPPRESS records for the drop counts that `p` picks, in ascending SOURCE order (R437). -/
def State.suppress (s : State) (p : DropCnt → Bool) : State :=
  let ds := s.rcd.drops.filter p
  let s := ds.foldl (fun s d =>
    (s.setReg (Reg.bank d.src Reg.recDrop) 0).owe 0xF002
      (toLe 1 d.src ++ zeros 3 ++ toLe 4 d.bulk ++ toLe 4 d.normal ++ toLe 4 d.crit
        ++ toLe 8 d.first.toNat ++ toLe 8 d.last.toNat)) s
  { s with rcd := { s.rcd with drops := s.rcd.drops.filter (fun d => !p d) } }

/-- The RECYCLE payload of a segment (R434). -/
def recyclePayload (g : Segment) : Bytes :=
  let v := (g.recs.map Prod.snd).filter recValid
  let a := v.headD []
  let z := v.getLastD []
  toLe 4 g.serial ++ toLe 4 (leAt a 0x10 4) ++ toLe 4 (leAt z 0x10 4) ++ toLe 4 v.length
    ++ toLe 4 (leAt a 0x0C 4) ++ toLe 8 (leAt a 6 6) ++ toLe 4 (leAt z 0x0C 4) ++ toLe 8 (leAt z 6 6)

/-- The header of a segment opened now (R428). -/
def State.segHeader (s : State) (firstSeq : Word) : Bytes :=
  let b := toLe 4 0x53525641 ++ toLe 4 s.rcd.opened ++ toLe 4 firstSeq.toNat
    ++ toLe 4 (s.reg Reg.rstCycles).toNat ++ toLe 8 s.opTime.toNat ++ zeros 36
  b ++ toLe 4 (crc32c b).toNat

/-- The next erased segment after the open one, in ascending order and around (R430, R434). -/
def Recorder.nextErased (r : Recorder) : Option Nat :=
  ((List.range 64).map (fun i => (r.wseg + i) % 64)).find?
    (fun i => (r.segs[i]?.map (fun g => g.state == .erased)).getD false)

/-- Recycling: where no erased segment remains and none is being erased, the oldest segment in use beside the open
one gets its RECYCLE record and its erase begins (R434). -/
def State.keepErased (s : State) : State :=
  if s.rcd.erased ≠ 0 ∨ s.rcd.segs.any (fun g => g.state == .erasing) then s
  else match s.rcd.ordered.find? (fun i => i ≠ s.rcd.wseg) with
    | none => s
    | some o =>
      let s := s.owe 0xF003 (recyclePayload (s.rcd.segs.getD o ⟨.removed, []⟩))
      { s with rcd := { s.rcd with segs := modAt s.rcd.segs o (fun g => { g with state := .erasing }) } }

/-- A new segment is opened for a record with the given SEQ; FILL is raised when the count of erased segments falls to
FILL_WARN, and recycling follows (R434). -/
def State.openSeg (s : State) (firstSeq : Word) : Option State :=
  match s.rcd.nextErased with
  | none => none
  | some i =>
    let hd := s.segHeader firstSeq
    let s := { s with rcd := { s.rcd with
      wseg := i, opened := s.rcd.opened + 1
      segs := modAt s.rcd.segs i (fun _ => ⟨.inUse, hd⟩) } }
    let s := s.setReg Reg.recWptr 0x40
    let s := if s.rcd.erased = s.fld Reg.recCtrl 5 0 then s.raise pREC 4 else s
    some s.keepErased

/-- Room for a record of `n` bytes: the open segment, or a new one. -/
def State.room (s : State) (n : Nat) (seq : Word) : Option State :=
  let isOpen := (s.rcd.segs[s.rcd.wseg]?.map (fun g => g.state == .inUse)).getD false
  if isOpen && decide (0x40 ≤ (s.reg Reg.recWptr).toNat ∧ (s.reg Reg.recWptr).toNat + n ≤ segBytes) then some s
  else s.openSeg seq

/-- Bytes are programmed at the write point; the bytes before it that nothing programmed stay erased. -/
def State.program (s : State) (b : Bytes) : State :=
  let ofs := (s.reg Reg.recWptr).toNat
  { s with rcd := { s.rcd with segs := modAt s.rcd.segs s.rcd.wseg (fun g =>
      { g with bytes := flashAt g.bytes 0 ofs ++ b }) } }

/-- The open segment is closed: the next record opens another (R433). -/
def State.closeSeg (s : State) : State := s.setReg Reg.recWptr (BitVec.ofNat 32 segBytes)

/-- What follows when MARK of a record has been written. -/
def State.written_ (s : State) (q : QEntry) (b : Bytes) : State :=
  let s := s.setReg Reg.recWptr (s.reg Reg.recWptr + BitVec.ofNat 32 b.length)
  let s := if q.src = pREC ∧ q.type = 0xF002 then s.raise pREC 2 else s
  let s := if q.src = pREC ∧ q.type = 0xF003 then (s.raise pREC 3).incWrap Reg.recCnt 15 0 else s
  let s := if q.src = pREC ∧ q.type = 0xF004 then (s.raise pREC 7).incSat Reg.recCnt 31 16 else s
  if q.prio = .critical then (s.raise pREC 0).notify 2 (b.take 24) else s

/-- The steward requests the System reset for a WEDGE, once (R384, R482). -/
def State.wedgeReset (s : State) : State :=
  if s.host.wedgeAt.isSome && s.stewardUp then
    { s with host := { s.host with wedgeAt := none } }.assertSource 10 1 false
  else s

/-- The record that the steward waits for before it requests the reset of a WEDGE has been written (R384, R484). -/
def State.wedgeRecorded (s : State) (q : QEntry) (res : ProgRes) : State :=
  if q.src = pSTW ∧ q.type = 0xE007 ∧ res = .ok ∧ s.rcd.due.all (fun d => d.1 != q) then s.wedgeReset else s

/-- One record is written (R430, R431, R433). A record without room stays queued; without any segment
that could become free the engine stands in FAIL. -/
def State.writeRec (s : State) (q : QEntry) (kept : Option Word) (res : ProgRes) : State :=
  let seq := kept.getD (s.reg Reg.recNextSeq)
  let b := q.record seq
  let again (s : State) : State := { s with rcd := { s.rcd with due := (q, kept) :: s.rcd.due } }
  match s.room b.length seq with
  | none =>
    let s := again s
    if s.rcd.segs.any (fun g => g.state == .erasing) then s else s.setFld Reg.recStat 1 0 3
  | some s =>
    let s := if kept.isSome then s else s.setReg Reg.recNextSeq (s.reg Reg.recNextSeq + 1)
    match res with
    | .ok => (s.program b).written_ q b
    | .cut n => s.program (b.take (min n (b.length - 1)))
    | .fail =>
      let seg := s.rcd.wseg
      let s := s.program (b.take (b.length - 1))
      let s := s.closeSeg
      let s := ((s.raise pREC 5).logErr pREC 0x0101 (BitVec.ofNat 32 seg))
      let f := s.stamp ⟨0xF005, pREC, .critical, toLe 4 seg ++ toLe 4 0⟩
      { s with rcd := { s.rcd with due := (f, none) :: (q, some seq) :: s.rcd.due, lastOp := f.op } }

/-- The first queued entry in write order: critical, then normal, then bulk (R436). -/
def nextQueued (l : List QEntry) : Option (QEntry × List QEntry) :=
  let pick (p : Prio) : Option (QEntry × List QEntry) :=
    (l.find? (fun q => q.prio == p)).map (fun q => (q, l.eraseP (fun q => q.prio == p)))
  match pick .critical with
  | some r => some r
  | none => match pick .normal with
    | some r => some r
    | none => pick .bulk

/-- RECORD_WRITE: the engine writes the next record it owes, else the next queued one. The last entry
leaves the queue empty, and the SUPPRESS records fall due at that moment (R437). -/
def recordWrite (res : ProgRes) (s : State) : State :=
  if !s.recRuns || s.fld Reg.recStat 1 0 == 2 then s
  else
    match s.rcd.due with
    | (q, k) :: r => (({ s with rcd := { s.rcd with due := r } }.writeRec q k res).recShow).wedgeRecorded q res
    | [] =>
      match nextQueued s.rcd.queue with
      | some (q, l) =>
        let s := { s with rcd := { s.rcd with queue := l } }.writeRec q none res
        ((if l.isEmpty then s.suppress (fun _ => true) else s).recShow).wedgeRecorded q res
      | none => s

/-- The segment whose erase runs, when no READ holds it, the index stands, and its RECYCLE record is written (R432, R434,
R439). -/
def State.eraseRuns (s : State) : Option Nat :=
  if !s.recRuns || s.fld Reg.recStat 1 0 == 2 || s.rcd.reading.isSome || s.rcd.due.any (fun d => d.1.type == 0xF003) then none
  else (List.range 64).find? (fun i => (s.rcd.segs[i]?.map (fun g => g.state == .erasing)).getD false)

/-- SEGMENT_ERASE_DONE (R433, R434). A segment whose erase fails is removed from use, and another is recycled, since an
erased segment beyond the open one is kept. -/
def segmentEraseDone (ok : Bool) (s : State) : State :=
  match s.eraseRuns with
  | none => s
  | some i =>
    if ok then
      let s := { s with rcd := { s.rcd with segs := modAt s.rcd.segs i (fun _ => ⟨.erased, []⟩) } }
      (if s.fld Reg.recStat 1 0 = 3 then s.setFld Reg.recStat 1 0 1 else s).recShow
    else
      let s := { s with rcd := { s.rcd with segs := modAt s.rcd.segs i (fun g => { g with state := .removed }) } }
      let s := (s.raise pREC 5).logErr pREC 0x0101 (BitVec.ofNat 32 (i + 0x100))
      ((s.owe 0xF005 (toLe 4 i ++ toLe 4 1)).keepErased).recShow

/-- SUPPRESS_TIMEOUT: the counts whose first drop is 60 s old become records (R437). -/
def suppressTimeout (s : State) : State :=
  if !s.recRuns then s
  else s.suppress (fun d => decide (d.since.toNat + 60000 ≤ s.opTime.toNat))

/-- The RECYCLE record of a segment is written (R434). -/
def Recorder.recycled (r : Recorder) (g : Segment) : Bool :=
  r.valid.any (fun b => decide (leAt b 2 2 = 0xF003 ∧ leAt b 4 1 = pREC)
    && decide (leAt b (24 + 8 * (leAt b 0x14 1 % 2)) 4 = g.serial))

/-- The examination of a write point (R432): where it holds written bytes, a torn record is skipped, or without an
acceptable LENGTH the rest of the segment abandoned, with the payload of a TORN record. Behind a record that is skipped the
next point is examined alike, in at most as many turns as records can lie there. -/
def examineAt (seg : Nat) (b : Bytes) : Nat → Nat → Nat × List (Nat × Bytes)
  | 0, ofs => (ofs, [])
  | f + 1, ofs =>
    let w := leNat (flashAt b ofs 2)
    if segBytes ≤ ofs ∨ w = 0xFFFF then (ofs, [])
    else
      let torn := toLe 4 seg ++ toLe 4 ofs ++ toLe 2 w ++ zeros 2 ++ flashAt b (ofs + 0x10) 4
      if lengthOk w ofs then
        let r := examineAt seg b f (ofs + w)
        (r.1, (0xF004, torn) :: r.2)
      else (segBytes, [(0xF004, torn)])

/-- The examination of the write point in the open segment (R432). -/
def State.examine (s : State) : State × List (Nat × Bytes) :=
  let g := s.rcd.segs.getD s.rcd.wseg ⟨.erased, []⟩
  if g.state != .inUse then (s, [])
  else
    let r := examineAt s.rcd.wseg g.bytes (g.bytes.length / 29 + 1) (s.reg Reg.recWptr).toNat
    (s.setReg Reg.recWptr (BitVec.ofNat 32 r.1), r.2)

/-- The engine runs: the records of `first`, that of the write point and START are written, then the records asked for
before, then the queue (R432). A segment whose erase began without its RECYCLE record is in use again (R434). -/
def State.recStart (s : State) (first : List (Nat × Bytes)) : State :=
  let segs := s.rcd.segs.map (fun g =>
    if g.state == .erasing && !s.rcd.recycled g then { g with state := .inUse } else g)
  let asked := s.rcd.due
  let s := { s.setFld Reg.recStat 1 0 1 with rcd := { s.rcd with segs := segs, due := [] } }
  let x := s.examine
  let start := (0xF001, wordBytes (s.reg Reg.rstLast) ++ wordBytes (s.reg Reg.rstDom))
  let s := (first ++ x.2 ++ [start]).foldl (fun s r => s.owe r.1 r.2) x.1
  ({ s with rcd := { s.rcd with due := s.rcd.due ++ asked } }.keepErased).recShow

/-- RECORDER_START: the index is read, and the records that were asked for before take their place behind START (R432).
`indexOk` is false when the index failed its check: it is then rebuilt. -/
def recorderStart (indexOk : Bool) (s : State) : State :=
  if !s.domainUp 8 || s.fld Reg.recStat 1 0 != 0 then s
  else
    let s := s.events.foldl State.oweEvent { s with events := [] }
    if indexOk then s.recStart [] else s.setFld Reg.recStat 1 0 2

/-- The write point that the records of a segment show: behind the last that has its MARK (R430). The examination skips
the torn ones behind it (R432). -/
def Segment.point (g : Segment) : Nat :=
  match (g.recs.filter (fun x => x.2.getLast? == some 0xA5)).getLast? with
  | some (o, b) => o + b.length
  | none => 0x40

/-- INDEX_REBUILT: the scan of every segment gives the index again (R432). No SEQ of a valid record is given a second
time, nor one that the retained next sequence has passed (R431). -/
def indexRebuilt (ms : Word) (s : State) : State :=
  if !s.domainUp 8 || s.fld Reg.recStat 1 0 != 2 then s
  else
    let r := s.rcd
    let next := (r.valid.map (fun b => recSeq b + 1)).foldl (fun a b => if later b a then b else a) (s.reg Reg.recNextSeq)
    let s := s.setReg Reg.recNextSeq next
    let s := match r.ordered.getLast? with
      | none => s
      | some i =>
        let g := r.segs.getD i ⟨.erased, []⟩
        { s with rcd := { s.rcd with wseg := i, opened := g.serial + 1 } }.setReg Reg.recWptr (BitVec.ofNat 32 g.point)
    s.recStart [(0xF006, wordBytes ms)]

/-! ### Submission and readout (R439, R440) -/

/-- The 64-bit address in a pair of registers. -/
def State.addrOf (s : State) (lo hi : Nat) : Nat := (s.reg lo).toNat + (s.reg hi).toNat * 2 ^ 32

/-- REC_SUB_CMD SUBMIT (R440). -/
def recSubCmd (hap : Bool) (s : State) : State :=
  if !s.domainUp 8 then s.downError pREC
  else if hap then s.refuse Reg.recSubCmd
  else
    let a := s.addrOf Reg.recSubLo Reg.recSubHi
    let type := leNat (s.mem.read a 2)
    let src := (s.mem.byte (a + 2)).toNat
    let prio := (s.mem.byte (a + 3)).toNat
    let plen := leNat (s.mem.read (a + 4) 2)
    let typeOk := decide (1 ≤ type ∧ type ≤ 0x101F) || decide (0xE000 ≤ type ∧ type ≤ 0xEFFF)
    if 4059 < plen ∨ 3 ≤ prio ∨ ¬ typeOk then
      (s.setFld Reg.recSubStat 1 0 3).logErr pREC 0x0102 (s.reg Reg.recSubLo)
    else
      let p : Prio := if prio = 0 then .critical else if prio = 1 then .normal else .bulk
      let r := s.recAdmit ⟨type, src, p, s.mem.read (a + 8) plen⟩
      (r.1.setFld Reg.recSubStat 1 0 (if r.2 then 1 else 2)).recShow

/-- Records taken while the batch stays within `lim` bytes, end word included (R439). -/
def takeBatch : Nat → List Bytes → List Bytes
  | _, [] => []
  | lim, b :: r => if b.length + 4 ≤ lim then b :: takeBatch (lim - b.length) r else []

/-- The records whose writing has ended, in write order: none stands at the write point or behind it (R439). -/
def State.ended (s : State) : List Bytes :=
  s.rcd.ordered.flatMap (fun i =>
    let l := (s.rcd.segs[i]?.map Segment.recs).getD []
    (if i = s.rcd.wseg then l.filter (fun x => decide (x.1 < (s.reg Reg.recWptr).toNat)) else l).map Prod.snd)

/-- The records from the one with SEQ `c` on, in write order; where none has it, from the first later one on. -/
def fromSeq (c : Word) (l : List Bytes) : List Bytes :=
  match l.dropWhile (fun b => recSeq b != c) with
  | [] => l.dropWhile (fun b => !(recValid b && !later c (recSeq b)))
  | r => r

/-- The batch of a READ from cursor `c` (R439). A cursor before the oldest record held begins at that record. -/
def State.readBatch (s : State) (c : Word) : ReadRun :=
  let next := s.reg Reg.recNextSeq
  let oldest := s.rcd.oldest next
  if later c next then ⟨[], 0, 0, c, false, true⟩
  else
    let gap := later oldest c
    let from_ := if c = next then [] else fromSeq (if gap then oldest else c) s.ended
    let m := (s.reg Reg.recRdLen).toNat % 2 ^ 21
    let lim := if m < 4100 then 4100 else if 0x100000 < m then 0x100000 else m
    let l := takeBatch lim from_
    ⟨l.flatten ++ [0xFF, 0xFF, 0xFF, 0xFF], l.length,
      (match l.head? with | some b => recSeq b | none => 0),
      (match (l.filter (fun b => !later oldest (recSeq b) && later next (recSeq b))).getLast? with
        | some b => recSeq b + 1 | none => c), gap, false⟩

/-- A READ begins (R439). -/
def State.readBegin (s : State) : State :=
  let r := s.readBatch (s.reg Reg.recRdCursor)
  { s with rcd := { s.rcd with reading := some r } }.setFld Reg.recRdStat 16 16 1

/-- REC_RD_CMD READ (R439, R440). -/
def recRdCmdRead (hap : Bool) (s : State) : State :=
  if !s.domainUp 8 then s.downError pREC
  else if hap || s.rcd.reading.isSome then s.refuse Reg.recRdCmd
  else s.readBegin

/-- REC_READ_DONE: the window holds the batch, the cursor moves on (R439). -/
def recReadDone (s : State) : State :=
  match s.rcd.reading with
  | none => s
  | some r =>
    let s := s.writeMem (s.addrOf Reg.recRdBaseLo Reg.recRdBaseHi) r.bytes
    let s := { s with rcd := { s.rcd with reading := none } }
    let s := s.setReg Reg.recRdStat (BitVec.ofNat 32 (r.count % 2 ^ 16 + b2n r.gap * 2 ^ 17 + b2n r.ahead * 2 ^ 18))
    ((s.setReg Reg.recRdCursor r.cursor).setReg Reg.recRdFirst r.first).raise pREC 6

/-! ### The commands -/

/-- RECORD_EVENT_ADMIT (R436). -/
def execRecordEventAdmit (s : State) : Host.Outcome State Fault Refusal := .next (recordEventAdmit s)
/-- RECORD_WRITE (R430). -/
def execRecordWrite (res : ProgRes) (s : State) : Host.Outcome State Fault Refusal := .next (recordWrite res s)
/-- SEGMENT_ERASE_DONE (R434). -/
def execSegmentEraseDone (ok : Bool) (s : State) : Host.Outcome State Fault Refusal := .next (segmentEraseDone ok s)
/-- SUPPRESS_TIMEOUT (R437). -/
def execSuppressTimeout (s : State) : Host.Outcome State Fault Refusal := .next (suppressTimeout s)
/-- RECORDER_START (R432). -/
def execRecorderStart (indexOk : Bool) (s : State) : Host.Outcome State Fault Refusal := .next (recorderStart indexOk s)
/-- INDEX_REBUILT (R432). -/
def execIndexRebuilt (ms : Word) (s : State) : Host.Outcome State Fault Refusal := .next (indexRebuilt ms s)
/-- REC_SUB_CMD (R440). -/
def execRecSubCmd (hap : Bool) (s : State) : Host.Outcome State Fault Refusal := .next (recSubCmd hap s)
/-- REC_RD_CMD_READ (R439). -/
def execRecRdCmdRead (hap : Bool) (s : State) : Host.Outcome State Fault Refusal := .next (recRdCmdRead hap s)
/-- REC_READ_DONE (R439). -/
def execRecReadDone (s : State) : Host.Outcome State Fault Refusal := .next (recReadDone s)

end Sys2Proof.Machine
end

