-- ==== Sys2Proof/Machine/Boot.lean ====
section
/-! DEFINITION. The option record, the pin fuse map, secure boot and the board keys (R403 to R418). -/

namespace Sys2Proof.Machine

/-! ### The option record (R403 to R406) -/

/-- The reason for which a copy of the option record is invalid (R404, R405, R420), if it is. -/
def optReason (b : Bytes) : Option Nat :=
  let l := flashAt b 0 128
  let fmt := leAt l 4 2
  let prefixAt := if fmt = 0x0100 then 0x14 else 0x0E
  let p := leAt l prefixAt 1
  if leAt l 0 4 ≠ 0x504F5641 ∨ leAt l 6 2 ≠ 128 ∨ (fmt ≠ 0x0200 ∧ fmt ≠ 0x0100) then some 1
  else if leAt l 0x7C 4 ≠ (crc32c (l.take 0x7C)).toNat then some 2
  else if p < 8 ∨ 30 < p ∨ (fmt = 0x0200 ∧ 63 < leAt l 0x0C 1) then some 3
  else none

/-- A record made of the given fields; the fields without a default are 0 (assumption 4). -/
def optFields (domain ofsPrefix : Nat) (ip : Bytes) : Bytes :=
  zeros 12 ++ toLe 1 domain ++ [0] ++ toLe 1 ofsPrefix ++ [0] ++ ip ++ zeros 108

/-- The defaults of R403. -/
def State.optDefault (s : State) : Bytes := optFields 0xFF 16 [if s.isB then 11 else 10, 100, 254, 169]

/-- The record in use that a valid copy gives (R404, R405). -/
def optUse (b : Bytes) : Bytes :=
  let l := flashAt b 0 128
  if leAt l 4 2 = 0x0100 then optFields (leAt l 0x0C 1 % 64) (leAt l 0x14 1) (slice l 0x10 4) else l

/-- The option loader logs a bad copy (R404, R420). -/
def State.optBad (s : State) (copy : Nat) (reason : Nat) : State :=
  s.logErr pSYS 0x0101 (BitVec.ofNat 32 (copy + reason * 16))

/-- OPTION_LOADER_DONE (R404): `err1` and `err2` say that the flash read of a copy failed. -/
def optionLoaderDone (err1 err2 : Bool) (s : State) : State :=
  if !s.rst.optBusy then s
  else
    let r1 := if err1 then some 4 else optReason s.boot.opt1
    let r2 := if err2 then some 4 else optReason s.boot.opt2
    let s := match r1 with | some r => s.optBad 0 r | none => s
    let s := match r1, r2 with | some _, some r => s.optBad 1 r | _, _ => s
    let src := if r1.isNone then 0 else if r2.isNone then 1 else 2
    let rec_ := if r1.isNone then optUse s.boot.opt1 else if r2.isNone then optUse s.boot.opt2
      else s.optDefault
    let old := if r1.isNone then leAt s.boot.opt1 4 2 == 0x0100 else r2.isNone && leAt s.boot.opt2 4 2 == 0x0100
    let s := { s with option := rec_, rst := { s.rst with optBusy := false, optDone := true, optAt := s.opNs } }
    let s := s.setReg Reg.sysOptStat (BitVec.ofNat 32 (src + b2n old * 4 + b2n r1.isSome * 8
      + b2n (r1.isNone || r2.isSome) * 16 + leAt rec_ 0x0C 1 * 256))
    (s.raise pSYS 0).showRst

/-- The words of a staging buffer that starts at bank `b` of a register, as bytes. -/
def State.staged (s : State) (k b n : Nat) : Bytes :=
  (List.range n).flatMap (fun i => wordBytes (s.reg (Reg.bank (b + i) k)))

/-- SYS_OPT_CMD WRITE (R406): a valid staged record is being written, copy 2 first. -/
def sysOptCmdWrite (s : State) : State :=
  if !s.domainUp 0 then s
  else if !((s.state == .boot || s.state == .stoodDown) && s.fld Reg.sysOptRes 2 2 == 0) then
    s.refuse Reg.sysOptCmd
  else
    let l := s.staged Reg.sysOptData 32 32
    match optReason l with
    | some r => (s.setFld Reg.sysOptRes 1 0 2).logErr pSYS 0x0102 (BitVec.ofNat 32 r)
    | none => { s with boot := { s.boot with opt2 := l } }.setFld Reg.sysOptRes 2 2 1

/-- OPTION_WRITE_DONE (R406): both copies stand, or the flash failed and copy 2 is lost (assumption 4). -/
def optionWriteDone (ok : Bool) (s : State) : State :=
  if s.fld Reg.sysOptRes 2 2 = 0 then s
  else
    let s := s.setFld Reg.sysOptRes 2 2 0
    if ok then
      let s := { s with boot := { s.boot with opt1 := s.boot.opt2 } }
      ((s.setFld Reg.sysOptRes 1 0 1).incWrap Reg.sysOptRes 31 16).raise pSYS 0
    else
      let s := { s with boot := { s.boot with opt2 := [] } }
      ((s.setFld Reg.sysOptRes 1 0 3).logErr pSYS 0x0102 0).raise pSYS 0

/-! ### The pin fuse map (R407, R409) -/

/-- SYS_FUSE_CMD BURN (R409): every staged bit and LOCKED are burnt; a failed burn leaves the block as it
reads back, which `ok = false` takes as unchanged (assumption 4); a block that is LOCKED burns no bit. -/
def sysFuseCmdBurn (value : Word) (ok : Bool) (s : State) : State :=
  if !s.domainUp 0 || value != 0x0000F05E then s
  else if !(s.state == .boot && s.svcKey && !s.boot.fuse.getLsbD 255) then s.logErr pSYS 0x0103 0
  else if !ok || s.boot.fuseBlk.getLsbD 255 then (s.logErr pSYS 0x0103 0).raise pSYS 1
  else
    let m := BitVec.ofNat 256 (leNat (s.staged Reg.sysFuseData 8 8))
    { s with boot := { s.boot with
        fuseBlk := s.boot.fuseBlk ||| m ||| BitVec.ofNat 256 (2 ^ 255) } }.raise pSYS 1

/-! ### Secure boot (R414 to R417) -/

/-- A verification fails: SEC_FAIL and 0x0101 (R416, R421). -/
def State.secFail (s : State) (obj reason : Nat) : State :=
  let w := BitVec.ofNat 32 (obj + reason * 16)
  (s.setReg Reg.secFail w).logErr pSEC 0x0101 w

/-- The hash of root key slot `n`. -/
def State.rootHash (s : State) (n : Nat) : Bytes := if n = 0 then s.boot.root0 else s.boot.root1

/-- The reason for which the ROM refuses a boot extension copy (R415, R416, R421), if it does. -/
def State.extReason (s : State) (b : Bytes) : Option Nat :=
  let len := leAt b 8 4
  let slot := leAt b 0x0C 4
  let key := slice b 0x10 96
  let root := s.reg Reg.secRoot
  if leAt b 0 4 ≠ 0x58455641 ∨ len = 0 ∨ 507648 < len ∨ b.length < 0x100 + len then some 1
  else if 1 < slot ∨ bit root slot = false ∨ bit root (2 + slot) then some 4
  else if sha384 key ≠ s.rootHash slot then some 2
  else if !ecdsaVerify key (sha384 (b.take 0x70 ++ slice b 0x100 len)) (slice b 0x70 96) then some 3
  else none

/-- The boot extension starts: copy `n` of its image `b` (R416, R421). -/
def State.extStart (s : State) (n : Nat) (b : Bytes) : State :=
  let w := 1 + n * 16 + leAt b 0x0C 4 % 2 * 256 + leAt b 4 4 % 2 ^ 16 * 2 ^ 16
  { s with boot := { s.boot with extKey := slice b 0x10 96 } }.setReg Reg.secStat (BitVec.ofNat 32 w)

/-- ROM_BOOT (R416): copy 1, then copy 2; when both fail the steward halts with STAGE ROM_FAIL. -/
def romBoot (err1 err2 : Bool) (s : State) : State :=
  if !s.domainUp 8 || s.fld Reg.secStat 3 0 != 0 then s
  else
    match (if err1 then some 5 else s.extReason s.boot.ext1) with
    | none => s.extStart 1 s.boot.ext1
    | some r =>
      let s := s.secFail 1 r
      match (if err2 then some 5 else s.extReason s.boot.ext2) with
      | none => s.extStart 2 s.boot.ext2
      | some r => (s.secFail 2 r).setFld Reg.secStat 3 0 8

/-- The reason of SEC_FAIL for a bank, from the checks of R448 (R417, R421). -/
def State.bankReason (s : State) (b err : Bool) : Option Nat :=
  let img := s.bankImg b
  if err then some 5
  else match imgFormat img img.length (s.fld Reg.secStat 8 8) s.boot.extKey with
    | none => none
    | some 2 => some 3
    | some _ => some 1

/-- A bank that is TRIAL at boot: FAILED after the steward watchdog, STAGED after any other source, with
one record of the reset cause (R446, R458). A STAGED bank can be handed over again without a new STORE, so its library
part is put where a handover finds it, in half 1. -/
def State.judgeTrial (s : State) (b : Bool) : State :=
  if s.bankState b ≠ .trial then s
  else
    let bad := s.rst.sources.getLsbD 7
    let s := s.setBank b (if bad then .failed else .staged)
    let s := if bad then s else s.writeLib (imgLib (s.bankImg b)) 1 (fun n => s.lanes[n].state != .borneOff)
    let s := s.incSat Reg.updSet 31 16
    (s.logErr pUPD 0x0103 3).recErr pUPD 0x0103 3 .normal (wordBytes (s.reg Reg.rstLast))

/-- The firmware of bank `b` starts: BRD_FMT, the library in half 0 of every lane (R447), the boot duties of
the steward (R482: GMB ENABLE), the translation contexts of the host keys (R474). -/
def State.firmwareStart (s : State) (b : Bool) : State :=
  let img := s.bankImg b
  let s := { s with upd := { s.upd with runB := b } }.startSteward b none
  let s := (s.setFld Reg.secStat 3 0 2).setFld Reg.secStat 7 6 (if b then 2 else 1)
  let s := s.setReg Reg.brdFmt (imgBrdFmt img)
  let s := over16 (fun s n => s.setFld (Reg.laneLib n) 0 0 0) s
  let s := s.writeLib (imgLib img) 0 (fun _ => true)
  let s := (List.range 8).foldl (fun s k => s.setReg (Reg.bank (k + 1) Reg.mmuRoot) (hostRoot (k + 1))) s
  s.setFld (Reg.pgCtrl pGMB) 0 0 1

/-- FIRMWARE_BANK_VERIFY (R417, R446): the CONFIRMED bank, else the other bank if it is STAGED or PREVIOUS,
else recovery. -/
def firmwareBankVerify (errA errB : Bool) (s : State) : State :=
  if !s.domainUp 8 || s.fld Reg.secStat 3 0 != 1 then s
  else
    let s := ({ s with upd := s.upd.readChoice }.judgeTrial false).judgeTrial true
    let b := s.bankState true == .confirmed && s.bankState false != .confirmed
    let err := fun (x : Bool) => if x then errB else errA
    let obj := fun (x : Bool) => if x then 4 else 3
    match s.bankReason b (err b) with
    | none => s.firmwareStart b
    | some r =>
      let s := s.secFail (obj b) r
      let s := s.recErr pSEC 0x0101 (BitVec.ofNat 32 (obj b + r * 16)) .normal []
      let o := !b
      if s.bankState o ≠ .staged ∧ s.bankState o ≠ .previous then s.setFld Reg.secStat 3 0 9
      else match s.bankReason o (err o) with
        | none => s.firmwareStart o
        | some r => (s.secFail (obj o) r).setFld Reg.secStat 3 0 9

/-! ### Board keys (R418) -/

/-- A key command is refused (R418). -/
def State.keyRefused (s : State) (value : Word) : State := s.logErr pSEC 0x0102 value

/-- The 96 bytes of the staged key: first key byte in [31:24] of word 0 (R421). -/
def State.secStaged (s : State) : Bytes :=
  (List.range 24).flatMap (fun i => toBe 4 (s.reg (Reg.bank i Reg.secKeyData)).toNat)

/-- The conditions that every operation of SEC_KEY_CMD shares; `f` gets the slot. -/
def State.secCmd (s : State) (value : Word) (op : Nat) (f : State → Fin 8 → State) : State :=
  if ¬ s.domainUp 8 then s.downError pSEC
  else if bits value 31 16 ≠ 0x5A5A ∨ bits value 7 4 ≠ op then s
  else if s.state ≠ .boot then s.keyRefused value
  else f s (Fin.ofNat 8 (bits value 2 0))

/-- A bit of SEC_KEY_EN. -/
def State.keyBit (s : State) (i : Nat) : Bool := bit (s.reg Reg.secKeyEn) i

/-- SEC_KEY_CMD STORE (R418): the slot takes the staged point and is disabled. -/
def secKeyStore (value : Word) (s : State) : State :=
  s.secCmd value 1 fun s n =>
    let k := s.secStaged
    if s.keyBit (8 + n) || !keyOnCurve k then s.keyRefused value
    else
      let s := { s with boot := { s.boot with keys := s.boot.keys.set n k } }
      ((s.setFld Reg.secKeyEn (16 + n) (16 + n) 1).setFld Reg.secKeyEn n n 0).raise pSEC 0

/-- SEC_KEY_CMD ENABLE (R418). -/
def secKeyEnable (value : Word) (s : State) : State :=
  s.secCmd value 2 fun s n =>
    if s.keyBit (8 + n) || !s.keyBit (16 + n) then s.keyRefused value
    else (s.setFld Reg.secKeyEn n n 1).raise pSEC 0

/-- SEC_KEY_CMD DISABLE (R418). -/
def secKeyDisable (value : Word) (s : State) : State :=
  s.secCmd value 3 fun s n => (s.setFld Reg.secKeyEn n n 0).raise pSEC 0

/-- SEC_KEY_CMD REVOKE (R418): a revoked slot is never enabled again. -/
def secKeyRevoke (value : Word) (s : State) : State :=
  s.secCmd value 4 fun s n =>
    if !s.svcKey then s.keyRefused value
    else ((s.setFld Reg.secKeyEn (8 + n) (8 + n) 1).setFld Reg.secKeyEn n n 0).raise pSEC 0

/-- OPTION_LOADER_DONE (R404). -/
def execOptionLoaderDone (err1 err2 : Bool) (s : State) : Host.Outcome State Fault Refusal := .next (optionLoaderDone err1 err2 s)
/-- SYS_OPT_CMD_WRITE (R406). -/
def execSysOptCmdWrite (s : State) : Host.Outcome State Fault Refusal := .next (sysOptCmdWrite s)
/-- OPTION_WRITE_DONE (R406). -/
def execOptionWriteDone (ok : Bool) (s : State) : Host.Outcome State Fault Refusal := .next (optionWriteDone ok s)
/-- SYS_FUSE_CMD_BURN (R409). -/
def execSysFuseCmdBurn (value : Word) (ok : Bool) (s : State) : Host.Outcome State Fault Refusal := .next (sysFuseCmdBurn value ok s)
/-- ROM_BOOT (R416). -/
def execRomBoot (err1 err2 : Bool) (s : State) : Host.Outcome State Fault Refusal := .next (romBoot err1 err2 s)
/-- FIRMWARE_BANK_VERIFY (R417). -/
def execFirmwareBankVerify (errA errB : Bool) (s : State) : Host.Outcome State Fault Refusal := .next (firmwareBankVerify errA errB s)
/-- SEC_KEY_STORE (R418). -/
def execSecKeyStore (value : Word) (s : State) : Host.Outcome State Fault Refusal := .next (secKeyStore value s)
/-- SEC_KEY_ENABLE (R418). -/
def execSecKeyEnable (value : Word) (s : State) : Host.Outcome State Fault Refusal := .next (secKeyEnable value s)
/-- SEC_KEY_DISABLE (R418). -/
def execSecKeyDisable (value : Word) (s : State) : Host.Outcome State Fault Refusal := .next (secKeyDisable value s)
/-- SEC_KEY_REVOKE (R418). -/
def execSecKeyRevoke (value : Word) (s : State) : Host.Outcome State Fault Refusal := .next (secKeyRevoke value s)

end Sys2Proof.Machine
end

