-- ==== Sys2Proof/Machine/Can.lean ====
section
/-! DEFINITION. The chassis bus (17_chassis_bus.md). TEC, REC and the error states follow ISO 11898-1, as
R488 and R499 refer to it (assumption 10). -/

namespace Sys2Proof.Machine

/-- The channel is retired (R503). -/
def State.canRetired (s : State) (c : Fin 2) : Bool := bit (s.reg (Reg.canLife c)) 16

/-- MODE of the channel; a retired channel is held as with MODE 0 (R503). -/
def State.canMode (s : State) (c : Fin 2) : Nat := if s.canRetired c then 0 else s.fld (Reg.canCtrl c) 1 0

/-- STATE of CAN_ERR: 0 error-active, 1 error-passive, 2 bus-off. -/
def State.canErr (s : State) (c : Fin 2) : Nat := s.fld (Reg.canErr c) 25 24

/-- A channel's own data replaced by `f` of it. -/
def State.modCan (s : State) (c : Fin 2) (f : CanCh → CanCh) : State := { s with can := s.can.set c (f s.can[c]) }

/-- State of transmit buffer `b` (CAN_TX_STAT). -/
def State.txState (s : State) (c : Fin 2) (b : Nat) : Nat := s.fld (Reg.canTxStat c) (4 * b + 2) (4 * b)

/-- The state of a transmit buffer set: 0 EMPTY, 1 PENDING, 2 SENT, 3 ABORTED, 4 FAILED. -/
def State.setTx (s : State) (c : Fin 2) (b v : Nat) : State := s.setFld (Reg.canTxStat c) (4 * b + 2) (4 * b) v

/-- A header word of transmit buffer `b`. -/
def State.txHdr (s : State) (c : Fin 2) (b k : Nat) : Word :=
  s.reg (Reg.bank b (if k = 0 then Reg.canTxHdr0 c else Reg.canTxHdr1 c))

/-- The data bytes of a frame with the given DLC (R492). -/
def canLen (fdf : Bool) (dlc : Nat) : Nat :=
  if dlc ≤ 8 then dlc
  else if !fdf then 8
  else [12, 16, 20, 24, 32, 48, 64].getD (dlc - 9) 64

/-- The first `n` data bytes of transmit buffer `b`. -/
def State.txData (s : State) (c : Fin 2) (b n : Nat) : Bytes :=
  ((List.range 16).flatMap (fun k => wordBytes (s.reg (Reg.bank b (Reg.canTxData0 c + 4 * k))))).take n

/-- The bits that decide arbitration between pending frames: base identifier, RTR or SRR, IDE, extended
identifier, RTR; a smaller number wins (ISO 11898-1). -/
def arbKey (h : Word) : Nat :=
  let id := bits h 28 0
  let rtr := b2n (bit h 30)
  if bit h 29 then id / 2 ^ 18 * 2 ^ 21 + 3 * 2 ^ 19 + id % 2 ^ 18 * 2 + rtr
  else id / 2 ^ 18 * 2 ^ 21 + rtr * 2 ^ 20

/-- The buffer the controller chooses at the next start of frame (R496, R500). -/
def State.canChoose (s : State) (c : Fin 2) : Option Nat :=
  let p := (List.range 3).filter (fun b => s.txState c b == 1)
  match s.can[c].first.filter p.contains with
  | some b => some b
  | none =>
    if bit (s.reg (Reg.canCtrl c)) 3 then p.head?
    else p.foldl (fun r b => match r with
      | none => some b
      | some a => if arbKey (s.txHdr c b 0) < arbKey (s.txHdr c a 0) then some b else some a) none

/-- Start of frame: the channel puts a frame on the bus, if it may send and no frame is there, its own or another node's
(R490, R496, R499); the buffer of a bus-off goes first until a frame has been sent (R500). -/
def State.canStart (s : State) (c : Fin 2) : State :=
  let m := s.canMode c
  if (m = 1 ∨ m = 3) ∧ s.canErr c ≠ 2 ∧ s.can[c].onBus = none ∧ !s.can[c].foreign then
    match s.canChoose c with
    | some b => s.modCan c (fun x => { x with onBus := some b, abort := false, released := false })
    | none => s
  else s

/-- Transmit buffer `b` ends in state `v`; it no longer goes first after a recovery (R500). -/
def State.txEnds (s : State) (c : Fin 2) (b v : Nat) : State :=
  (s.setTx c b v).modCan c (fun x => { x with first := if x.first = some b then none else x.first })

/-- The frame of buffer `b` has left the bus unsent (R497, R498): ABORTED if an ABORT waited for it, FAILED if it is
offered once, else it waits for the next start of frame. -/
def State.canUnsent (s : State) (c : Fin 2) (b : Nat) (aborted : Bool) : State :=
  if s.txState c b ≠ 1 then s
  else if aborted then s.txEnds c b 3
  else if bit (s.txHdr c b 1) 5 then (s.txEnds c b 4).raise (pCAN c) 2
  else s

/-- The channel leaves the bus, with the frame it has there (R490, R497, R498, R503). -/
def State.canOff (s : State) (c : Fin 2) : State :=
  let x := s.can[c]
  let s := s.modCan c (fun x => { x with onBus := none, abort := false, foreign := false, released := false })
  match x.onBus with
  | some b => s.canUnsent c b x.abort
  | none => s

/-- Another node's frame has ended; the next start of frame follows (R496). -/
def State.canFree (s : State) (c : Fin 2) : State := (s.modCan c (fun x => { x with foreign := false })).canStart c

/-- TEC and REC set, with the error state they give (ISO 11898-1, R499). -/
def State.canCounters (s : State) (c : Fin 2) (tec rec : Nat) : State :=
  let was := s.canErr c
  if 255 < tec then
    let s := s.setFld (Reg.canErr c) 8 0 256
    let s := s.setFld (Reg.canErr c) 25 24 2
    let s := s.incSat (Reg.canLife c) 15 0
    let s := s.modCan c (fun x => { x with onBus := none, abort := false, offAt := s.opNs })
    let i := s.reg (Reg.canErr c)
    ((s.raise (pCAN c) 4).logErr (pCAN c) 0x0101 i).recErr (pCAN c) 0x0101 i .normal []
  else
    let s := s.setFld (Reg.canErr c) 8 0 tec
    let s := s.setFld (Reg.canErr c) 23 16 (min rec 255)
    let st := if 127 < tec ∨ 127 < rec then 1 else 0
    let s := s.setFld (Reg.canErr c) 25 24 st
    if st = 1 ∧ was = 0 then s.raise (pCAN c) 3 else s

/-- REC after a frame received without error: 1 less, or, from above 127, a value from 119 to 127 that
the standard leaves open: a free value. -/
def State.canRecDown (s : State) (rec : Nat) : State × Nat :=
  if 127 < rec then (s.takeFree, 119 + (Config.canRec s.free).toNat % 9) else (s, rec - 1)

/-- STREAK is 0 again, and NOACK may be raised again (R502). -/
def State.canAcked (s : State) (c : Fin 2) : State :=
  (s.setFld (Reg.canNoack c) 15 0 0).modCan c (fun x => { x with noAcked := false })

/-- An unacknowledged attempt of buffer `b` counts; NOACK once STREAK reaches LIM (R502). -/
def State.canNoAck (s : State) (c : Fin 2) (b : Nat) : State :=
  let s := s.incSat (Reg.canNoack c) 15 0
  let lim := s.fld (Reg.canNoack c) 23 16
  if lim ≠ 0 ∧ lim ≤ s.fld (Reg.canNoack c) 15 0 ∧ !s.can[c].noAcked then
    let s := ((s.modCan c (fun x => { x with noAcked := true })).raise (pCAN c) 5).recIrq (pCAN c) 5 .normal []
    if bit (s.reg (Reg.canNoack c)) 24 then s.txEnds c b 3 else s
  else s

/-- A filter accepts a frame (R493); the identifier stands as R493 aligns it. -/
def State.canMatch (s : State) (c : Fin 2) (hdr0 : Word) (f : Nat) : Bool :=
  let m := s.reg (Reg.bank f (Reg.canFmatch c))
  let k := s.reg (Reg.bank f (Reg.canFmask c))
  bit m 31 && (hdr0 &&& k &&& 0x1FFFFFFF) == (m &&& k &&& 0x1FFFFFFF)
    && (!bit k 29 || bit hdr0 29 == bit m 29)

/-- The steward serves the receive interrupt: every frame without a timestamp takes the global time that it reads from
TIM_NOW_LO and TIM_NOW_HI (R43, R61). A steward that hands over serves it after HANDED (R454). -/
def State.canServe (s : State) : State :=
  if !s.stewardUp || s.inRecovery || s.handingOver || !s.domainUp 2
      || s.can.toList.all (fun c => (c.q0 ++ c.q1).all (fun e => e.stamp.isSome)) then s
  else
    let f := fun (e : CanRx) => if e.stamp.isSome then e else { e with stamp := some s.now }
    { s.setReg Reg.timNowHi (s.now.extractLsb' 32 32) with
      can := s.can.map (fun c => { c with q0 := c.q0.map f, q1 := c.q1.map f }) }

/-- A frame that the channel accepted is filtered and queued or discarded (R493, R494). -/
def State.canQueue (s : State) (c : Fin 2) (hdr0 hdr1 : Word) (data : Bytes) : State :=
  match (List.range 16).find? (s.canMatch c hdr0) with
  | none => s.incSat (Reg.canRxCnt c) 31 16
  | some f =>
    let q := s.fld (Reg.bank f (Reg.canFmatch c)) 30 30
    let ch := s.can[c]
    let l := if q = 0 then ch.q0 else ch.q1
    if 32 ≤ l.length then (s.incSat (Reg.canRxCnt c) 15 0).raise (pCAN c) 6
    else
      let seq := ch.seq + 1
      let e : CanRx := ⟨hdr0, BitVec.ofNat 32 (bits hdr1 5 0 + f * 2 ^ 8 + seq.toNat * 2 ^ 16),
        if bit hdr0 30 then [] else data.take (canLen (bit hdr0 31) (bits hdr1 3 0)), none⟩
      let s := s.modCan c (fun x => { x with
        seq := seq
        q0 := if q = 0 then x.q0 ++ [e] else x.q0
        q1 := if q = 0 then x.q1 else x.q1 ++ [e] })
      ((s.incWrap (Reg.canCnt c) 31 16).raise (pCAN c) q).canServe

/-- The identifier word of a frame: a base frame has zeros in [17:0], and an FD frame is no remote frame (R493, R504). -/
def canHdr0 (h : Word) : Word :=
  let h := if bit h 29 then h else h &&& 0xFFFC0000
  if bit h 31 then h &&& 0xBFFFFFFF else h

/-- The second word of a frame: DLC, and in an FD frame BRS and ESI (R491). -/
def canHdr1 (fd : Bool) (h : Word) : Word := h &&& (if fd then 0x3F else 0x0F)

/-- A correctly received frame (R491, R493, R502). -/
def State.canReceive (s : State) (c : Fin 2) (hdr0 hdr1 : Word) (data : Bytes) : State :=
  if bit hdr0 31 && !bit (s.reg (Reg.canCtrl c)) 2 then s.incSat (Reg.canRxCnt c) 31 16
  else (s.canAcked c).canQueue c (canHdr0 hdr0) (canHdr1 (bit hdr0 31) hdr1) data

/-- CAN_FRAME_RX (R493): a frame of another node, received correctly, is acknowledged in NORMAL. A channel in OFF, in
LOOPBACK or in bus-off receives nothing; in LISTEN the error counters do not move. With it the bus is free again (R496). -/
def canFrameRx (c : Fin 2) (hdr0 hdr1 : Word) (data : Bytes) (s : State) : State :=
  let m := s.canMode c
  if m = 0 ∨ m = 3 ∨ s.canErr c = 2 ∨ !s.domainUp 8 then s
  else
    let s := s.canReceive c hdr0 hdr1 data
    let s := if m = 1 ∧ ¬ (bit hdr0 31 && !bit (s.reg (Reg.canCtrl c)) 2) then
        let r := s.canRecDown (s.fld (Reg.canErr c) 23 16)
        (r.1.canCounters c (r.1.fld (Reg.canErr c) 8 0) r.2).send (.canAck c)
      else s
    s.canFree c

/-- CAN_RX_POP (R494). -/
def canRxPop (c : Fin 2) (s : State) : State :=
  s.onPage (pCAN c) fun s =>
    if bit (s.reg (Reg.canRxSel c)) 0 then s.modCan c (fun x => { x with q1 := x.q1.drop 1 })
    else s.modCan c (fun x => { x with q0 := x.q0.drop 1 })

/-- CAN_TX_REQ (R495, R496): the named buffers become PENDING; one that is PENDING logs 0x0005. While a frame is on the bus
they wait for it to end. -/
def canTxReq (c : Fin 2) (req : CanReq) (s : State) : State :=
  s.onPage (pCAN c) fun s =>
    let busy := req.busy && s.canMode c == 1 && s.can[c].onBus.isNone
    let s := if busy then s.modCan c (fun x => { x with foreign := true }) else s
    ((List.range 3).foldl (fun s b =>
      if req.bufs.getLsbD b then
        if s.txState c b = 1 then s.refuse (Reg.canTxCmd c) else s.setTx c b 1
      else s) s).canStart c

/-- CAN_TX_ABORT (R498, R500): a buffer whose frame is on the bus is decided when the frame ends. -/
def canTxAbort (c : Fin 2) (bufs : BitVec 3) (s : State) : State :=
  s.onPage (pCAN c) fun s =>
    (List.range 3).foldl (fun s b =>
      if bufs.getLsbD b && s.txState c b == 1 then
        if s.can[c].onBus = some b then s.modCan c (fun x => { x with abort := true }) else s.txEnds c b 3
      else s) s

/-- The frame of buffer `b` as it stands on the bus: its two words and its data bytes; a remote frame has none (R488,
R491). -/
def State.canSent (s : State) (c : Fin 2) (b : Nat) : Word × Word × Bytes :=
  let fd := bit (s.txHdr c b 0) 31 && bit (s.reg (Reg.canCtrl c)) 2
  let h0 := canHdr0 (if fd then s.txHdr c b 0 else s.txHdr c b 0 &&& 0x7FFFFFFF)
  let h1 := s.txHdr c b 1
  (h0, (h1 &&& if fd then 0x1F else 0x0F) ||| (if fd && s.canErr c == 1 then 0x20 else 0),
    if bit h0 30 then [] else s.txData c b (canLen fd (bits h1 3 0)))

/-- The frame of buffer `b` has been sent without error (R496, R500, R502). -/
def State.canDone (s : State) (c : Fin 2) (b : Nat) : State :=
  let f := s.canSent c b
  let s := ((s.setTx c b 2).raise (pCAN c) 2).modCan c (fun x => { x with first := none })
  let s := (s.incWrap (Reg.canCnt c) 15 0).canAcked c
  let s := s.canCounters c (s.fld (Reg.canErr c) 8 0 - 1) (s.fld (Reg.canErr c) 23 16)
  if s.canMode c = 3 then s.canReceive c f.1 f.2.1 f.2.2 else s.send (.can c f.1 f.2.1 f.2.2)

/-- TEC after an error of code `lec` in a frame sent (ISO 11898-1): 8 more, but for an acknowledgement error of an
error-passive channel and a stuff error that the standard excepts. -/
def State.canTecUp (s : State) (c : Fin 2) (lec : BitVec 4) (exempt : Bool) : Nat :=
  let tec := s.fld (Reg.canErr c) 8 0
  if (lec = 3 ∧ s.canErr c = 1) ∨ (lec = 1 ∧ exempt) then tec else tec + 8

/-- The frame of buffer `b` ends in an error (R499, R500, R502). -/
def State.canFailed (s : State) (c : Fin 2) (b : Nat) (aborted : Bool) (lec : BitVec 4) (acked exempt : Bool) : State :=
  let t := s.canTecUp c lec exempt
  let s := s.setFld (Reg.canErr c) 31 28 lec.toNat
  let s := if lec = 3 then s.canNoAck c b else if acked then s.canAcked c else s
  let s := (s.canUnsent c b aborted).canCounters c t (s.fld (Reg.canErr c) 23 16)
  if s.canErr c = 2 then s.modCan c (fun x => { x with first := if s.txState c b = 1 then some b else none }) else s

/-- CAN_FRAME_TX_END: the frame on the bus ends (R496 to R500, R502). Where it lost arbitration, the frame that won is on
the bus until it ends; otherwise the next start of frame follows. -/
def canFrameTxEnd (c : Fin 2) (res : CanEnd) (s : State) : State :=
  match s.can[c].onBus with
  | none => s
  | some b =>
    let aborted := s.can[c].abort
    let s := s.modCan c (fun x => { x with onBus := none, abort := false, released := false })
    match res with
    | .ok => (s.canDone c b).canStart c
    | .lost => (s.canUnsent c b aborted).modCan c (fun x => { x with foreign := true })
    | .err lec acked exempt => (s.canFailed c b aborted lec acked exempt).canStart c

/-- RECOVER (R499): accepted only in bus-off. -/
def canCmdRecover (c : Fin 2) (s : State) : State :=
  s.onPage (pCAN c) fun s =>
    if s.canErr c = 2 then s.setFld (Reg.canErr c) 26 26 1 else s.refuse (Reg.canCmd c)

/-- CAN_RECOVERY_DONE (R499, R500). -/
def canRecoveryDone (c : Fin 2) (s : State) : State :=
  if s.canErr c = 2 ∧ bit (s.reg (Reg.canErr c)) 26 then
    (s.setReg (Reg.canErr c) (s.reg (Reg.canErr c) &&& 0xF0000000)).canFree c
  else s

/-- CAN_RECOVERY_DELAY (R501): the steward issues RECOVER once its recovery delay has passed in bus-off; a delay of 0
never does. -/
def canRecoveryDelay (c : Fin 2) (s : State) : State :=
  let d := s.can[c].delayMs
  if s.canErr c = 2 ∧ ¬ bit (s.reg (Reg.canErr c)) 26 ∧ d ≠ 0 ∧ s.stewardUp then
    canCmdRecover c (s.waitOp (s.can[c].offAt + d * 1000000))
  else s

/-- The channel is retired (R503); `cause` is 1 for a dominant timeout, 2 for the internal check. -/
def State.canRetire (s : State) (c : Fin 2) (cause : Nat) : State :=
  let s := s.setFld (Reg.canLife c) 16 16 1
  let s := (s.setFld (Reg.canCtrl c) 1 0 0).canOff c
  ((s.raise (pCAN c) 7).logErr (pCAN c) 0x0102 (BitVec.ofNat 32 cause)).recErr (pCAN c) 0x0102
    (BitVec.ofNat 32 cause) .normal []

/-- CAN_DOMINANT_TIMEOUT (R489, R503): not while the transceiver is held recessive (R490). The bus driver is released
until TXD next goes recessive, at the latest with the next frame. -/
def canDominantTimeout (c : Fin 2) (s : State) : State :=
  if s.canMode c = 0 ∨ s.canMode c = 3 ∨ !s.domainUp 8 then s else
  let s := (s.modCan c (fun x => { x with released := true })).send (.canRelease c)
  let t := s.opTime.toNat
  let recent := s.can[c].hist.filter (fun h => decide (t ≤ h + 3600000))
  let s := s.modCan c (fun x => { x with hist := t :: recent })
  if recent.isEmpty || s.canRetired c then s else s.canRetire c 1

/-- CAN_BUS_ERROR (R488): an error while receiving raises REC by 1, by 8 where the receiver finds a
dominant bit after its error flag, and sets LEC. -/
def canBusError (c : Fin 2) (lec : BitVec 4) (dominant : Bool) (s : State) : State :=
  if s.canMode c = 0 ∨ s.canErr c = 2 then s
  else
    let s := s.setFld (Reg.canErr c) 31 28 lec.toNat
    let s := if s.canMode c = 2 then s
      else s.canCounters c (s.fld (Reg.canErr c) 8 0) (s.fld (Reg.canErr c) 23 16 + if dominant then 8 else 1)
    s.canFree c

/-- The bit timing meets the conditions of R490; `fd` is FD_EN. -/
def canTimingOk (nbt dbt : Word) (fd : Bool) : Bool :=
  let n := bits nbt 15 8 + bits nbt 22 16 + 3
  let nq := (bits nbt 7 0 + 1) * n
  let d := bits dbt 12 8 + bits dbt 19 16 + 3
  let dq := (bits dbt 4 0 + 1) * d
  decide (8 ≤ n ∧ 125 ≤ nq ∧ bits nbt 29 23 ≤ bits nbt 22 16)
    && (!fd || decide (5 ≤ d ∧ 25 ≤ dq ∧ dq ≤ nq ∧ bits dbt 23 20 ≤ bits dbt 19 16))

/-- CAN_CTRL_WRITE (R490, R503): `check` is the outcome of the internal check at a change from OFF. -/
def canCtrlWrite (c : Fin 2) (value : Word) (check : Bool) (s : State) : State :=
  s.onPage (pCAN c) fun s =>
  let was := s.canMode c
  let mode := bits value 1 0
  let s := s.setReg (Reg.canCtrl c) (withBits (value &&& 0xF) 1 0 was)
  if s.canRetired c then s.refuse (Reg.canCtrl c)
  else if was = 0 ∧ mode ≠ 0 then
    if !canTimingOk (s.reg (Reg.canNbt c)) (s.reg (Reg.canDbt c)) (bit value 2) then
      s.logErr (pCAN c) 0x0103 (BitVec.ofNat 32 mode)
    else if !check then s.canRetire c 2
    else (s.setFld (Reg.canCtrl c) 1 0 mode).canStart c
  else
    let s := s.setFld (Reg.canCtrl c) 1 0 mode
    if mode = was then s else (s.canOff c).canStart c

/-! ### The commands -/

/-- CAN_CTRL_WRITE (R490). -/
def execCanCtrlWrite (ch : Fin 2) (value : Word) (check : Bool) (s : State) : Host.Outcome State Fault Refusal :=
  .next (canCtrlWrite ch value check s)
/-- CAN_FRAME_RX (R493). -/
def execCanFrameRx (ch : Fin 2) (hdr0 hdr1 : Word) (data : Bytes) (s : State) : Host.Outcome State Fault Refusal :=
  .next (canFrameRx ch hdr0 hdr1 data s)
/-- CAN_RX_POP (R494). -/
def execCanRxPop (ch : Fin 2) (s : State) : Host.Outcome State Fault Refusal := .next (canRxPop ch s)
/-- CAN_TX_REQ (R495). -/
def execCanTxReq (ch : Fin 2) (req : CanReq) (s : State) : Host.Outcome State Fault Refusal := .next (canTxReq ch req s)
/-- CAN_TX_ABORT (R498). -/
def execCanTxAbort (ch : Fin 2) (bufs : BitVec 3) (s : State) : Host.Outcome State Fault Refusal := .next (canTxAbort ch bufs s)
/-- CAN_FRAME_TX_END (R496). -/
def execCanFrameTxEnd (ch : Fin 2) (res : CanEnd) (s : State) : Host.Outcome State Fault Refusal := .next (canFrameTxEnd ch res s)
/-- CAN_CMD_RECOVER (R499). -/
def execCanCmdRecover (ch : Fin 2) (s : State) : Host.Outcome State Fault Refusal := .next (canCmdRecover ch s)
/-- CAN_RECOVERY_DONE (R499). -/
def execCanRecoveryDone (ch : Fin 2) (s : State) : Host.Outcome State Fault Refusal := .next (canRecoveryDone ch s)
/-- CAN_DOMINANT_TIMEOUT (R489). -/
def execCanDominantTimeout (ch : Fin 2) (s : State) : Host.Outcome State Fault Refusal := .next (canDominantTimeout ch s)
/-- CAN_RECOVERY_DELAY (R501). -/
def execCanRecoveryDelay (ch : Fin 2) (s : State) : Host.Outcome State Fault Refusal := .next (canRecoveryDelay ch s)
/-- CAN_BUS_ERROR (R488). -/
def execCanBusError (ch : Fin 2) (lec : BitVec 4) (dominant : Bool) (s : State) : Host.Outcome State Fault Refusal :=
  .next (canBusError ch lec dominant s)

end Sys2Proof.Machine
end

