-- ==== Sys2Proof/Machine/Tracks.lean ====
section
/-! DEFINITION. The tracks: which entries are active and enabled, how an entry is issued at its pip, how it
slips (R72 to R76, R114 to R116). -/

namespace Sys2Proof.Machine

/-- The four tracks. -/
inductive Track where
  | n | l | m | f
  deriving DecidableEq, Repr

/-- The number of a track in BSQ_SLIP and PG_ERR_INFO (R141). -/
def Track.code : Track → Nat
  | .n => 0 | .l => 1 | .m => 2 | .f => 3

/-- The section of a track in the active table set. -/
def State.track (s : State) (k : Track) : List Entry :=
  match s.boards.act with
  | none => []
  | some t => match k with
    | .n => t.trackN | .l => t.trackL | .m => t.trackM | .f => t.trackF

/-- The issue buffer of a track. -/
def Walk.buf (w : Walk) : Track → List Nat
  | .n => w.n | .l => w.l | .m => w.m | .f => w.f

/-- The issue buffer of a track without entry `i`. -/
def Walk.drop (w : Walk) (k : Track) (i : Nat) : Walk :=
  match k with
  | .n => { w with n := w.n.erase i }
  | .l => { w with l := w.l.erase i }
  | .m => { w with m := w.m.erase i }
  | .f => { w with f := w.f.erase i, opens := w.opens.erase i }

/-- An entry is active in the round with RSN `r` (R73). -/
def Entry.active (e : Entry) (r : Word) : Bool := r.toNat % 2 ^ e.rexp == e.phase

/-- The indices of the active entries of a section, in section order (R114). -/
def activeIdx (l : List Entry) (r : Word) : List Nat :=
  (List.range l.length).filter (fun i => match l[i]? with | some e => e.active r | none => false)

/-- What the walkers place in the issue buffers for the round with RSN `r` (R114). -/
def State.walkOf (s : State) (r : Word) : Walk :=
  let f := activeIdx (s.track .f) r
  ⟨r, activeIdx (s.track .n) r, activeIdx (s.track .l) r, activeIdx (s.track .m) r, f,
    f.filter (fun i => ((s.track .f)[i]?).any (fun e => e.etype == 5 && e.fevt == 1))⟩

/-- The condition of an entry holds for the applied mask (R74). -/
def Entry.condHolds (e : Entry) (mask : BitVec 16) : Bool :=
  match e.cond with
  | 0 => true
  | 1 => mask.getLsbD e.ca
  | 2 => mask.getLsbD e.ca && mask.getLsbD e.cb
  | 3 => mask.getLsbD e.ca && !mask.getLsbD e.cb
  | 4 => !mask.getLsbD e.ca
  | _ => false

/-- The sequencer runs in landing-only mode (R334). -/
def State.landingOnly (s : State) : Bool := s.state == .joining

/-- Landing-only mode issues this entry (R334). -/
def Entry.landing (k : Track) (e : Entry) : Bool :=
  match k with
  | .n => true
  | .l => false
  | .m => e.mkind == 2
  | .f => e.fevt == 1 || e.fevt == 2 || e.fevt == 5 || e.fevt == 6 || e.fevt == 8

/-- An active entry is issued in the present round: its condition holds, a PLY's own lane is not out
(R74), and the mode of R334 admits it; a joining module lands nothing before the turn boundary after START (R360). -/
def State.enabled (s : State) (k : Track) (e : Entry) : Bool :=
  e.condHolds s.seqr.applied && !(k == .l && e.etype == 1 && s.seqr.applied.getLsbD e.lane.val)
    && (!s.landingOnly || (e.landing k && (k != .m || s.pair.joinLand == 2)))

/-- The START of an entry of the round in progress, in global time. -/
def State.startOf (s : State) (e : Entry) : BitVec 64 :=
  s.time.roundStart + BitVec.ofNat 64 (e.start * 50)

/-- RSN of the round in progress. -/
def State.roundRsn (s : State) : Word := s.time.rsnAt s.time.roundStart

/-- The channel mask of an FIO_SAMPLE or FIO_REFRESH entry (R86). -/
def Entry.channels (e : Entry) : BitVec 16 := e.w2.extractLsb' 0 16

/-- The module takes its latches from the leader (R345). -/
def State.takesLatches (s : State) : Bool := s.state == .follower || s.state == .joining

/-- The latches (newest first) without those whose channels all stand in newer usable ones; `seen` collects the latter. -/
def liveLatches (now : BitVec 64) (seen : BitVec 16) : List Latch → List Latch
  | [] => []
  | l :: r =>
    let r := liveLatches now (if later64 l.usable now then seen else seen ||| l.chans) r
    if l.chans &&& ~~~seen = 0 then r else l :: r

/-- A latch is kept: for each channel at least the most recent usable one stays (R258, R345). -/
def State.keepLatch (s : State) (l : Latch) : State :=
  s.modPair fun p => { p with
    latches := liveLatches s.now 0 (l :: p.latches)
    expect := p.expect.filter (· != (l.entry, l.usable)) }

/-- The present BCLK edge lies after the first at which global time has reached `t`. -/
def State.pastEdge (s : State) (t : BitVec 64) : Bool := later64 s.now t && !s.time.atEdge t

/-- The instant lies in a later pip than `t`. -/
def State.pastPip (s : State) (t : BitVec 64) : Bool := later64 s.now (t + 49)

/-- The BCLK edges since the first at which global time reached `t`. -/
def State.edgesSince (s : State) (t : BitVec 64) : Nat := (-(s.time.ahead t)).toNat / s.time.baseRate.toNat

/-- The BCLK cycle, counted from pip 4,936 of the round before, in which a walker that stands in cycle `c` with `k` entries
examined in it examines entry `i` of the rest of a section: 4 a cycle, in section order, none whose START lies more
than 64 pips ahead (R114). -/
def walkCycle (c k : Nat) : List Entry → Nat → Nat
  | [], _ => c
  | e :: r, i =>
    let next : Nat × Nat := if c < 20 * e.start then (20 * e.start, 1) else if k < 4 then (c, k + 1) else (c + 1, 1)
    match i with
    | 0 => next.1
    | i + 1 => walkCycle next.1 next.2 r i

/-- By how many BCLK cycles a walker delivers entry `i` of its section after the last cycle before START; 0: in time
(R116). -/
def walkLag (l : List Entry) (i start : Nat) : Nat := walkCycle 0 0 l i + 1 - 20 * (start + 64)

/-- The index as PG_ERR_INFO and the slip record give it (R141). -/
def trackInfo (k : Track) (i : Nat) : Word := BitVec.ofNat 32 (i + k.code * 2 ^ 30)

/-- An entry has slipped (R116). -/
def State.slip (s : State) (k : Track) (i : Nat) : State :=
  let s := (s.incSat Reg.bsqSlip 15 0).setFld Reg.bsqSlip 17 16 k.code
  let s := (s.raise pBSQ 6).logErr pBSQ 0x0101 (trackInfo k i)
  { s with seqr := { s.seqr with log := { s.seqr.log with slip := tinc s.seqr.log.slip k.code } } }.evidence

/-- The entry is a background window: an IDLE entry or a skipped RERUN entry (R128). -/
def State.isWindow (s : State) (e : Entry) : Bool :=
  e.etype == 1 && (e.kind == 5 || (e.kind == 3 && !s.seqr.rerun.getLsbD e.task.val))

/-- The entry's KIND executes in the present round (R78): CONVERT in the round of the switch alone. -/
def State.kindRuns (s : State) (e : Entry) : Bool := e.kind != 4 || s.seqr.switched == some s.roundRsn

/-- An entry in an issue buffer that the sequencer carries out in this round: it is enabled, and a PLY entry is no
window and of a kind that runs. -/
def State.carriesOut (s : State) (k : Track) (e : Entry) : Bool :=
  s.enabled k e && !(k == .l && e.etype == 1 && (s.isWindow e || !s.kindRuns e))

/-- An entry of equal START that stands before entry `i` in its section still waits: it is taken first (R76). -/
def State.waitsBefore (s : State) (k : Track) (w : Walk) (i : Nat) (e : Entry) : Bool :=
  (w.buf k).any (fun j => decide (j < i) && (match (s.track k)[j]? with
    | some x => x.start == e.start && s.carriesOut k x
    | none => false))

/-- Time passes to the edge at which entry `i` of a track is issued (R115, R116): the edge of pip START, or the first
BCLK cycle in which the walker delivers it; an F entry waits for the cycle after that of the F entry before it. -/
def State.toIssue (s : State) (k : Track) (i : Nat) (e : Entry) : State :=
  let s := s.advanceTo (s.startOf e)
  let s := s.edges (walkLag (s.track k) i e.start - s.edgesSince (s.startOf e))
  if k = .f ∧ s.seqr.fDone = some s.time.gt then s.edges 1 else s

/-- Whether entry `i` of a track, issued now, has slipped (R116): the walker has delivered it late, or it is an L, M or N
entry after the edge of pip START, an F entry after pip START. -/
def State.slipped (s : State) (k : Track) (i : Nat) (e : Entry) : Bool :=
  decide (0 < walkLag (s.track k) i e.start)
    || (if k = .f then s.pastPip (s.startOf e) else s.pastEdge (s.startOf e))

/-! ### The opening of gambit contexts (R202) -/

/-- The context of task `t` opens for the lanes of `mask` (R202). A context that is still open stays as it
is (R383). -/
def State.openCtx (s : State) (t : Fin 16) (mask : Nat) : State :=
  if s.gmb[t].isOpen then s.modCtx t (fun c => { c with overdue := true })
  else
    let s := s.modCtx t (fun _ => { GmbCtx.reset with
      isOpen := true, forced := bit (s.reg Reg.gmbCtrl) t.val })
    over16 (fun s n =>
      if mask.testBit n.val && s.lanes[n].state == .running && s.lanes[n].owner.isNone then
        s.modLane n (fun l => { l with owner := some t.val, readSet := [] })
      else s) s

/-- The COMMIT entry of task `k` that is active in the period that begins with TASK_START entry `e` (R82, R202). -/
def State.commitOf (s : State) (e : Entry) (perExp : Nat) : Option Entry :=
  let r := s.roundRsn
  (List.range (2 ^ perExp)).findSome? (fun d => (s.track .l).find? (fun c =>
    c.etype == 2 && c.task == e.task && c.active (r + BitVec.ofNat 32 d) && (decide (0 < d) || decide (e.start ≤ c.start))))

/-- The gambit context of the task opens for the lanes of its COMMIT entry (R202); none opens in landing-only mode. -/
def State.openTask (s : State) (e : Entry) : State :=
  if s.landingOnly then s
  else
    match s.taskRec e.task with
    | none => s
    | some k =>
      match s.commitOf e k.perExp with
      | some c => s.openCtx e.task c.arg
      | none => s

/-- The TASK_START entry `i` has come up: the edge of its pip has been reached and the walker has delivered it (R116,
R202). -/
def State.startsNow (s : State) (i : Nat) (e : Entry) : Bool :=
  !later64 (s.startOf e) s.now && decide (walkLag (s.track .f) i e.start ≤ s.edgesSince (s.startOf e))

/-- The contexts whose TASK_START has come up open, before any entry is issued at this edge and without waiting for the
order of the F track (R202). -/
def State.openDue (s : State) : State :=
  match s.seqr.walk with
  | none => s
  | some w => w.opens.foldl (fun s i => match (s.track .f)[i]? with
      | some e => if s.startsNow i e then
          (s.modSeqr fun q => { q with walk := q.walk.map (fun w => { w with opens := w.opens.erase i }) }).openTask e
        else s
      | none => s) s

/-- The issue of entry `i` of a track at its START: the state at that edge, the entry, and whether it has
slipped; none when the walkers hold no such entry, when one of equal START goes first, or when the sequencer issues
none. An entry that is not enabled leaves the buffer without effect. -/
def State.issueEntry (s : State) (k : Track) (i : Nat) : Option (State × Entry × Bool) :=
  if s.seqr.state ≠ .run ∨ s.time.hold.isSome then none
  else
    match s.seqr.walk, (s.track k)[i]? with
    | some w, some e =>
      if (w.buf k).contains i && !s.waitsBefore k w i e then
        let s := (s.toIssue k i e).openDue
        let late := s.slipped k i e
        let s := { s with seqr := { s.seqr with
          walk := s.seqr.walk.map (fun w => w.drop k i)
          fDone := if k = .f ∧ s.enabled k e then some s.time.gt else s.seqr.fDone } }
        some (if late && s.enabled k e then s.slip k i else s, e, late)
      else none
    | _, _ => none

/-- The issue of an entry that R74 enables; `f` gets the state, the entry and whether it slipped. -/
def State.onEntry (s : State) (k : Track) (i : Nat) (f : State → Entry → Bool → State) : State :=
  match s.issueEntry k i with
  | none => s
  | some (t, e, late) => if t.enabled k e then f t e late else t

/-- The issue of a FIELD entry with the given FEVT (R86, R126). -/
def State.onField (s : State) (i fevt : Nat) (f : State → Entry → State) : State :=
  match (s.track .f)[i]? with
  | some e => if e.etype = 5 ∧ e.fevt = fevt then s.onEntry .f i (fun t e _ => f t e) else s
  | none => s

end Sys2Proof.Machine
end

