-- ==== Sys2Proof/Machine/Board.lean ====
section
/-! DEFINITION. A board's bytes read into its tables (R64 to R101), and where in the turn its entries,
events and slots fall. The checks of the loader are in Machine/BoardCheck.lean. -/

namespace Sys2Proof.Machine

/-! ### Header, directory, sections (R64 to R69) -/

/-- The header of a board (R65). -/
def parseHeader (l : Bytes) : BoardHeader :=
  { magic := leAt l 0x00 4, fmtVer := leAt l 0x04 2, hdrLen := leAt l 0x06 2, boardLen := leAt l 0x08 4
    sigOfs := leAt l 0x0C 4, serial := BitVec.ofNat 32 (leAt l 0x10 4), pairDomain := leAt l 0x14 1
    laneCount := leAt l 0x15 1, taskCount := leAt l 0x16 1, syncCount := leAt l 0x17 1
    turnExp := leAt l 0x18 1, flags := leAt l 0x19 1, sectCount := leAt l 0x1A 2, instLen := leAt l 0x1C 4
    retLen := leAt l 0x20 4, keyId := leAt l 0x24 4, buildTime := BitVec.ofNat 64 (leAt l 0x28 8)
    prevDigest := slice l 0x30 48 }

/-- MIG of the header (R65). -/
abbrev BoardHeader.mig (h : BoardHeader) : Bool := h.flags % 2 == 1

/-- One directory entry (R68). -/
def parseDirEntry (l : Bytes) : DirEntry :=
  { type := leAt l 0 2, recSz := leAt l 2 2, offset := leAt l 4 4, count := leAt l 8 4, rsv := leAt l 12 4 }

/-- The section directory (R64, R68). -/
def parseDir (l : Bytes) : List DirEntry :=
  (cut 16 (leAt l 0x1A 2) (slice l 0x100 (16 * leAt l 0x1A 2))).map parseDirEntry

/-- The next multiple of `k` from `n` on. -/
def roundUp (n k : Nat) : Nat := (n + k - 1) / k * k

/-- `n / k`, rounded up. -/
def ceilDiv (n k : Nat) : Nat := (n + k - 1) / k

/-- Where `n` load records that begin at `ofs` end (R100). -/
def loadEnd (l : Bytes) (ofs : Nat) : Nat → Nat
  | 0 => ofs
  | n + 1 => loadEnd l (ofs + 16 + roundUp (leAt l (ofs + 8) 4) 16) n

/-- Where the section of a directory entry ends; REC_SIZE 0 holds load records (R69). -/
def DirEntry.stop (l : Bytes) (d : DirEntry) : Nat :=
  if d.recSz = 0 then loadEnd l d.offset d.count else d.offset + d.recSz * d.count

/-- The directory entry of a section type. -/
def dirOf (dir : List DirEntry) (ty : Nat) : Option DirEntry := dir.find? (fun d => d.type == ty)

/-- The records of a section with records of one size. -/
def sectionOf (l : Bytes) (ty : Nat) : List Bytes :=
  match dirOf (parseDir l) ty with
  | some d => cut d.recSz d.count (slice l d.offset (d.recSz * d.count))
  | none => []

/-- `n` load records from `ofs` on, header and data and padding of each. -/
def loadsFrom (l : Bytes) (ofs : Nat) : Nat → List (Bytes × Bytes × Bytes)
  | 0 => []
  | n + 1 =>
    let k := leAt l (ofs + 8) 4
    let e := roundUp k 16
    (slice l ofs 16, slice l (ofs + 16) k, slice l (ofs + 16 + k) (e - k)) :: loadsFrom l (ofs + 16 + e) n

/-- The load records of a section of type CODE or INIT. -/
def loadSection (l : Bytes) (ty : Nat) : List (Bytes × Bytes × Bytes) :=
  match dirOf (parseDir l) ty with
  | some d => loadsFrom l d.offset d.count
  | none => []

/-! ### Records (R70 to R101) -/

/-- A task record (R70). -/
def parseTask (l : Bytes) : TaskRec :=
  { id := leAt l 0 1, perExp := leAt l 1 1, flags := leAt l 2 1, phase := leAt l 4 2, inBase := leAt l 8 4
    inLen := leAt l 12 4, outBase := leAt l 16 4, outLen := leAt l 20 4, stageBase := leAt l 24 4 }

/-- A track entry (R72). -/
def parseEntry (l : Bytes) : Entry :=
  ⟨bytesWord (slice l 0 4), bytesWord (slice l 4 4), bytesWord (slice l 8 4), bytesWord (slice l 12 4)⟩

/-- A slot record (R89). -/
def parseSlot (l : Bytes) : SlotRec :=
  { slot := leAt l 0 2, len := leAt l 2 2, node := leAt l 4 4, skind := leAt l 8 1, task := leAt l 9 1
    port := leAt l 10 1, payload := leAt l 12 2, dest := leAt l 14 2 }

/-- A guardian record (R93). -/
def parseGuard (l : Bytes) : GuardRec :=
  { start := leAt l 0 2, len := leAt l 2 2, slot := leAt l 4 2, owner := leAt l 6 1, port := leAt l 7 1
    rexp := leAt l 8 1, phase := leAt l 10 2 }

/-- An I/O map record (R95). -/
def parseIomap (l : Bytes) : IomapRec :=
  { slot := leAt l 0 2, pofs := leAt l 2 2, words := leAt l 4 2, imemOfs := leAt l 8 4 }

/-- A quality rule (R98). -/
def parseQual (l : Bytes) : QualRec :=
  { ofs := leAt l 0 4, words := leAt l 4 4, event := leAt l 8 1, qual := leAt l 9 1, action := leAt l 10 1
    subst := bytesWord (slice l 12 4) }

/-- A transfer record (R99). -/
def parseXfer (l : Bytes) : XferRec :=
  { src := leAt l 0 5, dst := leAt l 8 5, len := leAt l 16 4 }

/-- A sync node record (R94). -/
def parseSync (l : Bytes) : SyncRec :=
  { node := leAt l 0 4, slot := leAt l 4 2, csidx := leAt l 6 1, dlyA0 := leAt l 8 2, dlyB0 := leAt l 10 2
    dlyA1 := leAt l 12 2, dlyB1 := leAt l 14 2 }

/-- A load record (R100). -/
def parseLoad (l : Bytes × Bytes × Bytes) : LoadRec :=
  { dest := leAt l.1 0 4, lanes := leAt l.1 4 2, data := l.2.1 }

/-- A migration record (R101). -/
def parseMigr (l : Bytes) : MigrRec :=
  { newOfs := leAt l 0 4, oldOfs := leAt l 4 4, len := leAt l 8 4, action := leAt l 12 1, conv := leAt l 14 2 }

/-- The tables of a board (R64 to R101); the identity is that of R66. -/
def parseBoard (l : Bytes) : Tables :=
  { identity := sha384 (l.take (leAt l 0x0C 4)), hdr := parseHeader l
    tasks := (sectionOf l 0x01).map parseTask
    trackN := (sectionOf l 0x02).map parseEntry, trackL := (sectionOf l 0x03).map parseEntry
    trackM := (sectionOf l 0x04).map parseEntry, trackF := (sectionOf l 0x05).map parseEntry
    slots := (sectionOf l 0x06).map parseSlot, guards := (sectionOf l 0x07).map parseGuard
    iomap := (sectionOf l 0x08).map parseIomap, quals := (sectionOf l 0x09).map parseQual
    xfers := (sectionOf l 0x0A).map parseXfer, syncs := (sectionOf l 0x0B).map parseSync
    code := (loadSection l 0x0C).map parseLoad, init := (loadSection l 0x0D).map parseLoad
    migr := (sectionOf l 0x0E).map parseMigr }

/-! ### Tables looked up -/

/-- The slot record of a slot index (R89). -/
def Tables.slotRec (t : Tables) (k : Nat) : Option SlotRec := t.slots.find? (fun r => r.slot == k)

/-- The rounds of the turn (R41, R65). -/
def Tables.turn (t : Tables) : Nat := 2 ^ t.hdr.turnExp

/-- GAMBIT of a task record (R70). -/
abbrev TaskRec.gambit (r : TaskRec) : Bool := r.flags % 2 == 1

/-- The task record of a task. -/
def Tables.taskRec (t : Tables) (k : Nat) : Option TaskRec := t.tasks[k]?

/-- The I/O map records of a slot, in section order (R95). -/
def Tables.iomapOf (t : Tables) (slot : Nat) : List IomapRec := t.iomap.filter (fun r => r.slot == slot)

/-- The bytes that the I/O map records of a slot move (R84). -/
def Tables.iomapBytes (t : Tables) (slot : Nat) : Nat := ((t.iomapOf slot).map (fun r => 4 * r.words)).sum

/-- The sender of a slot is a partner of this pair: the direction is down (R90). -/
def Tables.isDown (t : Tables) (r : SlotRec) : Bool :=
  r.skind == 5 || (r.node == t.hdr.pairDomain * 4096) || (r.node == t.hdr.pairDomain * 4096 + 1)

/-- The owner of the guardian record that a slot's sender asks for (R93): Partner A, Partner B, the leader. -/
def Tables.ownerOf (t : Tables) (r : SlotRec) : Option Nat :=
  if r.skind = 5 then some 2
  else if r.node = t.hdr.pairDomain * 4096 then some 0
  else if r.node = t.hdr.pairDomain * 4096 + 1 then some 1 else none

/-- The payload words n of a frame that this module sends (R298). -/
def valueWords (payload : Nat) : Nat := 2 * payload / 9

/-- A PLY entry of a kind that R88 calls work: NOMINAL, GAMBIT, RERUN, CONVERT. -/
abbrev Entry.isWork (e : Entry) : Bool :=
  e.etype == 1 && (e.kind == 0 || e.kind == 2 || e.kind == 3 || e.kind == 4)

/-- A cover entry (R77). -/
abbrev Entry.isCover (e : Entry) : Bool := e.cond == 1 || e.cond == 2 || e.cond == 3

/-- The entries of a section that are active in round `r` of the turn, with their indices (R73). -/
def activeIn (l : List Entry) (r : Nat) : List (Entry × Nat) :=
  l.zipIdx.filter (fun x => r % 2 ^ x.1.rexp == x.1.phase)

/-- The lane conditions with one or two lanes out (R88), as masks. -/
def lanesOut : List Nat :=
  (List.range 16).map (fun i => 2 ^ i) ++
    (List.range 16).flatMap (fun i => (List.range i).map (fun j => 2 ^ i + 2 ^ j))

/-- All lane conditions of R102. -/
def laneConditions : List Nat := 0 :: lanesOut

/-! ### The instance store and the regions (R223, R235, R268) -/

/-- Physical base of an instance store area (R222). -/
def instBase (area : Nat) : Nat := 0x100000000 + area * 0x80000000

/-- The physical address that a board's address names while the running board owns `area` (R223). -/
def boardPhys (area a : Nat) : Nat :=
  if 0x100000000 ≤ a ∧ a < 0x180000000 then a + area * 0x80000000 else a

/-- E_L of lane `n` (R235). -/
def Tables.dtcmEnd (t : Tables) (n : Nat) : Nat :=
  let plies := (t.trackL.filter (fun e => e.isWork && e.lane.val == n)).map (fun e => 0x00401000 + e.frame * 0x1000)
  let code := (t.code.filter (fun r => r.lanes.testBit n && decide (0x00400000 ≤ r.dest))).map
    (fun r => r.dest + r.data.length)
  let mine := fun a => laneBase n + 0x00400000 ≤ a ∧ a < laneBase n + 0x00800000
  let xfer := t.xfers.flatMap (fun x =>
    (if mine x.src then [x.src - laneBase n + x.len] else []) ++
      (if mine x.dst then [x.dst - laneBase n + x.len] else []))
  roundUp ((plies ++ code ++ xfer).foldl max 0x00400000) 64

/-- The tasks with work on lane `n`, ascending (R235). -/
def Tables.tasksOn (t : Tables) (n : Nat) : List Nat :=
  (List.range t.tasks.length).filter (fun k =>
    t.trackL.any (fun e => e.isWork && e.lane.val == n && e.task.val == k))

/-- The tasks with PLY entries of any kind on lane `n` (R236). -/
def Tables.pliesOn (t : Tables) (n : Nat) : List Nat :=
  (List.range 16).filter (fun k =>
    t.trackL.any (fun e => e.etype == 1 && e.lane.val == n && e.task.val == k))

/-- Base, end and attributes (EN, FETCH, LOAD, STORE) of region `r` of lane `n`; an empty range is disabled
(R235). -/
def Tables.region (t : Tables) (n r : Nat) : Nat × Nat × Nat :=
  match r with
  | 0 => (0, 0x00200000, 7)
  | 1 => (0x00200000, 0x00300000, 7)
  | 2 => (0x00400000, t.dtcmEnd n, 13)
  | 3 => (0x10000000, 0x14000000, 5)
  | 12 => (0xF0003000, 0xF0004000, 5)
  | _ =>
    match (t.tasksOn n)[r - 4]? with
    | none => (0, 0, 0)
    | some k =>
      match t.taskRec k with
      | none => (0, 0, 0)
      | some x => (0x10000000 + x.outBase, 0x10000000 + roundUp (x.outBase + x.outLen) 64, 13)

/-- Region `r` of lane `n` is set. -/
def State.setRegion (s : State) (n r : Nat) (g : Nat × Nat × Nat) : State :=
  let b := n + r * 16
  let on := decide (g.1 < g.2.1)
  let s := s.setReg (Reg.bank b Reg.mmuRbase) (BitVec.ofNat 32 (if on then g.1 else 0))
  let s := s.setReg (Reg.bank b Reg.mmuRlimit) (BitVec.ofNat 32 (if on then g.2.1 - 64 else 0))
  s.setReg (Reg.bank b Reg.mmuRattr) (BitVec.ofNat 32 (if on then g.2.2 else 0))

/-- Regions 0 to 12 of every lane are those derived from the board (R235). -/
def State.deriveRegions (s : State) (t : Tables) : State :=
  over16 (fun s n => (List.range 13).foldl (fun s r => s.setRegion n.val r (t.region n.val r)) s) s

/-- The CODE records are written into the TCMs (R100, R277). -/
def State.loadCode (s : State) (t : Tables) : State :=
  t.code.foldl (fun s r =>
    over16 (fun s n => if r.lanes.testBit n.val then s.writeMem (laneBase n.val + r.dest) r.data else s) s) s

/-- An instance store area of 2 GiB (R223) is zeroed and the INIT records are applied to it (R268, R277). -/
def State.initStore (s : State) (t : Tables) (area : Nat) : State :=
  let b := instBase area
  let s := { s with
    mem := s.mem.clear b 0x80000000
    poison := s.poison.filter (fun a => decide (a < b ∨ b + 0x80000000 ≤ a)) }
  t.init.foldl (fun s r => s.writeMem (b + r.dest) r.data) s

/-- The retained lines whose written mark is set return from MRAM; a line whose MRAM copy is uncorrectable
keeps its INIT value, with one record (R224). -/
def State.restoreRetained (s : State) (t : Tables) (area : Nat) : State :=
  s.retMark.foldl (fun s k =>
    if 64 * k + 64 ≤ t.hdr.retLen then
      let m := mramBase + 64 * k
      if s.poisoned m 64 then s.recErr pIMG 0x0101 (BitVec.ofNat 32 m) .normal []
      else s.writeMem (instBase area + (t.hdr.instLen - t.hdr.retLen) + 64 * k) (s.mem.read m 64)
    else s) s

end Sys2Proof.Machine
end

