-- ==== Sys2Proof/Machine/Dunly.lean ====
section
/-! DEFINITION. The Dunly link: its messages, their sending and the checks on reception (R335 to R338, R344). -/

namespace Sys2Proof.Machine

/-- The Dunly link is up (R336). -/
def State.linkUp (s : State) : Bool := bit (s.reg Reg.dxlState) 0

/-- The partner's lead line is live (R351). -/
def State.partnerLive (s : State) : Bool := bit (s.reg Reg.ilkStat) 2

/-- The partner's state from its last valid health block; 7 unknown (R369). -/
def State.partnerState (s : State) : Nat := if s.pair.partner.isEmpty then 7 else leAt s.pair.partner 4 1

/-- The identity of the active board; 48 zero bytes without one (R66). -/
def State.activeId (s : State) : Bytes := match s.boards.act with | some t => t.identity | none => zeros 48

/-- The identity of the standby board (R66). -/
def State.standbyId (s : State) : Bytes := match s.boards.stb with | some t => t.identity | none => zeros 48

/-- The MAC address of partner `p` on the link (R337). -/
def dunlyMac (p : Nat) : Bytes := [0x02, 0x41, 0x56, 0xDD, 0x00] ++ toBe 1 p

/-- The EtherType and the 16-byte header of a message (R337). -/
def dunlyHeader (kind len : Nat) (rsn seq : Word) (pip : Nat) : Bytes :=
  [0x88, 0xB6, 1] ++ toBe 1 kind ++ toBe 2 len ++ toBe 4 rsn.toNat ++ toBe 4 seq.toNat ++ toBe 2 pip ++ zeros 2

/-- A message is sent on a lane. Only HEALTH is sent while the link is down (R336, R357). SEQ counts the frames
sent before it since the link came up. -/
def State.dunlySend (s : State) (lane : Fin 4) (kind : Nat) (payload : Bytes) : State :=
  if !s.domainUp 3 || !(s.linkUp || kind == 1) then s
  else
    let me := b2n s.isB
    let f := dunlyMac (1 - me) ++ dunlyMac me
      ++ dunlyHeader kind payload.length s.rsn s.pair.seqOut[lane] s.pipInRound ++ payload
    let s := { s with pair := { s.pair with seqOut := s.pair.seqOut.set lane (s.pair.seqOut[lane] + 1) } }
    s.send (.dunly lane.val (f ++ toLe 4 (crcEth f).toNat))

/-- LENGTH is right for the kind (R338): fixed, or in whole units. -/
def dunlyLenOk (kind n : Nat) (payload : Bytes) : Bool :=
  match kind with
  | 1 => n == 256 | 2 => n == 16 | 3 => n == 56 | 4 => n == 8 | 5 => n == 16
  | 6 => decide (16 ≤ n) && n == 16 + 4 * leAt payload 8 4
  | 7 => n == 12 | 8 => n == 8 | 9 => n == 56 | 10 => n == 4 | 11 => n % 4 == 0
  | _ => true

/-- A frame passes the checks of R337: FCS, VERSION, KIND, LENGTH. -/
def dunlyOk (msg : Bytes) : Bool :=
  let n := msg.length - 34
  let body := msg.take (msg.length - 4)
  decide (34 ≤ msg.length) && leAt msg (msg.length - 4) 4 == (crcEth body).toNat
    && beAt msg 12 2 == 0x88B6 && beAt msg 14 1 == 1 && decide (1 ≤ beAt msg 15 1 ∧ beAt msg 15 1 ≤ 12)
    && beAt msg 16 2 == n && decide (n ≤ 9152) && dunlyLenOk (beAt msg 15 1) n (slice msg 30 n)

/-- A frame is discarded (R337, R367). -/
def State.dunlyBad (s : State) : State := (s.incSat Reg.dxlErr 15 0).raise pDXL 3

/-- A gap in SEQ on lanes 1 to 3 counts lost forward frames (R344). -/
def State.seqGap (s : State) (lane : Fin 4) (seq : Word) : State :=
  let lost := (seq - s.pair.seqIn[lane]).toInt
  let s := if lane.val ≠ 0 ∧ 0 < lost then
      let k := s.fld Reg.dxlErr 31 16
      let s := s.setFld Reg.dxlErr 31 16 (min 0xFFFF (k + lost.toNat))
      { s with pair := { s.pair with lostRound := s.pair.lostRound + lost.toNat } }.raise pDXL 2
    else s
  { s with pair := { s.pair with seqIn := s.pair.seqIn.set lane (seq + 1) } }

/-- A message of one kind arrives on a lane (R337): `f` gets the state, the sender's RSN and the payload. -/
def State.dunlyRx (s : State) (lane : Fin 4) (kind : Nat) (msg : Bytes) (f : State → Word → Bytes → State) :
    State :=
  if !s.domainUp 3 then s
  else if !dunlyOk msg then s.dunlyBad
  else if beAt msg 15 1 ≠ kind then s
  else
    let s := s.seqGap lane (BitVec.ofNat 32 (beAt msg 22 4))
    f s (BitVec.ofNat 32 (beAt msg 18 4)) (slice msg 30 (msg.length - 34))

/-! ### Messages built (R338) -/

/-- A CHG message. -/
def State.sendChg (s : State) (op reason : Nat) (sr : Word) (ident : Bytes) : State :=
  s.dunlySend 0 3 (toLe 1 op ++ toLe 1 reason ++ zeros 2 ++ wordBytes sr ++ ident)

/-- A CASTLE message. -/
def State.sendCastle (s : State) (op : Nat) (c : Word) : State :=
  s.dunlySend 0 4 (toLe 1 op ++ zeros 3 ++ wordBytes c)

/-- A JOINC message. -/
def State.sendJoinc (s : State) (op reason : Nat) (r : Word) : State :=
  s.dunlySend 0 9 (toLe 1 op ++ toLe 1 reason ++ zeros 2 ++ wordBytes r ++ s.activeId)

/-- A CHECK message. -/
def State.sendCheck (s : State) (result cause : Nat) (start : Word) : State :=
  s.dunlySend 0 8 (toLe 1 result ++ toLe 1 cause ++ zeros 2 ++ wordBytes start)

end Sys2Proof.Machine
end

