-- ==== Sys2Proof/Machine/Store.lean ====
section
/-! DEFINITION. Reads and writes of physical memory by movers and engines: the redirect of unmigrated lines
(R287), the retained mirror (R224, R543), the units that a running state transfer tracks (R361). -/

namespace Sys2Proof.Machine

/-! ### The running instance store area (R223) -/

/-- Physical base of the instance store of the running board. -/
def State.store (s : State) : Nat := instBase (s.fld Reg.movInst 0 0)

/-- INST_LEN of the active board. -/
def State.instLen (s : State) : Nat := match s.boards.act with | some t => t.hdr.instLen | none => 0

/-- Offset at which the retained range begins. -/
def State.retStart (s : State) : Nat :=
  match s.boards.act with | some t => t.hdr.instLen - t.hdr.retLen | none => 0

/-! ### Migration (R285 to R289) -/

/-- The records whose NEW range becomes unmigrated at the switch. -/
def Migration.moving (m : Migration) : List MigrRec := m.recs.filter (fun r => r.action != 1)

/-- The record whose NEW range covers new-area offset `x`. -/
def Migration.recAt (m : Migration) (x : Nat) : Option MigrRec :=
  m.moving.find? (fun r => decide (r.newOfs ≤ x ∧ x < r.newOfs + r.len))

/-- Line `k` of the new area is unmigrated. -/
def Migration.waits (m : Migration) (k : Nat) : Bool :=
  !m.moved.contains k && m.moving.any (fun r => decide (r.newOfs < 64 * k + 64 ∧ 64 * k < r.newOfs + r.len))

/-- Where a byte at new-area offset `x` stands (R287). -/
def Migration.place (m : Migration) (x : Nat) : Nat :=
  if m.waits (x / 64) then
    match m.recAt x with
    | some r => m.oldBase + r.oldOfs + (x - r.newOfs)
    | none => m.newBase + x
  else m.newBase + x

/-- The 64 bytes of line `k` of the new area as every agent reads them (R287). -/
def State.migrBytes (s : State) (m : Migration) (k : Nat) : Bytes :=
  (List.range 64).map (fun i => s.mem.byte (m.place (64 * k + i)))

/-- Line `k` is migrated: the old line is copied to the new one, as one event (R287). -/
def State.migrateLine (s : State) (k : Nat) : State :=
  match s.migr with
  | none => s
  | some m =>
    if m.waits k then
      let s := s.writeMem (m.newBase + 64 * k) (s.migrBytes m k)
      { s with migr := some { m with moved := sins m.moved k } }
    else s

/-! ### Access by physical address -/

/-- `n` bytes from physical address `a` as any agent reads them. -/
def State.dataRead (s : State) (a n : Nat) : Bytes :=
  match s.migr with
  | none => s.mem.read a n
  | some m => (List.range n).map (fun i =>
      if m.newBase ≤ a + i ∧ a + i < m.newBase + 0x80000000 then s.mem.byte (m.place (a + i - m.newBase))
      else s.mem.byte (a + i))

/-- Some word that a read of `n` bytes at physical address `a` reads is poisoned (R229, R287). -/
def State.dataPoisoned (s : State) (a n : Nat) : Bool :=
  match s.migr with
  | none => s.poisoned a n
  | some m => (List.range n).any (fun i =>
      if m.newBase ≤ a + i ∧ a + i < m.newBase + 0x80000000 then s.poisoned (m.place (a + i - m.newBase)) 1
      else s.poisoned (a + i) 1)

/-- The unmigrated lines that a write of `n` bytes at physical address `a` touches are migrated first. -/
def State.migrateRange (s : State) (a n : Nat) : State :=
  match s.migr with
  | none => s
  | some m =>
    if m.newBase ≤ a ∧ a < m.newBase + 0x80000000 ∧ 0 < n then
      let x := a - m.newBase
      (List.range ((x + n - 1) / 64 - x / 64 + 1)).foldl (fun s i => s.migrateLine (x / 64 + i)) s
    else s

/-! ### Units of a state transfer (R361, R363) -/

/-- The bytes of the IMEM line as an image line unit (R363): values, quality codes, written marks. -/
def State.imageUnit (s : State) (line : Nat) : Bytes :=
  let q := (List.range 16).foldl (fun n i => n + (s.imemQual (64 * line + 4 * i)).toNat * 16 ^ i) 0
  let w := (List.range 16).foldl (fun n i => if s.written.contains (16 * line + i) then n + 2 ^ i else n) 0
  s.mem.read (imemBase + 64 * line) 64 ++ toLe 8 q ++ toLe 2 w ++ zeros 6

/-- The payload of a unit: a page of the instance store or an image line (R361, R363). -/
def State.unitBytes (s : State) (space unit : Nat) : Bytes :=
  if space = 0 then s.dataRead (s.store + 4096 * unit) (min 4096 (s.instLen - 4096 * unit))
  else s.imageUnit unit

/-- A unit is sent in an XFER frame of its own on lane 1 (R338, R363; one unit a frame is assumption 14). -/
def State.sendUnit (s : State) (space ofs : Nat) (mirror : Bool) (body : Bytes) : State :=
  s.dunlySend 1 12 (toLe 1 space ++ toLe 1 (b2n mirror) ++ toLe 2 body.length ++ toLe 4 ofs ++ body)

/-- The offset that a unit carries (R363). -/
def unitOfs (space unit : Nat) : Nat := if space = 0 then 4096 * unit else 64 * unit

/-- The transfer bytes of one round (R363, R369). -/
def State.budget (s : State) : Nat := min 0x100000 (max 0x10000 (s.fld Reg.pairXfer 20 0))

/-- The closing round has sent more than BUDGET bytes (R364): ABORT with reason 2, and the passes continue. -/
def State.closingOverrun (s : State) (x : XferRun) : State :=
  let s := (s.sendJoinc 6 2 s.rsn).modPair fun p => { p with xfer := some { x with closing := false } }
  (s.setFld Reg.pairJoin 2 0 4).setFld Reg.pairJoin 23 16 2

/-- `n` bytes at offset `ofs` of the unit (space, number) are written by the leader while a transfer runs (R361, R364):
the unit becomes dirty unless the running pass has still to send it; in the closing round the write is mirrored at once,
the bytes of the instance store alone, of an image the line's unit (R363). -/
def State.touchUnit (s : State) (space unit ofs n : Nat) : State :=
  match s.pair.xfer with
  | none => s
  | some x =>
    let x := { x with wrote := x.wrote + n }
    if x.closing then
      let body := if space = 0 then s.dataRead (s.store + ofs) n else s.imageUnit unit
      let x := { x with sent := x.sent + body.length }
      let s := (s.sendUnit space ofs true body).modPair fun p => { p with xfer := some x }
      if s.budget < x.sent then s.closingOverrun x else s
    else
      let d := if x.todo.contains (space, unit) || x.dirty.contains (space, unit) then x.dirty
        else x.dirty ++ [(space, unit)]
      s.modPair fun p => { p with xfer := some { x with dirty := d } }

/-- A write of `n` bytes at instance store offset `ofs` touches its 4 KiB units. -/
def State.touchStore (s : State) (ofs n : Nat) : State :=
  if n = 0 then s
  else (List.range ((ofs + n - 1) / 4096 - ofs / 4096 + 1)).foldl (fun s i =>
    let u := ofs / 4096 + i
    let a := max ofs (4096 * u)
    s.touchUnit 0 u a (min (ofs + n) (4096 * (u + 1)) - a)) s

/-- The IMEM line lies in the input or output image of a task. -/
def State.imageLine (s : State) (line : Nat) : Bool :=
  match s.boards.act with
  | none => false
  | some t => t.tasks.any (fun k =>
      decide (k.inBase ≤ 64 * line ∧ 64 * line < k.inBase + k.inLen)
      || decide (k.outBase ≤ 64 * line ∧ 64 * line < k.outBase + k.outLen))

/-- A tracked write of `n` bytes of IMEM line `line`, its written marks already set (R361). -/
def State.touchLine (s : State) (line n : Nat) : State :=
  if s.imageLine line then s.touchUnit 1 line (64 * line) n else s

/-- A tracked write of the IMEM word at `ofs` (R361). -/
def State.touchImage (s : State) (ofs : Nat) : State := s.touchLine (ofs / 64) 4

/-- An IMEM word and its quality are written by a writer that a state transfer tracks. -/
def State.imemPut (s : State) (ofs : Nat) (w : Word) (q : BitVec 4) : State := (s.imemSet ofs w q).touchImage ofs

/-! ### The retained mirror (R224, R543) -/

/-- Line `k` of the instance store lies in the retained range. -/
def State.isRetained (s : State) (k : Nat) : Bool :=
  decide (s.retStart ≤ 64 * k ∧ 64 * k + 64 ≤ s.instLen)

/-- Line `k` of the instance store is mirrored to MRAM and its written mark is set, as one event. -/
def State.mirrorLine (s : State) (k : Nat) : State :=
  if s.isRetained k then
    let r := k - s.retStart / 64
    let s := s.writeMem (mramBase + 64 * r) (s.mem.read (s.store + 64 * k) 64)
    { s with retMark := sins s.retMark r }
  else s

/-- `n` bytes are written into the running instance store at offset `ofs`, with the retained mirror and the
transfer's tracking (R208, R224, R361, R473). -/
def State.storeWrite (s : State) (ofs : Nat) (l : Bytes) : State :=
  let s := s.migrateRange (s.store + ofs) l.length
  let s := (s.writeMem (s.store + ofs) l).touchStore ofs l.length
  if l.length = 0 then s
  else (List.range ((ofs + l.length - 1) / 64 - ofs / 64 + 1)).foldl (fun s i => s.mirrorLine (ofs / 64 + i)) s

end Sys2Proof.Machine
end

