-- ==== Sys2Proof/Machine/Gambit.lean ====
section
/-! DEFINITION. The gambit unit (07_gambit.md): contexts, the commit test, results, restores. -/

namespace Sys2Proof.Machine

/-- What a context's result reports (R210, R220): commit or squash, cause, lane, B and CYCLES, and for HIT
the line. -/
structure GmbRes where
  commit : Bool
  cause  : Nat
  lane   : Nat
  blocks : Option Nat
  staged : Option Nat
  cycles : Option Nat
  hit    : Option Nat
  deriving DecidableEq, Repr

/-- The lanes that belong to the context of task `t`. -/
def State.ctxLanes (s : State) (t : Fin 16) : List (Fin 16) :=
  (List.finRange 16).filter (fun n => s.lanes[n].owner == some t.val)

/-- The IMEM lines that the RUNNING lanes of the context have read, rising (R204). -/
def State.ctxReads (s : State) (t : Fin 16) : List Nat :=
  ((s.ctxLanes t).filter (fun n => s.lanes[n].state == .running)).foldl
    (fun l n => s.lanes[n].readSet.foldl sins l) []

/-- The lowest RUNNING lane of the context that read the line. -/
def State.readerOf (s : State) (t : Fin 16) (line : Nat) : Nat :=
  match (s.ctxLanes t).find? (fun n => s.lanes[n].state == .running && s.lanes[n].readSet.contains line) with
  | some n => n.val
  | none => 0

/-- The scan of the blocks of R210, in ascending order: B so far, and the lowest line read and changed. -/
def scanBlocks (reads mask : List Nat) : List Nat → Nat → Nat × Option Nat
  | [], n => (n, none)
  | b :: r, n =>
    match reads.find? (fun l => l / 1024 == b && mask.contains l) with
    | some l => (n + 1, some l)
    | none => scanBlocks reads mask r (n + 1)

/-- The commit test of task `t`, for a COMMIT entry of `dur` pips (R210, R219). -/
def State.commitTest (s : State) (t : Fin 16) (dur : Nat) : GmbRes :=
  let c := s.gmb[t]
  match c.spoiled with
  | some (cause, lane) => ⟨false, cause, if cause = 9 then 0 else lane, none, none, some 9, none⟩
  | none =>
    if bits (s.reg (Reg.pgCtrl pGMB)) 0 0 = 0 ∨ c.forced then ⟨false, 8, 0, none, none, some 9, none⟩
    else
      let reads := s.ctxReads t
      let mb := c.mask.foldl (fun l a => sins l (a / 1024)) []
      let blocks := (reads.foldl (fun l a => sins l (a / 1024)) []).filter (fun b => mb.contains b)
      match scanBlocks reads c.mask blocks 0 with
      | (b, some l) => ⟨false, 1, s.readerOf t l, some b, none, some (10 + b), some l⟩
      | (b, none) =>
        let n := c.staged.length
        let k := (n + 3) / 4
        if 19 * (dur - 1) < 9 + b + k then ⟨false, 7, 0, some b, some n, some (10 + b), none⟩
        else ⟨true, 0, 0, some b, some n, some (10 + b + k), none⟩

/-- One staged line of task `t` is copied to the output image with its quality codes; every word of it
takes its written mark (R211, R260). -/
def State.copyStaged (s : State) (t : Fin 16) (line : Nat) : State :=
  ((List.range 16).foldl (fun s i =>
    let ofs := line * 64 + 4 * i
    let src := s.stageOf t ofs
    let s := s.imemSet ofs (s.imemWord src) (s.imemQual src)
    { s with written := sins s.written (ofs / 4) }) s).touchLine line 64

/-- One entry of a shadow buffer is written back, poison marks included (R207, R213). -/
def State.restoreLine (s : State) (n : Fin 16) (l : ShadowLine) : State :=
  let s := s.writeMem (laneBase n.val + l.addr) l.bytes
  { s with poison := (l.poison.map (fun a => laneBase n.val + a)).foldl sins s.poison }

/-- A lane acts on the result and leaves the context (R213, R215). ACT is 3 during a restore, whatever else the lane has
to do: 8 LCLK and one for each line. -/
def State.leaveCtx (s : State) (n : Fin 16) (commit : Bool) : State :=
  let l := s.lanes[n]
  let s := if commit || l.state != .running then s
    else
      let s := l.shadowBuf.foldl (fun s x => s.restoreLine n x) s
      let k := Reg.bank n Reg.gmbRestore
      let s := (s.setFld k 11 0 l.shadowBuf.length).incSat k 31 16
      let now := s.opNs
      s.modLane n (fun x => x.begin3 false now (lclkNs (8 + l.shadowBuf.length)))
  s.modLane n (fun l => { l with owner := none, readSet := [], shadowBuf := [] })

/-- GMB_RESULT to GMB_HIT of task `t` show the result (R220). -/
def State.gmbShow (s : State) (t : Fin 16) (r : GmbRes) : State :=
  let k (x : Nat) : Nat := Reg.bank t x
  let s := s.setReg (k Reg.gmbResult)
    (BitVec.ofNat 32 ((if r.commit then 1 else 2) + r.cause * 16 + (if 2 ≤ r.cause ∧ r.cause ≤ 6 then r.lane * 256 else 0)))
  let s := s.setReg (k Reg.gmbResultRsn) s.rsn
  let s := if r.commit then s.incWrap (k Reg.gmbCnt) 15 0
    else (s.incSat (k Reg.gmbCnt) 31 16).modPair fun p => { p with squash := p.squash + 1 }
  let s := match r.blocks with | some b => s.setFld (k Reg.gmbTest) 10 0 b | none => s
  let s := match r.cycles with | some c => s.setFld (k Reg.gmbTest) 31 16 (min c 0xFFFF) | none => s
  let s := match r.staged with | some n => s.setReg (k Reg.gmbStaged) (BitVec.ofNat 32 n) | none => s
  match r.hit with
  | some l => s.setReg (k Reg.gmbHit) (BitVec.ofNat 32 (l + r.lane * 2 ^ 20 + 2 ^ 24))
  | none => s.setFld (k Reg.gmbHit) 24 24 0

/-- Interrupts, errors and the record of a result (R220); `code` is the error code the squash logs. -/
def State.gmbReport (s : State) (t : Fin 16) (r : GmbRes) (code : Option Nat) : State :=
  let more := toLe 4 r.cause ++ toLe 4 r.lane ++ wordBytes s.rsn
  if r.commit then s.raise pGMB 0
  else
    let s := s.raise pGMB 1
    let s := if r.cause = 7 then s.raise pGMB 3 else s
    let info := BitVec.ofNat 32 t.val
    match code with
    | some c => (s.logErr pGMB c info).recErr pGMB c info .normal more
    | none => if r.cause = 1 ∨ r.cause = 8 then s else s.recIrq pGMB 1 .normal (toLe 4 t.val ++ more)

/-- The result of the open context of task `t` is carried out and the context closes (R203, R211,
R213). -/
def State.carryOut (s : State) (t : Fin 16) (r : GmbRes) (code : Option Nat) : State :=
  let s := if r.commit then s.gmb[t].staged.foldl (fun s l => s.copyStaged t l) s else s
  let lanes := s.ctxLanes t
  let s := lanes.foldl (fun s n => s.leaveCtx n r.commit) s
  let s := s.modCtx t (fun c => { GmbCtx.reset with result := c.result })
  (s.gmbShow t r).gmbReport t r code

/-- The events of R218 squash every open context with cause CLOSED; one that is wedged stays open until a reset (R384). -/
def State.closeContexts (s : State) : State :=
  over16 (fun s t =>
    if s.gmb[t].isOpen && !s.gmb[t].overdue then s.carryOut t ⟨false, 10, 0, none, none, none, none⟩ (some 0x0103) else s) s

end Sys2Proof.Machine
end

