-- ==== Sys2Proof/Machine/BoardCheck.lean ====
section
/-! DEFINITION. The loader's checks of R109 in ascending code order. Each check answers the detail of the
first fault it finds, in the layout of R109; which of several faults it names first is assumption 13. -/

namespace Sys2Proof.Machine

/-- A board under check: its bytes, its tables, the length it was staged or stored with, and whether the
check belongs to ARM (R101, R107). -/
structure CheckJob where
  raw : Bytes
  t   : Tables
  len : Nat
  arm : Bool
  deriving DecidableEq, Repr

/-- The detail of a fault of record `i` of section `ty` (R109). -/
def faultAt (ty i : Nat) : Nat := ty * 2 ^ 24 + i % 2 ^ 24
/-- The detail of a missing item (R109). -/
def faultGap (ty n : Nat) : Nat := ty * 2 ^ 24 + 0xFE * 2 ^ 16 + n
/-- The detail of a missing item of section `ty` whose gap R109 does not name, found missing for record `i`: [15:0] is
free (assumption 71). -/
def faultLack (ty i : Nat) : Nat := faultGap ty (Config.gapName ty i).toNat

/-- The index of the first element that is bad. -/
def badIdx {α : Type} (l : List α) (p : Nat → α → Bool) : Option Nat :=
  (l.zipIdx.find? (fun x => p x.2 x.1)).map (fun x => x.2)

/-- The first detail in a list of results. -/
def firstOf (l : List (Option Nat)) : Option Nat := l.findSome? id

/-- A detail if the condition holds. -/
def failIf (c : Bool) (info : Nat) : Option Nat := if c then some info else none

/-- Ranges `(key, from, to, index)`: the index of the first in (key, from, to, index) order that overlaps an earlier
one of its key. -/
def rangeClash (l : List (Nat × Nat × Nat × Nat)) : Option Nat :=
  let before (a b : Nat × Nat × Nat × Nat) : Bool :=
    decide (a.1 < b.1 ∨ (a.1 = b.1 ∧ (a.2.1 < b.2.1 ∨ (a.2.1 = b.2.1 ∧ (a.2.2.1 < b.2.2.1
      ∨ (a.2.2.1 = b.2.2.1 ∧ a.2.2.2 ≤ b.2.2.2))))))
  let o := sortBy before (l.filter (fun x => decide (x.2.1 < x.2.2.1)))
  (o.zipIdx.find? (fun x => (o.take x.2).any (fun y =>
    y.1 == x.1.1 && decide (x.1.2.1 < y.2.2.1 ∧ y.2.1 < x.1.2.2.1)))).map (fun x => x.1.2.2.2)

/-! ### 0x0101 to 0x0107: the header (R64 to R67, R107, R108) -/

/-- 0x0101: MAGIC, HDR_LEN, BOARD_LEN, SIG_OFS. -/
def chk101 (j : CheckJob) : Option Nat :=
  let h := j.t.hdr
  firstOf [failIf (h.magic != 0x44425641) 0x00, failIf (h.hdrLen != 256) 0x06,
    failIf (!(decide (512 ≤ h.boardLen ∧ h.boardLen ≤ 268435456 ∧ h.boardLen % 16 = 0))) 0x08,
    failIf (h.sigOfs != h.boardLen - 128) 0x0C]

/-- 0x0102: the staged or stored length. -/
def chk102 (j : CheckJob) : Option Nat := failIf (j.len != j.t.hdr.boardLen) 0x08

/-- 0x0103: the signature block. -/
def chk103 (s : State) (j : CheckJob) : Option Nat :=
  let o := j.t.hdr.sigOfs
  let k := leAt j.raw (o + 4) 4
  firstOf [failIf (k != j.t.hdr.keyId || decide (8 ≤ k) || !bit (s.reg Reg.secKeyEn) k) 0x24,
    failIf (leAt j.raw o 4 != 0x42474953 || leAt j.raw (o + 8) 4 != 1 || rsvBad j.raw (o + 12) 4
      || rsvBad j.raw (o + 112) 16) 0x0C]

/-- 0x0104: the signature (R67). -/
def chk104 (s : State) (j : CheckJob) : Option Nat :=
  let key := match s.boot.keys.toList[j.t.hdr.keyId]? with | some k => k | none => []
  failIf (!ecdsaVerify key j.t.identity (slice j.raw (j.t.hdr.sigOfs + 16) 96)) 0x0C

/-- 0x0105: FMT_VER lies from MIN to MAX (R108). -/
def chk105 (s : State) (j : CheckJob) : Option Nat :=
  let v := j.t.hdr.fmtVer
  failIf (!(decide (s.fld Reg.brdFmt 15 0 ≤ v ∧ v ≤ s.fld Reg.brdFmt 31 16))) 0x04

/-- 0x0106: header fields and RSV bytes (R65, R225). -/
def chk106 (j : CheckJob) : Option Nat :=
  let h := j.t.hdr
  firstOf [failIf (decide (63 < h.pairDomain)) 0x14, failIf (h.laneCount != 16) 0x15,
    failIf (decide (h.taskCount = 0 ∨ 16 < h.taskCount)) 0x16, failIf (decide (16 < h.syncCount)) 0x17,
    failIf (decide (12 < h.turnExp)) 0x18, failIf (decide (2 ≤ h.flags)) 0x19,
    failIf (decide (h.sectCount < 11 ∨ 14 < h.sectCount)) 0x1A,
    failIf (decide (h.instLen % 64 ≠ 0 ∨ 0x80000000 < h.instLen)) 0x1C,
    failIf (decide (h.retLen % 64 ≠ 0 ∨ 0x800000 < h.retLen ∨ h.instLen < h.retLen)) 0x20,
    failIf (decide (7 < h.keyId)) 0x24, failIf (!h.mig && rsvBad j.raw 0x30 48) 0x30,
    (badIdx (slice j.raw 0x60 160) (fun _ b => b != 0)).map (fun i => 0x60 + i)]

/-- 0x0107: PAIR_DOMAIN is that of the option record. -/
def chk107 (s : State) (j : CheckJob) : Option Nat := failIf (j.t.hdr.pairDomain != s.pairDomain) 0x14

/-! ### 0x0108, 0x0109: the directory (R68, R69) -/

/-- REC_SIZE of a section type (R69). -/
def recSizeOf (ty : Nat) : Option Nat :=
  match ty with
  | 0x01 => some 32 | 0x0A => some 32 | 0x0C => some 0 | 0x0D => some 0
  | 0x02 => some 16 | 0x03 => some 16 | 0x04 => some 16 | 0x05 => some 16 | 0x06 => some 16
  | 0x07 => some 16 | 0x08 => some 16 | 0x09 => some 16 | 0x0B => some 16 | 0x0E => some 16
  | _ => none

/-- The capacity of a section in records (R69). -/
def capacityOf (ty : Nat) : Nat :=
  match ty with
  | 0x01 => 16 | 0x02 => 131072 | 0x03 => 65536 | 0x04 => 131072 | 0x05 => 16384 | 0x06 => 65536
  | 0x07 => 16384 | 0x08 => 262144 | 0x09 => 4096 | 0x0A => 65536 | 0x0B => 16 | 0x0C => 4096
  | 0x0D => 65536 | _ => 262144

/-- 0x0108: the directory. -/
def chk108 (j : CheckJob) : Option Nat :=
  let h := j.t.hdr
  let dir := parseDir j.raw
  let named := fun i ty => faultAt (ty % 256) i
  let one := dir.zipIdx.findSome? (fun x =>
    let d := x.1
    let prev := match dir[x.2 - 1]? with | some p => if x.2 = 0 then 0 else p.type | none => 0
    failIf (recSizeOf d.type != some d.recSz || decide (d.type ≤ prev) || d.rsv != 0
      || decide (d.offset % 16 ≠ 0 ∨ d.offset < 0x100 + 16 * h.sectCount ∨ h.sigOfs < d.stop j.raw))
      (named x.2 d.type))
  let lap := (rangeClash (dir.zipIdx.map (fun x => (0, x.1.offset, x.1.stop j.raw, x.2)))).map (fun i =>
    match dir[i]? with | some d => named i d.type | none => 0)
  let need := [1, 2, 3, 4, 5, 6, 7, 8, 0x0A, 0x0B, 0x0C] ++ (if h.mig then [0x0E] else [])
  let miss := need.findSome? (fun ty => failIf ((dirOf dir ty).isNone) (faultAt ty 0xFFFFFF))
  let odd := dir.zipIdx.findSome? (fun x =>
    let d := x.1
    failIf ((d.type == 0x0E && !h.mig)
      || (d.count == 0 && [1, 2, 3, 5, 6, 7, 0x0C].contains d.type)
      || (d.type == 0x01 && d.count != h.taskCount) || (d.type == 0x0B && d.count != h.syncCount))
      (named x.2 d.type))
  firstOf [one, lap, miss, odd]

/-- 0x0109: the capacities. -/
def chk109 (j : CheckJob) : Option Nat :=
  (parseDir j.raw).zipIdx.findSome? (fun x =>
    failIf (decide (capacityOf x.1.type < x.1.count)) (faultAt x.1.type x.2))

/-! ### 0x010A: tasks (R70, R71, R236) -/

/-- The image ranges of a task: input, output, staging (R71). -/
def TaskRec.areas (r : TaskRec) : List (Nat × Nat) :=
  [(r.inBase, r.inLen), (r.outBase, r.outLen)] ++ (if r.gambit then [(r.stageBase, r.outLen)] else [])

/-- 0x010A: the task table. -/
def chk10A (j : CheckJob) : Option Nat :=
  let raws := sectionOf j.raw 0x01
  let own := badIdx j.t.tasks (fun i r =>
    r.id != i || decide (12 < r.perExp) || decide (2 ≤ r.flags)
    || (match raws[i]? with | some b => rsvBad b 3 1 || rsvBad b 6 2 || rsvBad b 28 4 | none => false)
    || decide (2 ^ r.perExp ≤ r.phase)
    || decide (r.inBase % 64 ≠ 0 ∨ r.inLen % 4 ≠ 0 ∨ r.outBase % 64 ≠ 0 ∨ r.outLen % 4 ≠ 0 ∨ r.stageBase % 64 ≠ 0)
    || (!r.gambit && r.stageBase != 0) || r.areas.any (fun a => decide (0x4000000 < a.1 + a.2)))
  let top := (j.t.tasks.map (fun r => r.perExp)).foldl max 0
  let lap := rangeClash (j.t.tasks.zipIdx.flatMap (fun x => x.1.areas.map (fun a => (0, a.1, a.1 + a.2, x.2))))
  firstOf [own.map (faultAt 1), failIf (j.t.hdr.turnExp != top) 0x18, lap.map (faultAt 1),
    (badIdx (List.range 16) (fun _ n => decide (8 < (j.t.pliesOn n).length))).map (faultAt 1)]

/-! ### 0x010B to 0x010D: entries (R72 to R86) -/

/-- The four track sections with their types, in section order. -/
def Tables.tracks (t : Tables) : List (Nat × List Entry) :=
  [(2, t.trackN), (3, t.trackL), (4, t.trackM), (5, t.trackF)]

/-- The first bad entry of the four tracks. -/
def badEntry (t : Tables) (p : Nat → List Entry → Nat → Entry → Bool) : Option Nat :=
  t.tracks.findSome? (fun x => (badIdx x.2 (p x.1 x.2)).map (faultAt x.1))

/-- The entry types a track section holds (R75). -/
def typeFits (sec etype : Nat) : Bool :=
  match sec with
  | 2 => etype == 4 | 3 => etype == 1 || etype == 2 | 4 => etype == 3 | _ => etype == 5

/-- The bits of W0 to W3 that an entry type names; every other bit is RSV (R72, R77, R81, R83, R85). -/
def namedBits (etype : Nat) : Word × Word × Word × Word :=
  match etype with
  | 1 => (0x1FFFFFFF, 0x0FFFFFFF, 0xFFFF1FFF, 0x3FFFFFFF)
  | 2 => (0x1FFFFFFF, 0x0F00FFFF, 0xFFFF1FFF, 0)
  | 3 => (0x1FFFFFFF, 0x0FF7FFFF, 0x00001FFF, 0x00FFFFFF)
  | 4 => (0x1FFFFFFF, 0xFFFFFFFF, 0, 0)
  | _ => (0x1FFFFFFF, 0x0FFFFFFF, 0xFFFFFFFF, 0)

/-- Some RSV bit of an entry is set. -/
def Entry.rsvSet (e : Entry) : Bool :=
  let m := namedBits e.etype
  e.w0 &&& ~~~m.1 != 0 || e.w1 &&& ~~~m.2.1 != 0 || e.w2 &&& ~~~m.2.2.1 != 0 || e.w3 &&& ~~~m.2.2.2 != 0

/-- The COND, CA and CB of an entry break R74, R81 or R85. -/
def Entry.condBad (e : Entry) (sec : Nat) : Bool :=
  let own := fun n => e.etype == 1 && e.lane.val == n
  decide (4 < e.cond) || (e.cond == 4 && sec != 4) || (e.isCover && sec != 3 && sec != 4)
  || (e.etype == 2 && e.cond != 0)
  || ((e.cond == 0 || e.cond == 4) && e.cb != 0)
  || (e.isCover && own e.ca)
  || ((e.cond == 2 || e.cond == 3) && (e.cb == e.ca || own e.cb))

/-- 0x010B: a field of an entry is invalid (R72 to R86, R109, R362). -/
def chk10B (j : CheckJob) : Option Nat :=
  badEntry j.t (fun sec _ _ e =>
    !typeFits sec e.etype || e.rsvSet || decide (5000 ≤ e.start) || decide (j.t.hdr.turnExp < e.rexp)
    || decide (2 ^ e.rexp ≤ e.phase) || e.condBad sec
    || ((e.etype == 1 || e.etype == 3) && decide (e.start < 16))
    || (e.etype == 1 && (decide (5 < e.kind) || decide (0x80000 ≤ e.entry)
        || ((e.kind == 1 || e.kind == 5) && (e.entry != 0 || e.frame != 0 || e.arg != 0 || e.task.val != 0))))
    || (e.etype == 3 && decide (3 < e.mkind))
    || (e.etype == 5 && decide (e.fevt = 0 ∨ 8 < e.fevt))
    || (e.etype != 4 && decide (j.t.hdr.taskCount ≤ e.task.val))
    || (e.etype == 2 && decide (e.dur < 20)))

/-- 0x010C: a DUR of 0, or an end after the round. -/
def chk10C (j : CheckJob) : Option Nat :=
  badEntry j.t (fun _ _ _ e =>
    (e.etype == 1 || e.etype == 2 || e.etype == 3) && decide (e.dur = 0 ∨ 5000 < e.start + e.dur))

/-- 0x010D: START order (R76). -/
def chk10D (j : CheckJob) : Option Nat :=
  badEntry j.t (fun _ l i e => match l[i - 1]? with | some p => decide (e.start < p.start) | none => false)

/-! ### 0x010E, 0x010F: lane budgets (R102) -/

/-- The first fault that `judge` finds in the enabled PLY entries of a lane, over every round, lane and lane
condition in which the lane runs. -/
def overLanes (t : Tables) (judge : Nat → List (Entry × Nat) → Option Nat) : Option Nat :=
  (List.range t.turn).findSome? (fun r =>
    let act := (activeIn t.trackL r).filter (fun x => x.1.etype == 1)
    (List.range 16).findSome? (fun n =>
      let mine := act.filter (fun x => x.1.lane.val == n)
      laneConditions.findSome? (fun m =>
        if m.testBit n then none
        else judge n (mine.filter (fun x => x.1.condHolds (BitVec.ofNat 16 m))))))

/-- The first entry that makes the sum of DUR exceed a limit. -/
def exceeds (lim : Nat) : Nat → List (Entry × Nat) → Option Nat
  | _, [] => none
  | sum, x :: r => if lim < sum + x.1.dur then some x.2 else exceeds lim (sum + x.1.dur) r

/-- 0x010E: no two entries of a lane overlap. -/
def chk10E (j : CheckJob) : Option Nat :=
  overLanes j.t (fun _ l =>
    (rangeClash (l.map (fun x => (0, x.1.start, x.1.start + x.1.dur, x.2)))).map (faultAt 3))

/-- 0x010F: the three sums of R102. -/
def chk10F (j : CheckJob) : Option Nat :=
  overLanes j.t (fun n l =>
    let own := l.filter (fun x => x.1.cond == 0 && (x.1.kind == 0 || x.1.kind == 2 || x.1.kind == 4))
    let cov := l.filter (fun x => x.1.isCover && (x.1.kind == 0 || x.1.kind == 4))
    let tests := l.filter (fun x => x.1.kind == 1)
    firstOf [(exceeds 3000 0 own).map (faultAt 3), (exceeds 714 0 cov).map (faultAt 3),
      match tests with
      | [] => some (faultGap 3 n)
      | [x] => failIf (x.1.cond != 0 || x.1.dur != 200) (faultAt 3 x.2)
      | _ :: y :: _ => some (faultAt 3 y.2)])

/-! ### Periods (R70, R87) -/

/-- The entries of a section active in the period of a task that begins in round `first`: the pip counted from
the period's first pip, the entry, its index. -/
def periodEntries (t : Tables) (l : List Entry) (first perExp : Nat) : List (Nat × Entry × Nat) :=
  (List.range (2 ^ perExp)).flatMap (fun k =>
    (activeIn l ((first + k) % t.turn)).map (fun x => (k * 5000 + x.1.start, x.1, x.2)))

/-- Every period of every task in the turn: `f` gets the task, its record and the first round. -/
def overPeriods (t : Tables) (f : Nat → TaskRec → Nat → Option Nat) : Option Nat :=
  t.tasks.zipIdx.findSome? (fun x =>
    (List.range (t.turn / 2 ^ x.1.perExp)).findSome? (fun k => f x.2 x.1 (x.1.phase + k * 2 ^ x.1.perExp)))

/-! ### 0x0110, 0x0111: gambits and covers (R82, R88) -/

/-- The keys that pair a GAMBIT with its RERUN entry (R82). -/
def Entry.gambitKey (e : Entry) : List Nat :=
  [e.lane.val, e.task.val, e.entry, e.frame, e.arg, e.cond, e.ca, e.cb, e.rexp, e.phase]

/-- How many entries of a list satisfy a condition. -/
def countIf (l : List Entry) (p : Entry → Bool) : Nat := (l.filter p).length

/-- 0x0110: the shape of a gambit. A GAMBIT entry has exactly one RERUN entry of its keys, and every RERUN entry is
that of a GAMBIT entry. -/
def chk110 (j : CheckJob) : Option Nat :=
  let t := j.t
  let isG := fun (e : Entry) => e.etype == 1 && e.kind == 2
  let isR := fun (e : Entry) => e.etype == 1 && e.kind == 3
  let stray := badIdx t.trackL (fun _ e =>
    (e.etype == 2 || isG e || isR e) && !(match t.taskRec e.task.val with | some r => r.gambit | none => false))
  let like := fun (p : Entry → Bool) (e : Entry) => countIf t.trackL (fun x => p x && x.gambitKey == e.gambitKey)
  let lack := badIdx t.trackL (fun _ e => isG e && like isR e == 0)
  let extra := badIdx t.trackL (fun i e =>
    isR e && (like isG e == 0 || (t.trackL.take i).any (fun x => isR x && x.gambitKey == e.gambitKey)))
  let mixed := (List.range t.turn).findSome? (fun r =>
    let g := (activeIn t.trackL r).filter (fun x => isG x.1)
    (g.find? (fun x => g.any (fun y => decide (y.2 < x.2) && y.1.lane == x.1.lane && y.1.task != x.1.task))).map
      (fun x => x.2))
  let shape := overPeriods t (fun k rec first =>
    if !rec.gambit then none
    else
      let l := (periodEntries t t.trackL first rec.perExp).filter (fun x => x.2.1.task.val == k)
      let close := (periodEntries t t.trackF first rec.perExp).find? (fun x => x.2.1.fevt == 2 && x.2.1.task.val == k)
      let g := l.filter (fun x => isG x.2.1)
      match l.filter (fun x => x.2.1.etype == 2) with
      | [] => some (faultGap 3 k)
      | [c] =>
        let mask := g.foldl (fun m x => m ||| 2 ^ x.2.1.lane.val) 0
        firstOf [
          failIf (match close with | some a => decide (c.1 < a.1) | none => false) (faultAt 3 c.2.2),
          (g.find? (fun x => decide (c.1 < x.1 + x.2.1.dur))).map (fun x => faultAt 3 x.2.2),
          ((l.filter (fun x => isR x.2.1)).find? (fun x => decide (x.1 < c.1 + c.2.1.dur))).map
            (fun x => faultAt 3 x.2.2),
          failIf (c.2.1.arg != mask) (faultAt 3 c.2.2)]
      | _ :: c :: _ => some (faultAt 3 c.2.2))
  firstOf [stray.map (faultAt 3), lack.map (faultLack 3), extra.map (faultAt 3), mixed.map (faultAt 3), shape]

/-- The keys that pair a displaced entry with its cover (R88). -/
def Entry.coverKey (e : Entry) : List Nat := [e.kind, e.task.val, e.entry, e.arg, e.rexp, e.phase]

/-- 0x0111: displaced entries and their covers pair one to one. -/
def chk111 (j : CheckJob) : Option Nat :=
  (List.range j.t.turn).findSome? (fun r =>
    let work := (activeIn j.t.trackL r).filter (fun x => x.1.isWork)
    lanesOut.findSome? (fun m =>
      let gone := work.filter (fun x => x.1.cond == 0 && m.testBit x.1.lane.val)
      let cov := work.filter (fun x =>
        x.1.isCover && x.1.condHolds (BitVec.ofNat 16 m) && !m.testBit x.1.lane.val)
      let cnt := fun (l : List (Entry × Nat)) (k : List Nat) => (l.filter (fun x => x.1.coverKey == k)).length
      firstOf [
        (gone.find? (fun x => decide (cnt cov x.1.coverKey < cnt gone x.1.coverKey))).map (fun x => faultLack 3 x.2),
        (cov.find? (fun x => decide (cnt gone x.1.coverKey < cnt cov x.1.coverKey))).map (fun x => faultAt 3 x.2)]))

/-! ### 0x0112 to 0x0114: slots and guardian windows (R89 to R93, R296) -/

/-- The wire length of a slot in bytes (R91). -/
def wireLen (payload : Nat) : Nat := max (payload + 24) 46 + 38

/-- A slot record breaks R89 to R91 or R296. -/
def slotBad (t : Tables) (rsv : Nat) (r : SlotRec) : Bool :=
  let d := t.hdr.pairDomain
  let dom := r.node / 4096
  let idx := r.node % 4096
  decide (6 < r.skind) || decide (3 < r.port) || rsv != 0 || decide (1476 < r.payload)
  || decide (r.len < 8 ∨ r.len < ceilDiv (2 * wireLen r.payload) 125 + 6)
  || (if r.skind = 0 ∨ r.skind = 1 then decide (t.hdr.taskCount ≤ r.task) else r.task != 0xFF)
  || (if r.skind = 1 then decide (r.dest = 1 ∨ 4095 < r.dest) else r.dest != 0)
  || (r.skind == 5 && decide (r.payload < 64))
  || (if r.skind = 3 ∨ r.skind = 4 ∨ r.skind = 5 then r.node != 0xFFFFFFFF
      else if 0x40000 ≤ r.node then true
      else if r.skind = 0 then dom != d || decide (idx < 2)
      else if r.skind = 1 then dom != d || decide (1 < idx)
      else if r.skind = 6 then decide (1 < idx) else false)

/-- The SLOT entries active in a round with their slot records. -/
def roundSlots (t : Tables) (r : Nat) : List (Entry × SlotRec × Nat) :=
  (activeIn t.trackN r).filterMap (fun x => (t.slotRec x.1.slot).map (fun k => (x.1, k, x.2)))

/-- 0x0112: the slot plan. -/
def chk112 (j : CheckJob) : Option Nat :=
  let t := j.t
  let raws := sectionOf j.raw 0x06
  let own := badIdx t.slots (fun i r =>
    decide (1 < (t.slots.filter (fun x => x.slot == r.slot)).length)
    || slotBad t (match raws[i]? with | some b => leAt b 11 1 | none => 0) r)
  let ends := badIdx t.trackN (fun _ e =>
    match t.slotRec e.slot with | some r => decide (5000 < e.start + r.len) | none => true)
  let rounds := (List.range t.turn).findSome? (fun r =>
    let l := roundSlots t r
    let joins := l.filter (fun x => x.2.1.skind == 3)
    firstOf [
      (l.find? (fun x => l.any (fun y => y.2.2 != x.2.2 && y.1.slot == x.1.slot))).map
        (fun x => faultAt 2 x.2.2),
      (rangeClash (l.map (fun x => (x.2.1.port * 2 + b2n (t.isDown x.2.1), x.1.start, x.1.start + x.2.1.len, x.2.2)))).map
        (faultAt 2),
      match joins with | _ :: y :: _ => some (faultAt 2 y.2.2) | _ => none,
      failIf (joins.isEmpty || !l.any (fun x => x.2.1.skind == 5)) (faultGap 2 r)])
  firstOf [own.map (faultAt 6), ends.map (faultAt 2), rounds]

/-- The first SLOT entry that makes the payload sum of a direction exceed 1,048,576 bytes. -/
def volumeBad : Nat → List (Entry × SlotRec × Nat) → Option Nat
  | _, [] => none
  | sum, x :: r =>
    if 1048576 < sum + x.2.1.payload then some x.2.2 else volumeBad (sum + x.2.1.payload) r

/-- 0x0113: the volume of a round (R92). -/
def chk113 (j : CheckJob) : Option Nat :=
  (List.range j.t.turn).findSome? (fun r =>
    let l := roundSlots j.t r
    firstOf [(volumeBad 0 (l.filter (fun x => j.t.isDown x.2.1))).map (faultAt 2),
      (volumeBad 0 (l.filter (fun x => !j.t.isDown x.2.1))).map (faultAt 2)])

/-- The fields that a guardian record shares with its SLOT entry (R93). -/
def GuardRec.key (g : GuardRec) : List Nat := [g.owner, g.slot, g.start, g.len, g.port, g.rexp, g.phase]

/-- The guardian records that the SLOT entries ask for, with the index of the entry. -/
def Tables.guardsDue (t : Tables) : List (List Nat × Nat) :=
  t.trackN.zipIdx.filterMap (fun x =>
    match t.slotRec x.1.slot with
    | some r => (t.ownerOf r).map (fun o => ([o, x.1.slot, x.1.start, r.len, r.port, x.1.rexp, x.1.phase], x.2))
    | none => none)

/-- 0x0114: the guardian windows. -/
def chk114 (j : CheckJob) : Option Nat :=
  let t := j.t
  let raws := sectionOf j.raw 0x07
  let due := t.guardsDue
  let cnt := fun k => (t.guards.filter (fun g => g.key == k)).length
  let want := fun k => (due.filter (fun x => x.1 == k)).length
  let bad := badIdx t.guards (fun i g =>
    (match raws[i]? with | some b => rsvBad b 9 1 || rsvBad b 12 4 | none => false)
    || decide (want g.key < ((t.guards.take (i + 1)).filter (fun x => x.key == g.key)).length))
  firstOf [bad.map (faultAt 7), (due.find? (fun x => cnt x.1 != want x.1)).map (fun x => faultLack 7 x.2)]

/-! ### 0x0115, 0x0116: sync nodes and task events (R86, R87, R94, R262, R348) -/

/-- 0x0115: the sync node table and SYNC_CORRECT; a round without SYNC_CORRECT, or with two, takes this code, one
without HEALTH_XCHG 0x0116 (assumption 69). A SYNC_CORRECT at the pip at which the last SYNC slot ends comes after its end
(assumption 104). -/
def chk115 (j : CheckJob) : Option Nat :=
  let t := j.t
  let raws := sectionOf j.raw 0x0B
  let recs := badIdx t.syncs (fun i r =>
    (match raws[i]? with | some b => rsvBad b 7 1 | none => false) || decide (15 < r.csidx)
    || (t.syncs.take i).any (fun x => x.node == r.node || x.slot == r.slot || x.csidx == r.csidx)
    || !(match t.slotRec r.slot with | some k => k.skind == 2 && k.node == r.node | none => false))
  let bare := badIdx t.slots (fun _ k => k.skind == 2 && !t.syncs.any (fun r => r.slot == k.slot))
  let rounds := (List.range t.turn).findSome? (fun r =>
    let last := ((roundSlots t r).filter (fun x => x.2.1.skind == 2)).foldl
      (fun m x => max m (x.1.start + x.2.1.len)) 0
    match (activeIn t.trackF r).filter (fun x => x.1.fevt == 5) with
    | [] => some (faultGap 5 r)
    | [x] => failIf (decide (x.1.start < last)) (faultAt 5 x.2)
    | _ :: y :: _ => some (faultAt 5 y.2))
  firstOf [recs.map (faultAt 0x0B), bare.map (faultLack 0x0B), rounds]

/-- The positions in the turn of the FIELD events of a kind of a task, in pips, with the copies of the turn before
and the turn after. -/
def Tables.eventsAt (t : Tables) (fevt task : Nat) : List Int :=
  let l := (List.range t.turn).flatMap (fun r =>
    ((activeIn t.trackF r).filter (fun x => x.1.fevt == fevt && x.1.task.val == task)).map
      (fun x => ((r * 5000 + x.1.start : Nat) : Int)))
  let n : Int := t.turn * 5000
  l.map (fun p => p - n) ++ l ++ l.map (fun p => p + n)

/-- The latest position at or before `p`. -/
def lastUpTo (l : List Int) (p : Int) : Option Int := (l.filter (fun x => decide (x ≤ p))).getLast?
/-- The earliest position at or after `p`. -/
def firstFrom (l : List Int) (p : Int) : Option Int := l.find? (fun x => decide (p ≤ x))

/-- The MOVE entries of a kind over the turn: position of START, entry, index. -/
def Tables.movesAt (t : Tables) (mkind : Nat) : List (Int × Entry × Nat) :=
  (List.range t.turn).flatMap (fun r =>
    ((activeIn t.trackM r).filter (fun x => x.1.mkind == mkind)).map
      (fun x => (((r * 5000 + x.1.start : Nat) : Int), x.1, x.2)))

/-- 0x0116: task events, HEALTH_XCHG, the order of R87, DIGEST of R348, LOAD_OUT of R262. -/
def chk116 (j : CheckJob) : Option Nat :=
  let t := j.t
  let health := (List.range t.turn).findSome? (fun r =>
    match (activeIn t.trackF r).filter (fun x => x.1.fevt == 8) with
    | [] => some (faultGap 5 r)
    | [_] => none
    | _ :: y :: _ => some (faultAt 5 y.2))
  let events := overPeriods t (fun k rec first =>
    let f := (periodEntries t t.trackF first rec.perExp).filter (fun x => x.2.1.task.val == k)
    let one := fun n => f.filter (fun x => x.2.1.fevt == n)
    let once := [1, 2, 3, 4].findSome? (fun n =>
      match one n with
      | [] => some (faultGap 5 k)
      | [_] => none
      | _ :: y :: _ => some (faultAt 5 y.2.2))
    match once with
    | some i => some i
    | none =>
      match one 1, one 2, one 3, one 4 with
      | [a], [b], [c], [d] =>
        let plies := ((periodEntries t t.trackL first rec.perExp).filter (fun x =>
          x.2.1.isWork && x.2.1.task.val == k))
        firstOf [failIf (decide (b.1 < a.1)) (faultAt 5 b.2.2), failIf (decide (c.1 < b.1)) (faultAt 5 c.2.2),
          failIf (decide (d.1 < c.1 + ceilDiv rec.outLen 1280 + 1)) (faultAt 5 d.2.2),
          (plies.find? (fun x => (x.2.1.kind == 0 && decide (x.1 < b.1)) || (x.2.1.kind == 2 && decide (x.1 < a.1))
            || decide (c.1 < x.1 + x.2.1.dur))).map (fun x => faultAt 3 x.2.2)]
      | _, _, _, _ => none)
  let outs := (t.movesAt 3).findSome? (fun x =>
    match lastUpTo (t.eventsAt 3 x.2.1.task.val) x.1 with
    | none => none
    | some te =>
      match firstFrom (t.eventsAt 2 x.2.1.task.val) (te + 1) with
      | none => none
      | some ag => failIf (decide (ag < x.1 + x.2.1.dur)) (faultAt 4 x.2.2))
  firstOf [health, events, outs]

/-! ### 0x0117, 0x0118: I/O map and quality rules (R95 to R98, R298, R312, R505) -/

/-- The task whose image the records of a PEER slot map to or from: that of the slot's MOVE entry (R312). -/
def Tables.peerTask (t : Tables) (slot : Nat) : Option Nat :=
  (t.trackM.find? (fun e => (e.mkind == 2 || e.mkind == 3) && e.ref == slot)).map (fun e => e.task.val)

/-- How the records of a slot map: into an input image of a task (false) or from its output image (true); none
for a slot that carries no image (R96). Both partners run one board, so a PEER slot that either of them sends maps from
an output image (R312). -/
def Tables.slotImage (t : Tables) (r : SlotRec) : Option (Bool × Nat) :=
  if r.skind = 0 then some (false, r.task)
  else if r.skind = 1 then some (true, r.task)
  else if r.skind = 6 then
    (t.peerTask r.slot).map (fun k => (r.node / 4096 == t.hdr.pairDomain, k))
  else none

/-- The IMEM range [a, b) lies in [base, base + len). -/
def inside (base len a b : Nat) : Bool := decide (base ≤ a ∧ b ≤ base + len)

/-- An I/O map record breaks R95, R96, R298 or R505. -/
def iomapBad (s : State) (t : Tables) (raw : Bytes) (r : IomapRec) : Bool :=
  let e := r.imemOfs + 4 * r.words
  if rsvBad raw 6 2 || rsvBad raw 12 4 || decide (r.imemOfs % 4 ≠ 0) then true
  else if r.slot = 0xFFFF then
    let inp := t.tasks.any (fun k => inside k.inBase k.inLen r.imemOfs e)
    let out := t.tasks.any (fun k => inside k.outBase k.outLen r.imemOfs e)
    decide (15 < r.pofs) || r.words != 1 || (!inp && !out) || (out && !s.outEn r.pofs)
  else
    match t.slotRec r.slot with
    | none => true
    | some k =>
      match t.slotImage k with
      | none => true
      | some (out, task) =>
        let room := if out then 4 * valueWords k.payload else k.payload
        decide (r.pofs % 4 ≠ 0 ∨ room < r.pofs + 4 * r.words)
        || !(match t.taskRec task with
            | some x => if out then inside x.outBase x.outLen r.imemOfs e else inside x.inBase x.inLen r.imemOfs e
            | none => false)

/-- Two records are those of the PEER slots of the two partners of one other pair (R312). -/
def Tables.peerPair (t : Tables) (a b : IomapRec) : Bool :=
  match t.slotRec a.slot, t.slotRec b.slot with
  | some x, some y => x.skind == 6 && y.skind == 6 && x.node / 4096 == y.node / 4096 && x.node != y.node
      && x.node / 4096 != t.hdr.pairDomain
  | _, _ => false

/-- 0x0117: the I/O map. -/
def chk117 (s : State) (j : CheckJob) : Option Nat :=
  let t := j.t
  let raws := sectionOf j.raw 0x08
  let own := badIdx t.iomap (fun i r => iomapBad s t (match raws[i]? with | some b => b | none => []) r)
  let isOut := fun (r : IomapRec) =>
    if r.slot = 0xFFFF then t.tasks.any (fun k => inside k.outBase k.outLen r.imemOfs (r.imemOfs + 4))
    else match t.slotRec r.slot with
      | some k => (match t.slotImage k with | some (o, _) => o | none => false)
      | none => false
  let lap := fun (a b : IomapRec) =>
    decide (a.imemOfs < b.imemOfs + 4 * b.words ∧ b.imemOfs < a.imemOfs + 4 * a.words)
  let twice := badIdx t.iomap (fun i r => !isOut r && (t.iomap.take i).any (fun x =>
    !isOut x && lap x r
      && !(t.peerPair x r && x.pofs == r.pofs && x.words == r.words && x.imemOfs == r.imemOfs)))
  let supply := rangeClash ((t.iomap.zipIdx.filter (fun x => x.1.slot != 0xFFFF)).map (fun x =>
    (x.1.slot, x.1.pofs, x.1.pofs + 4 * x.1.words, x.2)))
  let chan := badIdx t.iomap (fun i r => r.slot == 0xFFFF && (t.iomap.take i).any (fun x =>
    x.slot == 0xFFFF && x.pofs == r.pofs))
  (firstOf [own, twice, supply, chan]).map (faultAt 8)

/-- 0x0118: the quality rules. -/
def chk118 (j : CheckJob) : Option Nat :=
  let t := j.t
  let raws := sectionOf j.raw 0x09
  let own := badIdx t.quals (fun i q =>
    (match raws[i]? with | some b => rsvBad b 11 1 | none => false)
    || decide (q.ofs % 4 ≠ 0 ∨ 6 < q.event ∨ 1 < q.action)
    || !([0x4, 0x8, 0x9, 0xC].contains q.qual)
    || !t.tasks.any (fun k => inside k.inBase k.inLen q.ofs (q.ofs + 4 * q.words)
        || inside k.outBase k.outLen q.ofs (q.ofs + 4 * q.words)))
  let lap := rangeClash (t.quals.zipIdx.map (fun x => (x.1.event, x.1.ofs, x.1.ofs + 4 * x.1.words, x.2)))
  (firstOf [own, lap]).map (faultAt 9)

/-! ### 0x0119: transfers and mover entries (R83, R84, R99, R225, R343) -/

/-- Where a board's address lies: 0 IMEM, 1 a lane's DTCM, 2 the instance store (R99). -/
def placeOf (t : Tables) (a len : Nat) : Option Nat :=
  if inside imemBase 0x4000000 a (a + len) then some 0
  else if (List.range 16).any (fun n => inside (laneBase n + 0x00400000) 0x00400000 a (a + len)) then some 1
  else if inside 0x100000000 t.hdr.instLen a (a + len) then some 2
  else none

/-- A MOVE entry breaks R83 or the DUR rule of R84. A LOAD_OUT entry serves a DATA_OUT slot of its task or a PEER slot
that a partner of this pair sends: both run one board. For LAND_IN and LOAD_OUT, REF[23:16] other than 0 names no slot
(assumption 68). -/
def moveBad (t : Tables) (e : Entry) : Bool :=
  if e.mkind ≤ 1 then
    match t.xfers[e.ref]? with
    | none => true
    | some x =>
      (e.mkind == 1 && !(placeOf t x.src x.len == some 1 && placeOf t x.dst x.len == some 2))
      || decide (e.dur < ceilDiv x.len 256 + 2)
  else
    match t.slotRec e.ref with
    | none => true
    | some r =>
      let kind := if e.mkind = 2 then
          (r.skind == 0 && r.task == e.task.val) || (r.skind == 6 && r.node / 4096 != t.hdr.pairDomain)
        else (r.skind == 1 && r.task == e.task.val) || (r.skind == 6 && r.node / 4096 == t.hdr.pairDomain)
      !kind || decide (e.dur < ceilDiv (t.iomapBytes e.ref) 256 + 2)

/-- The positions of a slot's occurrences over the turn, with the copies of the turn before and after. -/
def Tables.slotAt (t : Tables) (slot : Nat) : List Int :=
  let l := (List.range t.turn).flatMap (fun r =>
    ((activeIn t.trackN r).filter (fun x => x.1.slot == slot)).map (fun x => ((r * 5000 + x.1.start : Nat) : Int)))
  let n : Int := t.turn * 5000
  l.map (fun p => p - n) ++ l ++ l.map (fun p => p + n)

/-- A LAND_IN entry at position `p` breaks R84, R312 or R343. -/
def landBad (t : Tables) (p : Int) (e : Entry) : Bool :=
  match t.slotRec e.ref, t.taskRec e.task.val with
  | some r, some k =>
    let first : Int := p - (p - k.phase * 5000) % (2 ^ k.perExp * 5000)
    (match lastUpTo (t.slotAt e.ref) p with
     | some o => decide (p < o + r.len + 8)
     | none => true)
    || (match firstFrom (t.eventsAt 2 e.task.val) first with
        | some a => decide (a < p + e.dur)
        | none => false)
  | _, _ => true

/-- A LOAD_OUT entry at position `p` breaks R84: another one for its slot starts before the occurrence it
fills. -/
def outBad (t : Tables) (p : Int) (e : Entry) : Bool :=
  match firstFrom (t.slotAt e.ref) (p + e.dur) with
  | none => true
  | some o =>
    let n : Int := t.turn * 5000
    (t.movesAt 3).any (fun x => x.2.1.ref == e.ref
      && [x.1 - n, x.1, x.1 + n].any (fun q => decide (p < q ∧ q < o)))

/-- The bytes of a transfer that lie in the retained range (R225). -/
def retainedBytes (t : Tables) (x : XferRec) : Nat :=
  let a := x.dst - 0x100000000
  min (a + x.len) t.hdr.instLen - max a (t.hdr.instLen - t.hdr.retLen)

/-- The first WRITEBACK entry that makes the retained bytes of a round exceed 16,384. -/
def retainedBad (t : Tables) : Nat → List (Entry × Nat) → Option Nat
  | _, [] => none
  | sum, x :: r =>
    let k := match t.xfers[x.1.ref]? with | some y => retainedBytes t y | none => 0
    if 16384 < sum + k then some x.2 else retainedBad t (sum + k) r

/-- How many LAND_IN entries of slot `k` stand in the period of the task of entry `e`, with index `idx`, at position `p` of
the turn before that entry; the turn repeats. -/
def Tables.landsBefore (t : Tables) (k : Nat) (p : Int) (e : Entry) (idx : Nat) : Nat :=
  match t.taskRec e.task.val with
  | none => 0
  | some r =>
    let first : Int := p - (p - r.phase * 5000) % (2 ^ r.perExp * 5000)
    let n : Int := t.turn * 5000
    ((t.movesAt 2).filter (fun x => x.2.1.ref == k && decide ((first ≤ x.1 ∧ (x.1 < p ∨ (x.1 = p ∧ x.2.2 < idx)))
      ∨ first ≤ x.1 - n))).length

/-- The LAND_IN entry of Partner B's PEER slot at position `x` does not follow that of Partner A's slot, in the task's
period, for each of its own (R312). -/
def peerLate (t : Tables) (x : Int × Entry × Nat) : Bool :=
  match t.slotRec x.2.1.ref with
  | none => false
  | some b => t.slots.any (fun a => a.skind == 6 && b.skind == 6 && b.node == a.node + 1 && a.node % 4096 == 0
      && (t.iomapOf a.slot).any (fun p => (t.iomapOf b.slot).any (fun q => p.imemOfs == q.imemOfs))
      && decide (t.landsBefore a.slot x.1 x.2.1 x.2.2 ≤ t.landsBefore b.slot x.1 x.2.1 x.2.2))

/-- 0x0119: transfers and mover entries. -/
def chk119 (j : CheckJob) : Option Nat :=
  let t := j.t
  let raws := sectionOf j.raw 0x0A
  let xf := badIdx t.xfers (fun i x =>
    (match raws[i]? with | some b => rsvBad b 5 3 || rsvBad b 13 3 || rsvBad b 20 12 | none => false)
    || decide (x.src % 4 ≠ 0 ∨ x.dst % 4 ≠ 0 ∨ x.len % 4 ≠ 0 ∨ 0x400000 < x.len)
    || (placeOf t x.src x.len).isNone || (placeOf t x.dst x.len).isNone)
  let mv := badIdx t.trackM (fun _ e => moveBad t e)
  let lap := (List.range t.turn).findSome? (fun r =>
    let act := activeIn t.trackM r
    laneConditions.findSome? (fun m =>
      rangeClash ((act.filter (fun x => x.1.condHolds (BitVec.ofNat 16 m))).map (fun x =>
        (x.1.mover, x.1.start, x.1.start + x.1.dur, x.2)))))
  let peer := (t.movesAt 2).find? (peerLate t)
  firstOf [xf.map (faultAt 0x0A), mv.map (faultAt 4), lap.map (faultAt 4),
    ((t.movesAt 2).find? (fun x => landBad t x.1 x.2.1)).map (fun x => faultAt 4 x.2.2),
    peer.map (fun x => faultAt 4 x.2.2),
    ((t.movesAt 3).find? (fun x => outBad t x.1 x.2.1)).map (fun x => faultAt 4 x.2.2),
    ((List.range t.turn).findSome? (fun r =>
      retainedBad t 0 ((activeIn t.trackM r).filter (fun x => x.1.mkind == 1)))).map (faultAt 4)]

/-! ### 0x011A, 0x011B: load records and migration (R79, R100, R101, R107, R277, R278) -/

/-- The byte that the CODE records of a board load at address `a` of lane `n`: the last record that names it. -/
def Tables.codeByte (t : Tables) (n a : Nat) : Option Byte :=
  t.code.foldl (fun b r =>
    if r.lanes.testBit n && decide (r.dest ≤ a ∧ a < r.dest + r.data.length) then r.data[a - r.dest]? else b) none

/-- A CODE record of the new board breaks R277 against the active board: a byte neither equals the byte that the active
board's CODE records load at its address nor lies where they load none; or it lies in DTCM below the active E_L or in
the save area. -/
def codeClash (s : State) (act : Tables) (r : LoadRec) : Bool :=
  (List.range 16).any (fun n => r.lanes.testBit n && r.data.zipIdx.any (fun x =>
    let a := r.dest + x.2
    (match act.codeByte n a with | some b => b != x.1 | none => false)
    || decide (0x00400000 ≤ a ∧ (a < act.dtcmEnd n ∨ (s.saveArea ≤ a ∧ a < s.saveArea + 256)))))

/-- A load record breaks the form of R100. -/
def loadBad (t : Tables) (code : Bool) (l : Bytes × Bytes × Bytes) (r : LoadRec) : Bool :=
  let e := r.dest + r.data.length
  rsvBad l.1 6 2 || rsvBad l.1 12 4 || l.2.2.any (fun b => b != 0)
  || (if code then
      r.lanes == 0 || !decide ((r.dest < 0x00200000 ∧ e ≤ 0x00200000)
        ∨ (0x00400000 ≤ r.dest ∧ r.dest < 0x00800000 ∧ e ≤ 0x00800000))
    else r.lanes != 0 || decide (t.hdr.instLen ≤ r.dest ∨ t.hdr.instLen < e))

/-- 0x011A: the load records. -/
def chk11A (s : State) (j : CheckJob) : Option Nat :=
  let form := fun ty (l : List LoadRec) => (badIdx l (fun i r =>
    loadBad j.t (ty == 0x0C) (match (loadSection j.raw ty)[i]? with | some x => x | none => ([], [], [])) r)).map
    (faultAt ty)
  firstOf [form 0x0C j.t.code, form 0x0D j.t.init,
    match s.boards.act with
    | some act => if j.arm then (badIdx j.t.code (fun _ r => codeClash s act r)).map (faultAt 0x0C) else none
    | none => none]

/-- A KEEP record breaks R278 against the active board. -/
def keepBad (t act : Tables) (r : MigrRec) : Bool :=
  let lo := t.hdr.instLen - t.hdr.retLen
  r.action == 0 && decide (lo < r.newOfs + r.len) && decide (0 < r.len)
  && (decide (r.newOfs < lo)
    || ((r.newOfs : Int) - lo != (r.oldOfs : Int) - (act.hdr.instLen - act.hdr.retLen : Nat)))

/-- 0x011B: CONVERT entries, migration records, PREV_DIGEST. -/
def chk11B (s : State) (j : CheckJob) : Option Nat :=
  let t := j.t
  let raws := sectionOf j.raw 0x0E
  let isC := fun (e : Entry) => e.etype == 1 && e.kind == 4
  let conv := badIdx t.trackL (fun _ e => isC e && (e.rexp != t.hdr.turnExp || e.phase != 0))
  let act := if j.arm then s.boards.act else none
  let recs := badIdx t.migr (fun i r =>
    (match raws[i]? with | some b => rsvBad b 13 1 | none => false)
    || decide (2 < r.action) || (r.action != 2 && r.conv != 0)
    || (r.action == 2 && !t.trackL.any (fun e => isC e && e.arg == r.conv))
    || decide (t.hdr.instLen < r.newOfs + r.len)
    || (match act with
        | some a => (r.action != 1 && decide (a.hdr.instLen < r.oldOfs + r.len)) || keepBad t a r
        | none => false))
  let lap := rangeClash (t.migr.zipIdx.map (fun x => (0, x.1.newOfs, x.1.newOfs + x.1.len, x.2)))
  let prev := t.hdr.mig && (!rsvBad j.raw 0x30 48
    || (j.arm && !(match s.boards.act with | some a => a.identity == t.hdr.prevDigest | none => false)))
  firstOf [conv.map (faultAt 3), failIf (!t.hdr.mig && t.trackL.any isC) 0x19, recs.map (faultAt 0x0E),
    lap.map (faultAt 0x0E), failIf prev 0x30]

/-! ### All checks (R103, R109) -/

/-- The checks in ascending code order. -/
def boardChecks (s : State) (j : CheckJob) : List (Nat × (Unit → Option Nat)) :=
  [(0x0101, fun _ => chk101 j), (0x0102, fun _ => chk102 j), (0x0103, fun _ => chk103 s j),
   (0x0104, fun _ => chk104 s j), (0x0105, fun _ => chk105 s j), (0x0106, fun _ => chk106 j),
   (0x0107, fun _ => chk107 s j), (0x0108, fun _ => chk108 j), (0x0109, fun _ => chk109 j),
   (0x010A, fun _ => chk10A j), (0x010B, fun _ => chk10B j), (0x010C, fun _ => chk10C j),
   (0x010D, fun _ => chk10D j), (0x010E, fun _ => chk10E j), (0x010F, fun _ => chk10F j),
   (0x0110, fun _ => chk110 j), (0x0111, fun _ => chk111 j), (0x0112, fun _ => chk112 j),
   (0x0113, fun _ => chk113 j), (0x0114, fun _ => chk114 j), (0x0115, fun _ => chk115 j),
   (0x0116, fun _ => chk116 j), (0x0117, fun _ => chk117 s j), (0x0118, fun _ => chk118 j),
   (0x0119, fun _ => chk119 j), (0x011A, fun _ => chk11A s j), (0x011B, fun _ => chk11B s j)]

/-- The detail of an uncorrectable flash read (0x011C): a record of a section of the board, or a header offset; which
one, no command says (Config.flashReadAt). -/
def flashReadDetail (raw : Bytes) (f : Nat) : Nat :=
  let i := Config.flashReadAt f 1
  match (parseDir raw)[Config.flashReadAt f 0]? with
  | some d => faultAt (d.type % 256) (i % max 1 d.count)
  | none => faultAt 0 (i % 256)

/-- The code and the detail of the first check that fails. -/
def firstFailure : List (Nat × (Unit → Option Nat)) → Option (Nat × Nat)
  | [] => none
  | (c, f) :: r => match f () with | some i => some (c, i) | none => firstFailure r

/-- A board's bytes are checked (R103). -/
def State.checkBoard (s : State) (raw : Bytes) (len : Nat) (arm : Bool) : Option (Nat × Nat) :=
  firstFailure (boardChecks s ⟨raw, parseBoard raw, len, arm⟩)

end Sys2Proof.Machine
end

