-- ==== Sys2Proof/Machine/Loader.lean ====
section
/-! DEFINITION. The board store and its commands, the load after a reset (R103 to R108, R268, R277 to R279,
R542). -/

namespace Sys2Proof.Machine

/-- Physical base of the DRAM working copy of the active (false) or the standby (true) board (R222). -/
def workCopy (standby : Bool) : Nat := boardCopyBase + b2n standby * 0x10000000

/-- A check has refused a board (R109): PG_ERR, BRD_INFO, REFUSED, BRD_CNT. -/
def State.boardRefused (s : State) (code info : Nat) : State :=
  let i := BitVec.ofNat 32 info
  let s := ((s.logErr pBRD code i).setReg Reg.brdInfo i).raise pBRD 1
  s.incSat Reg.brdCnt 31 16

/-- A board command has completed (R542): the result, SEQ, DONE. -/
def State.boardResult (s : State) (code info : Nat) : State :=
  let s := (s.setFld Reg.brdResult 15 0 code).setReg Reg.brdInfo (BitVec.ofNat 32 info)
  (s.incWrap Reg.brdResult 31 16).raise pBRD 0

/-- A board command is written (R105, R110, R542): while another runs it only logs 0x0005, in a state that
does not allow it it completes at once with 0x0005, otherwise it runs. -/
def State.boardCmd (s : State) (op : BrdOp) (allowed : Bool) : State :=
  if !s.domainUp 2 then s.downError pBRD
  else if s.boards.running.isSome then s.refuse Reg.brdCmd
  else if allowed then { s with boards := { s.boards with running := some op, writing := [], busyAt := s.opNs } }
  else (s.refuse Reg.brdCmd).boardResult 0x0005 (Reg.brdCmd % 0x1000)

/-- BRD_CMD_VERIFY (R105). -/
def brdCmdVerify (s : State) : State := s.boardCmd .verify true


/-- BRD_CMD_ARM (R105, R279): a STORED standby, no migration in progress; the loader loads no board while an essential
domain has failed (R399). -/
def brdCmdArm (s : State) : State :=
  s.boardCmd .arm (s.boards.standby == .stored && s.migr.isNone && !s.essentialFailed)

/-- BRD_CMD_DISARM (R105). -/
def brdCmdDisarm (s : State) : State := s.boardCmd .disarm (s.boards.standby == .armed)

/-- BRD_CMD_DISCARD (R105). -/
def brdCmdDiscard (s : State) : State := s.boardCmd .discard (s.boards.standby == .stored)

/-- BRD_CMD_ACTIVATE (R105): in BOOT with the standby STORED and no essential domain failed (R399). -/
def brdCmdActivate (s : State) : State :=
  s.boardCmd .activate (s.state == .boot && s.boards.standby == .stored && !s.essentialFailed)

/-- A checked board becomes the active one while the sequencer stands (R104, R105, R223, R235, R268): its
tables, its code, the regions, the instance store in area 0, the directions of the field channels. -/
def State.installBoard (s : State) (raw : Bytes) : State :=
  let t := parseBoard raw
  let s := { s with boards := { s.boards with act := some t, active := .loaded, loadDue := false } }
  let s := s.setFld Reg.movInst 0 0 0
  let s := s.writeMem (workCopy false) raw
  let s := ((s.loadCode t).initStore t 0).restoreRetained t 0
  let s := s.deriveRegions t
  let s := if s.domainUp 9 then s.fioDirections else s
  s.incSat Reg.brdCnt 15 0

/-- ARM prepares the standby (R277): its tables, its code, the instance area that the running board does not
own. -/
def State.armBoard (s : State) : State :=
  let raw := s.boards.standbyArea
  let t := parseBoard raw
  let s := { s with boards := { s.boards with stb := some t, standby := .armed } }
  let s := s.writeMem (workCopy true) raw
  let s := (s.loadCode t).initStore t (1 - s.fld Reg.movInst 0 0)
  s.incSat Reg.brdCnt 15 0

/-- The check of a command: the faults of R109 in code order, then an uncorrectable flash read. -/
def State.commandCheck (s : State) (raw : Bytes) (len : Nat) (arm readErr : Bool) : Option (Nat × Nat) :=
  match s.checkBoard raw len arm with
  | some f => some f
  | none => if readErr then some (0x011C, flashReadDetail raw s.free) else none

/-- The board in the staging area (R105): BRD_STG_LEN bytes; what a header has beyond them reads 0 (assumption 102). -/
def State.stagedBoard (s : State) : Bytes := s.mem.read boardStaging (min (s.reg Reg.brdStgLen).toNat 0x10000000)

/-- The check of the staged board (R105). -/
def State.stagedCheck (s : State) : Option (Nat × Nat) :=
  s.commandCheck s.stagedBoard (s.reg Reg.brdStgLen).toNat false false

/-- BRD_CMD_STORE (R105): while the standby is EMPTY or STORED. The staged board is checked and its flash write begins:
the standby area is EMPTY from then on until the board is stored. A board that a check refuses changes nothing. That
both happen at the command is assumption 72. -/
def brdCmdStore (s : State) : State :=
  let ok := s.boards.running.isNone && s.boards.standby != .armed
  let t := s.boardCmd .store (s.boards.standby != .armed)
  if ok && s.stagedCheck.isNone then
    { t with boards := { t.boards with
      writing := s.stagedBoard, standbyArea := [], standby := .empty, stb := none } }
  else t

/-- A command that checks a board completes (R103, R542): a refused board changes nothing. -/
def State.finishCheck (s : State) (f : Option (Nat × Nat)) (act : State → State) : State :=
  match f with
  | some (c, i) => (s.takeFree.boardRefused c i).boardResult c i
  | none => (act s).boardResult 0 0

/-- STORE writes the standby area (R105); a flash write that fails leaves it EMPTY and raises FLASH_ERR. -/
def State.storeBoard (s : State) (raw : Bytes) (writeErr : Bool) : State :=
  let b := s.boards
  if writeErr then
    { s with boards := { b with standbyArea := [], standby := .empty, stb := none, writing := [] } }.raise pBRD 3
  else { s with boards := { b with standbyArea := raw, standby := .stored, stb := none, writing := [] } }

/-- ACTIVATE exchanges the areas and loads the new active board; every written mark is cleared (R105, R107, R543). It does
not raise SWITCHED, which the switch of an online change raises (assumption 103). -/
def State.activateBoard (s : State) : State :=
  let b := s.boards
  let b := { b with
    activeArea := b.standbyArea, standbyArea := b.activeArea, stb := none, rolesDirty := true
    standby := if b.activeArea.isEmpty then .empty else .stored }
  { s with boards := b, retMark := [] }.installBoard s.boards.standbyArea

/-- A staging claim of the boards ends (R477). -/
def State.endBoardClaim (s : State) : State := { s with host := { s.host with boardClaim := none } }

/-- STORE completes: the board whose write has begun is stored; a staged board that was refused is refused (R103). -/
def State.storeDone (s : State) (writeErr : Bool) : State :=
  match s.boards.writing, s.stagedCheck with
  | [], some f => s.finishCheck (some f) id
  | w, _ =>
    let t := s.storeBoard (if w.isEmpty then s.stagedBoard else w) writeErr
    if writeErr then t.takeFree.boardResult (Config.boardWriteCode s.free).toNat 0 else t.boardResult 0 0

/-- BRD_CMD_DONE (R542): the running command completes. A DISCARD whose flash write fails raises FLASH_ERR, empties the
area all the same and completes with CODE 0 (assumption 70). A wedged block gets no further (R384). -/
def brdCmdDone (readErr writeErr : Bool) (s : State) : State :=
  match s.boards.running with
  | none => s
  | some op =>
    if s.wedged.contains pBRD then s else
    let s := { s with boards := { s.boards with running := none } }
    let area := s.boards.standbyArea
    match op with
    | .verify => (s.finishCheck s.stagedCheck id).endBoardClaim
    | .store => (s.storeDone writeErr).endBoardClaim
    | .arm => s.finishCheck (s.commandCheck area area.length true readErr) State.armBoard
    | .disarm => { s with boards := { s.boards with standby := .stored, stb := none } }.boardResult 0 0
    | .discard =>
      let s := if writeErr then s.raise pBRD 3 else s
      { s with boards := { s.boards with standbyArea := [], standby := .empty, stb := none } }.boardResult 0 0
    | .activate => s.finishCheck (s.commandCheck area area.length false readErr) State.activateBoard

/-- BOARD_LOAD_AT_RESET (R104): once SEQ is released and no essential domain has failed (R399), the loader
checks the active area and loads it. Without a board, or with one that a check refuses, ACTIVE is NONE. -/
def boardLoadAtReset (readErr : Bool) (s : State) : State :=
  if s.state ≠ .boot || !(s.domainUp 1 && s.domainUp 2) || s.essentialFailed || !s.boards.loadDue
      || s.boards.running.isSome then s
  else
    let raw := s.boards.activeArea
    let gone := { s with boards := { s.boards with act := none, active := .none, loadDue := false } }
    if raw.isEmpty then gone
    else
      match s.commandCheck raw raw.length false readErr with
      | some (c, i) => gone.takeFree.boardRefused c i
      | none => s.installBoard raw

/-- BRD_CMD_VERIFY (R105). -/
def execBrdCmdVerify (s : State) : Host.Outcome State Fault Refusal := .next (brdCmdVerify s)
/-- BRD_CMD_STORE (R105). -/
def execBrdCmdStore (s : State) : Host.Outcome State Fault Refusal := .next (brdCmdStore s)
/-- BRD_CMD_ARM (R105). -/
def execBrdCmdArm (s : State) : Host.Outcome State Fault Refusal := .next (brdCmdArm s)
/-- BRD_CMD_DISARM (R105). -/
def execBrdCmdDisarm (s : State) : Host.Outcome State Fault Refusal := .next (brdCmdDisarm s)
/-- BRD_CMD_DISCARD (R105). -/
def execBrdCmdDiscard (s : State) : Host.Outcome State Fault Refusal := .next (brdCmdDiscard s)
/-- BRD_CMD_ACTIVATE (R105). -/
def execBrdCmdActivate (s : State) : Host.Outcome State Fault Refusal := .next (brdCmdActivate s)
/-- BRD_CMD_DONE (R542). -/
def execBrdCmdDone (readErr writeErr : Bool) (s : State) : Host.Outcome State Fault Refusal :=
  .next (brdCmdDone readErr writeErr s)
/-- BOARD_LOAD_AT_RESET (R104). -/
def execBoardLoadAtReset (readErr : Bool) (s : State) : Host.Outcome State Fault Refusal :=
  .next (boardLoadAtReset readErr s)

end Sys2Proof.Machine
end

