-- ==== Sys2Proof/Machine/Mode.lean ====
section
/-! DEFINITION. The module states and what a change of state brings with it (R330 to R334), the castle latch's
driver (R350 to R353), the start and stop of the sequencer that go with them (R112, R113), stand-down (R376 to
R378). -/

namespace Sys2Proof.Machine

/-! ### The sequencer's start and stop (R112, R113) -/

/-- BSQ START where it is accepted. -/
def State.seqStart (s : State) : State :=
  if s.seqr.state = .off ∧ s.boards.active = .loaded then { s with seqr := { s.seqr with state := .wait, cmdAt := s.now } } else s

/-- A STOP is accepted: it takes effect at the next round boundary; in OFF it changes nothing, in FAULT STOP_PEND stays
set (assumption 74). -/
def State.seqStop (s : State) : State :=
  if s.seqr.state = .off then s else { s with seqr := { s.seqr with stopPend := true, cmdAt := s.now } }

/-! ### Replacement (R380) -/

/-- Port `p` of channel `c` is borne off (R324, R329). -/
def State.portBorne (s : State) (c p : Nat) : Bool := s.fld (Reg.mbPort0 c + 4 * p) 1 0 == 3

/-- Both ports of a port pair are borne off (R326). -/
def State.pairBorne (s : State) : Bool := (List.range 4).any (fun p => s.portBorne 0 p && s.portBorne 1 p)

/-- The module needs replacement (R380). -/
def State.needsReplacement (s : State) : Bool :=
  decide (3 ≤ ((List.range 16).filter (fun n => bit (s.reg Reg.cmpBorne) n)).length) || s.pairBorne

/-! ### The lead line (R350 to R353) -/

/-- The castle latch enables the driver (R352, R356). -/
def State.driveLine (s : State) : State :=
  ((s.setFld Reg.ilkStat 0 0 1).setFld Reg.ilkStat 3 3 0).raise pILK 0

/-! ### Changes of state (R330) -/

/-- PAIR_STATE (R369). -/
def State.pairState (s : State) : Word :=
  BitVec.ofNat 32 (s.state.code + b2n s.isB * 8 + s.partnerState * 16 + b2n s.pair.check.isSome * 128)
    ||| (s.reg Reg.pairState &&& 0x300)

/-- The change of state itself: the line of R333, STATE_CHG, one record, the notification (R330, R479). -/
def State.toState (s : State) (st : ModState) : State :=
  if s.state = st then s
  else
    let was := s.state
    let s := if was = .leader ∨ st = .stoodDown then s.releaseLine else s
    let s := { s with state := st, pair := { s.pair with leadRel := false, joinRel := false, episode := false, xfer := none, reqId := [] } }
    let s := (s.raise pPAIR 0).recIrq pPAIR 0 .normal (toLe 4 (was.code + st.code * 16))
    s.loopFollow.notify 3 (wordBytes s.pairState ++ wordBytes s.rsn)

/-- PAIR_JOIN PHASE. -/
def State.joinPhase (s : State) (p : Nat) : State := s.setFld Reg.pairJoin 2 0 p

/-- The module enters JOINING: open contexts close (R218, R334), a latch that is armed is disarmed, JOINC REQUEST is sent
(R360). -/
def State.enterJoining (s : State) : State :=
  let boot := s.state == .boot
  let s := ((s.toState .joining).closeContexts).setFld Reg.ilkStat 3 3 0
  let s := { s with pair := { s.pair with joinDone := false, joinLand := 0, check := none, castle := none
                                          xfer := none, reqId := [], fromBoot := boot } }
  (s.sendJoinc 1 0 s.rsn).joinPhase 1

/-- The module returns from JOINING to BOOT: a STOP, the instance store is built anew (R332). -/
def State.joinToBoot (s : State) : State :=
  let s := ((s.toState .boot).seqStop).joinPhase 0
  match s.boards.act with
  | some t =>
    let a := s.fld Reg.movInst 0 0
    (s.initStore t a).restoreRetained t a
  | none => s

/-- The module becomes LEADER after the partner's line has been dead (R352); from BOOT the sequencer is started
(R331). -/
def State.takeLead (s : State) : State :=
  let was := s.state
  let s := (s.driveLine.incSat Reg.ilkCnt 7 0).toState .leader
  if was = .boot then s.seqStart else s

/-- A LEADER gives up the lead without castling: FOLLOWER while the link is up, else MUTE (R330, R352, R354). -/
def State.dropLead (s : State) : State := s.toState (if s.linkUp then .follower else .mute)

/-! ### Stand-down (R376 to R378) -/

/-- The module enters STOOD_DOWN for the cause of R376 (R378). -/
def State.standDown (s : State) (cause : Nat) : State :=
  let s := (s.toState .stoodDown).seqStop
  let s := { s with sdPend := [], pair := { s.pair with check := none, castle := none, xfer := none, change := none } }
  let s := s.setReg Reg.hltSd (BitVec.ofNat 32 (cause + 16))
  let i := BitVec.ofNat 32 cause
  let s := ((s.raise pHLT 1).logErr pHLT 0x0103 i).recErr pHLT 0x0103 i .critical []
  (s.fioApplyAll).loopSet

/-- The states from which a module may stand down (R330). -/
def State.mayStandDown (s : State) : Bool :=
  s.state == .joining || s.state == .follower || s.state == .leader || s.state == .mute

/-- The partner can carry control, or need not (R377). -/
def State.partnerCarries (s : State) : Bool :=
  ((s.state == .follower || s.state == .mute) && s.partnerLive)
  || (s.state == .leader && s.linkUp && s.partnerState == 2)
  || s.state == .joining || bit (s.reg Reg.hltCtrl) 0

/-- While the partner cannot carry control every cause that has arisen is pending: HLT_SD PENDING, SD_PENDING and one
critical record for each (R377). -/
def State.sdShow (s : State) : State :=
  if s.partnerCarries then s
  else
    (s.sdPend.filter (fun c => !c.2)).foldl (fun s c =>
      let s := { s with sdPend := s.sdPend.map (fun (x : Nat × Bool) => if x.1 = c.1 then (x.1, true) else x) }
      let s := s.setReg Reg.hltSd (BitVec.ofNat 32 (c.1 + 8))
      (s.raise pHLT 2).recIrq pHLT 2 .critical (toLe 4 c.1)) s

/-- A stand-down cause of code 1 to 3 arises (R376, R377). -/
def State.sdCause (s : State) (cause : Nat) : State :=
  if s.sdPend.any (fun c => c.1 == cause) || !s.mayStandDown then s
  else { s with sdPend := s.sdPend ++ [(cause, false)] }.sdShow

/-- Cause LANES clears when the applied mask shows two lanes out or fewer (R377). -/
def State.sdLanes (s : State) : State :=
  let out := ((List.range 16).filter (fun n => s.seqr.applied.getLsbD n)).length
  if 3 ≤ out then s.sdCause 1
  else if s.sdPend.any (fun c => c.1 == 1) then
    let l := s.sdPend.filter (fun c => c.1 != 1)
    let s := { s with sdPend := l }
    match l.filter (fun c => c.2) with
    | [] => s.setReg Reg.hltSd 0
    | c :: _ => s.setReg Reg.hltSd (BitVec.ofNat 32 (c.1 + 8))
  else s

end Sys2Proof.Machine
end

