-- ==== Sys2Proof/Machine/Health.lean ====
section
/-! DEFINITION. The continuous self-test, wedged blocks, the die temperature (R383 to R388). -/

namespace Sys2Proof.Machine

/-! ### The test rotation (R385 to R387) -/

/-- The position that the next TEST ply of lane `n` runs (R385, R387). -/
def State.testPos (s : State) (n : Fin 16) : Nat :=
  if 0 < s.lanes[n].rolls then 135 - s.lanes[n].rolls else s.fld (Reg.bank n Reg.hltPos) 7 0

/-- The position advances after a TEST ply that ends (R385, R387). -/
def State.testStep (s : State) (n : Fin 16) : State :=
  if 0 < s.lanes[n].rolls then s.modLane n (fun l => { l with rolls := l.rolls - 1 })
  else
    let k := Reg.bank n Reg.hltPos
    let p := s.fld k 7 0 + 1
    if p = 135 then (s.setFld k 7 0 0).incWrap k 31 16 else s.setFld k 7 0 p

/-- A segment of lane `n` has failed (R386, R388). -/
def State.segFail (s : State) (n : Fin 16) (pos : Nat) : State :=
  let s := s.incSat (Reg.bank n Reg.hltCnt) 31 16
  let s := s.setReg Reg.hltLast (BitVec.ofNat 32 (n.val + pos * 16 + b2n (decide (128 ≤ pos)) * 2 ^ 12))
  let s := s.setReg Reg.hltLastRsn s.rsn
  let i := BitVec.ofNat 32 (n.val + pos * 16)
  ((s.raise pHLT 0).logErr pHLT 0x0101 i).recErr pHLT 0x0101 i .normal []

/-- A TEST ply of lane `n` has run its segment with the given outcome (R385, R386): a failed LBIST segment bars
the lane, a failed roll segment makes it untrusted. -/
def State.testSegment (s : State) (n : Fin 16) (res : SegResult) : State :=
  let pos := s.testPos n
  let s := s.testStep n
  let roll := decide (128 ≤ pos)
  let s := if !roll then s else if res = .pass then s.incWrap (Reg.bank n Reg.cmpRollCnt) 15 0
    else s.incSat (Reg.bank n Reg.cmpRollCnt) 31 16
  match res with
  | .pass => s.incWrap (Reg.bank n Reg.hltCnt) 15 0
  | .lbistFail => (s.segFail n pos).mismatch n 13 pos 0
  | .silent line => (s.segFail n pos).untrusted n 10 line.toNat true true
  | .stray line => (s.segFail n pos).untrusted n 11 line.toNat true true
  | .railSilent => (s.segFail n pos).untrusted n 10 0xFF true true

/-! ### Wedged blocks and the temperature (R383, R384, R388) -/

/-- The operating time in ns at which what R383 watches on the page has lasted as long as it asks, if it is under way. -/
def State.wedgeAt (s : State) (p : Nat) : Option Nat :=
  if p = pBRD then (if s.boards.running.isSome then some (s.boards.busyAt + 60000000000) else none)
  else if 0x20 ≤ p ∧ p ≤ 0x5F then
    (s.descs.find? (fun d => d.ring + 0x20 == p && d.halt.isNone)).map (fun d => d.doneAt + 100000000)
  else if p = pMMU then (if bit (s.reg Reg.mmuInvStat) 0 then some (s.invAt + 10000000) else none)
  else if p = pGMB then (if s.gmb.toList.any (fun c => c.isOpen && c.overdue) then some 0 else none)
  else if h : 0x08 ≤ p ∧ p ≤ 0x17 then
    let l := s.lanes[p - 0x08]'(by omega)
    if l.busy3 s.opNs then l.busy.map (fun b => b.since + 3200) else none
  else none

/-- A lane whose save or restore is wedged stays in it until a reset (R383, R384). -/
def State.stickLane (s : State) (p : Nat) : State :=
  if 0x08 ≤ p ∧ p ≤ 0x17 then s.modLane (Fin.ofNat 16 (p - 0x08)) (fun l => { l with stuck := true }) else s

/-- BLOCK_WEDGED (R383): the block is reported. -/
def State.reportWedge (s : State) (p : Nat) : State :=
  let i := BitVec.ofNat 32 p
  let s := (s.setFld Reg.hltWedge 7 0 p).incSat Reg.hltWedge 31 16
  let s := { s with wedged := sins s.wedged p }
  ((s.raise pHLT 3).logErr pHLT 0x0102 i).recErr pHLT 0x0102 i .normal []

/-- A steward that runs writes its record WEDGE_RESET and owes the request for a System reset, within 10 ms (R384, R482,
R484). -/
def State.stewardOnWedge (s : State) (p : Nat) : State :=
  if s.domainUp 8 && s.stewardUp && !s.inRecovery && !s.handingOver && s.host.wedgeAt.isNone then
    { s with host := { s.host with wedgeAt := some s.opNs } }.event 0xE007 pSTW .critical (toLe 1 p ++ zeros 3)
  else s

/-- BLOCK_WEDGED (R383, R384): one report for a block that stays wedged. The steward requests the reset once its record is
written, or when the 10 ms are over (assumption 107). -/
def blockWedged (page : BitVec 8) (s : State) : State :=
  let p := page.toNat
  match s.wedgeAt p with
  | none => s
  | some t => if !s.domainUp 2 || s.wedged.contains p then s else (((s.waitOp t).stickLane p).reportWedge p).stewardOnWedge p

/-- TEMP_WARN (R388): the die temperature is measured, in units of 0.1 °C; at HLT_CTRL TEMP_WARN it warns. -/
def tempWarn (temp : BitVec 16) (s : State) : State :=
  if !s.domainUp 2 then s
  else
    let was := (BitVec.ofNat 16 (s.fld Reg.hltEnv 15 0)).toInt
    let lim : Int := 10 * s.fld Reg.hltCtrl 15 8
    let s := s.setFld Reg.hltEnv 15 0 temp.toNat
    if lim ≤ temp.toInt ∧ was < lim then (s.raise pHLT 4).recIrq pHLT 4 .normal (toLe 4 temp.toNat) else s

/-- BLOCK_WEDGED (R383). -/
def execBlockWedged (page : BitVec 8) (s : State) : Host.Outcome State Fault Refusal := .next (blockWedged page s)
/-- TEMP_WARN (R388). -/
def execTempWarn (temp : BitVec 16) (s : State) : Host.Outcome State Fault Refusal := .next (tempWarn temp s)

end Sys2Proof.Machine
end

