-- ==== Sys2Proof/Machine/SeqOps.lean ====
section
/-! DEFINITION. How a ply ends (R120 to R122, R130, R148, R166), quality events on image words (R263, R264),
board mover faults (R242 to R244): the shared operations of the sequencer's commands. -/

namespace Sys2Proof.Machine

/-! ### Quality events (R97, R98, R263, R264) -/

/-- The code that event `ev` gives by default (R98). -/
def qualDefault (ev : Nat) : BitVec 4 :=
  match ev with
  | 0 => 0x8 | 1 => 0xC | 2 => 0x4 | 3 => 0xC | 4 => 0xC | 5 => 0x9 | _ => 0xC

/-- The QUAL record of event `ev` that covers the word at IMEM offset `ofs` (R98). -/
def State.qualRule (s : State) (ev ofs : Nat) : Option QualRec :=
  match s.boards.act with
  | none => none
  | some t => t.quals.find? (fun r => r.event == ev && decide (r.ofs ≤ ofs ∧ ofs < r.ofs + 4 * r.words))

/-- What event `ev` makes of a value and quality code at IMEM offset `ofs` (R264). -/
def State.qualValue (s : State) (ev ofs : Nat) (v : Word × BitVec 4) : Word × BitVec 4 :=
  match s.qualRule ev ofs with
  | some r => (if r.action = 1 then r.subst else v.1, qmerge v.2 (BitVec.ofNat 4 r.qual))
  | none => (v.1, qmerge v.2 (qualDefault ev))

/-- Event `ev` is applied to the word at IMEM offset `ofs` (R264). Events 4 to 6 are writes that a state transfer
tracks, events 0 to 3 are not (R361). -/
def State.qualEvent (s : State) (ev ofs : Nat) : State :=
  let v := s.qualValue ev ofs (s.imemWord ofs, s.imemQual ofs)
  if v = (s.imemWord ofs, s.imemQual ofs) then s
  else if 4 ≤ ev then s.imemPut ofs v.1 v.2
  else s.imemSet ofs v.1 v.2

/-- Event `ev` is applied to `n` words from IMEM offset `ofs` on. -/
def State.qualRange (s : State) (ev ofs n : Nat) : State :=
  (List.range n).foldl (fun s i => s.qualEvent ev (ofs + 4 * i)) s

/-! ### The end of a ply -/

/-- The TRACK_L entry is work whose failure raises event 5 or 6: NOMINAL, RERUN or CONVERT (R263). -/
abbrev Entry.raisesQual (e : Entry) : Bool := e.etype == 1 && (e.kind == 0 || e.kind == 3 || e.kind == 4)

/-- The deadline of a ply in flight, in global time (R120). -/
def Lane.deadline (l : Lane) (p : Ply) : BitVec 64 := l.start + BitVec.ofNat 64 (p.entry.dur * 50)

/-- The job status word of lane `n` (R170). -/
def State.jobWord (s : State) (n : Fin 16) : Word := s.mem.word (laneBase n + s.saveArea)

/-- The job status word of lane `n` is written. -/
def State.setJobWord (s : State) (n : Fin 16) (w : Word) : State := s.writeMem (laneBase n + s.saveArea) (wordBytes w)

/-- A job's state is STOPPED and invalid (R173, R253). -/
def jobDead (w : Word) : Word := jobState w 3 ||| 4

/-- Lane `n` becomes RUNNING (R193); a job that was lost on it is marked (R173). -/
def State.laneRun (s : State) (n : Fin 16) : State :=
  let s := s.setLane n .running
  if s.lanes[n].bgLost then (s.setJobWord n (jobDead (s.jobWord n))).modLane n (fun l => { l with bgLost := false }) else s

/-- The ply of lane `n` is over: no ply is in flight, its write log is empty. -/
def State.clearPly (s : State) (n : Fin 16) : State :=
  let s := s.setFld (Reg.laneCur n) 16 16 0
  let s := s.modLane n (fun l => { l with ply := none, log := .empty, act := if l.act = .ply then .none else l.act })
  s.settleLane n

/-- Outcome 2 of a ply that ends late; one halted by the comparator keeps outcome 4 (R122, R166, R183). -/
def State.lateOutcome (s : State) (n : Fin 16) (p : Ply) : State :=
  match p.phase with
  | .halted => s
  | .trapped => s.plyOutcome n 2
  | _ => s.endOfPly n 2

/-- What a ply that ends late leaves behind (R122): the counts, quality event 5, a context spoiled with cause LATE
(R209). -/
def State.countLate (s : State) (n : Fin 16) (p : Ply) : State :=
  let e := p.entry
  let s := (s.lateOutcome n p).incSat (Reg.bank n Reg.bsqLaneCnt) 15 0
  let s := (s.setReg Reg.bsqLastAbort (BitVec.ofNat 32 (p.idx % 2 ^ 16 + n.val * 2 ^ 16))).raise pBSQ 2
  let s := { s with
    seqr := { s.seqr with log := { s.seqr.log with late := tinc s.seqr.log.late n } }
    pair := { s.pair with late := s.pair.late + 1 } }
  let s := if e.raisesQual then s.modTask e.task (fun t => { t with late := true }) else s
  if e.isGambit then s.spoil e.task 4 n else s

/-- The ply in flight on lane `n` gets its ABORT (R122): late, its writes are discarded, a debug halt ends (R198).
One that has ended as trapped is only settled (R166). -/
def State.abortPly (s : State) (n : Fin 16) : State :=
  match s.lanes[n].ply with
  | none => s
  | some p =>
    let s := if p.phase = .seen then s else s.countLate n p
    (s.clearPly n).modLane n (fun l => { l with halted := if l.state = .bench then l.halted else false })

/-- An enabled PLY entry is dropped without dispatch (R130). -/
def State.dropPly (s : State) (n : Fin 16) (e : Entry) : State :=
  let s := (s.incSat (Reg.bank n Reg.bsqLaneCnt) 31 16).raise pBSQ 3
  let s := { s with
    seqr := { s.seqr with log := { s.seqr.log with drop := tinc s.seqr.log.drop n } }
    pair := { s.pair with late := s.pair.late + 1 } }
  if e.raisesQual then s.modTask e.task (fun t => { t with late := true }) else s

/-- The line of lane `n` that the write log holds is copied into the shadow buffer before a GAMBIT ply's values
reach it (R207). -/
def State.keepOriginal (s : State) (n : Fin 16) (line : Nat) : State :=
  if s.lanes[n].shadowBuf.any (fun x => x.addr == line) then s
  else
    let a := laneBase n + line
    let ps := (List.range 16).filterMap (fun i => if s.poison.contains (a + 4 * i) then some (line + 4 * i) else none)
    let s := s.modLane n (fun l => { l with shadowBuf := l.shadowBuf ++ [⟨line, s.mem.read a 64, ps⟩] })
    s.peak (Reg.bank n Reg.gmbLane) 27 16 s.lanes[n].shadowBuf.length

/-- The logged bytes of one DTCM line are written whole; words that the ply stored lose their poison (R150,
R229). -/
def State.commitLine (s : State) (n : Fin 16) (lg : WriteLog) (line : Nat) : State :=
  let a := laneBase n + line
  let b := (List.range 64).map (fun i => tget (s.mem.byte (a + i)) lg.dtcm (line + i))
  { s with
    mem := s.mem.write a b
    poison := s.poison.filter (fun p => !(decide (a ≤ p ∧ p < a + 64) && lg.words.contains (p - laneBase n))) }

/-- The IMEM words that lanes have committed in the present BCLK cycle, each with the highest of those lanes (R150). -/
def State.tied (s : State) : List (Nat × Nat) := if s.seqr.comAt = s.time.gt then s.seqr.comWords else []

/-- Lane `n` has the highest number of the lanes that commit the IMEM word at `ofs` in this BCLK cycle (R150). -/
def State.winsWord (s : State) (n : Fin 16) (ofs : Nat) : Bool := decide (tget 0 s.tied ofs ≤ n.val)

/-- Lane `n` has committed the words of a list in the present BCLK cycle. -/
def State.noteCommit (s : State) (n : Fin 16) (words : List Nat) : State :=
  let l := words.foldl (fun l ofs => tput l ofs (max (tget 0 l ofs) n.val)) s.tied
  { s with seqr := { s.seqr with comAt := s.time.gt, comWords := l } }

/-- One logged IMEM word is written with its quality, unless a higher lane commits it in the same cycle (R150); a word of
an output image takes its written mark (R148, R260). -/
def State.commitWord (s : State) (n : Fin 16) (lg : WriteLog) (ofs : Nat) : State :=
  let s := if s.winsWord n ofs then
      s.imemSet ofs (tget (s.imemWord ofs) lg.imem ofs) (tget (s.imemQual ofs) lg.qual ofs) else s
  if (List.finRange 16).any (fun t => s.inOutput t ofs) then { s with written := sins s.written (ofs / 4) } else s

/-- One logged word of a GAMBIT ply is written to the staging area, unless a higher lane commits it in the same cycle
(R150, R206); in a lane of the task's context its line takes the staged mark (R547). -/
def State.stageWord (s : State) (n : Fin 16) (t : Fin 16) (lg : WriteLog) (ofs : Nat) : State :=
  let s := if s.winsWord n ofs then
      s.imemSet ofs (tget (s.imemWord ofs) lg.imem ofs) (tget (s.imemQual ofs) lg.qual ofs) else s
  match s.taskRec t with
  | some r =>
    if s.lanes[n].inCtx t then
      s.modCtx t (fun c => { c with staged := sins c.staged ((ofs - r.stageBase + r.outBase) / 64) })
    else s
  | none => s

/-- The writes of the ply on lane `n` become visible, all at once (R148, R205, R207). -/
def State.publish (s : State) (n : Fin 16) (e : Entry) : State :=
  let lg := s.lanes[n].log
  let lines := lg.lines.filter (fun a => decide (0x00400000 ≤ a ∧ a < 0x00800000))
  let s := if e.isGambit && s.lanes[n].inCtx e.task then lines.foldl (fun s a => s.keepOriginal n a) s else s
  let s := lines.foldl (fun s a => s.commitLine n lg a) s
  let words := (lg.imem.map (·.1) ++ lg.qual.map (·.1)).foldl sins []
  let s := if e.isGambit then words.foldl (fun s ofs => s.stageWord n e.task lg ofs) s
    else
      let won := words.filter (s.winsWord n)
      let t := words.foldl (fun s ofs => s.commitWord n lg ofs) s
      ((won.map (· / 64)).foldl sins []).foldl (fun s line =>
        s.touchLine line (4 * (won.filter (· / 64 == line)).length)) t
  s.noteCommit n words

/-- The sequencer sends COMMIT (R120): the ply's writes are published. -/
def State.commitPly (s : State) (n : Fin 16) : State :=
  match s.lanes[n].ply with
  | none => s
  | some p =>
    let s := (s.endOfPly n 1).publish n p.entry
    (s.incWrap (Reg.laneCnt n) 15 0).clearPly n

/-- The sequencer has seen TRAP before the deadline (R166, R167, R209): the ply has ended as trapped, OUTCOME 3; it stays
in flight until its ABORT. A trap spoils a context only when it is seen: one that is not seen in time is LATE
(assumption 100). -/
def State.trapSeen (s : State) (n : Fin 16) : State :=
  match s.lanes[n].ply with
  | none => s
  | some p =>
    let e := p.entry
    let s := if e.raisesQual then s.modTask e.task (fun t => { t with trapped := true }) else s
    let s := if e.isGambit then s.spoil e.task 2 n else s
    (s.plyOutcome n 3).modLane n (fun l => { l with ply := some { p with phase := .seen } })

/-- Every ply in flight is decided at once: aborted (R113, R139). -/
def State.abortAll (s : State) : State := over16 (fun s n => s.abortPly n) s

/-! ### Board mover faults (R242 to R244) -/

/-- The slot record of a slot of the active board. -/
def State.slotRec (s : State) (k : Nat) : Option SlotRec :=
  match s.boards.act with
  | some t => t.slotRec k
  | none => none

/-- The IMEM words that a MOVE entry writes, as (offset, words) (R244). -/
def State.moveDests (s : State) (e : Entry) : List (Nat × Nat) :=
  match s.boards.act with
  | none => []
  | some t =>
    if e.mkind = 2 then (t.iomapOf (e.ref % 0x10000)).map (fun r => (r.imemOfs, r.words))
    else if e.mkind = 0 then
      match t.xfers[e.ref]? with
      | some x => if imemBase ≤ x.dst ∧ x.dst < imemBase + 0x04000000 then [(x.dst - imemBase, x.len / 4)] else []
      | none => []
    else []

/-- QUAL event 4 of a transfer that faulted (R244). -/
def State.moverQual (s : State) (e : Entry) : State :=
  if e.mkind = 3 then { s with net := { s.net with txBuf := s.net.txBuf.filter (fun b => b.1 != e.ref % 0x10000) } }
  else
    match s.moveDests e with
    | [] => if e.mkind = 2 then s else s.modTask e.task (fun t => { t with moverEv := true })
    | l => l.foldl (fun s r => s.qualRange 4 r.1 r.2) s

/-- A board mover fault (R243, R256): cause 1 RANGE, 2 ECC, 3 OVERRUN, at physical address `addr`. -/
def State.moverFault (s : State) (x : MoverXfer) (cause addr : Nat) : State :=
  let m := x.entry.mover
  let s := { s with movers := s.movers.filter (fun y => y.entry.mover != m) }
  let s := s.setReg Reg.movBmLast (BitVec.ofNat 32 (x.idx % 2 ^ 17 + m * 2 ^ 17 + cause * 2 ^ 20))
  let s := (s.setReg Reg.movBmAddrLo (BitVec.ofNat 32 addr)).setReg Reg.movBmAddrHi (BitVec.ofNat 32 (addr / 2 ^ 32 % 256))
  let s := (s.setFld Reg.movBmFault m m 1).incSat Reg.movBmFault 31 16
  let i := BitVec.ofNat 32 (x.idx % 2 ^ 17 + m * 2 ^ 24 + cause * 2 ^ 28)
  let s := ((s.raise pMOV 0).logErr pMOV 0x0101 i).recErr pMOV 0x0101 i .normal []
  let s := s.evidence
  let s := s.moverQual x.entry
  if cause = 2 then s else s.sdCause 3

/-- A mover that has not finished is stopped at its deadline (R124). -/
def State.moverOverrun (s : State) (x : MoverXfer) : State :=
  let i := BitVec.ofNat 32 (x.idx % 2 ^ 17 + x.entry.mover * 2 ^ 24 + 2 * 2 ^ 30)
  let s := (s.raise pBSQ 8).logErr pBSQ 0x0103 i
  let s := { s with seqr := { s.seqr with log := { s.seqr.log with ovr := tinc s.seqr.log.ovr x.entry.mover } } }
  s.moverFault x 3 x.next

/-- Every mover in flight is stopped as overrun (R139). -/
def State.stopMovers (s : State) : State :=
  let l := s.movers.filter (fun x => !x.isDone)
  let s := l.foldl (fun s x => s.moverOverrun x) s
  { s with movers := [] }

end Sys2Proof.Machine
end

