-- ==== Sys2Proof/Machine/Time.lean ====
section
/-! DEFINITION. The time base: measurements, correction, states, steps (R38 to R55, R544 to R546). -/

namespace Sys2Proof.Machine

/-! ### States (R52, R55) -/

/-- The module reacts to the loss of its time base (R330). -/
def State.onUnsync (s : State) : State :=
  if s.state = .follower ∨ (s.state = .leader ∧ s.linkUp = true ∧ s.partnerState = 2) then s.enterJoining else s

/-- The time base changes state: STATE_CHG (R63); TIM_STEP_CMD lapses when UNSYNC is left (R545); SEQ restarts when
SYNCED is entered (R295). -/
def State.toTb (s : State) (st : TbState) : State :=
  if s.time.state = st then s
  else
    let was := s.time.state
    let tb := { s.time with state := st, inState := 0, good := 0 }
    let tb := if st = .unsync then { tb with noCorr := 0, search := [] } else tb
    let tb := if was = .unsync then { tb with stepPend := none } else tb
    let s := { s with time := tb }
    let s := if st = .synced then { s with net := { s.net with ownSeq := [] } } else s
    let s := if st = .unsync then s.incSat Reg.timEvtCnt 15 0 else s
    let s := s.raise pTIM 0
    if st = .unsync then s.onUnsync else s

/-! ### Measuring (R45 to R48, R53) -/

/-- Of two copies on one channel the first one used counts. -/
def firstUsed (x : Option SyncCopy) (c : SyncCopy) : Option SyncCopy :=
  match x with
  | some y => if y.used then some y else some c
  | none => some c

/-- A copy of the frame of sync node `j` is put among the values of the round; the first used copy a channel counts. -/
def putMeas (l : List SyncMeas) (j : Nat) (ch : Chan) (c : SyncCopy) : List SyncMeas :=
  if l.any (fun m => m.j == j) then
    l.map (fun m => if m.j = j then
        (match ch with
         | .a => { m with a := firstUsed m.a c }
         | .b => { m with b := firstUsed m.b c })
      else m)
  else l ++ [match ch with | .a => ⟨j, some c, none⟩ | .b => ⟨j, none, some c⟩]

/-- What the copies of one sync node give (R47): a value in half ns, none, or a disagreement. -/
inductive NodeValue where
  | value (v2 : Int)
  | none
  | disagree
  deriving DecidableEq, Repr

/-- The reduction of R47. -/
def SyncMeas.reduce (m : SyncMeas) : NodeValue :=
  let u := fun (c : Option SyncCopy) => match c with
    | some x => if x.used then some x.dev else Option.none
    | Option.none => Option.none
  match u m.a, u m.b with
  | some x, some y => if (x - y).natAbs ≤ 100 then .value (x + y) else .disagree
  | some x, Option.none => .value (2 * x)
  | Option.none, some y => .value (2 * y)
  | Option.none, Option.none => .none

/-- The values of a round, by sync node. -/
def valuesOf (l : List SyncMeas) : List (Nat × Int) :=
  l.filterMap (fun m => match m.reduce with | .value v => some (m.j, v) | _ => none)

/-- How many sync nodes disagree (R47). -/
def disagreements (l : List SyncMeas) : Nat := (l.filter (fun m => m.reduce == .disagree)).length

/-- CH_DISAGREE counts `n` more (R63). -/
def State.countDisagree (s : State) (n : Nat) : State := (List.range n).foldl (fun s _ => s.incSat Reg.timEvtCnt 31 16) s

/-- A value put into its place in an ascending list. -/
def insInt (x : Int) : List Int → List Int
  | [] => [x]
  | a :: r => if x ≤ a then x :: a :: r else a :: insInt x r

/-- k of R49. -/
def kOf (n : Nat) : Nat := if 7 ≤ n then 2 else if 4 ≤ n then 1 else 0

/-- d of R49 and R546 in units of 2^-8 ns, from values in half ns. -/
def meanDev (l : List Int) : Int :=
  let v := l.foldl (fun a x => insInt x a) []
  let k := kOf v.length
  let m := (v.drop k).take (v.length - 2 * k)
  roundHalfEven (m.foldl (· + ·) 0 * 128) m.length

/-- The index of this module among the sync nodes (R94). -/
def State.ownSync (s : State) : Option Nat :=
  match s.boards.act with
  | some t => t.syncs.findIdx? (fun r => r.node == s.nodeAddr)
  | none => none

/-! ### Correcting (R49, R52, R60, R544, R546) -/

/-- The trim after a correction by `d8` units of 2^-8 ns (R49, R546). -/
def newTrim (trim d8 : Int) : Int :=
  let t := trim - roundHalfEven (d8 * 16777216) 1600000
  if t < -2147483 then -2147483 else if 2147483 < t then 2147483 else t

/-- What a correction pip works on. -/
structure CorrValues where
  vals : List Int           -- in half ns
  used : Nat
  ext  : Bool
  deriving DecidableEq, Repr

/-- No SYNC frame of another node was used in the round (R46, R60). -/
def noneUsed (l : List SyncMeas) : Bool :=
  l.all (fun m => !(m.a.any (fun c => c.used)) && !(m.b.any (fun c => c.used)))

/-- The values of the round at the correction pip, own and external ones included (R47, R48, R60). -/
def State.corrValues (s : State) : State × CorrValues :=
  let vs := valuesOf s.time.meas
  let used := vs.foldl (fun m v => m + 2 ^ v.1) 0
  let own := s.ownSync
  if s.fld Reg.timCtrl 1 0 = 1 ∧ noneUsed s.time.meas then
    if s.time.extNew then
      let v := (s.reg Reg.timExtOfs).toInt
      let c := if v < -500 then -500 else if 500 < v then 500 else v
      (if c = v then s else s.logErr pTIM 0x0101 (s.reg Reg.timExtOfs), ⟨[2 * c], 0, true⟩)
    else (s.raise pTIM 5, ⟨[], 0, false⟩)
  else
    match own with
    | some j => (s, ⟨vs.map (·.2) ++ [0], used + 2 ^ j, false⟩)
    | none => (s, ⟨vs.map (·.2), used, false⟩)

/-- A round without correction (R52). -/
def State.uncorrected (s : State) : State :=
  let n := s.time.noCorr + 1
  let s := { s with time := { s.time with good := 0, noCorr := n } }
  if s.fld Reg.timCtrl 15 8 < n then s.toTb .unsync
  else if s.time.state = .synced then s.toTb .holdover
  else s

/-- The state that a corrected round with deviation `d8` leads to (R52). -/
def State.correctedState (s : State) (d8 : Int) : State :=
  match s.time.state with
  | .integrating =>
    let g := if d8.natAbs ≤ 25600 then s.time.good + 1 else 0
    let s := { s with time := { s.time with good := g } }
    if max 1 (s.fld Reg.timCtrl 7 4) ≤ g then s.toTb .synced else s
  | .holdover => s.toTb .synced
  | _ => s

/-- The slew of the round ends at the correction pip; what an online change that moved the pip has left of it is kept for
the first slew under the new board (R50). -/
def TimeBase.endSlew (t : TimeBase) : TimeBase :=
  { t with slewRest := t.slewRest + (if t.slewMoved then t.slewLeft else 0), slewMoved := false, slewTotal := 0 }

/-- The correction of R49 with the values of the round. PRECISION is judged by the state before the pip and, for a node
that the pip brings back to SYNCED, by the state after it (assumption 62). -/
def State.applyCorrection (s : State) (d8 : Int) : State :=
  let dev := roundHalfEven d8 256
  let s := s.setReg Reg.timDev (BitVec.ofInt 32 dev)
  let s := s.peak Reg.timDevPeak 15 0 (min 0xFFFF dev.natAbs)
  let s := { s with time := { s.time with noCorr := 0 } }
  if 128000 < d8.natAbs then
    let s := if s.time.state = .synced then s.raise pTIM 1 else s
    ((s.raise pTIM 2).recIrq pTIM 2 .normal (toLe 4 (BitVec.ofInt 32 dev).toNat)).toTb .unsync
  else
    let s := if s.fld Reg.timCtrl 1 0 = 2 then s
      else { s with time := { s.time with
        slewTotal := -(d8 * 16777216) + s.time.slewRest, slewCycle := 0, slewRest := 0
        trim := BitVec.ofInt 32 (newTrim s.time.trim.toInt d8) } }
    let s := s.correctedState d8
    if s.time.state = .synced ∧ 25600 < d8.natAbs then s.raise pTIM 1 else s

/-- The correction pip (R49). In UNSYNC nothing is corrected (R52). A PTP offset that the pip does not use stays fresh for
a cold start, but was not written since this pip (R60, assumption 63). -/
def State.correct (s : State) : State :=
  let l := s.time.meas
  let new := s.time.extNew
  let s := s.modTime fun t => { t.endSlew with meas := [], corrected := true, extNew := false }
  if s.time.state = .unsync then s
  else
    let c := { s with time := { s.time with meas := l, extNew := new } }.corrValues
    let rej := (l.filter (fun m => match m.reduce with | .value _ => false | _ => true)).foldl (fun n m => n + 2 ^ m.j) 0
    let n := c.2.vals.length
    let s := c.1.countDisagree (disagreements l)
    let s := s.setReg Reg.timSyncUsed (BitVec.ofNat 32 (c.2.used % 2 ^ 16 + rej % 2 ^ 16 * 2 ^ 16))
    let s := s.modTime fun t => { t with meas := [], extNew := false, extFresh := t.extFresh && !c.2.ext, nValid := n, kSel := kOf n }
    if n == 0 || (n == 1 && s.ownSync.isNone && !c.2.ext) then s.uncorrected
    else
      let s := if 2 ≤ n ∧ n < 4 then s.raise pTIM 3 else s
      s.applyCorrection (meanDev c.2.vals)

/-- The correction entry of the present round that the sequencer, or the slot engine (R317), still carries out. -/
def State.corrEntry (s : State) : Option Entry :=
  (s.track .f).find? (fun e => e.fevt == 5 && e.active s.rsn)

/-- SYNC_CORRECT (R49, R126, R317): once a round, at the START of the board's entry. -/
def syncCorrect (s : State) : State :=
  if s.time.corrected || !s.time.begun || s.time.hold.isSome then s
  else
    match s.corrEntry with
    | none => s
    | some e =>
      if s.seqr.state = .run then
        match (s.track .f).findIdx? (fun x => x == e) with
        | some i => s.onField i 5 (fun t _ => t.correct)
        | none => s
      else if s.boards.active = .none then s
      else (s.toPip e.start).correct

/-! ### Steps (R53, R54, R139, R218, R545) -/

/-- The frames of an abandoned round and its windows are gone (R54). -/
def State.dropSlots (s : State) : State :=
  (s.setReg Reg.mbgStat 0).modNet fun n => { n with slots := [], windows := [] }

/-- The step that the search of the round gives (R53): minus d in units of 2^-8 ns, and the epoch of the first
frame used (R42). -/
def searchStep (l : List SyncMeas) : Option (Int × BitVec 64) :=
  let vs := valuesOf l
  if vs = [] then none
  else
    match l.find? (fun m => match m.reduce with | .value _ => true | _ => false) with
    | some m =>
      let e := match m.a, m.b with | some x, _ => x.epoch | none, some y => y.epoch | none, none => 0
      some (meanDev (vs.map (·.2)), e)
    | none => none

/-- A step falls due at the next round boundary (R53, R545). -/
def State.stepDue (s : State) : Bool :=
  s.time.state == .unsync && ((searchStep s.time.search).isSome || s.time.stepPend.isSome)

/-- The rounds that the sequencer is held, from the first boundary of the stepped time on: those not later than
the last round begun (R54). -/
def heldRounds (last first : Word) : Nat := if later first last then 0 else (last + 1 - first).toNat

/-- Global time, with its fraction, moved by `d` units of 2^-32 ns. -/
def TimeBase.moved (tb : TimeBase) (d : Int) : BitVec 96 := tb.gt + BitVec.ofInt 96 d

/-- Global time steps at the round boundary that has been reached (R54): plies and movers in flight end (R139),
contexts close (R218), the sequencer is held, one record is written. -/
def State.stepTime (s : State) (gt : BitVec 96) (epoch : BitVec 64) (fresh : Bool) (st : TbState) : State :=
  let last := match s.time.hold with
    | some h => h.last
    | none => if s.time.begun then some (s.time.rsnAt s.time.roundStart) else none
  let changed := fresh || epoch != s.time.epoch
  let size := gt.extractLsb' 32 64 - s.now
  let s := s.modTime fun t => { t with
    gt := gt, epoch := epoch, epochSet := true, slewTotal := 0, slewRest := 0, slewMoved := false, begun := false
    meas := [], search := [], kept := []
    stepPend := none, corrected := false }
  let first := s.time.rsnAt s.nextBoundary
  let run := s.seqr.state == .run
  let keep := if changed then none else last
  let held := match keep with | some l => if run then heldRounds l first else 0 | none => 0
  let s := s.modTime fun t => { t with hold := if run then some ⟨keep, 0⟩ else none }
  let s := s.recIrq pTIM 0 .normal (toLe 8 size.toNat ++ toLe 4 held)
  let s := ((s.abortAll.stopMovers).closeContexts).dropSlots
  let s := s.modSeqr fun q => { q with walk := none, walkNext := none, switched := if changed then none else q.switched }
  s.toTb st

/-- The step that is due is made at the next round boundary of the time kept before (R53, R545). -/
def State.makeStep (s : State) : State :=
  let l := s.time.search
  let s := (s.advanceTo s.nextBoundary).countDisagree (disagreements l)
  match searchStep l with
  | some (d, e) => s.stepTime (s.time.moved (-(d * 16777216))) e false .integrating
  | none =>
    match s.time.stepPend with
    | some v => s.stepTime (BitVec.ofNat 96 (v.toNat * 2 ^ 32)) s.time.epoch false s.time.state
    | none => s

/-- TIM_STEP_CMD (R545): the value written is loaded at the next round boundary. Another value than 0x57E9 has no effect
and logs nothing, whatever the state (assumption 64). -/
def timStepCmd (value : Word) (s : State) : State :=
  if !s.domainUp 2 then s.downError pTIM
  else if value ≠ 0x57E9 then s
  else if s.time.state ≠ .unsync then s.refuse Reg.timStepCmd
  else s.modTime fun t => { t with
    stepPend := some (BitVec.ofNat 64 ((s.reg Reg.timStepLo).toNat + (s.reg Reg.timStepHi).toNat * 2 ^ 32)) }

/-- TIM_EXT_OFS is written (R60). -/
def timExtOfsWrite (value : Word) (s : State) : State :=
  s.onPage pTIM fun s => (s.setReg Reg.timExtOfs value).modTime (fun t => { t with extFresh := true, extNew := true })

/-- TIM_NOW_LO_READ (R43). -/
def timNowLoRead (s : State) : State :=
  s.onPage pTIM fun s => s.setReg Reg.timNowHi (s.now.extractLsb' 32 32)

/-- SYNC_CORRECT (R49). -/
def execSyncCorrect (s : State) : Host.Outcome State Fault Refusal := .next (syncCorrect s)
/-- TIM_STEP_CMD (R545). -/
def execTimStepCmd (value : Word) (s : State) : Host.Outcome State Fault Refusal := .next (timStepCmd value s)
/-- TIM_EXT_OFS_WRITE (R60). -/
def execTimExtOfsWrite (value : Word) (s : State) : Host.Outcome State Fault Refusal := .next (timExtOfsWrite value s)
/-- TIM_NOW_LO_READ (R43). -/
def execTimNowLoRead (s : State) : Host.Outcome State Fault Refusal := .next (timNowLoRead s)

end Sys2Proof.Machine
end

