-- ==== Sys2Proof/Machine/Mebarid.lean ====
section
/-! DEFINITION. The Mebarid network: ports (R292, R293, R324 to R326), frames (R294 to R300), the guardian (R303),
reception (R304 to R308), grants (R319 to R322). -/

namespace Sys2Proof.Machine

/-! ### Ports (R324 to R327) -/

/-- 0 for channel A, 1 for channel B. -/
def chanNum : Chan → Nat
  | .a => 0 | .b => 1

/-- The MB_PORT register of port `p` of channel `c`. -/
def portKey (c p : Nat) : Nat := Reg.mbPort0 c + 4 * p

/-- The port is up. -/
def State.portIsUp (s : State) (c p : Nat) : Bool := s.domainUp 3 && s.fld (portKey c p) 1 0 == 2

/-- Retrains of a port within the last 3,600,000 ms of operating time (R325). -/
def State.portHour (s : State) (c p : Nat) : Nat :=
  (s.net.portHist.filter (fun h => h.1 == 4 * c + p && decide (s.opTime.toNat ≤ h.2 + 3600000))).length

/-- A frame that is in progress on port `q` (0 to 7) is cut (R381); a byte takes 0.8 ns, 8 bytes precede the frame. -/
def State.cutPort (s : State) (q : Nat) : State :=
  { s with out := s.out.map (fun o => match o with
      | .frame p t f =>
        let gone := (s.now - t).toInt
        if p = q ∧ 0 ≤ gone ∧ gone < (f.length + 8) * 4 / 5 then .cutFrame p t (f.take (gone.toNat * 5 / 4 - 8)) else o
      | _ => o) }

/-- The port is borne off (R325); both ports of its pair make a stand-down cause (R326, R376). -/
def State.bearPort (s : State) (c p : Nat) : State :=
  if s.portBorne c p then s
  else
    let i := BitVec.ofNat 32 p
    let s := ((s.cutPort (4 * c + p)).setFld (portKey c p) 1 0 3).raise (pMB c) 2
    let s := (s.logErr (pMB c) 0x0101 i).recErr (pMB c) 0x0101 i .normal []
    if s.portBorne 0 p && s.portBorne 1 p then s.sdCause 2 else s

/-- A port goes down (R324): counted in its history, borne off with the fourth (R325). -/
def State.portLost (s : State) (c p : Nat) : State :=
  if !s.domainUp 3 then s
  else if s.fld (portKey c p) 1 0 = 1 then s.setFld (portKey c p) 1 0 0
  else if s.fld (portKey c p) 1 0 = 2 then
    let s := s.cutPort (4 * c + p)
    let s := ((s.setFld (portKey c p) 1 0 0).incSat (portKey c p) 31 16).raise (pMB c) 0
    let s := s.modNet fun n => { n with portHist := n.portHist ++ [(4 * c + p, s.opTime.toNat)] }
    if 4 ≤ s.portHour c p then s.bearPort c p else s
  else s

/-- PORT_DOWN (R324). -/
def portDown (ch : Chan) (port : Fin 4) (s : State) : State := s.portLost (chanNum ch) port

/-- PORT_UP (R324): a port that is not borne off, and whose NCLK is good, comes up. -/
def portUp (ch : Chan) (port : Fin 4) (s : State) : State :=
  let l := s.fld (portKey (chanNum ch) port) 1 0
  if !s.domainUp 3 || decide (2 ≤ l) || !s.clockGood (10 + 4 * chanNum ch + port) then s
  else (s.setFld (portKey (chanNum ch) port) 1 0 2).raise (pMB (chanNum ch)) 1

/-- RETRAIN (R327): the selected ports retrain without being counted; a borne-off port logs 0x0005. -/
def retrain (ch : Chan) (ports : BitVec 4) (s : State) : State :=
  if !s.domainUp 3 then s.downError (pMB (chanNum ch))
  else
    let c := (chanNum ch)
    let s := (List.range 4).foldl (fun s p =>
      if !ports.getLsbD p || s.portBorne c p then s
      else
        let was := s.fld (portKey c p) 1 0
        let s := s.setFld (portKey c p) 1 0 1
        if was = 2 then s.raise (pMB c) 0 else s) s
    if (List.range 4).any (fun p => ports.getLsbD p && s.portBorne c p) then s.refuse (Reg.mbCmd c) else s

/-! ### Frames (R294 to R297) -/

/-- A Mebarid header as a frame carries it (R295). -/
structure MbHeader where
  vt      : Nat
  flags   : Nat
  channel : Nat
  sender  : Nat
  slot    : Nat
  length  : Nat
  rsn     : Word
  pip     : Word
  seq     : BitVec 16
  deriving DecidableEq, Repr

/-- The header of a frame (R295). -/
def mbHeader (f : Bytes) : MbHeader :=
  { vt := beAt f 14 1, flags := beAt f 15 1, channel := beAt f 16 1, sender := beAt f 18 4, slot := beAt f 22 2
    length := beAt f 24 2, rsn := BitVec.ofNat 32 (beAt f 26 4), pip := BitVec.ofNat 32 (beAt f 30 4)
    seq := BitVec.ofNat 16 (beAt f 34 2) }

/-- TYPE of a frame. -/
def MbHeader.type (h : MbHeader) : Nat := h.vt % 16

/-- The payload of a frame, by its LENGTH. -/
def mbPayload (f : Bytes) : Bytes := slice f 38 (beAt f 24 2)

/-- The FCS of a frame is good. -/
def fcsGood (f : Bytes) : Bool := leAt f (f.length - 4) 4 == (crcEth (f.take (f.length - 4))).toNat

/-- A pause frame: a MAC control frame of the least length with opcode 1 (R293; the layout is PRESUMED from IEEE 802.3
Annex 31B). -/
def isPause (f : Bytes) : Bool := beAt f 12 2 == 0x8808 && beAt f 14 2 == 1 && f.length == 64

/-- A frame is malformed (R294). -/
def mbMalformed (f : Bytes) : Bool := beAt f 12 2 != 0x88B5 || decide (f.length < 64) || decide (1518 < f.length)

/-- The 24 header bytes that this module sends (R295). -/
def mbHeaderBytes (h : MbHeader) : Bytes :=
  toBe 1 h.vt ++ toBe 1 h.flags ++ toBe 1 h.channel ++ [0] ++ toBe 4 h.sender ++ toBe 2 h.slot ++ toBe 2 h.length
    ++ toBe 4 h.rsn.toNat ++ toBe 4 h.pip.toNat ++ toBe 2 h.seq.toNat ++ zeros 2

/-- A whole frame, padded and with its FCS (R294). -/
def mbFrame (dst src : Nat) (h : MbHeader) (payload : Bytes) : Bytes :=
  let body := mbHeaderBytes h ++ payload
  let mac := fun (n : Nat) => [0x02, 0x41, 0x56] ++ toBe 3 n
  let d := if dst = 0 then [0x03, 0x41, 0x56, 0x00, 0x00, 0x00] else mac dst
  let f := d ++ mac src ++ [0x88, 0xB5] ++ body ++ zeros (46 - body.length)
  f ++ toLe 4 (crcEth f).toNat

/-! ### Slots and stations -/

/-- The SLOT entry of a slot that is active in round `r`. -/
def Tables.slotEntry (t : Tables) (slot : Nat) (r : Word) : Option Entry :=
  t.trackN.find? (fun e => e.slot == slot && e.active r)

/-- The grant of a slot, if it has one (R319). -/
def State.grantOf (s : State) (slot : Nat) : Option Grant := s.net.grants.find? (fun g => g.slot == slot)

/-- The grant of a SPARE slot that holds in round `r` (R321). -/
def State.grantIn (s : State) (slot : Nat) (r : Word) : Option Grant :=
  match s.grantOf slot with
  | some g => if later g.eff r then none else some g
  | none => none

/-- This module sends in the slot (R90, R301). -/
def State.ownSlot (s : State) (r : SlotRec) : Bool :=
  if r.skind = 5 then s.state == .leader
  else (r.skind == 1 || r.skind == 2 || r.skind == 6) && r.node % 0x40000 == s.nodeAddr

/-- The station whose DATA_IN frames a slot carries in round `r`: the node of a DATA_IN slot, or the granted node
of a SPARE slot (R307, R321). -/
def State.stationOf (s : State) (r : SlotRec) (rsn : Word) : Option Nat :=
  if r.skind = 0 then some (r.node % 4096)
  else if r.skind = 4 then (s.grantIn r.slot rsn).map (fun g => g.node % 4096)
  else none

/-- A station index is tracked: it has a DATA_IN slot or a grant (R307). -/
def State.tracked (s : State) (k : Nat) : Bool :=
  (match s.boards.act with
   | some t => t.slots.any (fun r => r.skind == 0 && r.node % 4096 == k)
   | none => false) || s.net.grants.any (fun g => g.node % 4096 == k)

/-- MBS_STN STATE of a station: 0 not tracked, 1 PRESENT, 2 LOST, 3 RETURNING (R329); a station begins PRESENT. -/
def State.stnState (s : State) (k : Nat) : Nat :=
  if s.tracked k then max 1 (s.fld (Reg.bank k Reg.mbsStn) 1 0) else 0

/-- A slot of another domain's pair (R312). -/
def State.foreignPeer (s : State) (r : SlotRec) : Bool := r.skind == 6 && r.node % 0x40000 / 4096 != s.pairDomain

/-- The frames of the slot are kept for landing and forwarded (R306, R321, R340). -/
def State.landable (s : State) (r : SlotRec) (rsn : Word) : Bool :=
  r.skind == 0 || (r.skind == 4 && (s.grantIn r.slot rsn).isSome) || s.foreignPeer r

/-! ### Grants (R299, R319 to R322) -/

/-- The grant that a record gives. -/
def parseGrant (l : Bytes) : Grant :=
  { slot := leAt l 8 2, node := leAt l 0 4 % 0x40000, port := leAt l 0 4 / 2 ^ 24 % 4, start := leAt l 10 2
    len := leAt l 12 2, payload := leAt l 14 2, eff := BitVec.ofNat 32 (leAt l 4 4)
    mapped := (leAt l 0 4).testBit 26, age := 0, front := false }

/-- A grant put into the table, in ascending slot order. -/
def putGrant (g : Grant) : List Grant → List Grant
  | [] => [g]
  | x :: r => if g.slot < x.slot then g :: x :: r else if g.slot = x.slot then g :: r else x :: putGrant g r

/-- A grant is taken over from the leader (R320, R346); the rounds a MAPPED grant has been carried are kept. -/
def State.takeGrant (s : State) (g : Grant) : State :=
  let g := match s.grantOf g.slot with
    | some x => if x.node = g.node then { g with age := x.age } else g
    | none => g
  s.modNet fun n => { n with grants := putGrant g n.grants }

/-- A grant ends (R322); the leader tells the partner with a record of node 0 (assumption 17). -/
def State.endGrant (s : State) (slot : Nat) : State :=
  match s.grantOf slot with
  | none => s
  | some g =>
    let s := s.modNet fun n => { n with grants := n.grants.filter (fun x => x.slot != slot) }
    let s := if s.tracked (g.node % 4096) then s else s.setReg (Reg.bank (g.node % 4096) Reg.mbsStn) 0
    let s := (s.raise pMBG 4).recIrq pMBG 4 .normal g.bytes
    if s.state = .leader then s.dunlySend 0 5 { g with node := 0, mapped := false }.bytes else s

/-- A join request is refused (R319, R328). -/
def State.refuseJoin (s : State) (station : Nat) : State :=
  let i := BitVec.ofNat 32 station
  let s := (s.incSat Reg.mbgJoin 31 16).raise pMBG 3
  (s.logErr pMBG 0x0102 i).recErr pMBG 0x0102 i .normal []

/-- The lowest SPARE slot that R319 can grant for a payload of `n` bytes, with its entry. -/
def State.spareSlot (s : State) (t : Tables) (n : Nat) : Option (SlotRec × Entry) :=
  let c := t.trackN.filterMap (fun e =>
    match t.slotRec e.slot with
    | some r =>
      if r.skind = 4 ∧ e.rexp = 0 ∧ (s.grantOf r.slot).isNone ∧ n ≤ r.payload
          ∧ !(s.portBorne 0 r.port && s.portBorne 1 r.port) then some (r, e) else none
    | none => none)
  c.foldl (fun b x => match b with | some y => if x.1.slot < y.1.slot then some x else some y | none => some x) none

/-- The leader acts on a VALID JOIN_REQ (R319, R346). -/
def State.joinRequest (s : State) (t : Tables) (sender want : Nat) (rsn : Word) : State :=
  let k := sender % 4096
  if s.net.grants.any (fun g => g.node == sender) then
    s.modNet fun n => { n with grants := n.grants.map (fun g => if g.node = sender then { g with front := true } else g) }
  else if t.slots.any (fun r => r.node == sender) ∨ 256 ≤ s.net.grants.length then s.refuseJoin k
  else
    match s.spareSlot t want with
    | none => s.refuseJoin k
    | some (r, e) =>
      let g : Grant := { slot := r.slot, node := sender, port := r.port, start := e.start, len := r.len
                         payload := r.payload, eff := rsn + 16, mapped := false, age := 0, front := false }
      let s := s.modNet fun n => { n with grants := putGrant g n.grants }
      ((s.incWrap Reg.mbgGcnt 31 16).raise pMBG 2).dunlySend 0 5 g.bytes

/-! ### The guardian (R303) -/

/-- A guardian record is enabled in the present round: its owner, and for the leader the state at the boundary
(R93, R303). -/
def State.guardOn (s : State) (g : GuardRec) : Bool :=
  s.rsn.toNat % 2 ^ g.rexp == g.phase
    && (g.owner == b2n s.isB || (g.owner == 2 && s.net.leadRound))

/-- The guardian has enabled a window for the slot at the present pip (R303). -/
def State.windowFor (s : State) (slot : Nat) : Bool :=
  match s.boards.act with
  | none => false
  | some t => t.guards.any (fun g => g.slot == slot && s.guardOn g
      && decide (g.start ≤ s.pipInRound ∧ s.pipInRound < g.start + g.len))

/-- MBG_STAT OPEN follows the enabled windows (R328). -/
def State.showWindows (s : State) (t : Tables) : State :=
  let m := s.net.windows.foldl (fun m w => match t.guards[w.1]? with
    | some g => m ||| (2 ^ g.port ||| 2 ^ (4 + g.port))
    | none => m) 0
  s.setFld Reg.mbgStat 7 0 m

/-- The round that the guardian and the slot engine work in has begun and no step holds it. -/
def State.inRound (s : State) : Bool := s.domainUp 3 && s.time.begun && s.time.hold.isNone

/-- GUARDIAN_WINDOW_OPEN (R303). -/
def guardianWindowOpen (idx : Nat) (s : State) : State :=
  match s.boards.act with
  | none => s
  | some t =>
    match t.guards[idx]? with
    | none => s
    | some g =>
      let s := if s.inRound then s.toPip g.start else s
      if !s.inRound || !s.guardOn g then s
      else
        let s := s.modNet fun n => { n with windows := (idx, g.slot) :: n.windows.filter (fun w => w.1 != idx) }
        s.showWindows t

/-- The guardian blocks port `q` (0 to 7) in a slot (R303, R325). -/
def State.guardBlock (s : State) (q slot : Nat) : State :=
  let i := BitVec.ofNat 32 (slot + q * 2 ^ 16)
  let s := (s.setFld Reg.mbgBlock 18 0 (slot + q * 2 ^ 16)).incSat Reg.mbgBlock 31 20
  let s := ((s.raise pMBG 0).logErr pMBG 0x0101 i).recErr pMBG 0x0101 i .normal []
  let again := s.net.blocks.any (fun b => b.1 == q && within s.rsn b.2 4000)
  let s := s.modNet fun n => { n with blocks := (q, s.rsn) :: n.blocks.filter (fun b => b.1 != q) }
  if again then s.bearPort (q / 4) (q % 4) else s

/-- What was sent on port `q` from `start` on is cut after `n` bytes of the frame, with an error code group (R303). -/
def State.cutOut (s : State) (q : Nat) (start : BitVec 64) (n : Nat) : State :=
  { s with out := s.out.map (fun o => match o with
      | .frame p t f => if p = q ∧ t = start then .cutFrame p t (f.take n) else o
      | _ => o) }

/-- The time on the wire of a frame with this payload, in ns, without preamble gap (R91, R294). -/
def frameNs (payload : Nat) : Nat := ((max (payload + 24) 46 + 26) * 4 + 4) / 5

/-- GUARDIAN_WINDOW_CLOSE (R303): a frame of this module still in progress on the record's ports is cut. -/
def guardianWindowClose (idx : Nat) (s : State) : State :=
  match s.boards.act with
  | none => s
  | some t =>
    match t.guards[idx]? with
    | none => s
    | some g =>
      if !s.net.windows.any (fun w => w.1 == idx) then s
      else
        let s := s.toPip (g.start + g.len)
        let s := (s.modNet fun n => { n with windows := n.windows.filter (fun w => w.1 != idx) }).showWindows t
        match s.net.slots.find? (fun r => r.slot == g.slot && r.own && r.isOpen) with
        | none => s
        | some r =>
          let cut := fun (s : State) (q : Nat) (l : List RxCopy) => l.foldl (fun s c =>
            if later64 (c.start + BitVec.ofNat 64 (frameNs c.payload.length)) s.now then
              (s.cutOut q c.start ((s.now - c.start).toNat * 5 / 4 - 8)).guardBlock q g.slot
            else s) s
          cut (cut s g.port r.a) (4 + g.port) r.b

/-- PORT_DOWN (R324). -/
def execPortDown (ch : Chan) (port : Fin 4) (s : State) : Host.Outcome State Fault Refusal := .next (portDown ch port s)
/-- PORT_UP (R324). -/
def execPortUp (ch : Chan) (port : Fin 4) (s : State) : Host.Outcome State Fault Refusal := .next (portUp ch port s)
/-- RETRAIN (R327). -/
def execRetrain (ch : Chan) (ports : BitVec 4) (s : State) : Host.Outcome State Fault Refusal := .next (retrain ch ports s)
/-- GUARDIAN_WINDOW_OPEN (R303). -/
def execGuardianWindowOpen (idx : Nat) (s : State) : Host.Outcome State Fault Refusal := .next (guardianWindowOpen idx s)
/-- GUARDIAN_WINDOW_CLOSE (R303). -/
def execGuardianWindowClose (idx : Nat) (s : State) : Host.Outcome State Fault Refusal := .next (guardianWindowClose idx s)

end Sys2Proof.Machine
end

