-- ==== Sys2Proof/Machine/Slots.lean ====
section
/-! DEFINITION. Slots: opening and sending (R125, R295 to R303, R320), reception and outcomes (R304 to R306), the
forward records (R340, R341), the station states (R307, R308). -/

namespace Sys2Proof.Machine

/-! ### The frames this module sends (R295 to R302) -/

/-- The JOIN slot of round `r`, with its entry (R91). -/
def Tables.joinSlot (t : Tables) (r : Word) : Option (SlotRec × Entry) :=
  (t.trackN.filterMap (fun e =>
    if e.active r then
      match t.slotRec e.slot with
      | some x => if x.skind = 3 then some (x, e) else none
      | none => none
    else none)).head?

/-- The announce block (R299). -/
def State.announce (s : State) (t : Tables) : Bytes :=
  let j := match t.joinSlot (s.rsn + 1) with
    | some (x, e) => toLe 2 x.slot ++ toLe 2 e.start ++ toLe 2 x.len ++ toLe 1 x.port
    | none => zeros 7
  toLe 4 s.nodeAddr ++ t.identity.take 8 ++ j ++ zeros 1 ++ toLe 2 s.net.grants.length
    ++ toLe 2 (s.rsn.toNat % s.turnLen) ++ zeros 8

/-- A grant put into a list in ascending EFF_RSN (R320). -/
def insEff (g : Grant) : List Grant → List Grant
  | [] => [g]
  | x :: r => if later x.eff g.eff then g :: x :: r else x :: insEff g r

/-- The grants of a LEADER frame with `g` positions (R320): those placed first, and the continuation of the cyclic
pass. A grant stands at most once in the part of the pass that one frame carries. -/
def State.grantsFor (s : State) (g : Nat) : List Grant × List Grant :=
  let first := ((s.net.grants.filter (fun x => x.front || later x.eff s.rsn)).foldl (fun l x => insEff x l) []).take (g - 1)
  let ahead := s.net.grants.filter (fun x => decide (s.net.passSlot ≤ x.slot))
  let behind := s.net.grants.filter (fun x => decide (x.slot < s.net.passSlot))
  (first, (ahead ++ behind).take (g - first.length))

/-- TYPE and payload of the LEADER frame of a slot, and the state with the pass continued (R320). -/
def State.leaderFrame (s : State) (t : Tables) (r : SlotRec) : State × Nat × Bytes :=
  if s.net.grants = [] then (s, 7, s.announce t)
  else
    let p := s.grantsFor ((r.payload - 32) / 16)
    let b := s.announce t ++ ((p.1 ++ p.2).map Grant.bytes).flatten
    let s := s.modNet fun n => { n with
      grants := n.grants.map (fun x => if p.1.any (fun y => y.slot == x.slot) then { x with front := false } else x)
      passSlot := match p.2.getLast? with | some x => x.slot + 1 | none => n.passSlot }
    (s, 6, b)

/-- The cold-start engine's state (R327): 0 OFF, 1 LISTEN, 2 ATTEMPT, 3 DONE. -/
def State.cold (s : State) : Nat := s.fld Reg.mbCold 2 0

/-- The module's state and time base allow a frame in the slot (R301, R314, R349). -/
def State.maySend (s : State) (r : SlotRec) : Bool :=
  (s.time.state == .synced || s.time.state == .holdover)
    && (s.cold != 2 || r.skind == 2)
    && (if r.skind = 2 then s.state == .boot || s.state == .joining || s.state == .follower || s.state == .leader
        else if r.skind = 5 then s.state == .leader
        else s.state == .leader || (s.state == .follower && s.pair.check.isNone))

/-- TYPE, destination and payload of the frame that this module sends in a slot, if it has one to send (R296, R297,
R302). -/
def State.formFrame (s : State) (t : Tables) (r : SlotRec) (start : BitVec 64) : State × Option (Nat × Nat × Bytes) :=
  if r.skind = 2 then
    let cs := match t.syncs.find? (fun x => x.node == s.nodeAddr) with | some x => x.csidx | none => 0
    (s, some (if s.cold = 2 then 4 else 3, 0,
      toLe 1 cs ++ toLe 1 s.time.state.code ++ toLe 1 s.time.nValid ++ zeros 5 ++ toLe 8 start.toNat))
  else if r.skind = 5 then
    let f := s.leaderFrame t r
    (f.1, some (f.2.1, 0, f.2.2))
  else
    match s.net.txBuf.find? (fun b => b.1 == r.slot) with
    | none => (s, none)
    | some b =>
      let s := s.modNet fun n => { n with txBuf := n.txBuf.filter (fun x => x.1 != r.slot) }
      let dst := if r.skind = 1 ∧ r.dest ≠ 0 then s.pairDomain * 4096 + r.dest else 0
      (s, some (if r.skind = 1 then 2 else 8, dst, b.2))

/-- An occurrence is put in, or replaced. -/
def putRun (l : List SlotRun) (r : SlotRun) : List SlotRun :=
  if l.any (fun x => x.slot == r.slot && x.rsn == r.rsn) then
    l.map (fun x => if x.slot = r.slot ∧ x.rsn = r.rsn then r else x)
  else l ++ [r]

/-- The occurrence of a slot in round `r`. -/
def State.runOf (s : State) (slot : Nat) (r : Word) : Option SlotRun :=
  s.net.slots.find? (fun x => x.slot == slot && x.rsn == r)

/-- The frame is sent on both ports of the pair that are up (R292, R302); MB_TX_CNT and the send timestamps (R305). -/
def State.sendFrame (s : State) (r : SlotRec) (run : SlotRun) (type dst : Nat) (payload : Bytes) : State :=
  let n := tget 0 s.net.ownSeq r.slot
  let h := fun (c : Nat) => MbHeader.mk (16 + type) (b2n (s.state == .leader) + 2 * b2n (s.time.state == .holdover)) c
    s.nodeAddr r.slot payload.length run.rsn run.pip (BitVec.ofNat 16 n)
  let one := fun (s : State) (c : Nat) =>
    if s.portIsUp c r.port then
      let s := (s.send (.frame (4 * c + r.port) run.start (mbFrame dst s.nodeAddr (h c) payload))).incWrap (Reg.mbTxCnt c) 31 0
      let s := s.setReg (Reg.bank r.slot (Reg.mbsTsA + 4 * c)) (run.start.setWidth 32)
      let x : RxCopy := ⟨run.start, true, BitVec.ofNat 16 n, mbHeaderBytes (h c), payload⟩
      s.modNet fun m => { m with slots := m.slots.map (fun y =>
        if y.slot = r.slot ∧ y.rsn = run.rsn then (if c = 0 then { y with a := [x] } else { y with b := [x] }) else y) }
    else s
  if s.portIsUp 0 r.port || s.portIsUp 1 r.port then
    let s := one (one s 0) 1
    s.modNet fun m => { m with ownSeq := tput m.ownSeq r.slot ((n + 1) % 2 ^ 16) }
  else s

/-- The slot's window is not enabled because its records are the leader's and the module was not LEADER at the boundary
(R303). -/
def State.windowHeld (s : State) (t : Tables) (slot : Nat) : Bool :=
  !s.net.leadRound && t.guards.any (fun g => g.slot == slot && g.owner == 2)

/-- The slot engine starts a frame outside an enabled window: the guardian blocks both ports of the pair that are up
(R303). -/
def State.blockStart (s : State) (r : SlotRec) : State :=
  let one := fun (s : State) (c : Nat) => if s.portIsUp c r.port then s.guardBlock (4 * c + r.port) r.slot else s
  one (one s 0) 1

/-- A slot of this module opens: its frame is sent if R301 allows it; a slipped one stays empty (R116). A window that is
not enabled though the leader's records do not hold it back is a fault of the hardware, and the guardian blocks. -/
def State.openOwn (s : State) (t : Tables) (r : SlotRec) (run : SlotRun) (late : Bool) : State :=
  let s := s.modNet fun n => { n with
    slots := putRun (n.slots.filter (fun x => x.slot != r.slot || x.isOpen)) { run with own := true } }
  let s := (s.setReg (Reg.bank r.slot Reg.mbsTsA) 0).setReg (Reg.bank r.slot Reg.mbsTsB) 0
  if late || !s.maySend r || (!s.windowFor r.slot && s.windowHeld t r.slot) then s
  else
    match s.formFrame t r run.start with
    | (s, none) => s
    | (s, some (type, dst, payload)) =>
      if s.windowFor r.slot then s.sendFrame r run type dst payload else s.blockStart r

/-- The occurrence of an entry in the round with RSN `r` that starts at `base`. -/
def newRun (e : Entry) (r : Word) (base : BitVec 64) : SlotRun :=
  let st := base + BitVec.ofNat 64 (e.start * 50)
  ⟨e.slot, st, r, BitVec.ofNat 32 (st.toNat / 50), false, true, [], [], []⟩

/-- A station has a slot in the round; a copy of its frame has come (R307). -/
def State.noteStation (s : State) (r : SlotRec) (rsn : Word) (landed : Bool) : State :=
  match s.stationOf r rsn with
  | none => s
  | some k => s.modNet fun n => { n with active := tput n.active k (tget false n.active k || landed) }

/-- A slot opens at its START (R125, R304). -/
def State.openSlot (s : State) (t : Tables) (e : Entry) (late : Bool) : State :=
  match t.slotRec e.slot with
  | none => s
  | some r =>
    let run := newRun e s.rsn s.time.roundStart
    if s.ownSlot r then
      if (s.runOf r.slot s.rsn).isSome then s else s.openOwn t r run late
    else
      let s := s.noteStation r s.rsn false
      if (s.runOf r.slot s.rsn).isSome then s else s.modNet fun n => { n with slots := n.slots ++ [run] }

/-- A slot that the engine opens itself while the sequencer is not in RUN (R317). -/
def Tables.engineOpens (t : Tables) (e : Entry) (r : Word) : Bool :=
  e.active r && (match t.slotRec e.slot with | some x => x.skind == 2 | none => false)

/-- SLOT_OPEN (R125, R317). -/
def slotOpen (idx : Nat) (s : State) : State :=
  match s.boards.act with
  | none => s
  | some t =>
    if !s.domainUp 3 then s
    else if s.seqr.state = .run then s.onEntry .n idx (fun s e late => s.openSlot t e late)
    else
      match t.trackN[idx]? with
      | none => s
      | some e =>
        if s.inRound && t.engineOpens e s.rsn then
          let late := s.pastEdge (s.startOf e)
          (s.toPip e.start).openSlot t e late
        else s

/-! ### Reception (R45, R46, R53, R304) -/

/-- The path delay of a sync node's frames on channel `c`, for this module's index (R94). -/
def State.pathDelay (s : State) (r : SyncRec) (c : Nat) : Nat :=
  if s.isB then (if c = 0 then r.dlyA1 else r.dlyB1) else (if c = 0 then r.dlyA0 else r.dlyB0)

/-- The receive delay of a slot's frames on channel `c` (R304). -/
def State.rxDelay (s : State) (t : Tables) (r : SlotRec) (c : Nat) : Nat :=
  if r.skind = 2 then
    match t.syncs.find? (fun x => x.slot == r.slot) with
    | some x => s.pathDelay x c
    | none => 0
  else min 2000 (s.fld (Reg.mbRxdly0 c + 4 * r.port) 10 0)

/-- The frame type may stand in the slot kind (R296). -/
def typeAllowed (skind type : Nat) : Bool :=
  match skind with
  | 0 => type == 1 | 1 => type == 2 | 2 => type == 3 || type == 4 | 3 => type == 5 | 4 => type == 1
  | 5 => type == 6 || type == 7 | 6 => type == 8 | _ => false

/-- SENDER is right for the slot (R304). -/
def State.senderFits (s : State) (r : SlotRec) (h : MbHeader) (rsn : Word) : Bool :=
  if r.skind = 5 then h.sender / 2 == s.pairDomain * 2048 && h.flags % 2 == 1
  else if r.skind = 3 then h.sender / 4096 == s.pairDomain && decide (2 ≤ h.sender % 4096)
  else if r.skind = 4 then
    match s.grantIn r.slot rsn with
    | some g => h.sender == g.node
    | none => false
  else h.sender == r.node % 0x40000

/-- LENGTH is right for the slot and the type (R296). -/
def lengthFits (r : SlotRec) (h : MbHeader) : Bool :=
  if r.skind = 2 ∨ r.skind = 3 then h.length == 16
  else if r.skind = 5 then
    (if h.type = 7 then h.length == 32 else decide (48 ≤ h.length) && h.length % 16 == 0)
  else h.length == r.payload

/-- A frame passes its header checks (R304). -/
def State.headerFits (s : State) (r : SlotRec) (run : SlotRun) (c : Nat) (h : MbHeader) : Bool :=
  let other := (r.skind == 2 || r.skind == 6) && r.node % 0x40000 / 4096 != s.pairDomain
  h.vt / 16 == 1 && typeAllowed r.skind h.type && h.channel == c && h.slot == r.slot && s.senderFits r h run.rsn
    && (other || h.rsn == run.rsn) && h.pip == run.pip && lengthFits r h

/-- The occurrences of receive slots on port pair `p` that can still take a frame: those of the present and the next
round; while the sequencer is not in RUN only those that the engine opens (R317). -/
def State.spans (s : State) (t : Tables) (p : Nat) : List (SlotRec × SlotRun) :=
  if !s.inRound then []
  else
    let one := fun (r : Word) (base : BitVec 64) => t.trackN.filterMap (fun e =>
      match t.slotRec e.slot with
      | none => none
      | some x =>
        if x.port = p ∧ e.active r ∧ !s.ownSlot x ∧ (s.seqr.state == .run || x.skind == 2) then
          match s.runOf x.slot r with
          | some run => if run.isOpen then some (x, run) else none
          | none => some (x, newRun e r base)
        else none)
    one s.rsn s.time.roundStart ++ one (s.rsn + 1) (s.time.roundStart + BitVec.ofNat 64 roundNs)

/-- The instant lies between START - 12 pips and START + LEN (R304). -/
def inSpan (run : SlotRun) (len : Nat) (t : BitVec 64) : Bool :=
  let d := (t - run.start).toInt
  decide (-600 ≤ d ∧ d ≤ len * 50)

/-- A stray frame (R304). -/
def State.strayFrame (s : State) (c : Nat) : State := (s.incSat (Reg.mbStray c) 15 0).raise (pMB c) 3

/-- A frame joins every occurrence whose span holds its start; one in no span is stray (R304). -/
def State.takeFrame (s : State) (c p : Nat) (ts : BitVec 64) (f : Bytes) : State :=
  match s.boards.act with
  | none => s.strayFrame c
  | some t =>
    let h := mbHeader f
    let l := (s.spans t p).filter (fun x => inSpan x.2 x.1.len (ts - BitVec.ofNat 64 (s.rxDelay t x.1 c)))
    if l = [] then s.strayFrame c
    else l.foldl (fun s x =>
      let copy : RxCopy := ⟨ts - BitVec.ofNat 64 (s.rxDelay t x.1 c), fcsGood f && s.headerFits x.1 x.2 c h, h.seq,
        slice f 14 24, mbPayload f⟩
      let run := if c = 0 then { x.2 with a := x.2.a ++ [copy] } else { x.2 with b := x.2.b ++ [copy] }
      s.modNet fun n => { n with slots := putRun n.slots run }) s

/-- The start of a sync node's SYNC slot nearest in measurement to `t`: the deviation from it, if it is within the
measurement window of the present or the next round (R46). -/
def State.nearDev (s : State) (t : Tables) (slot : Nat) (at_ : BitVec 64) : Option Int :=
  let one := fun (r : Word) (base : BitVec 64) => t.trackN.filterMap (fun e =>
    if e.slot = slot ∧ e.active r then
      let d := (at_ - (base + BitVec.ofNat 64 (e.start * 50))).toInt
      if d.natAbs ≤ 600 then some d else none
    else none)
  (one s.rsn s.time.roundStart ++ one (s.rsn + 1) (s.time.roundStart + BitVec.ofNat 64 roundNs)).head?

/-- The pair epoch that a SYNC frame gives (R42, R297). -/
def frameEpoch (sched : BitVec 64) (rsn : Word) : BitVec 64 :=
  BitVec.ofNat 64 (sched.toNat / roundNs * roundNs) - BitVec.ofNat 64 (rsn.toNat * roundNs)

/-- The cold-start engine changes state (R327). -/
def State.toCold (s : State) (st : Nat) : State :=
  if s.cold = st then s else (s.setFld Reg.mbCold 2 0 st).raise (pMB 0) 4

/-- The frame goes into the search (R53). -/
def State.searchFrame (s : State) (x : SyncRec) (j : Nat) (ch : Chan) (ts : BitVec 64) (f : Bytes) : State :=
  let sched := BitVec.ofNat 64 (leAt (mbPayload f) 8 8)
  let dev := (ts - BitVec.ofNat 64 (s.pathDelay x (chanNum ch)) - sched).toInt
  s.modTime fun t => { t with search := putMeas t.search j ch ⟨true, dev, frameEpoch sched (mbHeader f).rsn⟩ }

/-- The frame is measured (R45, R46). -/
def State.measureFrame (s : State) (x : SyncRec) (t : Tables) (j : Nat) (ch : Chan) (ts : BitVec 64) : State :=
  let c : SyncCopy := match s.nearDev t x.slot (ts - BitVec.ofNat 64 (s.pathDelay x (chanNum ch))) with
    | some d => ⟨true, d, 0⟩
    | none => ⟨false, 0, 0⟩
  s.modTime fun b => { b with meas := putMeas b.meas j ch c }

/-- What a cold-start attempt makes of a sync node's frame (R314, R315): a competing COLDSTART or a SYNC outside the
window ends it, the SYNC being kept for the search; a usable SYNC is its success. -/
def State.attemptFrame (s : State) (x : SyncRec) (t : Tables) (j : Nat) (ch : Chan) (ts : BitVec 64) (f : Bytes) : State :=
  if (mbHeader f).type = 4 then s.modNet fun n => { n with ending := true }
  else
    let s := s.searchFrame x j ch ts f
    if (s.nearDev t x.slot (ts - BitVec.ofNat 64 (s.pathDelay x (chanNum ch)))).isSome then
      s.modNet fun n => { n with usable := true }
    else s.modNet fun n => { n with ending := true }

/-- A SYNC or COLDSTART frame from another sync node (R45, R46, R53, R313 to R315); one with a bad FCS is rejected. -/
def State.syncFrame (s : State) (ch : Chan) (ts : BitVec 64) (f : Bytes) : State :=
  match s.boards.act with
  | none => s
  | some t =>
    let h := mbHeader f
    if !(h.type == 3 || h.type == 4) || h.sender == s.nodeAddr then s
    else if !fcsGood f then
      match t.syncs.findIdx? (fun x => x.node == h.sender) with
      | some j => s.modTime fun b => { b with meas := putMeas b.meas j ch ⟨false, 0, 0⟩ }
      | none => s
    else
      match t.syncs.findIdx? (fun x => x.node == h.sender) with
      | none => s
      | some j =>
        match t.syncs[j]? with
        | none => s
        | some x =>
          if s.time.state = .unsync then
            let s := s.searchFrame x j ch ts f
            if s.cold = 1 then s.toCold 0 else s
          else
            let s := s.measureFrame x t j ch ts
            if s.cold = 2 then s.attemptFrame x t j ch ts f else s

/-- A frame that another node has sent has been seen (R316). -/
def State.hearFrame (s : State) (f : Bytes) : State :=
  if (mbHeader f).sender = s.nodeAddr then s
  else (s.setFld Reg.mbCold 7 4 0).modNet fun n => { n with heard := true }

/-- A frame starts on a port of channel `ch` at `ts` (R293, R294, R304, R324). -/
def netRx (ch : Chan) (port : Fin 4) (ts : BitVec 64) (f : Bytes) (s : State) : State :=
  let c := chanNum ch
  if !s.portIsUp c port then s
  else
    let s := s.advanceTo ts
    if isPause f then s.strayFrame c
    else if mbMalformed f then s.incSat (Reg.mbStray c) 31 16
    else ((s.hearFrame f).syncFrame ch ts f).takeFrame c port ts f

/-! ### The end of a slot (R304 to R306, R308, R319, R340) -/

/-- The outcome of an occurrence on one channel (R304): 0 VALID, 1 EMPTY, 2 CORRUPT, 3 WINDOW. -/
def outcomeOf (run : SlotRun) : List RxCopy → Nat
  | [] => 1
  | [c] => if !c.good then 2 else if ((c.start - run.start).toInt.natAbs) ≤ 250 then 0 else 3
  | _ => 2

/-- MBS keeps the outcome, the timestamp and the SEQ of a channel (R305). -/
def State.keepOutcome (s : State) (t : Tables) (r : SlotRec) (run : SlotRun) (c : Nat) (l : List RxCopy) : State :=
  let o := outcomeOf run l
  let s := s.setFld (Reg.bank r.slot Reg.mbsInfo) (7 + 2 * c) (6 + 2 * c) o
  let ts : Word := match l with
    | [x] => if o = 0 ∨ o = 3 then (x.start + BitVec.ofNat 64 (s.rxDelay t r c)).setWidth 32 else 0
    | _ => 0
  let s := s.setReg (Reg.bank r.slot (Reg.mbsTsA + 4 * c)) ts
  match o, l with
  | 0, [x] => (s.setFld (Reg.bank r.slot Reg.mbsSeq) 15 0 x.seq.toNat).incWrap (Reg.mbRxCnt c) 31 0
  | 1, _ => s.incSat (Reg.bank r.slot (Reg.mbsCntA + 4 * c)) 15 0
  | 2, _ => s.incSat (Reg.bank r.slot (Reg.mbsCntA + 4 * c)) 31 16
  | _, _ => s.incSat (Reg.bank r.slot Reg.mbsWin) (15 + 16 * c) (16 * c)

/-- The forward record of an occurrence (R341). -/
def forwardRecord (slot ch outcomes : Nat) (ts : Word) (x : RxCopy) : Bytes :=
  let b := toLe 2 slot ++ toLe 1 ch ++ toLe 1 outcomes ++ wordBytes ts ++ x.header ++ x.payload
  b ++ zeros ((4 - b.length % 4) % 4)

/-- The forward record is sent (R340); its bytes count in the round. -/
def State.forward (s : State) (t : Tables) (r : SlotRec) (ch outcomes : Nat) (x : RxCopy) : State :=
  if !s.linkUp then s
  else
    let b := forwardRecord r.slot ch outcomes ((x.start + BitVec.ofNat 64 (s.rxDelay t r ch)).setWidth 32) x
    (s.dunlySend 2 11 b).modPair fun p => { p with fwdRound := p.fwdRound + b.length }

/-- A LOST station that has sent a VALID frame is RETURNING (R308). -/
def State.stationHeard (s : State) (r : SlotRec) (rsn : Word) : State :=
  match s.stationOf r rsn with
  | none => s
  | some k => if s.stnState k = 2 then s.setFld (Reg.bank k Reg.mbsStn) 1 0 3 else s

/-- The payloads of an occurrence's VALID copies: the module's own and those the partner forwarded (R306). -/
def SlotRun.valid (run : SlotRun) : List Bytes :=
  let own := fun (l : List RxCopy) => if outcomeOf run l = 0 then l.map (fun x => x.payload) else []
  own run.a ++ own run.b ++ run.fwd.map (fun x => x.2.payload)

/-- Two VALID copies of an occurrence differ in payload (R306). -/
def SlotRun.differs (run : SlotRun) : Bool :=
  match run.valid with
  | [] => false
  | p :: l => l.any (· != p)

/-- CH_MISMATCH of a slot that lands (R306). -/
def State.chMismatch (s : State) (slot : Nat) : State := (s.incSat (Reg.bank slot Reg.mbsInfo) 31 16).raise pMBS 2

/-- What becomes of a VALID frame (R306, R319, R320, R340). -/
def State.useValid (s : State) (t : Tables) (r : SlotRec) (run : SlotRun) (ch outcomes : Nat) (x : RxCopy) : State :=
  if s.landable r run.rsn then
    let s := (s.stationHeard r run.rsn).noteStation r run.rsn true
    s.forward t r ch outcomes x
  else if r.skind = 3 then
    let s := (s.incWrap Reg.mbgJoin 15 0).raise pMBG 1
    if s.state = .leader then s.joinRequest t (beAt x.header 4 4) (leAt x.payload 12 2) run.rsn else s
  else if r.skind = 5 ∧ s.state = .follower ∧ beAt x.header 0 1 % 16 = 6 then
    (List.range ((x.payload.length - 32) / 16)).foldl (fun s i => s.takeGrant (parseGrant (slice x.payload (32 + 16 * i) 16))) s
  else s

/-- A receive slot closes: the outcomes are decided (R304, R305), VALID copies of a slot that lands compared (R306). -/
def State.closeRun (s : State) (t : Tables) (r : SlotRec) (run : SlotRun) : State :=
  let s := (s.keepOutcome t r run 0 run.a).keepOutcome t r run 1 run.b
  let oa := outcomeOf run run.a
  let ob := outcomeOf run run.b
  let s := s.noteStation r run.rsn (!run.fwd.isEmpty && s.landable r run.rsn)
  let s := if s.landable r run.rsn && run.differs then s.chMismatch r.slot else s
  match oa, ob, run.a, run.b with
  | 0, _, [x], _ => s.useValid t r run 0 (4 * ob) x
  | _, 0, _, [y] => s.useValid t r run 1 oa y
  | _, _, _, _ => s

/-- SLOT_CLOSE (R304): at START + LEN. The copies of the occurrence stay until the slot's next one closes. -/
def slotClose (slot : BitVec 16) (s : State) : State :=
  match s.boards.act, s.net.slots.find? (fun x => x.slot == slot.toNat && x.isOpen) with
  | some t, some run =>
    match t.slotRec slot.toNat with
    | none => s
    | some r =>
      let s := s.advanceTo (run.start + BitVec.ofNat 64 (r.len * 50))
      let s := s.modNet fun n =>
        { n with slots := putRun (n.slots.filter (fun x => x.slot != run.slot || x.isOpen)) { run with isOpen := false } }
      if run.own then s else s.closeRun t r run
  | _, _ => s

/-! ### The round boundary (R307, R308, R322) -/

/-- The DATA_IN slots of a station in the active board (R307). -/
def State.slotsOf (s : State) (k : Nat) : List Nat :=
  match s.boards.act with
  | some t => (t.slots.filter (fun r => r.skind == 0 && r.node % 4096 == k)).map (fun r => r.slot)
  | none => []

/-- A station is declared LOST (R307): event 1 is due for its slots; its grants end (R322). -/
def State.stationLost (s : State) (k : Nat) : State :=
  let b := Reg.bank k Reg.mbsStn
  let s := (((s.setFld b 1 0 2).incSat b 31 16).incWrap Reg.mbsLost 31 16).raise pMBS 0
  let i := BitVec.ofNat 32 k
  let s := (s.logErr pMBS 0x0101 i).recErr pMBS 0x0101 i .normal []
  let l := s.slotsOf k
  let s := s.modNet fun n => { n with
    back := n.back.filter (fun x => x.1 != k), lostDue := n.lostDue.filter (!l.contains ·) ++ l }
  (s.net.grants.filter (fun g => g.node % 4096 == k)).foldl (fun s g => s.endGrant g.slot) s

/-- A station at the end of a round in which it had a slot (R307, R308); `landed` says that a VALID copy has come, with
which the slots of a PRESENT station land. -/
def State.stationRound (s : State) (k : Nat) (landed : Bool) : State :=
  if !s.tracked k then s
  else
    let b := Reg.bank k Reg.mbsStn
    let st := s.stnState k
    let n := if landed ∧ st = 1 then 0 else satInc 15 (s.fld b 5 2)
    let s := (s.setFld b 1 0 st).setFld b 5 2 n
    if st = 1 then (if max 1 (s.fld Reg.mbNetCfg 3 0) ≤ n then s.stationLost k else s)
    else if !landed then
      (s.setFld b 1 0 2).modNet fun m => { m with back := m.back.filter (fun x => x.1 != k) }
    else
      let v := tget 0 s.net.back k + 1
      if max 1 (s.fld Reg.mbNetCfg 7 4) ≤ v then
        let l := s.slotsOf k
        let s := s.modNet fun m => { m with
          back := m.back.filter (fun x => x.1 != k), lostDue := m.lostDue.filter (!l.contains ·) }
        (s.setFld b 1 0 1).raise pMBS 1
      else (s.setFld b 1 0 3).modNet fun m => { m with back := tput m.back k v }

/-- The stations at a round boundary (R307, R308). -/
def State.stationsRound (s : State) : State :=
  let l := s.net.active
  l.foldl (fun s x => s.stationRound x.1 x.2) (s.modNet fun n => { n with active := [] })

/-- MAPPED grants at a round boundary: carried for 512 rounds, then dropped (R322). -/
def State.grantsRound (s : State) : State :=
  let s := s.modNet fun n => { n with grants := n.grants.map (fun g => if g.mapped then { g with age := g.age + 1 } else g) }
  (s.net.grants.filter (fun g => g.mapped && decide (512 ≤ g.age))).foldl (fun s g => s.endGrant g.slot) s

/-! ### The counts (R305, R329) -/

/-- The counts of slot `k` return to 0. -/
def State.clearCounts (s : State) (k : Nat) : State :=
  let s := (s.setReg (Reg.bank k Reg.mbsCntA) 0).setReg (Reg.bank k Reg.mbsCntB) 0
  (s.setReg (Reg.bank k Reg.mbsWin) 0).setFld (Reg.bank k Reg.mbsInfo) 31 16 0

/-- MBS_CLR_SLOT (R329). -/
def mbsClrSlot (s : State) : State := s.onPage pMBS fun s => s.clearCounts (s.fld Reg.mbsSel 15 0)

/-- MBS_CLR_ALL (R329). -/
def mbsClrAll (s : State) : State :=
  if !s.domainUp 3 then s.downError pMBS
  else
    { s with regs := s.regs.map (fun x =>
        let k := x.1 % 0x100000
        if k = Reg.mbsCntA ∨ k = Reg.mbsCntB ∨ k = Reg.mbsWin then (x.1, 0)
        else if k = Reg.mbsInfo then (x.1, withBits x.2 31 16 0) else x) }

/-- SLOT_OPEN (R125). -/
def execSlotOpen (idx : Nat) (s : State) : Host.Outcome State Fault Refusal := .next (slotOpen idx s)
/-- SLOT_CLOSE (R304). -/
def execSlotClose (slot : BitVec 16) (s : State) : Host.Outcome State Fault Refusal := .next (slotClose slot s)
/-- SYNC_RX (R45). -/
def execSyncRx (ch : Chan) (port : Fin 4) (ts : BitVec 64) (frame : Bytes) (s : State) : Host.Outcome State Fault Refusal :=
  .next (netRx ch port ts frame s)
/-- COLDSTART_RX (R315). -/
def execColdstartRx (ch : Chan) (port : Fin 4) (ts : BitVec 64) (frame : Bytes) (s : State) : Host.Outcome State Fault Refusal :=
  .next (netRx ch port ts frame s)
/-- DATA_IN_RX (R340). -/
def execDataInRx (ch : Chan) (port : Fin 4) (ts : BitVec 64) (frame : Bytes) (s : State) : Host.Outcome State Fault Refusal :=
  .next (netRx ch port ts frame s)
/-- PEER_RX (R312). -/
def execPeerRx (ch : Chan) (port : Fin 4) (ts : BitVec 64) (frame : Bytes) (s : State) : Host.Outcome State Fault Refusal :=
  .next (netRx ch port ts frame s)
/-- JOIN_REQ_RX (R319). -/
def execJoinReqRx (ch : Chan) (port : Fin 4) (ts : BitVec 64) (frame : Bytes) (s : State) : Host.Outcome State Fault Refusal :=
  .next (netRx ch port ts frame s)
/-- GRANT_RX (R320). -/
def execGrantRx (ch : Chan) (port : Fin 4) (ts : BitVec 64) (frame : Bytes) (s : State) : Host.Outcome State Fault Refusal :=
  .next (netRx ch port ts frame s)
/-- ANNOUNCE_RX (R299). -/
def execAnnounceRx (ch : Chan) (port : Fin 4) (ts : BitVec 64) (frame : Bytes) (s : State) : Host.Outcome State Fault Refusal :=
  .next (netRx ch port ts frame s)
/-- DATA_OUT_RX (R304). -/
def execDataOutRx (ch : Chan) (port : Fin 4) (ts : BitVec 64) (frame : Bytes) (s : State) : Host.Outcome State Fault Refusal :=
  .next (netRx ch port ts frame s)
/-- STRAY_FRAME_RX (R293, R294, R304). -/
def execStrayFrameRx (ch : Chan) (port : Fin 4) (ts : BitVec 64) (frame : Bytes) (s : State) : Host.Outcome State Fault Refusal :=
  .next (netRx ch port ts frame s)
/-- MBS_CLR_SLOT (R329). -/
def execMbsClrSlot (s : State) : Host.Outcome State Fault Refusal := .next (mbsClrSlot s)
/-- MBS_CLR_ALL (R329). -/
def execMbsClrAll (s : State) : Host.Outcome State Fault Refusal := .next (mbsClrAll s)

end Sys2Proof.Machine
end

