-- ==== Sys2Proof/Machine/Cold.lean ====
section
/-! DEFINITION. The cold-start engine (R313 to R316). -/

namespace Sys2Proof.Machine

/-- The module may cold-start (R313). -/
def State.coldEligible (s : State) : Bool :=
  s.boards.active != .none && s.isSyncNode && bit (s.reg Reg.mbNetCfg) 20 && s.time.state == .unsync
    && (List.range 4).any (fun p => s.portIsUp 0 p || s.portIsUp 1 p)

/-- The cold-start index of this module (R94). -/
def State.ownCsidx (s : State) : Nat :=
  match s.boards.act with
  | some t => match t.syncs.find? (fun x => x.node == s.nodeAddr) with
    | some x => x.csidx
    | none => 0
  | none => 0

/-- The state at the round boundary at which the engine acts, and whether the round of that boundary has still to
begin. -/
def State.coldEdge (s : State) : State × Bool :=
  if s.atRoundEdge then (s, false) else (s.advanceTo s.nextBoundary, true)

/-- The engine enters LISTEN (R313, R315). -/
def State.coldWait (s : State) (ahead : Bool) : State :=
  ((s.toCold 1).setFld Reg.mbCold 15 8 (4 + 2 * s.ownCsidx)).modNet fun n => { n with fresh := ahead }

/-- COLD_LISTEN (R313). -/
def coldListen (s : State) : State :=
  if !s.domainUp 3 || s.cold == 1 || s.cold == 2 || !s.coldEligible || (searchStep s.time.search).isSome then s
  else
    let e := s.coldEdge
    e.1.coldWait e.2

/-- The rounds of the engine's present state that have ended at the boundary `e`. -/
def State.coldEnded (s : State) (ahead : Bool) : Nat := b2n (ahead && !s.net.fresh)

/-- The attempt begins (R314, R316): `alone` says that it is the one that R316 lets succeed. -/
def State.beginAttempt (s : State) (ahead : Bool) : State :=
  let n := match s.boards.act with | some t => t.hdr.syncCount | none => 0
  let alone := s.fld Reg.mbNetCfg 19 16 != 0 && decide (s.fld Reg.mbNetCfg 19 16 ≤ s.fld Reg.mbCold 7 4)
  let s := ((s.toCold 2).incSat Reg.mbCold 31 16).setFld Reg.mbCold 15 8 0
  let s := s.modNet fun m => { m with ending := false, usable := n == 1 || alone, heard := false, rounds := 0, fresh := ahead }
  if alone then (s.raise (pMB 0) 5).recIrq (pMB 0) 5 .normal (toLe 4 (s.fld Reg.mbCold 7 4)) else s

/-- The pair epoch is the boundary that has been reached, so that its round has RSN 0 (R314). -/
def State.epochHere (s : State) : State :=
  let s := s.modTime fun t => { t with epoch := s.roundEdge, epochSet := true, search := [], stepPend := none }
  let s := if s.seqr.state = .run ∧ s.atRoundEdge then
      s.modSeqr fun q => { q with walk := some (s.walkOf 0) }
    else s
  s.toTb .synced

/-- The step to PTP time before the attempt (R60, R314): the epoch is the first round boundary of the stepped time. -/
def State.epochStepped (s : State) : State :=
  let gt := s.time.gt - BitVec.ofInt 96 ((s.reg Reg.timExtOfs).toInt * 2 ^ 32)
  let ns := (gt.extractLsb' 32 64).toNat
  let first := (ns + roundNs - 1) / roundNs * roundNs
  let s := s.modTime fun t => { t with extFresh := false, extNew := false }
  s.stepTime gt (BitVec.ofNat 64 first) true .synced

/-- COLD_ATTEMPT (R314, R316): at the boundary at which the LISTEN timer expires. -/
def coldAttempt (s : State) : State :=
  if !s.domainUp 3 || s.cold != 1 || !s.coldEligible then s
  else
    let e := s.coldEdge
    if e.1.coldEnded e.2 < e.1.fld Reg.mbCold 15 8 then s
    else if e.1.fld Reg.timCtrl 1 0 = 1 ∧ e.1.time.extFresh then (e.1.epochStepped).beginAttempt true
    else (e.1.epochHere).beginAttempt e.2

/-- COLD_ABANDON (R315, R316): the search frames of the round are kept. -/
def coldAbandon (s : State) : State :=
  if !s.domainUp 3 || s.cold != 2 then s
  else
    let e := s.coldEdge
    let t := e.1
    let n := t.net.rounds + t.coldEnded e.2
    let out := decide (max 20 (t.fld Reg.mbNetCfg 15 8) ≤ n)
    if t.net.usable || !(t.net.ending || out) || (e.2 && t.net.fresh) then s
    else
      let t := if out && !t.net.ending && !t.net.heard then t.incSat Reg.mbCold 7 4 else t
      let kept := if e.2 then t.time.search else t.time.kept
      let t := (t.toTb .unsync).modTime fun b => { b with search := kept }
      t.coldWait e.2

/-- COLD_DONE (R314): from the round after the attempt has succeeded. -/
def coldDone (s : State) : State :=
  if !s.domainUp 3 || s.cold != 2 || !s.net.usable then s
  else
    let e := s.coldEdge
    if 1 ≤ e.1.net.rounds + e.1.coldEnded e.2 then e.1.toCold 3 else s

/-- The engine at the beginning of a round: one more round of LISTEN or of the attempt has ended (R313, R315). A module
that is no longer eligible leaves LISTEN. -/
def State.coldRound (s : State) : State :=
  if s.net.fresh then s.modNet fun n => { n with fresh := false }
  else if s.cold = 1 then
    if s.coldEligible then s.setFld Reg.mbCold 15 8 (s.fld Reg.mbCold 15 8 - 1) else (s.toCold 0).setFld Reg.mbCold 15 8 0
  else if s.cold = 2 then s.modNet fun n => { n with rounds := n.rounds + 1 }
  else s

/-- COLD_LISTEN (R313). -/
def execColdListen (s : State) : Host.Outcome State Fault Refusal := .next (coldListen s)
/-- COLD_ATTEMPT (R314). -/
def execColdAttempt (s : State) : Host.Outcome State Fault Refusal := .next (coldAttempt s)
/-- COLD_ABANDON (R315). -/
def execColdAbandon (s : State) : Host.Outcome State Fault Refusal := .next (coldAbandon s)
/-- COLD_DONE (R314). -/
def execColdDone (s : State) : Host.Outcome State Fault Refusal := .next (coldDone s)

end Sys2Proof.Machine
end

