-- ==== Sys2Proof/Machine/Pair.lean ====
section
/-! DEFINITION. The redundant pair: lead line, link, health blocks, digests, pair check, castling and the leader's
messages (R330 to R358, R367 to R370). -/

namespace Sys2Proof.Machine

/-- The state at the round boundary that has been reached or comes next (R330). -/
def State.atBoundary (s : State) : State := s.coldEdge.1

/-- The guardian's OWNER 2 records follow the state at the boundary of the round (R303, R328). -/
def State.showLead (s : State) : State :=
  let l := s.state == .leader
  (s.setFld Reg.mbgStat 8 8 (b2n l)).modNet fun n => { n with leadRound := l }

/-! ### The lead line (R331, R350 to R354) -/

/-- How long the partner's line must be dead before the latch enables the driver, in ns (R352). -/
def State.latchNs (s : State) : Nat := if s.isB then 2500000 else 2000000

/-- The operating time at which the partner's line has been dead for that long. -/
def State.latchAt (s : State) : Nat := s.lineDead + s.latchNs

/-- What the lead and the join conditions share (R331, R399, R413). -/
def State.pairReady (s : State) : Bool :=
  s.domainUp 2 && !s.heldInBoot && s.state == .boot && s.boards.active == .loaded && s.time.state == .synced

/-- The lead conditions hold, but for how long the line has been dead (R331, R380). -/
def State.leadReady (s : State) : Bool :=
  s.pairReady && !s.partnerLive
    && (s.pair.leadRel || (bit (s.reg Reg.pairCtrl) 0 && !s.needsReplacement))

/-- The join conditions hold (R331, R380). -/
def State.joinReady (s : State) : Bool :=
  s.pairReady && s.partnerLive && s.linkUp && !s.needsReplacement
    && (s.pair.joinRel || bit (s.reg Reg.pairCtrl) 1)

/-- The records of a module that waits in BOOT: partner line live while the link is down (R331), once an episode; a
module that needs replacement (R380), once a reset. -/
def State.bootNotes (s : State) : State :=
  if s.state ≠ .boot then s
  else
    let ep := s.partnerLive && !s.linkUp
    let s := if ep && !s.pair.episode then s.recIrq pPAIR 0 .normal (toLe 4 1) else s
    let s := s.modPair fun p => { p with episode := ep }
    if s.needsReplacement && !s.pair.replaced && s.domainUp 3 then
      (s.recIrq pPAIR 0 .critical (toLe 4 2)).modPair fun p => { p with replaced := true }
    else s

/-- LEAD_TAKE (R331, R352): once the line has been dead for the latch's time. -/
def leadTake (s : State) : State := if s.leadReady then (s.waitOp s.latchAt).takeLead else s

/-- JOIN_ENTER (R331, R360). -/
def joinEnter (s : State) : State := if s.joinReady then s.enterJoining else s

/-- PARTNER_LINE_DEAD_2MS (R330, R332, R352). -/
def partnerLineDead2ms (s : State) : State :=
  if s.partnerLive || !s.domainUp 2 then s
  else
    match s.state with
    | .follower => (s.waitOp s.latchAt).takeLead
    | .mute => (s.waitOp s.latchAt).takeLead
    | .boot => leadTake s
    | .joining => (s.waitOp (s.lineDead + 2000000)).joinToBoot
    | _ => s

/-- PARTNER_LINE_CHANGE (R351): a FOLLOWER without the link whose leader's line becomes live enters MUTE (R330, R358). -/
def partnerLineChange (live : Bool) (s : State) : State :=
  if s.partnerLive = live ∨ !s.domainUp 0 then s
  else
    let s := (s.setFld Reg.ilkStat 2 2 (b2n live)).raise pILK 2
    let s := if live then s else { s with lineDead := s.opNs }
    if !s.domainUp 2 then s
    else if live ∧ s.state = .follower ∧ !s.linkUp then s.toState .mute
    else s.bootNotes

/-- YIELD (R352): Partner B's driver is turned off when Partner A's line becomes live. -/
def yield (s : State) : State :=
  if !s.isB || !bit (s.reg Reg.ilkStat) 0 || !s.partnerLive then s
  else
    let s := ((s.incSat Reg.ilkCnt 23 16).raise pILK 4).logErr pILK 0x0102 0
    let s := s.recErr pILK 0x0102 0 .normal []
    if s.state = .leader then s.dropLead else s.releaseLine

/-- The own line falls (R350, R351, R356). -/
def State.lineFalls (s : State) : State := { s with ownFall := s.opNs :: s.ownFall.take 1 }

/-- READBACK (R354): the own line has not been live for 300 µs while the driver is enabled. -/
def readback (s : State) : State :=
  if !bit (s.reg Reg.ilkStat) 0 then s
  else
    let s := { s with ownFall := [] }
    let s := ((s.incSat Reg.ilkCnt 31 24).raise pILK 3).logErr pILK 0x0101 0
    let s := s.recErr pILK 0x0101 0 .normal []
    if s.state = .leader then s.dropLead else s.releaseLine

/-- The leader holds its line low in the present round (R356). -/
def State.handingOff (s : State) : Bool :=
  match s.pair.castle with
  | some c => s.state == .leader && c.take && c.c == s.rsn
  | none => false

/-- When the next low pulse begins (R350, R356): 100 µs after the last, the first after a castling at pip 40. -/
def State.toPulse (s : State) : State :=
  let s := match s.pair.pulseRsn with
    | some r => if s.rsn = r ∧ s.pipInRound < 40 then s.toPip 40 else s
    | none => s
  match s.ownFall with
  | a :: _ => s.waitOp (a + 100000)
  | [] => s

/-- LEAD_PULSE (R350): 50 µs low in every 100 µs. -/
def leadPulse (s : State) : State :=
  if !bit (s.reg Reg.ilkStat) 0 || s.handingOff then s
  else ((s.toPulse.lineFalls).modPair fun p => { p with pulseRsn := none }).send (.leadLow 1000)

/-! ### PAIR_CMD (R330, R331, R346, R355, R376) -/

/-- PAIR_CMD LEAD (R331). -/
def pairCmdLead (s : State) : State :=
  if !s.domainUp 2 then s.downError pPAIR
  else if s.state = .boot then s.modPair fun p => { p with leadRel := true }
  else s.refuse Reg.pairCmd

/-- PAIR_CMD JOIN (R331). -/
def pairCmdJoin (s : State) : State :=
  if !s.domainUp 2 then s.downError pPAIR
  else if s.state = .boot then s.modPair fun p => { p with joinRel := true }
  else s.refuse Reg.pairCmd

/-- The partner cannot take part in a change: it is absent, in BOOT, MUTE or STOOD_DOWN, or the link is down (R283,
R357). -/
def State.partnerOut (s : State) : Bool :=
  !s.linkUp || s.partnerState == 0 || s.partnerState == 4 || s.partnerState == 5 || s.partnerState == 7

/-- The leader needs no ACCEPT (R283, R357). -/
def State.changeAlone (s : State) (x : ChangeRun) : Bool := x.alone || s.partnerOut

/-- An online change is agreed (R280, R355, R360): the follower has accepted it, it is decided, or it needs no ACCEPT
(assumption 105). -/
def State.changeAgreed (s : State) : Bool :=
  match s.pair.change with
  | some x => x.accepted || x.decided == some true || (s.state == .leader && s.changeAlone x)
  | none => false

/-- The leader may accept a castling (R355, R450). -/
def State.mayCastle (s : State) : Bool :=
  s.state == .leader && s.linkUp && s.partnerState == 2 && s.pair.check.isNone && s.pair.xfer.isNone
    && s.pair.reqId.isEmpty && !s.changeAgreed && s.pair.castle.isNone
    && !(s.upd.state == .pending || s.handingOver)

/-- PAIR_CMD CASTLE (R355). -/
def pairCmdCastle (s : State) : State :=
  if !s.domainUp 2 then s.downError pPAIR
  else if s.mayCastle then
    let c := s.rsn + 8
    (s.sendCastle 1 c).modPair fun p => { p with castle := some ⟨c, false⟩ }
  else s.refuse Reg.pairCmd

/-- PAIR_CMD STAND_DOWN (R376). -/
def pairCmdStandDown (s : State) : State :=
  if !s.domainUp 2 then s.downError pPAIR else if s.mayStandDown then s.standDown 4 else s.refuse Reg.pairCmd

/-- PAIR_CMD BENCH (R330): option bit BENCH_EN and the service key; not from a BOOT that the module may not leave (R399,
R413). -/
def pairCmdBench (s : State) : State :=
  if !s.domainUp 2 then s.downError pPAIR
  else if s.state = .boot ∧ !s.heldInBoot ∧ (leAt s.option 0x0D 1).testBit 0 ∧ s.svcKey then s.toState .bench
  else s.refuse Reg.pairCmd

/-- PAIR_CMD ABORT_JOIN (R330). -/
def pairCmdAbortJoin (s : State) : State :=
  if !s.domainUp 2 then s.downError pPAIR else if s.state = .joining then s.joinToBoot else s.refuse Reg.pairCmd

/-- PAIR_CMD RESET_PARTNER (R346). -/
def pairCmdResetPartner (s : State) : State :=
  if !s.domainUp 2 then s.downError pPAIR
  else if s.state = .leader ∧ s.linkUp ∧ s.partnerState = 5 then s.dunlySend 0 10 (zeros 4)
  else s.refuse Reg.pairCmd

/-! ### The link (R336, R357 to R359) -/

/-- DXL_LINK_UP (R336): XCLK has been good and all four lanes have held block lock for 1 ms, and two valid HEALTH messages
have come in consecutive rounds. -/
def dxlLinkUp (s : State) : State :=
  if !s.domainUp 3 || s.linkUp || decide (s.pair.goodRun < 2) || !s.clockGood 5 || s.fld Reg.dxlState 4 1 != 15 then s
  else
    let s := s.waitOp (max ((s.rst.clkAt[5]?.join).getD 0) s.pair.lockAt + 1000000)
    let s := (s.setFld Reg.dxlState 4 0 31).raise pDXL 1
    let s := s.recIrq pDXL 1 .normal []
    let s := s.modPair fun p => { p with seqOut := Vector.replicate 4 0, seqIn := Vector.replicate 4 0 }
    match s.state with
    | .mute => s.enterJoining
    | .joining => (s.sendJoinc 1 0 s.rsn).joinPhase 1
    | .boot => s.bootNotes
    | _ => s

/-- A running transfer is abandoned at the joiner (R359, R365). -/
def State.abandonJoin (s : State) (reason : Nat) : State :=
  let i := BitVec.ofNat 32 reason
  let s := ((s.logErr pPAIR 0x0103 i).recErr pPAIR 0x0103 i .normal []).raise pPAIR 4
  (s.joinPhase 0).setFld Reg.pairJoin 23 16 reason

/-- What the loss of the link does to the module state (R330, R332, R357 to R359). -/
def State.linkLost (s : State) : State :=
  match s.state with
  | .follower => if s.partnerLive then s.toState .mute else s
  | .joining =>
    if s.fld Reg.pairJoin 2 0 = 5 then s.joinToBoot
    else if s.fld Reg.pairJoin 2 0 = 4 then s.abandonJoin 3
    else (s.modPair fun p => { p with joinDone := false }).joinPhase 0
  | .leader => s.joinPhase 0
  | .boot => s.bootNotes
  | _ => s

/-- DXL_STATE LOCK shows the lanes that hold block lock (R368). -/
def State.showLock (s : State) (lanes : BitVec 4) : State :=
  let was := s.fld Reg.dxlState 4 1
  let s := s.setFld Reg.dxlState 4 1 (15 - lanes.toNat)
  if was ≠ 15 ∧ lanes = 0 then s.modPair fun p => { p with lockAt := s.opNs } else s

/-- The Dunly link goes down (R336): the lanes without block lock, and whether HEALTH messages are missing. -/
def State.dropLink (s : State) (lanes : BitVec 4) (health : Bool) : State :=
  if !s.linkUp then s
  else
    let i := BitVec.ofNat 32 (lanes.toNat + b2n health * 16)
    let s := (s.showLock lanes).setFld Reg.dxlState 0 0 0
    let s := ((s.incSat Reg.dxlDowns 15 0).logErr pDXL 0x0101 i).recErr pDXL 0x0101 i .normal []
    let s := (s.raise pDXL 0).setFld Reg.ilkStat 3 3 0
    let s := s.modPair fun p => { p with goodRun := 0, check := none, castle := none, xfer := none, reqId := [], downIn := true }
    s.linkLost

/-- The boundary at which two rounds have passed without a valid HEALTH message (R336). -/
def State.silentAt (s : State) : BitVec 64 :=
  s.time.roundStart + BitVec.ofInt 64 ((s.pair.heardRsn + 3 - s.roundRsn).toInt * roundNs)

/-- DXL_LINK_DOWN (R336): the lanes that lack block lock, for 20 µs when the link is up, and whether two rounds have passed
without a valid HEALTH message; while the link is already down LOCK follows the lanes (R368), so that lanes that have come
into lock are reported with no lane lacking it. -/
def dxlLinkDown (lanes : BitVec 4) (health : Bool) (s : State) : State :=
  if s.linkUp then
    (if health then (s.advanceTo s.silentAt).dropLink lanes true
     else if lanes = 0 ∧ s.clockGood 5 then s
     else s.dropLink lanes false)
  else if s.domainUp 3 then s.showLock lanes
  else s

/-! ### Health blocks (R284, R366, R367) -/

/-- The identity bytes that a health block carries (R367). -/
def blockId (b : Bytes) : Bytes := slice b 0x20 8

/-- What a new block of the partner brings about (R284, R360). -/
def State.partnerSeen (s : State) (was block : Bytes) : State :=
  if s.state = .follower ∧ leAt block 4 1 = 3 ∧ leAt block 0 4 = s.rsn.toNat ∧ blockId block ≠ s.activeId.take 8 then
    s.enterJoining
  else if s.state = .joining ∧ s.fld Reg.pairJoin 2 0 = 3 ∧ blockId was ≠ blockId block then
    (s.sendJoinc 1 0 s.rsn).joinPhase 1
  else s

/-- HEALTH_MSG_RX (R337, R367). -/
def healthMsgRx (lane : Fin 4) (msg : Bytes) (s : State) : State :=
  s.dunlyRx lane 1 msg fun s _ b =>
    if leAt b 0xFC 4 ≠ (crc32c (b.take 0xFC)).toNat then s.dunlyBad
    else
      let was := s.pair.partner
      let d := (BitVec.ofNat 32 (leAt b 0 4) - BitVec.ofNat 32 (leAt was 0 4)).toNat
      let run := if was.isEmpty then 1 else if d = 0 then max 1 s.pair.goodRun else if d = 1 then s.pair.goodRun + 1 else 1
      (s.modPair fun p => { p with partner := b, goodRun := min 2 run, heardRsn := s.roundRsn }).partnerSeen was b

/-! ### Cycle digests and the pair check (R348, R349) -/

/-- DIGEST_MSG_RX (R348). -/
def digestMsgRx (lane : Fin 4) (msg : Bytes) (s : State) : State :=
  s.dunlyRx lane 2 msg fun s _ b =>
    let d : DigRec := ⟨leAt b 0 1, BitVec.ofNat 32 (leAt b 4 4), BitVec.ofNat 64 (leAt b 8 8)⟩
    s.modPair fun p => { p with digPart := p.digPart.filter (fun x => x.task != d.task) ++ [d] }

/-- The pair check starts (R349, R387): each RUNNING lane owes the seven roll segments. -/
def State.startCheck (s : State) (since : Nat) : State :=
  let s := over16 (fun s n => if s.lanes[n].state = .running then s.modLane n (fun l => { l with rolls := 7 }) else s) s
  s.modPair fun p => { p with check := some ⟨s.rsn, since, none, none⟩ }

/-- The digests of a task differ (R348). -/
def State.digestsDiffer (s : State) (task : Nat) (since : Nat) : State :=
  let i := BitVec.ofNat 32 task
  let s := (((s.incSat Reg.pairDigCnt 23 16).setReg Reg.pairDigLast s.rsn).raise pPAIR 1).logErr pPAIR 0x0101 i
  let s := s.recErr pPAIR 0x0101 i .normal []
  if s.pair.check.isNone then s.startCheck since else s

/-- Both partners execute the board together (R339, R348). -/
def State.coExecuting (s : State) : Bool :=
  (s.state == .follower || s.state == .leader) && (s.partnerState == 2 || s.partnerState == 3)

/-- DIGEST_COMPARE (R348): at DIGEST START + 8, which for the last eight pips lies in the round after the entry's. -/
def digestCompare (idx : Nat) (s : State) : State :=
  match (s.track .f)[idx]? with
  | none => s
  | some e =>
    let t := e.task
    let next := decide (5000 ≤ e.start + 8)
    match s.pair.digOwn.find? (fun d => d.task == t.val && d.rsn == (if next then s.roundRsn - 1 else s.roundRsn)) with
    | none => s
    | some own =>
      let s := s.toPip ((e.start + 8) % 5000)
      let part := s.pair.digPart.find? (fun d => d.task == t.val && d.rsn == own.rsn)
      let s := s.modPair fun p => { p with
        digOwn := p.digOwn.filter (fun d => d.task != t.val)
        digPart := p.digPart.filter (fun d => !(d.task == t.val && d.rsn == own.rsn)) }
      if !s.coExecuting || !(s.linkUp || s.pair.downIn) then s
      else
        match part with
        | none => s.incSat Reg.pairDigCnt 31 28
        | some d => if d.dig = own.dig then s.incWrap Reg.pairDigCnt 15 0 else s.digestsDiffer t.val s.pair.digStart[t]

/-- Part 1 of the check (R349): the working copy has the active board's identity and its track entries. -/
def State.copyIntact (s : State) : Bool :=
  match s.boards.act with
  | none => false
  | some t =>
    let c := parseBoard (s.mem.read (workCopy false) t.hdr.boardLen)
    c.identity == t.identity && c.trackN == t.trackN && c.trackL == t.trackL && c.trackM == t.trackM && c.trackF == t.trackF

/-- The part of the check that fails first, 0 for a pass (R349). -/
def State.checkResult (s : State) (c : CheckRun) (engine : Bool) : Nat :=
  if !s.copyIntact then 1
  else if !engine then 2
  else if s.pair.faultAt.any (fun r => decide (c.since ≤ r)) then 3
  else 0

/-- The outcome of the check, once both results are known (R349). -/
def State.checkOutcome (s : State) : State :=
  match s.pair.check with
  | some ⟨_, _, some own, some partner⟩ =>
    let s := s.modPair fun p => { p with check := none }
    match s.state, own == 0, partner with
    | .leader, true, true => s.incSat Reg.pairDigCnt 27 24
    | .follower, true, true => (s.incSat Reg.pairDigCnt 27 24).enterJoining
    | .leader, false, true => s.standDown 5
    | .follower, false, _ => s.standDown 5
    | .leader, false, false => s.recErr pPAIR 0x0102 (BitVec.ofNat 32 own) .critical []
    | _, _, _ => s
  | _ => s

/-- PAIR_CHECK_END (R349): at a round boundary after all parts have ended, or 1,280 rounds after the start. Part 4 ends when
every lane has run its seven positions or is out (R387); it does not fail the check. -/
def pairCheckEnd (engine : Bool) (s : State) : State :=
  match s.pair.check with
  | none => s
  | some c =>
    let t := s.atBoundary
    let rolled := (List.finRange 16).all (fun n => t.lanes[n].rolls == 0)
    if c.own.isSome || !(rolled || decide (1280 ≤ (t.rsn - c.start).toInt)) then s
    else
      let r := t.checkResult c engine
      let i := BitVec.ofNat 32 r
      let t := (t.setFld Reg.pairState 9 8 (if r = 0 then 1 else 2)).raise pPAIR 2
      let t := if r = 0 then t else (t.logErr pPAIR 0x0102 i).recErr pPAIR 0x0102 i .normal []
      let t := t.sendCheck (if r = 0 then 1 else 2) r c.start
      (t.modPair fun p => { p with check := some { c with own := some r } }).checkOutcome

/-- CHECK_MSG_RX (R349). -/
def checkMsgRx (lane : Fin 4) (msg : Bytes) (s : State) : State :=
  s.dunlyRx lane 8 msg fun s _ b =>
    match s.pair.check with
    | none => s
    | some c =>
      if leAt b 4 4 ≠ c.start.toNat then s
      else (s.modPair fun p => { p with check := some { c with partner := some (leAt b 0 1 == 1) } }).checkOutcome

/-! ### Castling (R355, R356) -/

/-- The castling ends without change. -/
def State.endCastle (s : State) : State :=
  (s.setFld Reg.ilkStat 3 3 0).modPair fun p => { p with castle := none }

/-- CASTLE_OFFER_RX (R355). -/
def castleOfferRx (lane : Fin 4) (msg : Bytes) (s : State) : State :=
  s.dunlyRx lane 4 msg fun s _ b =>
    let c := BitVec.ofNat 32 (leAt b 4 4)
    if leAt b 0 1 ≠ 1 ∨ s.state = .leader then s
    else if s.state = .follower ∧ s.time.state = .synced then
      ((s.setFld Reg.ilkStat 3 3 1).sendCastle 2 c).modPair fun p => { p with castle := some ⟨c, true⟩ }
    else s.sendCastle 3 c

/-- CASTLE_TAKE_RX (R356). -/
def castleTakeRx (lane : Fin 4) (msg : Bytes) (s : State) : State :=
  s.dunlyRx lane 4 msg fun s _ b =>
    match s.pair.castle with
    | none => s
    | some x =>
      if leAt b 0 1 = 2 ∧ s.state = .leader ∧ leAt b 4 4 = x.c.toNat then
        s.modPair fun p => { p with castle := some { x with take := true } }
      else s

/-- CASTLE_CANCEL_RX (R355). -/
def castleCancelRx (lane : Fin 4) (msg : Bytes) (s : State) : State :=
  s.dunlyRx lane 4 msg fun s _ b => if leAt b 0 1 = 3 then s.endCastle else s

/-- CASTLE_DEADLINE (R355): no TAKE by the edge of pip 0 of round C - 2. -/
def castleDeadline (s : State) : State :=
  match s.pair.castle with
  | none => s
  | some x =>
    let t := s.atBoundary
    if s.state = .leader ∧ !x.take ∧ !later (x.c - 2) t.rsn then (t.sendCastle 3 x.c).endCastle else s

/-- The castling at the beginning of a round: an OFFER in every round until TAKE; the line held low in round C, with a
falling edge unless a low pulse is still under way (R350); a castling whose hand-off did not come is over (R355, R356). -/
def State.castleRound (s : State) : State :=
  match s.pair.castle with
  | none => s
  | some x =>
    if later s.rsn (x.c + 1) then s.endCastle
    else if s.state = .leader ∧ !x.take then s.sendCastle 1 x.c
    else if s.state = .leader ∧ x.c = s.rsn then
      (if s.ownFall.head?.any (fun a => decide (s.opNs < a + 50000)) then s else s.lineFalls).send (.leadLow 5000)
    else s

/-- CASTLE_HAND_OFF (R356): at the edge of pip 0 of round C + 1 the leader becomes FOLLOWER. -/
def castleHandOff (s : State) : State :=
  match s.pair.castle with
  | none => s
  | some x =>
    let t := s.atBoundary
    if s.state = .leader ∧ x.take ∧ t.rsn = x.c + 1 then
      let t := (t.incSat Reg.ilkCnt 15 8).raise pPAIR 5
      ((t.endCastle).toState .follower).showLead
    else s

/-- CASTLE_TAKE_LEAD (R356): the armed latch enables the driver once the partner's line, which is dead by then, has been low
for 200 µs of round C, and the follower becomes LEADER at C + 1, where its first low pulse begins at pip 40. -/
def castleTakeLead (s : State) : State :=
  match s.pair.castle with
  | none => s
  | some x =>
    let u := if s.rsn = x.c ∧ s.pipInRound < 4000 then s.toPip 4000 else s
    let t := (u.endCastle).driveLine.atBoundary
    if s.state = .follower ∧ bit (s.reg Reg.ilkStat) 3 ∧ !s.partnerLive ∧ t.rsn = x.c + 1 then
      let t := (t.incSat Reg.ilkCnt 15 8).raise pPAIR 5
      ((t.modPair fun p => { p with pulseRsn := some t.rsn }).toState .leader).showLead
    else s

/-- STAND_DOWN_TAKE_EFFECT (R377): at the first round boundary at which the partner can carry control; at one at which it
cannot, the cause is pending. -/
def standDownTakeEffect (s : State) : State :=
  let t := s.atBoundary
  match s.sdPend with
  | [] => s
  | (c, _) :: _ => if !s.mayStandDown then s else if t.partnerCarries then t.standDown c else t.sdShow

/-! ### Messages of the leader's duties (R345, R346, R396) -/

/-- GRANT_MSG_RX (R346): a record of node 0 ends the slot's grant (assumption 17). -/
def grantMsgRx (lane : Fin 4) (msg : Bytes) (s : State) : State :=
  s.dunlyRx lane 5 msg fun s _ b =>
    let g := parseGrant b
    if s.state = .leader then s else if g.node = 0 then s.endGrant g.slot else s.takeGrant g

/-- HOSTW_RX (R346). A joining module keeps the write, since it may be FOLLOWER at EFF_RSN. -/
def hostwRx (lane : Fin 4) (msg : Bytes) (s : State) : State :=
  s.dunlyRx lane 6 msg fun s _ b =>
    if s.state = .follower ∨ s.state = .joining then
      let w := (List.range (leAt b 8 4)).map (fun i => bytesWord (slice b (16 + 4 * i) 4))
      s.modPair fun p => { p with plant := p.plant ++ [⟨BitVec.ofNat 32 (leAt b 0 4), leAt b 4 4, w⟩] }
    else s

/-- PLANT_WRITE_APPLY (R346, R473): at pip 0 of EFF_RSN, in the order of reception. -/
def plantWriteApply (s : State) : State :=
  let t := s.atBoundary
  let due := s.pair.plant.filter (fun w => !later w.eff t.rsn)
  if due = [] then s
  else
    let t := t.modPair fun p => { p with plant := p.plant.filter (fun w => later w.eff t.rsn) }
    if t.state = .leader ∨ t.state = .follower then
      due.foldl (fun t w => t.storeWrite w.ofs ((w.words.map wordBytes).flatten)) t
    else t

/-- FIOL_RX (R345): usable 8 pips after the FIO_SAMPLE entry. -/
def fiolRx (lane : Fin 4) (msg : Bytes) (s : State) : State :=
  s.dunlyRx lane 7 msg fun s r b =>
    let i := leAt b 0 4
    match (s.track .f)[i]? with
    | none => s
    | some e =>
      if s.takesLatches then
        let base := s.time.roundStart + BitVec.ofInt 64 ((r - s.roundRsn).toInt * roundNs)
        s.keepLatch ⟨i, e.channels, BitVec.ofNat 16 (leAt b 4 2), BitVec.ofNat 16 (leAt b 6 2), (leAt b 8 4).testBit 0,
          base + BitVec.ofNat 64 ((e.start + 8) * 50)⟩
      else s

/-- RESET_REQ_RX (R396): a request that is discarded is recorded as a message discarded (DXL bit 3, R425). -/
def resetReqRx (lane : Fin 4) (msg : Bytes) (s : State) : State :=
  s.dunlyRx lane 10 msg fun s _ _ =>
    if s.state = .stoodDown ∧ s.partnerLive then s.assertSource 5 1 false else s.recIrq pDXL 3 .normal []

/-- The first forward record of a payload and what follows it (R341). -/
def splitForward (b : Bytes) : Nat × Nat × RxCopy × Bytes :=
  let len := beAt b 18 2
  let h := slice b 8 24
  (leAt b 0 2, leAt b 2 1,
    ⟨BitVec.ofNat 64 (leAt b 4 4), true, BitVec.ofNat 16 (beAt h 20 2), h, slice b 32 len⟩,
    b.drop ((32 + len + 3) / 4 * 4))

/-- A forward record is taken as a copy for landing (R340, R341). -/
def State.takeForward (s : State) (slot ch : Nat) (x : RxCopy) : State :=
  match s.boards.act with
  | none => s
  | some t =>
    match t.slotRec slot with
    | none => s
    | some r =>
      let pip : Word := BitVec.ofNat 32 (beAt x.header 16 4)
      let run := match s.net.slots.find? (fun y => y.slot == slot && y.pip == pip) with
        | some y => some y
        | none =>
          match t.slotEntry slot s.rsn with
          | some e =>
            let y := newRun e s.rsn s.time.roundStart
            if s.inRound = true ∧ s.seqr.state = SeqState.run ∧ y.pip = pip then
              some { y with isOpen := !later64 s.now (y.start + BitVec.ofNat 64 (r.len * 50)) }
            else none
          | none => none
      match run with
      | none => s
      | some y =>
        if s.landable r y.rsn then
          let z := { y with fwd := y.fwd ++ [(ch, x)] }
          let s := s.modNet fun n => { n with slots := putRun n.slots z }
          let s := if !y.isOpen && z.differs && !y.differs then s.chMismatch r.slot else s
          (s.stationHeard r y.rsn).noteStation r y.rsn true
        else s

/-- The forward records of an FWD payload, in order; `n` bounds their number. -/
def State.takeForwards (s : State) : Nat → Bytes → State
  | 0, _ => s
  | n + 1, b =>
    if b.length < 32 then s
    else
      let f := splitForward b
      (s.takeForward f.1 f.2.1 f.2.2.1).takeForwards n f.2.2.2

/-- FWD_RX (R341, R344). -/
def fwdRx (lane : Fin 4) (msg : Bytes) (s : State) : State :=
  s.dunlyRx lane 11 msg fun s _ b => s.takeForwards (b.length / 32) b

/-- LEAD_TAKE (R331). -/
def execLeadTake (s : State) : Host.Outcome State Fault Refusal := .next (leadTake s)
/-- JOIN_ENTER (R331). -/
def execJoinEnter (s : State) : Host.Outcome State Fault Refusal := .next (joinEnter s)
/-- PAIR_CMD_LEAD (R331). -/
def execPairCmdLead (s : State) : Host.Outcome State Fault Refusal := .next (pairCmdLead s)
/-- PAIR_CMD_JOIN (R331). -/
def execPairCmdJoin (s : State) : Host.Outcome State Fault Refusal := .next (pairCmdJoin s)
/-- PAIR_CMD_CASTLE (R355). -/
def execPairCmdCastle (s : State) : Host.Outcome State Fault Refusal := .next (pairCmdCastle s)
/-- PAIR_CMD_STAND_DOWN (R376). -/
def execPairCmdStandDown (s : State) : Host.Outcome State Fault Refusal := .next (pairCmdStandDown s)
/-- PAIR_CMD_BENCH (R330). -/
def execPairCmdBench (s : State) : Host.Outcome State Fault Refusal := .next (pairCmdBench s)
/-- PAIR_CMD_ABORT_JOIN (R330). -/
def execPairCmdAbortJoin (s : State) : Host.Outcome State Fault Refusal := .next (pairCmdAbortJoin s)
/-- PAIR_CMD_RESET_PARTNER (R346). -/
def execPairCmdResetPartner (s : State) : Host.Outcome State Fault Refusal := .next (pairCmdResetPartner s)
/-- STAND_DOWN_TAKE_EFFECT (R377). -/
def execStandDownTakeEffect (s : State) : Host.Outcome State Fault Refusal := .next (standDownTakeEffect s)
/-- DXL_LINK_UP (R336). -/
def execDxlLinkUp (s : State) : Host.Outcome State Fault Refusal := .next (dxlLinkUp s)
/-- DXL_LINK_DOWN (R336). -/
def execDxlLinkDown (lanes : BitVec 4) (health : Bool) (s : State) : Host.Outcome State Fault Refusal :=
  .next (dxlLinkDown lanes health s)
/-- HEALTH_MSG_RX (R367). -/
def execHealthMsgRx (lane : Fin 4) (msg : Bytes) (s : State) : Host.Outcome State Fault Refusal := .next (healthMsgRx lane msg s)
/-- DIGEST_MSG_RX (R348). -/
def execDigestMsgRx (lane : Fin 4) (msg : Bytes) (s : State) : Host.Outcome State Fault Refusal := .next (digestMsgRx lane msg s)
/-- DIGEST_COMPARE (R348). -/
def execDigestCompare (idx : Nat) (s : State) : Host.Outcome State Fault Refusal := .next (digestCompare idx s)
/-- PAIR_CHECK_END (R349). -/
def execPairCheckEnd (engine : Bool) (s : State) : Host.Outcome State Fault Refusal := .next (pairCheckEnd engine s)
/-- CHECK_MSG_RX (R349). -/
def execCheckMsgRx (lane : Fin 4) (msg : Bytes) (s : State) : Host.Outcome State Fault Refusal := .next (checkMsgRx lane msg s)
/-- CASTLE_OFFER_RX (R355). -/
def execCastleOfferRx (lane : Fin 4) (msg : Bytes) (s : State) : Host.Outcome State Fault Refusal := .next (castleOfferRx lane msg s)
/-- CASTLE_TAKE_RX (R356). -/
def execCastleTakeRx (lane : Fin 4) (msg : Bytes) (s : State) : Host.Outcome State Fault Refusal := .next (castleTakeRx lane msg s)
/-- CASTLE_CANCEL_RX (R355). -/
def execCastleCancelRx (lane : Fin 4) (msg : Bytes) (s : State) : Host.Outcome State Fault Refusal := .next (castleCancelRx lane msg s)
/-- CASTLE_DEADLINE (R355). -/
def execCastleDeadline (s : State) : Host.Outcome State Fault Refusal := .next (castleDeadline s)
/-- CASTLE_HAND_OFF (R356). -/
def execCastleHandOff (s : State) : Host.Outcome State Fault Refusal := .next (castleHandOff s)
/-- CASTLE_TAKE_LEAD (R356). -/
def execCastleTakeLead (s : State) : Host.Outcome State Fault Refusal := .next (castleTakeLead s)
/-- GRANT_MSG_RX (R346). -/
def execGrantMsgRx (lane : Fin 4) (msg : Bytes) (s : State) : Host.Outcome State Fault Refusal := .next (grantMsgRx lane msg s)
/-- HOSTW_RX (R346). -/
def execHostwRx (lane : Fin 4) (msg : Bytes) (s : State) : Host.Outcome State Fault Refusal := .next (hostwRx lane msg s)
/-- PLANT_WRITE_APPLY (R473). -/
def execPlantWriteApply (s : State) : Host.Outcome State Fault Refusal := .next (plantWriteApply s)
/-- FIOL_RX (R345). -/
def execFiolRx (lane : Fin 4) (msg : Bytes) (s : State) : Host.Outcome State Fault Refusal := .next (fiolRx lane msg s)
/-- RESET_REQ_RX (R396). -/
def execResetReqRx (lane : Fin 4) (msg : Bytes) (s : State) : Host.Outcome State Fault Refusal := .next (resetReqRx lane msg s)
/-- FWD_RX (R341). -/
def execFwdRx (lane : Fin 4) (msg : Bytes) (s : State) : Host.Outcome State Fault Refusal := .next (fwdRx lane msg s)
/-- LEAD_PULSE (R350). -/
def execLeadPulse (s : State) : Host.Outcome State Fault Refusal := .next (leadPulse s)
/-- PARTNER_LINE_DEAD_2MS (R352). -/
def execPartnerLineDead2ms (s : State) : Host.Outcome State Fault Refusal := .next (partnerLineDead2ms s)
/-- PARTNER_LINE_CHANGE (R351). -/
def execPartnerLineChange (live : Bool) (s : State) : Host.Outcome State Fault Refusal := .next (partnerLineChange live s)
/-- YIELD (R352). -/
def execYield (s : State) : Host.Outcome State Fault Refusal := .next (yield s)
/-- READBACK (R354). -/
def execReadback (s : State) : Host.Outcome State Fault Refusal := .next (readback s)

end Sys2Proof.Machine
end

