-- ==== Sys2Proof/Machine/Memory.lean ====
section
/-! DEFINITION. Errors of the memories and the retirement of DRAM pages, lane protection regions, translation
(R227 to R241, R253 to R255). -/

namespace Sys2Proof.Machine

/-! ### Uncorrectable words (R229) -/

/-- What a physical address holds, as R229 tells the memories apart: ITCM and DTCM with their lane and lane offset,
IMEM with the word's offset, MRAM, DRAM. -/
inductive MemKind where
  | itcm (lane : Fin 16) (ofs : Nat)
  | dtcm (lane : Fin 16) (ofs : Nat)
  | imem (ofs : Nat)
  | mram
  | dram
  | other
  deriving DecidableEq, Repr

/-- The memory a physical address lies in (R221); a quality code belongs to its IMEM word (R227). -/
def memKind (a : Nat) : MemKind :=
  if imemBase ≤ a ∧ a < imemBase + 0x04000000 then .imem ((a - imemBase) / 4 * 4)
  else if qualBase ≤ a ∧ a < qualBase + 0x01000000 then .imem ((a - qualBase) * 4)
  else if 0x10000000 ≤ a ∧ a < 0x20000000 then
    let ofs := a % 0x01000000
    if ofs < 0x00400000 then .itcm (Fin.ofNat 16 (a / 0x01000000)) (ofs / 4 * 4)
    else if ofs < 0x00800000 then .dtcm (Fin.ofNat 16 (a / 0x01000000)) (ofs / 4 * 4)
    else .other
  else if mramBase ≤ a ∧ a < mramBase + 0x01000000 then .mram
  else if dramBase ≤ a ∧ a < dramEnd then .dram
  else .other

/-- The word at physical address `a` is marked as poisoned. -/
def State.poisonAt (s : State) (a : Nat) : State := { s with poison := sins s.poison (a / 4 * 4) }

/-- An uncorrectable SRAM or MRAM word is counted and recorded (R229, R254). -/
def State.sramError (s : State) (a : Nat) : State :=
  let i := BitVec.ofNat 32 a
  let s := (s.evidence.incSat Reg.imgSramEcc 31 16).setReg Reg.imgSramAddr i
  ((s.raise pIMG 0).logErr pIMG 0x0101 i).recErr pIMG 0x0101 i .normal []

/-- SRAM_UNCORR (R229, R253): code waits for its repair, an IMEM word becomes 0 with quality fault, DTCM and MRAM
words stay poisoned. -/
def sramUncorr (addr : BitVec 40) (s : State) : State :=
  let a := addr.toNat
  if !s.domainUp 1 then s
  else match memKind a with
    | .itcm _ _ => (s.sramError a).poisonAt a
    | .dtcm _ _ => (s.sramError a).poisonAt a
    | .mram => (s.sramError a).poisonAt a
    | .imem ofs => (s.sramError a).imemPut ofs 0 0xC
    | .dram => s
    | .other => s

/-- The four bytes that a CODE record of the active board, as it stands in the DRAM working copy, loads at ITCM offset `ofs`
of a lane (R100, R229). -/
def State.codeWord (s : State) (n : Fin 16) (ofs : Nat) : Option Bytes :=
  match s.boards.act with
  | none => none
  | some t =>
    match (parseBoard (s.mem.read (workCopy false) t.hdr.boardLen)).code.filter (fun r => r.lanes.testBit n.val && decide (r.dest ≤ ofs ∧ ofs + 4 ≤ r.dest + r.data.length)) with
    | [] => none
    | l => (l.getLast?).map (fun r => slice r.data (ofs - r.dest) 4)

/-- The repaired contents of an ITCM word (R229, R444): the board's code, or the library's DRAM copy. -/
def State.repairWord (s : State) (n : Fin 16) (ofs : Nat) : Option Bytes :=
  if ofs < 0x00200000 then s.codeWord n ofs
  else some (s.mem.read (fwStaging + 0x04000000 + (ofs - 0x00200000)) 4)

/-- The poisoned ITCM word at offset `ofs` of lane `n` is rewritten (R229); a word that no CODE record loads has no copy to
be rewritten from. -/
def State.repairCode (s : State) (n : Fin 16) (ofs : Nat) : State :=
  if !s.poison.contains (laneBase n.val + ofs) then s
  else match s.repairWord n ofs with
    | none => s
    | some b => ((s.writeMem (laneBase n.val + ofs) b).incSat Reg.imgRepair 15 0).raise pIMG 4

/-- CODE_REPAIR_DONE (R229). -/
def codeRepairDone (addr : BitVec 40) (s : State) : State :=
  match memKind addr.toNat with
  | .itcm n ofs => s.repairCode n ofs
  | _ => s

/-- The bad ITCM words of a lane have been repaired when its bar sequence ends: the repair takes at most 1 ms (R229). -/
def State.repairLane (s : State) (n : Fin 16) : State :=
  if !s.domainUp 1 then s
  else s.poison.foldl (fun s p => match memKind p with
    | .itcm m ofs => if m = n then s.repairCode n ofs else s
    | _ => s) s

/-! ### DRAM page retirement (R230 to R232) -/

/-- Pages in the spare pool (R222). -/
abbrev sparePages : Nat := 16384

/-- The page of a DRAM address is to be retired (R230, R232): its copy begins, or waits, while the spare pool has a
free page. With a full pool the first page gets one record, each further page is counted once. -/
def State.retirePage (s : State) (page : Nat) : State :=
  if s.retire.copying.contains page then s
  else if s.fld Reg.imgRetire 14 0 + s.retire.copying.length < sparePages then
    { s with retire := { s.retire with
      copying := s.retire.copying ++ [page], counts := s.retire.counts.filter (fun c => c.1 != page) } }
  else
    let s := s.raise pIMG 3
    if s.retire.refused.contains page then s
    else
      let t := { s with retire := { s.retire with refused := s.retire.refused ++ [page] } }
      if s.retire.refused.isEmpty then t.recIrq pIMG 3 .normal (toLe 4 page) else t.incSat Reg.imgRetire 31 16

/-- DRAM_UNCORR (R229, R230): SECDED covers 64 bits, so both words of the pair are poisoned. -/
def dramUncorr (addr : BitVec 40) (s : State) : State :=
  let a := addr.toNat / 8 * 8
  if !s.domainUp 1 || memKind a != .dram then s
  else
    let i := BitVec.ofNat 32 (a / 0x1000)
    let s := (s.evidence.incSat Reg.imgDramEcc 31 16).setReg Reg.imgDramAddrLo (BitVec.ofNat 32 a)
    let s := s.setReg Reg.imgDramAddrHi (BitVec.ofNat 32 (a / 2 ^ 32 % 256))
    let s := ((s.raise pIMG 1).logErr pIMG 0x0102 i).recErr pIMG 0x0102 i .normal []
    (((s.poisonAt a).poisonAt (a + 4)).retirePage (a / 0x1000))

/-- A fetch or a load of a lane has found a correctable word (R168). -/
def State.laneCorrected (s : State) (lane : Option (Fin 16)) : State :=
  match lane with
  | some n => if s.domainUp (4 + n.val / 4) then s.incSat (Reg.laneEcc n) 15 0 else s
  | none => s

/-- A corrected error of a DRAM word counts against its page in the present sweep; at CE_LIM the page is retired (R230). -/
def State.dramCorrected (s : State) (page : Nat) : State :=
  let n := tget 0 s.retire.counts page + 1
  let lim := s.fld Reg.imgCtrl 27 24
  let s := s.incSat Reg.imgDramEcc 15 0
  let s := { s with retire := { s.retire with counts := tput s.retire.counts page n } }
  if lim ≠ 0 ∧ lim ≤ n then s.retirePage page else s

/-- DRAM_CORRECTED_ERROR (R227, R230): the contents stand. At an SRAM or MRAM address it is the corrected word that
IMG_SRAM_ECC counts (R254), and LANE_ECC when a fetch or a load of `lane` found it (R168): assumption 78. -/
def dramCorrectedError (addr : BitVec 40) (lane : Option (Fin 16)) (s : State) : State :=
  let a := addr.toNat
  if !s.domainUp 1 then s
  else match memKind a with
    | .dram => s.dramCorrected (a / 0x1000)
    | .itcm n _ => (s.incSat Reg.imgSramEcc 15 0).laneCorrected (if lane = some n then lane else none)
    | .dtcm n _ => (s.incSat Reg.imgSramEcc 15 0).laneCorrected (if lane = some n then lane else none)
    | .imem _ => (s.incSat Reg.imgSramEcc 15 0).laneCorrected lane
    | .mram => s.incSat Reg.imgSramEcc 15 0
    | .other => s

/-- PAGE_RETIRE_DONE (R230, R231): the page is remapped; its contents and poison marks are unbroken. -/
def pageRetireDone (s : State) : State :=
  match s.retire.copying with
  | [] => s
  | page :: r =>
    let n := s.fld Reg.imgRetire 14 0
    let s := { s with retire := { s.retire with copying := r, table := tput s.retire.table page n } }
    let s := s.setFld Reg.imgRetire 14 0 (n + 1)
    let s := if n + 1 = sparePages then s.setFld Reg.imgRetire 15 15 1 else s
    s.raise pIMG 2

/-- SRAM_SWEEP_END (R228, R230): a sweep of the SRAM or of the DRAM ends; the page counts restart with the DRAM's. -/
def sramSweepEnd (dram : Bool) (s : State) : State :=
  if !s.domainUp 1 then s
  else if dram then { s with retire := { s.retire with counts := [] } }.incWrap Reg.imgSweep 31 16
  else s.incWrap Reg.imgSweep 15 0

/-! ### Lane protection regions (R235, R238) -/

/-- The bits of MMU_RBASE, MMU_RLIMIT and MMU_RATTR that regions 13 to 15 hold (R255): FETCH is always 0. -/
def regionMask (ofs : Nat) : Word := if ofs = 0x04C then 0xD else 0xFFFFFFC0

/-- REGION_WRITE (R238). -/
def regionWrite (ofs : BitVec 12) (value : Word) (s : State) : State :=
  let o := ofs.toNat
  let k := s.keyOf pMMU o
  if !s.domainUp 1 then s.downError pMMU
  else if o != 0x044 && o != 0x048 && o != 0x04C then s
  else if s.fld Reg.mmuRsel 7 4 < 13 || bit (s.reg Reg.bsqBgEn) (s.fld Reg.mmuRsel 3 0) then s.refuse (pMMU * 0x1000 + o)
  else { s with regionW := s.regionW.filter (fun w => w.1 != k) ++ [(k, value &&& regionMask o)] }

/-- Region `b` (lane + 16 · region) overlaps the range [lo, hi). -/
def State.regionMeets (s : State) (b lo hi : Nat) : Bool :=
  let base := (s.reg (Reg.bank b Reg.mmuRbase)).toNat
  let limit := (s.reg (Reg.bank b Reg.mmuRlimit)).toNat
  decide (base < hi ∧ lo < limit + 64)

/-- A region that has been written overlaps region 2 of its lane, or the save area. -/
def State.regionClash (s : State) (b : Nat) : Bool :=
  let b2 := b % 16 + 32
  let base := (s.reg (Reg.bank b2 Reg.mmuRbase)).toNat
  let limit := (s.reg (Reg.bank b2 Reg.mmuRlimit)).toNat
  bit (s.reg (Reg.bank b Reg.mmuRattr)) 0
    && ((bit (s.reg (Reg.bank b2 Reg.mmuRattr)) 0 && s.regionMeets b base (limit + 64))
      || s.regionMeets b s.saveArea (s.saveArea + 256))

/-- REGION_TAKE_EFFECT (R238): at the next round boundary. -/
def regionTakeEffect (s : State) : State :=
  if s.regionW.isEmpty then s
  else
    let t := s.atBoundary
    let bs := (t.regionW.map (fun w => w.1 / 0x100000)).foldl sins []
    let t := t.regionW.foldl (fun t w => t.setReg w.1 w.2) t
    bs.foldl (fun t b =>
      if t.regionClash b then
        (t.setFld (Reg.bank b Reg.mmuRattr) 0 0 0).logErr pMMU 0x0102 (BitVec.ofNat 32 b)
      else t) { t with regionW := [] }

/-! ### Translation (R239 to R241, R474) -/

/-- What a translation gives. -/
inductive Trans where
  | phys (a : Nat)
  | pageFault
  | perm
  deriving DecidableEq, Repr

/-- The steward's mapping of the context of host key slot `k` (R474): page frame, read and write permission. -/
def State.hostMap (s : State) (k : Nat) (vpage : Nat) : Option (Nat × Bool) :=
  let a := vpage * 0x1000
  if a < 0x01000000 then some (bgMem / 0x1000 + k * 0x1000 + vpage, true)
  else if 0x10000000 ≤ a ∧ a < 0x14000000 then some ((imemBase + (a - 0x10000000)) / 0x1000, false)
  else if 0x20000000 ≤ a ∧ a < 0x21000000 then some ((qualBase + (a - 0x20000000)) / 0x1000, false)
  else if 0x40000000 ≤ a ∧ a < 0x40800000 then some ((mramBase + (a - 0x40000000)) / 0x1000, false)
  else if 0x80000000 ≤ a ∧ a < 0x100000000 then some ((s.store + (a - 0x80000000)) / 0x1000, false)
  else none

/-- A table word lies in DRAM (R239). -/
def frameInDram (f : Nat) : Bool := decide (dramBase ≤ f * 0x1000 ∧ f * 0x1000 < dramEnd)

/-- The walk of the two table levels (R239). Where MMU_ROOT names the table that the steward keeps for context 1 to 8, the
walk gives the mapping of R474 (assumption 22). -/
def State.walkTables (s : State) (ctx vpage : Nat) : Option TlbEntry :=
  let root := s.reg (Reg.bank ctx Reg.mmuRoot)
  if !bit root 31 then none
  else if 1 ≤ ctx ∧ ctx ≤ 8 ∧ root = hostRoot ctx then
    (s.hostMap (ctx - 1) vpage).map (fun m => ⟨ctx, vpage, m.1, true, m.2⟩)
  else
    let f1 := bits root 27 0
    if !frameInDram f1 then none
    else
      let w1 := s.mem.word (f1 * 0x1000 + vpage / 1024 * 4)
      let f2 := bits w1 31 4
      if !bit w1 0 || !frameInDram f2 then none
      else
        let w2 := s.mem.word (f2 * 0x1000 + vpage % 1024 * 4)
        if bit w2 0 then some ⟨ctx, vpage, bits w2 31 4, bit w2 1, bit w2 2⟩ else none

/-- A translation of a page is looked up in the TLB, or walked and kept there; of 64 entries the oldest goes
(R241). -/
def State.tlbLookup (s : State) (ctx vpage : Nat) : State × Option TlbEntry :=
  match s.tlb.find? (fun e => e.ctx == ctx && e.vpage == vpage) with
  | some e => (s, some e)
  | none =>
    let s := s.incWrap Reg.mmuInvStat 31 16
    match s.walkTables ctx vpage with
    | none => (s, none)
    | some e => ({ s with tlb := (if 64 ≤ s.tlb.length then s.tlb.drop 1 else s.tlb) ++ [e] }, some e)

/-- A translated access may reach the physical address (R240). -/
def State.mayReach (s : State) (ctx a : Nat) (write : Bool) : Bool :=
  if dramBase ≤ a ∧ a < 0x200000000 then !write || ctx == 0 || s.state == .joining
  else if boardCopyBase ≤ a ∧ a < fwStaging + 0x04000000 then true
  else if bgMem ≤ a ∧ a < sparePool then true
  else if imemBase ≤ a ∧ a < qualBase + 0x01000000 then !write
  else if mramBase ≤ a ∧ a < mramBase + 0x00800000 then !write || ctx == 0
  else false

/-- A physical access of a background mover with CTX 15 (R221, R224): the register pages and the upper half of MRAM are
not reached, the quality view is not written (assumption 23). -/
def physReach (a : Nat) (write : Bool) : Bool :=
  match memKind a with
  | .dram => true
  | .imem _ => !write || decide (a < qualBase)
  | .mram => decide (a < mramBase + 0x00800000)
  | .itcm _ _ => true
  | .dtcm _ _ => true
  | .other => false

/-- The page of address `a` in a context is translated for an access (R239, R240); CTX 15 is physical. -/
def State.translate (s : State) (ctx a : Nat) (write : Bool) : State × Trans :=
  if ctx = 15 then (s, if physReach a write then .phys a else .perm)
  else
    let r := s.tlbLookup ctx (a % 2 ^ 32 / 0x1000)
    match r.2 with
    | none => (r.1, .pageFault)
    | some e =>
      if !(if write then e.wr else e.rd) then (r.1, .pageFault)
      else if !r.1.mayReach ctx (e.frame * 0x1000) write then (r.1, .perm)
      else (r.1, .phys (e.frame * 0x1000 + a % 0x1000))

/-- MMU_ROOT written: a frame outside DRAM is ignored with 0x0103, whose PG_ERR_INFO no rule gives (R255, assumption 65). -/
def State.writeRoot (s : State) (v : Word) : State :=
  if s.fld Reg.mmuCsel 3 0 = 15 then s
  else if !frameInDram (bits v 27 0) then s.logErr pMMU 0x0103 0
  else s.setReg (Reg.bank (s.fld Reg.mmuCsel 3 0) Reg.mmuRoot) (v &&& 0x8FFFFFFF)

/-- MMU_INV (R241). -/
def mmuInv (value : Word) (s : State) : State :=
  if !s.domainUp 1 then s.downError pMMU
  else
    let all := bit value 4
    let c := bits value 3 0
    { s with tlb := s.tlb.filter (fun e => !(all || e.ctx == c)), invAt := s.opNs }.setFld Reg.mmuInvStat 0 0 1

/-- MMU_INV_DONE (R241); a wedged MMU gets no further (R384). -/
def mmuInvDone (s : State) : State :=
  if s.fld Reg.mmuInvStat 0 0 = 0 ∨ s.wedged.contains pMMU then s else (s.setFld Reg.mmuInvStat 0 0 0).raise pMMU 1

/-! ### The commands -/

/-- SRAM_UNCORR (R229). -/
def execSramUncorr (addr : BitVec 40) (s : State) : Host.Outcome State Fault Refusal := .next (sramUncorr addr s)
/-- CODE_REPAIR_DONE (R229). -/
def execCodeRepairDone (addr : BitVec 40) (s : State) : Host.Outcome State Fault Refusal := .next (codeRepairDone addr s)
/-- DRAM_UNCORR (R230). -/
def execDramUncorr (addr : BitVec 40) (s : State) : Host.Outcome State Fault Refusal := .next (dramUncorr addr s)
/-- DRAM_CORRECTED_ERROR (R230). -/
def execDramCorrectedError (word : Corrected) (s : State) : Host.Outcome State Fault Refusal :=
  .next (dramCorrectedError word.addr word.lane s)
/-- PAGE_RETIRE_DONE (R231). -/
def execPageRetireDone (s : State) : Host.Outcome State Fault Refusal := .next (pageRetireDone s)
/-- SRAM_SWEEP_END (R228). -/
def execSramSweepEnd (dram : Bool) (s : State) : Host.Outcome State Fault Refusal := .next (sramSweepEnd dram s)
/-- REGION_WRITE (R238). -/
def execRegionWrite (ofs : BitVec 12) (value : Word) (s : State) : Host.Outcome State Fault Refusal := .next (regionWrite ofs value s)
/-- REGION_TAKE_EFFECT (R238). -/
def execRegionTakeEffect (s : State) : Host.Outcome State Fault Refusal := .next (regionTakeEffect s)
/-- MMU_INV (R241). -/
def execMmuInv (value : Word) (s : State) : Host.Outcome State Fault Refusal := .next (mmuInv value s)
/-- MMU_INV_DONE (R241). -/
def execMmuInvDone (s : State) : Host.Outcome State Fault Refusal := .next (mmuInvDone s)

end Sys2Proof.Machine
end

