-- ==== Sys2Proof/Machine/Movers.lean ====
section
/-! DEFINITION. Board movers: COPY, WRITEBACK, LAND_IN and LOAD_OUT, their deadlines and faults (R84, R124, R208, R223,
R224, R234, R242 to R245, R298, R306, R312, R342, R347). -/

namespace Sys2Proof.Machine

/-! ### Sources (R208, R229, R287) -/

/-- The shadow buffer entry that holds the line of lane address `ofs` (R207). -/
def State.shadowOf (s : State) (n : Fin 16) (ofs : Nat) : Option ShadowLine :=
  s.lanes[n].shadowBuf.find? (fun l => l.addr == ofs / 64 * 64)

/-- Where the word at physical address `a` stands while a migration redirects it (R287). -/
def State.placeOf (s : State) (a : Nat) : Nat :=
  match s.migr with
  | some m => if m.newBase ≤ a ∧ a < m.newBase + 0x80000000 then m.place (a - m.newBase) else a
  | none => a

/-- The shadow buffer entry from which a WRITEBACK takes the word at physical address `a` (R208). -/
def State.committedLine (s : State) (wb : Bool) (a : Nat) : Option (ShadowLine × Nat) :=
  match wb, memKind a with
  | true, .dtcm n ofs => (s.shadowOf n ofs).map (fun l => (l, ofs))
  | _, _ => none

/-- The word that a board mover reads at physical address `a`; none where it is uncorrectable. -/
def State.moverWord (s : State) (wb : Bool) (a : Nat) : Option Word :=
  match s.committedLine wb a with
  | some (l, ofs) => if l.poison.contains ofs then none else some (bytesWord (slice l.bytes (ofs % 64) 4))
  | none =>
    let p := s.placeOf a
    if s.poisoned p 4 then none else some (s.mem.word p)

/-- The uncorrectable source word at `a` is handled as for any agent that finds it (R229, R230, R243). -/
def State.moverBad (s : State) (wb : Bool) (a : Nat) : State :=
  let p := s.placeOf a
  if (s.committedLine wb a).isSome then s.sramError a
  else if memKind p = .dram then dramUncorr (BitVec.ofNat 40 p) s
  else sramUncorr (BitVec.ofNat 40 p) s

/-- The quality code that goes with a word read at physical address `a` (R234). -/
def State.moverQuality (s : State) (a : Nat) : BitVec 4 :=
  match memKind a with
  | .imem ofs => s.imemQual ofs
  | _ => 0

/-- `k` words and their quality codes from physical address `a` on, or the address of the first uncorrectable one. -/
def State.moverWords (s : State) (wb : Bool) (a : Nat) : Nat → Except Nat (List (Word × BitVec 4))
  | 0 => .ok []
  | k + 1 =>
    match s.moverWord wb a with
    | none => .error a
    | some w =>
      match s.moverWords wb (a + 4) k with
      | .error b => .error b
      | .ok r => .ok ((w, s.moverQuality a) :: r)

/-! ### Destinations (R208, R224, R234, R243) -/

/-- Bytes written into the shadow buffer entry of the line of lane address `ofs` (R208). -/
def patchShadow (ofs : Nat) (b : Bytes) (l : ShadowLine) : ShadowLine :=
  if l.addr = ofs / 64 * 64 then
    { l with
      bytes := l.bytes.take (ofs % 64) ++ b ++ l.bytes.drop (ofs % 64 + b.length)
      poison := l.poison.filter (fun p => !decide (ofs ≤ p ∧ p < ofs + b.length)) }
  else l

/-- The digest term of the instance store line `k`, as it stands (R347). -/
def State.lineTerm (s : State) (k : Nat) : BitVec 64 := crc64 (toLe 8 (64 * k) ++ s.dataRead (s.store + 64 * k) 64)

/-- Words are written into one line of the running instance store: a WRITEBACK mirrors the retained range and counts in
the task's digest, a COPY does neither (R224, R347, R361). -/
def State.moverStore (s : State) (e : Entry) (ofs : Nat) (b : Bytes) : State :=
  if e.mkind = 1 then
    let s := s.storeWrite ofs b
    let d := s.pair.digAcc[e.task] + s.lineTerm (ofs / 64)
    s.modPair fun p => { p with digAcc := p.digAcc.set e.task d }
  else ((s.migrateRange (s.store + ofs) b.length).writeMem (s.store + ofs) b).touchStore ofs b.length

/-- Words are written into one destination line at physical address `d`, as one event (R243). -/
def State.moverLine (s : State) (e : Entry) (d : Nat) (ws : List (Word × BitVec 4)) : State :=
  let b := (ws.map (fun w => wordBytes w.1)).flatten
  match memKind d with
  | .imem ofs => (ws.zipIdx.foldl (fun s w => s.imemSet (ofs + 4 * w.2) w.1.1 w.1.2) s).touchLine (ofs / 64) (4 * ws.length)
  | .dtcm n ofs =>
    if (s.shadowOf n ofs).isSome then s.modLane n (fun l => { l with shadowBuf := l.shadowBuf.map (patchShadow ofs b) })
    else s.writeMem d b
  | .dram => s.moverStore e (d - s.store) b
  | _ => s

/-- The destination lines that `n` bytes from address `d` on touch, as offset and bytes (R243). -/
def linePieces (d n : Nat) : List (Nat × Nat) :=
  let f := min n (64 - d % 64)
  if n = 0 then [] else (0, f) :: (List.range ((n - f + 63) / 64)).map (fun i => (f + 64 * i, min 64 (n - f - 64 * i)))

/-- How a transfer has ended: done, stopped at a physical address without an end, or at an uncorrectable source word. -/
inductive MoveEnd where
  | isDone
  | stalled (a : Nat)
  | ecc (a : Nat)
  deriving DecidableEq, Repr

/-- The mover stops before the end of `n` bytes. -/
def stopsShort (limit : Option Nat) (n : Nat) : Bool := match limit with | some k => decide (k < n) | none => false

/-- The lines of a COPY or WRITEBACK in order, while the mover makes progress: `limit` bytes at most (R242, R243). -/
def State.copyLines (s : State) (e : Entry) (src dst : Nat) (limit : Option Nat) : List (Nat × Nat) → State × MoveEnd
  | [] => (s, .isDone)
  | (o, n) :: r =>
    if stopsShort limit (o + n) then (s, .stalled (dst + o))
    else
      match s.moverWords (e.mkind == 1) (src + o) (n / 4) with
      | .error a => (s, .ecc a)
      | .ok ws => (s.moverLine e (dst + o) ws).copyLines e src dst limit r

/-- A COPY or a WRITEBACK moves its XFER record; the mover adds the area to instance store addresses (R99, R223). -/
def State.runCopy (s : State) (e : Entry) (limit : Option Nat) : State × MoveEnd :=
  match s.boards.act with
  | none => (s, .isDone)
  | some t =>
    match t.xfers[e.ref]? with
    | none => (s, .isDone)
    | some x =>
      let area := s.fld Reg.movInst 0 0
      let d := boardPhys area x.dst
      s.copyLines e (boardPhys area x.src) d limit (linePieces d x.len)

/-! ### LAND_IN (R258, R259, R306, R312, R342) -/

/-- The copy that lands (R342): channel A before channel B, and for each channel Partner A's before Partner B's. -/
def State.landCopy (s : State) (run : SlotRun) : Option RxCopy :=
  let own := fun (l : List RxCopy) => if outcomeOf run l = 0 then l.head? else none
  let fwd := fun (c : Nat) => (run.fwd.find? (fun x => x.1 == c)).map (fun x => x.2)
  let one := fun (c : Nat) (l : List RxCopy) => if s.isB then [fwd c, own l] else [own l, fwd c]
  (one 0 run.a ++ one 1 run.b).findSome? id

/-- The other PEER slot of the same pair whose I/O map writes the same IMEM words (R312). -/
def Tables.peerTwin (t : Tables) (r : SlotRec) : Option SlotRec :=
  if r.skind ≠ 6 then none
  else t.slots.find? (fun x => x.skind == 6 && x.slot != r.slot && x.node % 0x40000 / 4096 == r.node % 0x40000 / 4096
    && (t.iomapOf r.slot).any (fun p => (t.iomapOf x.slot).any (fun q => p.imemOfs == q.imemOfs)))

/-- The slot lands words at all (R306, R308, R312, R321): a station must be PRESENT, a SPARE slot be mapped first, and
Partner B's PEER slot gives way to Partner A's when the last LAND_IN of that slot landed. -/
def State.slotLands (s : State) (t : Tables) (e : Entry) (r : SlotRec) : Bool :=
  if r.skind = 0 then s.stnState (r.node % 4096) == 1
  else if r.skind = 6 then
    s.foreignPeer r && !(r.node % 2 == 1 && (match t.peerTwin r with
      | some x => s.tasks[e.task].landed.contains x.slot && !s.tasks[e.task].missed.contains x.slot
      | none => false))
  else false

/-- The words of a payload that a slot's I/O map records land, as IMEM offset and value, in record order. -/
def landWords (l : List IomapRec) (payload : Bytes) : List (Nat × Word) :=
  l.flatMap (fun r => (List.range r.words).map (fun i => (r.imemOfs + 4 * i, bytesWord (slice payload (r.pofs + 4 * i) 4))))

/-- A LAND_IN entry (R259, R306): the words of the latest closed occurrence of its slot are written with quality good. -/
def State.runLand (s : State) (e : Entry) (limit : Option Nat) : State × MoveEnd :=
  let k := e.ref % 0x10000
  let s := s.modTask e.task (fun t => { t with enabled := sins t.enabled k, missed := sins t.missed k })
  match s.boards.act, s.net.slots.find? (fun x => x.slot == k && !x.isOpen) with
  | some t, some run =>
    match t.slotRec k, s.landCopy run with
    | some r, some x =>
      if s.slotLands t e r then
        let ws := landWords (t.iomapOf k) x.payload
        let n := match limit with | some b => min ws.length (b / 4) | none => ws.length
        let s := (ws.take n).foldl (fun s w => s.imemSet w.1 w.2 0) s
        match ws[n]? with
        | some w => (s, .stalled (imemBase + w.1))
        | none => (s.modTask e.task (fun t => { t with landed := sins t.landed k, missed := sdel t.missed k }), .isDone)
      else (s, .isDone)
    | _, _ => (s, .isDone)
  | _, _ => (s, .isDone)

/-! ### LOAD_OUT (R261, R298) -/

/-- The IMEM offset that supplies payload word `k` of a slot, if a record does (R95, R298). -/
def supplier (l : List IomapRec) (k : Nat) : Option Nat :=
  (l.find? (fun r => decide (r.pofs ≤ 4 * k ∧ 4 * k < r.pofs + 4 * r.words))).map (fun r => r.imemOfs + (4 * k - r.pofs))

/-- The payload of a frame that this module sends: value words and quality codes (R298). -/
def outPayload (n : Nat) (ws : List (Word × BitVec 4)) : Bytes :=
  let q := fun (i : Nat) => match ws[i]? with | some w => w.2.toNat | none => 0
  let codes := (List.range ((ws.length + 1) / 2)).map (fun i => BitVec.ofNat 8 (q (2 * i) + 16 * q (2 * i + 1)))
  let b := (ws.map (fun w => wordBytes w.1)).flatten ++ codes
  b ++ zeros (n - b.length)

/-- The words of a LOAD_OUT, or the physical address of an uncorrectable one. -/
def State.outWords (s : State) (l : List IomapRec) : List Nat → Except Nat (List (Word × BitVec 4))
  | [] => .ok []
  | k :: r =>
    match s.outWords l r with
    | .error a => .error a
    | .ok ws =>
      match supplier l k with
      | none => .ok ((0, 0xC) :: ws)
      | some ofs => if s.poisoned (imemBase + ofs) 4 then .error (imemBase + ofs) else .ok ((s.imemWord ofs, s.imemQual ofs) :: ws)

/-- A LOAD_OUT entry fills the transmit buffers of its slot (R84, R261, R298). -/
def State.runLoad (s : State) (e : Entry) (limit : Option Nat) : State × MoveEnd :=
  let k := e.ref % 0x10000
  match s.boards.act with
  | none => (s, .isDone)
  | some t =>
    match t.slotRec k with
    | none => (s, .isDone)
    | some r =>
      if stopsShort limit (t.iomapBytes k) then (s, .stalled (imemBase + (((t.iomapOf k).head?).elim 0 (fun x => x.imemOfs))))
      else
        match s.outWords (t.iomapOf k) (List.range (valueWords r.payload)) with
        | .error a => (s, .ecc a)
        | .ok ws => (s.modNet fun n => { n with txBuf := tput n.txBuf k (outPayload r.payload ws) }, .isDone)

/-! ### The entries (R115, R124, R242, R243) -/

/-- The transfer of a MOVE entry. -/
def State.runMove (s : State) (e : Entry) (limit : Option Nat) : State × MoveEnd :=
  match e.mkind with
  | 0 => s.runCopy e limit
  | 1 => s.runCopy e limit
  | 2 => s.runLand e limit
  | 3 => s.runLoad e limit
  | _ => (s, .isDone)

/-- The mover of an entry starts; a transfer that it has not finished is an overrun (R124). -/
def State.startMover (s : State) (idx : Nat) (e : Entry) (limit : Option Nat) : State :=
  let s := match s.movers.find? (fun x => x.entry.mover == e.mover && !x.isDone) with
    | some x => s.moverOverrun x
    | none => s
  let s := { s with movers := s.movers.filter (fun x => x.entry.mover != e.mover) }
  let x : MoverXfer := ⟨idx, e, s.startOf e + BitVec.ofNat 64 (e.dur * 50), true, 0⟩
  match s.runMove e limit with
  | (s, .isDone) => { s with movers := s.movers ++ [x] }
  | (s, .stalled a) => { s with movers := s.movers ++ [{ x with isDone := false, next := a }] }
  | (s, .ecc a) => (s.moverFault { x with isDone := false, next := a } 2 a).moverBad (e.mkind == 1) a

/-- MOVE_START (R124): at pip START. `limit` is the number of bytes after which the mover makes no progress. -/
def moveStart (idx : Nat) (limit : Option Nat) (s : State) : State :=
  s.onEntry .m idx fun s e _ => s.startMover idx e limit

/-- MOVE_DEADLINE (R124): at START + DUR the mover must report done. -/
def moveDeadline (mover : Fin 8) (s : State) : State :=
  match s.movers.find? (fun x => x.entry.mover == mover.val) with
  | none => s
  | some x =>
    let s := s.advanceTo x.ends
    if x.isDone then { s with movers := s.movers.filter (fun y => y.entry.mover != mover.val) } else s.moverOverrun x

/-- BOARD_MOVER_FAULT (R242, R243): a fault of causes 1 RANGE, 2 ECC or 3 OVERRUN stops a transfer in flight. -/
def boardMoverFault (mover : Fin 8) (cause : BitVec 2) (addr : BitVec 40) (s : State) : State :=
  match s.movers.find? (fun x => x.entry.mover == mover.val && !x.isDone) with
  | none => s
  | some x =>
    match cause.toNat with
    | 1 => s.moverFault x 1 addr.toNat
    | 2 => (s.moverFault x 2 addr.toNat).moverBad (x.entry.mkind == 1) addr.toNat
    | 3 => (s.advanceTo x.ends).moverOverrun x
    | _ => s

/-- MOVE_START (R124). -/
def execMoveStart (idx : Nat) (limit : Option Nat) (s : State) : Host.Outcome State Fault Refusal := .next (moveStart idx limit s)
/-- MOVE_DEADLINE (R124). -/
def execMoveDeadline (mover : Fin 8) (s : State) : Host.Outcome State Fault Refusal := .next (moveDeadline mover s)
/-- BOARD_MOVER_FAULT (R243). -/
def execBoardMoverFault (mover : Fin 8) (cause : BitVec 2) (addr : BitVec 40) (s : State) : Host.Outcome State Fault Refusal :=
  .next (boardMoverFault mover cause addr s)

end Sys2Proof.Machine
end

