-- ==== Sys2Proof/Machine/Plies.lean ====
section
/-! DEFINITION. Plies: dispatch, commit, abort, traps, the choice of RERUN entries, background jobs in idle windows
(R119 to R122, R127 to R137, R143, R170 to R173, R203, R547). -/

namespace Sys2Proof.Machine

/-! ### Dispatch (R119, R130, R132, R143, R203, R547) -/

/-- The registers of R143. -/
def dispatchCore (e : Entry) (r : Word) : Core :=
  let g4 := e.lane.val + e.task.val * 16 + e.kind * 256 + b2n (e.cond != 0) * 4096
  let g : Vector Word 32 := Vector.replicate 32 0
  let g := (g.set 1 (BitVec.ofNat 32 e.arg)).set 2 (BitVec.ofNat 32 (0x00400000 + e.frame * 0x1000))
  { g := (g.set 3 r).set 4 (BitVec.ofNat 32 g4), pc := BitVec.ofNat 32 (e.entry * 4), qa := 0, tc := 0 }

/-- The lane takes GO (R119, R143, R144, R200), at the end of a restore that is under way (R214). OUTCOME keeps the last
ended ply (R174). [27:8] of a fetch trap on its first instruction is the address of that instruction (assumption 101). -/
def State.goPly (s : State) (idx : Nat) (e : Entry) : State :=
  let n := e.lane
  let c := dispatchCore e s.roundRsn
  let t : TraceRec := ⟨idx % 2 ^ 16, 0, e.kind, s.roundRsn, 0, 0, 0⟩
  let s := (s.setFld (Reg.laneCur n) 15 0 idx).setFld (Reg.laneCur n) 16 16 1
  let now := s.opNs
  s.modLane n (fun l => { l with
    main := c, shadow := c, lastPc := c.pc, ply := some ⟨idx, e, s.roundRsn, .running⟩, act := .ply
    ready := match l.busy with
      | some b => if now < b.till then b.till + lclkNs 8 else now
      | none => now
    start := s.startOf e, cyc := 0, log := .empty, trace := (t :: l.trace).take 32 })

/-- A TEST ply runs its segment (R385, R386); unless the lane has been halted, READY follows. -/
def State.goTest (s : State) (n : Fin 16) (seg : SegResult) : State :=
  let s := s.testSegment n seg
  s.modLane n (fun l => { l with ply := l.ply.map (fun p => if p.phase = .running then { p with phase := .ready } else p) })

/-- A GAMBIT ply is dropped on a lane that belongs to the context of task `u` (R203). -/
def State.conflict (s : State) (e : Entry) (u : Nat) : State :=
  let s := ((s.dropPly e.lane e).spoil e.task 9 e.lane).raise pGMB 4
  s.logErr pGMB 0x0102 (BitVec.ofNat 32 (e.lane.val + e.task.val * 16 + u * 256))

/-- An enabled ply is dropped without dispatch (R130); a GAMBIT ply spoils its context (R209). -/
def State.dropEntry (s : State) (e : Entry) : State :=
  let s := s.dropPly e.lane e
  if e.isGambit then s.spoil e.task 5 e.lane else s

/-- The save of the job on lane `n` has not completed in its window (R137): the job is invalid, what the save wrote of
words 1 to 63 is open. -/
def State.abortSave (s : State) (n : Fin 16) : State :=
  let w := s.lanes[n].jobStat ||| 4
  let ws := w :: (List.range 63).map (fun i => Config.saveWord s.free (i + 1))
  let s := (s.writeMem (laneBase n + s.saveArea) (ws.flatMap wordBytes)).takeFree
  let s := s.modLane n (fun l => { l with act := .none, busy := none, jobStat := w })
  let s := (s.setFld Reg.bsqBgEn n n 0).setFld Reg.bsqBgFault n n 1
  (s.logErr pBSQ 0x0104 (BitVec.ofNat 32 n.val)).settleLane n

/-- What is still on lane `n` at the START of its next entry is over: an undecided ply is past its deadline (R120), a
job past its window (R137). -/
def State.freeLane (s : State) (n : Fin 16) : State :=
  let s := if s.lanes[n].ply.isSome then s.abortPly n else s
  if s.lanes[n].act = .job then s.abortSave n else s

/-- An enabled PLY entry is issued to its lane (R130, R203, R547). -/
def State.issuePly (s : State) (idx : Nat) (e : Entry) (seg : SegResult) : State :=
  let n := e.lane
  let s := s.freeLane n
  if e.isGambit then
    match s.lanes[n].owner with
    | some u =>
      if u ≠ e.task.val then s.conflict e u
      else if s.lanes[n].state = .running then s.goPly idx e else s.dropEntry e
    | none => s.dropEntry e
  else if s.lanes[n].state ≠ .running then s.dropEntry e
  else if e.kind = 1 then (s.goPly idx e).goTest n seg
  else s.goPly idx e

/-- A displaced entry that no enabled cover entry pairs with, under the counting of R88, while three or more lanes are
out (R132). Of several displaced entries with equal keys, the first in section order are paired (assumption 75). -/
def State.unpaired (s : State) (idx : Nat) (e : Entry) : Bool :=
  let m := s.seqr.applied
  let r := s.roundRsn
  let displaced := fun (c : Entry) =>
    c.isWork && c.cond == 0 && m.getLsbD c.lane.val && c.active r && c.coverKey == e.coverKey
  let covers := (s.track .l).filter (fun c =>
    c.isWork && c.isCover && c.active r && s.enabled .l c && c.coverKey == e.coverKey)
  decide (3 ≤ ((List.range 16).filter (fun n => m.getLsbD n)).length) && !s.landingOnly && displaced e
    && decide (covers.length ≤ (((s.track .l).take idx).filter displaced).length)

/-- PLY_DISPATCH (R119): at pip START. `seg` is what the segment of a TEST ply observes. -/
def plyDispatch (idx : Nat) (seg : SegResult) (s : State) : State :=
  match (s.track .l)[idx]? with
  | none => s
  | some e =>
    if e.etype ≠ 1 ∨ s.isWindow e ∨ !s.kindRuns e then s
    else
      match s.issueEntry .l idx with
      | none => s
      | some (t, e, _) =>
        if t.enabled .l e then t.issuePly idx e seg
        else if t.unpaired idx e then t.dropEntry e
        else t

/-! ### Decisions (R120, R122, R166) -/

/-- The deadline edge of the ply has been reached: what is seen now counts as not seen (R120). -/
def State.pastDeadline (s : State) (n : Fin 16) (p : Ply) : Bool := !later64 (s.lanes[n].deadline p) s.now

/-- PLY_READY_COMMIT (R120): a READY has been seen. -/
def plyReadyCommit (lane : Fin 16) (s : State) : State :=
  match s.lanes[lane].ply with
  | none => s
  | some p =>
    if p.phase ≠ .ready then s
    else if s.pastDeadline lane p then s.abortPly lane
    else s.commitPly lane

/-- PLY_DEADLINE_ABORT (R122): at the deadline edge. -/
def plyDeadlineAbort (lane : Fin 16) (s : State) : State :=
  match s.lanes[lane].ply with
  | none => s
  | some p => (s.advanceTo (s.lanes[lane].deadline p)).abortPly lane

/-- PLY_TRAP_SEEN (R166): a TRAP has been seen. -/
def plyTrapSeen (lane : Fin 16) (s : State) : State :=
  match s.lanes[lane].ply with
  | none => s
  | some p =>
    if p.phase ≠ .trapped then s
    else if s.pastDeadline lane p then s.abortPly lane
    else s.trapSeen lane

/-- The plies whose deadline has been reached are decided: no READY of theirs was seen in time (R120, R127). -/
def State.decideDue (s : State) : State :=
  over16 (fun s n => match s.lanes[n].ply with
    | some p => if s.pastDeadline n p then s.abortPly n else s
    | none => s) s

/-- COMMIT_ENTRY (R127, R210): every ply whose deadline falls on the edge of START is decided first; the test runs from the
edge of START; its result is kept for RERUN_SELECT. A context that is wedged gets no result (R384). -/
def commitEntry (idx : Nat) (s : State) : State :=
  match (s.track .l)[idx]? with
  | none => s
  | some e =>
    if e.etype ≠ 2 then s
    else s.onEntry .l idx fun s e _ =>
      let s := s.decideDue
      let t := e.task
      if s.gmb[t].isOpen ∧ s.gmb[t].overdue then s
      else if s.gmb[t].isOpen then
        let r := s.commitTest t e.dur
        let s := s.carryOut t r (if r.cause = 7 then some 0x0101 else none)
        s.modCtx t (fun c => { c with result := some r.commit })
      else
        let r : GmbRes := ⟨false, 10, 0, none, none, some 9, none⟩
        ((s.gmbShow t r).gmbReport t r none).modCtx t (fun c => { c with result := some false })

/-- RERUN_SELECT (R127): at START + DUR of the COMMIT entry. -/
def rerunSelect (idx : Nat) (s : State) : State :=
  match (s.track .l)[idx]? with
  | none => s
  | some e =>
    if e.etype ≠ 2 ∨ s.seqr.state ≠ .run ∨ s.time.hold.isSome ∨ !s.time.begun
        ∨ !e.active s.roundRsn ∨ !s.enabled .l e then s
    else
      let s := s.toPip (e.start + e.dur)
      let b := BitVec.ofNat 16 (2 ^ e.task.val)
      s.modSeqr fun q => { q with rerun := if s.gmb[e.task].result = some true then q.rerun &&& ~~~b else q.rerun ||| b }

/-! ### Background jobs (R134 to R137, R170, R171, R253) -/

/-- The registers that a save area holds (R170). -/
def State.savedCore (s : State) (n : Fin 16) : Core :=
  let w := fun (i : Nat) => s.mem.word (laneBase n + s.saveArea + 4 * i)
  { g := Vector.ofFn (fun (i : Fin 32) => if i.val = 0 then 0 else w i.val), pc := w 32, qa := (w 33).setWidth 8, tc := w 34 }

/-- The job of lane `n` is restored for an idle window that begins at `start` and ends at `stop` (R134, R170); one that
goes on where it was saved keeps the address of the instruction that led there (R165). The restore takes as long as a save
(assumption 95). -/
def State.restoreJob (s : State) (n : Fin 16) (start stop : BitVec 64) : State :=
  let c := s.savedCore n
  let w := s.jobWord n
  let now := s.opNs
  s.modLane n (fun l => { l with
    main := c, shadow := c, lastPc := if l.jobLast.1 = c.pc then l.jobLast.2 else c.pc, act := .job, start := start, window := stop, log := .empty
    jobStat := withBits w 31 16 ((bits w 31 16 + 1) % 0x10000) }.begin3 false now (lclkNs 40))

/-- RESUME on lane `n` (R134, R136, R171, R253): only a job whose STATE is 1 is restored. [27:8] of the DEFERRED trap is the
PC of the job (assumption 101). -/
def State.resumeJob (s : State) (n : Fin 16) (start stop : BitVec 64) : State :=
  let a := laneBase n + s.saveArea
  if bits (s.jobWord n) 1 0 ≠ 1 then s
  else
    match s.poison.find? (fun p => decide (a ≤ p ∧ p < a + 256)) with
    | some p => (s.sramError p).setJobWord n (jobDead (s.jobWord n))
    | none =>
      let s := s.restoreJob n start stop
      if s.lanes[n].deferred then
        (s.modLane n (fun l => { l with deferred := false })).takeTrap n 5 0 (s.lanes[n].main.pc.toNat / 4) 0
      else s

/-- BG_RESUME (R134): at START of an IDLE window or of a skipped RERUN entry. -/
def bgResume (idx : Nat) (s : State) : State :=
  match (s.track .l)[idx]? with
  | none => s
  | some e =>
    if !s.isWindow e then s
    else s.onEntry .l idx fun s e _ =>
      let s := s.freeLane e.lane
      if s.lanes[e.lane].state = .running ∧ bit (s.reg Reg.bsqBgEn) e.lane then
        s.resumeJob e.lane (s.startOf e) (s.startOf e + BitVec.ofNat 64 (e.dur * 50))
      else s

/-- BG_PREEMPT (R135, R136): at START + DUR - 1; `fault` says that a fault strikes during the save. Crossing, instruction and
save take 77 LCLK of the last pip of the window (R172), while ACT is 3 (R174). -/
def bgPreempt (lane : Fin 16) (fault : Bool) (s : State) : State :=
  if s.lanes[lane].act ≠ .job then s
  else
    let s := s.advanceTo (s.lanes[lane].window - 50)
    let s := s.saveJob lane s.lanes[lane].jobStat (lclkNs 77)
    if fault then (s.setFld Reg.bsqBgFault lane lane 1).modLane lane (fun l => { l with deferred := true }) else s

/-- BG_SAVE_ABORT (R137): the save is unfinished at START + DUR. -/
def bgSaveAbort (lane : Fin 16) (s : State) : State :=
  if s.lanes[lane].act ≠ .job ∧ !s.lanes[lane].saving s.opNs then s
  else (s.advanceTo s.lanes[lane].window).abortSave lane

/-- PLY_DISPATCH (R119). -/
def execPlyDispatch (idx : Nat) (seg : SegResult) (s : State) : Host.Outcome State Fault Refusal := .next (plyDispatch idx seg s)
/-- PLY_READY_COMMIT (R120). -/
def execPlyReadyCommit (lane : Fin 16) (s : State) : Host.Outcome State Fault Refusal := .next (plyReadyCommit lane s)
/-- PLY_DEADLINE_ABORT (R122). -/
def execPlyDeadlineAbort (lane : Fin 16) (s : State) : Host.Outcome State Fault Refusal := .next (plyDeadlineAbort lane s)
/-- PLY_TRAP_SEEN (R166). -/
def execPlyTrapSeen (lane : Fin 16) (s : State) : Host.Outcome State Fault Refusal := .next (plyTrapSeen lane s)
/-- COMMIT_ENTRY (R210). -/
def execCommitEntry (idx : Nat) (s : State) : Host.Outcome State Fault Refusal := .next (commitEntry idx s)
/-- RERUN_SELECT (R127). -/
def execRerunSelect (idx : Nat) (s : State) : Host.Outcome State Fault Refusal := .next (rerunSelect idx s)
/-- BG_RESUME (R134). -/
def execBgResume (idx : Nat) (s : State) : Host.Outcome State Fault Refusal := .next (bgResume idx s)
/-- BG_PREEMPT (R135). -/
def execBgPreempt (lane : Fin 16) (fault : Bool) (s : State) : Host.Outcome State Fault Refusal := .next (bgPreempt lane fault s)
/-- BG_SAVE_ABORT (R137). -/
def execBgSaveAbort (lane : Fin 16) (s : State) : Host.Outcome State Fault Refusal := .next (bgSaveAbort lane s)

end Sys2Proof.Machine
end

