-- ==== Sys2Proof/Machine/Fields.lean ====
section
/-! DEFINITION. FIELD entries: the task events, the local channels, the cycle digest and the health block (R86, R126,
R202, R258 to R264, R334, R345 to R347, R366, R367, R509 to R511, R519). -/

namespace Sys2Proof.Machine

/-! ### TASK_START (R202, R258, R260, R263, R345) -/

/-- The I/O map records that feed local channels into the task's input image (R95, R96). -/
def State.localInputs (s : State) (k : Fin 16) : List IomapRec :=
  match s.boards.act, s.taskRec k with
  | some t, some r => (t.iomapOf 0xFFFF).filter (fun m => decide (r.inBase ≤ m.imemOfs ∧ m.imemOfs < r.inBase + r.inLen))
  | _, _ => []

/-- The latch that the local input copy uses for a channel: the most recent usable one of an entry that named it
(R258, R345). -/
def State.latchFor (s : State) (c : Nat) : Option Latch :=
  s.pair.latches.find? (fun l => !later64 l.usable s.now && l.chans.getLsbD c)

/-- The local input copy of one record: level and quality with events 2 and 3, written as one event (R258, R263). -/
def State.copyLocal (s : State) (m : IomapRec) : State :=
  match s.latchFor m.pofs with
  | none => s
  | some l =>
    let v := (BitVec.ofNat 32 (b2n (l.levels.getLsbD m.pofs)), (0 : BitVec 4))
    let v := if l.low then s.qualValue 2 m.imemOfs v else v
    let v := if l.brk.getLsbD m.pofs then s.qualValue 3 m.imemOfs v else v
    s.imemSet m.imemOfs v.1 v.2

/-- A module that takes the leader's latches lacks those that have become usable and have not come: one FWD_LOST
each (R345). -/
def State.noteLatch (s : State) : State :=
  let due := s.pair.expect.filter (fun x => !later64 x.2 s.now)
  let s := s.modPair fun p => { p with expect := p.expect.filter (fun x => later64 x.2 s.now) }
  if !s.takesLatches then s
  else due.foldl (fun s _ => ((s.incSat Reg.dxlErr 31 16).modPair fun p => { p with lostRound := p.lostRound + 1 }).raise pDXL 2) s

/-- TASK_START (R258, R260): the period of the task begins; its gambit context has opened at the edge of the pip
(R202). -/
def State.startTask (s : State) (e : Entry) : State :=
  let k := e.task
  let l := s.localInputs k
  let s := if l = [] then s else s.noteLatch
  let s := l.foldl (fun s m => s.copyLocal m) s
  let s := { s with written := s.written.filter (fun w => !s.inOutput k (4 * w)) }
  let s := s.modTask k (fun t => { TaskRun.reset with pub := t.pub })
  s.modPair fun p => { p with digAcc := p.digAcc.set k 0, digStart := p.digStart.set k s.opNs }

/-- TASK_START (R258). -/
def taskStart (idx : Nat) (s : State) : State := s.onField idx 1 fun s e => s.startTask e

/-! ### AGREE_CLOSE and TASK_END (R261, R263, R264) -/

/-- Event `ev` is applied to every word that a slot's I/O map records land. -/
def State.qualSlot (s : State) (t : Tables) (ev slot : Nat) : State :=
  (t.iomapOf slot).foldl (fun s r => s.qualRange ev r.imemOfs r.words) s

/-- The slot's I/O map lands the word at IMEM offset `ofs`. -/
def Tables.mapsWord (t : Tables) (slot ofs : Nat) : Bool :=
  (t.iomapOf slot).any (fun q => decide (q.imemOfs ≤ ofs ∧ ofs < q.imemOfs + 4 * q.words))

/-- Event 0 of an empty PEER slot: not for the words that the other slot of the pair shares with it and has landed
(R263, R312). -/
def State.qualPeer (s : State) (t : Tables) (slot twin : Nat) : State :=
  (t.iomapOf slot).foldl (fun s r => (List.range r.words).foldl (fun s i =>
    if t.mapsWord twin (r.imemOfs + 4 * i) then s else s.qualEvent 0 (r.imemOfs + 4 * i)) s) s

/-- The station of a DATA_IN slot is declared lost, or has been since the slot's last event 1 (R263, R307). -/
def State.stationDown (s : State) (r : SlotRec) : Bool :=
  s.stnState (r.node % 4096) == 2 || (s.stnState (r.node % 4096) == 3 && s.net.lostDue.contains r.slot)

/-- Events 0 and 1 of one slot at the task's AGREE_CLOSE (R263, R312). -/
def State.agreeSlot (s : State) (t : Tables) (k : Fin 16) (r : SlotRec) : State :=
  let run := s.tasks[k]
  if r.skind = 0 ∧ r.task = k.val ∧ s.stationDown r then
    (s.modNet fun n => { n with lostDue := n.lostDue.filter (· != r.slot) }).qualSlot t 1 r.slot
  else if (r.skind = 0 ∨ r.skind = 6) ∧ run.enabled.contains r.slot ∧ !run.landed.contains r.slot then
    match t.peerTwin r with
    | some x => if run.landed.contains x.slot then s.qualPeer t r.slot x.slot else s.qualSlot t 0 r.slot
    | none => s.qualSlot t 0 r.slot
  else s

/-- AGREE_CLOSE (R259, R263). -/
def agreeClose (idx : Nat) (s : State) : State :=
  s.onField idx 2 fun s e =>
    match s.boards.act with
    | none => s
    | some t => (t.slots.foldl (fun s r => s.agreeSlot t e.task r) s).modTask e.task (fun x => { x with agreed := true })

/-- The image words without a written mark take event `ev` (R263). -/
def State.qualUnwritten (s : State) (ev : Nat) (r : TaskRec) : State :=
  (List.range (r.outLen / 4)).foldl (fun s i =>
    if s.written.contains (r.outBase / 4 + i) then s else s.qualEvent ev (r.outBase + 4 * i)) s

/-- The digest term of the image line at IMEM offset `ofs` (R347). -/
def State.imageTerm (s : State) (ofs : Nat) : BitVec 64 :=
  let q := (List.range 16).foldl (fun n i => n + (s.imemQual (ofs + 4 * i)).toNat * 16 ^ i) 0
  crc64 (toLe 8 (2 ^ 63 + ofs) ++ s.mem.read (imemBase + ofs) 64 ++ toLe 8 q)

/-- The digest terms of a task's output image (R347). -/
def State.imageTerms (s : State) (r : TaskRec) : BitVec 64 :=
  (List.range ((r.outLen + 63) / 64)).foldl (fun n i => n + s.imageTerm (r.outBase / 64 * 64 + 64 * i)) 0

/-- TASK_END (R261): events 4, 5 and 6, then the image is published; the RERUN selection ends (R127). -/
def State.endTask (s : State) (e : Entry) : State :=
  let k := e.task
  match s.taskRec k with
  | none => s
  | some r =>
    let run := s.tasks[k]
    let s := if run.moverEv then s.qualRange 4 r.outBase (r.outLen / 4) else s
    let s := if run.late then s.qualUnwritten 5 r else s
    let s := if run.trapped then s.qualUnwritten 6 r else s
    let s := s.modTask k (fun x => { x with pub := some s.roundRsn, moverEv := false, late := false, trapped := false })
    let d := s.pair.digAcc[k] + s.imageTerms r
    let s := s.modPair fun p => { p with digAcc := p.digAcc.set k d }
    (s.modSeqr fun q => { q with rerun := q.rerun &&& ~~~(BitVec.ofNat 16 (2 ^ k.val)) }).modCtx k
      (fun c => { c with result := none })

/-- TASK_END (R261). -/
def taskEnd (idx : Nat) (s : State) : State := s.onField idx 3 fun s e => s.endTask e

/-! ### DIGEST (R347, R348) -/

/-- DIGEST (R348): the sum of the period's terms and of the round's RSN goes to the partner. -/
def digest (idx : Nat) (s : State) : State :=
  s.onField idx 4 fun s e =>
    let k := e.task
    let r := s.roundRsn
    let d := s.pair.digAcc[k] + r.setWidth 64
    let s := s.modPair fun p => { p with digOwn := p.digOwn.filter (fun x => x.task != k.val) ++ [⟨k.val, r, d⟩] }
    s.dunlySend 0 2 (toLe 1 k.val ++ zeros 3 ++ wordBytes r ++ toLe 8 d.toNat)

/-! ### The local channels (R345, R346, R408, R509 to R512) -/

/-- The latch that this module's own terminals give for the channels of `mask` (R509). -/
def State.ownLatch (s : State) (idx : Nat) (mask : BitVec 16) (usable : BitVec 64) : Latch :=
  let w := s.reg Reg.fioIn
  if s.domainUp 9 then ⟨idx, mask, mask &&& w.extractLsb' 0 16, mask &&& w.extractLsb' 16 16, s.fio.lowSeen, usable⟩
  else ⟨idx, mask, 0, 0xFFFF, s.fio.lowSeen, usable⟩

/-- FIO_SAMPLE (R345, R509): a FOLLOWER or JOINING module waits for the leader's latch, any other takes its own; the
leader sends it. -/
def fioSample (idx : Nat) (s : State) : State :=
  s.onField idx 6 fun s e =>
    let u := s.startOf e + 400
    let l := s.ownLatch idx e.channels u
    let s := { s with fio := { s.fio with lowSeen := false } }
    if s.takesLatches then
      if s.pair.latches.any (fun x => x.entry == idx && x.usable == u) then s
      else s.modPair fun p => { p with expect := p.expect ++ [(idx, u)] }
    else
      let s := s.keepLatch l
      if s.state = .leader then
        s.dunlySend 0 7 (toLe 4 idx ++ toLe 2 l.levels.toNat ++ toLe 2 l.brk.toNat ++ toLe 4 (b2n l.low))
      else s

/-- The record that gives an output channel its image word (R95, R511). -/
def State.outputOf (s : State) (c : Nat) : Option IomapRec :=
  match s.boards.act with
  | none => none
  | some t => (t.iomapOf 0xFFFF).find? (fun m => m.pofs == c)

/-- The refresh of one output channel (R511, R512, R346, R408). -/
def State.refreshChannel (s : State) (c : Fin 16) : State :=
  match s.outputOf c with
  | none => s
  | some m =>
    let on := bit (s.imemWord m.imemOfs) 0
    let safe := bit (s.fioCfg c) 9 && decide (8 ≤ (s.imemQual m.imemOfs).toNat)
    let s := s.modFio c (fun x => { x with
      qsafe := safe, warm := false, fresh := false, lead := s.state == .leader, refAt := s.opNs })
    let s := s.setFld Reg.fioSafe c c 0
    let s := if safe then s else
      let s := (s.setFld Reg.fioOut c c (b2n on)).modFio c (fun x => { x with latch := on })
      if on then s else s.setFld Reg.fioSafe (16 + c) (16 + c) 0
    s.fioApply c

/-- FIO_REFRESH (R511). -/
def fioRefresh (idx : Nat) (s : State) : State :=
  s.onField idx 7 fun s e =>
    if s.domainUp 9 then over16 (fun s c => if e.channels.getLsbD c && s.isOutput c then s.refreshChannel c else s) s else s

/-! ### The health block (R366, R367) -/

/-- Bits of a port byte: a0 to a3, b0 to b3 (R367). -/
def State.portByte (s : State) (link : Nat) : Nat :=
  (List.range 8).foldl (fun m q => if s.fld (portKey (q / 4) (q % 4)) 1 0 = link then m + 2 ^ q else m) 0

/-- The stations with a DATA_IN slot or a grant, by index, rising (R307). -/
def State.stations (s : State) : List Nat :=
  let own := match s.boards.act with
    | some t => (t.slots.filter (fun r => r.skind == 0)).map (fun r => r.node % 4096)
    | none => []
  (own ++ s.net.grants.map (fun g => g.node % 4096)).foldl sins []

/-- MBS_LOST NOW: the stations that are LOST or RETURNING (R329). -/
def State.lostNow (s : State) : Nat := (s.stations.filter (fun k => decide (2 ≤ s.stnState k))).length

/-- RESERVE (R367): the fewest pips that enabled entries leave free on a RUNNING lane in the round. -/
def State.reserve (s : State) : Nat :=
  let r := s.roundRsn
  let busy := fun (n : Fin 16) => (((s.track .l).filter (fun e =>
    e.etype == 1 && e.lane == n && e.active r && s.enabled .l e)).map (fun e => e.dur)).sum
  match (List.finRange 16).filter (fun n => s.lanes[n].state == .running) with
  | [] => 0
  | l => l.foldl (fun m n => min m (5000 - busy n)) 5000

/-- MODE (R366, R367). -/
def State.healthMode (s : State) : Nat :=
  if s.pair.check.isSome then 2
  else if !s.linkUp then 0
  else if s.state = .joining ∨ s.partnerState = 1 then 3
  else if s.partnerState = 2 ∨ s.partnerState = 3 then 1 else 0

/-- FLAGS (R367). -/
def State.healthFlags (s : State) : Nat :=
  b2n s.linkUp + 2 * b2n (s.pair.xfer.isSome || (s.state == .joining && decide (4 ≤ s.fld Reg.pairJoin 2 0 ∧ s.fld Reg.pairJoin 2 0 ≤ 5)))
    + 4 * b2n s.migr.isSome + 8 * b2n (s.boards.standby == .armed) + 16 * b2n s.pair.castle.isSome
    + 32 * b2n (decide (0 < s.pair.lostRound))

/-- The health block of the round with RSN `r` (R367). -/
def State.healthBlock (s : State) (r : Word) : Bytes :=
  let lanes := fun (st : LaneState) => toLe 2 (laneMask (fun n => s.lanes[n].state == st))
  let serial := match s.boards.act with | some t => t.hdr.serial | none => 0
  let b := wordBytes r ++ toLe 1 s.state.code ++ toLe 1 (b2n s.isB) ++ toLe 1 s.healthMode ++ toLe 1 s.time.state.code
    ++ lanes .running ++ lanes .barred ++ lanes .borneOff ++ toLe 1 (s.portByte 2) ++ toLe 1 (s.portByte 3)
    ++ toLe 8 s.opTime.toNat ++ wordBytes (s.reg Reg.rstCycles) ++ wordBytes serial ++ s.activeId.take 8
    ++ wordBytes (s.reg (if s.upd.runB then Reg.updVerB else Reg.updVerA)) ++ toLe 2 (min 0xFFFF s.pair.late)
    ++ toLe 2 (min 0xFFFF s.pair.squash) ++ toLe 2 s.lostNow ++ toLe 2 (min 0xFFFF s.pair.lostRound)
    ++ toLe 4 (s.fld Reg.pairDigCnt 23 16) ++ toLe 2 s.reserve ++ toLe 2 (s.fld Reg.hltEnv 31 16)
    ++ toLe 2 (s.fld Reg.fioLplus 11 0) ++ toLe 2 (s.fld Reg.hltEnv 15 0) ++ toLe 4 s.healthFlags ++ zeros 184
  b ++ toLe 4 (crc32c b).toNat

/-- The health block of the round is built and sent (R366). -/
def State.sendHealth (s : State) : State :=
  let b := s.healthBlock s.roundRsn
  (s.modPair fun p => { p with own := b }).dunlySend 0 1 b

/-- HEALTH_XCHG (R366, R479, R519). -/
def healthXchg (idx : Nat) (s : State) : State :=
  s.onField idx 8 fun s _ =>
    let s := s.sendHealth
    let s := { s with fio := { s.fio with healthy := true, healthAt := s.opNs, reserve := s.reserve } }.loopSet
    if s.roundRsn.toNat % 4000 = 0 then s.notify 1 s.pair.own else s

/-- TASK_START (R258). -/
def execTaskStart (idx : Nat) (s : State) : Host.Outcome State Fault Refusal := .next (taskStart idx s)
/-- AGREE_CLOSE (R263). -/
def execAgreeClose (idx : Nat) (s : State) : Host.Outcome State Fault Refusal := .next (agreeClose idx s)
/-- TASK_END (R261). -/
def execTaskEnd (idx : Nat) (s : State) : Host.Outcome State Fault Refusal := .next (taskEnd idx s)
/-- DIGEST (R348). -/
def execDigest (idx : Nat) (s : State) : Host.Outcome State Fault Refusal := .next (digest idx s)
/-- FIO_SAMPLE (R509). -/
def execFioSample (idx : Nat) (s : State) : Host.Outcome State Fault Refusal := .next (fioSample idx s)
/-- FIO_REFRESH (R511). -/
def execFioRefresh (idx : Nat) (s : State) : Host.Outcome State Fault Refusal := .next (fioRefresh idx s)
/-- HEALTH_XCHG (R366). -/
def execHealthXchg (idx : Nat) (s : State) : Host.Outcome State Fault Refusal := .next (healthXchg idx s)

end Sys2Proof.Machine
end

