-- ==== Sys2Proof/Machine/Hap.lean ====
section
/-! DEFINITION. The HAP engine and what the steward carries out for it (R464 to R481, R487): intake and
authentication, chunked transactions, plant writes, readout of records, the reset pair, the host keys. -/

namespace Sys2Proof.Machine

/-! ### Intake (R464 to R469) -/

/-- The header fields of a request (R465) and its body. -/
structure HapMsg where
  type : Nat
  key  : Nat
  xid  : Word
  seg  : Nat
  segs : Nat
  src  : HostAddr
  body : Bytes
  deriving DecidableEq, Repr

/-- The request that a datagram holds. -/
def hapParse (src : HapSrc) (d : Bytes) : HapMsg :=
  { type := beAt d 1 1, key := beAt d 4 1, xid := BitVec.ofNat 32 (beAt d 16 4), seg := beAt d 20 2
    segs := beAt d 22 2, src := src.addr, body := slice d 32 (beAt d 6 2) }

/-- COUNTER of a datagram (R465). -/
def hapCounter (d : Bytes) : BitVec 64 := BitVec.ofNat 64 (beAt d 8 8)

/-- Where the RSV bytes of a request body lie, and how many they are, by TYPE (R471). -/
def bodyRsv (type : Nat) : Nat × Nat :=
  if 1 ≤ type ∧ type ≤ 4 then (1, 1) else if type = 6 ∨ type = 7 then (6, 2)
  else if type = 9 ∨ type = 10 then (1, 3) else (0, 0)

/-- Check 1 of R466, over the RSV fields of the header and of the body; a datagram is 64 to 1,452 bytes long (R464). -/
def hapForm (d : Bytes) : Bool :=
  let r := bodyRsv (beAt d 1 1)
  decide (64 ≤ d.length ∧ d.length ≤ 1452) && d.length == 64 + beAt d 6 2 && beAt d 0 1 == 1
    && decide (beAt d 2 1 < 2) && beAt d 5 1 == 0 && beAt d 24 8 == 0
    && beAt (slice d 32 (beAt d 6 2)) r.1 r.2 == 0

/-- Slot `k` is enabled. -/
def State.keyOn (s : State) (k : Nat) : Bool := decide (k < 8) && bit (s.reg Reg.hapKeyStat) k

/-- KEY_ID 0xFF is admitted (R468). -/
def State.commissioning (s : State) : Bool := s.fld Reg.hapKeyStat 7 0 == 0 && s.svcKey

/-- COUNTER passes R467. -/
def KeySlot.passes (k : KeySlot) (c : BitVec 64) : Bool :=
  k.high != BitVec.allOnes 64
    && (decide (k.high.toNat < c.toNat) || (decide (k.high.toNat < c.toNat + 64) && !k.seen.contains c))

/-- COUNTER `c` has been accepted (R467). -/
def KeySlot.take (k : KeySlot) (c : BitVec 64) : KeySlot :=
  let h := if k.high.toNat < c.toNat then c else k.high
  { k with high := h, seen := (c :: k.seen).filter (fun x => decide (h.toNat < x.toNat + 64)) }

/-- The number of the first check of R466 that fails, if one does. -/
def State.hapCheck (s : State) (d : Bytes) : Option Nat :=
  let key := beAt d 4 1
  if !hapForm d then some 1
  else if !(s.keyOn key || (key == 0xFF && s.commissioning)) then some 2
  else if h : key < 8 then
    let k := s.host.slots[key]
    let n := d.length - 32
    if hmacSha256 k.key (d.take n) ≠ d.drop n then some 3
    else if !k.passes (hapCounter d) then some 4
    else none
  else none

/-- A datagram is dropped at check `n` (R466, R487). -/
def State.hapDrop (s : State) (d : Bytes) (n : Nat) : State :=
  let key := beAt d 4 1
  let s := if n = 4 then (s.incSat Reg.hapCnt 31 16).raise pHAP 1 else (s.incSat Reg.hapCnt 15 0).raise pHAP 0
  let s := s.logErr pHAP 0x0101 (BitVec.ofNat 32 (key + n * 256))
  if h : key < 8 then
    { s with host := { s.host with drops := s.host.drops.set key (s.host.drops[key] + 1) } }
  else s

/-- A datagram is accepted: its counter is kept (R467). -/
def State.hapAccept (s : State) (d : Bytes) : State :=
  let key := beAt d 4 1
  if h : key < 8 then
    { s with host := { s.host with slots := s.host.slots.set key (s.host.slots[key].take (hapCounter d)) } }
  else s

/-- The common 8 bytes of a response body, for a message accepted in round `rsn` (R470). -/
def State.hapCommon (s : State) (rsn : Word) (firstBad : Nat) : Bytes :=
  wordBytes rsn ++ toLe 1 s.state.code ++ [0] ++ toLe 2 firstBad

/-- A response to a request (R470, R471). -/
def State.hapReply (s : State) (m : HapMsg) (status firstBad : Nat) (body : Bytes) : State :=
  s.hapSend m.src m.key m.type 1 status m.xid 0 1 (s.hapCommon s.rsn firstBad ++ body)

/-- The HAP engine itself serves the type (R469). -/
def hapOwn (type : Nat) : Bool := type == 6 || type == 7 || type == 9 || type == 10

/-- The status with which the engine or the boot extension turns an accepted request away before it is
looked at (R468, R469, R471, R481); `ok` says that recovery and commissioning serve it. -/
def State.hapTurnAway (s : State) (m : HapMsg) (ok : Bool) : Option Nat :=
  if !hapOwn m.type && (s.handingOver || !s.stewardUp) then some 2
  else if s.inRecovery && !(ok || m.type == 7 || m.type == 9 || m.type == 10) then some 9
  else if m.key == 0xFF && !ok then some 3
  else if m.type == 0 || decide (10 < m.type) then some 5
  else if m.type != 6 && m.type != 7 && m.segs != 1 then some 5
  else if (m.type == 6 || m.type == 7) && !decide (1 ≤ m.segs ∧ m.segs ≤ 1024 ∧ m.seg < m.segs) then some 5
  else none

/-- SPACE of a READ or a WRITE (R471). -/
def HapMsg.space (m : HapMsg) : Nat := leAt m.body 0 1
/-- COUNT of a READ, a WRITE or a ring message (R471). -/
def HapMsg.count (m : HapMsg) : Nat := leAt m.body 2 2

/-- HAP is served over the IP version of the address and on HAP_CTRL PORT alone, and not in fragments (R464, R487). -/
def State.hapServed (s : State) (src : HapSrc) : Bool :=
  bit (s.reg Reg.hapCtrl) (if src.addr.ip.length = 4 then 16 else 17) && src.port.toNat == s.fld Reg.hapCtrl 15 0
    && !src.split

/-- A datagram of the row of request type `type` arrives (R464 to R471): `mine` tells the row's messages from
those that another row brings, `ok` says that recovery and commissioning serve it, `f` carries it out. -/
def State.hapIntake (s : State) (src : HapSrc) (d : Bytes) (mine ok : HapMsg → Bool)
    (f : State → HapMsg → State) : State :=
  if !s.domainUp 8 || !s.hapServed src then s
  else match s.hapCheck d with
    | some n => s.hapDrop d n
    | none =>
      let m := hapParse src d
      if m.type = 5 then
        let s := s.hapAccept d
        { s with host := { s.host with malformed := s.host.malformed + 1 } }
      else if !(mine m || m.type == 0 || decide (10 < m.type)) then s
      else
        let s := s.hapAccept d
        match s.hapTurnAway m (ok m) with
        | some st => s.hapReply m st 0 []
        | none => f s m

/-- A request of one type, which neither recovery nor commissioning serves. -/
def State.hapRow (s : State) (src : HapSrc) (d : Bytes) (type : Nat) (f : State → HapMsg → State) : State :=
  s.hapIntake src d (fun m => m.type == type) (fun _ => false) f

/-- HAP_BUSY_TIMEOUT (R469): an accepted message that the steward should have taken is answered BUSY. -/
def hapBusyTimeout (src : HapSrc) (msg : Bytes) (s : State) : State :=
  s.hapIntake src msg (fun m => !hapOwn m.type) (fun m => !s.inRecovery || m.type == 1 || m.type == 2)
    (fun s m => s.hapReply m 2 0 [])

/-! ### Plant writes (R473) -/

/-- An online change is agreed for a round at or before `eff`. -/
def State.changeBy (s : State) (eff : Word) : Bool :=
  match s.pair.change with
  | some x => s.changeAgreed && x.decided != some false && !later x.s eff
  | none => false

/-- The plant write of an accepted message (R346, R473, R484). -/
def State.plantWrite (s : State) (m : HapMsg) : State :=
  let ofs := leAt m.body 4 4
  let n := m.count
  let eff := s.rsn + 4
  if n = 0 ∨ 320 < n ∨ m.body.length ≠ 8 + 4 * n then s.hapReply m 5 0 []
  else if s.state ≠ .leader then s.hapReply m 3 0 []
  else if ofs % 4 ≠ 0 ∨ s.instLen < ofs + 4 * n then s.hapReply m 8 0 []
  else if s.changeBy eff then s.hapReply m 3 0 []
  else
    let data := m.body.drop 8
    let w := (List.range n).map (fun i => bytesWord (slice data (4 * i) 4))
    let s := s.modPair fun p => { p with plant := p.plant ++ [⟨eff, ofs, w⟩] }
    let s := s.dunlySend 0 6 (wordBytes eff ++ toLe 4 ofs ++ toLe 4 n ++ zeros 4 ++ data)
    let s := s.event 0xE002 pSTW .normal (toLe 1 m.key ++ zeros 3 ++ toLe 4 ofs ++ toLe 4 n ++ wordBytes eff)
    s.hapReply m 0 0 (wordBytes eff)

/-- HAP_PLANT_WRITE (R473). -/
def hapPlantWrite (src : HapSrc) (msg : Bytes) (s : State) : State :=
  s.hapIntake src msg (fun m => m.type == 2 && m.space == 1) (fun _ => false) State.plantWrite

/-! ### Chunked transactions (R476, R477) -/

/-- The claim on a staging area. -/
def State.claim (s : State) (image : Bool) : Option Claim :=
  if image then s.host.imageClaim else s.host.boardClaim

/-- The claim on a staging area is set. -/
def State.setClaim (s : State) (image : Bool) (c : Option Claim) : State :=
  if image then { s with host := { s.host with imageClaim := c } }
  else { s with host := { s.host with boardClaim := c } }

/-- The loader or the update engine reads the staging area (R477). -/
def State.stagingBusy (s : State) (image : Bool) : Bool :=
  if image then
    s.upd.state == .busy || s.upd.state == .pending || s.upd.state == .serialising || s.upd.state == .starting
  else s.boards.running.isSome

/-- The state with a transaction's context replaced, or dropped. -/
def State.putReasm (s : State) (key : Nat) (xid : Word) (type : Nat) (r : Option Reasm) : State :=
  let l := s.host.reasm.filter (fun x => !(x.key == key && x.xid == xid && x.type == type))
  { s with host := { s.host with reasm := match r with | some x => l ++ [x] | none => l } }

/-- A segment is accepted into transaction `c`: its bytes are written, the transaction ends with its last
segment (R476, R477). -/
def State.chunkTake (s : State) (image : Bool) (m : HapMsg) (c : Reasm) : State :=
  let ofs := leAt m.body 0 4
  let n := leAt m.body 4 2
  let s := s.writeMem ((if image then fwStaging else boardStaging) + ofs) (slice m.body 8 n)
  let top := match s.claim image with | some k => k.top | none => 0
  let k : Claim := ⟨m.key, max top (ofs + n), s.opNs⟩
  let s := s.setClaim image (some k)
  let c := { c with got := sins c.got m.seg, bytes := c.bytes + n, at_ := s.opNs, rsn := s.rsn }
  if c.got.length = c.segs then
    let s := s.putReasm m.key m.xid m.type none
    let s := s.setReg (if image then Reg.updStgLen else Reg.brdStgLen) (BitVec.ofNat 32 k.top)
    s.hapReply m 0 0 (toLe 2 c.segs ++ zeros 2 ++ toLe 4 c.bytes)
  else s.putReasm m.key m.xid m.type (some c)

/-- A segment that is no orphan, of a length that fits (R476, R477). -/
def State.chunkAdmit (s : State) (image : Bool) (m : HapMsg) : State :=
  let ofs := leAt m.body 0 4
  let n := leAt m.body 4 2
  let other := match s.claim image with | some k => k.key != m.key | none => false
  if s.stagingBusy image || other then s.hapReply m 3 0 []
  else if (if image then 0x4000000 else 0x10000000) < ofs + n then s.hapReply m 8 0 []
  else match s.host.reasm.find? (fun x => x.key == m.key && x.xid == m.xid && x.type == m.type) with
    | some c =>
      if c.segs ≤ m.seg then s.hapReply m 5 0 []
      else if c.got.contains m.seg then s
      else s.chunkTake image m c
    | none =>
      if 16 ≤ s.host.reasm.length then s.hapReply m 6 0 []
      else s.chunkTake image m ⟨m.key, m.xid, m.type, m.segs, [], 0, m.src, 0, 0⟩

/-- A segment from the claimant has arrived (R477). -/
def State.touchClaim (s : State) (image : Bool) (m : HapMsg) : State :=
  s.setClaim image ((s.claim image).map (fun k => if k.key = m.key then { k with at_ := s.opNs } else k))

/-- A segment of a BOARD_CHUNK or an UPDATE_CHUNK. -/
def State.chunk (s : State) (image : Bool) (m : HapMsg) : State :=
  let s := s.touchClaim image m
  let n := leAt m.body 4 2
  if n = 0 ∨ 1376 < n ∨ m.body.length ≠ 8 + n then s.hapReply m 5 0 []
  else match s.host.orphans.find? (fun o => o.key == m.key && o.xid == m.xid
      && decide (s.opTime.toNat < o.until_.toNat)) with
    | some o =>
      let s := s.incSat Reg.hapCnt2 15 0
      if o.answered then s
      else
        let l := s.host.orphans.map (fun x => if x = o then { x with answered := true } else x)
        { s with host := { s.host with orphans := l } }.hapReply m 4 0 []
    | none => s.chunkAdmit image m

/-- BOARD_CHUNK (R476, R477). -/
def boardChunk (src : HapSrc) (msg : Bytes) (s : State) : State :=
  s.hapRow src msg 6 (fun s m => s.chunk false m)

/-- UPDATE_CHUNK (R476, R477). -/
def updateChunk (src : HapSrc) (msg : Bytes) (s : State) : State :=
  s.hapRow src msg 7 (fun s m => s.chunk true m)

/-- REASSEMBLY_TIMEOUT (R476): 50 ms after its last accepted segment the transaction is discarded; its late segments are
orphans for 10 s. The answer gives the round in which that segment was accepted (R470). -/
def reassemblyTimeout (key : BitVec 8) (xid : Word) (s : State) : State :=
  match s.host.reasm.find? (fun x => x.key == key.toNat && x.xid == xid) with
  | none => s
  | some c =>
    let s := (s.waitOp (c.at_ + 50000000)).putReasm c.key xid c.type none
    let o : Orphan := ⟨c.key, xid, s.opTime + 10000, false⟩
    let l := s.host.orphans.filter (fun x => decide (s.opTime.toNat < x.until_.toNat) && !(x.key == c.key && x.xid == xid))
    let s := { s with host := { s.host with orphans := l ++ [o] } }
    let s := (s.incSat Reg.hapCnt2 31 16).raise pHAP 2
    s.hapSend c.addr c.key c.type 1 7 xid 0 1 (s.hapCommon c.rsn 0 ++ toLe 2 c.got.length ++ zeros 2 ++ toLe 4 c.bytes)

/-- STAGING_CLAIM_TIMEOUT (R477): 60 s without a segment from the claimant. -/
def stagingClaimTimeout (image : Bool) (s : State) : State :=
  match s.claim image with
  | none => s
  | some k => (s.waitOp (k.at_ + 60000000000)).setClaim image none

/-! ### Readout (R478) -/

/-- The segments of a REC_READ response. -/
def State.recSegments (s : State) (m : HapMsg) (r : ReadRun) : State :=
  let n := max 1 ((r.bytes.length + 1263) / 1264)
  (List.range n).foldl (fun s i =>
    s.hapSend m.src m.key 8 1 0 m.xid i n (s.hapCommon s.rsn 0 ++ wordBytes r.cursor
      ++ toLe 4 (b2n r.gap + b2n r.ahead * 2) ++ toLe 4 (1264 * i) ++ slice r.bytes (1264 * i) 1264)) s

/-- REC_READ (R439, R478): one READ into a window of its own. -/
def recRead (src : HapSrc) (msg : Bytes) (s : State) : State :=
  s.hapRow src msg 8 fun s m =>
    let lim := leAt m.body 4 4
    if m.body.length ≠ 8 ∨ lim < 4100 ∨ 262144 < lim then s.hapReply m 5 0 []
    else
      let s := s.setReg Reg.recRdLen (BitVec.ofNat 32 lim)
      let r := s.readBatch (BitVec.ofNat 32 (leAt m.body 0 4))
      let s := s.setReg Reg.recRdStat (BitVec.ofNat 32
        (r.count % 2 ^ 16 + b2n s.rcd.reading.isSome * 2 ^ 16 + b2n r.gap * 2 ^ 17 + b2n r.ahead * 2 ^ 18))
      let s := ((s.setReg Reg.recRdCursor r.cursor).setReg Reg.recRdFirst r.first).raise pREC 6
      s.recSegments m r

/-! ### The reset pair (R396, R480) -/

/-- REACH of a RESET_ARM or RESET_FIRE body, when the body is well formed. -/
def HapMsg.reach (m : HapMsg) : Option Nat :=
  let r := leAt m.body 0 1
  if m.body.length = 4 ∧ (r = 1 ∨ r = 2) then some r else none

/-- RESET_ARM (R480): an arm replaces the one before (R396). -/
def resetArm (src : HapSrc) (msg : Bytes) (s : State) : State :=
  s.hapRow src msg 9 fun s m =>
    match m.reach with
    | none => s.hapReply m 5 0 []
    | some r =>
      let s := s.setReg Reg.hapArm (BitVec.ofNat 32 (1 + r * 2 + m.key * 16))
      let s := { s with host := { s.host with armEnd := s.opNs + 1000000000 } }
      (s.raise pHAP 3).hapReply m 0 0 []

/-- RESET_FIRE (R480): source 4 asserts 5 ms after the response to one that matches. -/
def resetFire (src : HapSrc) (msg : Bytes) (s : State) : State :=
  s.hapRow src msg 10 fun s m =>
    match m.reach with
    | none => s.hapReply m 5 0 []
    | some r =>
      let armed := s.reg Reg.hapArm == BitVec.ofNat 32 (1 + r * 2 + m.key * 16) && decide (s.opNs ≤ s.host.armEnd)
      let s := s.setReg Reg.hapArm 0
      if armed then
        ({ s with host := { s.host with fire := some (r, s.opNs + 5000000) } }).hapReply m 0 0 []
      else s.hapReply m 10 0 []

/-- HAP_RESET_ASSERT (R480). -/
def hapResetAssert (s : State) : State :=
  match s.host.fire with
  | none => s
  | some (r, t) =>
    let s := { s with host := { s.host with fire := none } }
    (s.waitOp t).assertSource 4 r false

/-- RESET_ARM_LAPSE (R396). -/
def resetArmLapse (s : State) : State :=
  if bit (s.reg Reg.hapArm) 0 then (s.waitOp s.host.armEnd).setReg Reg.hapArm 0 else s

/-! ### Host keys (R487) -/

/-- A host key command: KEY and OP must be right, the source must be allowed; `f` gets the slot. A command that is carried
out raises KEY_CHG and writes KEY_CHANGE (R484). -/
def State.keyCmd (s : State) (value : Word) (hapKey : Option (BitVec 8)) (op : Nat)
    (f : State → Fin 8 → Option State) : State :=
  let n := Fin.ofNat 8 (bits value 2 0)
  let from_ := match hapKey with | none => true | some k => k.toNat != n.val
  if !s.domainUp 8 then s.downError pHAP
  else if bits value 31 16 != 0x4B59 || bits value 7 4 != op then s
  else if !from_ then s.logErr pHAP 0x0102 value
  else match f s n with
    | none => s.refuse Reg.hapKeyCmd
    | some s => (s.raise pHAP 4).event 0xE003 pSTW .critical (toLe 1 n.val ++ toLe 1 op ++ zeros 2)

/-- The staged key: first key byte in [7:0] of word 0 (R487). -/
def State.hapStaged (s : State) : Bytes := s.host.stage.toList.flatMap wordBytes

/-- HAP_KEY_STORE (R487): the slot is disabled, H and the send counter are 0, the staging is cleared. -/
def hapKeyStore (value : Word) (hapKey : Option (BitVec 8)) (s : State) : State :=
  s.keyCmd value hapKey 1 fun s n =>
    let h := { s.host with
      slots := s.host.slots.set n ⟨s.hapStaged, 0, [], 0⟩
      stage := Vector.replicate 8 0 }
    some (({ s with host := h }.setFld Reg.hapKeyStat n n 0).setFld Reg.hapKeyStat (8 + n) (8 + n) 1)

/-- HAP_KEY_ENABLE (R487): an empty slot is not enabled (assumption 19). -/
def hapKeyEnable (value : Word) (hapKey : Option (BitVec 8)) (s : State) : State :=
  s.keyCmd value hapKey 2 fun s n =>
    if bit (s.reg Reg.hapKeyStat) (8 + n) then some (s.setFld Reg.hapKeyStat n n 1) else none

/-- HAP_KEY_DISABLE (R487). -/
def hapKeyDisable (value : Word) (hapKey : Option (BitVec 8)) (s : State) : State :=
  s.keyCmd value hapKey 3 fun s n => some (s.setFld Reg.hapKeyStat n n 0)

/-- HAP_KEY_ERASE (R487). -/
def hapKeyErase (value : Word) (hapKey : Option (BitVec 8)) (s : State) : State :=
  s.keyCmd value hapKey 4 fun s n =>
    let h := { s.host with slots := s.host.slots.set n { s.host.slots[n] with key := [] } }
    some (({ s with host := h }.setFld Reg.hapKeyStat n n 0).setFld Reg.hapKeyStat (8 + n) (8 + n) 0)

/-- The highest accepted COUNTER of the slot that HAP_CTR_SEL selects. -/
def State.hapHigh (s : State) : BitVec 64 := s.host.slots[Fin.ofNat 8 (s.fld Reg.hapCtrSel 2 0)].high

/-- HAP_CTR_LO_READ (R487). -/
def hapCtrLoRead (s : State) : State :=
  s.onPage pHAP fun s => s.setReg Reg.hapCtrHi (s.hapHigh.extractLsb' 32 32)

/-! ### The commands -/

/-- HAP_PLANT_WRITE (R473). -/
def execHapPlantWrite (src : HapSrc) (msg : Bytes) (s : State) : Host.Outcome State Fault Refusal := .next (hapPlantWrite src msg s)
/-- BOARD_CHUNK (R476). -/
def execBoardChunk (src : HapSrc) (msg : Bytes) (s : State) : Host.Outcome State Fault Refusal := .next (boardChunk src msg s)
/-- UPDATE_CHUNK (R476). -/
def execUpdateChunk (src : HapSrc) (msg : Bytes) (s : State) : Host.Outcome State Fault Refusal := .next (updateChunk src msg s)
/-- REC_READ (R478). -/
def execRecRead (src : HapSrc) (msg : Bytes) (s : State) : Host.Outcome State Fault Refusal := .next (recRead src msg s)
/-- RESET_ARM (R480). -/
def execResetArm (src : HapSrc) (msg : Bytes) (s : State) : Host.Outcome State Fault Refusal := .next (resetArm src msg s)
/-- RESET_FIRE (R480). -/
def execResetFire (src : HapSrc) (msg : Bytes) (s : State) : Host.Outcome State Fault Refusal := .next (resetFire src msg s)
/-- HAP_RESET_ASSERT (R480). -/
def execHapResetAssert (s : State) : Host.Outcome State Fault Refusal := .next (hapResetAssert s)
/-- RESET_ARM_LAPSE (R396). -/
def execResetArmLapse (s : State) : Host.Outcome State Fault Refusal := .next (resetArmLapse s)
/-- HAP_BUSY_TIMEOUT (R469). -/
def execHapBusyTimeout (src : HapSrc) (msg : Bytes) (s : State) : Host.Outcome State Fault Refusal := .next (hapBusyTimeout src msg s)
/-- REASSEMBLY_TIMEOUT (R476). -/
def execReassemblyTimeout (key : BitVec 8) (xid : Word) (s : State) : Host.Outcome State Fault Refusal := .next (reassemblyTimeout key xid s)
/-- STAGING_CLAIM_TIMEOUT (R477). -/
def execStagingClaimTimeout (image : Bool) (s : State) : Host.Outcome State Fault Refusal := .next (stagingClaimTimeout image s)
/-- HAP_KEY_STORE (R487). -/
def execHapKeyStore (value : Word) (hapKey : Option (BitVec 8)) (s : State) : Host.Outcome State Fault Refusal := .next (hapKeyStore value hapKey s)
/-- HAP_KEY_ENABLE (R487). -/
def execHapKeyEnable (value : Word) (hapKey : Option (BitVec 8)) (s : State) : Host.Outcome State Fault Refusal := .next (hapKeyEnable value hapKey s)
/-- HAP_KEY_DISABLE (R487). -/
def execHapKeyDisable (value : Word) (hapKey : Option (BitVec 8)) (s : State) : Host.Outcome State Fault Refusal := .next (hapKeyDisable value hapKey s)
/-- HAP_KEY_ERASE (R487). -/
def execHapKeyErase (value : Word) (hapKey : Option (BitVec 8)) (s : State) : Host.Outcome State Fault Refusal := .next (hapKeyErase value hapKey s)
/-- HAP_CTR_LO_READ (R487). -/
def execHapCtrLoRead (s : State) : Host.Outcome State Fault Refusal := .next (hapCtrLoRead s)

end Sys2Proof.Machine
end

