-- ==== Sys2Proof/Machine/HostPorts.lean ====
section
/-! DEFINITION. The host ports, their switch and timestamps, the module's own network answers, the PTP slave, the
steward's watchdog and summary records (R57 to R59, R462, R463, R482 to R486). -/

namespace Sys2Proof.Machine

/-! ### The switch (R462) -/

/-- HST_PORT of H1 (0) or H2 (1). -/
def hstPort (p : Nat) : Nat := if p = 0 then Reg.hstPort1 else Reg.hstPort2

/-- Switch port `p` carries frames: H1 and H2 by their links, port 2 is the steward. -/
def State.portCarries (s : State) (p : Nat) : Bool := p == 2 || s.fld (hstPort p) 1 0 != 0

/-- The module's MAC address (R463). -/
def State.hostMac (s : State) : Bytes := [0x06, 0x41, 0x56] ++ toBe 3 (s.fld Reg.sysSerialLo 23 0)

/-- A frame with its FCS (R58). -/
def withFcs (b : Bytes) : Bytes := b ++ toLe 4 (crcEth b).toNat

/-- A frame leaves by a host port; what goes to the steward leaves nothing outside. -/
def State.sendHost (s : State) (p : Nat) (frame : Bytes) : State :=
  if p ≠ 2 && s.portCarries p then s.send (.host p frame) else s

/-- The source address of a frame is learned; a full table of 1,024 learns no new address (assumption 20). -/
def State.learn (s : State) (p : Nat) (frame : Bytes) : State :=
  let a := slice frame 6 6
  let old := s.host.table.filter (fun x => x.1 != a)
  if (leAt a 0 1).testBit 0 || (decide (1024 ≤ old.length)) then s
  else { s with host := { s.host with table := old ++ [(a, p)] } }

/-- The switch ports a frame that came in at `p` leaves by (R462). -/
def State.forwardTo (s : State) (p : Nat) (frame : Bytes) : List Nat :=
  let d := slice frame 0 6
  let others := [0, 1, 2].filter (fun q => q != p)
  if (leAt d 0 1).testBit 0 then others
  else if d = s.hostMac then [2].filter (fun q => q != p)
  else match s.host.table.find? (fun x => x.1 == d) with
    | some x => [x.2].filter (fun q => q != p)
    | none => others

/-- A frame is learned from and forwarded, as `out` gives it to each port. -/
def State.switchFrame (s : State) (p : Nat) (frame : Bytes) (out : Nat → Bytes) : State :=
  if !s.domainUp 8 || !s.portCarries p then s
  else
    let s := s.learn p frame
    (s.forwardTo p frame).foldl (fun s q => s.sendHost q (out q)) s

/-- HOST_LINK_CHANGE (R486): a port that is DISABLEd stays down. -/
def hostLinkChange (port : Fin 2) (link : BitVec 2) (s : State) : State :=
  let k := hstPort port.val
  let l := if bit (s.reg k) 8 then 0 else link.toNat
  let was := s.fld k 1 0
  if !s.domainUp 8 || l == 3 || l == was then s
  else
    let s := s.setFld k 1 0 l
    let s := if l = 0 then s.incSat k 31 16 else s
    s.raise pHST 0

/-! ### PTP event messages (R57, R58) -/

/-- A port's queue takes a timestamp; the 17th is lost (R486). -/
def State.stamp_ (s : State) (x : PtpStamp) : State :=
  if (s.host.stamps.filter (fun y => y.port == x.port)).length < 16 then
    { s with host := { s.host with stamps := s.host.stamps ++ [x] } }.raise pHST 1
  else
    ((s.incSat Reg.hstTsStat 31 16).raise pHST 2).logErr pHST 0x0101 (BitVec.ofNat 32 x.port.val)

/-- Where the PTP message of a frame lies, and the offset of the IP header if it is carried by UDP, with the IP
version (R58): EtherType 0x88F7 untagged or with one tag, UDP to port 319. A UDP frame with one tag counts as well
(assumption 66). -/
def ptpAt (f : Bytes) : Option (Nat × Option (Nat × Nat)) :=
  let o := if beAt f 12 2 = 0x8100 then 18 else 14
  let ty := beAt f (o - 2) 2
  if ty = 0x88F7 then some (o, none)
  else if ty = 0x0800 && beAt f (o + 9) 1 == 17 then
    let ihl := beAt f o 1 % 16 * 4
    if beAt f (o + ihl + 2) 2 = 319 then some (o + ihl + 8, some (o + ihl, 4)) else none
  else if ty = 0x86DD && beAt f (o + 6) 1 == 17 then
    if beAt f (o + 42) 2 = 319 then some (o + 48, some (o + 40, 6)) else none
  else none

/-- The PTP version 2 event message that a frame carries: messageType and sequenceId (R57). -/
def ptpEvent (f : Bytes) : Option (BitVec 4 × BitVec 16) :=
  match ptpAt f with
  | none => none
  | some (m, _) =>
    let ty := beAt f m 1 % 16
    if beAt f (m + 1) 1 % 16 = 2 ∧ ty ≤ 3 then some (BitVec.ofNat 4 ty, BitVec.ofNat 16 (beAt f (m + 30) 2)) else none

/-- A host port that receives (`tx` false) or sends an event message timestamps it (R57). -/
def State.stampEvent (s : State) (f : Bytes) (port : Nat) (tx : Bool) (ts : BitVec 64) : State :=
  match ptpEvent f with
  | some (ty, seq) => if port = 2 then s else s.stamp_ ⟨seq, ty, Fin.ofNat 2 port, tx, ts⟩
  | none => s

/-! ### The PTP slave (R59) -/

/-- The PTP message of a frame and the offset at which it lies, with UDP to port 320 as well (IEEE 1588: general
messages). -/
def ptpMessage (f : Bytes) : Option Nat :=
  match ptpAt f with
  | some (m, _) => some m
  | none =>
    let o := if beAt f 12 2 = 0x8100 then 18 else 14
    let ihl := beAt f o 1 % 16 * 4
    if beAt f (o - 2) 2 = 0x0800 ∧ beAt f (o + 9) 1 = 17 ∧ beAt f (o + ihl + 2) 2 = 320 then some (o + ihl + 8)
    else if beAt f (o - 2) 2 = 0x86DD ∧ beAt f (o + 6) 1 = 17 ∧ beAt f (o + 42) 2 = 320 then some (o + 48)
    else none

/-- The port identity of the slave: the clock identity that its MAC address gives, and the port number (IEEE 1588,
assumption 67). -/
def State.ptpIdentity (s : State) : Bytes :=
  s.hostMac.take 3 ++ [0xFF, 0xFE] ++ s.hostMac.drop 3 ++ toBe 2 (s.host.ptpPort.val + 1)

/-- The steward runs the PTP slave on port `p`. -/
def State.ptpSlave (s : State) (p : Nat) : Bool :=
  s.stewardUp && !s.inRecovery && !s.handingOver && s.domainUp 2 && s.host.ptp == .slave && s.host.ptpPort.val == p

/-- ns of an Int as a signed 64-bit difference of two times. -/
def nsBetween (a b : BitVec 64) : Int := (b - a).toInt

/-- A Delay_Resp to the slave's Delay_Req gives the mean path delay (R59, delay request-response mechanism). -/
def State.delayResp (s : State) (p : Nat) (f : Bytes) : State :=
  match ptpMessage f, s.host.ptpReq, s.host.ptpSync with
  | some m, some (seq, t3), some d =>
    let mine := beAt f m 1 % 16 == 9 && beAt f (m + 1) 1 % 16 == 2 && beAt f (m + 4) 1 == s.host.domain.toNat
      && beAt f (m + 30) 2 == seq.toNat && slice f (m + 44) 10 == s.ptpIdentity
    if s.ptpSlave p && mine then
      let t4 := BitVec.ofNat 64 (beAt f (m + 34) 6 * 1000000000 + beAt f (m + 40) 4)
      let corr := (BitVec.ofNat 64 (beAt f (m + 8) 8)).toInt / 65536
      { s with host := { s.host with ptpDelay := (d + nsBetween t3 t4 - corr) / 2, ptpReq := none } }
    else s
  | _, _, _ => s

/-- The slave sends a Delay_Req on its port, timestamped there (R57, R59). -/
def State.delayReq (s : State) : State :=
  let q := s.host.ptpSeq
  let s := s.send (.ptpDelayReq s.host.ptpPort.val q)
  let s := s.stamp_ ⟨q, 1, s.host.ptpPort, true, s.now⟩
  { s with host := { s.host with ptpReq := some (q, s.now), ptpSeq := q + 1 } }

/-- The slave has the Sync `m` that came in at `ts`: it writes its offset from the master into TIM_EXT_OFS, positive when
the master is behind, and begins the next measurement of the path delay (R59). -/
def State.slaveSync (s : State) (ts : BitVec 64) (m : SyncMsg) : State :=
  let d := nsBetween (m.origin + m.corr) ts
  let ofs := d - s.host.ptpDelay
  let fits := decide (-2147483648 ≤ ofs ∧ ofs ≤ 2147483647)
  let s := timExtOfsWrite (if fits then BitVec.ofInt 32 ofs else Config.extOfs s.free) (if fits then s else s.takeFree)
  { s with host := { s.host with ptpSync := some d } }.delayReq

/-- SWITCH_FRAME_FORWARD (R57, R462): the steward's own frames come in at port 2. A PTP event message is timestamped where
it comes in and where it leaves, at the global time of the command. -/
def switchFrameForward (port : Fin 3) (frame : Bytes) (s : State) : State :=
  if !s.domainUp 8 || !s.portCarries port.val then s
  else
    let goes := (s.learn port.val frame).forwardTo port.val frame
    let t := (s.switchFrame port.val frame (fun _ => frame)).stampEvent frame port.val false s.now
    let t := goes.foldl (fun t q => if t.portCarries q then t.stampEvent frame q true s.now else t) t
    if goes.contains 2 then t.delayResp port.val frame else t

/-- Bytes `l` put at offset `o`. -/
def patch (f : Bytes) (o : Nat) (l : Bytes) : Bytes := f.take o ++ l ++ f.drop (o + l.length)

/-- The sum of 16-bit words with the carries put back, as the Internet checksum adds. -/
def fold16 (n : Nat) : Nat := if n = 0 then 0 else (n - 1) % 0xFFFF + 1

/-- The 16-bit words of bytes in network order, summed. -/
def sum16 : Bytes → Nat
  | a :: b :: r => a.toNat * 256 + b.toNat + sum16 r
  | [a] => a.toNat * 256
  | [] => 0

/-- The Internet checksum of bytes. -/
def inetSum (l : Bytes) : Nat := 0xFFFF - fold16 (sum16 l)

/-- The UDP checksum `old` after the bytes `a` became `b` (RFC 1624). -/
def updSum (old : Nat) (a b : Bytes) : Nat :=
  let n := 0xFFFF - fold16 ((0xFFFF - old) + (sum16 (a.map (fun x => ~~~x))) + sum16 b)
  if n = 0 then 0xFFFF else n

/-- A Sync or Delay_Req with the residence time added to correctionField (R58). -/
def correctFrame (f : Bytes) (m : Nat) (ip : Option (Nat × Nat)) (ns : BitVec 64) : Bytes :=
  let body := f.take (f.length - 4)
  let old := slice body (m + 8) 8
  let new := toBe 8 (BitVec.ofNat 64 (beNat old + ns.toNat * 2 ^ 16)).toNat
  let body := patch body (m + 8) new
  let body := match ip with
    | some (u, 4) => patch body (u + 6) [0, 0]
    | some (u, _) => patch body (u + 6) (toBe 2 (updSum (beAt body (u + 6) 2) old new))
    | none => body
  withFcs body

/-- PTP_TC_CORRECT (R57, R58): Sync and Delay_Req are corrected between H1 and H2, other messages pass unchanged;
every event message is timestamped at both ports. -/
def ptpTcCorrect (inPort : Fin 2) (ingress egress : BitVec 64) (frame : Bytes) (s : State) : State :=
  match ptpAt frame with
  | none => s
  | some (m, ip) =>
    let ty := beAt frame m 1 % 16
    let ver := beAt frame (m + 1) 1 % 16
    let out := 1 - inPort.val
    if !s.domainUp 8 || !s.portCarries inPort.val || ver ≠ 2 then s
    else
      let goes := (s.learn inPort.val frame).forwardTo inPort.val frame
      let crosses := goes.contains out && s.portCarries out
      let fix := decide (ty < 2) && crosses
      let s := s.switchFrame inPort.val frame (fun _ => if fix then correctFrame frame m ip (egress - ingress) else frame)
      let s := if fix then s.incWrap Reg.hstTc 31 0 else s
      let s := s.stampEvent frame inPort.val false ingress
      let s := if crosses then s.stampEvent frame out true egress else s
      if goes.contains 2 then s.delayResp inPort.val frame else s

/-- PTP_SYNC_RX (R57, R59): the Sync is timestamped; a steward whose clock is slave on that port, in the domain of its
settings, measures its offset and copies the master's UTC offset. -/
def ptpSyncRx (port : Fin 2) (seqId : BitVec 16) (ts : BitVec 64) (m : SyncMsg) (utc : BitVec 16) (s : State) : State :=
  if !s.domainUp 8 || !s.portCarries port.val then s
  else
    let s := s.stamp_ ⟨seqId, 0, port, false, ts⟩
    if s.ptpSlave port.val && m.domain == s.host.domain then
      (s.slaveSync ts m).setReg Reg.timUtc (BitVec.ofNat 32 (utc.toNat + 2 ^ 16))
    else s

/-- PTP_STATE_CHANGE (R484). -/
def ptpStateChange (port : Fin 2) (st : PtpState) (clockId : BitVec 64) (s : State) : State :=
  if !s.domainUp 8 || s.host.ptp = st then s
  else
    let c := match st with | .listening => 0 | .slave => 1 | .lost => 2
    let h := { s.host with
      ptp := st, ptpPort := port, ptpSync := none, ptpReq := none, ptpDelay := if st = .slave then s.host.ptpDelay else 0 }
    { s with host := h }.event 0xE008 pSTW .normal
      (toLe 1 port.val ++ toLe 1 c ++ zeros 2 ++ toBe 8 clockId.toNat)

/-- HST_TS_POP (R486). -/
def hstTsPop (s : State) : State :=
  s.onPage pHST fun s => { s with host := { s.host with stamps := s.host.stamps.drop 1 } }

/-! ### The module's own answers (R463) -/

/-- The module's IPv4 address in network order (R403). -/
def State.ip4 (s : State) : Bytes := (slice s.option 0x10 4).reverse

/-- The link-local IPv6 address formed from the MAC address (R463, RFC 4291). -/
def State.ip6 (s : State) : Bytes :=
  let m := s.hostMac
  [0xFE, 0x80] ++ zeros 6 ++ [(m.headD 0) ^^^ 2] ++ slice m 1 2 ++ [0xFF, 0xFE] ++ slice m 3 3

/-- An ARP request for the module's address, answered. -/
def State.arpReply (s : State) (f : Bytes) : Option Bytes :=
  if beAt f 14 8 = 0x0001080006040001 ∧ slice f 38 4 = s.ip4 then
    some (slice f 22 6 ++ s.hostMac ++ [0x08, 0x06, 0, 1, 8, 0, 6, 4, 0, 2] ++ s.hostMac ++ s.ip4 ++ slice f 22 10
      ++ zeros 18)
  else none

/-- An ICMP echo request to the module's IPv4 address, answered; fragments are not. -/
def State.echo4 (s : State) (f : Bytes) : Option Bytes :=
  let ihl := beAt f 14 1 % 16 * 4
  let n := beAt f 16 2
  let ic := slice f (14 + ihl) (n - ihl)
  if beAt f 14 1 / 16 = 4 ∧ beAt f 20 2 % 0x4000 = 0 ∧ beAt f 23 1 = 1 ∧ slice f 30 4 = s.ip4 ∧ beAt ic 0 2 = 0x0800
      ∧ inetSum ic = 0 ∧ ic.length = n - ihl then
    let ty := Config.echoByte s.free
    let hd (c : Nat) : Bytes := [0x45, 0] ++ toBe 2 (20 + ic.length) ++ [ty 1, ty 2, 0, 0, ty 0, 1] ++ toBe 2 c
      ++ s.ip4 ++ slice f 26 4
    let body (c : Nat) : Bytes := [0, 0] ++ toBe 2 c ++ ic.drop 4
    some (slice f 6 6 ++ s.hostMac ++ [0x08, 0x00] ++ hd (inetSum (hd 0)) ++ body (inetSum (body 0)))
  else none

/-- An ICMPv6 message of the module, with its checksum over the pseudo-header. -/
def icmp6 (src dst : Bytes) (hop : Byte) (b : Nat → Bytes) : Bytes :=
  let n := (b 0).length
  let pseudo := src ++ dst ++ toBe 4 n ++ [0, 0, 0, 58]
  [0x60, 0, 0, 0] ++ toBe 2 n ++ [58, hop] ++ src ++ dst ++ b (inetSum (pseudo ++ b 0))

/-- A neighbour solicitation for the module's IPv6 address, or an ICMPv6 echo request to it, answered. -/
def State.answer6 (s : State) (f : Bytes) : Option Bytes :=
  let src := slice f 22 16
  let ic := slice f 54 (beAt f 18 2)
  let good := beAt f 14 1 / 16 == 6 && beAt f 20 1 == 58
    && inetSum (src ++ slice f 38 16 ++ toBe 4 ic.length ++ [0, 0, 0, 58] ++ ic) == 0
  let hd := slice f 6 6 ++ s.hostMac ++ [0x86, 0xDD]
  if good && beAt ic 0 1 == 135 && beAt f 21 1 == 255 && slice ic 8 16 == s.ip6 then
    some (hd ++ icmp6 s.ip6 src 255 (fun c =>
      [136, 0] ++ toBe 2 c ++ [0x60, 0, 0, 0] ++ s.ip6 ++ [2, 1] ++ s.hostMac))
  else if good && beAt ic 0 1 == 128 && slice f 38 16 == s.ip6 then
    some (hd ++ icmp6 s.ip6 src (Config.echoByte s.free 0) (fun c => [129, 0] ++ toBe 2 c ++ ic.drop 4))
  else none

/-- ARP_ND_ICMP_RX (R463): answered by the port it came in at; other IP traffic is dropped. -/
def arpNdIcmpRx (port : Fin 2) (frame : Bytes) (s : State) : State :=
  if !s.domainUp 8 || !s.portCarries port.val then s
  else
    let s := s.learn port.val frame
    let ty := beAt frame 12 2
    let r := if ty = 0x0806 then s.arpReply frame else if ty = 0x0800 then s.echo4 frame
      else if ty = 0x86DD then s.answer6 frame else none
    match r with
    | some b => s.takeFree.sendHost port.val (withFcs b)
    | none => s

/-! ### The steward (R483, R484) -/

/-- STW_WDT_KICK (R483, R485). -/
def stwWdtKick (hap : Bool) (value : Word) (s : State) : State :=
  if !s.domainUp 8 then s.downError pSTW
  else if hap then s.refuse Reg.stwWdt
  else if value = 0x00005A17 then s.wdtStart else s

/-- What is left of the steward watchdog's period, in ns. -/
def State.wdtLeft (s : State) : Nat := if s.host.wdtPaused then s.host.wdtEnd else s.host.wdtEnd - s.opNs

/-- WDT_WARN is raised once less than a quarter of the period is left (STW page). -/
def State.wdtWarn (s : State) : State :=
  if s.domainUp 8 && !s.host.wdtWarned && decide (4 * s.wdtLeft < s.wdtNs) then
    { s with host := { s.host with wdtWarned := true } }.raise pSTW 0
  else s

/-- STEWARD_WATCHDOG_EXPIRY (R483): not while the watchdog is paused. -/
def stewardWatchdogExpiry (s : State) : State :=
  if !s.domainUp 8 || s.host.wdtPaused then s
  else ((s.waitOp s.host.wdtEnd).wdtWarn).assertSource 7 1 false

/-- AUTH_SUMMARY (R484): the counts of 60 s, written only when one is not 0. -/
def authSummary (s : State) : State :=
  if !s.domainUp 8 then s
  else
    let s := s.waitOp (s.host.sumAt + 60000000000)
    let b := s.host.drops.toList.flatMap (toLe 4)
    let t := { s with host := { s.host with drops := Vector.replicate 8 0, sumAt := s.opNs } }
    if s.host.drops.toList.all (fun n => n == 0) then t else t.event 0xE001 pSTW .normal b

/-! ### The commands -/

/-- SWITCH_FRAME_FORWARD (R462). -/
def execSwitchFrameForward (port : Fin 3) (frame : Bytes) (s : State) : Host.Outcome State Fault Refusal := .next (switchFrameForward port frame s)
/-- HOST_LINK_CHANGE (R486). -/
def execHostLinkChange (port : Fin 2) (link : BitVec 2) (s : State) : Host.Outcome State Fault Refusal := .next (hostLinkChange port link s)
/-- PTP_TC_CORRECT (R58). -/
def execPtpTcCorrect (inPort : Fin 2) (ingress egress : BitVec 64) (frame : Bytes) (s : State) : Host.Outcome State Fault Refusal := .next (ptpTcCorrect inPort ingress egress frame s)
/-- PTP_SYNC_RX (R59). -/
def execPtpSyncRx (port : Fin 2) (seqId : BitVec 16) (ts : BitVec 64) (sync : SyncMsg) (utc : BitVec 16) (s : State) :
    Host.Outcome State Fault Refusal := .next (ptpSyncRx port seqId ts sync utc s)
/-- PTP_STATE_CHANGE (R484). -/
def execPtpStateChange (port : Fin 2) (st : PtpState) (clockId : BitVec 64) (s : State) : Host.Outcome State Fault Refusal := .next (ptpStateChange port st clockId s)
/-- HST_TS_POP (R486). -/
def execHstTsPop (s : State) : Host.Outcome State Fault Refusal := .next (hstTsPop s)
/-- ARP_ND_ICMP_RX (R463). -/
def execArpNdIcmpRx (port : Fin 2) (frame : Bytes) (s : State) : Host.Outcome State Fault Refusal := .next (arpNdIcmpRx port frame s)
/-- STW_WDT_KICK (R483). -/
def execStwWdtKick (hap : Bool) (value : Word) (s : State) : Host.Outcome State Fault Refusal := .next (stwWdtKick hap value s)
/-- STEWARD_WATCHDOG_EXPIRY (R483). -/
def execStewardWatchdogExpiry (s : State) : Host.Outcome State Fault Refusal := .next (stewardWatchdogExpiry s)
/-- AUTH_SUMMARY (R484). -/
def execAuthSummary (s : State) : Host.Outcome State Fault Refusal := .next (authSummary s)

end Sys2Proof.Machine
end

