-- ==== Sys2Proof/Machine/Join.lean ====
section
/-! DEFINITION. Joining: the requests and answers, the state transfer on the leader's and the joiner's side (R359 to
R365). -/

namespace Sys2Proof.Machine

/-! ### The leader (R360 to R364) -/

/-- The reason for which a join request waits (R360); 0 for none. -/
def State.joinWait (s : State) : Nat :=
  if s.changeAgreed || s.migr.isSome then 4
  else if s.pair.castle.isSome || s.pair.check.isSome then 5 else 0

/-- The lines of the task images (R361), rising. -/
def Tables.imageLines (t : Tables) : List Nat :=
  t.tasks.foldl (fun l k =>
    let one := fun (l : List Nat) (base len : Nat) => (List.range ((len + 63) / 64)).foldl (fun l i => sins l (base / 64 + i)) l
    one (one l k.inBase k.inLen) k.outBase k.outLen) []

/-- Every unit of the transferred state but the pair tables, in ascending order (R361, R364). -/
def State.allUnits (s : State) : List (Nat × Nat) :=
  match s.boards.act with
  | none => []
  | some t => (List.range ((t.hdr.instLen + 4095) / 4096)).map (fun i => (0, i)) ++ t.imageLines.map (fun l => (1, l))

/-- PAIR_JOIN PHASE and REASON. -/
def State.joinReason (s : State) (phase reason : Nat) : State := (s.joinPhase phase).setFld Reg.pairJoin 23 16 reason

/-- The leader answers the join request that it holds (R360). -/
def State.answerJoin (s : State) : State :=
  let w := s.joinWait
  if w ≠ 0 then (s.sendJoinc 2 w s.rsn).joinReason 2 w
  else
    let id := s.pair.reqId
    let s := s.modPair fun p => { p with reqId := [] }
    if id ≠ s.activeId then (s.sendJoinc 6 1 s.rsn).joinReason 3 1
    else
      let x : XferRun := ⟨s.rsn + 1, 1, s.allUnits, [], 0, 0, 0, false, true⟩
      let s := (s.sendJoinc 3 0 (s.rsn + 1)).modPair fun p => { p with xfer := some x }
      (s.joinPhase 4).setFld Reg.pairJoin 15 8 1

/-- JOINC_REQUEST_RX (R360). -/
def joincRequestRx (lane : Fin 4) (msg : Bytes) (s : State) : State :=
  s.dunlyRx lane 9 msg fun s _ b =>
    if leAt b 0 1 = 1 ∧ s.state = .leader then
      (s.modPair fun p => { p with reqId := slice b 8 48, xfer := none }).answerJoin
    else s

/-- The bytes of a unit (R361, R363). -/
def unitSize (space : Nat) : Nat := if space = 0 then 4096 else 80

/-- The bytes of a list of units. -/
def unitsSize (l : List (Nat × Nat)) : Nat := (l.map (fun u => unitSize u.1)).sum

/-- The dirty units (R361, R364): in the first pass, those that it has still to send do not count. -/
def XferRun.dirtyUnits (x : XferRun) : List (Nat × Nat) := if x.pass = 1 then x.dirty else x.todo ++ x.dirty

/-- The station entries of the pair table unit (R363). -/
def State.stationTable (s : State) : Bytes :=
  ((List.range 4096).map (fun k => toLe 4 (s.stnState k + s.fld (Reg.bank k Reg.mbsStn) 5 2 * 4
    + min 15 (tget 0 s.net.back k) * 64))).flatten

/-- The pair tables are sent (R361, R363), in pieces of 4,096 bytes (assumption 14). -/
def State.sendTables (s : State) : State :=
  let b := s.stationTable
  let s := (List.range 4).foldl (fun s i => s.sendUnit 2 (4096 * i) false (slice b (4096 * i) 4096)) s
  s.sendUnit 2 16384 false (s.net.grants.map Grant.bytes).flatten

/-- The bytes of the pair tables. -/
def State.tablesSize (s : State) : Nat := 16384 + 16 * s.net.grants.length

/-- The passes of one round (R364): units are sent while the budget `left` lasts; a pass that ends is followed by the
next without a gap. `n` bounds the number of units. -/
def State.sendPasses (s : State) : Nat → Nat → State
  | 0, _ => s
  | n + 1, left =>
    match s.pair.xfer with
    | none => s
    | some x =>
      match x.todo with
      | [] =>
        if x.dirty = [] then s
        else
          let x := { x with pass := x.pass + 1, todo := sortBy (fun a b => decide (a.1 < b.1 ∨ (a.1 = b.1 ∧ a.2 ≤ b.2))) x.dirty, dirty := [] }
          ((s.modPair fun p => { p with xfer := some x }).setFld Reg.pairJoin 15 8 (min 0xFF x.pass)).sendPasses n left
      | u :: r =>
        let body := s.unitBytes u.1 u.2
        if left < body.length then s
        else
          let s := (s.sendUnit u.1 (unitOfs u.1 u.2) false body).modPair fun p => { p with xfer := some { x with todo := r } }
          s.sendPasses n (left - body.length)

/-- The first pass has ended (R364). -/
def XferRun.firstDone (x : XferRun) : Bool := decide (2 ≤ x.pass) || x.todo.isEmpty

/-- The transfer work of an ordinary round: the pair tables, then the passes (R363, R364). -/
def State.xferWork (s : State) : State := (s.sendTables).sendPasses 40000 (s.budget - s.tablesSize)

/-- The present round is the last of a turn (R364). -/
def State.lastRound (s : State) : Bool := (s.rsn.toNat + 1) % s.turnLen == 0

/-- The transfer at the beginning of a round (R364): the closing round is over, or the round's work is done; the work of
a round with a closing test waits for the test. -/
def State.xferRound (s : State) : State :=
  match s.pair.xfer with
  | none => if s.state = .leader ∧ s.pair.reqId ≠ [] ∧ s.joinWait = 0 then s.answerJoin else s
  | some x =>
    if later x.start s.rsn then s
    else if x.closing then
      let s := (s.sendJoinc 5 0 s.rsn).modPair fun p => { p with xfer := none }
      (s.joinPhase 6).raise pPAIR 3
    else
      let test := x.firstDone && s.lastRound
      let s := s.modPair fun p => { p with xfer := some { x with last := x.wrote, wrote := 0, tested := !test } }
      if test then s else s.xferWork

/-- JOIN_CLOSING_TEST (R364): in the last round of a turn, after its ROUND_BOUNDARY. The pair tables count among the bytes
that the closing round sends. -/
def joinClosingTest (s : State) : State :=
  match s.pair.xfer with
  | none => s
  | some x =>
    if x.tested || !s.lastRound then s
    else
      let d := x.dirtyUnits
      if unitsSize d + x.last ≤ s.budget then
        let s := (s.sendJoinc 4 0 s.rsn).joinPhase 5
        let s := d.foldl (fun s u => s.sendUnit u.1 (unitOfs u.1 u.2) false (s.unitBytes u.1 u.2)) s.sendTables
        let y := { x with todo := [], dirty := [], sent := unitsSize d + s.tablesSize, closing := true, tested := true }
        let s := s.modPair fun p => { p with xfer := some y }
        if s.budget < y.sent then s.closingOverrun y else s
      else (s.modPair fun p => { p with xfer := some { x with tested := true } }).xferWork

/-! ### The joiner (R360, R363 to R365) -/

/-- The joiner has heard of the transfer (R365). -/
def State.xferHeard (s : State) : State := s.modPair fun p => { p with xferAt := s.opNs }

/-- A JOINC message reaches a JOINING module. -/
def State.joincRx (s : State) (lane : Fin 4) (op : Nat) (msg : Bytes) (f : State → Nat → State) : State :=
  s.dunlyRx lane 9 msg fun s _ b =>
    if leAt b 0 1 = op ∧ s.state = .joining then f s.xferHeard (leAt b 1 1) else s

/-- JOINC_WAIT_RX (R360). -/
def joincWaitRx (lane : Fin 4) (msg : Bytes) (s : State) : State :=
  s.joincRx lane 2 msg fun s reason => s.joinReason 2 reason

/-- JOINC_START_RX (R334, R360). -/
def joincStartRx (lane : Fin 4) (msg : Bytes) (s : State) : State :=
  s.joincRx lane 3 msg fun s _ =>
    let s := s.modPair fun p => { p with joinLand := if p.joinLand = 2 then 2 else 1, joinDone := false }
    ((s.joinPhase 4).setFld Reg.pairJoin 15 8 1).seqStart

/-- JOINC_CLOSE_RX (R364). -/
def joincCloseRx (lane : Fin 4) (msg : Bytes) (s : State) : State :=
  s.joincRx lane 4 msg fun s _ => s.joinPhase 5

/-- The transfer has been completed (R364): both send DONE. -/
def State.joinCompleted (s : State) : State :=
  let s := (s.sendJoinc 5 0 s.rsn).modPair fun p => { p with joinDone := true }
  (s.joinPhase 6).raise pPAIR 3

/-- JOINC_DONE_RX (R364). -/
def joincDoneRx (lane : Fin 4) (msg : Bytes) (s : State) : State :=
  s.joincRx lane 5 msg fun s _ => if s.pair.joinDone then s else s.joinCompleted

/-- JOINC_ABORT_RX (R364): the closing round overran; the passes continue. -/
def joincAbortRx (lane : Fin 4) (msg : Bytes) (s : State) : State :=
  s.joincRx lane 6 msg fun s reason => if reason = 1 then s else (s.abandonJoin reason).joinPhase 4

/-- JOINC_REFUSE_RX (R27, R360): a refusal is an ABORT with reason 1. -/
def joincRefuseRx (lane : Fin 4) (msg : Bytes) (s : State) : State :=
  s.joincRx lane 6 msg fun s reason =>
    if reason ≠ 1 then s
    else
      let s := (s.joinReason 3 1).logErr pPAIR 0x0104 1
      if s.pair.episode then s
      else (s.recErr pPAIR 0x0104 1 .normal []).modPair fun p => { p with episode := true }

/-- A station entry of the pair tables is taken (R363). -/
def State.takeStation (s : State) (k : Nat) (w : Word) : State :=
  let st := bits w 1 0
  let s := if s.tracked k then
      (s.setFld (Reg.bank k Reg.mbsStn) 1 0 st).setFld (Reg.bank k Reg.mbsStn) 5 2 (bits w 5 2)
    else s
  s.modNet fun n => { n with
    back := if st = 3 ∧ bits w 9 6 ≠ 0 then tput n.back k (bits w 9 6) else n.back.filter (fun x => x.1 != k) }

/-- An image line unit is applied (R363): values, quality codes, written marks. -/
def State.takeImage (s : State) (ofs : Nat) (b : Bytes) : State :=
  (List.range 16).foldl (fun s i =>
    let a := ofs + 4 * i
    let q := BitVec.ofNat 4 (leAt b (64 + i / 2) 1 / 16 ^ (i % 2))
    let s := s.imemSet a (bytesWord (slice b (4 * i) 4)) q
    { s with written := if (leAt b 72 2).testBit i then sins s.written (a / 4) else sdel s.written (a / 4) }) s

/-- One unit is applied over any value held (R364). -/
def State.takeUnit (s : State) (space ofs : Nat) (b : Bytes) : State :=
  if space = 0 then
    if ofs + b.length ≤ s.instLen then (s.migrateRange (s.store + ofs) b.length).writeMem (s.store + ofs) b else s
  else if space = 1 then (if b.length = 80 ∧ s.imageLine (ofs / 64) then s.takeImage (ofs / 64 * 64) b else s)
  else if ofs < 16384 then
    (List.range (b.length / 4)).foldl (fun s i => s.takeStation (ofs / 4 + i) (bytesWord (slice b (4 * i) 4))) s
  else s.modNet fun n => { n with
    grants := (List.range (b.length / 16)).foldl (fun l i => putGrant (parseGrant (slice b (16 * i) 16)) l) [] }

/-- The units of an XFER payload, in order; `n` bounds their number. -/
def State.takeUnits (s : State) : Nat → Bytes → State
  | 0, _ => s
  | n + 1, b =>
    if b.length < 8 then s
    else
      let len := leAt b 2 2
      (s.takeUnit (leAt b 0 1) (leAt b 4 4) (slice b 8 len)).takeUnits n (b.drop (8 + len))

/-- XFER_RX (R363). -/
def xferRx (lane : Fin 4) (msg : Bytes) (s : State) : State :=
  s.dunlyRx lane 12 msg fun s _ b =>
    if s.state = .joining ∧ (s.fld Reg.pairJoin 2 0 = 4 ∨ s.fld Reg.pairJoin 2 0 = 5) then s.xferHeard.takeUnits (b.length / 8) b else s

/-- JOINER_TO_FOLLOWER (R364): at the turn boundary after the closing round. -/
def joinerToFollower (s : State) : State :=
  let t := s.atBoundary
  if s.state = .joining ∧ (s.pair.joinDone ∨ s.fld Reg.pairJoin 2 0 = 5) ∧ t.rsn.toNat % t.turnLen = 0 then
    let t := if t.pair.joinDone then t else t.joinCompleted
    (t.toState .follower).modPair fun p => { p with joinDone := false, joinLand := 0 }
  else s

/-- JOIN_TRANSFER_SILENCE (R365): 2 ms after the last XFER or JOINC message. -/
def joinTransferSilence (s : State) : State :=
  if s.state = .joining ∧ (s.fld Reg.pairJoin 2 0 = 4 ∨ s.fld Reg.pairJoin 2 0 = 5) then
    let s := (s.waitOp (s.pair.xferAt + 2000000)).abandonJoin 3
    if s.linkUp then (s.sendJoinc 1 0 s.rsn).joinPhase 1 else s
  else s

/-- JOINC_REQUEST_RX (R360). -/
def execJoincRequestRx (lane : Fin 4) (msg : Bytes) (s : State) : Host.Outcome State Fault Refusal := .next (joincRequestRx lane msg s)
/-- JOINC_WAIT_RX (R360). -/
def execJoincWaitRx (lane : Fin 4) (msg : Bytes) (s : State) : Host.Outcome State Fault Refusal := .next (joincWaitRx lane msg s)
/-- JOINC_START_RX (R360). -/
def execJoincStartRx (lane : Fin 4) (msg : Bytes) (s : State) : Host.Outcome State Fault Refusal := .next (joincStartRx lane msg s)
/-- JOINC_CLOSE_RX (R364). -/
def execJoincCloseRx (lane : Fin 4) (msg : Bytes) (s : State) : Host.Outcome State Fault Refusal := .next (joincCloseRx lane msg s)
/-- JOINC_DONE_RX (R364). -/
def execJoincDoneRx (lane : Fin 4) (msg : Bytes) (s : State) : Host.Outcome State Fault Refusal := .next (joincDoneRx lane msg s)
/-- JOINC_ABORT_RX (R364). -/
def execJoincAbortRx (lane : Fin 4) (msg : Bytes) (s : State) : Host.Outcome State Fault Refusal := .next (joincAbortRx lane msg s)
/-- JOINC_REFUSE_RX (R360). -/
def execJoincRefuseRx (lane : Fin 4) (msg : Bytes) (s : State) : Host.Outcome State Fault Refusal := .next (joincRefuseRx lane msg s)
/-- XFER_RX (R363). -/
def execXferRx (lane : Fin 4) (msg : Bytes) (s : State) : Host.Outcome State Fault Refusal := .next (xferRx lane msg s)
/-- JOIN_CLOSING_TEST (R364). -/
def execJoinClosingTest (s : State) : Host.Outcome State Fault Refusal := .next (joinClosingTest s)
/-- JOINER_TO_FOLLOWER (R364). -/
def execJoinerToFollower (s : State) : Host.Outcome State Fault Refusal := .next (joinerToFollower s)
/-- JOIN_TRANSFER_SILENCE (R365). -/
def execJoinTransferSilence (s : State) : Host.Outcome State Fault Refusal := .next (joinTransferSilence s)

end Sys2Proof.Machine
end

