-- ==== Sys2Proof/Machine/Views.lean ====
section
/-! DEFINITION. The value a register read returns, without side effects (R9 to R13, R538, R540): the registers of the
network, pair, host and field pages that are computed, and the read itself. -/

namespace Sys2Proof.Machine

/-! ### Registers that are computed (chapters 10 to 19) -/

/-- The grant that MBG_GSEL shows (R328). -/
def State.shownGrant (s : State) : Option Grant := s.net.grants[s.fld Reg.mbgGsel 7 0]?

/-- MBS_INFO [5:0] of slot `k`: SKIND, OWN, GRANTED. -/
def State.slotInfo (s : State) (k : Nat) : Nat :=
  match s.slotRec k with
  | some r => r.skind + 16 * b2n (s.ownSlot r) + 32 * b2n (r.skind == 4 && (s.grantOf k).isSome)
  | none => 0xF

/-- The registers of the network pages. -/
def viewNet (s : State) (k : Nat) : Option Word :=
  let p := k / 0x1000 % 0x100
  let ofs := k % 0x1000
  if (p = pMB 0 ∨ p = pMB 1) ∧ 0x040 ≤ ofs ∧ ofs < 0x050 then
    some ((s.reg k &&& 0xFFFF0003) ||| BitVec.ofNat 32 (min 15 (s.portHour (p - 0x60) ((ofs - 0x040) / 4)) * 16))
  else if k = Reg.mbgGcnt then
    some ((s.reg k &&& 0xFFFF0000) ||| BitVec.ofNat 32 s.net.grants.length)
  else if k = Reg.mbgGnode then
    some (match s.shownGrant with
      | some g => BitVec.ofNat 32 (g.node % 2 ^ 18 + g.port % 4 * 2 ^ 24 + b2n g.mapped * 2 ^ 26 + 2 ^ 31)
      | none => 0)
  else if k = Reg.mbgGslot then
    some (match s.shownGrant with | some g => BitVec.ofNat 32 (g.slot + g.payload * 2 ^ 16) | none => 0)
  else if k = Reg.mbgGrsn then some (match s.shownGrant with | some g => g.eff | none => 0)
  else if p = pMBS ∧ ofs = 0x044 then
    some ((s.reg k &&& 0xFFFF03C0) ||| BitVec.ofNat 32 (s.slotInfo (k / 0x100000)))
  else if p = pMBS ∧ ofs = 0x068 then
    some ((s.reg k &&& 0xFFFF003C) ||| BitVec.ofNat 32 (s.stnState (k / 0x100000)))
  else if k = Reg.mbsLost then some ((s.reg k &&& 0xFFFF0000) ||| BitVec.ofNat 32 s.lostNow)
  else none

/-- The health block that PAIR_HLT_SEL PARTNER picks. -/
def State.shownBlock (s : State) : Bytes := if bit (s.reg Reg.pairHltSel) 6 then s.pair.partner else s.pair.own

/-- The own line is live: its last two falling edges lay 80 to 120 µs apart, the last less than 150 µs ago (R351). -/
def State.ownLive (s : State) : Bool :=
  match s.ownFall with
  | a :: b :: _ => decide (80000 ≤ a - b ∧ a - b ≤ 120000 ∧ s.opNs < a + 150000)
  | _ => false

/-- The armed latch has enabled the driver: the partner's line has been low for 200 µs of round C (R356). -/
def State.latchOn (s : State) : Bool :=
  match s.pair.castle with
  | some x => s.state == .follower && bit (s.reg Reg.ilkStat) 3 && !s.partnerLive && s.rsn == x.c && decide (4000 ≤ s.pipInRound)
  | none => false

/-- The registers of the PAIR, ILK and HLT pages. -/
def viewPair (s : State) (k : Nat) : Option Word :=
  if k = Reg.pairState then some s.pairState
  else if k = Reg.pairDirty then
    some (match s.pair.xfer with | some x => BitVec.ofNat 32 (min 0xFFFFFFFF (unitsSize x.dirtyUnits)) | none => 0)
  else if k = Reg.pairHlt then some (bytesWord (slice s.shownBlock (4 * s.fld Reg.pairHltSel 5 0) 4))
  else if k = Reg.ilkStat then
    let ms := if s.partnerLive then 0 else min 0xFFFF ((s.opNs - s.lineDead) / 1000000)
    some ((s.reg k &&& 0xD) ||| BitVec.ofNat 32 (b2n s.latchOn + 2 * b2n s.ownLive + ms * 2 ^ 16))
  else if k % 0x100000 = Reg.hltPos then
    let n : Fin 16 := Fin.ofNat 16 (k / 0x100000)
    some ((s.reg k &&& 0xFFFF0000) ||| BitVec.ofNat 32 (s.testPos n + 256 * b2n (decide (0 < s.lanes[n].rolls))))
  else none

/-- The oldest timestamp of the host ports. -/
def State.stampWord (s : State) (i : Nat) : Word :=
  match s.host.stamps with
  | [] => 0
  | x :: _ =>
    if i = 0 then BitVec.ofNat 32 (x.seqId.toNat + x.msg.toNat * 2 ^ 16 + x.port.val * 2 ^ 20 + b2n x.tx * 2 ^ 21)
    else if i = 1 then x.ts.setWidth 32
    else x.ts.extractLsb' 32 32

/-- HST_TS_STAT COUNT: the entries queued at the port of the oldest entry. -/
def State.stampCount (s : State) : Nat :=
  match s.host.stamps with
  | [] => 0
  | x :: _ => (s.host.stamps.filter (fun y => y.port == x.port)).length

/-- The number of UPD_STATE STATE (R461). -/
def UpdState.code : UpdState → Nat
  | .idle => 0 | .busy => 1 | .pending => 2 | .serialising => 3 | .starting => 4 | .trial => 5 | .fallback => 6

/-- The number of a bank state in UPD_STATE (R461). -/
def BankState.code : BankState → Nat
  | .empty => 0 | .staged => 1 | .trial => 2 | .confirmed => 3 | .previous => 4 | .failed => 5

/-- The registers of the host pages. -/
def viewHost (s : State) (k : Nat) : Option Word :=
  if k = Reg.stwStat then
    some (BitVec.ofNat 32 (min 0x3FFF (s.wdtLeft / 1000000) + b2n s.host.wdtPaused * 2 ^ 14))
  else if k = Reg.hstMacLo then some (BitVec.ofNat 32 (beAt s.hostMac 2 4))
  else if k = Reg.hstMacHi then some (BitVec.ofNat 32 (beAt s.hostMac 0 2))
  else if k = Reg.hstTsStat then some ((s.reg k &&& 0xFFFF0000) ||| BitVec.ofNat 32 s.stampCount)
  else if k = Reg.hstTsW0 then some (s.stampWord 0)
  else if k = Reg.hstTsW1 then some (s.stampWord 1)
  else if k = Reg.hstTsW2 then some (s.stampWord 2)
  else if k = Reg.hapCtrLo then some (s.hapHigh.setWidth 32)
  else if k = Reg.hapArm then
    let w := s.reg k &&& 0x77
    some (if bit w 0 then w ||| BitVec.ofNat 32 (min 0x3FF ((s.host.armEnd - s.opNs) / 1000000) * 2 ^ 16) else 0)
  else if k = Reg.updState then
    some (BitVec.ofNat 32 (s.upd.state.code + b2n s.upd.runB * 8 + s.upd.bankA.code * 16 + s.upd.bankB.code * 256))
  else if k = Reg.updTrial then
    some (BitVec.ofNat 32 (if s.upd.state == .trial then s.upd.deadline.toNat - s.opTime.toNat else 0))
  else none

/-- The head entry of the receive queue that CAN_RX_SEL selects on channel `c` (R494). -/
def State.rxHead (s : State) (c : Fin 2) : Option CanRx :=
  if bit (s.reg (Reg.canRxSel c)) 0 then s.can[c].q1.head? else s.can[c].q0.head?

/-- The registers of a CAN page. -/
def viewCan (s : State) (c : Fin 2) (k : Nat) : Option Word :=
  let ofs := k % 0x1000
  if ofs = 0x064 then some (BitVec.ofNat 32 (s.can[c].q0.length + s.can[c].q1.length * 256))
  else if ofs = 0x070 then some (match s.rxHead c with | some e => e.hdr0 | none => 0)
  else if ofs = 0x074 then some (match s.rxHead c with | some e => e.hdr1 | none => 0)
  else if 0x080 ≤ ofs ∧ ofs ≤ 0x0BC then
    some (match s.rxHead c with | some e => bytesWord (slice (e.data ++ zeros 64) (ofs - 0x080) 4) | none => 0)
  else if 0x0C4 ≤ ofs ∧ ofs ≤ 0x108 ∧ 3 ≤ k / 0x100000 then some 0
  else if ofs = 0x118 then
    let n := (s.can[c].hist.filter (fun h => decide (s.opTime.toNat ≤ h + 3600000))).length
    some ((s.reg k &&& 0x1FFFF) ||| BitVec.ofNat 32 (min 3 n * 2 ^ 17))
  else none

/-- The registers of the SYS, LOOP and DBG pages. -/
def viewSys (s : State) (k : Nat) : Option Word :=
  let b := k / 0x100000
  if k % 0x100000 = Reg.sysOptData ∧ b < 32 then some (BitVec.ofNat 32 (leAt s.option (4 * b) 4))
  else if k % 0x100000 = Reg.sysFuseData ∧ b < 8 then some (s.boot.fuse.extractLsb' (32 * b) 32)
  else if k = Reg.loopTest then
    some (if s.fld k 15 0 = 0 then 0 else BitVec.ofNat 32 (min 0xFFFF ((s.fio.testEnd - s.opNs + 999999) / 1000000)))
  else if k = Reg.dbgStat then
    some ((s.reg k &&& 0xFFFF0001) ||| BitVec.ofNat 32 (2 * b2n s.svcKey
      + 4 * b2n s.extestDrives))
  else if k = Reg.dbgIdcode then some s.jtag.ident
  else none

/-! ### Reading -/

/-- Interrupt sources that are levels and not events: the clocks that are not good, the timestamp queue and the receive
queues that are not empty (the interrupt bits of CLK, HST and CAN). -/
def irqLevels (s : State) (p : Nat) : Word :=
  if p = pCLK then ~~~(s.reg Reg.clkGood) &&& 0x3FFFF
  else if p = pHST then BitVec.ofNat 32 (2 * b2n (!s.host.stamps.isEmpty))
  else if h : p = pCAN 0 ∨ p = pCAN 1 then
    let c := s.can[p - 0x78]'(by rcases h with rfl | rfl <;> decide)
    BitVec.ofNat 32 (b2n (!c.q0.isEmpty) + 2 * b2n (!c.q1.isEmpty))
  else 0

/-- The value of the header register at `ofs` of page `p` (R13). -/
def readHeader (s : State) (p ofs : Nat) : Word :=
  if ofs = 0x000 then pgId p
  else if ofs = 0x004 then s.reg (Reg.pgCtrl p) &&& 1
  else if ofs = 0x008 then pgStatus s p
  else if ofs = 0x00C then irqLevels s p
  else if ofs = 0x010 ∨ ofs = 0x014 ∨ ofs = 0x018 ∨ ofs = 0x01C ∨ ofs = 0x020 then
    s.reg (p * 0x1000 + ofs)
  else 0

/-- The first value given. -/
def orElseW : Option Word → (Unit → Option Word) → Option Word
  | some v, _ => some v
  | none, f => f ()

/-- The value of a register computed from the state, if it is one. -/
def viewReg (s : State) (k : Nat) : Option Word :=
  let p := k / 0x1000 % 0x100
  orElseW (viewSeq s k) fun _ => orElseW (viewLane s k) fun _ =>
  orElseW (viewMem s k) fun _ => orElseW (viewBrd s k) fun _ => orElseW (viewAon s k) fun _ =>
  orElseW (viewNet s k) fun _ => orElseW (viewPair s k) fun _ => orElseW (viewHost s k) fun _ =>
  orElseW (viewSys s k) fun _ => if p = pCAN 0 ∨ p = pCAN 1 then viewCan s (Fin.ofNat 2 p) k else none

/-- The register specification at `ofs` of page `p`, if a register table lists that offset (R540). -/
def regSpec (p ofs : Nat) : Option RegSpec :=
  match pageClass p with
  | none => none
  | some c =>
    if p = pMB 1 ∧ 0x080 ≤ ofs then none   -- MB_NET_CFG and MB_COLD are registers of MBA alone
    else c.regs.find? (fun r => r.ofs == ofs)

/-- The value a read of the register at `ofs` of page `p` returns, without side effects; 0 at a
reserved offset (R540). -/
def readReg (s : State) (p ofs : Nat) : Word :=
  if ofs < 0x040 then (if (pageClass p).isSome then readHeader s p ofs else 0)
  else
    match regSpec p ofs with
    | none => 0
    | some r =>
      let k := s.keyOf p ofs
      match viewReg s k with
      | some v => v
      | none => s.reg k &&& r.rd

end Sys2Proof.Machine
end

