-- ==== Sys2Proof/Machine/Jtag.lean ====
section
/-! DEFINITION. The JTAG service pins and the DBG page (R533, R534, R539). -/

namespace Sys2Proof.Machine

/-- The test access port is out of Test-Logic-Reset and AON is released: an instruction can be loaded. -/
def State.tapActive (s : State) : Bool := s.domainUp 0 && bit (s.reg Reg.dbgStat) 0

/-- An instruction is loaded by its code. -/
def State.tapLoad (s : State) (code : Nat) : State := { s with jtag := { s.jtag with code := code } }

/-- EXTEST is carried out (R533): SEQ is in reset and the service key input is active. -/
def State.mayExtest (s : State) : Bool := !bit (s.reg Reg.rstDom) 2 && s.svcKey

/-- The instruction codes that select BYPASS: 0x3F and every one that R533 does not list. -/
def selectsBypass (code : BitVec 6) : Bool :=
  code != 0x00 && code != 0x01 && code != 0x02 && code != 0x10

/-- The boundary register takes the levels of the pins. -/
def State.boundary (s : State) (code : Nat) (pins : Bytes) : State :=
  let s := s.tapLoad code
  { s with jtag := { s.jtag with boundary := pins } }

/-- JTAG_EXTEST (R533): drives the pins, or acts as SAMPLE/PRELOAD until SEQ is in reset and the key input active. -/
def jtagExtest (pins : Bytes) (s : State) : State :=
  if !s.tapActive then s
  else
    let t := s.boundary 0x00 pins
    if s.mayExtest then t.send (.pins pins) else t

/-- JTAG_SAMPLE_PRELOAD (R533). -/
def jtagSamplePreload (pins : Bytes) (s : State) : State := if !s.tapActive then s else s.boundary 0x01 pins

/-- JTAG_IDCODE (R533): the data register captures the identity. -/
def jtagIdcode (s : State) : State :=
  if !s.tapActive then s
  else
    let s := s.tapLoad 0x02
    { s with jtag := { s.jtag with data := s.jtag.ident.setWidth 52 } }

/-- The register at an address of the page area, as REGREAD sees it: 0 for a page whose domain is not released
(R534). -/
def State.jtagValue (s : State) (addr : BitVec 20) : Word :=
  let p := addr.toNat / 0x1000
  if (pageClass p).isSome && s.domainUp (pageDomain p) then readReg s p (addr.toNat % 0x1000) else 0

/-- JTAG_REGREAD (R534): no side effects, refused while DBG_CTRL JTAG_READ is 0. -/
def jtagRegread (addr : BitVec 20) (s : State) : State :=
  if !s.tapActive then s
  else
    let s := s.tapLoad 0x10
    if bit (s.reg Reg.dbgCtrl) 0 then
      let v := s.jtagValue addr
      let s := s.incWrap Reg.dbgReads 15 0
      { s with jtag := { s.jtag with data := BitVec.ofNat 52 (addr.toNat + v.toNat * 2 ^ 20) } }
    else
      let s := (s.incSat Reg.dbgReads 31 16).logErr pDBG 0x0101 (addr.setWidth 32)
      { s with jtag := { s.jtag with data := addr.setWidth 52 } }

/-- JTAG_BYPASS (R533): a code that selects BYPASS is loaded, and the bit shifted in stands in the bypass register. -/
def jtagBypass (x : Bypass) (s : State) : State :=
  if !s.tapActive || !selectsBypass x.code then s
  else
    let s := s.tapLoad x.code.toNat
    { s with jtag := { s.jtag with bypass := x.bit } }

/-- JTAG_ACT (R539): the port leaves Test-Logic-Reset, or returns to it, where IDCODE is the instruction. -/
def jtagAct (leave : Bool) (s : State) : State :=
  if !s.domainUp 0 || bit (s.reg Reg.dbgStat) 0 == leave then s
  else if leave then
    ((s.setFld Reg.dbgStat 0 0 1).incSat Reg.dbgStat 31 16).raise pDBG 0
  else (s.tapLoad 0x02).setFld Reg.dbgStat 0 0 0

/-- JTAG_EXTEST (R533). -/
def execJtagExtest (pins : Bytes) (s : State) : Host.Outcome State Fault Refusal := .next (jtagExtest pins s)
/-- JTAG_SAMPLE_PRELOAD (R533). -/
def execJtagSamplePreload (pins : Bytes) (s : State) : Host.Outcome State Fault Refusal := .next (jtagSamplePreload pins s)
/-- JTAG_IDCODE (R533). -/
def execJtagIdcode (s : State) : Host.Outcome State Fault Refusal := .next (jtagIdcode s)
/-- JTAG_REGREAD (R534). -/
def execJtagRegread (addr : BitVec 20) (s : State) : Host.Outcome State Fault Refusal := .next (jtagRegread addr s)
/-- JTAG_BYPASS (R533). -/
def execJtagBypass (x : Bypass) (s : State) : Host.Outcome State Fault Refusal := .next (jtagBypass x s)
/-- JTAG_ACT (R539). -/
def execJtagAct (leave : Bool) (s : State) : Host.Outcome State Fault Refusal := .next (jtagAct leave s)

end Sys2Proof.Machine
end

