-- ==== Sys2Proof/Machine/LaneBodies.lean ====
section
/-! DEFINITION. What each instruction of the lane instruction set does on a core (R151 to R169), and
the decoding of an instruction word that a stepped lane fetches (R196). A body takes the state and the
core before the instruction; checks are made in the order of R165. -/

namespace Sys2Proof.Machine

/-- The body of an instruction: the state and the core before it give the state after it and what the
core has become. -/
abbrev Body := State → Core → State × CoreRes

/-- A result on the core alone: the state is untouched. -/
def pureBody (f : Core → CoreRes) : Body := fun s c => (s, f c)

/-- `rd ← f ra rb`, latency 1 (R153). -/
def aluT (f : Word → Word → Word) (rd ra rb : BitVec 5) : Body :=
  pureBody fun c => .write c rd (f (c.get ra) (c.get rb)) 1

/-- `rd ← f ra rb` clamped, SAT on a clamp (R153, R155, R162). -/
def satT (lat : Nat) (f : Word → Word → Word × Bool) (rd ra rb : BitVec 5) : Body :=
  pureBody fun c => .writeSat c rd (f (c.get ra) (c.get rb)) lat

/-- `rd ← f ra imm`, latency 1 (R154). -/
def aluK (f : Word → BitVec 16 → Word) (rd ra : BitVec 5) (imm : BitVec 16) : Body :=
  pureBody fun c => .write c rd (f (c.get ra) imm) 1

/-- The truth value of a comparison as a word. -/
def cmpWord (b : Bool) : Word := BitVec.ofNat 32 (b2n b)

/-- A 64-bit product to the pair rd+1:rd (R152, R155). -/
def mulPair (f : Word → Word → Int) (rd ra rb : BitVec 5) : Body :=
  pureBody fun c =>
    if pairOk rd then .done (c.putPair rd (BitVec.ofInt 64 (f (c.get ra) (c.get rb)))).seq 3 else .valueRule

/-- A division: DIVZERO for a zero divisor, latency 34 (R155). -/
def divT (f : Word → Word → Word × Bool) (rd ra rb : BitVec 5) : Body :=
  pureBody fun c => if c.get rb = 0 then .divZero else .writeSat c rd (f (c.get ra) (c.get rb)) 34

/-- A binary floating-point operation (R156, R157). -/
def fltT (lat : Nat) (f : Word → Word → FRes) (rd ra rb : BitVec 5) : Body :=
  pureBody fun c => .writeF c rd (f (c.get ra) (c.get rb)) lat

/-- A unary floating-point operation; rb must be 0 (R156). -/
def fltU (lat : Nat) (f : Word → FRes) (rd ra rb : BitVec 5) : Body :=
  pureBody fun c => if rb = 0 then .writeF c rd (f (c.get ra)) lat else .mustBe0

/-- The value of the register at a register window address: 0 at a reserved page or offset or in a
domain that is down (R147). -/
def State.windowWord (s : State) (a : Nat) : Word :=
  let p := (a - 0xF0000000) / 0x1000
  if (pageClass p).isSome && s.domainUp (pageDomain p) then readReg s p (a % 0x1000) else 0

/-- The word of `size` bytes at lane address `a`, as the lane sees it. -/
def State.loadValue (s : State) (n : Fin 16) (a size : Nat) : Nat :=
  if laneRange a = .regs then (s.windowWord a).toNat else leNat (s.plyBytes n a size)

/-- A load: ea, alignment, protection, the memory word, in the order of R165 (R158, R168, R204). -/
def loadBody (n : Fin 16) (size : Nat) (signed : Bool) (rd ra : BitVec 5) (imm : BitVec 16) : Body := fun s c =>
  let ea := c.get ra + sext16 imm
  let a := ea.toNat
  if a % size ≠ 0 then (s, .trap 1 1 ea)
  else match s.loadProt n a size false with
    | some d => (s, .trap 2 d ea)
    | none =>
      if s.loadPoisoned n a then (s, .ecc ea)
      else
        let v := s.loadValue n a size
        let w := if signed && decide (2 ^ (8 * size - 1) ≤ v) then BitVec.ofInt 32 ((v : Int) - 2 ^ (8 * size))
          else BitVec.ofNat 32 v
        (s.noteRead n a, .write c rd w (loadLat (laneRange a)))

/-- QLD: the quality code of an IMEM word, merged into QA (R158, R163). -/
def qldBody (n : Fin 16) (rd ra : BitVec 5) (imm : BitVec 16) : Body := fun s c =>
  let ea := c.get ra + sext16 imm
  let a := ea.toNat
  if a % 4 ≠ 0 then (s, .trap 1 1 ea)
  else match s.loadProt n a 4 true with
    | some d => (s, .trap 2 d ea)
    | none =>
      if s.loadPoisoned n a then (s, .ecc ea)
      else
        let q := s.plyImemQual n (a - 0x10000000)
        (s.noteRead n a, .write { c with qa := qaMerge c.qa q } rd (q.setWidth 32) 4)

/-- A store: ea, alignment, protection, then the bytes into the write log or, for a job, into memory
(R148, R158, R171). An IMEM word takes QA[3:0] as its quality. -/
def storeBody (n : Fin 16) (size : Nat) (rs ra : BitVec 5) (imm : BitVec 16) : Body := fun s c =>
  let ea := c.get ra + sext16 imm
  let a := ea.toNat
  if a % size ≠ 0 then (s, .trap 1 1 ea)
  else match s.storeProt n a (size != 4) false with
    | some d => (s, .trap 2 d ea)
    | none =>
      let v := c.get rs
      let s := if laneRange a = .imem then s.storeImem n a (some v) (qaQual c.qa)
        else s.storeDtcm n a ((wordBytes v).take size)
      (s, .done c.seq 1)

/-- STQ: the quality of an IMEM word alone (R158). -/
def stqBody (n : Fin 16) (rs ra : BitVec 5) (imm : BitVec 16) : Body := fun s c =>
  let ea := c.get ra + sext16 imm
  let a := ea.toNat
  if a % 4 ≠ 0 then (s, .trap 1 1 ea)
  else match s.storeProt n a false true with
    | some d => (s, .trap 2 d ea)
    | none => (s.storeImem n a none ((c.get rs).setWidth 4), .done c.seq 1)

/-- A bit field operation; the 0 field and pos + w are checked first (R151, R160). -/
def fieldBody (f : Word → Word → Nat → Nat → Word) (rd ra pos wm1 : BitVec 5) (zero : BitVec 6) : Body :=
  pureBody fun c =>
    if zero ≠ 0 then .mustBe0
    else if 32 < pos.toNat + wm1.toNat + 1 then .valueRule
    else .write c rd (f (c.get rd) (c.get ra) pos.toNat (wm1.toNat + 1)) 1

/-- JC (R159). -/
def jcBody (cond : BitVec 4) (ra rb : BitVec 5) (off : BitVec 12) : Body :=
  pureBody fun c =>
    if 6 ≤ cond.toNat ∧ cond.toNat ≤ 9 ∧ rb ≠ 0 then .mustBe0
    else match jcHolds cond (c.get ra) (c.get rb) with
      | none => .valueRule
      | some true => .done (c.jump (c.pc + 4 + off.signExtend 32 * 4)) 2
      | some false => .done c.seq 1

/-- CALL (R159). -/
def callBody (rd : BitVec 5) (off : BitVec 21) : Body :=
  pureBody fun c => .done ((c.put rd (c.pc + 4)).jump (c.pc + 4 + off.signExtend 32 * 4)) 2

/-- CALLR (R159). -/
def callrBody (rd ra : BitVec 5) (imm : BitVec 16) : Body :=
  pureBody fun c =>
    let t := c.get ra + sext16 imm
    if t.toNat % 4 ≠ 0 then .trap 1 2 t
    else .done ((c.put rd (c.pc + 4)).jump t) 2

/-- SHK (R154). -/
def shkBody (rd ra : BitVec 5) (imm : BitVec 16) : Body :=
  pureBody fun c =>
    let k := imm.toNat % 32
    let a := c.get ra
    if imm.toNat / 128 ≠ 0 then .mustBe0
    else match imm.toNat / 32 % 4 with
      | 0 => .write c rd (a <<< k) 1
      | 1 => .write c rd (a >>> k) 1
      | 2 => .write c rd (a.sshiftRight k) 1
      | _ => .valueRule

/-- KCAT (R154): rd is read and then written. -/
def kcatBody (rd ra : BitVec 5) (imm : BitVec 16) : Body :=
  pureBody fun c => if ra = 0 then .write c rd ((c.get rd <<< 16) ||| zext16 imm) 1 else .mustBe0

/-- QMRG (R161). -/
def qmrgBody (rd ra rb : BitVec 5) : Body :=
  pureBody fun c =>
    if rd = 0 ∧ rb = 0 then .done { c with qa := qaMerge c.qa ((c.get ra).setWidth 4) }.seq 1 else .mustBe0

/-- QGET (R161). -/
def qgetBody (rd ra rb : BitVec 5) : Body :=
  pureBody fun c => if ra = 0 ∧ rb = 0 then .write c rd (c.qa.setWidth 32) 1 else .mustBe0

/-- QTAKE (R161). -/
def qtakeBody (rd ra rb : BitVec 5) : Body :=
  pureBody fun c =>
    if ra = 0 ∧ rb = 0 then .write { c with qa := 0 } rd (c.qa.setWidth 32) 1 else .mustBe0

/-- TIME (R144, R161). -/
def timeBody (n : Fin 16) (rd ra rb : BitVec 5) : Body := fun s c =>
  (s, if ¬ (ra = 0 ∧ rb = 0) then .mustBe0
      else if pairOk rd then .done (c.putPair rd s.lanes[n].start).seq 2 else .valueRule)

/-- PLYEND (R119, R169, R171): a ply is ready for its decision, a job is done and saved, a BENCH lane
halts (assumption 12). -/
def plyendBody (n : Fin 16) (rd ra rb : BitVec 5) : Body := fun s c =>
  if ¬ (rd = 0 ∧ ra = 0 ∧ rb = 0) then (s, .mustBe0)
  else
    let l := s.lanes[n]
    match l.ply with
    | some p =>
      let cyc := l.cyc + 1
      let s := s.setReg (Reg.laneCycLast n) (BitVec.ofNat 32 cyc)
      let s := s.peak (Reg.laneCycMax n) 31 0 cyc
      (s.modLane n (fun l => { l with
        ply := some { p with phase := .ready }
        trace := modAt l.trace 0 (fun t => { t with cyc := cyc }) }), .done c.seq 1)
    | none =>
      if l.state = .bench then (s.modLane n (fun l => { l with halted := true }), .done c.seq 1)
      else (s.saveJob n (jobState l.jobStat 2) (lclkNs 40), .done c.seq 1)

/-- MUL (R155). -/
def mulT (rd ra rb : BitVec 5) : Body :=
  pureBody fun c => .write c rd (c.get ra * c.get rb) 3

/-- ADDSK (R154). -/
def addskBody (rd ra : BitVec 5) (imm : BitVec 16) : Body :=
  pureBody fun c => .writeSat c rd (clampS ((c.get ra).toInt + (sext16 imm).toInt)) 1

/-- ADD (R153). -/
def insAdd (rd : BitVec 5) (ra : BitVec 5) (rb : BitVec 5) : Body :=
  (aluT fun a b => a + b) rd ra rb

/-- SUB (R153). -/
def insSub (rd : BitVec 5) (ra : BitVec 5) (rb : BitVec 5) : Body :=
  (aluT fun a b => a - b) rd ra rb

/-- AND (R153). -/
def insAnd (rd : BitVec 5) (ra : BitVec 5) (rb : BitVec 5) : Body :=
  (aluT fun a b => a &&& b) rd ra rb

/-- OR (R153). -/
def insOr (rd : BitVec 5) (ra : BitVec 5) (rb : BitVec 5) : Body :=
  (aluT fun a b => a ||| b) rd ra rb

/-- XOR (R153). -/
def insXor (rd : BitVec 5) (ra : BitVec 5) (rb : BitVec 5) : Body :=
  (aluT fun a b => a ^^^ b) rd ra rb

/-- SLL (R153). -/
def insSll (rd : BitVec 5) (ra : BitVec 5) (rb : BitVec 5) : Body :=
  (aluT fun a b => a <<< (b.toNat % 32)) rd ra rb

/-- SRL (R153). -/
def insSrl (rd : BitVec 5) (ra : BitVec 5) (rb : BitVec 5) : Body :=
  (aluT fun a b => a >>> (b.toNat % 32)) rd ra rb

/-- SRA (R153). -/
def insSra (rd : BitVec 5) (ra : BitVec 5) (rb : BitVec 5) : Body :=
  (aluT fun a b => a.sshiftRight (b.toNat % 32)) rd ra rb

/-- CMPLT (R153). -/
def insCmplt (rd : BitVec 5) (ra : BitVec 5) (rb : BitVec 5) : Body :=
  (aluT fun a b => cmpWord (decide (a.toInt < b.toInt))) rd ra rb

/-- CMPLTU (R153). -/
def insCmpltu (rd : BitVec 5) (ra : BitVec 5) (rb : BitVec 5) : Body :=
  (aluT fun a b => cmpWord (decide (a.toNat < b.toNat))) rd ra rb

/-- MIN (R153). -/
def insMin (rd : BitVec 5) (ra : BitVec 5) (rb : BitVec 5) : Body :=
  (aluT fun a b => if a.toInt ≤ b.toInt then a else b) rd ra rb

/-- MAX (R153). -/
def insMax (rd : BitVec 5) (ra : BitVec 5) (rb : BitVec 5) : Body :=
  (aluT fun a b => if a.toInt ≤ b.toInt then b else a) rd ra rb

/-- MINU (R153). -/
def insMinu (rd : BitVec 5) (ra : BitVec 5) (rb : BitVec 5) : Body :=
  (aluT fun a b => if a.toNat ≤ b.toNat then a else b) rd ra rb

/-- MAXU (R153). -/
def insMaxu (rd : BitVec 5) (ra : BitVec 5) (rb : BitVec 5) : Body :=
  (aluT fun a b => if a.toNat ≤ b.toNat then b else a) rd ra rb

/-- ADDS (R153). -/
def insAdds (rd : BitVec 5) (ra : BitVec 5) (rb : BitVec 5) : Body :=
  (satT 1 fun a b => clampS (a.toInt + b.toInt)) rd ra rb

/-- SUBS (R153). -/
def insSubs (rd : BitVec 5) (ra : BitVec 5) (rb : BitVec 5) : Body :=
  (satT 1 fun a b => clampS (a.toInt - b.toInt)) rd ra rb

/-- ADDSU (R153). -/
def insAddsu (rd : BitVec 5) (ra : BitVec 5) (rb : BitVec 5) : Body :=
  (satT 1 fun a b => clampU (a.toNat + b.toNat)) rd ra rb

/-- SUBSU (R153). -/
def insSubsu (rd : BitVec 5) (ra : BitVec 5) (rb : BitVec 5) : Body :=
  (satT 1 fun a b => clampU ((a.toNat : Int) - b.toNat)) rd ra rb

/-- ADDK (R154). -/
def insAddk (rd : BitVec 5) (ra : BitVec 5) (imm : BitVec 16) : Body :=
  (aluK fun a i => a + sext16 i) rd ra imm

/-- ADDSK (R154). -/
def insAddsk (rd : BitVec 5) (ra : BitVec 5) (imm : BitVec 16) : Body :=
  addskBody rd ra imm

/-- ANDK (R154). -/
def insAndk (rd : BitVec 5) (ra : BitVec 5) (imm : BitVec 16) : Body :=
  (aluK fun a i => a &&& zext16 i) rd ra imm

/-- ORK (R154). -/
def insOrk (rd : BitVec 5) (ra : BitVec 5) (imm : BitVec 16) : Body :=
  (aluK fun a i => a ||| zext16 i) rd ra imm

/-- XORK (R154). -/
def insXork (rd : BitVec 5) (ra : BitVec 5) (imm : BitVec 16) : Body :=
  (aluK fun a i => a ^^^ zext16 i) rd ra imm

/-- CMPLTK (R154). -/
def insCmpltk (rd : BitVec 5) (ra : BitVec 5) (imm : BitVec 16) : Body :=
  (aluK fun a i => cmpWord (decide (a.toInt < (sext16 i).toInt))) rd ra imm

/-- SHK (R154). -/
def insShk (rd : BitVec 5) (ra : BitVec 5) (imm : BitVec 16) : Body :=
  shkBody rd ra imm

/-- KCAT (R154). -/
def insKcat (rd : BitVec 5) (ra : BitVec 5) (imm : BitVec 16) : Body :=
  kcatBody rd ra imm

/-- MUL (R155). -/
def insMul (rd : BitVec 5) (ra : BitVec 5) (rb : BitVec 5) : Body :=
  mulT rd ra rb

/-- MULL (R155). -/
def insMull (rd : BitVec 5) (ra : BitVec 5) (rb : BitVec 5) : Body :=
  (mulPair fun a b => a.toInt * b.toInt) rd ra rb

/-- MULLU (R155). -/
def insMullu (rd : BitVec 5) (ra : BitVec 5) (rb : BitVec 5) : Body :=
  (mulPair fun a b => a.toNat * b.toNat) rd ra rb

/-- MULS (R155). -/
def insMuls (rd : BitVec 5) (ra : BitVec 5) (rb : BitVec 5) : Body :=
  (satT 3 fun a b => clampS (a.toInt * b.toInt)) rd ra rb

/-- DIV (R155). -/
def insDiv (rd : BitVec 5) (ra : BitVec 5) (rb : BitVec 5) : Body :=
  (divT divS) rd ra rb

/-- DIVU (R155). -/
def insDivu (rd : BitVec 5) (ra : BitVec 5) (rb : BitVec 5) : Body :=
  (divT fun a b => (a / b, false)) rd ra rb

/-- REM (R155). -/
def insRem (rd : BitVec 5) (ra : BitVec 5) (rb : BitVec 5) : Body :=
  (divT fun a b => (BitVec.ofInt 32 (a.toInt.tmod b.toInt), false)) rd ra rb

/-- REMU (R155). -/
def insRemu (rd : BitVec 5) (ra : BitVec 5) (rb : BitVec 5) : Body :=
  (divT fun a b => (a % b, false)) rd ra rb

/-- FADD (R156). -/
def insFadd (rd : BitVec 5) (ra : BitVec 5) (rb : BitVec 5) : Body :=
  (fltT 4 fAdd) rd ra rb

/-- FSUB (R156). -/
def insFsub (rd : BitVec 5) (ra : BitVec 5) (rb : BitVec 5) : Body :=
  (fltT 4 fSub) rd ra rb

/-- FMUL (R156). -/
def insFmul (rd : BitVec 5) (ra : BitVec 5) (rb : BitVec 5) : Body :=
  (fltT 4 fMul) rd ra rb

/-- FDIV (R156). -/
def insFdiv (rd : BitVec 5) (ra : BitVec 5) (rb : BitVec 5) : Body :=
  (fltT 20 fDiv) rd ra rb

/-- FMIN (R156). -/
def insFmin (rd : BitVec 5) (ra : BitVec 5) (rb : BitVec 5) : Body :=
  (fltT 2 (fMinMax false)) rd ra rb

/-- FMAX (R156). -/
def insFmax (rd : BitVec 5) (ra : BitVec 5) (rb : BitVec 5) : Body :=
  (fltT 2 (fMinMax true)) rd ra rb

/-- FEQ (R156). -/
def insFeq (rd : BitVec 5) (ra : BitVec 5) (rb : BitVec 5) : Body :=
  (fltT 2 fEq) rd ra rb

/-- FLT (R156). -/
def insFlt (rd : BitVec 5) (ra : BitVec 5) (rb : BitVec 5) : Body :=
  (fltT 2 (fLess false)) rd ra rb

/-- FLE (R156). -/
def insFle (rd : BitVec 5) (ra : BitVec 5) (rb : BitVec 5) : Body :=
  (fltT 2 (fLess true)) rd ra rb

/-- FCVTWS (R156). -/
def insFcvtws (rd : BitVec 5) (ra : BitVec 5) (rb : BitVec 5) : Body :=
  (fltU 4 fToInt) rd ra rb

/-- FCVTSW (R156). -/
def insFcvtsw (rd : BitVec 5) (ra : BitVec 5) (rb : BitVec 5) : Body :=
  (fltU 4 fOfInt) rd ra rb

/-- FABS (R156). -/
def insFabs (rd : BitVec 5) (ra : BitVec 5) (rb : BitVec 5) : Body :=
  (fltU 1 fun a => .ok (a &&& 0x7FFFFFFF)) rd ra rb

/-- FNEG (R156). -/
def insFneg (rd : BitVec 5) (ra : BitVec 5) (rb : BitVec 5) : Body :=
  (fltU 1 fun a => .ok (a ^^^ 0x80000000)) rd ra rb

/-- LDW (R158). -/
def insLdw (n : Fin 16) (rd : BitVec 5) (ra : BitVec 5) (imm : BitVec 16) : Body :=
  (loadBody n 4 false) rd ra imm

/-- LDH (R158). -/
def insLdh (n : Fin 16) (rd : BitVec 5) (ra : BitVec 5) (imm : BitVec 16) : Body :=
  (loadBody n 2 true) rd ra imm

/-- LDHU (R158). -/
def insLdhu (n : Fin 16) (rd : BitVec 5) (ra : BitVec 5) (imm : BitVec 16) : Body :=
  (loadBody n 2 false) rd ra imm

/-- LDB (R158). -/
def insLdb (n : Fin 16) (rd : BitVec 5) (ra : BitVec 5) (imm : BitVec 16) : Body :=
  (loadBody n 1 true) rd ra imm

/-- LDBU (R158). -/
def insLdbu (n : Fin 16) (rd : BitVec 5) (ra : BitVec 5) (imm : BitVec 16) : Body :=
  (loadBody n 1 false) rd ra imm

/-- QLD (R158). -/
def insQld (n : Fin 16) (rd : BitVec 5) (ra : BitVec 5) (imm : BitVec 16) : Body :=
  (qldBody n) rd ra imm

/-- STW (R158). -/
def insStw (n : Fin 16) (rs : BitVec 5) (ra : BitVec 5) (imm : BitVec 16) : Body :=
  (storeBody n 4) rs ra imm

/-- STH (R158). -/
def insSth (n : Fin 16) (rs : BitVec 5) (ra : BitVec 5) (imm : BitVec 16) : Body :=
  (storeBody n 2) rs ra imm

/-- STB (R158). -/
def insStb (n : Fin 16) (rs : BitVec 5) (ra : BitVec 5) (imm : BitVec 16) : Body :=
  (storeBody n 1) rs ra imm

/-- STQ (R158). -/
def insStq (n : Fin 16) (rs : BitVec 5) (ra : BitVec 5) (imm : BitVec 16) : Body :=
  (stqBody n) rs ra imm

/-- JC (R159). -/
def insJc (cond : BitVec 4) (ra : BitVec 5) (rb : BitVec 5) (off : BitVec 12) : Body :=
  jcBody cond ra rb off

/-- CALL (R159). -/
def insCall (rd : BitVec 5) (off : BitVec 21) : Body :=
  callBody rd off

/-- CALLR (R159). -/
def insCallr (rd : BitVec 5) (ra : BitVec 5) (imm : BitVec 16) : Body :=
  callrBody rd ra imm

/-- EXT (R160). -/
def insExt (rd : BitVec 5) (ra : BitVec 5) (pos : BitVec 5) (wm1 : BitVec 5) (zero : BitVec 6) : Body :=
  (fieldBody fun _ a p w => extField a p w) rd ra pos wm1 zero

/-- EXTS (R160). -/
def insExts (rd : BitVec 5) (ra : BitVec 5) (pos : BitVec 5) (wm1 : BitVec 5) (zero : BitVec 6) : Body :=
  (fieldBody fun _ a p w => extSField a p w) rd ra pos wm1 zero

/-- INS (R160). -/
def insIns (rd : BitVec 5) (ra : BitVec 5) (pos : BitVec 5) (wm1 : BitVec 5) (zero : BitVec 6) : Body :=
  (fieldBody fun d a p w => insField d a p w) rd ra pos wm1 zero

/-- QMRG (R161). -/
def insQmrg (rd : BitVec 5) (ra : BitVec 5) (rb : BitVec 5) : Body :=
  qmrgBody rd ra rb

/-- QGET (R161). -/
def insQget (rd : BitVec 5) (ra : BitVec 5) (rb : BitVec 5) : Body :=
  qgetBody rd ra rb

/-- QTAKE (R161). -/
def insQtake (rd : BitVec 5) (ra : BitVec 5) (rb : BitVec 5) : Body :=
  qtakeBody rd ra rb

/-- TIME (R144). -/
def insTime (n : Fin 16) (rd : BitVec 5) (ra : BitVec 5) (rb : BitVec 5) : Body :=
  (timeBody n) rd ra rb

/-- PLYEND (R169). -/
def insPlyend (n : Fin 16) (rd : BitVec 5) (ra : BitVec 5) (rb : BitVec 5) : Body :=
  (plyendBody n) rd ra rb

/-- The instructions of opcode 0x01 by fn (R153). -/
def decode01 (fn : Nat) : Option (BitVec 5 → BitVec 5 → BitVec 5 → Body) :=
  match fn with
  | 0x000 => some insAdd
  | 0x001 => some insSub
  | 0x002 => some insAnd
  | 0x003 => some insOr
  | 0x004 => some insXor
  | 0x005 => some insSll
  | 0x006 => some insSrl
  | 0x007 => some insSra
  | 0x008 => some insCmplt
  | 0x009 => some insCmpltu
  | 0x00A => some insMin
  | 0x00B => some insMax
  | 0x00C => some insMinu
  | 0x00D => some insMaxu
  | 0x00E => some insAdds
  | 0x00F => some insSubs
  | 0x010 => some insAddsu
  | 0x011 => some insSubsu
  | _ => none

/-- The instructions of opcode 0x02 by fn (R155). -/
def decode02 (fn : Nat) : Option (BitVec 5 → BitVec 5 → BitVec 5 → Body) :=
  match fn with
  | 0x000 => some insMul
  | 0x001 => some insMull
  | 0x002 => some insMullu
  | 0x003 => some insMuls
  | 0x004 => some insDiv
  | 0x005 => some insDivu
  | 0x006 => some insRem
  | 0x007 => some insRemu
  | _ => none

/-- The instructions of opcode 0x03 by fn (R156). -/
def decode03 (fn : Nat) : Option (BitVec 5 → BitVec 5 → BitVec 5 → Body) :=
  match fn with
  | 0x000 => some insFadd
  | 0x001 => some insFsub
  | 0x002 => some insFmul
  | 0x003 => some insFdiv
  | 0x004 => some insFmin
  | 0x005 => some insFmax
  | 0x006 => some insFeq
  | 0x007 => some insFlt
  | 0x008 => some insFle
  | 0x009 => some insFcvtws
  | 0x00A => some insFcvtsw
  | 0x00B => some insFabs
  | 0x00C => some insFneg
  | _ => none

/-- The instructions of opcode 0x04 by fn (R161). -/
def decode04 (n : Fin 16) (fn : Nat) : Option (BitVec 5 → BitVec 5 → BitVec 5 → Body) :=
  match fn with
  | 0x000 => some insQmrg
  | 0x001 => some insQget
  | 0x002 => some insQtake
  | 0x003 => some (insTime n)
  | 0x004 => some (insPlyend n)
  | _ => none

/-- The instructions of format K by opcode (R154, R158, R159). -/
def decodeK (n : Fin 16) (op : Nat) : Option (BitVec 5 → BitVec 5 → BitVec 16 → Body) :=
  match op with
  | 0x08 => some insAddk
  | 0x09 => some insAddsk
  | 0x0A => some insAndk
  | 0x0B => some insOrk
  | 0x0C => some insXork
  | 0x0D => some insCmpltk
  | 0x0E => some insShk
  | 0x0F => some insKcat
  | 0x10 => some (insLdw n)
  | 0x11 => some (insLdh n)
  | 0x12 => some (insLdhu n)
  | 0x13 => some (insLdb n)
  | 0x14 => some (insLdbu n)
  | 0x15 => some (insQld n)
  | 0x18 => some (insStw n)
  | 0x19 => some (insSth n)
  | 0x1A => some (insStb n)
  | 0x1B => some (insStq n)
  | 0x29 => some insCallr
  | _ => none

/-- The instruction that a word spells for lane `n` (R151 to R161); an undefined opcode or fn traps I
with detail 1. -/
def decodeBody (n : Fin 16) (w : Word) : Body :=
  let op := bits w 31 26
  let rd := w.extractLsb' 21 5
  let ra := w.extractLsb' 16 5
  let rb := w.extractLsb' 11 5
  let fn := bits w 10 0
  let tee (f : Option (BitVec 5 → BitVec 5 → BitVec 5 → Body)) : Body :=
    match f with
    | some f => f rd ra rb
    | none => pureBody fun _ => .undefinedOp
  if op = 0x01 then tee (decode01 fn)
  else if op = 0x02 then tee (decode02 fn)
  else if op = 0x03 then tee (decode03 fn)
  else if op = 0x04 then tee (decode04 n fn)
  else if op = 0x20 then insJc (w.extractLsb' 22 4) (w.extractLsb' 17 5) (w.extractLsb' 12 5) (w.extractLsb' 0 12)
  else if op = 0x28 then insCall rd (w.extractLsb' 0 21)
  else if op = 0x30 then insExt rd ra rb (w.extractLsb' 6 5) (w.extractLsb' 0 6)
  else if op = 0x31 then insExts rd ra rb (w.extractLsb' 6 5) (w.extractLsb' 0 6)
  else if op = 0x32 then insIns rd ra rb (w.extractLsb' 6 5) (w.extractLsb' 0 6)
  else match decodeK n op with
    | some f => f rd ra (w.extractLsb' 0 16)
    | none => pureBody fun _ => .undefinedOp

/-- The body of the instruction at the PC of lane `n`. -/
def fetchBody (n : Fin 16) : Body := fun s c =>
  decodeBody n (s.mem.word (s.lanePhys n c.pc.toNat)) s c

end Sys2Proof.Machine
end

