-- ==== Sys2Proof/Machine/Change.lean ====
section
/-! DEFINITION. Online change: the agreement, the switch and the migration (R138, R280 to R291, R322). -/

namespace Sys2Proof.Machine

/-! ### Agreeing the switch (R280 to R284) -/

/-- Why the leader refuses a change (R280, R349, R450), with the reason codes of assumption 15; 0 for none. -/
def State.changeRefusal (s : State) : Nat :=
  if s.state ≠ .leader then 8
  else if s.boards.standby ≠ .armed then 1
  else if s.migr.isSome then 2
  else if s.partnerState = 1 then 3
  else if s.pair.castle.isSome then 4
  else if s.pair.check.isSome then 5
  else if s.pair.change.isSome then 6
  else if s.upd.state = .pending ∨ s.handingOver then 7
  else 0

/-- The switch round (R281). -/
def State.switchRound (s : State) : Word :=
  let n := match s.boards.stb with
    | some t => max s.turnLen t.turn
    | none => s.turnLen
  BitVec.ofNat 32 (roundUp (s.rsn.toNat + 16) n)

/-- A record of an online change (R280, R283): acceptance 1, decision to switch 2, decision not to switch 3,
refusal 4, with S or the reason. -/
def State.changeRecord (s : State) (what : Nat) (v : Word) : State := s.recIrq pPAIR 6 .normal (toLe 4 what ++ wordBytes v)

/-- PAIR_CMD_CHANGE (R280, R281, R346). -/
def pairCmdChange (s : State) : State :=
  if !s.domainUp 2 then s.downError pPAIR
  else
    let r := s.changeRefusal
    if r = 8 then s.refuse Reg.pairCmd
    else if r ≠ 0 then (s.refuse Reg.pairCmd).changeRecord 4 (BitVec.ofNat 32 r)
    else
      let x : ChangeRun := ⟨s.switchRound, s.standbyId, false, false, s.partnerOut, false, none⟩
      (s.modPair fun p => { p with change := some x }).changeRecord 1 x.s

/-- The leader's messages of a round (R282). -/
def State.changeRound (s : State) : State :=
  match s.pair.change with
  | none => s
  | some x =>
    if s.state ≠ .leader ∨ !later (x.s - 4) s.rsn then s
    else if x.accepted then s.sendChg 4 0 x.s x.identity
    else if x.refused then s
    else s.sendChg 1 0 x.s x.identity

/-- A CHG message with the given OP. -/
def State.chgRx (s : State) (lane : Fin 4) (op : Nat) (msg : Bytes) (f : State → Word → Bytes → State) : State :=
  s.dunlyRx lane 3 msg fun s _ b =>
    if leAt b 0 1 = op then f s (BitVec.ofNat 32 (leAt b 4 4)) (slice b 8 48) else s

/-- CHG_PROPOSE_RX (R282): the reason of a refusal is 1 for differing active boards, 4 for a standby that is not ARMED
with that identity (assumption 15). -/
def chgProposeRx (lane : Fin 4) (msg : Bytes) (s : State) : State :=
  s.chgRx lane 1 msg fun s sr ident =>
    if s.state ≠ .follower then s
    else if blockId s.pair.partner ≠ s.activeId.take 8 then s.sendChg 3 1 sr ident
    else if s.boards.standby = .armed ∧ s.standbyId = ident then
      let x : ChangeRun := ⟨sr, ident, true, false, false, false, none⟩
      (s.sendChg 2 0 sr ident).modPair fun p => { p with change := some x }
    else s.sendChg 3 4 sr ident

/-- The change that is agreed for round `sr` is changed by `f`, while it is undecided. -/
def State.onChange (s : State) (sr : Word) (f : ChangeRun → ChangeRun) : State :=
  match s.pair.change with
  | none => s
  | some x => if x.s = sr ∧ x.decided = none then s.modPair fun p => { p with change := some (f x) } else s

/-- CHG_ACCEPT_RX (R282). -/
def chgAcceptRx (lane : Fin 4) (msg : Bytes) (s : State) : State :=
  s.chgRx lane 2 msg fun s sr _ => if s.state = .leader then s.onChange sr (fun x => { x with accepted := true }) else s

/-- CHG_REFUSE_RX (R282). -/
def chgRefuseRx (lane : Fin 4) (msg : Bytes) (s : State) : State :=
  s.chgRx lane 3 msg fun s sr _ => if s.state = .leader then s.onChange sr (fun x => { x with refused := true }) else s

/-- CHG_COMMIT_RX (R282). -/
def chgCommitRx (lane : Fin 4) (msg : Bytes) (s : State) : State :=
  s.chgRx lane 4 msg fun s sr _ => if s.state = .leader then s else s.onChange sr (fun x => { x with commit := true })

/-- CHG_CANCEL_RX (R282): a decision to switch that has been taken stands (R283). -/
def chgCancelRx (lane : Fin 4) (msg : Bytes) (s : State) : State :=
  s.chgRx lane 5 msg fun s sr _ =>
    match s.pair.change with
    | none => s
    | some x =>
      if s.state ≠ .leader ∧ x.s = sr ∧ x.decided ≠ some true then s.modPair fun p => { p with change := none } else s

/-- CHANGE_DECISION (R282 to R284): at the edge of pip 0 of round S - 4. -/
def changeDecision (s : State) : State :=
  match s.pair.change with
  | none => s
  | some x =>
    let t := s.atBoundary
    if x.decided ≠ none ∨ later (x.s - 4) t.rsn then s
    else
      let ok := if t.state = .leader then x.accepted || t.changeAlone x else x.commit
      let t := (t.raise pPAIR 6).changeRecord (if ok then 2 else 3) x.s
      if ok then t.modPair fun p => { p with change := some { x with decided := some true } }
      else
        let t := if t.state = .leader then t.sendChg 5 0 x.s x.identity else t
        t.modPair fun p => { p with change := none }

/-! ### The switch (R138, R285, R322, R543) -/

/-- The lines of the new board's retained range, by MRAM line, that a KEEP record keeps at their retained position
(R278). -/
def Tables.keptLines (t : Tables) : List Nat :=
  let ret := t.hdr.instLen - t.hdr.retLen
  t.migr.foldl (fun l r =>
    if r.action = 0 ∧ ret ≤ r.newOfs ∧ r.newOfs + r.len ≤ t.hdr.instLen then
      (List.range (r.len / 64)).foldl (fun l i => sins l ((r.newOfs - ret) / 64 + i)) l
    else l) []

/-- A grant at the switch to board `t` (R322): it continues, is MAPPED, or ends. -/
def State.switchGrant (s : State) (t : Tables) (g : Grant) : State :=
  match t.slotRec g.slot with
  | none => s.endGrant g.slot
  | some r =>
    if r.skind = 4 then s
    else if r.skind = 0 ∧ r.node = g.node then
      s.modNet fun n => { n with grants := putGrant { g with mapped := true, age := if g.mapped then g.age else 0 } n.grants }
    else s.endGrant g.slot

/-- The states of stations that are no longer tracked are forgotten (R307). -/
def State.forgetStations (s : State) : State :=
  { s with regs := s.regs.map (fun x =>
      if x.1 % 0x100000 = Reg.mbsStn ∧ !s.tracked (x.1 / 0x100000) then (x.1, 0) else x) }

/-- The migration that a switch begins (R285). -/
def State.newMigration (s : State) (t : Tables) : Migration :=
  let a := s.fld Reg.movInst 0 0
  { recs := t.migr, oldBase := instBase a, newBase := instBase (1 - a), retStart := t.hdr.instLen - t.hdr.retLen
    retLen := t.hdr.retLen, kept := t.keptLines, moved := [], copied := 0, mirrored := 0
    convDone := t.migr.all (fun r => r.action != 2) }

/-- The table sets, the areas and the working copies are exchanged (R106, R138, R222). -/
def State.swapBoards (s : State) (old new : Tables) : State :=
  let a := s.mem.read (workCopy false) old.hdr.boardLen
  let b := s.mem.read (workCopy true) new.hdr.boardLen
  let s := (s.writeMem (workCopy false) b).writeMem (workCopy true) a
  { s with boards := { s.boards with
      act := some new, stb := none, activeArea := s.boards.standbyArea, standbyArea := s.boards.activeArea
      standby := .stored, rolesDirty := true } }

/-- What the sequencer and the interfaces hold of the old board ends with it (R138). -/
def State.freshTracks (s : State) : State :=
  let s := s.modSeqr fun q => { q with rerun := 0, walkNext := none, switched := some s.rsn }
  let s := if s.seqr.state = .run ∧ s.atRoundEdge then
      s.modSeqr fun q => { q with walk := some (s.walkOf s.rsn) } else s
  let s := { s with tasks := Vector.replicate 16 .reset }
  let s := s.modNet fun n => { n with slots := [], txBuf := [], windows := [], active := [] }
  s.modPair fun p => { p with digOwn := [], digPart := [], expect := [] }

/-- The START of the SYNC_CORRECT entry of a board in the round with RSN `r` (R49). -/
def Tables.corrPip (t : Tables) (r : Word) : Option Nat :=
  (t.trackF.find? (fun e => e.fevt == 5 && e.active r)).map (fun e => e.start)

/-- The switch from the running to the ARMED board; `mig` says that kept lines become unmigrated (R138, R285), which a
rejoining module leaves to the state transfer (R284). -/
def State.switchBoards (s : State) (mig : Bool) : State :=
  match s.boards.act, s.boards.stb with
  | some old, some new =>
    let m := s.newMigration new
    let s := s.swapBoards old new
    let s := (s.setFld Reg.movInst 0 0 (1 - s.fld Reg.movInst 0 0)).deriveRegions new
    let s := { s with
      migr := if mig then some m else none
      retMark := s.retMark.filter (fun k => decide (new.hdr.retLen ≤ 64 * k) || m.kept.contains k)
      tlb := s.tlb.filter (fun e => e.ctx == 0 || decide (8 < e.ctx)), invAt := s.opNs }
    let s := s.setFld Reg.mmuInvStat 0 0 1
    let s := s.net.grants.foldl (fun s g => s.switchGrant new g) s
    let s := (s.forgetStations.fioDirections).freshTracks
    let s := s.modTime fun x => { x with slewMoved := x.slewMoved || old.corrPip (s.rsn - 1) != new.corrPip s.rsn }
    (s.raise pBSQ 9).raise pBRD 2
  | _, _ => s

/-- ONLINE_CHANGE_SWITCH (R285): at the edge of pip 0 of round S. -/
def onlineChangeSwitch (s : State) : State :=
  match s.pair.change with
  | none => s
  | some x =>
    let t := s.atBoundary
    if x.decided ≠ some true ∨ t.rsn ≠ x.s ∨ t.boards.standby ≠ .armed then s
    else
      let t := (t.switchBoards true).modPair fun p => { p with change := none }
      t.recIrq pBRD 2 .normal (wordBytes x.s)

/-- A JOINING module that has not passed through BOOT and whose ARMED standby is the partner's active board exchanges its
table sets at a round boundary, and asks again (R284, R360). -/
def State.joinExchange (s : State) : State :=
  if s.state = .joining ∧ !s.pair.fromBoot ∧ s.boards.standby = .armed ∧ !s.pair.partner.isEmpty
      ∧ blockId s.pair.partner = s.standbyId.take 8 ∧ blockId s.pair.partner ≠ s.activeId.take 8 then
    let s := s.switchBoards false
    let s := s.recIrq pBRD 2 .normal (wordBytes s.rsn)
    if s.linkUp then (s.sendJoinc 1 0 s.rsn).joinPhase 1 else s
  else s

/-! ### Migration (R287 to R289) -/

/-- The new-area lines of the records with the given action, in ascending order. -/
def Migration.linesOf (m : Migration) (action : Nat) : List Nat :=
  (m.recs.filter (fun r => r.action == action)).foldl (fun l r =>
    (List.range ((r.newOfs + r.len + 63) / 64 - r.newOfs / 64)).foldl (fun l i => sins l (r.newOfs / 64 + i)) l) []

/-- The engine migrates line `k`, if it is unmigrated, and mirrors it where it falls in the retained range and R278 has
not kept its MRAM position (R288). -/
def State.engineLine (s : State) (k : Nat) : State :=
  match s.migr with
  | none => s
  | some m =>
    if !m.waits k then s
    else
      let s := s.migrateLine k
      let mir := s.isRetained k && !m.kept.contains (k - s.retStart / 64)
      let s := if mir then s.mirrorLine k else s
      match s.migr with
      | none => s
      | some m => { s with migr := some { m with copied := m.copied + 1, mirrored := m.mirrored + b2n mir } }

/-- CONVERT_ROUND_END (R289): at the end of round S; one record counts the lines. -/
def convertRoundEnd (s : State) : State :=
  match s.migr, s.seqr.switched with
  | some m, some r =>
    let t := s.atBoundary
    if m.convDone || !later t.rsn r then s
    else
      let t := (m.linesOf 2).foldl State.engineLine t
      match t.migr with
      | none => t
      | some n =>
        let t := { t with migr := some { n with convDone := true, copied := m.copied, mirrored := m.mirrored } }
        t.recIrq pBRD 2 .normal (toLe 4 1 ++ toLe 4 (n.copied - m.copied))
  | _, _ => s

/-- MIGRATION_DONE (R288): every kept line has been copied; one record, and the old area is free. -/
def migrationDone (s : State) : State :=
  match s.migr with
  | none => s
  | some m =>
    if !m.convDone then s
    else
      let s := (m.linesOf 0).foldl State.engineLine s
      match s.migr with
      | none => s
      | some n => { s with migr := none }.recIrq pBRD 2 .normal (toLe 4 2 ++ toLe 4 n.copied ++ toLe 4 n.mirrored)

/-- PAIR_CMD_CHANGE (R280). -/
def execPairCmdChange (s : State) : Host.Outcome State Fault Refusal := .next (pairCmdChange s)
/-- CHANGE_DECISION (R282). -/
def execChangeDecision (s : State) : Host.Outcome State Fault Refusal := .next (changeDecision s)
/-- ONLINE_CHANGE_SWITCH (R285). -/
def execOnlineChangeSwitch (s : State) : Host.Outcome State Fault Refusal := .next (onlineChangeSwitch s)
/-- CONVERT_ROUND_END (R289). -/
def execConvertRoundEnd (s : State) : Host.Outcome State Fault Refusal := .next (convertRoundEnd s)
/-- MIGRATION_DONE (R288). -/
def execMigrationDone (s : State) : Host.Outcome State Fault Refusal := .next (migrationDone s)
/-- CHG_PROPOSE_RX (R282). -/
def execChgProposeRx (lane : Fin 4) (msg : Bytes) (s : State) : Host.Outcome State Fault Refusal := .next (chgProposeRx lane msg s)
/-- CHG_ACCEPT_RX (R282). -/
def execChgAcceptRx (lane : Fin 4) (msg : Bytes) (s : State) : Host.Outcome State Fault Refusal := .next (chgAcceptRx lane msg s)
/-- CHG_REFUSE_RX (R282). -/
def execChgRefuseRx (lane : Fin 4) (msg : Bytes) (s : State) : Host.Outcome State Fault Refusal := .next (chgRefuseRx lane msg s)
/-- CHG_COMMIT_RX (R282). -/
def execChgCommitRx (lane : Fin 4) (msg : Bytes) (s : State) : Host.Outcome State Fault Refusal := .next (chgCommitRx lane msg s)
/-- CHG_CANCEL_RX (R282). -/
def execChgCancelRx (lane : Fin 4) (msg : Bytes) (s : State) : Host.Outcome State Fault Refusal := .next (chgCancelRx lane msg s)

end Sys2Proof.Machine
end

