-- ==== Sys2Proof/Machine/Rounds.lean ====
section
/-! DEFINITION. The sequencer's states, the round boundary, the walkers and the watchdog (R41, R54, R111 to R118, R129,
R132, R138 to R140, R193, R218). -/

namespace Sys2Proof.Machine

/-! ### Starting and stopping (R111 to R113, R193, R218) -/

/-- BSQ_START (R112). -/
def bsqStart (s : State) : State :=
  if !s.domainUp 2 then s.downError pBSQ
  else if s.seqr.state = .off ∧ s.boards.active = .loaded then s.seqStart
  else s.refuse Reg.bsqCmd

/-- BSQ_STOP (R113). A STOP in OFF changes nothing, one in FAULT sets STOP_PEND and never takes effect (assumption 74). -/
def bsqStop (s : State) : State :=
  if !s.domainUp 2 then s.downError pBSQ
  else if s.state = .boot ∨ s.state = .stoodDown ∨ s.state = .bench then s.seqStop
  else s.refuse Reg.bsqCmd

/-- The watchdog is kicked (R140). -/
def State.kick (s : State) : State := s.modSeqr fun q => { q with kick := s.opNs }

/-- ROUND and TURN of a boundary passed in RUN. -/
def State.roundIrqs (s : State) : State :=
  let s := s.raise pBSQ 0
  if s.roundRsn.toNat % s.turnLen = 0 then s.raise pBSQ 1 else s

/-- The sequencer enters RUN at the boundary that has been reached (R112, R193). WAIT is not walked: the issue buffers
take every active entry of the first round at the entry to RUN, as if the walk had begun at pip 4,936 of the round
before (assumption 73). -/
def State.enterRun (s : State) : State :=
  let s := { s with boards := { s.boards with active := .running } }
  let s := s.modSeqr fun q => { q with state := .run, walk := some (s.walkOf s.rsn), walkNext := none }
  let s := over16 (fun s n => if s.lanes[n].state = .idle ∧ s.lanes[n].test = .none then s.laneRun n else s) s
  let s := s.kick
  if s.atRoundEdge then s.roundIrqs else s

/-- The first round boundary that follows the instant `t0`. -/
def State.nextAfter (s : State) (t0 : BitVec 64) : State :=
  let t := s.atBoundary
  if later64 t.now t0 then t
  else s.advanceTo (s.roundEdge + BitVec.ofNat 64 roundNs)

/-- The first round boundary that follows the last START or STOP (R112, R113). -/
def State.nextAfterCmd (s : State) : State := s.nextAfter s.seqr.cmdAt

/-- SEQ_ENTER_RUN (R112): at the next turn boundary after START. -/
def seqEnterRun (s : State) : State :=
  if s.seqr.state ≠ .wait then s
  else
    let t := s.nextAfterCmd
    if t.rsn.toNat % t.turnLen = 0 then t.enterRun else s

/-- The sequencer enters OFF (R112, R113, R193, R218): open contexts are squashed while their lanes still run, then the
RUNNING lanes go IDLE. -/
def State.enterOff (s : State) : State :=
  let s := over16 (fun s n => if s.lanes[n].act = .job then s.abortSave n else s) s.abortAll
  let s := s.closeContexts
  let s := { s with boards := { s.boards with active := if s.boards.active = ActiveState.running then ActiveState.loaded else s.boards.active } }
  let s := s.modSeqr fun q => { q with state := .off, stopPend := false, walk := none, walkNext := none, rerun := 0 }
  let s := s.modTime fun t => { t with hold := none }
  over16 (fun s n => s.settleLane n) s

/-- SEQ_STOP_TAKES_EFFECT (R113): at the round boundary after an accepted STOP. -/
def seqStopTakesEffect (s : State) : State :=
  if s.seqr.stopPend ∧ (s.seqr.state = .wait ∨ s.seqr.state = .run) then s.nextAfterCmd.enterOff else s

/-! ### The walkers (R114, R118) -/

/-- The track of a number in PG_ERR_INFO (R141). -/
def trackOf (k : Fin 4) : Track := match k with | 0 => .n | 1 => .l | 2 => .m | 3 => .f

/-- An uncorrectable table entry (R118): the sequencer enters FAULT and issues nothing further; lanes without work leave
RUNNING (R193). -/
def State.tableError (s : State) (k : Track) (i : Nat) : State :=
  let s := (s.incSat Reg.bsqEcc 31 16).logErr pBSQ 0x0102 (trackInfo k i)
  let s := (s.raise pBSQ 7).evidence
  let s := s.modSeqr fun q => { q with state := .fault, walk := none, walkNext := none }
  over16 (fun s n => s.settleLane n) s

/-- TRACK_WALK_BEGIN (R114): at pip 4,936 the walk of the round that follows. `corrected` is the number of entries that
SECDED corrects, `bad` the first entry that it cannot correct (R118). -/
def trackWalkBegin (corrected : Nat) (bad : Option (Fin 4 × Nat)) (s : State) : State :=
  if s.seqr.state ≠ .run ∨ s.time.hold.isSome ∨ !s.time.begun ∨ s.seqr.walkNext.isSome then s
  else
    let s := s.toPip 4936
    let s := s.setFld Reg.bsqEcc 15 0 (min 0xFFFF (s.fld Reg.bsqEcc 15 0 + corrected))
    match bad with
    | some (k, i) =>
      if i < (s.track (trackOf k)).length then s.tableError (trackOf k) i
      else s.modSeqr fun q => { q with walkNext := some (s.walkOf (s.roundRsn + 1)) }
    | none => s.modSeqr fun q => { q with walkNext := some (s.walkOf (s.roundRsn + 1)) }

/-! ### The round boundary -/

/-- A table of counts as bytes: how many keys, then each key with its count. -/
def countBytes (l : List (Nat × Nat)) : Bytes := toLe 1 l.length ++ l.flatMap (fun x => toLe 1 x.1 ++ toLe 2 x.2)

/-- The bulk record of a round in which LATE, DROP, SLIP or MOVER_OVR was raised (end of chapter 04). -/
def State.roundRecord (s : State) : State :=
  let g := s.seqr.log
  if g.late = [] ∧ g.drop = [] ∧ g.slip = [] ∧ g.ovr = [] then s
  else
    let b := if g.late ≠ [] then 2 else if g.drop ≠ [] then 3 else if g.slip ≠ [] then 6 else 8
    let s := s.recIrq pBSQ b .bulk (wordBytes s.roundRsn ++ countBytes g.late ++ countBytes g.drop ++ countBytes g.slip
      ++ countBytes g.ovr)
    s.modSeqr fun q => { q with log := .empty }

/-- What ends with a round: the records and counts of the round, the stations, the cold-start engine's count (R307, R313,
R344, R367). -/
def State.endRound (s : State) : State :=
  let s := s.roundRecord
  let s := s.peak Reg.dxlFwd 20 0 s.pair.fwdRound
  let s := s.modPair fun p => { p with fwdRound := 0, lostRound := 0, late := 0, squash := 0, downIn := false }
  if s.domainUp 3 then (s.stationsRound.coldRound).grantsRound else s

/-- The applied mask takes the value that the pending mask held before the edge (R129); three or more lanes out are
reported at each boundary (R132). -/
def State.applyMask (s : State) : State :=
  let m := if s.seqr.pendAt = s.now then s.seqr.pendOld else s.seqr.pending
  let s := if m = s.seqr.applied then s else (s.modSeqr fun q => { q with applied := m }).raise pBSQ 4
  if 3 ≤ ((List.range 16).filter (fun n => m.getLsbD n)).length then s.raise pBSQ 5 else s

/-- The round begins in time (R40, R41, R63). A search that made no step ends with its round: sync nodes whose copies
disagreed are counted (R47, R53). -/
def State.beginTime (s : State) : State :=
  let s := if s.time.state = .unsync then s.countDisagree (disagreements s.time.search) else s
  s.modTime fun t => { t with
    begun := true, roundStart := s.roundEdge, corrected := false, meas := []
    search := [], kept := t.search, inState := satInc 0xFFFF t.inState }

/-- The RSNs `a` and `b` lie in one period of task `k` (R70). -/
def State.samePeriod (s : State) (k : Fin 16) (a b : Word) : Bool :=
  match s.taskRec k with
  | some r => (a - BitVec.ofNat 32 r.phase) >>> r.perExp == (b - BitVec.ofNat 32 r.phase) >>> r.perExp
  | none => false

/-- A RERUN selection ends with its period: after a step that leaves the period of RSN `last`, no COMMIT entry of the new
period has been reached and its RERUN entries are not enabled (R127, R218). -/
def State.dropSelections (s : State) (last : Option Word) : State :=
  over16 (fun s k =>
    if (match last with | some l => s.samePeriod k l s.rsn | none => false) then s
    else s.modSeqr fun q => { q with rerun := q.rerun &&& ~~~(BitVec.ofNat 16 (2 ^ k.val)) }) s

/-- A hold after a step ends at the first boundary whose round is later than the last one begun (R54). -/
def State.passHold (s : State) : State :=
  match s.time.hold with
  | none => s
  | some h =>
    let over_ := match h.last with | some l => later s.rsn l | none => true
    let s := if over_ then s.dropSelections h.last else s
    s.modTime fun t => { t with hold := if over_ then none else some { h with held := h.held + 1 } }

/-- The sequencer at a boundary in RUN (R112, R114, R139, R140): the watchdog is kicked; unless a step holds it, the
walkers' entries of the new round come up for issue. -/
def State.runRound (s : State) : State :=
  if s.seqr.state ≠ .run then s
  else
    let s := s.kick.roundIrqs
    if s.time.hold.isSome then s
    else
      let r := s.roundRsn
      let w := match s.seqr.walkNext with
        | some w => if w.rsn = r then w else s.walkOf r
        | none => s.walkOf r
      s.modSeqr fun q => { q with walk := some w, walkNext := none }

/-- What the pair does at the beginning of a round (R282, R284, R331, R355, R360, R364, R376, R377). -/
def State.pairRound (s : State) : State :=
  let s := s.showLead
  let s := if s.pairBorne && s.mayStandDown then s.sdCause 2 else s
  let s := s.sdLanes.sdShow
  let s := if s.pair.joinLand = 1 ∧ s.roundRsn.toNat % s.turnLen = 0 then s.modPair fun p => { p with joinLand := 2 } else s
  let s := ((s.castleRound).changeRound).joinExchange
  (s.xferRound).bootNotes

/-- The area roles have reached the flash by the turn boundary that follows a switch or ACTIVATE (R106). -/
def State.rolesWritten (s : State) : State :=
  if s.roundRsn.toNat % s.turnLen = 0 then { s with boards := { s.boards with rolesDirty := false } } else s

/-- A round begins at the boundary that has been reached. -/
def State.beginRound (s : State) : State :=
  let s := s.beginTime.applyMask
  let s := (s.passHold.runRound).rolesWritten
  let s := s.pairRound
  let s := if s.seqr.state = .run ∧ s.time.hold.isNone then s else s.sendHealth
  s.wdtWarn

/-- ROUND_BOUNDARY (R41, R129): the next boundary is reached; a step that is due takes effect in place of the round
(R54). -/
def roundBoundary (s : State) : State :=
  if !s.domainUp 2 then s
  else
    let due := s.stepDue
    let s := (s.advanceTo s.nextBoundary).endRound
    if due then s.makeStep else s.beginRound

/-- TIME_STEP (R54): the step that is due takes effect at the next boundary of the time kept before it. -/
def timeStep (s : State) : State := if s.domainUp 2 && s.stepDue then roundBoundary s else s

/-! ### The watchdog (R140) -/

/-- SEQ_WATCHDOG_EXPIRY (R140): no kick has come for WDT_ROUNDS times 6,250 ACLK cycles. -/
def seqWatchdogExpiry (s : State) : State :=
  if !s.domainUp 0 || !(s.seqr.state == .run || s.seqr.state == .fault) then s
  else
    let n := max 1 (s.fld Reg.bsqCtrl 7 0)
    (s.waitOp (s.seqr.kick + n * roundNs)).assertSource 6 1 false

/-- BSQ_START (R112). -/
def execBsqStart (s : State) : Host.Outcome State Fault Refusal := .next (bsqStart s)
/-- BSQ_STOP (R113). -/
def execBsqStop (s : State) : Host.Outcome State Fault Refusal := .next (bsqStop s)
/-- SEQ_ENTER_RUN (R112). -/
def execSeqEnterRun (s : State) : Host.Outcome State Fault Refusal := .next (seqEnterRun s)
/-- SEQ_STOP_TAKES_EFFECT (R113). -/
def execSeqStopTakesEffect (s : State) : Host.Outcome State Fault Refusal := .next (seqStopTakesEffect s)
/-- TRACK_WALK_BEGIN (R114). -/
def execTrackWalkBegin (corrected : Nat) (bad : Option (Fin 4 × Nat)) (s : State) : Host.Outcome State Fault Refusal :=
  .next (trackWalkBegin corrected bad s)
/-- ROUND_BOUNDARY (R129). -/
def execRoundBoundary (s : State) : Host.Outcome State Fault Refusal := .next (roundBoundary s)
/-- TIME_STEP (R54). -/
def execTimeStep (s : State) : Host.Outcome State Fault Refusal := .next (timeStep s)
/-- SEQ_WATCHDOG_EXPIRY (R140). -/
def execSeqWatchdogExpiry (s : State) : Host.Outcome State Fault Refusal := .next (seqWatchdogExpiry s)

end Sys2Proof.Machine
end

