-- ==== Sys2Proof/Machine/Lockstep.lean ====
section
/-! DEFINITION. The lockstep comparator, bar sequences, the power-on test, and the debug commands of lanes
(06_lockstep.md). -/

namespace Sys2Proof.Machine

/-! ### Comparator events (R177 to R183, R188, R195, R199) -/

/-- The point code of a comparator line (R178). -/
def linePoint (line : Nat) : Nat :=
  if line < 38 then 0 else if line < 70 then 1 else if line < 102 then 2 else if line < 138 then 3
  else if line < 144 then 4 else if line < 152 then 5 else if line < 184 then 6 else 7

/-- Lane `n` works so that a comparator line can carry a value: it executes, saves or restores, or its PLYEND waits for the
final comparison of lines 184 to 215 and QA (R178, R181, R195). -/
def State.comparing (s : State) (n : Fin 16) (line : Nat) : Bool :=
  let l := s.lanes[n]
  l.busy3 s.opNs || (match l.ply with
    | some p => p.phase == .running || (p.phase == .ready && (linePoint line == 5 || linePoint line == 7))
    | none => (l.act == .job && later64 l.window s.now) || s.executes n true)

/-- The save of a job, which a job in the last pip of its window is in, completes before the lane halts, with BG_LOST
(R135, R195). -/
def State.finishSave (s : State) (n : Fin 16) : State :=
  let l := s.lanes[n]
  let s := if l.act = .job ∧ !later64 (l.window - 50) s.now then s.saveJob n l.jobStat (lclkNs 77) else s
  if s.lanes[n].saving s.opNs then
    (s.waitOp ((s.lanes[n].busy.map (·.till)).getD 0)).modLane n (fun l => { l with bgLost := true })
  else s

/-- LOCKSTEP_MISMATCH (R182): the comparator finds a difference on line `line`, driven by the instruction at word
address `pc`. -/
def lockstepMismatch (lane : Fin 16) (line : Fin 216) (pc : BitVec 20) (s : State) : State :=
  if s.comparing lane line then (s.finishSave lane).mismatch lane (linePoint line) line pc.toNat else s

/-- DUAL_RAIL_DISAGREE (R188): in the delay registers that hold main copy results, or in those towards the shadow. A
bar sequence in progress is abandoned. -/
def dualRailDisagree (lane : Fin 16) (results : Bool) (s : State) : State :=
  let l := s.lanes[lane]
  if l.state = .borneOff ∨ !s.domainUp (4 + lane.val / 4) then s
  else
    let s := if l.test = .lbist ∨ l.test = .roll then s.setFld (Reg.bank lane Reg.cmpBar) 1 0 0 else s
    s.untrusted lane (if results then 9 else 8) 0 true true

/-! ### Bar sequence and power-on test (R184 to R186, R192) -/

/-- Starts of the lane's history that lie in the window of R186, back from the newest. -/
def Lane.recentBars (l : Lane) : Nat := inWindow l.history (l.history.headD 0)

/-- BAR_SEQUENCE_START (R184, R186): at the first pip edge at which the lane holds no ply. -/
def barSequenceStart (lane : Fin 16) (s : State) : State :=
  let l := s.lanes[lane]
  if l.test ≠ .awaiting ∨ l.state ≠ .barred ∨ l.ply.isSome then s
  else
    let edge := BitVec.ofNat 64 (s.now.toNat / 50 * 50)
    let s := if s.time.atEdge edge then s else s.advanceTo (edge + 50)
    let s := s.incSat (Reg.bank lane Reg.cmpHist) 31 16
    let s := s.setReg (Reg.bank lane Reg.cmpBar) 1
    s.modLane lane (fun l => { l with
      test := .lbist, testEnd := s.opNs + 20000 * 50, history := (s.opTime.toNat :: l.history).take 15 })

/-- PHASE of CMP_BAR becomes "decided", with flag `b`. -/
def State.barDecided (s : State) (n : Fin 16) (b : Option Nat) : State :=
  let s := s.setFld (Reg.bank n Reg.cmpBar) 1 0 3
  match b with
  | some b => s.setFld (Reg.bank n Reg.cmpBar) b b 1
  | none => s

/-- BAR_LBIST_DONE (R184, R185, R188): 20,000 pips after the start. -/
def barLbistDone (lane : Fin 16) (pass : Bool) (s : State) : State :=
  if s.lanes[lane].test ≠ .lbist then s
  else
    let s := s.waitOp s.lanes[lane].testEnd
    if pass then
      let s := s.setFld (Reg.bank lane Reg.cmpBar) 1 0 2
      s.modLane lane (fun l => { l with test := .roll, testEnd := l.testEnd + 1300 * 50 })
    else (s.barDecided lane (some 2)).untrusted lane 13 0xFF false false

/-- The event of a bar sequence that has passed is transient, or reaches the limit (R185, R186, R188). -/
def State.barPassed (s : State) (n : Fin 16) : State :=
  let lim := max 1 (s.fld Reg.cmpCtrl 3 0)
  if lim ≤ s.lanes[n].recentBars then
    let s := (s.barDecided n (some 4)).setLane n .borneOff
    (s.modLane n (fun l => { l with test := .none })).recIrq pCMP 3 .normal (toLe 4 n.val)
  else
    let s := (s.barDecided n none).modLane n (fun l => { l with test := .none })
    let s := if s.seqr.state = SeqState.run then s.laneRun n else s.setLane n .idle
    s.raise pCMP 2

/-- The roll has failed (R188, R190): the lane is untrusted. -/
def State.rollFailed (s : State) (n : Fin 16) (point line : Nat) : State :=
  (s.setFld (Reg.bank n Reg.cmpBar) 3 3 1).untrusted n point line true false

/-- Point code and line of a failed roll (R188); none of a roll that has passed. -/
def rollPoint : SegResult → Option (Nat × Nat)
  | .pass => none
  | .lbistFail => none
  | .silent line => some (10, line.toNat)
  | .stray line => some (11, line.toNat)
  | .railSilent => some (10, 0xFF)

/-- BAR_ROLL_DONE (R184 to R186, R188): 1,300 pips after LBIST. -/
def barRollDone (lane : Fin 16) (res : SegResult) (s : State) : State :=
  if s.lanes[lane].test ≠ .roll ∨ res = .lbistFail then s
  else
    let s := s.waitOp s.lanes[lane].testEnd
    match rollPoint res with
    | some (p, l) => (s.setFld (Reg.bank lane Reg.cmpBar) 1 0 3).rollFailed lane p l
    | none => (s.repairLane lane).barPassed lane

/-- POWER_ON_TEST_DONE (R188, R192, R193): 21,300 pips after the release of the lane's domain. -/
def powerOnTestDone (lane : Fin 16) (lbist : Bool) (res : SegResult) (s : State) : State :=
  if s.lanes[lane].test ≠ .powerOn ∨ res = .lbistFail then s
  else
    let s := s.waitOp s.lanes[lane].testEnd
    if !lbist then (s.setFld (Reg.bank lane Reg.cmpBar) 2 2 1).untrusted lane 13 0xFF true false
    else match rollPoint res with
      | some (p, l) => s.rollFailed lane p l
      | none =>
        let s := s.modLane lane (fun l => { l with test := .none })
        (s.raise (pLANE lane) 2).recIrq (pLANE lane) 2 .normal (toLe 4 (LaneState.idle.code * 16))

/-! ### Debug commands (R196 to R199, R201) -/

/-- A debug command on lane `n`: outside BENCH, or on a lane that is BARRED or BORNE_OFF, it has no effect and logs
0x0005 (R198). -/
def State.onDebug (s : State) (n : Fin 16) (f : State → State) : State :=
  if !s.domainUp 2 then s.downError pCMP
  else if s.state ≠ .bench ∨ s.lanes[n].state = .barred ∨ s.lanes[n].state = .borneOff then s.refuse Reg.cmpDbgCmd
  else f s

/-- CLAIM (R193, R198). -/
def claim (lane : Fin 16) (s : State) : State :=
  s.onDebug lane fun s =>
    if s.lanes[lane].state = .bench then s
    else s.modLane lane (fun l => { l with benchReq := .claim, benchAt := s.now })

/-- RELEASE (R193, R199). -/
def release (lane : Fin 16) (s : State) : State :=
  s.onDebug lane fun s =>
    if s.lanes[lane].state = .bench then s.modLane lane (fun l => { l with benchReq := .release, benchAt := s.now }) else s

/-- LANE_BENCH_CHANGE_APPLY (R193): at the round boundary that follows the request. -/
def laneBenchChangeApply (lane : Fin 16) (s : State) : State :=
  let l := s.lanes[lane]
  match l.benchReq with
  | .none => s
  | .claim =>
    if l.state ≠ .idle ∧ l.state ≠ .running then s
    else
      let s := (s.nextAfter l.benchAt).freeLane lane
      (s.setLane lane .bench).modLane lane (fun l => { l with benchReq := .none })
  | .release =>
    if l.state ≠ .bench then s
    else
      let s := s.nextAfter l.benchAt
      let s := s.modLane lane (fun l => { l with benchReq := .none, halted := false })
      if s.seqr.state = SeqState.run then s.laneRun lane else s.setLane lane .idle

/-- Lane `n` halts for debug: DBG_HALT (R196). -/
def State.dbgHalt (s : State) (n : Fin 16) : State :=
  (s.modLane n (fun l => { l with halted := true })).raise pCMP 5

/-- HALT (R196, R198): the lane stops at the next instruction boundary. -/
def halt (lane : Fin 16) (s : State) : State :=
  s.onDebug lane fun s => if s.lanes[lane].halted then s else s.dbgHalt lane

/-- RESUME (R196). -/
def resume (lane : Fin 16) (s : State) : State :=
  s.onDebug lane fun s => s.modLane lane (fun l => { l with halted := false })

/-- STEP (R196): the instruction at the PC is executed in both copies, which halt again. -/
def stepLane (lane : Fin 16) (s : State) : State :=
  s.onDebug lane fun s =>
    if !s.executes lane true then s
    else (s.issueAs lane true (fetchBody lane)).dbgHalt lane

/-- The register of a core that CMP_DBG_REG_SEL REG names is set (R197, R201). -/
def Core.dbgSet (c : Core) (r : Nat) (v : Word) : Core :=
  if r < 32 then c.put (BitVec.ofNat 5 r) v
  else if r = 32 then { c with pc := v }
  else if r = 33 then { c with qa := v.setWidth 8 }
  else if r = 34 then { c with tc := v }
  else c

/-- CMP_DBG_REG_DATA_WRITE (R197): both copies of the halted lane that CMP_DBG_REG_SEL names. -/
def cmpDbgRegDataWrite (value : Word) (s : State) : State :=
  let n := Fin.ofNat 16 (s.fld Reg.cmpDbgRegSel 3 0)
  let r := s.fld Reg.cmpDbgRegSel 9 4
  if !s.domainUp 2 then s.downError pCMP
  else if !s.lanes[n].halted then s.refuse Reg.cmpDbgRegData
  else s.modLane n (fun l => { l with main := l.main.dbgSet r value, shadow := l.shadow.dbgSet r value })

/-- LOCKSTEP_MISMATCH (R182). -/
def execLockstepMismatch (lane : Fin 16) (line : Fin 216) (pc : BitVec 20) (s : State) : Host.Outcome State Fault Refusal := .next (lockstepMismatch lane line pc s)
/-- DUAL_RAIL_DISAGREE (R188). -/
def execDualRailDisagree (lane : Fin 16) (results : Bool) (s : State) : Host.Outcome State Fault Refusal := .next (dualRailDisagree lane results s)
/-- BAR_SEQUENCE_START (R184). -/
def execBarSequenceStart (lane : Fin 16) (s : State) : Host.Outcome State Fault Refusal := .next (barSequenceStart lane s)
/-- BAR_LBIST_DONE (R184). -/
def execBarLbistDone (lane : Fin 16) (pass : Bool) (s : State) : Host.Outcome State Fault Refusal := .next (barLbistDone lane pass s)
/-- BAR_ROLL_DONE (R185). -/
def execBarRollDone (lane : Fin 16) (res : SegResult) (s : State) : Host.Outcome State Fault Refusal := .next (barRollDone lane res s)
/-- POWER_ON_TEST_DONE (R192). -/
def execPowerOnTestDone (lane : Fin 16) (lbist : Bool) (res : SegResult) (s : State) : Host.Outcome State Fault Refusal := .next (powerOnTestDone lane lbist res s)
/-- CLAIM (R198). -/
def execClaim (lane : Fin 16) (s : State) : Host.Outcome State Fault Refusal := .next (claim lane s)
/-- RELEASE (R193). -/
def execRelease (lane : Fin 16) (s : State) : Host.Outcome State Fault Refusal := .next (release lane s)
/-- LANE_BENCH_CHANGE_APPLY (R193). -/
def execLaneBenchChangeApply (lane : Fin 16) (s : State) : Host.Outcome State Fault Refusal := .next (laneBenchChangeApply lane s)
/-- HALT (R196). -/
def execHalt (lane : Fin 16) (s : State) : Host.Outcome State Fault Refusal := .next (halt lane s)
/-- RESUME (R196). -/
def execResume (lane : Fin 16) (s : State) : Host.Outcome State Fault Refusal := .next (resume lane s)
/-- STEP (R196). -/
def execStep (lane : Fin 16) (s : State) : Host.Outcome State Fault Refusal := .next (stepLane lane s)
/-- CMP_DBG_REG_DATA_WRITE (R197). -/
def execCmpDbgRegDataWrite (value : Word) (s : State) : Host.Outcome State Fault Refusal := .next (cmpDbgRegDataWrite value s)

end Sys2Proof.Machine
end

