-- ==== Sys2Proof/Machine/Rings.lean ====
section
/-! DEFINITION. Rings, their descriptors and the background movers (R246 to R252, R257, R475). -/

namespace Sys2Proof.Machine

/-! ### The ring registers (R246, R252, R257) -/

/-- SIZE of a ring. -/
def State.ringSize (s : State) (r : Nat) : Nat := s.fld (Reg.ringCfg r) 16 0
/-- CTX of a ring. -/
def State.ringCtx (s : State) (r : Nat) : Nat := s.fld (Reg.ringCfg r) 20 17
/-- Physical address of descriptor 0. -/
def State.ringBase (s : State) (r : Nat) : Nat := (s.reg (Reg.ringBaseLo r)).toNat + s.fld (Reg.ringBaseHi r) 7 0 * 2 ^ 32
/-- Physical address of descriptor `i` (R246). -/
def State.descAddr (s : State) (r i : Nat) : Nat := s.ringBase r + i % s.ringSize r * 32

/-- The descriptor in progress on a ring. -/
def State.descOf (s : State) (r : Nat) : Option DescRun := s.descs.find? (fun d => d.ring == r)
/-- The descriptor in progress on a ring is replaced, or ends. -/
def State.setDesc (s : State) (r : Nat) (d : Option DescRun) : State :=
  { s with descs := s.descs.filter (fun x => x.ring != r) ++ d.toList }

/-- RING_HEAD_WRITE (R246). -/
def ringHeadWrite (ring : Fin 64) (value : Word) (s : State) : State :=
  let r := ring.val
  let d := (value - s.reg (Reg.ringTail r)).toInt
  if !s.domainUp 1 then s.downError (pRING r)
  else if d < 0 ∨ (s.ringSize r : Int) < d then s.logErr (pRING r) 0x0101 value
  else s.setReg (Reg.ringHead r) value

/-- A power of two from 16 to 65,536. -/
def ringSizeOk (n : Nat) : Bool := [16, 32, 64, 128, 256, 512, 1024, 2048, 4096, 8192, 16384, 32768, 65536].contains n

/-- The configuration of a ring with a non-zero SIZE is acceptable (R252, R257). -/
def State.ringValid (s : State) (r : Nat) : Bool :=
  let n := s.ringSize r
  let b := s.ringBase r
  let c := s.ringCtx r
  ringSizeOk n && b % 0x1000 == 0 && decide (bgMem ≤ b ∧ b + 32 * n ≤ sparePool) && c != 0
    && (s.fld (Reg.ringCfg r) 23 23 == 0 || c != 15)

/-- The bits that a write to RING_CFG, RING_BASE_LO or RING_BASE_HI sets (R257). -/
def ringCfgMask (ofs : Nat) : Word := if ofs = 0x040 then 0x00FFFFFF else if ofs = 0x048 then 0xFF else 0xFFFFFFFF

/-- A halted descriptor is marked ABORTED, with its DONE kept (R252, R253). -/
def State.abortDesc (s : State) (r : Nat) : State :=
  match s.descOf r with
  | none => s
  | some _ =>
    let a := s.descAddr r (s.reg (Reg.ringTail r)).toNat
    ((s.writeMem (a + 0x18) (toLe 4 5)).setDesc r none).setFld (Reg.ringStat r) 4 4 0

/-- RING_CFG_WRITE (R252, R253). -/
def ringCfgWrite (ring : Fin 64) (ofs : BitVec 12) (value : Word) (s : State) : State :=
  let r := ring.val
  let o := ofs.toNat
  let k := pRING r * 0x1000 + o
  if !s.domainUp 1 then s.downError (pRING r)
  else if o != 0x040 && o != 0x044 && o != 0x048 then s
  else if (match s.descOf r with | some d => d.halt.isNone | none => false) then s.refuse k
  else
    let t := s.setReg k (value &&& ringCfgMask o)
    if t.ringSize r ≠ 0 && !t.ringValid r then (s.logErr (pRING r) 0x0102 0).logErr pMMU 0x0102 0
    else
      let t := (s.abortDesc r).setReg k (value &&& ringCfgMask o)
      (t.setReg (Reg.ringHead r) 0).setReg (Reg.ringTail r) 0

/-! ### Descriptors (R247 to R251) -/

/-- A descriptor as it stands in memory (R248). -/
structure Desc where
  op  : Nat
  irq : Bool
  len : Nat
  src : Nat
  dst : Nat
  bad : Bool
  deriving DecidableEq, Repr

/-- The descriptor at address `a`; `bad` says that it completes with BAD_DESC (R251). -/
def State.readDesc (s : State) (a ctx : Nat) : Desc :=
  let w (i : Nat) : Word := s.mem.word (a + 4 * i)
  let op := bits (w 0) 3 0
  let hi (i : Nat) : Bool := bits (w i) 31 8 != 0 || (ctx != 15 && bits (w i) 7 0 != 0)
  { op := op, irq := bit (w 0) 4, len := (w 1).toNat
    src := (w 2).toNat + bits (w 3) 7 0 * 2 ^ 32, dst := (w 4).toNat + bits (w 5) 7 0 * 2 ^ 32
    bad := !(op == 1 || op == 2) || bits (w 0) 15 5 != 0 || hi 3 || hi 5 || bits (w 6) 11 5 != 0 }

/-- A ring has work for a free mover (R247): pending descriptors and none in progress, or a descriptor that RESUME has
restarted. -/
def State.ringReady (s : State) (r : Nat) : Bool :=
  match s.descOf r with
  | some d => d.halt.isNone && d.mover.isNone
  | none => s.ringSize r != 0 && s.reg (Reg.ringHead r) != s.reg (Reg.ringTail r)

/-- The ring that a free mover serves: the highest PRIO, and among equals in turn (R247). -/
def State.nextRing (s : State) : Option Nat :=
  let prio (r : Nat) := s.fld (Reg.ringCfg r) 22 21
  let turn (p : Nat) : Option Nat :=
    ((List.range 64).map (fun i => (s.ringTurn[Fin.ofNat 4 p] + i) % 64)).find?
      (fun r => prio r == p && s.ringReady r)
  match turn 3 with
  | some r => some r
  | none => match turn 2 with
    | some r => some r
    | none => match turn 1 with
      | some r => some r
      | none => turn 0

/-- DESCRIPTOR_START (R247). -/
def descriptorStart (mover : Fin 4) (s : State) : State :=
  if !s.domainUp 1 || s.descs.any (fun d => d.mover == some mover.val) then s
  else match s.nextRing with
    | none => s
    | some r =>
      let d : DescRun := match s.descOf r with
        | some d => { d with mover := some mover.val, doneAt := s.opNs }
        | none => ⟨r, some mover.val, 0, s.opNs, none, 0⟩
      { s.setDesc r (some d) with ringTurn := s.ringTurn.set (Fin.ofNat 4 (s.fld (Reg.ringCfg r) 22 21)) ((r + 1) % 64) }

/-- How far a descriptor came and how it ended. -/
inductive DescEnd where
  | ok
  | ecc
  | fault (code : Nat) (dstSide : Bool) (va : Nat)
  deriving DecidableEq, Repr

/-- One byte is written by a background mover; an IMEM word takes the quality `q` with it (R234, R249). -/
def State.moverByte (s : State) (a : Nat) (b : Byte) (q : BitVec 4) : State :=
  match memKind a with
  | .imem ofs =>
    let i := (a - imemBase) % 4
    s.imemPut ofs (bytesWord ((wordBytes (s.imemWord ofs)).set i b)) q
  | _ =>
    let s := (s.migrateRange a 1).writeMem a [b]
    if s.store ≤ a ∧ a < s.store + s.instLen then s.touchStore (a - s.store) 1 else s

/-- The quality that a byte read at `a` brings (R234). -/
def State.byteQual (s : State) (a : Nat) : BitVec 4 :=
  if imemBase ≤ a ∧ a < imemBase + 0x04000000 then s.imemQual ((a - imemBase) / 4 * 4) else 0

/-- `n` bytes are copied in ascending order as if one at a time (R249). -/
def State.copyRun (s : State) (src dst : Nat) : Nat → State
  | 0 => s
  | n + 1 => (s.moverByte dst ((s.dataRead src 1).headD 0) (s.byteQual src)).copyRun (src + 1) (dst + 1) n

/-- `n` bytes of a pattern are written; the first has index `i` (R249). -/
def State.fillRun (s : State) (pat : Bytes) (i dst : Nat) : Nat → State
  | 0 => s
  | n + 1 => (s.moverByte dst (pat.getD (i % 4) 0) 0).fillRun pat (i + 1) (dst + 1) n

/-- Words that lie whole in [a, a + n) have been written and lose their poison mark (R229). -/
def State.unpoison (s : State) (a n : Nat) : State :=
  { s with poison := s.poison.filter (fun p => !wholeIn p a n) }

/-- A descriptor's translations so far: the source and the destination page it works in, with their frames. -/
structure DescPages where
  src : Option (Nat × Nat)
  dst : Option (Nat × Nat)
  deriving DecidableEq, Repr

/-- The physical address of `va` through the page that the mover is on, or a new translation (R241, R249). -/
def State.pageAddr (s : State) (ctx va : Nat) (on : Option (Nat × Nat)) (write : Bool) : State × Trans :=
  match on with
  | some p => if ctx ≠ 15 ∧ p.1 = va / 0x1000 then (s, .phys (p.2 + va % 0x1000)) else s.translate ctx va write
  | none => s.translate ctx va write

/-- A fault status of a translation, if it is one (R248). -/
def Trans.code : Trans → Option Nat
  | .phys _ => none
  | .pageFault => some 2
  | .perm => some 6

/-- The bytes to the end of the source line, of both pages and of the descriptor. -/
def runLen (op len done src dst : Nat) : Nat :=
  min (len - done) (min (4096 - dst % 4096) (if op = 1 then 64 - src % 64 else 4096))

/-- A COPY or FILL works on from `done` bytes, one stretch after another, each within one source line and one page on
each side; `fuel` bounds the stretches (R249 to R251). The source is translated first (R250); a stretch whose source
line holds an uncorrectable word that the descriptor reads ends it with ECC before that line (R251). -/
def State.runDesc (s : State) (ctx : Nat) (d : Desc) : Nat → Nat → Nat → DescPages → State × Nat × DescEnd
  | 0, done, _, _ => (s, done, .ok)
  | fuel + 1, done, line, pg =>
    if d.len ≤ done then (s, done, .ok)
    else
      let src := d.src + done
      let dst := d.dst + done
      let x := if d.op = 1 then s.pageAddr ctx src pg.src false else (s, .phys 0)
      match x.2 with
      | .pageFault => (x.1, done, .fault 2 false src)
      | .perm => (x.1, done, .fault 6 false src)
      | .phys a =>
        let line := if d.op = 1 && src % 64 == 0 then done else line
        if d.op = 1 && x.1.dataPoisoned a (min (64 - src % 64) (d.len - done)) then (x.1, line, .ecc)
        else
          let y := x.1.pageAddr ctx dst pg.dst true
          match y.2 with
          | .pageFault => (y.1, done, .fault 2 true dst)
          | .perm => (y.1, done, .fault 6 true dst)
          | .phys b =>
            let n := runLen d.op d.len done src dst
            let t := if d.op = 1 then y.1.copyRun a b n else y.1.fillRun (toLe 4 (d.src % 2 ^ 32)) done b n
            (t.unpoison b n).runDesc ctx d fuel (done + n) line
              ⟨some (src / 0x1000, a - a % 0x1000), some (dst / 0x1000, b - b % 0x1000)⟩

/-- The whole of what a descriptor in progress does from its DONE on (R249 to R251). -/
def State.workDesc (s : State) (x : DescRun) : State × Nat × DescEnd :=
  let ctx := s.ringCtx x.ring
  let d := s.readDesc (s.descAddr x.ring (s.reg (Reg.ringTail x.ring)).toNat) ctx
  s.runDesc ctx d (d.len - x.done + 1) x.done x.done ⟨none, none⟩

/-- A descriptor completes: STATUS and DONE are written, RING_TAIL advances, DONE is raised if asked (R248). -/
def State.endDesc (s : State) (r : Nat) (code : Nat) (status : Word) (done : Nat) (irq : Bool) : State :=
  let tail := s.reg (Reg.ringTail r)
  let a := s.descAddr r tail.toNat
  let s := s.writeMem (a + 0x18) (wordBytes status ++ toLe 4 done)
  let s := (s.setDesc r none).setReg (Reg.ringTail r) (tail + 1)
  let s := (s.setFld (Reg.ringStat r) 3 0 code).setFld (Reg.ringStat r) 4 4 0
  if irq then s.raise (pRING r) 0 else s

/-- The descriptor of a ring that a mover works on, with its fields; a wedged ring gets no further (R384). -/
def State.activeDesc (s : State) (r : Nat) : Option (DescRun × Desc) :=
  match s.descOf r with
  | some x => if x.mover.isSome && x.halt.isNone && !s.wedged.contains (pRING r) then
      some (x, s.readDesc (s.descAddr r (s.reg (Reg.ringTail r)).toNat) (s.ringCtx r)) else none
  | none => none

/-- DESCRIPTOR_COMPLETE (R248, R249, R251): a descriptor that a fault stops does not complete. -/
def descriptorComplete (ring : Fin 64) (s : State) : State :=
  let r := ring.val
  match s.activeDesc r with
  | none => s
  | some (x, d) =>
    if d.bad then ((s.endDesc r 4 4 0 d.irq).raise (pRING r) 2)
    else if d.len = 0 then s.endDesc r 1 1 0 d.irq
    else
      match s.workDesc x with
      | (t, done, .ok) => t.endDesc r 1 1 done d.irq
      | (t, done, .ecc) => t.endDesc r 3 3 done d.irq
      | (_, _, .fault _ _ _) => s

/-- RING_PAGE_FAULT (R250): the ring halts with its descriptor in progress. -/
def ringPageFault (ring : Fin 64) (s : State) : State :=
  let r := ring.val
  match s.activeDesc r with
  | none => s
  | some (x, d) =>
    if d.bad || d.len == 0 then s
    else
      match s.workDesc x with
      | (t, done, .fault code side va) =>
        let st := BitVec.ofNat 32 (code + b2n side * 16 + va / 0x1000 % 2 ^ 20 * 2 ^ 12)
        let a := t.descAddr r (t.reg (Reg.ringTail r)).toNat
        let t := (t.writeMem (a + 0x18) (wordBytes st ++ toLe 4 done)).setDesc r (some ⟨r, none, done, t.opNs, some code, st⟩)
        let t := ((t.setFld (Reg.ringStat r) 3 0 code).setFld (Reg.ringStat r) 4 4 1).incSat (Reg.ringStat r) 31 16
        let i := BitVec.ofNat 32 (r + b2n side * 64 + b2n (code == 6) * 128 + t.ringCtx r * 256)
        let t := (t.raise (pRING r) 1).setReg Reg.mmuFaultVa (BitVec.ofNat 32 va)
        ((t.setReg Reg.mmuFaultInfo i).raise pMMU 0).logErr pMMU 0x0101 i
      | _ => s

/-- RING_CMD in a ring that is halted (R250, R257). -/
def State.ringCmd (s : State) (r : Nat) (f : State → DescRun → Nat → State) : State :=
  if !s.domainUp 1 then s.downError (pRING r)
  else match s.descOf r with
    | some d => match d.halt with
      | some code => f s d code
      | none => s.refuse (Reg.ringCmd r)
    | none => s.refuse (Reg.ringCmd r)

/-- RING_CMD RESUME (R250). -/
def ringCmdResume (ring : Fin 64) (s : State) : State :=
  s.ringCmd ring.val fun s d _ =>
    (s.setDesc ring.val (some { d with halt := none, status := 0, doneAt := s.opNs })).setFld (Reg.ringStat ring.val) 4 4 0

/-- RING_CMD SKIP (R250). -/
def ringCmdSkip (ring : Fin 64) (s : State) : State :=
  s.ringCmd ring.val fun s d code =>
    let r := ring.val
    let x := s.readDesc (s.descAddr r (s.reg (Reg.ringTail r)).toNat) (s.ringCtx r)
    s.endDesc r code d.status d.done x.irq

/-! ### Host-owned rings (R475) -/

/-- The key slot of the message owns the ring. -/
def State.ownsRing (s : State) (m : HapMsg) (r : Nat) : Bool :=
  decide (r < 64) && s.domainUp 1 && s.ringSize r != 0 && s.fld (Reg.ringCfg r) 23 23 == 1 && s.ringCtx r == 1 + m.key

/-- RING_PUSH (R475). -/
def ringPush (src : HapSrc) (msg : Bytes) (s : State) : State :=
  s.hapRow src msg 3 fun s m =>
    let r := leAt m.body 0 1
    let n := m.count
    if n = 0 ∨ 40 < n ∨ m.body.length ≠ 4 + 32 * n then s.hapReply m 5 0 []
    else if !s.ownsRing m r then s.hapReply m 8 0 []
    else
      let head := s.reg (Reg.ringHead r)
      let tail := s.reg (Reg.ringTail r)
      if s.ringSize r < (head - tail).toNat + n then s.hapReply m 6 0 []
      else
        let t := (List.range n).foldl (fun s i =>
          s.writeMem (s.descAddr r (head + BitVec.ofNat 32 i).toNat) (slice m.body (4 + 32 * i) 32)) s
        let h := head + BitVec.ofNat 32 n
        (t.setReg (Reg.ringHead r) h).hapReply m 0 0 (wordBytes h ++ wordBytes tail)

/-- RING_PULL (R475). -/
def ringPull (src : HapSrc) (msg : Bytes) (s : State) : State :=
  s.hapRow src msg 4 fun s m =>
    let r := leAt m.body 0 1
    let n := m.count
    if 40 < n ∨ m.body.length ≠ 8 then s.hapReply m 5 0 []
    else if !s.ownsRing m r then s.hapReply m 8 0 []
    else
      let from_ := BitVec.ofNat 32 (leAt m.body 4 4)
      let b := (List.range n).flatMap (fun i => s.mem.read (s.descAddr r (from_ + BitVec.ofNat 32 i).toNat) 32)
      s.hapReply m 0 0 (wordBytes (s.reg (Reg.ringHead r)) ++ wordBytes (s.reg (Reg.ringTail r))
        ++ wordBytes (s.reg (Reg.ringStat r)) ++ b)

/-! ### The commands -/

/-- RING_HEAD_WRITE (R246). -/
def execRingHeadWrite (ring : Fin 64) (value : Word) (s : State) : Host.Outcome State Fault Refusal := .next (ringHeadWrite ring value s)
/-- RING_CFG_WRITE (R252). -/
def execRingCfgWrite (ring : Fin 64) (ofs : BitVec 12) (value : Word) (s : State) : Host.Outcome State Fault Refusal := .next (ringCfgWrite ring ofs value s)
/-- DESCRIPTOR_START (R247). -/
def execDescriptorStart (mover : Fin 4) (s : State) : Host.Outcome State Fault Refusal := .next (descriptorStart mover s)
/-- DESCRIPTOR_COMPLETE (R248). -/
def execDescriptorComplete (ring : Fin 64) (s : State) : Host.Outcome State Fault Refusal := .next (descriptorComplete ring s)
/-- RING_PAGE_FAULT (R250). -/
def execRingPageFault (ring : Fin 64) (s : State) : Host.Outcome State Fault Refusal := .next (ringPageFault ring s)
/-- RING_CMD_RESUME (R250). -/
def execRingCmdResume (ring : Fin 64) (s : State) : Host.Outcome State Fault Refusal := .next (ringCmdResume ring s)
/-- RING_CMD_SKIP (R250). -/
def execRingCmdSkip (ring : Fin 64) (s : State) : Host.Outcome State Fault Refusal := .next (ringCmdSkip ring s)
/-- RING_PUSH (R475). -/
def execRingPush (src : HapSrc) (msg : Bytes) (s : State) : Host.Outcome State Fault Refusal := .next (ringPush src msg s)
/-- RING_PULL (R475). -/
def execRingPull (src : HapSrc) (msg : Bytes) (s : State) : Host.Outcome State Fault Refusal := .next (ringPull src msg s)

end Sys2Proof.Machine
end

