-- ==== Sys2Proof/Machine/Update.lean ====
section
/-! DEFINITION. Firmware update without interruption: storing an image, handover, trial, confirmation and return
(R442 to R461). -/

namespace Sys2Proof.Machine

/-- The update engine replaced by `f` of it. -/
def State.modUpd (s : State) (f : Update → Update) : State := { s with upd := f s.upd }

/-- The spare bank: true for B. -/
def State.spare (s : State) : Bool := !s.upd.runB

/-- A command or a handover completes with a code (UPD_RESULT). -/
def State.updResult (s : State) (code : Nat) : State :=
  (s.setFld Reg.updResult 15 0 code).incWrap Reg.updResult 31 16

/-- A command completes (R461). -/
def State.updDone (s : State) (code : Nat) : State := (s.updResult code).raise pUPD 0

/-- A command that is not allowed (R461). -/
def State.updRefuse (s : State) : State := s.refuse Reg.updCmd

/-! ### Checking and storing an image (R448, R449) -/

/-- FMT_VER of the boards that reason 4 of R448 looks at. -/
def State.boardFmts (s : State) : List Nat :=
  (if s.boards.activeArea.isEmpty then [] else [(parseBoard s.boards.activeArea).hdr.fmtVer])
    ++ (if s.boards.standby = .stored ∨ s.boards.standby = .armed then [(parseBoard s.boards.standbyArea).hdr.fmtVer]
        else [])

/-- The reason of the first check of R448 that an image of `len` bytes fails; `flashOk` is false when the flash
failed. -/
def State.imageReason (s : State) (img : Bytes) (len : Nat) (flashOk : Bool) : Option Nat :=
  let run := s.bankImg s.upd.runB
  match imgFormat img len (s.fld Reg.secStat 8 8) s.boot.extKey with
  | some r => some r
  | none =>
    let min := leAt img 0x14 2
    let max := leAt img 0x16 2
    if s.boardFmts.any (fun v => decide (v < min ∨ max < v)) then some 4
    else if imgHoFmt run < imgHoMin img ∨ imgHoFmt img < imgHoFmt run then some 5
    else if !flashOk then some 6
    else none

/-- An image check fails (R448, R461). -/
def State.imageBad (s : State) (r : Nat) : State :=
  (s.logErr pUPD 0x0101 (BitVec.ofNat 32 (r + b2n s.spare * 16))).updDone 0x0101

/-- The staged image. -/
def State.stagedImage (s : State) : Bytes :=
  s.mem.read fwStaging (min (s.reg Reg.updStgLen).toNat 0x4000000)

/-- A VERIFY or STORE begins: the engine is BUSY outside a trial. -/
def State.updBegin (s : State) (op : UpdOp) : State :=
  s.modUpd fun u => { u with running := some op, state := if u.state = .idle then .busy else u.state }

/-- The engine's command has ended. -/
def State.updEnd (s : State) : State :=
  s.modUpd fun u => { u with running := none, state := if u.state = .busy then .idle else u.state }

/-- UPD_CMD VERIFY (R448): refused while another command or a handover uses the staging area. -/
def updCmdVerify (s : State) : State :=
  s.onPage pUPD fun s =>
    if s.upd.running.isSome || s.upd.state == .pending || s.handingOver then s.updRefuse else s.updBegin .verify

/-- A handover or a trial has not ended (R449): the inactive library half is in use, until LANE_LIB HALF has changed,
or still needed. -/
def State.libInUse (s : State) : Bool := s.upd.state != .idle || s.upd.libPend

/-- UPD_CMD STORE (R448, R449). -/
def updCmdStore (s : State) : State :=
  s.onPage pUPD fun s => if s.upd.running.isSome || s.libInUse then s.updRefuse else s.updBegin .store

/-- UPD_CMD DISCARD (R449). -/
def updCmdDiscard (s : State) : State :=
  s.onPage pUPD fun s =>
    if s.upd.running.isSome || s.libInUse then s.updRefuse
    else ((s.setImg s.spare []).setBank s.spare .empty).updDone 0

/-- STORE carries out its four steps (R448). -/
def State.storeImage (s : State) (img : Bytes) : State :=
  let s := (s.setImg s.spare img).setBank s.spare .staged
  s.writeLib (imgLib img) (1 - b2n s.upd.half) (fun n => s.lanes[n].state != .borneOff)

/-- A HANDOVER that was accepted while a VERIFY ran goes on with its own re-verification (R450). -/
def State.reverifyNext (s : State) : State :=
  if s.upd.state = .pending then s.modUpd fun u => { u with running := some .reverify } else s

/-- A staging claim of the images ends (R477). -/
def State.endImageClaim (s : State) : State := s.setClaim true none

/-- UPD_CMD_DONE (R448, R450): the running command completes; `flashOk` is false when the flash write, its
read-back or the re-reading of the bank failed. -/
def updCmdDone (flashOk : Bool) (s : State) : State :=
  match s.upd.running with
  | none => s
  | some .verify =>
    let img := s.stagedImage
    let s := s.updEnd.endImageClaim.reverifyNext
    match s.imageReason img (s.reg Reg.updStgLen).toNat true with
    | some r => s.imageBad r
    | none => s.updDone 0
  | some .store =>
    let s := s.updEnd.endImageClaim
    match s.imageReason s.stagedImage (s.reg Reg.updStgLen).toNat flashOk with
    | some 6 => (((s.setImg s.spare []).setBank s.spare .empty).raise pUPD 5).imageBad 6
    | some r => s.imageBad r
    | none => (s.storeImage s.stagedImage).updDone 0
  | some .reverify =>
    let img := s.bankImg s.spare
    let s := (s.writeMem fwStaging img).modUpd fun u => { u with running := none }
    match s.imageReason img img.length flashOk with
    | some r => (s.modUpd fun u => { u with state := .idle }).imageBad r
    | none => (s.modUpd fun u => { u with ready := true, verified := s.rsn }).updDone 0

/-! ### Handover (R450 to R455) -/

/-- A trial or a handover is in progress, or a STORE writes the spare bank; a VERIFY stands in nobody's way (R450). -/
def State.updEngaged (s : State) : Bool :=
  if s.upd.state == .busy then s.upd.running != some .verify || s.upd.libPend else s.libInUse || s.upd.running.isSome

/-- The conditions of R450; State.changeAgreed says which changes are agreed. -/
def State.mayHandOver (s : State) : Bool :=
  let b := s.bankState s.spare
  (b == .staged || b == .previous) && s.libStands (imgLib (s.bankImg s.spare)) (1 - b2n s.upd.half)
    && (s.state == .follower || s.state == .mute || s.state == .boot || s.state == .stoodDown
      || (s.state == .leader && s.partnerState != 2))
    && !s.changeAgreed
    && s.pair.castle.isNone && s.pair.xfer.isNone && s.pair.check.isNone
    && !s.updEngaged

/-- UPD_CMD HANDOVER (R450): the re-verification begins, behind a VERIFY that still runs. -/
def updCmdHandover (s : State) : State :=
  s.onPage pUPD fun s =>
    if !s.mayHandOver then s.updRefuse
    else s.modUpd fun u => { u with
      state := .pending, running := if u.running = some .verify then u.running else some .reverify, ready := false }

/-- UPD_CMD CANCEL (R450). -/
def updCmdCancel (s : State) : State :=
  s.onPage pUPD fun s =>
    if s.upd.state != .pending then s.updRefuse
    else
      let verify := s.upd.running == some .verify
      (s.modUpd fun u => { u with
        state := if verify then .busy else .idle, running := if verify then u.running else none, ready := false }).updDone 0

/-- The steward watchdog is paused (R451, R483). -/
def State.wdtPause (s : State) : State :=
  if s.host.wdtPaused then s
  else { s with host := { s.host with wdtPaused := true, wdtEnd := s.host.wdtEnd - s.opNs } }

/-- The steward watchdog runs on. -/
def State.wdtResume (s : State) : State :=
  if s.host.wdtPaused then { s with host := { s.host with wdtPaused := false, wdtEnd := s.opNs + s.host.wdtEnd } } else s

/-- The handover or the return begins at the boundary at which the state stands (R451, R457). -/
def State.hoBegin (s : State) (ret : Bool) : State :=
  (s.modUpd fun u => { u with state := .serialising, ret := ret, useForward := false, hoStart := s.opNs }).wdtPause

/-- The round that begins at the boundary opens a turn, or the sequencer is not in RUN (R451, R457). -/
def State.turnEdge (s : State) : Bool := s.seqr.state != .run || s.rsn.toNat % s.turnLen == 0

/-- HANDOVER_SWITCH_POINT (R451): T. -/
def handoverSwitchPoint (s : State) : State :=
  if s.upd.state != .pending || !s.upd.ready then s
  else
    let t := s.atBoundary
    if t.turnEdge && !(t.seqr.state == .run && later (s.upd.verified + 16) t.rsn) then t.hoBegin false else s

/-- SER_LIMIT in ns (R461). -/
def State.serLimit (s : State) : Nat := max 100 (s.fld Reg.updCtrl 21 12) * 1000000
/-- START_LIMIT in ns (R461). -/
def State.startLimit (s : State) : Nat := max 500 (s.fld Reg.updCtrl 11 0) * 1000000
/-- CONF_LIMIT in ms (R461). -/
def State.confLimit (s : State) : Nat :=
  let n := s.fld Reg.updCtrl 31 22
  (if n = 0 then 600 else n) * 1000

/-- BRD_FMT takes the range of the bank that runs (R460). -/
def State.loadBrdFmt (s : State) : State := s.setReg Reg.brdFmt (imgBrdFmt (s.bankImg s.upd.runB))

/-- Group `g` of a settings area has the format that the image gives it. -/
def Settings.fits (a : Settings) (img : Bytes) (g : Nat) : Bool := a.fmts.getD g 0 == imgSetFmt img g

/-- A steward starts after a handover (R459): it takes the settings in use, which the area of the running firmware holds,
into the other area, with the groups of another format at their defaults; `written` is false when the write of the area
failed (R461). -/
def State.startSettings (s : State) (written : Bool) : State :=
  let img := s.bankImg s.upd.runB
  let a := s.settings s.upd.setA.fmts
  let mask := (List.range 8).foldl (fun m g => if a.fits img g then m else m + 2 ^ g) 0
  let s := s.useSettings .reset settingDefault (fun g => !a.fits img g)
  let b := s.settings ((List.range 8).map (imgSetFmt img))
  let s := (s.modUpd fun u => { u with setA := a, setB := b, swapped := true }).setFld Reg.updSet 7 0 mask
  let s := s.event 0xE004 pSTW .critical (toLe 1 mask ++ zeros 3)
  if written then s else (s.logErr pUPD 0x0104 0).raise pUPD 5

/-- The former firmware uses its own settings again; the groups in which the trial changed some, which are lost, are
recorded (R459, assumption 106). -/
def State.returnSettings (s : State) : State :=
  if !s.upd.swapped then s
  else
    let lost := (s.settings s.upd.setB.fmts).differ s.upd.setB
    let s := s.useSettings s.upd.setA (fun x => s.upd.setA.value x.1) (fun _ => true)
    let s := s.modUpd fun u => { u with swapped := false }
    if lost = 0 then s else s.event 0xE004 pSTW .critical (toLe 1 lost ++ zeros 3)

/-- The key slots whose open transactions and claims a return on the forward block loses (R457, R484). -/
def State.lostSessions (s : State) : Nat :=
  let l := s.host.reasm.map Reasm.key ++ s.host.boardClaim.toList.map Claim.key ++ s.host.imageClaim.toList.map Claim.key
  (List.range 8).foldl (fun m k => if l.contains k then m + 2 ^ k else m) 0

/-- The received frames that have no timestamp yet: the new steward takes theirs late (R454). -/
def State.lateFrames (s : State) : Nat :=
  (s.can.toList.flatMap (fun c => c.q0 ++ c.q1)).countP (fun e => e.stamp.isNone)

/-- HANDED of a handover (R451, R452, R454, R456, R459, R460). -/
def State.handed (s : State) (len : Word) (w : HandedWrites) : State :=
  let s := (s.writeBanks (fun u => u.bank (!u.runB) .trial) w.choice).modUpd fun u => { u with
    runB := !u.runB, state := .trial, libPend := true, hoLen := len, hoLate := BitVec.ofNat 32 s.lateFrames
    deadline := s.opTime + BitVec.ofNat 48 s.confLimit }
  ((((s.startSettings w.settings).loadBrdFmt).updResult 0).raise pUPD 1).wdtResume

/-- HANDED of a return (R457, R459, R460, R484). The trial bank becomes FAILED once LANE_LIB HALF has changed back. -/
def State.returned (s : State) (len : Word) : State :=
  let lost := if s.upd.useForward then s.lostSessions else 0
  let s := if s.upd.useForward then { s with host := { s.host with reasm := [], boardClaim := none, imageClaim := none } }
    else s
  let s := s.modUpd fun u => { u with
    runB := !u.runB, state := .fallback, libPend := true, hoLen := len, hoLate := BitVec.ofNat 32 s.lateFrames, deadline := 0 }
  let s := s.returnSettings
  let s := (s.loadBrdFmt.incSat Reg.updSet 31 16).event 0xE006 pSTW .critical (toLe 1 s.upd.failCause ++ zeros 3 ++ toLe 1 lost)
  ((s.updResult 0x0103).raise pUPD 1).wdtResume

/-- The last step of a return (R457): the trial bank becomes FAILED. -/
def State.returnEnds (s : State) : State :=
  if s.upd.ret && s.upd.state == .fallback then
    (s.setBank s.spare .failed).modUpd fun u => { u with state := .idle, ret := false }
  else s

/-- A handover is cancelled or aborted at a step: the running bank's steward goes on, after an abort reloaded on the
unchanged forward block (R451, R461). -/
def State.hoFail (s : State) (step : Nat) : State :=
  let s := if step = 2 then s.startSteward s.upd.runB (some .forward) else s
  let s := (s.raise pUPD 4).logErr pUPD 0x0102 (BitVec.ofNat 32 step)
  (((s.modUpd fun u => { u with state := if u.ret then .fallback else .idle }).updResult 0x0102)).wdtResume

/-- The steward of the spare bank is loaded and starts at its ENTRY on the block of this handover (R451, R457). -/
def State.hoStarting (s : State) (ms : Nat) : State :=
  let s := s.startSteward s.spare (some (if s.upd.ret && !s.upd.useForward then .back else .forward))
  (s.setFld Reg.updHoTime 15 0 ms).modUpd fun u => { u with state := .starting }

/-- SER_LIMIT_EXPIRY (R451, R457): a return goes on with the forward block. -/
def serLimitExpiry (s : State) : State :=
  if s.upd.state != .serialising then s
  else
    let s := s.waitOp (s.upd.hoStart + s.serLimit)
    if s.upd.ret then (s.modUpd fun u => { u with useForward := true }).hoStarting (s.serLimit / 1000000)
    else s.hoFail 1

/-- START_LIMIT_EXPIRY (R451); a return that misses it begins again (assumption 21). -/
def startLimitExpiry (s : State) : State :=
  if s.upd.state != .starting then s else (s.waitOp (s.upd.hoStart + s.startLimit)).hoFail 2

/-- UPD_HO_CMD SERIALISED (R451, R457), `ms` after T: the steward has written its handover block, of which `block` is
what is not yet in its area. After SER_LIMIT the limit has cancelled the step. -/
def updHoSerialised (hap : Bool) (ms : BitVec 16) (block : Bytes) (s : State) : State :=
  if !s.domainUp 8 then s.downError pUPD
  else if hap then s.refuse Reg.updHoCmd
  else if s.upd.state != .serialising then s
  else if s.serLimit < ms.toNat * 1000000 then serLimitExpiry s
  else
    let s := s.waitOp (s.upd.hoStart + ms.toNat * 1000000)
    (s.writeMem (if s.upd.ret then HoBlock.back else .forward).base (block.take 0x04000000)).hoStarting ms.toNat

/-- UPD_HO_CMD HANDED (R451, R452, R457), `ms` after SERIALISED; the block has `len` bytes. The new steward then serves
the frames that wait for their timestamps (R454). After START_LIMIT the limit has aborted the step. -/
def updHoHanded (hap : Bool) (ms : BitVec 16) (len : Word) (w : HandedWrites) (s : State) : State :=
  let d := (s.fld Reg.updHoTime 15 0 + ms.toNat) * 1000000
  if !s.domainUp 8 then s.downError pUPD
  else if hap then s.refuse Reg.updHoCmd
  else if s.upd.state != .starting then s
  else if s.startLimit < d then startLimitExpiry s
  else
    let s := s.waitOp (s.upd.hoStart + d)
    let s := s.setFld Reg.updHoTime 31 16 ms.toNat
    (if s.upd.ret then s.returned len else s.handed len w).canServe

/-- The status word of a job in a lane's save area becomes STATE 3, INVALID 1, if the job's PC lies in the library
(R453); an EMPTY save area holds no job (R170). -/
def State.dropLibJob (s : State) (n : Fin 16) : State × Nat :=
  let a := laneBase n + s.saveArea
  let st := s.mem.word a
  let pc := (s.mem.word (a + 128)).toNat
  if bits st 1 0 ≠ 0 ∧ 0x00200000 ≤ pc ∧ pc < 0x00300000 then
    (s.writeMem a (wordBytes (withBits st 2 0 7)), 1)
  else (s, 0)

/-- LIBRARY_SWITCH (R452, R453, R457, R484): at the round boundary after HANDED. A job that still runs there is saved
first; a return ends with it. -/
def librarySwitch (s : State) : State :=
  if !s.upd.libPend then s
  else
    let t := s.atBoundary
    let t := over16 (fun t n => if t.lanes[n].act = .job then t.saveJob n t.lanes[n].jobStat (lclkNs 40) else t) t
    let t := over16 (fun t n =>
      if t.domainUp (4 + n.val / 4) then t.setFld (Reg.laneLib n) 0 0 (1 - t.libHalf n) else t) t
    let t := t.modUpd fun u => { u with libPend := false, half := !u.half }
    let r := (List.finRange 16).foldl (fun (x : State × Nat) n =>
      if x.1.domainUp (4 + n.val / 4) then
        let y := x.1.dropLibJob n
        (y.1, x.2 + y.2)
      else x) (t, 0)
    r.1.returnEnds.event 0xE005 pSTW .normal (wordBytes t.upd.hoLen ++ wordBytes t.upd.hoLate ++ toLe 4 r.2)

/-! ### Trial, confirmation and return (R456 to R458) -/

/-- The trial has failed (R456, R457). -/
def State.trialFailed (s : State) (cause code : Nat) : State :=
  s.modUpd fun u => { u with state := .fallback, failCause := cause, failCode := code, deadline := 0 }

/-- CONF_LIMIT_EXPIRY (R456). -/
def confLimitExpiry (s : State) : State :=
  if s.upd.state != .trial then s else (s.waitOp (s.upd.deadline.toNat * 1000000)).trialFailed 1 0

/-- A confirmation that comes after CONF_LIMIT finds the trial failed (R456). -/
def State.trialDue (s : State) : State := if s.upd.deadline.toNat < s.opTime.toNat then confLimitExpiry s else s

/-- UPD_CONFIRM RESULT 1 (R456, R459); `written` is false when the bank choice record could not be written (R461). -/
def updConfirmOk (hap : Bool) (key : BitVec 16) (written : Bool) (s : State) : State :=
  if !s.domainUp 8 then s.downError pUPD
  else if hap then s.refuse Reg.updConfirm
  else if key ≠ 0xC0F1 then s
  else
    let s := s.trialDue
    if s.upd.state != .trial then s.refuse Reg.updConfirm
    else
      let s := s.writeBanks (fun u => (u.bank u.runB .confirmed).bank (!u.runB) .previous) written
      (s.modUpd fun u => { u with
        state := .idle, deadline := 0, swapped := false, setA := if u.swapped then u.setB else u.setA }).raise pUPD 2

/-- UPD_CONFIRM RESULT 2 (R456). -/
def updConfirmFail (hap : Bool) (code : Byte) (s : State) : State :=
  if !s.domainUp 8 then s.downError pUPD
  else if hap then s.refuse Reg.updConfirm
  else
    let s := s.trialDue
    if s.upd.state != .trial then s.refuse Reg.updConfirm else s.trialFailed 2 code.toNat

/-- FALLBACK_RETURN (R457): at the next turn boundary, or round boundary outside RUN; a library switch that is due at
that boundary comes before it (R452). -/
def fallbackReturn (s : State) : State :=
  if s.upd.state != .fallback || s.upd.libPend then s
  else
    let t := s.atBoundary
    if t.turnEdge then
      let i := BitVec.ofNat 32 (s.upd.failCause + s.upd.failCode * 256)
      ((t.raise pUPD 3).logErr pUPD 0x0103 i).hoBegin true
    else s

/-! ### The commands -/

/-- UPD_CMD_VERIFY (R448). -/
def execUpdCmdVerify (s : State) : Host.Outcome State Fault Refusal := .next (updCmdVerify s)
/-- UPD_CMD_STORE (R448). -/
def execUpdCmdStore (s : State) : Host.Outcome State Fault Refusal := .next (updCmdStore s)
/-- UPD_CMD_DISCARD (R449). -/
def execUpdCmdDiscard (s : State) : Host.Outcome State Fault Refusal := .next (updCmdDiscard s)
/-- UPD_CMD_HANDOVER (R450). -/
def execUpdCmdHandover (s : State) : Host.Outcome State Fault Refusal := .next (updCmdHandover s)
/-- UPD_CMD_CANCEL (R450). -/
def execUpdCmdCancel (s : State) : Host.Outcome State Fault Refusal := .next (updCmdCancel s)
/-- UPD_CMD_DONE (R448). -/
def execUpdCmdDone (flashOk : Bool) (s : State) : Host.Outcome State Fault Refusal := .next (updCmdDone flashOk s)
/-- HANDOVER_SWITCH_POINT (R451). -/
def execHandoverSwitchPoint (s : State) : Host.Outcome State Fault Refusal := .next (handoverSwitchPoint s)
/-- UPD_HO_SERIALISED (R451). -/
def execUpdHoSerialised (hap : Bool) (report : Serialised) (s : State) : Host.Outcome State Fault Refusal :=
  .next (updHoSerialised hap report.ms report.block s)
/-- UPD_HO_HANDED (R452). -/
def execUpdHoHanded (hap : Bool) (ms : BitVec 16) (len : Word) (writes : HandedWrites) (s : State) :
    Host.Outcome State Fault Refusal := .next (updHoHanded hap ms len writes s)
/-- SER_LIMIT_EXPIRY (R451). -/
def execSerLimitExpiry (s : State) : Host.Outcome State Fault Refusal := .next (serLimitExpiry s)
/-- START_LIMIT_EXPIRY (R451). -/
def execStartLimitExpiry (s : State) : Host.Outcome State Fault Refusal := .next (startLimitExpiry s)
/-- LIBRARY_SWITCH (R452). -/
def execLibrarySwitch (s : State) : Host.Outcome State Fault Refusal := .next (librarySwitch s)
/-- UPD_CONFIRM_OK (R456). -/
def execUpdConfirmOk (hap : Bool) (conf : Confirmation) (s : State) : Host.Outcome State Fault Refusal :=
  .next (updConfirmOk hap conf.key conf.written s)
/-- UPD_CONFIRM_FAIL (R456). -/
def execUpdConfirmFail (hap : Bool) (code : Byte) (s : State) : Host.Outcome State Fault Refusal := .next (updConfirmFail hap code s)
/-- CONF_LIMIT_EXPIRY (R456). -/
def execConfLimitExpiry (s : State) : Host.Outcome State Fault Refusal := .next (confLimitExpiry s)
/-- FALLBACK_RETURN (R457). -/
def execFallbackReturn (s : State) : Host.Outcome State Fault Refusal := .next (fallbackReturn s)

end Sys2Proof.Machine
end

