-- ==== Sys2Proof/Machine/Bus.lean ====
section
/-! DEFINITION. Register accesses of the steward and the host (R9 to R21, R538 to R541), and the HAP messages READ and
WRITE with SPACE 0 and 2 (R471, R472, R474). A source of none is the steward, `some k` the host on key slot k. -/

namespace Sys2Proof.Machine

/-! ### Checks (R9, R10, R538, R541) -/

/-- SYS logs an error, while AON is released. -/
def State.sysErr (s : State) (code : Nat) (info : Nat) : State :=
  if s.domainUp 0 then s.logErr pSYS code (BitVec.ofNat 32 info) else s

/-- An access of `width` bytes at `addr` of the page area: the error it breaks first, if one, with its detail
(R541). -/
def State.accessError (s : State) (addr width : Nat) : Option (Nat × Nat) :=
  let p := addr / 0x1000
  if addr % 4 ≠ 0 ∨ width ≠ 4 then some (0x0001, addr + width * 2 ^ 20)
  else if (pageClass p).isNone then some (0x0003, p)
  else if !s.domainUp (pageDomain p) then some (0x0105, p)
  else none

/-! ### Header registers (R13 to R20) -/

/-- PG_LOCK is written (R16). -/
def State.writeLock (s : State) (p : Nat) (v : Word) : State :=
  if v = 0xA5A5 then s.setReg (Reg.pgLock p) 1 else s

/-- The interrupt bits that page `p` defines. -/
def irqMask (p : Nat) : Word :=
  match pageClass p with
  | some c => BitVec.ofNat 32 (2 ^ c.irqBits - 1)
  | none => 0

/-- PG_IRQ takes the sources that are levels and enabled (R14). -/
def State.latchLevels (s : State) (p : Nat) : State :=
  s.setReg (Reg.pgIrq p) (s.reg (Reg.pgIrq p) ||| (irqLevels s p &&& s.reg (Reg.pgIrqEn p)))

/-- PG_IRQ is written while the sources `rising` rise in the same cycle (R14, R15). -/
def State.clearIrq (s : State) (p : Nat) (v rising : Word) : State :=
  let r := rising &&& irqMask p
  let w := (s.reg (Reg.pgIrq p) &&& ~~~(v &&& ~~~r)) ||| (r &&& s.reg (Reg.pgIrqEn p))
  (s.setReg (Reg.pgIrq p) w).latchLevels p

/-- PG_ERR is written (R18). -/
def State.clearErr (s : State) (p : Nat) (v : Word) : State :=
  if bits v 15 0 ≠ 0 then (s.setReg (Reg.pgErr p) 0).setReg (Reg.pgErrInfo p) 0
  else if bits v 31 16 ≠ 0 then s.setFld (Reg.pgErr p) 31 16 0
  else s

/-- The registers that a Block reset of page `p` leaves: LOCKED, and in a LANE page LANE_LIB, which is the lane's
state (R16, R20, R174). -/
def blockKeeps (p k : Nat) : Bool :=
  k == Reg.pgLock p || (decide (0x08 ≤ p ∧ p ≤ 0x17) && k == Reg.laneLib (p - 0x08))

/-- A Block reset (R20, R391): the registers of the page, and the state of the block that they stand for. The page is
idle, so that no job, context, descriptor or buffer is in use. -/
def State.blockReset (s : State) (p : Nat) : State :=
  let kept := s.regs.filter (fun e => blockKeeps p e.1)
  let s := s.resetRegs (fun q => q == p)
  let s := { s with regs := kept.foldl (fun r e => tput r e.1 e.2) s.regs }
  if p = pGMB then { s with gmb := s.gmb.map (fun _ => .reset) }
  else if p = pBSQ then { s with seqr := .reset }
  else if h : 0x08 ≤ p ∧ p ≤ 0x17 then s.modLane ⟨p - 0x08, by omega⟩ (fun l => { l with bgLost := false })
  else if p = pCAN 0 ∨ p = pCAN 1 then
    s.modCan (Fin.ofNat 2 p) (fun c => { CanCh.reset with hist := c.hist, delayMs := c.delayMs })
  else s

/-- PG_BRST is written (R20). -/
def State.writeBrst (s : State) (p : Nat) (v : Word) : State :=
  if v ≠ 0xB10C then s
  else if bit (pgStatus s p) 1 then s.blockReset p
  else s.logErr p 0x0004 (pgStatus s p)

/-- A header register of page `p` is written (R13). -/
def State.writeHeader (s : State) (p ofs : Nat) (v : Word) : State :=
  if ofs = 0x004 then s.setReg (Reg.pgCtrl p) (v &&& 1)
  else if ofs = 0x010 then (s.setReg (Reg.pgIrqEn p) (v &&& irqMask p)).latchLevels p
  else if ofs = 0x014 then s.clearIrq p v 0
  else if ofs = 0x018 then s.writeLock p v
  else if ofs = 0x01C then s.clearErr p v
  else if ofs = 0x024 then s.writeBrst p v
  else s

/-! ### Plain registers (R11, R12, R17) -/

/-- A register is written by the access codes of its fields; RWL fields of a locked page keep their value and log
0x0002 (R12, R17). -/
def State.writePlain (s : State) (p : Nat) (r : RegSpec) (v : Word) : State :=
  let k := s.keyOf p r.ofs
  let l := s.locked p
  let m := r.rw ||| (if l then 0 else r.rwl)
  let w := ((s.reg k &&& ~~~m) ||| (v &&& m)) &&& ~~~(v &&& r.w1c)
  let s := s.setReg k w
  if l && r.rwl != 0 then s.logErr p 0x0002 (BitVec.ofNat 32 r.ofs) else s

/-! ### Registers whose write acts (the rows of the command table) -/

/-- A choice by number: the first action whose number is `n`. -/
def pick (n : Nat) (l : List (Nat × (State → State))) (s : State) : State :=
  match l.find? (fun x => x.1 == n) with
  | some x => x.2 s
  | none => s

/-- TIM_CTRL (R63): SRC = 3 is refused, the other fields are written; PG_ERR_INFO of 0x0100 is 0 (assumption 65). -/
def State.writeTimCtrl (s : State) (r : RegSpec) (v : Word) : State :=
  if bits v 1 0 = 3 ∧ !s.locked pTIM then
    (s.writePlain pTIM r (withBits v 1 0 (s.fld Reg.timCtrl 1 0))).logErr pTIM 0x0100 0
  else s.writePlain pTIM r v

/-- CLK_SEL (R62): an index above 17 is refused. -/
def State.writeClkSel (s : State) (r : RegSpec) (v : Word) : State :=
  if 17 < bits v 4 0 then s.logErr pCLK 0x0100 v else s.writePlain pCLK r v

/-- The sequencer, time base and board registers. -/
def writeSeq (p ofs : Nat) (r : RegSpec) (v : Word) : Option (State → State) :=
  if p = pCLK ∧ ofs = 0x04C then some (fun s => s.writeClkSel r v)
  else if p = pTIM then
    (if ofs = 0x060 then some (fun s => s.writeTimCtrl r v)
     else if ofs = 0x074 then some (timExtOfsWrite v)
     else if ofs = 0x080 then some (timStepCmd v) else none)
  else if p = pBRD ∧ ofs = 0x040 then
    some (fun s => if s.boards.running.isSome then s.refuse Reg.brdCmd
      else pick (bits v 3 0) [(1, brdCmdVerify), (2, brdCmdStore), (3, brdCmdArm), (4, brdCmdDisarm), (5, brdCmdDiscard),
        (6, brdCmdActivate)] s)
  else if p = pBSQ ∧ ofs = 0x044 then some (pick (bits v 1 0) [(1, bsqStart), (2, bsqStop)])
  else if p = pCMP then
    (if ofs = 0x078 then
      let n := Fin.ofNat 16 (bits v 3 0)
      some (pick (bits v 7 4) [(1, claim n), (2, release n), (3, halt n), (4, resume n), (5, stepLane n)])
     else if ofs = 0x084 then some (cmpDbgRegDataWrite v) else none)
  else if p = pPAIR ∧ ofs = 0x044 then
    some (pick (bits v 3 0) [(1, pairCmdLead), (2, pairCmdJoin), (3, pairCmdCastle), (4, pairCmdChange),
      (5, pairCmdStandDown), (6, pairCmdBench), (7, pairCmdAbortJoin), (8, pairCmdResetPartner)])
  else none

/-- The memory and network registers. -/
def writeNet (p ofs : Nat) (r : RegSpec) (v : Word) : Option (State → State) :=
  let o := BitVec.ofNat 12 ofs
  if p = pMMU then
    (if ofs = 0x044 ∨ ofs = 0x048 ∨ ofs = 0x04C then some (regionWrite o v)
     else if ofs = 0x054 then some (fun s => s.writeRoot v)
     else if ofs = 0x058 then some (mmuInv v) else none)
  else if 0x20 ≤ p ∧ p ≤ 0x5F then
    let n := Fin.ofNat 64 (p - 0x20)
    (if ofs = 0x040 ∨ ofs = 0x044 ∨ ofs = 0x048 then some (ringCfgWrite n o v)
     else if ofs = 0x04C then some (ringHeadWrite n v)
     else if ofs = 0x058 then some (pick (bits v 1 0) [(1, ringCmdResume n), (2, ringCmdSkip n)]) else none)
  else if (p = pMB 0 ∨ p = pMB 1) ∧ ofs = 0x06C then
    some (pick (bits v 7 4) [(1, retrain (if p = pMB 0 then .a else .b) (v.setWidth 4))])
  else if p = pMBS ∧ ofs = 0x060 then
    some (fun s =>
      let s := if bit v 0 then mbsClrSlot s else s
      if bit v 1 then mbsClrAll s else s)
  else none

/-- UPD_HO_CMD: the ms are those that have passed (R451); what else the steward reports is open. -/
def State.writeHoCmd (s : State) (v : Word) (hap : Bool) : State :=
  if hap then s.refuse Reg.updHoCmd
  else
    let ms := (s.opNs - s.upd.hoStart) / 1000000
    if bits v 1 0 = 1 then updHoSerialised false (BitVec.ofNat 16 ms) [] s
    else if bits v 1 0 = 2 then
      let m := BitVec.ofNat 16 (ms - s.fld Reg.updHoTime 15 0)
      (updHoHanded false m (Config.hoReport s.free) ⟨true, true⟩ s).takeFree
    else s

/-- UPD_CONFIRM (R456). -/
def State.writeConfirm (s : State) (v : Word) (hap : Bool) : State :=
  if hap then s.refuse Reg.updConfirm
  else if bits v 1 0 = 1 then updConfirmOk false (v.extractLsb' 16 16) true s
  else if bits v 1 0 = 2 then updConfirmFail false (v.extractLsb' 8 8) s
  else s

/-- The reset, boot, recorder and update registers. A flash or eFuse that a write starts is good; one that fails is
the own row's to say. -/
def writeRst (p ofs : Nat) (r : RegSpec) (v : Word) (hap : Bool) : Option (State → State) :=
  if p = pRST ∧ ofs = 0x058 then some (rstSw hap v)
  else if p = pSYS then
    (if ofs = 0x058 then some (fun s => if s.fld Reg.sysOptSel 5 0 < 32 then s else s.writePlain p r v)
     else if ofs = 0x05C then some (pick (bits v 3 0) [(1, sysOptCmdWrite)])
     else if ofs = 0x068 then some (fun s => if s.fld Reg.sysFuseSel 3 0 < 8 then s else s.writePlain p r v)
     else if ofs = 0x06C then some (sysFuseCmdBurn v true) else none)
  else if p = pSEC then
    (if ofs = 0x054 then some (fun s => if 24 ≤ s.fld Reg.secKeySel 4 0 then s else s.writePlain p r v)
     else if ofs = 0x058 then
      some (pick (bits v 7 4) [(1, secKeyStore v), (2, secKeyEnable v), (3, secKeyDisable v), (4, secKeyRevoke v)])
     else none)
  else if p = pREC then
    (if ofs = 0x06C then some (fun s => if bit v 0 || hap then recSubCmd hap s else s)
     else if ofs = 0x084 then some (fun s => if bit v 0 || hap || s.rcd.reading.isSome then recRdCmdRead hap s else s)
     else none)
  else if p = pUPD then
    (if ofs = 0x040 then
      some (pick (bits v 3 0) [(1, updCmdVerify), (2, updCmdStore), (3, updCmdDiscard), (4, updCmdHandover),
        (5, updCmdCancel)])
     else if ofs = 0x05C then some (fun s => s.writeHoCmd v hap)
     else if ofs = 0x060 then some (fun s => s.writeConfirm v hap) else none)
  else none

/-- HST_PORT DISABLE holds the port down (R486). -/
def State.writePort (s : State) (r : RegSpec) (v : Word) (port : Fin 2) : State :=
  let s := s.writePlain pHST r v
  if bit (s.reg (hstPort port)) 8 then hostLinkChange port 0 s else s

/-- CAN_TX_CMD (R495, R498): the requests, then the aborts. -/
def State.writeTxCmd (s : State) (c : Fin 2) (v : Word) : State :=
  let s := if bits v 2 0 = 0 then s else canTxReq c ⟨v.setWidth 3, Config.canBusy s.free⟩ s.takeFree
  if bits v 6 4 = 0 then s else canTxAbort c (v.extractLsb' 4 3) s

/-- The window of a transmit buffer (R495). -/
def State.writeTxWindow (s : State) (c : Fin 2) (r : RegSpec) (v : Word) : State :=
  let b := s.fld (Reg.canTxSel c) 1 0
  if b = 3 then s
  else if s.txState c b = 1 then s.refuse ((pCAN c) * 0x1000 + r.ofs)
  else s.writePlain (pCAN c) r v

/-- The host and chassis bus registers. -/
def writeHost (p ofs : Nat) (r : RegSpec) (v : Word) (src : Option (BitVec 8)) : Option (State → State) :=
  if p = pSTW ∧ ofs = 0x044 then some (stwWdtKick src.isSome v)
  else if p = pHST ∧ ofs = 0x040 then some (fun s => s.writePort r v 0)
  else if p = pHST ∧ ofs = 0x044 then some (fun s => s.writePort r v 1)
  else if p = pHAP then
    (if ofs = 0x048 then
      some (fun s => { s with host := { s.host with stage := s.host.stage.set (Fin.ofNat 8 (s.fld Reg.hapKeySel 2 0)) v } })
     else if ofs = 0x04C then
      some (pick (bits v 7 4) [(1, hapKeyStore v src), (2, hapKeyEnable v src), (3, hapKeyDisable v src), (4, hapKeyErase v src)])
     else none)
  else if p = pCAN 0 ∨ p = pCAN 1 then
    let c : Fin 2 := Fin.ofNat 2 p
    (if ofs = 0x040 then some (canCtrlWrite c v true)
     else if ofs = 0x044 ∨ ofs = 0x048 then
      some (fun s => if s.canMode c ≠ 0 then s.refuse (p * 0x1000 + ofs) else s.writePlain p r v)
     else if ofs = 0x050 then some (fun s => if bit v 0 then canCmdRecover c s else s)
     else if ofs = 0x078 then some (fun s => if bit v 0 then canRxPop c s else s)
     else if 0x0C4 ≤ ofs ∧ ofs ≤ 0x108 then some (fun s => s.writeTxWindow c r v)
     else if ofs = 0x10C then some (fun s => s.writeTxCmd c v) else none)
  else if p = pFIO ∧ ofs = 0x048 then some (fioCfgWrite v)
  else if p = pFIO ∧ ofs = 0x060 then some (fioCmdClear v 0)
  else if p = pLOOP ∧ ofs = 0x050 then some (loopTestWrite v)
  else none

/-- The first action given. -/
def orElseA : Option (State → State) → (Unit → Option (State → State)) → Option (State → State)
  | some f, _ => some f
  | none, f => f ()

/-- What a write of `v` at offset `ofs` of page `p` does, once the checks have passed (R12, R13, R540). -/
def State.writeAt (s : State) (p ofs : Nat) (v : Word) (src : Option (BitVec 8)) : State :=
  if ofs < 0x040 then s.writeHeader p ofs v
  else
    match regSpec p ofs with
    | none => s
    | some r =>
      match orElseA (writeSeq p ofs r v) fun _ => orElseA (writeNet p ofs r v) fun _ =>
        orElseA (writeRst p ofs r v src.isSome) fun _ => writeHost p ofs r v src with
      | some f => f s
      | none => s.writePlain p r v

/-- A register write (R9, R10, R538, R541): rejected with one log entry in SYS, or carried out. -/
def State.busWrite (s : State) (addr width : Nat) (v : Word) (src : Option (BitVec 8)) : State :=
  match s.accessError addr width with
  | some (code, info) => s.sysErr code info
  | none => s.writeAt (addr / 0x1000) (addr % 0x1000) v src

/-- A write is carried out: it is not rejected under R9, R10 or R538, and logs neither 0x0002 nor 0x0005 (R470). -/
def State.writeOk (s : State) (addr : Nat) (v : Word) (src : Option (BitVec 8)) : Bool :=
  let p := addr / 0x1000
  (s.accessError addr 4).isNone &&
    (let code := ((s.setReg (Reg.pgErr p) 0).writeAt p (addr % 0x1000) v src).fld (Reg.pgErr p) 15 0
     code != 0x0002 && code != 0x0005)

/-! ### Reads -/

/-- What a read by the host or the steward brings with it besides the value (R43, R57, R197, R419, R487). -/
def State.readEffect (s : State) (k : Nat) : State :=
  if k = Reg.timNowLo then timNowLoRead s
  else if k = Reg.rstOptimeLo then rstOptimeLoRead s
  else if k = Reg.hapCtrLo then hapCtrLoRead s
  else if k = Reg.hstTsW2 then hstTsPop s
  else if k = Reg.cmpDbgRegData ∧ !s.lanes[Fin.ofNat 16 (s.fld Reg.cmpDbgRegSel 3 0)].halted then s.refuse k
  else s

/-- A read is carried out: it is not rejected under R9, R10 or R538, and logs no 0x0005 (R470). -/
def State.readOk (s : State) (addr : Nat) : Bool :=
  (s.accessError addr 4).isNone
    && !(addr == Reg.cmpDbgRegData && !s.lanes[Fin.ofNat 16 (s.fld Reg.cmpDbgRegSel 3 0)].halted)

/-- A register read by the host: the state after it and the value, 0 if it is rejected. -/
def State.busRead (s : State) (addr : Nat) : State × Word :=
  match s.accessError addr 4 with
  | some (code, info) => (s.sysErr code info, 0)
  | none => (s.readEffect addr, readReg s (addr / 0x1000) (addr % 0x1000))

/-! ### READ and WRITE (R468, R471, R472, R474) -/

/-- What the items of a message have brought: the state, the index of the next item, the first bad one, the values. -/
structure ItemRun where
  s    : State
  i    : Nat
  bad  : Option Nat
  vals : Bytes

/-- No item has been carried out yet. -/
def ItemRun.start (s : State) : ItemRun := ⟨s, 0, none, []⟩

/-- An item that is a read. -/
def ItemRun.read (r : ItemRun) (addr : Nat) : ItemRun :=
  let x := r.s.busRead addr
  { s := x.1, i := r.i + 1, bad := if r.bad.isNone && !r.s.readOk addr then some r.i else r.bad, vals := r.vals ++ wordBytes x.2 }

/-- An item that is a write by the host on key slot `key`. -/
def ItemRun.write (r : ItemRun) (key : BitVec 8) (addr : Nat) (v : Word) : ItemRun :=
  { s := r.s.busWrite addr 4 v (some key), i := r.i + 1
    bad := if r.bad.isNone && !r.s.writeOk addr v (some key) then some r.i else r.bad, vals := r.vals }

/-- The response to a message with SPACE 0 (R470, R472). -/
def ItemRun.reply (r : ItemRun) (m : HapMsg) : State :=
  match r.bad with
  | some i => r.s.hapReply m 1 i r.vals
  | none => r.s.hapReply m 0 0 r.vals

/-- The register offsets of a message with SPACE 0, whose items are `size` bytes long. -/
def HapMsg.offsets (m : HapMsg) (size : Nat) : List Nat :=
  (List.range m.count).map (fun i => leAt m.body (4 + size * i) 4 % 0x100000)

/-- The commissioning key reaches the SYS and HAP pages alone (R468). -/
def HapMsg.allowed (m : HapMsg) (size : Nat) : Bool :=
  m.key != 0xFF || (m.offsets size).all (fun a => a / 0x1000 == pSYS || a / 0x1000 == pHAP)

/-- Physical address of the host window of key slot `k` (R474). -/
def windowBase (k : Nat) : Nat := bgMem + k * 0x01000000

/-- A READ that has been accepted (R471, R472, R474). -/
def State.readMsg (s : State) (m : HapMsg) : State :=
  if m.space = 0 then
    if m.count = 0 ∨ 320 < m.count ∨ m.body.length ≠ 4 + 4 * m.count then s.hapReply m 5 0 []
    else if !m.allowed 4 then s.hapReply m 3 0 []
    else ((m.offsets 4).foldl (fun (r : ItemRun) a => r.read a) (.start s)).reply m
  else if m.space = 2 then
    let ofs := leAt m.body 4 4
    let n := leAt m.body 8 4
    if m.count ≠ 0 ∨ m.body.length ≠ 12 ∨ n = 0 ∨ 1280 < n then s.hapReply m 5 0 []
    else if 0x01000000 < ofs + n then s.hapReply m 8 0 []
    else s.hapReply m 0 0 (s.mem.read (windowBase m.key + ofs) n)
  else s.hapReply m 5 0 []

/-- A WRITE with SPACE 0 or 2 that has been accepted (R471, R472, R474). -/
def State.writeMsg (s : State) (m : HapMsg) : State :=
  if m.space = 0 then
    if m.count = 0 ∨ 160 < m.count ∨ m.body.length ≠ 4 + 8 * m.count then s.hapReply m 5 0 []
    else if !m.allowed 8 then s.hapReply m 3 0 []
    else
      let vals := (List.range m.count).map (fun i => bytesWord (slice m.body (8 + 8 * i) 4))
      (((m.offsets 8).zip vals).foldl (fun (r : ItemRun) x => r.write (BitVec.ofNat 8 m.key) x.1 x.2) (.start s)).reply m
  else if m.space = 2 then
    let ofs := leAt m.body 4 4
    let n := m.count
    if n = 0 ∨ 1280 < n ∨ m.body.length ≠ 8 + n then s.hapReply m 5 0 []
    else if 0x01000000 < ofs + n then s.hapReply m 8 0 []
    else (s.writeMem (windowBase m.key + ofs) (m.body.drop 8)).hapReply m 0 0 []
  else s.hapReply m 5 0 []

/-! ### The commands -/

/-- REGISTER_WRITE (R9 to R12, R538 to R541): by the steward. -/
def registerWrite (addr : BitVec 20) (width : BitVec 4) (value : Word) (s : State) : State :=
  s.busWrite addr.toNat width.toNat value none

/-- A write of a header register by the steward. -/
def State.headerWrite (s : State) (page : BitVec 8) (ofs : Nat) (f : State → State) : State :=
  match s.accessError (page.toNat * 0x1000 + ofs) 4 with
  | some (code, info) => s.sysErr code info
  | none => f s

/-- PG_LOCK_WRITE (R16). -/
def pgLockWrite (page : BitVec 8) (value : Word) (s : State) : State :=
  s.headerWrite page 0x018 fun s => s.writeLock page.toNat value

/-- PG_BRST_WRITE (R20). -/
def pgBrstWrite (page : BitVec 8) (value : Word) (s : State) : State :=
  s.headerWrite page 0x024 fun s => s.writeBrst page.toNat value

/-- PG_IRQ_CLEAR (R14, R15): `rising` are the conditions that rise in the same BCLK cycle. -/
def pgIrqClear (page : BitVec 8) (value rising : Word) (s : State) : State :=
  s.headerWrite page 0x014 fun s => s.clearIrq page.toNat value rising

/-- PG_ERR_CLEAR (R18, R19): `err` is an error logged in the same BCLK cycle. -/
def pgErrClear (page : BitVec 8) (value : Word) (err : Option (BitVec 16 × Word)) (s : State) : State :=
  s.headerWrite page 0x01C fun s =>
    let s := s.clearErr page.toNat value
    match err with
    | some (c, i) => if c = 0 then s else s.logErr page.toNat c.toNat i
    | none => s

/-- HAP_READ (R471, R472, R474). -/
def hapRead (src : HapSrc) (msg : Bytes) (s : State) : State :=
  s.hapIntake src msg (fun m => m.type == 1) (fun m => m.space == 0) State.readMsg

/-- HAP_WRITE (R471, R472, R474). -/
def hapWrite (src : HapSrc) (msg : Bytes) (s : State) : State :=
  s.hapIntake src msg (fun m => m.type == 2 && m.space != 1) (fun m => m.space == 0) State.writeMsg

/-- REGISTER_WRITE (R12). -/
def execRegisterWrite (addr : BitVec 20) (width : BitVec 4) (value : Word) (s : State) : Host.Outcome State Fault Refusal := .next (registerWrite addr width value s)
/-- PG_LOCK_WRITE (R16). -/
def execPgLockWrite (page : BitVec 8) (value : Word) (s : State) : Host.Outcome State Fault Refusal := .next (pgLockWrite page value s)
/-- PG_BRST_WRITE (R20). -/
def execPgBrstWrite (page : BitVec 8) (value : Word) (s : State) : Host.Outcome State Fault Refusal := .next (pgBrstWrite page value s)
/-- PG_IRQ_CLEAR (R15). -/
def execPgIrqClear (page : BitVec 8) (value rising : Word) (s : State) : Host.Outcome State Fault Refusal := .next (pgIrqClear page value rising s)
/-- PG_ERR_CLEAR (R18). -/
def execPgErrClear (page : BitVec 8) (value : Word) (err : Option (BitVec 16 × Word)) (s : State) : Host.Outcome State Fault Refusal := .next (pgErrClear page value err s)
/-- HAP_READ (R471). -/
def execHapRead (src : HapSrc) (msg : Bytes) (s : State) : Host.Outcome State Fault Refusal := .next (hapRead src msg s)
/-- HAP_WRITE (R471). -/
def execHapWrite (src : HapSrc) (msg : Bytes) (s : State) : Host.Outcome State Fault Refusal := .next (hapWrite src msg s)

end Sys2Proof.Machine
end

