-- ==== Sys2Proof/Machine/Clocks.lean ====
section
/-! DEFINITION. The clock monitors and the ACLK trim (R34 to R37, R62). -/

namespace Sys2Proof.Machine

/-- A recovered clock has stopped being good: its port or the Dunly link has lost its link (R36). -/
def State.recoveredLost (s : State) (i : Nat) : State :=
  if i = 5 then s.dropLink 0 false
  else if 10 ≤ i ∧ i ≤ 17 then s.portLost ((i - 10) / 4) ((i - 10) % 4)
  else s

/-- Clock `i` stops being good (R34, R36): CLK_FAIL and what follows for its domain or its link. -/
def State.clockBad (s : State) (i : Nat) : State :=
  let was := s.clockGood i
  let s := s.clockOff i
  let s := if !s.domainUp 2 || decide (18 ≤ i) then s
    else
      let s := s.setFld Reg.clkGood i i 0
      if was then (s.setFld Reg.clkFail i i 1).raise pCLK i else s
  if was then (s.clockLost i).recoveredLost i else s

/-- Clock `i` is locked and within its limits at the end of a window: good, if it was not already (R34). -/
def State.clockOn (s : State) (i : Nat) : State :=
  let s := if s.clockGood i then s
    else { s with rst := { s.rst with clkAt := s.rst.clkAt.setIfInBounds i (some s.opNs) } }
  if !s.domainUp 2 || decide (18 ≤ i) then s else (s.setFld Reg.clkLocked i i 1).setFld Reg.clkGood i i 1

/-- CLOCK_MONITOR_WINDOW_END (R34, R35): a count within the limits shows a locked clock, which is good; for NET's transmit
PLLs, 18 and 19, which no monitor counts, a window that ends with the PLL locked (assumption 18). The monitors run while
SEQ is in reset, with the limits at their reset values. -/
def clockMonitorWindowEnd (idx : Fin 20) (count : BitVec 16) (s : State) : State :=
  let i := idx.val
  if 18 ≤ i then s.clockOn i
  else
    let lim := s.reg (Reg.bank i Reg.clkLim)
    let s := if s.domainUp 2 then s.setReg (Reg.bank i Reg.clkCount) (count.setWidth 32) else s
    if bits lim 15 0 ≤ count.toNat ∧ count.toNat ≤ bits lim 31 16 then s.clockOn i else s.clockBad i

/-- PLL_LOSS_OF_LOCK (R34): at once. -/
def pllLossOfLock (idx : Fin 20) (s : State) : State :=
  let s := if !s.domainUp 2 || decide (18 ≤ idx.val) then s else s.setFld Reg.clkLocked idx.val idx.val 0
  s.clockBad idx.val

/-- The crystal runs or stands still, and XTAL_OK shows it while SEQ is released (R37, R62). -/
def State.setXtal (s : State) (b : Bool) : State :=
  let s := { s with rst := { s.rst with xtal := b } }
  if s.domainUp 2 then s.setFld Reg.clkAclkTrim 16 16 (b2n b) else s

/-- XTAL_STOP (R37): the trim code stays, one record an episode. How the loop moves the code while the crystal runs no
rule says: TRIM stands at its reset value 0x200 (DESIGN CHOICE, assumption 94). -/
def xtalStop (s : State) : State :=
  if !s.rst.xtal then s
  else
    let s := s.setXtal false
    s.recIrq pCLK 0 .normal (wordBytes (s.reg Reg.clkAclkTrim))

/-- XTAL_RESTART (R37). -/
def xtalRestart (s : State) : State := s.setXtal true

/-- CLOCK_MONITOR_WINDOW_END (R34). -/
def execClockMonitorWindowEnd (idx : Fin 20) (count : BitVec 16) (s : State) : Host.Outcome State Fault Refusal :=
  .next (clockMonitorWindowEnd idx count s)
/-- PLL_LOSS_OF_LOCK (R34). -/
def execPllLossOfLock (idx : Fin 20) (s : State) : Host.Outcome State Fault Refusal := .next (pllLossOfLock idx s)
/-- XTAL_STOP (R37). -/
def execXtalStop (s : State) : Host.Outcome State Fault Refusal := .next (xtalStop s)
/-- XTAL_RESTART (R37). -/
def execXtalRestart (s : State) : Host.Outcome State Fault Refusal := .next (xtalRestart s)

end Sys2Proof.Machine
end

