-- ==== Sys2Proof/Machine/LaneLibrary.lean ====
section
/-! DEFINITION. The standard routines of the lane runtime library (R269 to R276): timers, counter and edge
detectors, as the effect of the CALLR that calls them (assumption 61). -/

namespace Sys2Proof.Machine

/-- What a routine leaves: the words stored from the instance's first on, the low bits of g10 and how many they are,
the registers beside g10 with a result, whether a count stopped, and the cycles of R271. -/
structure LibOut where
  words : List Word
  q     : Nat
  qbits : Nat
  res   : List (Nat × Word)
  sat   : Bool
  cyc   : Nat
  deriving DecidableEq, Repr

/-- What a timer holds: START, ET, and the flags Q and RUN (R272). -/
structure LibTimer where
  start : BitVec 64
  et    : BitVec 64
  q     : Bool
  run   : Bool
  deriving DecidableEq, Repr

/-- elapsed() of R273: the signed difference, 0 when negative. -/
def libElapsed (now start : BitVec 64) : Nat := (now - start).toInt.toNat

/-- The smaller of an elapsed time and PT, as ET. -/
def libEt (d : Nat) (pt : BitVec 64) : BitVec 64 := BitVec.ofNat 64 (min d pt.toNat)

/-- ON_DELAY (R273). -/
def libOnDelay (now pt : BitVec 64) (inp : Bool) (t : LibTimer) : LibTimer :=
  if !inp then { t with run := false, q := false, et := 0 }
  else
    let st := if t.run then t.start else now
    let d := libElapsed now st
    { start := st, et := libEt d pt, q := decide (pt.toNat ≤ d), run := true }

/-- OFF_DELAY (R273); `prev` and `init` are IN_PREV and INIT_DONE before the call. -/
def libOffDelay (now pt : BitVec 64) (inp prev init : Bool) (t : LibTimer) : LibTimer :=
  if inp then { t with run := false, q := true, et := 0 }
  else
    let t := if prev && init then { t with start := now, run := true } else t
    if t.run then
      let d := libElapsed now t.start
      { t with et := libEt d pt, q := decide (d < pt.toNat), run := decide (d < pt.toNat) }
    else { t with q := false }

/-- PULSE (R273). -/
def libPulse (now pt : BitVec 64) (inp prev init : Bool) (t : LibTimer) : LibTimer :=
  let t := if inp && !prev && init && !t.run then { t with start := now, run := true } else t
  if t.run then
    let d := libElapsed now t.start
    { t with et := libEt d pt, q := decide (d < pt.toNat), run := decide (d < pt.toNat) }
  else { t with et := if inp then t.et else 0, q := false }

/-- The low and the high word of 64 bits, the low one first. -/
def words64 (v : BitVec 64) : List Word := [v.setWidth 32, v.extractLsb' 32 32]

/-- Two words as 64 bits. -/
def join64 (lo hi : Word) : BitVec 64 := hi ++ lo

/-- The timers of R272 and R273: routine 0, 1 or 2. `w` reads a word of the instance. -/
def libTimer (k : Nat) (now pt : BitVec 64) (inp : Bool) (w : Nat → Word) : LibOut :=
  let f := w 6
  let t : LibTimer := { start := join64 (w 0) (w 1), et := join64 (w 2) (w 3), q := bit f 0, run := bit f 1 }
  let t := if k = 0 then libOnDelay now pt inp t
    else if k = 1 then libOffDelay now pt inp (bit f 2) (bit f 3) t
    else libPulse now pt inp (bit f 2) (bit f 3) t
  { words := words64 t.start ++ words64 t.et ++ words64 pt
      ++ [BitVec.ofNat 32 (b2n t.q + 2 * b2n t.run + 4 * b2n inp + 8)]
    q := b2n t.q
    qbits := 1
    res := [(12, t.et.setWidth 32), (13, t.et.extractLsb' 32 32)]
    sat := false
    cyc := if k = 0 then 52 else if k = 1 then 56 else 58 }

/-- The count of R275, and whether it stopped at an end of the range. -/
def libCount (cv pv : Word) (wrap up dn reset load : Bool) : Word × Bool :=
  if reset then (0, false)
  else if load then (pv, false)
  else if up && !dn then if !wrap && cv == 0x7FFFFFFF then (cv, true) else (cv + 1, false)
  else if dn && !up then if !wrap && cv == 0x80000000 then (cv, true) else (cv - 1, false)
  else (cv, false)

/-- COUNT (R275). -/
def libCounter (pv inp : Word) (w : Nat → Word) : LibOut :=
  let f := w 1
  let up := bit inp 0 && !bit f 1 && bit f 3
  let dn := bit inp 1 && !bit f 2 && bit f 3
  let r := libCount (w 0) pv (bit f 0) up dn (bit inp 2) (bit inp 3)
  { words := [r.1, BitVec.ofNat 32 (b2n (bit f 0) + 2 * b2n (bit inp 0) + 4 * b2n (bit inp 1) + 8)]
    q := b2n (decide (pv.toInt ≤ r.1.toInt)) + 2 * b2n (decide (r.1.toInt ≤ 0))
    qbits := 2
    res := [(11, r.1)]
    sat := r.2
    cyc := 36 }

/-- EDGE_RISE (`rise`) and EDGE_FALL (R276). -/
def libEdge (rise inp : Bool) (w : Nat → Word) : LibOut :=
  let f := w 0
  { words := [BitVec.ofNat 32 (b2n inp + 2)]
    q := b2n (bit f 1 && (if rise then inp && !bit f 0 else !inp && bit f 0))
    qbits := 1
    res := []
    sat := false
    cyc := 12 }

/-- Routine `k` of R271 with the registers of `c`, the TIME `now` and the words of its instance. -/
def libRun (k : Nat) (c : Core) (now : BitVec 64) (w : Nat → Word) : LibOut :=
  let inp := c.get 6
  match k with
  | 3 => libCounter (c.get 8) inp w
  | 4 => libEdge true (bit inp 0) w
  | 5 => libEdge false (bit inp 0) w
  | _ => libTimer k now (join64 (c.get 8) (c.get 9)) (bit inp 0) w

/-- The number of words of the instance of routine `k` (R271). -/
def libWords (k : Nat) : Nat := if k < 3 then 8 else if k = 3 then 4 else 2

/-- Word `i` of the instance at lane address `a`, as lane `n` sees it. -/
def State.instWord (s : State) (n : Fin 16) (a i : Nat) : Word := bytesWord (s.plyBytes n (a + 4 * i) 4)

/-- The standard routine whose byte address, in the entry table of R269, is `t`. -/
def State.libEntry (s : State) (n : Fin 16) (t : Nat) : Option Nat :=
  if 0x00200000 ≤ t ∧ t < 0x00300000 ∧ t % 4 = 0 then
    (List.range 6).find? (fun k => (s.mem.word (s.lanePhys n (0x00200000 + 4 * k))).toNat == t)
  else none

/-- The routine at `t` can be fetched, its instance at `a` of `k` words is an aligned part of DTCM that can be loaded,
and the return address can be fetched. -/
def State.libReady (s : State) (n : Fin 16) (t a k ret : Nat) : Bool :=
  let bg := s.lanes[n].work.bg
  s.fetchOk n bg t && !s.poisoned (s.lanePhys n t) 4
    && decide (a % 8 = 0) && decide (ret % 4 = 0) && s.fetchOk n bg ret
    && (List.range k).all (fun i => laneRange (a + 4 * i) == .dtcm
          && (s.loadProt n (a + 4 * i) 4 false).isNone && !s.loadPoisoned n (a + 4 * i))

/-- Words stored to DTCM one after another from lane address `a` on; none if a store would trap. -/
def State.storeWords (s : State) (n : Fin 16) (a : Nat) : List Word → Option State
  | [] => some s
  | w :: ws =>
    if (s.storeProt n a false false).isNone then (s.storeDtcm n a (wordBytes w)).storeWords n (a + 4) ws else none

/-- The registers that a routine may change (R270). -/
def libRegs : List Nat := [5, 6, 7, 8, 9, 10, 11, 12, 13, 14, 15, 30]

/-- What a routine leaves in register `r`: its result, or a free value. -/
def libReg (o : LibOut) (free r : Nat) : Word :=
  if r = 10 then withBits (Config.libReg free r) (o.qbits - 1) 0 o.q
  else match tfind o.res r with
    | some v => v
    | none => Config.libReg free r

/-- The core after a routine that returns to `ret`. -/
def libCore (c : Core) (o : LibOut) (free : Nat) (ret : Word) : Core :=
  let c := libRegs.foldl (fun c r => c.put (BitVec.ofNat 5 r) (libReg o free r)) c
  { c with qa := qaSet c.qa qSAT o.sat, pc := ret }

/-- The standard routine at `t`, which lane `n` has entered with core `c`: the state with the
instance stored, the core after the return, and the cycles of the routine. None where `t` is no routine's entry,
and where the routine would trap. -/
def State.libCall (s : State) (n : Fin 16) (t : Nat) (c : Core) : Option (State × Core × Nat) :=
  match s.libEntry n t with
  | none => none
  | some k =>
    let a := (c.get 5).toNat
    let ret := c.get 31
    if s.libReady n t a (libWords k) ret.toNat then
      let o := libRun k c s.lanes[n].start (s.instWord n a)
      match s.storeWords n a o.words with
      | some s' => some (s'.takeFree, libCore c o s.free ret, o.cyc)
      | none => none
    else none

/-- What stands at the PC of lane `n` as the entry table of R269 has it: the entry of a standard routine, the entry of an
unassigned number, or neither. -/
inductive LibAt where
  | no
  | routine (k : Nat)
  | illegal
  deriving DecidableEq, Repr

/-- What stands at the PC of lane `n` (R269). -/
def State.libAt (s : State) (n : Fin 16) : LibAt :=
  let t := s.lanes[n].main.pc.toNat
  match s.libEntry n t with
  | some k => .routine k
  | none =>
    if 0x00200000 ≤ t ∧ t < 0x00300000 ∧ t % 4 = 0 ∧ s.fetchOk n s.lanes[n].work.bg t
        ∧ (List.range 250).any (fun k => (s.mem.word (s.lanePhys n (0x00200000 + 4 * (k + 6)))).toNat == t)
    then .illegal else .no

/-- Lane `n` passes what stands at its PC in the library: a standard routine runs from its entry to its return (R270,
R271; assumption 61), the entry of an unassigned number traps I (R269; which detail, no rule says). -/
def State.libraryStep (s : State) (n : Fin 16) : State :=
  if !s.executes n false then s
  else
    let c := s.lanes[n].main
    match s.libAt n with
    | .no => s
    | .illegal => s.takeFree.takeTrap n 3 (1 + (Config.libTrap s.free).val) (c.pc.toNat / 4) 0
    | .routine _ =>
      match s.libCall n c.pc.toNat c with
      | some (s', c', cyc) => (s'.setCore n c').modLane n (fun l => { l with cyc := l.cyc + cyc })
      | none => s

/-- Lane `n` takes an instruction as a command: what it passes in the library before it comes first. -/
def State.command (s : State) (n : Fin 16) (body : State → Core → State × CoreRes) : State :=
  (s.libraryStep n).issue n body

end Sys2Proof.Machine
end

