-- ==== Sys2Proof/Machine/Lanes.lean ====
section
/-! DEFINITION. The lane instruction set (R153 to R169) as commands: lane `lane` issues the
instruction with the fields given. A standard routine that the lane has called runs before its next instruction
(R269 to R276). An instruction on a lane that does not execute has no effect
(assumption 8). -/

namespace Sys2Proof.Machine

/-- ADD (R153). -/
def execAdd (lane : Fin 16) (rd : BitVec 5) (ra : BitVec 5) (rb : BitVec 5) (s : State) : Host.Outcome State Fault Refusal :=
  .next (s.command lane (insAdd rd ra rb))

/-- SUB (R153). -/
def execSub (lane : Fin 16) (rd : BitVec 5) (ra : BitVec 5) (rb : BitVec 5) (s : State) : Host.Outcome State Fault Refusal :=
  .next (s.command lane (insSub rd ra rb))

/-- AND (R153). -/
def execAnd (lane : Fin 16) (rd : BitVec 5) (ra : BitVec 5) (rb : BitVec 5) (s : State) : Host.Outcome State Fault Refusal :=
  .next (s.command lane (insAnd rd ra rb))

/-- OR (R153). -/
def execOr (lane : Fin 16) (rd : BitVec 5) (ra : BitVec 5) (rb : BitVec 5) (s : State) : Host.Outcome State Fault Refusal :=
  .next (s.command lane (insOr rd ra rb))

/-- XOR (R153). -/
def execXor (lane : Fin 16) (rd : BitVec 5) (ra : BitVec 5) (rb : BitVec 5) (s : State) : Host.Outcome State Fault Refusal :=
  .next (s.command lane (insXor rd ra rb))

/-- SLL (R153). -/
def execSll (lane : Fin 16) (rd : BitVec 5) (ra : BitVec 5) (rb : BitVec 5) (s : State) : Host.Outcome State Fault Refusal :=
  .next (s.command lane (insSll rd ra rb))

/-- SRL (R153). -/
def execSrl (lane : Fin 16) (rd : BitVec 5) (ra : BitVec 5) (rb : BitVec 5) (s : State) : Host.Outcome State Fault Refusal :=
  .next (s.command lane (insSrl rd ra rb))

/-- SRA (R153). -/
def execSra (lane : Fin 16) (rd : BitVec 5) (ra : BitVec 5) (rb : BitVec 5) (s : State) : Host.Outcome State Fault Refusal :=
  .next (s.command lane (insSra rd ra rb))

/-- CMPLT (R153). -/
def execCmplt (lane : Fin 16) (rd : BitVec 5) (ra : BitVec 5) (rb : BitVec 5) (s : State) : Host.Outcome State Fault Refusal :=
  .next (s.command lane (insCmplt rd ra rb))

/-- CMPLTU (R153). -/
def execCmpltu (lane : Fin 16) (rd : BitVec 5) (ra : BitVec 5) (rb : BitVec 5) (s : State) : Host.Outcome State Fault Refusal :=
  .next (s.command lane (insCmpltu rd ra rb))

/-- MIN (R153). -/
def execMin (lane : Fin 16) (rd : BitVec 5) (ra : BitVec 5) (rb : BitVec 5) (s : State) : Host.Outcome State Fault Refusal :=
  .next (s.command lane (insMin rd ra rb))

/-- MAX (R153). -/
def execMax (lane : Fin 16) (rd : BitVec 5) (ra : BitVec 5) (rb : BitVec 5) (s : State) : Host.Outcome State Fault Refusal :=
  .next (s.command lane (insMax rd ra rb))

/-- MINU (R153). -/
def execMinu (lane : Fin 16) (rd : BitVec 5) (ra : BitVec 5) (rb : BitVec 5) (s : State) : Host.Outcome State Fault Refusal :=
  .next (s.command lane (insMinu rd ra rb))

/-- MAXU (R153). -/
def execMaxu (lane : Fin 16) (rd : BitVec 5) (ra : BitVec 5) (rb : BitVec 5) (s : State) : Host.Outcome State Fault Refusal :=
  .next (s.command lane (insMaxu rd ra rb))

/-- ADDS (R153). -/
def execAdds (lane : Fin 16) (rd : BitVec 5) (ra : BitVec 5) (rb : BitVec 5) (s : State) : Host.Outcome State Fault Refusal :=
  .next (s.command lane (insAdds rd ra rb))

/-- SUBS (R153). -/
def execSubs (lane : Fin 16) (rd : BitVec 5) (ra : BitVec 5) (rb : BitVec 5) (s : State) : Host.Outcome State Fault Refusal :=
  .next (s.command lane (insSubs rd ra rb))

/-- ADDSU (R153). -/
def execAddsu (lane : Fin 16) (rd : BitVec 5) (ra : BitVec 5) (rb : BitVec 5) (s : State) : Host.Outcome State Fault Refusal :=
  .next (s.command lane (insAddsu rd ra rb))

/-- SUBSU (R153). -/
def execSubsu (lane : Fin 16) (rd : BitVec 5) (ra : BitVec 5) (rb : BitVec 5) (s : State) : Host.Outcome State Fault Refusal :=
  .next (s.command lane (insSubsu rd ra rb))

/-- ADDK (R154). -/
def execAddk (lane : Fin 16) (rd : BitVec 5) (ra : BitVec 5) (imm : BitVec 16) (s : State) : Host.Outcome State Fault Refusal :=
  .next (s.command lane (insAddk rd ra imm))

/-- ADDSK (R154). -/
def execAddsk (lane : Fin 16) (rd : BitVec 5) (ra : BitVec 5) (imm : BitVec 16) (s : State) : Host.Outcome State Fault Refusal :=
  .next (s.command lane (insAddsk rd ra imm))

/-- ANDK (R154). -/
def execAndk (lane : Fin 16) (rd : BitVec 5) (ra : BitVec 5) (imm : BitVec 16) (s : State) : Host.Outcome State Fault Refusal :=
  .next (s.command lane (insAndk rd ra imm))

/-- ORK (R154). -/
def execOrk (lane : Fin 16) (rd : BitVec 5) (ra : BitVec 5) (imm : BitVec 16) (s : State) : Host.Outcome State Fault Refusal :=
  .next (s.command lane (insOrk rd ra imm))

/-- XORK (R154). -/
def execXork (lane : Fin 16) (rd : BitVec 5) (ra : BitVec 5) (imm : BitVec 16) (s : State) : Host.Outcome State Fault Refusal :=
  .next (s.command lane (insXork rd ra imm))

/-- CMPLTK (R154). -/
def execCmpltk (lane : Fin 16) (rd : BitVec 5) (ra : BitVec 5) (imm : BitVec 16) (s : State) : Host.Outcome State Fault Refusal :=
  .next (s.command lane (insCmpltk rd ra imm))

/-- SHK (R154). -/
def execShk (lane : Fin 16) (rd : BitVec 5) (ra : BitVec 5) (imm : BitVec 16) (s : State) : Host.Outcome State Fault Refusal :=
  .next (s.command lane (insShk rd ra imm))

/-- KCAT (R154). -/
def execKcat (lane : Fin 16) (rd : BitVec 5) (ra : BitVec 5) (imm : BitVec 16) (s : State) : Host.Outcome State Fault Refusal :=
  .next (s.command lane (insKcat rd ra imm))

/-- MUL (R155). -/
def execMul (lane : Fin 16) (rd : BitVec 5) (ra : BitVec 5) (rb : BitVec 5) (s : State) : Host.Outcome State Fault Refusal :=
  .next (s.command lane (insMul rd ra rb))

/-- MULL (R155). -/
def execMull (lane : Fin 16) (rd : BitVec 5) (ra : BitVec 5) (rb : BitVec 5) (s : State) : Host.Outcome State Fault Refusal :=
  .next (s.command lane (insMull rd ra rb))

/-- MULLU (R155). -/
def execMullu (lane : Fin 16) (rd : BitVec 5) (ra : BitVec 5) (rb : BitVec 5) (s : State) : Host.Outcome State Fault Refusal :=
  .next (s.command lane (insMullu rd ra rb))

/-- MULS (R155). -/
def execMuls (lane : Fin 16) (rd : BitVec 5) (ra : BitVec 5) (rb : BitVec 5) (s : State) : Host.Outcome State Fault Refusal :=
  .next (s.command lane (insMuls rd ra rb))

/-- DIV (R155). -/
def execDiv (lane : Fin 16) (rd : BitVec 5) (ra : BitVec 5) (rb : BitVec 5) (s : State) : Host.Outcome State Fault Refusal :=
  .next (s.command lane (insDiv rd ra rb))

/-- DIVU (R155). -/
def execDivu (lane : Fin 16) (rd : BitVec 5) (ra : BitVec 5) (rb : BitVec 5) (s : State) : Host.Outcome State Fault Refusal :=
  .next (s.command lane (insDivu rd ra rb))

/-- REM (R155). -/
def execRem (lane : Fin 16) (rd : BitVec 5) (ra : BitVec 5) (rb : BitVec 5) (s : State) : Host.Outcome State Fault Refusal :=
  .next (s.command lane (insRem rd ra rb))

/-- REMU (R155). -/
def execRemu (lane : Fin 16) (rd : BitVec 5) (ra : BitVec 5) (rb : BitVec 5) (s : State) : Host.Outcome State Fault Refusal :=
  .next (s.command lane (insRemu rd ra rb))

/-- FADD (R156). -/
def execFadd (lane : Fin 16) (rd : BitVec 5) (ra : BitVec 5) (rb : BitVec 5) (s : State) : Host.Outcome State Fault Refusal :=
  .next (s.command lane (insFadd rd ra rb))

/-- FSUB (R156). -/
def execFsub (lane : Fin 16) (rd : BitVec 5) (ra : BitVec 5) (rb : BitVec 5) (s : State) : Host.Outcome State Fault Refusal :=
  .next (s.command lane (insFsub rd ra rb))

/-- FMUL (R156). -/
def execFmul (lane : Fin 16) (rd : BitVec 5) (ra : BitVec 5) (rb : BitVec 5) (s : State) : Host.Outcome State Fault Refusal :=
  .next (s.command lane (insFmul rd ra rb))

/-- FDIV (R156). -/
def execFdiv (lane : Fin 16) (rd : BitVec 5) (ra : BitVec 5) (rb : BitVec 5) (s : State) : Host.Outcome State Fault Refusal :=
  .next (s.command lane (insFdiv rd ra rb))

/-- FMIN (R156). -/
def execFmin (lane : Fin 16) (rd : BitVec 5) (ra : BitVec 5) (rb : BitVec 5) (s : State) : Host.Outcome State Fault Refusal :=
  .next (s.command lane (insFmin rd ra rb))

/-- FMAX (R156). -/
def execFmax (lane : Fin 16) (rd : BitVec 5) (ra : BitVec 5) (rb : BitVec 5) (s : State) : Host.Outcome State Fault Refusal :=
  .next (s.command lane (insFmax rd ra rb))

/-- FEQ (R156). -/
def execFeq (lane : Fin 16) (rd : BitVec 5) (ra : BitVec 5) (rb : BitVec 5) (s : State) : Host.Outcome State Fault Refusal :=
  .next (s.command lane (insFeq rd ra rb))

/-- FLT (R156). -/
def execFlt (lane : Fin 16) (rd : BitVec 5) (ra : BitVec 5) (rb : BitVec 5) (s : State) : Host.Outcome State Fault Refusal :=
  .next (s.command lane (insFlt rd ra rb))

/-- FLE (R156). -/
def execFle (lane : Fin 16) (rd : BitVec 5) (ra : BitVec 5) (rb : BitVec 5) (s : State) : Host.Outcome State Fault Refusal :=
  .next (s.command lane (insFle rd ra rb))

/-- FCVTWS (R156). -/
def execFcvtws (lane : Fin 16) (rd : BitVec 5) (ra : BitVec 5) (rb : BitVec 5) (s : State) : Host.Outcome State Fault Refusal :=
  .next (s.command lane (insFcvtws rd ra rb))

/-- FCVTSW (R156). -/
def execFcvtsw (lane : Fin 16) (rd : BitVec 5) (ra : BitVec 5) (rb : BitVec 5) (s : State) : Host.Outcome State Fault Refusal :=
  .next (s.command lane (insFcvtsw rd ra rb))

/-- FABS (R156). -/
def execFabs (lane : Fin 16) (rd : BitVec 5) (ra : BitVec 5) (rb : BitVec 5) (s : State) : Host.Outcome State Fault Refusal :=
  .next (s.command lane (insFabs rd ra rb))

/-- FNEG (R156). -/
def execFneg (lane : Fin 16) (rd : BitVec 5) (ra : BitVec 5) (rb : BitVec 5) (s : State) : Host.Outcome State Fault Refusal :=
  .next (s.command lane (insFneg rd ra rb))

/-- LDW (R158). -/
def execLdw (lane : Fin 16) (rd : BitVec 5) (ra : BitVec 5) (imm : BitVec 16) (s : State) : Host.Outcome State Fault Refusal :=
  .next (s.command lane (insLdw lane rd ra imm))

/-- LDH (R158). -/
def execLdh (lane : Fin 16) (rd : BitVec 5) (ra : BitVec 5) (imm : BitVec 16) (s : State) : Host.Outcome State Fault Refusal :=
  .next (s.command lane (insLdh lane rd ra imm))

/-- LDHU (R158). -/
def execLdhu (lane : Fin 16) (rd : BitVec 5) (ra : BitVec 5) (imm : BitVec 16) (s : State) : Host.Outcome State Fault Refusal :=
  .next (s.command lane (insLdhu lane rd ra imm))

/-- LDB (R158). -/
def execLdb (lane : Fin 16) (rd : BitVec 5) (ra : BitVec 5) (imm : BitVec 16) (s : State) : Host.Outcome State Fault Refusal :=
  .next (s.command lane (insLdb lane rd ra imm))

/-- LDBU (R158). -/
def execLdbu (lane : Fin 16) (rd : BitVec 5) (ra : BitVec 5) (imm : BitVec 16) (s : State) : Host.Outcome State Fault Refusal :=
  .next (s.command lane (insLdbu lane rd ra imm))

/-- QLD (R158). -/
def execQld (lane : Fin 16) (rd : BitVec 5) (ra : BitVec 5) (imm : BitVec 16) (s : State) : Host.Outcome State Fault Refusal :=
  .next (s.command lane (insQld lane rd ra imm))

/-- STW (R158). -/
def execStw (lane : Fin 16) (rs : BitVec 5) (ra : BitVec 5) (imm : BitVec 16) (s : State) : Host.Outcome State Fault Refusal :=
  .next (s.command lane (insStw lane rs ra imm))

/-- STH (R158). -/
def execSth (lane : Fin 16) (rs : BitVec 5) (ra : BitVec 5) (imm : BitVec 16) (s : State) : Host.Outcome State Fault Refusal :=
  .next (s.command lane (insSth lane rs ra imm))

/-- STB (R158). -/
def execStb (lane : Fin 16) (rs : BitVec 5) (ra : BitVec 5) (imm : BitVec 16) (s : State) : Host.Outcome State Fault Refusal :=
  .next (s.command lane (insStb lane rs ra imm))

/-- STQ (R158). -/
def execStq (lane : Fin 16) (rs : BitVec 5) (ra : BitVec 5) (imm : BitVec 16) (s : State) : Host.Outcome State Fault Refusal :=
  .next (s.command lane (insStq lane rs ra imm))

/-- JC (R159). -/
def execJc (lane : Fin 16) (cond : BitVec 4) (ra : BitVec 5) (rb : BitVec 5) (off : BitVec 12) (s : State) : Host.Outcome State Fault Refusal :=
  .next (s.command lane (insJc cond ra rb off))

/-- CALL (R159). -/
def execCall (lane : Fin 16) (rd : BitVec 5) (off : BitVec 21) (s : State) : Host.Outcome State Fault Refusal :=
  .next (s.command lane (insCall rd off))

/-- CALLR (R159). -/
def execCallr (lane : Fin 16) (rd : BitVec 5) (ra : BitVec 5) (imm : BitVec 16) (s : State) : Host.Outcome State Fault Refusal :=
  .next (s.command lane (callrBody rd ra imm))

/-- EXT (R160). -/
def execExt (lane : Fin 16) (rd : BitVec 5) (ra : BitVec 5) (pos : BitVec 5) (wm1 : BitVec 5) (zero : BitVec 6) (s : State) : Host.Outcome State Fault Refusal :=
  .next (s.command lane (insExt rd ra pos wm1 zero))

/-- EXTS (R160). -/
def execExts (lane : Fin 16) (rd : BitVec 5) (ra : BitVec 5) (pos : BitVec 5) (wm1 : BitVec 5) (zero : BitVec 6) (s : State) : Host.Outcome State Fault Refusal :=
  .next (s.command lane (insExts rd ra pos wm1 zero))

/-- INS (R160). -/
def execIns (lane : Fin 16) (rd : BitVec 5) (ra : BitVec 5) (pos : BitVec 5) (wm1 : BitVec 5) (zero : BitVec 6) (s : State) : Host.Outcome State Fault Refusal :=
  .next (s.command lane (insIns rd ra pos wm1 zero))

/-- QMRG (R161). -/
def execQmrg (lane : Fin 16) (rd : BitVec 5) (ra : BitVec 5) (rb : BitVec 5) (s : State) : Host.Outcome State Fault Refusal :=
  .next (s.command lane (insQmrg rd ra rb))

/-- QGET (R161). -/
def execQget (lane : Fin 16) (rd : BitVec 5) (ra : BitVec 5) (rb : BitVec 5) (s : State) : Host.Outcome State Fault Refusal :=
  .next (s.command lane (insQget rd ra rb))

/-- QTAKE (R161). -/
def execQtake (lane : Fin 16) (rd : BitVec 5) (ra : BitVec 5) (rb : BitVec 5) (s : State) : Host.Outcome State Fault Refusal :=
  .next (s.command lane (insQtake rd ra rb))

/-- TIME (R144). -/
def execTime (lane : Fin 16) (rd : BitVec 5) (ra : BitVec 5) (rb : BitVec 5) (s : State) : Host.Outcome State Fault Refusal :=
  .next (s.command lane (insTime lane rd ra rb))

/-- PLYEND (R169). -/
def execPlyend (lane : Fin 16) (rd : BitVec 5) (ra : BitVec 5) (rb : BitVec 5) (s : State) : Host.Outcome State Fault Refusal :=
  .next (s.command lane (insPlyend lane rd ra rb))

end Sys2Proof.Machine
end

