-- ==== Sys2Proof/Machine/Dispatch.lean ====
section
/-! DEFINITION. The meaning of every command: one arm for each constructor of Instr, each one direct call
of the command's meaning. The queue of waiting commands is the step's. -/

namespace Sys2Proof.Machine

def exec (i : Instr) (s : State) : Host.Outcome State Fault Refusal :=
  match i with
  | .registerWrite addr width value => Sys2Proof.Machine.execRegisterWrite addr width value s
  | .pgLockWrite page value => Sys2Proof.Machine.execPgLockWrite page value s
  | .pgBrstWrite page value => Sys2Proof.Machine.execPgBrstWrite page value s
  | .pgIrqClear page value rising => Sys2Proof.Machine.execPgIrqClear page value rising s
  | .pgErrClear page value err => Sys2Proof.Machine.execPgErrClear page value err s
  | .clockMonitorWindowEnd idx count => Sys2Proof.Machine.execClockMonitorWindowEnd idx count s
  | .pllLossOfLock idx => Sys2Proof.Machine.execPllLossOfLock idx s
  | .xtalStop => Sys2Proof.Machine.execXtalStop s
  | .timNowLoRead => Sys2Proof.Machine.execTimNowLoRead s
  | .roundBoundary => Sys2Proof.Machine.execRoundBoundary s
  | .syncCorrect => Sys2Proof.Machine.execSyncCorrect s
  | .timeStep => Sys2Proof.Machine.execTimeStep s
  | .timStepCmd value => Sys2Proof.Machine.execTimStepCmd value s
  | .timExtOfsWrite value => Sys2Proof.Machine.execTimExtOfsWrite value s
  | .ptpTcCorrect inPort ingress egress frame => Sys2Proof.Machine.execPtpTcCorrect inPort ingress egress frame s
  | .ptpSyncRx port seqId ts ofs utc => Sys2Proof.Machine.execPtpSyncRx port seqId ts ofs utc s
  | .bsqStart => Sys2Proof.Machine.execBsqStart s
  | .bsqStop => Sys2Proof.Machine.execBsqStop s
  | .seqEnterRun => Sys2Proof.Machine.execSeqEnterRun s
  | .seqStopTakesEffect => Sys2Proof.Machine.execSeqStopTakesEffect s
  | .trackWalkBegin corrected bad => Sys2Proof.Machine.execTrackWalkBegin corrected bad s
  | .plyDispatch idx seg => Sys2Proof.Machine.execPlyDispatch idx seg s
  | .plyReadyCommit lane => Sys2Proof.Machine.execPlyReadyCommit lane s
  | .plyDeadlineAbort lane => Sys2Proof.Machine.execPlyDeadlineAbort lane s
  | .plyTrapSeen lane => Sys2Proof.Machine.execPlyTrapSeen lane s
  | .moveStart idx limit => Sys2Proof.Machine.execMoveStart idx limit s
  | .moveDeadline mover => Sys2Proof.Machine.execMoveDeadline mover s
  | .boardMoverFault mover cause addr => Sys2Proof.Machine.execBoardMoverFault mover cause addr s
  | .slotOpen idx => Sys2Proof.Machine.execSlotOpen idx s
  | .slotClose slot => Sys2Proof.Machine.execSlotClose slot s
  | .guardianWindowOpen idx => Sys2Proof.Machine.execGuardianWindowOpen idx s
  | .guardianWindowClose idx => Sys2Proof.Machine.execGuardianWindowClose idx s
  | .taskStart idx => Sys2Proof.Machine.execTaskStart idx s
  | .agreeClose idx => Sys2Proof.Machine.execAgreeClose idx s
  | .taskEnd idx => Sys2Proof.Machine.execTaskEnd idx s
  | .digest idx => Sys2Proof.Machine.execDigest idx s
  | .fioSample idx => Sys2Proof.Machine.execFioSample idx s
  | .fioRefresh idx => Sys2Proof.Machine.execFioRefresh idx s
  | .healthXchg idx => Sys2Proof.Machine.execHealthXchg idx s
  | .commitEntry idx => Sys2Proof.Machine.execCommitEntry idx s
  | .rerunSelect idx => Sys2Proof.Machine.execRerunSelect idx s
  | .bgResume idx => Sys2Proof.Machine.execBgResume idx s
  | .bgPreempt lane fault => Sys2Proof.Machine.execBgPreempt lane fault s
  | .bgSaveAbort lane => Sys2Proof.Machine.execBgSaveAbort lane s
  | .seqWatchdogExpiry => Sys2Proof.Machine.execSeqWatchdogExpiry s
  | .add lane rd ra rb => Sys2Proof.Machine.execAdd lane rd ra rb s
  | .sub lane rd ra rb => Sys2Proof.Machine.execSub lane rd ra rb s
  | .and lane rd ra rb => Sys2Proof.Machine.execAnd lane rd ra rb s
  | .or lane rd ra rb => Sys2Proof.Machine.execOr lane rd ra rb s
  | .xor lane rd ra rb => Sys2Proof.Machine.execXor lane rd ra rb s
  | .sll lane rd ra rb => Sys2Proof.Machine.execSll lane rd ra rb s
  | .srl lane rd ra rb => Sys2Proof.Machine.execSrl lane rd ra rb s
  | .sra lane rd ra rb => Sys2Proof.Machine.execSra lane rd ra rb s
  | .cmplt lane rd ra rb => Sys2Proof.Machine.execCmplt lane rd ra rb s
  | .cmpltu lane rd ra rb => Sys2Proof.Machine.execCmpltu lane rd ra rb s
  | .min lane rd ra rb => Sys2Proof.Machine.execMin lane rd ra rb s
  | .max lane rd ra rb => Sys2Proof.Machine.execMax lane rd ra rb s
  | .minu lane rd ra rb => Sys2Proof.Machine.execMinu lane rd ra rb s
  | .maxu lane rd ra rb => Sys2Proof.Machine.execMaxu lane rd ra rb s
  | .adds lane rd ra rb => Sys2Proof.Machine.execAdds lane rd ra rb s
  | .subs lane rd ra rb => Sys2Proof.Machine.execSubs lane rd ra rb s
  | .addsu lane rd ra rb => Sys2Proof.Machine.execAddsu lane rd ra rb s
  | .subsu lane rd ra rb => Sys2Proof.Machine.execSubsu lane rd ra rb s
  | .addk lane rd ra imm => Sys2Proof.Machine.execAddk lane rd ra imm s
  | .addsk lane rd ra imm => Sys2Proof.Machine.execAddsk lane rd ra imm s
  | .andk lane rd ra imm => Sys2Proof.Machine.execAndk lane rd ra imm s
  | .ork lane rd ra imm => Sys2Proof.Machine.execOrk lane rd ra imm s
  | .xork lane rd ra imm => Sys2Proof.Machine.execXork lane rd ra imm s
  | .cmpltk lane rd ra imm => Sys2Proof.Machine.execCmpltk lane rd ra imm s
  | .shk lane rd ra imm => Sys2Proof.Machine.execShk lane rd ra imm s
  | .kcat lane rd ra imm => Sys2Proof.Machine.execKcat lane rd ra imm s
  | .mul lane rd ra rb => Sys2Proof.Machine.execMul lane rd ra rb s
  | .mull lane rd ra rb => Sys2Proof.Machine.execMull lane rd ra rb s
  | .mullu lane rd ra rb => Sys2Proof.Machine.execMullu lane rd ra rb s
  | .muls lane rd ra rb => Sys2Proof.Machine.execMuls lane rd ra rb s
  | .div lane rd ra rb => Sys2Proof.Machine.execDiv lane rd ra rb s
  | .divu lane rd ra rb => Sys2Proof.Machine.execDivu lane rd ra rb s
  | .rem lane rd ra rb => Sys2Proof.Machine.execRem lane rd ra rb s
  | .remu lane rd ra rb => Sys2Proof.Machine.execRemu lane rd ra rb s
  | .fadd lane rd ra rb => Sys2Proof.Machine.execFadd lane rd ra rb s
  | .fsub lane rd ra rb => Sys2Proof.Machine.execFsub lane rd ra rb s
  | .fmul lane rd ra rb => Sys2Proof.Machine.execFmul lane rd ra rb s
  | .fdiv lane rd ra rb => Sys2Proof.Machine.execFdiv lane rd ra rb s
  | .fmin lane rd ra rb => Sys2Proof.Machine.execFmin lane rd ra rb s
  | .fmax lane rd ra rb => Sys2Proof.Machine.execFmax lane rd ra rb s
  | .feq lane rd ra rb => Sys2Proof.Machine.execFeq lane rd ra rb s
  | .flt lane rd ra rb => Sys2Proof.Machine.execFlt lane rd ra rb s
  | .fle lane rd ra rb => Sys2Proof.Machine.execFle lane rd ra rb s
  | .fcvtws lane rd ra rb => Sys2Proof.Machine.execFcvtws lane rd ra rb s
  | .fcvtsw lane rd ra rb => Sys2Proof.Machine.execFcvtsw lane rd ra rb s
  | .fabs lane rd ra rb => Sys2Proof.Machine.execFabs lane rd ra rb s
  | .fneg lane rd ra rb => Sys2Proof.Machine.execFneg lane rd ra rb s
  | .ldw lane rd ra imm => Sys2Proof.Machine.execLdw lane rd ra imm s
  | .ldh lane rd ra imm => Sys2Proof.Machine.execLdh lane rd ra imm s
  | .ldhu lane rd ra imm => Sys2Proof.Machine.execLdhu lane rd ra imm s
  | .ldb lane rd ra imm => Sys2Proof.Machine.execLdb lane rd ra imm s
  | .ldbu lane rd ra imm => Sys2Proof.Machine.execLdbu lane rd ra imm s
  | .qld lane rd ra imm => Sys2Proof.Machine.execQld lane rd ra imm s
  | .stw lane rs ra imm => Sys2Proof.Machine.execStw lane rs ra imm s
  | .sth lane rs ra imm => Sys2Proof.Machine.execSth lane rs ra imm s
  | .stb lane rs ra imm => Sys2Proof.Machine.execStb lane rs ra imm s
  | .stq lane rs ra imm => Sys2Proof.Machine.execStq lane rs ra imm s
  | .jc lane cond ra rb off => Sys2Proof.Machine.execJc lane cond ra rb off s
  | .call lane rd off => Sys2Proof.Machine.execCall lane rd off s
  | .callr lane rd ra imm => Sys2Proof.Machine.execCallr lane rd ra imm s
  | .ext lane rd ra pos wm1 zero => Sys2Proof.Machine.execExt lane rd ra pos wm1 zero s
  | .exts lane rd ra pos wm1 zero => Sys2Proof.Machine.execExts lane rd ra pos wm1 zero s
  | .ins lane rd ra pos wm1 zero => Sys2Proof.Machine.execIns lane rd ra pos wm1 zero s
  | .qmrg lane rd ra rb => Sys2Proof.Machine.execQmrg lane rd ra rb s
  | .qget lane rd ra rb => Sys2Proof.Machine.execQget lane rd ra rb s
  | .qtake lane rd ra rb => Sys2Proof.Machine.execQtake lane rd ra rb s
  | .time lane rd ra rb => Sys2Proof.Machine.execTime lane rd ra rb s
  | .plyend lane rd ra rb => Sys2Proof.Machine.execPlyend lane rd ra rb s
  | .lockstepMismatch lane line pc => Sys2Proof.Machine.execLockstepMismatch lane line pc s
  | .dualRailDisagree lane results => Sys2Proof.Machine.execDualRailDisagree lane results s
  | .barSequenceStart lane => Sys2Proof.Machine.execBarSequenceStart lane s
  | .barLbistDone lane pass => Sys2Proof.Machine.execBarLbistDone lane pass s
  | .barRollDone lane res => Sys2Proof.Machine.execBarRollDone lane res s
  | .powerOnTestDone lane lbist res => Sys2Proof.Machine.execPowerOnTestDone lane lbist res s
  | .claim lane => Sys2Proof.Machine.execClaim lane s
  | .release lane => Sys2Proof.Machine.execRelease lane s
  | .laneBenchChangeApply lane => Sys2Proof.Machine.execLaneBenchChangeApply lane s
  | .halt lane => Sys2Proof.Machine.execHalt lane s
  | .resume lane => Sys2Proof.Machine.execResume lane s
  | .step lane => Sys2Proof.Machine.execStep lane s
  | .cmpDbgRegDataWrite value => Sys2Proof.Machine.execCmpDbgRegDataWrite value s
  | .sramUncorr addr => Sys2Proof.Machine.execSramUncorr addr s
  | .codeRepairDone addr => Sys2Proof.Machine.execCodeRepairDone addr s
  | .dramUncorr addr => Sys2Proof.Machine.execDramUncorr addr s
  | .pageRetireDone => Sys2Proof.Machine.execPageRetireDone s
  | .sramSweepEnd dram => Sys2Proof.Machine.execSramSweepEnd dram s
  | .regionWrite ofs value => Sys2Proof.Machine.execRegionWrite ofs value s
  | .regionTakeEffect => Sys2Proof.Machine.execRegionTakeEffect s
  | .mmuInv value => Sys2Proof.Machine.execMmuInv value s
  | .mmuInvDone => Sys2Proof.Machine.execMmuInvDone s
  | .ringHeadWrite ring value => Sys2Proof.Machine.execRingHeadWrite ring value s
  | .ringCfgWrite ring ofs value => Sys2Proof.Machine.execRingCfgWrite ring ofs value s
  | .descriptorStart mover => Sys2Proof.Machine.execDescriptorStart mover s
  | .descriptorComplete ring => Sys2Proof.Machine.execDescriptorComplete ring s
  | .ringPageFault ring => Sys2Proof.Machine.execRingPageFault ring s
  | .ringCmdResume ring => Sys2Proof.Machine.execRingCmdResume ring s
  | .ringCmdSkip ring => Sys2Proof.Machine.execRingCmdSkip ring s
  | .brdCmdVerify => Sys2Proof.Machine.execBrdCmdVerify s
  | .brdCmdStore => Sys2Proof.Machine.execBrdCmdStore s
  | .brdCmdArm => Sys2Proof.Machine.execBrdCmdArm s
  | .brdCmdDisarm => Sys2Proof.Machine.execBrdCmdDisarm s
  | .brdCmdDiscard => Sys2Proof.Machine.execBrdCmdDiscard s
  | .brdCmdActivate => Sys2Proof.Machine.execBrdCmdActivate s
  | .brdCmdDone readErr writeErr => Sys2Proof.Machine.execBrdCmdDone readErr writeErr s
  | .boardLoadAtReset readErr => Sys2Proof.Machine.execBoardLoadAtReset readErr s
  | .pairCmdChange => Sys2Proof.Machine.execPairCmdChange s
  | .changeDecision => Sys2Proof.Machine.execChangeDecision s
  | .onlineChangeSwitch => Sys2Proof.Machine.execOnlineChangeSwitch s
  | .convertRoundEnd => Sys2Proof.Machine.execConvertRoundEnd s
  | .migrationDone => Sys2Proof.Machine.execMigrationDone s
  | .syncRx ch port ts frame => Sys2Proof.Machine.execSyncRx ch port ts frame s
  | .coldstartRx ch port ts frame => Sys2Proof.Machine.execColdstartRx ch port ts frame s
  | .dataInRx ch port ts frame => Sys2Proof.Machine.execDataInRx ch port ts frame s
  | .peerRx ch port ts frame => Sys2Proof.Machine.execPeerRx ch port ts frame s
  | .joinReqRx ch port ts frame => Sys2Proof.Machine.execJoinReqRx ch port ts frame s
  | .grantRx ch port ts frame => Sys2Proof.Machine.execGrantRx ch port ts frame s
  | .announceRx ch port ts frame => Sys2Proof.Machine.execAnnounceRx ch port ts frame s
  | .coldListen => Sys2Proof.Machine.execColdListen s
  | .coldAttempt => Sys2Proof.Machine.execColdAttempt s
  | .coldAbandon => Sys2Proof.Machine.execColdAbandon s
  | .coldDone => Sys2Proof.Machine.execColdDone s
  | .portDown ch port => Sys2Proof.Machine.execPortDown ch port s
  | .portUp ch port => Sys2Proof.Machine.execPortUp ch port s
  | .retrain ch ports => Sys2Proof.Machine.execRetrain ch ports s
  | .mbsClrSlot => Sys2Proof.Machine.execMbsClrSlot s
  | .mbsClrAll => Sys2Proof.Machine.execMbsClrAll s
  | .leadTake => Sys2Proof.Machine.execLeadTake s
  | .joinEnter => Sys2Proof.Machine.execJoinEnter s
  | .pairCmdLead => Sys2Proof.Machine.execPairCmdLead s
  | .pairCmdJoin => Sys2Proof.Machine.execPairCmdJoin s
  | .pairCmdCastle => Sys2Proof.Machine.execPairCmdCastle s
  | .pairCmdStandDown => Sys2Proof.Machine.execPairCmdStandDown s
  | .pairCmdBench => Sys2Proof.Machine.execPairCmdBench s
  | .pairCmdAbortJoin => Sys2Proof.Machine.execPairCmdAbortJoin s
  | .pairCmdResetPartner => Sys2Proof.Machine.execPairCmdResetPartner s
  | .dxlLinkUp => Sys2Proof.Machine.execDxlLinkUp s
  | .dxlLinkDown lanes health => Sys2Proof.Machine.execDxlLinkDown lanes health s
  | .healthMsgRx lane msg => Sys2Proof.Machine.execHealthMsgRx lane msg s
  | .digestMsgRx lane msg => Sys2Proof.Machine.execDigestMsgRx lane msg s
  | .digestCompare idx => Sys2Proof.Machine.execDigestCompare idx s
  | .pairCheckEnd engine => Sys2Proof.Machine.execPairCheckEnd engine s
  | .checkMsgRx lane msg => Sys2Proof.Machine.execCheckMsgRx lane msg s
  | .chgProposeRx lane msg => Sys2Proof.Machine.execChgProposeRx lane msg s
  | .chgAcceptRx lane msg => Sys2Proof.Machine.execChgAcceptRx lane msg s
  | .chgRefuseRx lane msg => Sys2Proof.Machine.execChgRefuseRx lane msg s
  | .chgCommitRx lane msg => Sys2Proof.Machine.execChgCommitRx lane msg s
  | .chgCancelRx lane msg => Sys2Proof.Machine.execChgCancelRx lane msg s
  | .castleOfferRx lane msg => Sys2Proof.Machine.execCastleOfferRx lane msg s
  | .castleTakeRx lane msg => Sys2Proof.Machine.execCastleTakeRx lane msg s
  | .castleCancelRx lane msg => Sys2Proof.Machine.execCastleCancelRx lane msg s
  | .castleDeadline => Sys2Proof.Machine.execCastleDeadline s
  | .castleHandOff => Sys2Proof.Machine.execCastleHandOff s
  | .castleTakeLead => Sys2Proof.Machine.execCastleTakeLead s
  | .grantMsgRx lane msg => Sys2Proof.Machine.execGrantMsgRx lane msg s
  | .hostwRx lane msg => Sys2Proof.Machine.execHostwRx lane msg s
  | .plantWriteApply => Sys2Proof.Machine.execPlantWriteApply s
  | .fiolRx lane msg => Sys2Proof.Machine.execFiolRx lane msg s
  | .resetReqRx lane msg => Sys2Proof.Machine.execResetReqRx lane msg s
  | .fwdRx lane msg => Sys2Proof.Machine.execFwdRx lane msg s
  | .joincRequestRx lane msg => Sys2Proof.Machine.execJoincRequestRx lane msg s
  | .joincWaitRx lane msg => Sys2Proof.Machine.execJoincWaitRx lane msg s
  | .joincStartRx lane msg => Sys2Proof.Machine.execJoincStartRx lane msg s
  | .joincCloseRx lane msg => Sys2Proof.Machine.execJoincCloseRx lane msg s
  | .joincDoneRx lane msg => Sys2Proof.Machine.execJoincDoneRx lane msg s
  | .joincAbortRx lane msg => Sys2Proof.Machine.execJoincAbortRx lane msg s
  | .xferRx lane msg => Sys2Proof.Machine.execXferRx lane msg s
  | .joinClosingTest => Sys2Proof.Machine.execJoinClosingTest s
  | .joinerToFollower => Sys2Proof.Machine.execJoinerToFollower s
  | .joinTransferSilence => Sys2Proof.Machine.execJoinTransferSilence s
  | .leadPulse => Sys2Proof.Machine.execLeadPulse s
  | .partnerLineDead2ms => Sys2Proof.Machine.execPartnerLineDead2ms s
  | .partnerLineChange live => Sys2Proof.Machine.execPartnerLineChange live s
  | .yield => Sys2Proof.Machine.execYield s
  | .readback => Sys2Proof.Machine.execReadback s
  | .standDownTakeEffect => Sys2Proof.Machine.execStandDownTakeEffect s
  | .blockWedged page => Sys2Proof.Machine.execBlockWedged page s
  | .tempWarn temp => Sys2Proof.Machine.execTempWarn temp s
  | .powerOnReset on => Sys2Proof.Machine.execPowerOnReset on s
  | .aonBrownOut on => Sys2Proof.Machine.execAonBrownOut on s
  | .coreBrownOut on => Sys2Proof.Machine.execCoreBrownOut on s
  | .resetNAssert on => Sys2Proof.Machine.execResetNAssert on s
  | .resetNLong => Sys2Proof.Machine.execResetNLong s
  | .clockFailureReset idx => Sys2Proof.Machine.execClockFailureReset idx s
  | .stewardLockstepFault => Sys2Proof.Machine.execStewardLockstepFault s
  | .rstSw hap value => Sys2Proof.Machine.execRstSw hap value s
  | .presenceLost pins => Sys2Proof.Machine.execPresenceLost pins s
  | .domainRelease => Sys2Proof.Machine.execDomainRelease s
  | .domainClockTimeout => Sys2Proof.Machine.execDomainClockTimeout s
  | .optionLoaderDone err1 err2 => Sys2Proof.Machine.execOptionLoaderDone err1 err2 s
  | .operatingTimeSave => Sys2Proof.Machine.execOperatingTimeSave s
  | .vinLow vin => Sys2Proof.Machine.execVinLow vin s
  | .sysOptCmdWrite => Sys2Proof.Machine.execSysOptCmdWrite s
  | .sysFuseCmdBurn value ok => Sys2Proof.Machine.execSysFuseCmdBurn value ok s
  | .romBoot err1 err2 => Sys2Proof.Machine.execRomBoot err1 err2 s
  | .firmwareBankVerify errA errB => Sys2Proof.Machine.execFirmwareBankVerify errA errB s
  | .secKeyStore value => Sys2Proof.Machine.execSecKeyStore value s
  | .secKeyEnable value => Sys2Proof.Machine.execSecKeyEnable value s
  | .secKeyDisable value => Sys2Proof.Machine.execSecKeyDisable value s
  | .secKeyRevoke value => Sys2Proof.Machine.execSecKeyRevoke value s
  | .rstOptimeLoRead => Sys2Proof.Machine.execRstOptimeLoRead s
  | .recordEventAdmit => Sys2Proof.Machine.execRecordEventAdmit s
  | .recordWrite res => Sys2Proof.Machine.execRecordWrite res s
  | .segmentEraseDone ok => Sys2Proof.Machine.execSegmentEraseDone ok s
  | .suppressTimeout => Sys2Proof.Machine.execSuppressTimeout s
  | .recorderStart indexOk => Sys2Proof.Machine.execRecorderStart indexOk s
  | .indexRebuilt ms => Sys2Proof.Machine.execIndexRebuilt ms s
  | .recSubCmd hap => Sys2Proof.Machine.execRecSubCmd hap s
  | .recRdCmdRead hap => Sys2Proof.Machine.execRecRdCmdRead hap s
  | .recReadDone => Sys2Proof.Machine.execRecReadDone s
  | .updCmdVerify => Sys2Proof.Machine.execUpdCmdVerify s
  | .updCmdStore => Sys2Proof.Machine.execUpdCmdStore s
  | .updCmdDiscard => Sys2Proof.Machine.execUpdCmdDiscard s
  | .updCmdHandover => Sys2Proof.Machine.execUpdCmdHandover s
  | .updCmdCancel => Sys2Proof.Machine.execUpdCmdCancel s
  | .updCmdDone flashOk => Sys2Proof.Machine.execUpdCmdDone flashOk s
  | .handoverSwitchPoint => Sys2Proof.Machine.execHandoverSwitchPoint s
  | .updHoSerialised hap report => Sys2Proof.Machine.execUpdHoSerialised hap report s
  | .updHoHanded hap ms len writes => Sys2Proof.Machine.execUpdHoHanded hap ms len writes s
  | .serLimitExpiry => Sys2Proof.Machine.execSerLimitExpiry s
  | .startLimitExpiry => Sys2Proof.Machine.execStartLimitExpiry s
  | .librarySwitch => Sys2Proof.Machine.execLibrarySwitch s
  | .updConfirmOk hap conf => Sys2Proof.Machine.execUpdConfirmOk hap conf s
  | .updConfirmFail hap code => Sys2Proof.Machine.execUpdConfirmFail hap code s
  | .confLimitExpiry => Sys2Proof.Machine.execConfLimitExpiry s
  | .fallbackReturn => Sys2Proof.Machine.execFallbackReturn s
  | .hapRead src msg => Sys2Proof.Machine.execHapRead src msg s
  | .hapWrite src msg => Sys2Proof.Machine.execHapWrite src msg s
  | .hapPlantWrite src msg => Sys2Proof.Machine.execHapPlantWrite src msg s
  | .ringPush src msg => Sys2Proof.Machine.execRingPush src msg s
  | .ringPull src msg => Sys2Proof.Machine.execRingPull src msg s
  | .boardChunk src msg => Sys2Proof.Machine.execBoardChunk src msg s
  | .updateChunk src msg => Sys2Proof.Machine.execUpdateChunk src msg s
  | .recRead src msg => Sys2Proof.Machine.execRecRead src msg s
  | .resetArm src msg => Sys2Proof.Machine.execResetArm src msg s
  | .resetFire src msg => Sys2Proof.Machine.execResetFire src msg s
  | .hapResetAssert => Sys2Proof.Machine.execHapResetAssert s
  | .resetArmLapse => Sys2Proof.Machine.execResetArmLapse s
  | .hapBusyTimeout src msg => Sys2Proof.Machine.execHapBusyTimeout src msg s
  | .reassemblyTimeout key xid => Sys2Proof.Machine.execReassemblyTimeout key xid s
  | .stagingClaimTimeout image => Sys2Proof.Machine.execStagingClaimTimeout image s
  | .hapKeyStore value hapKey => Sys2Proof.Machine.execHapKeyStore value hapKey s
  | .hapKeyEnable value hapKey => Sys2Proof.Machine.execHapKeyEnable value hapKey s
  | .hapKeyDisable value hapKey => Sys2Proof.Machine.execHapKeyDisable value hapKey s
  | .hapKeyErase value hapKey => Sys2Proof.Machine.execHapKeyErase value hapKey s
  | .hapCtrLoRead => Sys2Proof.Machine.execHapCtrLoRead s
  | .stwWdtKick hap value => Sys2Proof.Machine.execStwWdtKick hap value s
  | .stewardWatchdogExpiry => Sys2Proof.Machine.execStewardWatchdogExpiry s
  | .hstTsPop => Sys2Proof.Machine.execHstTsPop s
  | .canCtrlWrite ch value check => Sys2Proof.Machine.execCanCtrlWrite ch value check s
  | .canFrameRx ch hdr0 hdr1 data => Sys2Proof.Machine.execCanFrameRx ch hdr0 hdr1 data s
  | .canRxPop ch => Sys2Proof.Machine.execCanRxPop ch s
  | .canTxReq ch req => Sys2Proof.Machine.execCanTxReq ch req s
  | .canTxAbort ch bufs => Sys2Proof.Machine.execCanTxAbort ch bufs s
  | .canFrameTxEnd ch res => Sys2Proof.Machine.execCanFrameTxEnd ch res s
  | .canCmdRecover ch => Sys2Proof.Machine.execCanCmdRecover ch s
  | .canRecoveryDone ch => Sys2Proof.Machine.execCanRecoveryDone ch s
  | .canDominantTimeout ch => Sys2Proof.Machine.execCanDominantTimeout ch s
  | .canRecoveryDelay ch => Sys2Proof.Machine.execCanRecoveryDelay ch s
  | .fioInputSample levels breaks => Sys2Proof.Machine.execFioInputSample levels breaks s
  | .fioTrip chan => Sys2Proof.Machine.execFioTrip chan s
  | .fioRetry chan => Sys2Proof.Machine.execFioRetry chan s
  | .fioRetryCountReset chan => Sys2Proof.Machine.execFioRetryCountReset chan s
  | .fioExtDrive chan => Sys2Proof.Machine.execFioExtDrive chan s
  | .fioRefreshTimeout mask => Sys2Proof.Machine.execFioRefreshTimeout mask s
  | .fioLplusMeasure volt => Sys2Proof.Machine.execFioLplusMeasure volt s
  | .fioLplusRestored => Sys2Proof.Machine.execFioLplusRestored s
  | .fioCmdClear value trips => Sys2Proof.Machine.execFioCmdClear value trips s
  | .fioCfgWrite value => Sys2Proof.Machine.execFioCfgWrite value s
  | .loopHealthTimeout => Sys2Proof.Machine.execLoopHealthTimeout s
  | .loopCompl meas term => Sys2Proof.Machine.execLoopCompl meas term s
  | .loopComplEnd meas term => Sys2Proof.Machine.execLoopComplEnd meas term s
  | .loopTestWrite value => Sys2Proof.Machine.execLoopTestWrite value s
  | .loopTestEnd => Sys2Proof.Machine.execLoopTestEnd s
  | .jtagExtest pins => Sys2Proof.Machine.execJtagExtest pins s
  | .jtagSamplePreload pins => Sys2Proof.Machine.execJtagSamplePreload pins s
  | .jtagIdcode => Sys2Proof.Machine.execJtagIdcode s
  | .jtagRegread addr => Sys2Proof.Machine.execJtagRegread addr s
  | .jtagBypass x => Sys2Proof.Machine.execJtagBypass x s
  | .jtagAct leave => Sys2Proof.Machine.execJtagAct leave s
  | .dataOutRx ch port ts frame => Sys2Proof.Machine.execDataOutRx ch port ts frame s
  | .strayFrameRx ch port ts frame => Sys2Proof.Machine.execStrayFrameRx ch port ts frame s
  | .dramCorrectedError word => Sys2Proof.Machine.execDramCorrectedError word s
  | .optionWriteDone ok => Sys2Proof.Machine.execOptionWriteDone ok s
  | .hostLinkChange port link => Sys2Proof.Machine.execHostLinkChange port link s
  | .switchFrameForward port frame => Sys2Proof.Machine.execSwitchFrameForward port frame s
  | .arpNdIcmpRx port frame => Sys2Proof.Machine.execArpNdIcmpRx port frame s
  | .canBusError ch lec dominant => Sys2Proof.Machine.execCanBusError ch lec dominant s
  | .joincRefuseRx lane msg => Sys2Proof.Machine.execJoincRefuseRx lane msg s
  | .xtalRestart => Sys2Proof.Machine.execXtalRestart s
  | .authSummary => Sys2Proof.Machine.execAuthSummary s
  | .ptpStateChange port st clockId => Sys2Proof.Machine.execPtpStateChange port st clockId s

end Sys2Proof.Machine
end

