-- ==== Sys2Proof/Machine/Tick.lean ====
section
/-! DEFINITION. What the block does of its own while no command waits: one BCLK edge passes (R38). -/

namespace Sys2Proof.Machine

/-- One BCLK edge: global time advances by the rate, the trim and the slew of this cycle (R38, R546). While SEQ is held
in reset global time does not count (R44), operating time does while AON is released (R402). -/
def State.edge (s : State) : State :=
  if bit (s.reg Reg.rstDom) 2 then s.edges 1
  else if bit (s.reg Reg.rstDom) 0 then s.opAdvance 5
  else s

/-- What the block does of its own at a BCLK edge: time passes, and 10 ms after a WEDGE the steward makes the request that
it still owes (R384). -/
def State.tick (s : State) : State :=
  let t := s.edge
  match t.host.wedgeAt with
  | some w => if w + 10000000 ≤ t.opNs then t.wedgeReset else t
  | none => t

end Sys2Proof.Machine
end

