-- ==== Sys2Proof/WellFormed.lean ====
section
/-! DEFINITION. The well-formed commands: the operands whose range their types do not fix. A command carries no
encoding (spec/opcode_table.json gives none), so these are the ranges that the rules give the operands. -/

namespace Sys2Proof

/-- Capacities of the sections that an entry index counts in (R69): TRACK_N. -/
abbrev capN : Nat := 131072
/-- TRACK_L (R69). -/
abbrev capL : Nat := 65536
/-- TRACK_M (R69). -/
abbrev capM : Nat := 131072
/-- TRACK_F (R69). -/
abbrev capF : Nat := 16384
/-- GUARD (R69). -/
abbrev capG : Nat := 16384

/-- An IPv4 or an IPv6 address (R463). -/
def HostAddr.wf (a : HostAddr) : Bool := a.ip.length == 4 || a.ip.length == 16

/-- The operands of a command lie in their ranges: entry indices below the capacity of their section (R69), host
addresses of 4 or 16 bytes (R463), CAN frames of at most 64 data bytes (R488). -/
def Instr.wellFormed : Instr → Bool
  | .plyDispatch idx _ => decide (idx < capL)
  | .commitEntry idx => decide (idx < capL)
  | .rerunSelect idx => decide (idx < capL)
  | .bgResume idx => decide (idx < capL)
  | .moveStart idx _ => decide (idx < capM)
  | .slotOpen idx => decide (idx < capN)
  | .guardianWindowOpen idx => decide (idx < capG)
  | .guardianWindowClose idx => decide (idx < capG)
  | .taskStart idx => decide (idx < capF)
  | .agreeClose idx => decide (idx < capF)
  | .taskEnd idx => decide (idx < capF)
  | .digest idx => decide (idx < capF)
  | .fioSample idx => decide (idx < capF)
  | .fioRefresh idx => decide (idx < capF)
  | .healthXchg idx => decide (idx < capF)
  | .digestCompare idx => decide (idx < capF)
  | .hapRead src _ => src.addr.wf
  | .hapWrite src _ => src.addr.wf
  | .hapPlantWrite src _ => src.addr.wf
  | .ringPush src _ => src.addr.wf
  | .ringPull src _ => src.addr.wf
  | .boardChunk src _ => src.addr.wf
  | .updateChunk src _ => src.addr.wf
  | .recRead src _ => src.addr.wf
  | .resetArm src _ => src.addr.wf
  | .resetFire src _ => src.addr.wf
  | .hapBusyTimeout src _ => src.addr.wf
  | .canFrameRx _ _ _ data => decide (data.length ≤ 64)
  | .updHoSerialised _ r => decide (r.block.length ≤ 0x4000000)
  | .registerWrite .. | .pgLockWrite .. | .pgBrstWrite .. | .pgIrqClear .. | .pgErrClear ..
  | .clockMonitorWindowEnd .. | .pllLossOfLock .. | .xtalStop | .timNowLoRead | .roundBoundary
  | .syncCorrect | .timeStep | .timStepCmd .. | .timExtOfsWrite .. | .ptpTcCorrect .. | .ptpSyncRx ..
  | .bsqStart | .bsqStop | .seqEnterRun | .seqStopTakesEffect | .trackWalkBegin .. | .plyReadyCommit ..
  | .plyDeadlineAbort .. | .plyTrapSeen .. | .moveDeadline .. | .boardMoverFault .. | .slotClose ..
  | .bgPreempt .. | .bgSaveAbort .. | .seqWatchdogExpiry | .add .. | .sub .. | .and .. | .or .. | .xor ..
  | .sll .. | .srl .. | .sra .. | .cmplt .. | .cmpltu .. | .min .. | .max .. | .minu .. | .maxu ..
  | .adds .. | .subs .. | .addsu .. | .subsu .. | .addk .. | .addsk .. | .andk .. | .ork .. | .xork ..
  | .cmpltk .. | .shk .. | .kcat .. | .mul .. | .mull .. | .mullu .. | .muls .. | .div .. | .divu ..
  | .rem .. | .remu .. | .fadd .. | .fsub .. | .fmul .. | .fdiv .. | .fmin .. | .fmax .. | .feq ..
  | .flt .. | .fle .. | .fcvtws .. | .fcvtsw .. | .fabs .. | .fneg .. | .ldw .. | .ldh .. | .ldhu ..
  | .ldb .. | .ldbu .. | .qld .. | .stw .. | .sth .. | .stb .. | .stq .. | .jc .. | .call .. | .callr ..
  | .ext .. | .exts .. | .ins .. | .qmrg .. | .qget .. | .qtake .. | .time .. | .plyend ..
  | .lockstepMismatch .. | .dualRailDisagree .. | .barSequenceStart .. | .barLbistDone .. | .barRollDone ..
  | .powerOnTestDone .. | .claim .. | .release .. | .laneBenchChangeApply .. | .halt .. | .resume ..
  | .step .. | .cmpDbgRegDataWrite .. | .sramUncorr .. | .codeRepairDone .. | .dramUncorr ..
  | .pageRetireDone | .sramSweepEnd .. | .regionWrite .. | .regionTakeEffect | .mmuInv .. | .mmuInvDone
  | .ringHeadWrite .. | .ringCfgWrite .. | .descriptorStart .. | .descriptorComplete .. | .ringPageFault ..
  | .ringCmdResume .. | .ringCmdSkip .. | .brdCmdVerify | .brdCmdStore | .brdCmdArm | .brdCmdDisarm
  | .brdCmdDiscard | .brdCmdActivate | .brdCmdDone .. | .boardLoadAtReset .. | .pairCmdChange
  | .changeDecision | .onlineChangeSwitch | .convertRoundEnd | .migrationDone | .syncRx ..
  | .coldstartRx .. | .dataInRx .. | .peerRx .. | .joinReqRx .. | .grantRx .. | .announceRx ..
  | .coldListen | .coldAttempt | .coldAbandon | .coldDone | .portDown .. | .portUp .. | .retrain ..
  | .mbsClrSlot | .mbsClrAll | .leadTake | .joinEnter | .pairCmdLead | .pairCmdJoin | .pairCmdCastle
  | .pairCmdStandDown | .pairCmdBench | .pairCmdAbortJoin | .pairCmdResetPartner | .dxlLinkUp
  | .dxlLinkDown .. | .healthMsgRx .. | .digestMsgRx .. | .pairCheckEnd .. | .checkMsgRx ..
  | .chgProposeRx .. | .chgAcceptRx .. | .chgRefuseRx .. | .chgCommitRx .. | .chgCancelRx ..
  | .castleOfferRx .. | .castleTakeRx .. | .castleCancelRx .. | .castleDeadline | .castleHandOff
  | .castleTakeLead | .grantMsgRx .. | .hostwRx .. | .plantWriteApply | .fiolRx .. | .resetReqRx ..
  | .fwdRx .. | .joincRequestRx .. | .joincWaitRx .. | .joincStartRx .. | .joincCloseRx ..
  | .joincDoneRx .. | .joincAbortRx .. | .xferRx .. | .joinClosingTest | .joinerToFollower
  | .joinTransferSilence | .leadPulse | .partnerLineDead2ms | .partnerLineChange .. | .yield | .readback
  | .standDownTakeEffect | .blockWedged .. | .tempWarn .. | .powerOnReset .. | .aonBrownOut ..
  | .coreBrownOut .. | .resetNAssert .. | .resetNLong | .clockFailureReset .. | .stewardLockstepFault
  | .rstSw .. | .presenceLost .. | .domainRelease | .domainClockTimeout | .optionLoaderDone ..
  | .operatingTimeSave | .vinLow .. | .sysOptCmdWrite | .sysFuseCmdBurn .. | .romBoot ..
  | .firmwareBankVerify .. | .secKeyStore .. | .secKeyEnable .. | .secKeyDisable .. | .secKeyRevoke ..
  | .rstOptimeLoRead | .recordEventAdmit | .recordWrite .. | .segmentEraseDone .. | .suppressTimeout
  | .recorderStart .. | .indexRebuilt .. | .recSubCmd .. | .recRdCmdRead .. | .recReadDone | .updCmdVerify
  | .updCmdStore | .updCmdDiscard | .updCmdHandover | .updCmdCancel | .updCmdDone .. | .handoverSwitchPoint
  | .updHoHanded .. | .serLimitExpiry | .startLimitExpiry | .librarySwitch
  | .updConfirmOk .. | .updConfirmFail .. | .confLimitExpiry | .fallbackReturn | .hapResetAssert
  | .resetArmLapse | .reassemblyTimeout .. | .stagingClaimTimeout .. | .hapKeyStore .. | .hapKeyEnable ..
  | .hapKeyDisable .. | .hapKeyErase .. | .hapCtrLoRead | .stwWdtKick .. | .stewardWatchdogExpiry
  | .hstTsPop | .canCtrlWrite .. | .canRxPop .. | .canTxReq .. | .canTxAbort .. | .canFrameTxEnd ..
  | .canCmdRecover .. | .canRecoveryDone .. | .canDominantTimeout .. | .canRecoveryDelay ..
  | .fioInputSample .. | .fioTrip .. | .fioRetry .. | .fioRetryCountReset .. | .fioExtDrive ..
  | .fioRefreshTimeout .. | .fioLplusMeasure .. | .fioLplusRestored | .fioCmdClear .. | .fioCfgWrite ..
  | .loopHealthTimeout | .loopCompl .. | .loopComplEnd .. | .loopTestWrite .. | .loopTestEnd
  | .jtagExtest .. | .jtagSamplePreload .. | .jtagIdcode | .jtagRegread .. | .jtagBypass .. | .jtagAct ..
  | .dataOutRx .. | .strayFrameRx .. | .dramCorrectedError .. | .optionWriteDone .. | .hostLinkChange ..
  | .switchFrameForward .. | .arpNdIcmpRx .. | .canBusError .. | .joincRefuseRx .. | .xtalRestart
  | .authSummary | .ptpStateChange .. => true

end Sys2Proof
end

