-- ==== Sys2Proof/Safety.lean ====
section
/-! DEFINITION. What holds of every state that the block can be in, what it means that a command completes, and the
words in which the effects of lane instructions and of received messages are stated. -/

namespace Sys2Proof.Machine

/-- The queue is `q`, memory is in its canonical form and both copies of every lane hold the same registers: a
comparison that differs is a command of its own (assumption 56), after which the lane's work is discarded. -/
def Good (q : List Instr) (s : State) : Prop :=
  s.pending = q ∧ s.mem.wf = true ∧ ∀ n : Fin 16, s.lanes[n].main = s.lanes[n].shadow

/-- The invariant of the block: memory is canonical and the copies of every lane agree (R175, R221). -/
abbrev Inv (s : State) : Prop := s.mem.wf = true ∧ ∀ n : Fin 16, s.lanes[n].main = s.lanes[n].shadow

/-- Command `c` completes in state `s`, and what it leaves meets `P`. -/
def Does (c : Instr) (s : State) (P : State → Prop) : Prop := ∃ t, exec c s = .next t ∧ P t

/-- Command `c` completes in state `s` and leaves `t`. -/
def Gives (c : Instr) (s t : State) : Prop := exec c s = .next t

/-! ### Lane instructions -/

/-- A general register of lane `n` (R143). -/
def State.g (s : State) (n : Fin 16) (r : BitVec 5) : Word := s.lanes[n].main.get r

/-- The quality accumulator of lane `n` (R162). -/
def State.qa (s : State) (n : Fin 16) : BitVec 8 := s.lanes[n].main.qa

/-- The program counter of lane `n`. -/
def State.pc (s : State) (n : Fin 16) : Word := s.lanes[n].main.pc

/-- Lane `n` executes, no routine of the library stands at its program counter (R269), and the word there can be fetched
(R147, R168, R196). -/
abbrev State.issues (s : State) (n : Fin 16) : Prop :=
  s.executes n false = true ∧ s.libAt n = .no ∧ s.fetchOk n s.lanes[n].work.bg (s.pc n).toNat = true
    ∧ s.poisoned (s.lanePhys n (s.pc n).toNat) 4 = false

/-- Nothing outside lane `n` differs; in lane `n` both copies still agree, and its state, work, write log and gambit data
are as before. -/
def LaneFrame (n : Fin 16) (s t : State) : Prop :=
  t = { s with lanes := t.lanes } ∧ (∀ m : Fin 16, m ≠ n → t.lanes[m] = s.lanes[m])
    ∧ t.lanes[n].shadow = t.lanes[n].main
    ∧ t.lanes[n].state = s.lanes[n].state ∧ t.lanes[n].act = s.lanes[n].act ∧ t.lanes[n].ply = s.lanes[n].ply
    ∧ t.lanes[n].log = s.lanes[n].log ∧ t.lanes[n].shadowBuf = s.lanes[n].shadowBuf ∧ t.lanes[n].readSet = s.lanes[n].readSet

/-- Lane `n` has gone on to `pc` with QA `qa`; register `rd` holds `v` and every other register what it held; a write
to g0 is discarded (R143). -/
def Leaves (n : Fin 16) (rd : BitVec 5) (v : Word) (qa : BitVec 8) (pc : Word) (s t : State) : Prop :=
  (∀ r : BitVec 5, t.g n r = if r = rd ∧ rd ≠ 0 then v else s.g n r)
    ∧ t.qa n = qa ∧ t.pc n = pc ∧ t.lanes[n].main.tc = s.lanes[n].main.tc ∧ LaneFrame n s t

/-- The same of an instruction in sequence. -/
def Writes (n : Fin 16) (rd : BitVec 5) (v : Word) (qa : BitVec 8) (s t : State) : Prop := Leaves n rd v qa (s.pc n + 4) s t

/-- Register `rd` holds the low word and register rd + 1 the high word of `v` (R152). -/
def WritesPair (n : Fin 16) (rd : BitVec 5) (v : BitVec 64) (s t : State) : Prop :=
  (∀ r : BitVec 5, t.g n r = if r = rd then v.setWidth 32 else if r = rd + 1 then v.extractLsb' 32 32 else s.g n r)
    ∧ t.qa n = s.qa n ∧ t.pc n = s.pc n + 4 ∧ t.lanes[n].main.tc = s.lanes[n].main.tc ∧ LaneFrame n s t

/-- Lane `n` moves on in sequence and writes no register; `s` is the state with the store made. -/
def Stores (n : Fin 16) (s t : State) : Prop := Writes n 0 0 (s.qa n) s t

/-- Lane `n` has come to the entry of standard routine `k` (R269, R270), whose instance and return address can be accessed;
`c` is the lane's core. -/
abbrev State.enters (s : State) (n : Fin 16) (k : Nat) (c : Core) : Prop :=
  s.executes n false = true ∧ c = s.lanes[n].main ∧ s.libAt n = .routine k
    ∧ s.libReady n c.pc.toNat (c.get 5).toNat (libWords k) (c.get 31).toNat = true

/-- What lane `n` finds once it has passed what stands at its PC in the library meets `P`. -/
def Passes (n : Fin 16) (s : State) (P : State → Prop) : Prop := P (s.libraryStep n)

/-- What a routine leaves beside its results: it has returned to the address in g31, registers outside g5 to g15 and g30
hold what they held at its entry, and nothing differs from `u`, the state with the instance stored, but the counter
of free values (R270). -/
def Returns (n : Fin 16) (c : Core) (u t : State) : Prop :=
  (∀ r : BitVec 5, r.toNat ∉ libRegs → t.g n r = c.get r) ∧ t.pc n = c.get 31
    ∧ t.lanes[n].main.tc = u.lanes[n].main.tc ∧ LaneFrame n { u with free := t.free } t

/-- QA with the conditions of a floating-point result (R157). -/
def qaFloat (qa : BitVec 8) (r : FRes) : BitVec 8 :=
  qaSet (qaSet (qaSet qa qFINV r.finv) qFOVF r.fovf) qFCVT r.fcvt

/-- The word spells a NaN (IEEE 754 binary32). -/
abbrev fIsNan (w : Word) : Bool := bits w 30 23 == 255 && bits w 22 0 != 0

/-- The word spells a signalling NaN. -/
abbrev fIsSig (w : Word) : Bool := fIsNan w && !bit w 22

/-- The word spells an infinity. -/
abbrev fIsInf (w : Word) : Bool := bits w 30 0 == 0x7F800000

/-- The word spells a zero. -/
abbrev fIsZero (w : Word) : Bool := bits w 30 0 == 0

/-- The word spells a finite number. -/
abbrev fIsFin (w : Word) : Bool := bits w 30 23 != 255

/-- The number that a finite word spells: its fraction with the hidden bit, its exponent, its sign. -/
def fRat (w : Word) : ℚ :=
  let ex := bits w 30 23
  (if bit w 31 then -1 else 1) * ((if ex = 0 then 0 else 2 ^ 23) + bits w 22 0 : ℕ) * 2 ^ ((max ex 1 : ℕ) - 150 : ℤ)

/-- The place of a word in the order of the binary32 numbers and infinities; both zeros have the same. -/
def fKey (w : Word) : Int := if bit w 31 then -(bits w 30 0 : Int) else bits w 30 0

/-- `w` is the exact number `x` rounded to the nearest binary32 number, ties to even, with the sign of `x`; beyond the
range it is an infinity, and that is an overflow (R157). -/
def FRounded (x : ℚ) (w : Word) (ovf : Bool) : Prop :=
  (x ≠ 0 → bit w 31 = decide (x < 0)) ∧
    if 2 ^ 128 - 2 ^ 103 ≤ |x| then fIsInf w = true ∧ ovf = true
    else fIsFin w = true ∧ ovf = false ∧ ∀ v, fIsFin v = true → |fRat w - x| ≤ |fRat v - x|
      ∧ (|fRat w - x| = |fRat v - x| → fRat v ≠ fRat w → bit w 0 = false)

/-- Lane `n` has trapped with TC `tc` and LANE_TRAP_ADDR `addr` while a ply ran (R164, R166): the ply stops, its write log
is empty, memory and every general register are as before. -/
def Traps (n : Fin 16) (tc addr : Word) (s t : State) : Prop :=
  t.lanes[n].main.tc = tc ∧ t.reg (Reg.laneTrap n) = tc ∧ t.reg (Reg.laneTrapAddr n) = addr
    ∧ (∀ p, s.lanes[n].ply = some p → t.lanes[n].ply = some { p with phase := .trapped })
    ∧ t.lanes[n].log = .empty ∧ t.mem = s.mem ∧ (∀ r : BitVec 5, t.g n r = s.g n r)

/-! ### The time base -/

/-- `r` is `num / den` rounded to the nearest integer, half to even (R546). -/
def HalfEven (num den r : Int) : Prop :=
  2 * |r * den - num| ≤ den ∧ (2 * |r * den - num| = den → r % 2 = 0)

/-- `d` is the mean of the values that R49 selects of `l`, in half ns, as a multiple of 2^-8 ns (R49, R546). -/
def Selected (l : List Int) (d : Int) : Prop :=
  ∃ v : List Int, v.Perm l ∧ v.Pairwise (· ≤ ·) ∧
    let k := if 7 ≤ v.length then 2 else if 4 ≤ v.length then 1 else 0
    let c := v.length - 2 * k
    HalfEven (128 * ((v.drop k).take c).sum) c d

/-! ### Messages -/

/-- A Dunly message of kind `kind` arrives whole (R340 to R342). -/
abbrev State.gets (s : State) (kind : Nat) (msg : Bytes) : Prop :=
  s.domainUp 3 = true ∧ dunlyOk msg = true ∧ beAt msg 15 1 = kind

/-- The state once a Dunly message's SEQ has been taken (R343). -/
def State.taken (s : State) (lane : Fin 4) (msg : Bytes) : State := s.seqGap lane (BitVec.ofNat 32 (beAt msg 22 4))

/-- The payload of a Dunly message. -/
def dunlyBody (msg : Bytes) : Bytes := slice msg 30 (msg.length - 34)

/-- A request passes the checks of R466 to R468; `ok` says that it may be served in recovery and by the commissioning
key. -/
abbrev State.hears (s : State) (src : HapSrc) (msg : Bytes) (type : Nat) (ok : Bool) : Prop :=
  s.domainUp 8 = true ∧ s.hapServed src = true ∧ s.hapCheck msg = none ∧ (hapParse src msg).type = type
    ∧ (s.hapAccept msg).hapTurnAway (hapParse src msg) ok = none

/-- The open transaction that a segment belongs to (R476). -/
def State.reasmOf (s : State) (m : HapMsg) : Option Reasm :=
  s.host.reasm.find? fun x => x.key == m.key && x.xid == m.xid && x.type == m.type

/-- The discarded transaction that a segment belongs to (R476). -/
def State.orphanOf (s : State) (m : HapMsg) : Option Orphan :=
  s.host.orphans.find? fun o => o.key == m.key && o.xid == m.xid && decide (s.opTime.toNat < o.until_.toNat)

/-- The open transactions without the one that a segment belongs to. -/
def State.otherReasm (s : State) (m : HapMsg) : List Reasm :=
  s.host.reasm.filter fun x => !(x.key == m.key && x.xid == m.xid && x.type == m.type)

/-! ### Boards -/

/-- The board engine has begun a command; no flash write of it has begun. -/
def State.boardRuns (s : State) (op : BrdOp) : State :=
  { s with boards := { s.boards with running := some op, writing := [], busyAt := s.opNs } }

/-- The board engine with no command. -/
def State.boardIdle (s : State) : State := { s with boards := { s.boards with running := none } }

/-! ### Slots and track entries -/

/-- The slot's time has come to its end, and its occurrence is no longer open (R304). -/
def State.slotEnds (s : State) (run : SlotRun) (r : SlotRec) : State :=
  (s.advanceTo (run.start + BitVec.ofNat 64 (r.len * 50))).modNet fun n =>
    { n with slots := putRun (n.slots.filter (fun x => x.slot != run.slot || x.isOpen)) { run with isOpen := false } }

/-- The state at the issue of entry `i` of track `k`, which leaves the walker's buffer (R115); the contexts whose
TASK_START begins then are open (R202). -/
def State.atEntry (s : State) (k : Track) (i : Nat) (e : Entry) : State :=
  let s := (s.toIssue k i e).openDue
  { s with seqr := { s.seqr with
    walk := s.seqr.walk.map (fun w => w.drop k i)
    fDone := if k = .f ∧ s.enabled k e then some s.time.gt else s.seqr.fDone } }

/-- Entry `i` of track `k` comes up for issue, in its turn (R73, R76, R115). -/
abbrev State.comesUp (s : State) (k : Track) (i : Nat) (e : Entry) : Prop :=
  s.seqr.state = .run ∧ s.time.hold = none ∧ (s.track k)[i]? = some e
    ∧ s.seqr.walk.map (fun w => (w.buf k).contains i && !s.waitsBefore k w i e) = some true

/-- It comes up in time and is enabled (R116, R117, R129). -/
abbrev State.due (s : State) (k : Track) (i : Nat) (e : Entry) : Prop :=
  s.comesUp k i e ∧ (s.toIssue k i e).openDue.slipped k i e = false ∧ (s.atEntry k i e).enabled k e = true

/-- The correction pip of the round has come, outside RUN by the slot engine (R317), in RUN as entry `i` (R126); time and
the walkers then stand as in `u`. -/
abbrev State.correctsAt (s : State) (i : Nat) (e : Entry) (u : State) : Prop :=
  s.time.corrected = false ∧ s.time.begun = true ∧ s.time.hold = none ∧ s.corrEntry = some e ∧
    ((s.seqr.state ≠ .run ∧ s.boards.active ≠ .none ∧ u = s.toPip e.start)
      ∨ (e.etype = 5 ∧ (s.track .f).findIdx? (fun x => x == e) = some i ∧ s.due .f i e ∧ u = s.atEntry .f i e))

end Sys2Proof.Machine
end

