-- ==== Sys2Proof/Laws/Keep.lean ====
section
/-! SUPPORT. The canonical form of memory through the memory operations, and the shapes of a meaning that
keep the invariant `Good`. -/

open Sys2Proof
namespace Sys2Proof.Machine

theorem Memory.wfFrom_mono {lo lo' : Nat} (h : lo' ≤ lo) : ∀ {m : Memory}, m.wfFrom lo = true → m.wfFrom lo' = true
  | [], _ => rfl
  | (a, v) :: r, hm => by
    simp only [Memory.wfFrom, Bool.and_eq_true, decide_eq_true_eq] at hm ⊢
    exact ⟨⟨by omega, hm.1.2⟩, hm.2⟩

theorem Memory.setByte_wfFrom (a : Nat) (v : Byte) : ∀ {m : Memory} {lo : Nat}, lo ≤ a → m.wfFrom lo = true →
    (Memory.setByte m a v).wfFrom lo = true
  | [], lo, hl, _ => by
    unfold Memory.setByte; split <;> simp_all [Memory.wfFrom]
  | (b, x) :: r, lo, hl, hm => by
    simp only [Memory.wfFrom, Bool.and_eq_true, decide_eq_true_eq] at hm
    unfold Memory.setByte
    split
    · split
      · simp_all [Memory.wfFrom]
      · simp_all [Memory.wfFrom]
    · split
      · subst_vars
        split
        · exact Memory.wfFrom_mono (by omega) hm.2
        · simp_all [Memory.wfFrom]
      · simp only [Memory.wfFrom, Bool.and_eq_true, decide_eq_true_eq]
        exact ⟨hm.1, Memory.setByte_wfFrom a v (by omega) hm.2⟩

@[simp] theorem Memory.setByte_wf {m : Memory} {a v} (h : m.wf = true) : (m.setByte a v).wf = true :=
  Memory.setByte_wfFrom a v (Nat.zero_le _) h

@[simp] theorem Memory.write_wf : ∀ {l : Bytes} {m : Memory} {a : Nat}, m.wf = true → (m.write a l).wf = true
  | [], _, _, h => h
  | b :: r, m, a, h => Memory.write_wf (l := r) (m := m.setByte a b) (Memory.setByte_wf h)

theorem Memory.filter_wfFrom (p : Host.Cell → Bool) : ∀ {m : Memory} {lo : Nat}, m.wfFrom lo = true →
    Memory.wfFrom lo (m.filter p) = true
  | [], _, _ => rfl
  | (a, v) :: r, lo, h => by
    simp only [Memory.wfFrom, Bool.and_eq_true, decide_eq_true_eq] at h
    rw [List.filter_cons]
    split
    · simp only [Memory.wfFrom, Bool.and_eq_true, decide_eq_true_eq]
      exact ⟨h.1, Memory.filter_wfFrom p h.2⟩
    · exact Memory.filter_wfFrom p (Memory.wfFrom_mono (by omega) h.2)

@[simp] theorem Memory.filter_wf {m : Memory} (p : Host.Cell → Bool) (h : m.wf = true) :
    Memory.wf (m.filter p) = true := Memory.filter_wfFrom p h

variable {q : List Instr} {s t : State}

theorem Good.of_eq (h : Good q s) (hp : t.pending = s.pending) (hm : t.mem = s.mem) (hl : t.lanes = s.lanes) :
    Good q t := ⟨hp ▸ h.1, hm ▸ h.2.1, hl ▸ h.2.2⟩

theorem good_mk {xregs xpoison xstate xoption xopTime xopFrac xopSaved xtime xboards xseqr xgmb xtasks xwritten xmovers xdescs xringTurn xtlb xretire xretMark xmigr xinvAt xregionW xevents xlineDead xownFall xrst xboot xnet xpair xsdPend xwedged xrcd xupd xhost xcan xfio xjtag xout xfree} : Good q (State.mk s.pending xregs s.mem xpoison xstate xoption xopTime xopFrac xopSaved xtime xboards xseqr s.lanes xgmb xtasks xwritten xmovers xdescs xringTurn xtlb xretire xretMark xmigr xinvAt xregionW xevents xlineDead xownFall xrst xboot xnet xpair xsdPend xwedged xrcd xupd xhost xcan xfio xjtag xout xfree) ↔ Good q s := Iff.rfl

/-- A save or restore that begins leaves the copies as they are. -/
theorem Lane.begin3_good {l : Lane} {b : Bool} {t d : Nat} (h : l.main = l.shadow) :
    (l.begin3 b t d).main = (l.begin3 b t d).shadow := h

@[simp] theorem good_ite {c : Prop} [Decidable c] {a b : State} (ha : Good q a) (hb : Good q b) :
    Good q (if c then a else b) := by split <;> assumption

@[simp] theorem good_dite {c : Prop} [Decidable c] {a : c → State} {b : ¬c → State} (ha : ∀ h, Good q (a h)) (hb : ∀ h, Good q (b h)) :
    Good q (if h : c then a h else b h) := by split <;> simp_all

@[simp] theorem good_foldl {α : Type} {f : State → α → State} {l : List α} (h : Good q s)
    (hf : ∀ s x, Good q s → Good q (f s x)) : Good q (l.foldl f s) := by
  induction l generalizing s with
  | nil => exact h
  | cons x r ih => exact ih (hf _ _ h)

end Sys2Proof.Machine
end

