-- ==== Sys2Proof/Laws/KeepShared.lean ====
section
/-! SUPPORT. The invariant `Good` through the operations that every meaning is built from, and those of the field I/O, firmware and board pages: every function that answers a state keeps it. -/

open Sys2Proof
namespace Sys2Proof.Machine

@[simp] theorem State.writeMem_good {pd : List Instr} {s : State} {a : Nat} {l : Bytes} (h : Good pd s) : Good pd (s.writeMem a l) :=
  ⟨h.1, Memory.write_wf h.2.1, h.2.2⟩

@[simp] theorem State.setReg_good {pd : List Instr} {s : State} {k : Nat} {v : Word} (hs : Good pd s) : Good pd (State.setReg s k v) := by
  unfold State.setReg
  try dsimp only
  repeat' (first | (with_reducible first | assumption | apply good_foldl | split | intro _ | simp only [good_mk]))

@[simp] theorem State.setFld_good {pd : List Instr} {s : State} {k hi lo v : Nat} (hs : Good pd s) : Good pd (State.setFld s k hi lo v) := by
  unfold State.setFld
  try dsimp only
  repeat' (first | (with_reducible first | assumption | apply State.setReg_good))

@[simp] theorem State.incSat_good {pd : List Instr} {s : State} {k hi lo : Nat} (hs : Good pd s) : Good pd (State.incSat s k hi lo) := by
  unfold State.incSat
  try dsimp only
  repeat' (first | (with_reducible first | assumption | apply State.setFld_good))

@[simp] theorem State.incWrap_good {pd : List Instr} {s : State} {k hi lo : Nat} (hs : Good pd s) : Good pd (State.incWrap s k hi lo) := by
  unfold State.incWrap
  try dsimp only
  repeat' (first | (with_reducible first | assumption | apply State.setFld_good))

@[simp] theorem State.peak_good {pd : List Instr} {s : State} {k hi lo v : Nat} (hs : Good pd s) : Good pd (State.peak s k hi lo v) := by
  unfold State.peak
  try dsimp only
  repeat' (first | (with_reducible first | assumption | apply State.setFld_good | apply good_foldl | split))

@[simp] theorem State.raise_good {pd : List Instr} {s : State} {p b : Nat} (hs : Good pd s) : Good pd (State.raise s p b) := by
  unfold State.raise
  try dsimp only
  repeat' (first | (with_reducible first | assumption | apply State.setReg_good | apply good_foldl | split))

@[simp] theorem State.logErr_good {pd : List Instr} {s : State} {p code : Nat} {info : Word} (hs : Good pd s) : Good pd (State.logErr s p code info) := by
  unfold State.logErr
  try dsimp only
  repeat' (first | (with_reducible first | assumption | apply State.setReg_good | apply good_foldl | split))

@[simp] theorem State.refuse_good {pd : List Instr} {s : State} {k : Nat} (hs : Good pd s) : Good pd (State.refuse s k) := by
  unfold State.refuse
  try dsimp only
  repeat' (first | (with_reducible first | assumption | apply State.logErr_good))

@[simp] theorem State.modLane_good {pd : List Instr} {s : State} {n : Fin 16} {f : Lane → Lane} (h : Good pd s)
    (hf : ∀ l : Lane, l.main = l.shadow → (f l).main = (f l).shadow) : Good pd (s.modLane n f) := by
  refine ⟨h.1, h.2.1, fun k => ?_⟩
  by_cases e : n = k
  · subst e; simpa [State.modLane] using hf _ (h.2.2 n)
  · have e' : n.val ≠ k.val := fun x => e (Fin.ext x)
    have := h.2.2 k
    simpa [State.modLane, Vector.getElem_set, e'] using this

@[simp] theorem State.modCtx_good {pd : List Instr} {s : State} {t : Fin 16} {f : GmbCtx → GmbCtx} (hs : Good pd s) : Good pd (State.modCtx s t f) := by
  unfold State.modCtx
  try dsimp only
  repeat' (first | (with_reducible first | assumption | apply good_foldl | split | intro _ | simp only [good_mk]))

@[simp] theorem State.modTask_good {pd : List Instr} {s : State} {t : Fin 16} {f : TaskRun → TaskRun} (hs : Good pd s) : Good pd (State.modTask s t f) := by
  unfold State.modTask
  try dsimp only
  repeat' (first | (with_reducible first | assumption | apply good_foldl | split | intro _ | simp only [good_mk]))

@[simp] theorem State.modNet_good {pd : List Instr} {s : State} {f : Net → Net} (hs : Good pd s) : Good pd (State.modNet s f) := by
  unfold State.modNet
  try dsimp only
  repeat' (first | (with_reducible first | assumption | apply good_foldl | split | intro _ | simp only [good_mk]))

@[simp] theorem State.modPair_good {pd : List Instr} {s : State} {f : Pair → Pair} (hs : Good pd s) : Good pd (State.modPair s f) := by
  unfold State.modPair
  try dsimp only
  repeat' (first | (with_reducible first | assumption | apply good_foldl | split | intro _ | simp only [good_mk]))

@[simp] theorem State.modTime_good {pd : List Instr} {s : State} {f : TimeBase → TimeBase} (hs : Good pd s) : Good pd (State.modTime s f) := by
  unfold State.modTime
  try dsimp only
  repeat' (first | (with_reducible first | assumption | apply good_foldl | split | intro _ | simp only [good_mk]))

@[simp] theorem State.modSeqr_good {pd : List Instr} {s : State} {f : Seqr → Seqr} (hs : Good pd s) : Good pd (State.modSeqr s f) := by
  unfold State.modSeqr
  try dsimp only
  repeat' (first | (with_reducible first | assumption | apply good_foldl | split | intro _ | simp only [good_mk]))

@[simp] theorem over16_good {pd : List Instr} {s : State} {f : State → Fin 16 → State} (h : Good pd s)
    (hf : ∀ s n, Good pd s → Good pd (f s n)) : Good pd (over16 f s) := good_foldl h hf

@[simp] theorem State.opAdvance_good {pd : List Instr} {s : State} {h : Nat} (hs : Good pd s) : Good pd (State.opAdvance s h) := by
  unfold State.opAdvance
  try dsimp only
  repeat' (first | (with_reducible first | assumption | apply good_foldl | split | intro _ | simp only [good_mk]))

@[simp] theorem State.pipWrap_good {pd : List Instr} {s : State} {t : BitVec 64} (hs : Good pd s) : Good pd (State.pipWrap s t) := by
  unfold State.pipWrap
  try dsimp only
  repeat' (first | (with_reducible first | assumption | apply State.raise_good | apply good_foldl | split))

@[simp] theorem State.edges_good {pd : List Instr} {s : State} {k : Nat} (hs : Good pd s) : Good pd (State.edges s k) := by
  unfold State.edges
  try dsimp only
  repeat' (first | (with_reducible first | assumption | apply State.opAdvance_good | apply State.pipWrap_good | apply good_foldl | split | intro _ | simp only [good_mk]))

@[simp] theorem State.advanceTo_good {pd : List Instr} {s : State} {t : BitVec 64} (hs : Good pd s) : Good pd (State.advanceTo s t) := by
  unfold State.advanceTo
  try dsimp only
  repeat' (first | (with_reducible first | assumption | apply State.edges_good | apply good_foldl | split))

@[simp] theorem State.evidence_good {pd : List Instr} {s : State} (hs : Good pd s) : Good pd (State.evidence s) := by
  unfold State.evidence
  try dsimp only
  repeat' (first | (with_reducible first | assumption | apply State.modPair_good))

@[simp] theorem State.waitOp_good {pd : List Instr} {s : State} {t : Nat} (hs : Good pd s) : Good pd (State.waitOp s t) := by
  unfold State.waitOp
  try dsimp only
  repeat' (first | (with_reducible first | assumption | apply State.edges_good | apply State.opAdvance_good | apply good_foldl | split))

@[simp] theorem State.toPip_good {pd : List Instr} {s : State} {p : Nat} (hs : Good pd s) : Good pd (State.toPip s p) := by
  unfold State.toPip
  try dsimp only
  repeat' (first | (with_reducible first | assumption | apply State.advanceTo_good))

@[simp] theorem State.event_good {pd : List Instr} {s : State} {type src : Nat} {prio : Prio} {payload : Bytes} (hs : Good pd s) : Good pd (State.event s type src prio payload) := by
  unfold State.event
  try dsimp only
  repeat' (first | (with_reducible first | assumption | apply good_foldl | split | intro _ | simp only [good_mk]))

@[simp] theorem State.recErr_good {pd : List Instr} {s : State} {p code : Nat} {info : Word} {prio : Prio} {more : Bytes} (hs : Good pd s) : Good pd (State.recErr s p code info prio more) := by
  unfold State.recErr
  try dsimp only
  repeat' (first | (with_reducible first | assumption | apply State.event_good))

@[simp] theorem State.takeFree_good {pd : List Instr} {s : State} (hs : Good pd s) : Good pd (State.takeFree s) := by
  unfold State.takeFree
  try dsimp only
  repeat' (first | (with_reducible first | assumption | apply good_foldl | split | intro _ | simp only [good_mk]))

@[simp] theorem State.recIrq_good {pd : List Instr} {s : State} {p b : Nat} {prio : Prio} {more : Bytes} (hs : Good pd s) : Good pd (State.recIrq s p b prio more) := by
  unfold State.recIrq
  try dsimp only
  repeat' (first | (with_reducible first | assumption | apply State.event_good))

@[simp] theorem State.downError_good {pd : List Instr} {s : State} {p : Nat} (hs : Good pd s) : Good pd (State.downError s p) := by
  unfold State.downError
  try dsimp only
  repeat' (first | (with_reducible first | assumption | apply State.logErr_good | apply good_foldl | split))

@[simp] theorem State.onPage_good {pd : List Instr} {s : State} {p : Nat} {f : State → State} (hs : Good pd s) (hf : ∀ (y0 : State), Good pd y0 → Good pd (f y0)) : Good pd (State.onPage s p f) := by
  unfold State.onPage
  try dsimp only
  repeat' (first | (with_reducible first | assumption | apply hf | apply State.downError_good | apply good_foldl | split))

@[simp] theorem State.imemSet_good {pd : List Instr} {s : State} {ofs : Nat} {w : Word} {q : BitVec 4} (hs : Good pd s) :
    Good pd (s.imemSet ofs w q) := by
  unfold State.imemSet
  split
  · exact hs
  · have h1 : Good pd (s.writeMem (imemBase + ofs) (wordBytes w)) := State.writeMem_good hs
    exact ⟨h1.1, Memory.setByte_wf h1.2.1, h1.2.2⟩

@[simp] theorem State.noteRead_good {pd : List Instr} {s : State} {n : Fin 16} {a : Nat} (hs : Good pd s) : Good pd (State.noteRead s n a) := by
  unfold State.noteRead
  try dsimp only
  repeat' (first | (with_reducible first | assumption | apply State.modLane_good | apply good_foldl | split | intro _))

@[simp] theorem State.storeDtcm_good {pd : List Instr} {s : State} {n : Fin 16} {a : Nat} {l : Bytes} (hs : Good pd s) : Good pd (State.storeDtcm s n a l) := by
  unfold State.storeDtcm
  try dsimp only
  repeat' (first | (with_reducible first | assumption | apply State.writeMem_good | apply State.modLane_good | apply good_foldl | split | intro _))

@[simp] theorem State.storeImem_good {pd : List Instr} {s : State} {n : Fin 16} {a : Nat} {w : Option Word} {q : BitVec 4} (hs : Good pd s) : Good pd (State.storeImem s n a w q) := by
  unfold State.storeImem
  try dsimp only
  repeat' (first | (with_reducible first | assumption | apply State.modLane_good | apply good_foldl | split | intro _))

@[simp] theorem State.spoil_good {pd : List Instr} {s : State} {t : Fin 16} {cause lane : Nat} (hs : Good pd s) : Good pd (State.spoil s t cause lane) := by
  unfold State.spoil
  try dsimp only
  repeat' (first | (with_reducible first | assumption | apply State.modCtx_good | apply State.raise_good | apply good_foldl | split))

@[simp] theorem State.setLane_good {pd : List Instr} {s : State} {n : Fin 16} {st : LaneState} (hs : Good pd s) : Good pd (State.setLane s n st) := by
  unfold State.setLane
  try dsimp only
  repeat' (first | (with_reducible first | assumption | apply State.spoil_good | apply State.modLane_good | apply State.raise_good | apply State.recIrq_good | apply State.setReg_good | apply good_foldl | split | intro _ | simp only [good_mk]))

@[simp] theorem State.plyOutcome_good {pd : List Instr} {s : State} {n : Fin 16} {outcome : Nat} (hs : Good pd s) : Good pd (State.plyOutcome s n outcome) := by
  unfold State.plyOutcome
  try dsimp only
  repeat' (first | (with_reducible first | assumption | apply State.setFld_good | apply State.modLane_good | apply good_foldl | split | intro _))

@[simp] theorem State.plyUse_good {pd : List Instr} {s : State} {n : Fin 16} (hs : Good pd s) : Good pd (State.plyUse s n) := by
  unfold State.plyUse
  try dsimp only
  repeat' (first | (with_reducible first | assumption | apply State.setFld_good | apply State.peak_good | apply State.modLane_good | apply good_foldl | split | intro _))

@[simp] theorem State.endOfPly_good {pd : List Instr} {s : State} {n : Fin 16} {outcome : Nat} (hs : Good pd s) : Good pd (State.endOfPly s n outcome) := by
  unfold State.endOfPly
  try dsimp only
  repeat' (first | (with_reducible first | assumption | apply State.plyUse_good | apply State.plyOutcome_good))

@[simp] theorem State.dropLog_good {pd : List Instr} {s : State} {n : Fin 16} (hs : Good pd s) : Good pd (State.dropLog s n) := by
  unfold State.dropLog
  try dsimp only
  repeat' (first | (with_reducible first | assumption | apply State.modLane_good | apply good_foldl | split | intro _))

@[simp] theorem State.cmpLast_good {pd : List Instr} {s : State} {n : Fin 16} {point line : Nat} {inPly : Option Nat} {pc : Nat} (hs : Good pd s) : Good pd (State.cmpLast s n point line inPly pc) := by
  unfold State.cmpLast
  try dsimp only
  repeat' (first | (with_reducible first | assumption | apply State.setReg_good))

@[simp] theorem State.haltWork_good {pd : List Instr} {s : State} {n : Fin 16} (hs : Good pd s) : Good pd (State.haltWork s n) := by
  unfold State.haltWork
  try dsimp only
  repeat' (first | (with_reducible first | assumption | apply State.modLane_good | apply State.spoil_good | apply State.endOfPly_good | apply State.dropLog_good | apply good_foldl | split | intro _))

@[simp] theorem State.mismatch_good {pd : List Instr} {s : State} {n : Fin 16} {point line pc : Nat} (hs : Good pd s) : Good pd (State.mismatch s n point line pc) := by
  unfold State.mismatch
  try dsimp only
  repeat' (first | (with_reducible first | assumption | apply State.cmpLast_good | apply State.haltWork_good | apply State.raise_good | apply State.logErr_good | apply State.modLane_good | apply State.setLane_good | apply State.recErr_good | apply good_foldl | split | intro _))

@[simp] theorem State.untrusted_good {pd : List Instr} {s : State} {n : Fin 16} {point line : Nat} {last inPly : Bool} (hs : Good pd s) : Good pd (State.untrusted s n point line last inPly) := by
  unfold State.untrusted
  try dsimp only
  repeat' (first | (with_reducible first | assumption | apply State.cmpLast_good | apply State.haltWork_good | apply State.setFld_good | apply State.setLane_good | apply State.modLane_good | apply State.raise_good | apply State.logErr_good | apply State.recErr_good | apply good_foldl | split | intro _))

@[simp] theorem State.settleLane_good {pd : List Instr} {s : State} {n : Fin 16} (hs : Good pd s) : Good pd (State.settleLane s n) := by
  unfold State.settleLane
  try dsimp only
  repeat' (first | (with_reducible first | assumption | apply State.setLane_good | apply good_foldl | split))

@[simp] theorem State.saveJob_good {pd : List Instr} {s : State} {n : Fin 16} {stat : Word} {d : Nat} (hs : Good pd s) : Good pd (State.saveJob s n stat d) := by
  unfold State.saveJob
  try dsimp only
  repeat' (first | (with_reducible first | assumption | apply State.writeMem_good | apply State.takeFree_good | apply State.modLane_good | apply Lane.begin3_good | apply State.settleLane_good | apply good_foldl | split | intro _))

@[simp] theorem State.setCore_good {pd : List Instr} {s : State} {n : Fin 16} {c : Core} (hs : Good pd s) : Good pd (State.setCore s n c) := by
  unfold State.setCore
  try dsimp only
  repeat' (first | (with_reducible first | assumption | apply State.modLane_good | apply good_foldl | split | intro _ | simp only [good_mk]))

@[simp] theorem State.recordTrap_good {pd : List Instr} {s : State} {n : Fin 16} {tc addr : Word} {idx : Nat} {bg : Bool} (hs : Good pd s) : Good pd (State.recordTrap s n tc addr idx bg) := by
  unfold State.recordTrap
  try dsimp only
  repeat' (first | (with_reducible first | assumption | apply State.setReg_good | apply State.incSat_good | apply State.raise_good | apply State.logErr_good))

@[simp] theorem State.takeTrap_good {pd : List Instr} {s : State} {n : Fin 16} {cause detail wordAddr : Nat} {addr : Word} (hs : Good pd s) : Good pd (State.takeTrap s n cause detail wordAddr addr) := by
  unfold State.takeTrap
  try dsimp only
  repeat' (first | (with_reducible first | assumption | apply State.setCore_good | apply State.recordTrap_good | apply State.plyUse_good | apply State.dropLog_good | apply State.modLane_good | apply State.saveJob_good | apply good_foldl | split | intro _))

@[simp] theorem State.laneEcc_good {pd : List Instr} {s : State} {n : Fin 16} {addr : Word} {pc : Nat} (hs : Good pd s) : Good pd (State.laneEcc s n addr pc) := by
  unfold State.laneEcc
  try dsimp only
  repeat' (first | (with_reducible first | assumption | apply State.evidence_good | apply State.incSat_good | apply State.setReg_good | apply State.raise_good | apply State.logErr_good | apply State.mismatch_good))

@[simp] theorem State.awaitLane_good {pd : List Instr} {s : State} {n : Fin 16} (hs : Good pd s) : Good pd (State.awaitLane s n) := by
  unfold State.awaitLane
  try dsimp only
  repeat' (first | (with_reducible first | assumption | apply State.waitOp_good | apply good_foldl | split))

@[simp] theorem State.issueAs_good {pd : List Instr} {s : State} {n : Fin 16} {b : Bool} {body : State → Core → State × CoreRes}
    (h : Good pd s) (hb : ∀ s c, Good pd s → Good pd (body s c).1) : Good pd (s.issueAs n b body) := by
  unfold State.issueAs
  extract_lets t
  have ht : Good pd t := State.awaitLane_good h
  clear_value t
  have h2 := hb t t.lanes[n].main ht
  split
  · exact ht
  · try simp only []
    split
    · simp [ht]
    · split
      · simp [ht]
      · split <;> rename_i e <;> rw [e] at h2 <;> simp_all

@[simp] theorem State.issue_good {pd : List Instr} {s : State} {n : Fin 16} {body : State → Core → State × CoreRes}
    (h : Good pd s) (hb : ∀ s c, Good pd s → Good pd (body s c).1) : Good pd (s.issue n body) := State.issueAs_good h hb

@[simp] theorem State.keepLatch_good {pd : List Instr} {s : State} {l : Latch} (hs : Good pd s) : Good pd (State.keepLatch s l) := by
  unfold State.keepLatch
  try dsimp only
  repeat' (first | (with_reducible first | assumption | apply State.modPair_good))

@[simp] theorem State.slip_good {pd : List Instr} {s : State} {k : Track} {i : Nat} (hs : Good pd s) : Good pd (State.slip s k i) := by
  unfold State.slip
  try dsimp only
  repeat' (first | (with_reducible first | assumption | apply State.incSat_good | apply State.setFld_good | apply State.raise_good | apply State.logErr_good | apply State.evidence_good | apply good_foldl | split | intro _ | simp only [good_mk]))

@[simp] theorem State.toIssue_good {pd : List Instr} {s : State} {k : Track} {i : Nat} {e : Entry} (hs : Good pd s) : Good pd (State.toIssue s k i e) := by
  unfold State.toIssue
  try dsimp only
  repeat' (first | (with_reducible first | assumption | apply State.advanceTo_good | apply State.edges_good | apply good_foldl | split))

@[simp] theorem State.openCtx_good {pd : List Instr} {s : State} {t : Fin 16} {mask : Nat} (hs : Good pd s) : Good pd (State.openCtx s t mask) := by
  unfold State.openCtx
  try dsimp only
  repeat' (first | (with_reducible first | assumption | apply State.modCtx_good | apply over16_good | apply State.modLane_good | apply good_foldl | split | intro _))

@[simp] theorem State.openTask_good {pd : List Instr} {s : State} {e : Entry} (hs : Good pd s) : Good pd (State.openTask s e) := by
  unfold State.openTask
  try dsimp only
  repeat' (first | (with_reducible first | assumption | apply State.openCtx_good | apply good_foldl | split))

@[simp] theorem State.openDue_good {pd : List Instr} {s : State} (hs : Good pd s) : Good pd (State.openDue s) := by
  unfold State.openDue
  try dsimp only
  repeat' (first | (with_reducible first | assumption | apply State.modSeqr_good | apply State.openTask_good | apply good_foldl | split | intro _))

@[simp] theorem State.issueEntry_good {pd : List Instr} {s : State} {k : Track} {i : Nat} (hs : Good pd s) :
    ∀ r, s.issueEntry k i = some r → Good pd r.1 := by
  intro r
  unfold State.issueEntry
  split
  · intro h; cases h
  · split
    · rename_i w e _ _
      split
      · extract_lets t late q u
        have ht : Good pd t := State.openDue_good (State.toIssue_good hs)
        have hu : Good pd u := ht
        clear_value u late t
        intro h
        cases h
        dsimp only
        split
        · exact State.slip_good hu
        · exact hu
      · intro h; cases h
    · intro h; cases h

@[simp] theorem State.onEntry_good {pd : List Instr} {s : State} {k : Track} {i : Nat} {f : State → Entry → Bool → State} (hs : Good pd s)
    (hf : ∀ s e b, Good pd s → Good pd (f s e b)) : Good pd (s.onEntry k i f) := by
  unfold State.onEntry
  split
  · exact hs
  · have := State.issueEntry_good hs _ (by assumption)
    split
    · exact hf _ _ _ this
    · exact this

@[simp] theorem State.onField_good {pd : List Instr} {s : State} {i fevt : Nat} {f : State → Entry → State} (hs : Good pd s) (hf : ∀ (y0 : State) (y1 : Entry), Good pd y0 → Good pd (f y0 y1)) : Good pd (State.onField s i fevt f) := by
  unfold State.onField
  try dsimp only
  repeat' (first | (with_reducible first | assumption | apply hf | apply State.onEntry_good | apply good_foldl | split | intro _))

@[simp] theorem State.setRegion_good {pd : List Instr} {s : State} {n r : Nat} {g : Nat × Nat × Nat} (hs : Good pd s) : Good pd (State.setRegion s n r g) := by
  unfold State.setRegion
  try dsimp only
  repeat' (first | (with_reducible first | assumption | apply State.setReg_good))

@[simp] theorem State.deriveRegions_good {pd : List Instr} {s : State} {t : Tables} (hs : Good pd s) : Good pd (State.deriveRegions s t) := by
  unfold State.deriveRegions
  try dsimp only
  repeat' (first | (with_reducible first | assumption | apply over16_good | apply State.setRegion_good | apply good_foldl | split | intro _))

@[simp] theorem State.loadCode_good {pd : List Instr} {s : State} {t : Tables} (hs : Good pd s) : Good pd (State.loadCode s t) := by
  unfold State.loadCode
  try dsimp only
  repeat' (first | (with_reducible first | assumption | apply over16_good | apply State.writeMem_good | apply good_foldl | split | intro _))

@[simp] theorem State.initStore_good {pd : List Instr} {s : State} {t : Tables} {area : Nat} (hs : Good pd s) :
    Good pd (s.initStore t area) :=
  good_foldl ⟨hs.1, Memory.filter_wf _ hs.2.1, hs.2.2⟩ fun _ _ h => State.writeMem_good h

@[simp] theorem State.restoreRetained_good {pd : List Instr} {s : State} {t : Tables} {area : Nat} (hs : Good pd s) : Good pd (State.restoreRetained s t area) := by
  unfold State.restoreRetained
  try dsimp only
  repeat' (first | (with_reducible first | assumption | apply State.recErr_good | apply State.writeMem_good | apply good_foldl | split | intro _))

@[simp] theorem State.send_good {pd : List Instr} {s : State} {o : Output} (hs : Good pd s) : Good pd (State.send s o) := by
  unfold State.send
  try dsimp only
  repeat' (first | (with_reducible first | assumption | apply good_foldl | split | intro _ | simp only [good_mk]))

@[simp] theorem State.hapSend_good {pd : List Instr} {s : State} {dst : HostAddr} {key type flags status : Nat} {xid : Word} {seg segs : Nat} {body : Bytes} (hs : Good pd s) : Good pd (State.hapSend s dst key type flags status xid seg segs body) := by
  unfold State.hapSend
  try dsimp only
  repeat' (first | (with_reducible first | assumption | apply State.send_good | apply good_foldl | split | intro _ | simp only [good_mk]))

@[simp] theorem State.notify_good {pd : List Instr} {s : State} {kind : Nat} {body : Bytes} (hs : Good pd s) : Good pd (State.notify s kind body) := by
  unfold State.notify
  try dsimp only
  repeat' (first | (with_reducible first | assumption | apply State.hapSend_good | apply good_foldl | split | intro _ | simp only [good_mk]))

@[simp] theorem State.modFio_good {pd : List Instr} {s : State} {c : Fin 16} {f : FioCh → FioCh} (hs : Good pd s) : Good pd (State.modFio s c f) := by
  unfold State.modFio
  try dsimp only
  repeat' (first | (with_reducible first | assumption | apply good_foldl | split | intro _ | simp only [good_mk]))

@[simp] theorem State.fioApply_good {pd : List Instr} {s : State} {c : Fin 16} (hs : Good pd s) : Good pd (State.fioApply s c) := by
  unfold State.fioApply
  try dsimp only
  repeat' (first | (with_reducible first | assumption | apply State.setFld_good | apply State.modFio_good | apply good_foldl | split))

@[simp] theorem State.fioApplyAll_good {pd : List Instr} {s : State} (hs : Good pd s) : Good pd (State.fioApplyAll s) := by
  unfold State.fioApplyAll
  try dsimp only
  repeat' (first | (with_reducible first | assumption | apply over16_good | apply State.fioApply_good))

@[simp] theorem State.fioTurned_good {pd : List Instr} {s : State} {c : Fin 16} {now : Bool} (hs : Good pd s) : Good pd (State.fioTurned s c now) := by
  unfold State.fioTurned
  try dsimp only
  repeat' (first | (with_reducible first | assumption | apply State.setFld_good | apply State.modFio_good | apply State.fioApply_good | apply good_foldl | split))

@[simp] theorem State.fioDirections_good {pd : List Instr} {s : State} (hs : Good pd s) : Good pd (State.fioDirections s) := by
  unfold State.fioDirections
  try dsimp only
  repeat' (first | (with_reducible first | assumption | apply over16_good | apply State.setFld_good | apply State.fioTurned_good | apply good_foldl | split | intro _))

@[simp] theorem State.fioSampleCh_good {pd : List Instr} {levels breaks : BitVec 16} {s : State} {c : Fin 16} (hs : Good pd s) : Good pd (State.fioSampleCh levels breaks s c) := by
  unfold State.fioSampleCh
  try dsimp only
  repeat' (first | (with_reducible first | assumption | apply State.setFld_good | apply State.modFio_good | apply State.raise_good | apply good_foldl | split))

@[simp] theorem fioInputSample_good {pd : List Instr} {levels breaks : BitVec 16} {s : State} (hs : Good pd s) : Good pd (fioInputSample levels breaks s) := by
  unfold fioInputSample
  try dsimp only
  repeat' (first | (with_reducible first | assumption | apply over16_good | apply State.fioSampleCh_good | apply State.advanceTo_good | apply good_foldl | split))

@[simp] theorem State.fioLatch_good {pd : List Instr} {s : State} {c : Fin 16} {cause : Nat} (hs : Good pd s) : Good pd (State.fioLatch s c cause) := by
  unfold State.fioLatch
  try dsimp only
  repeat' (first | (with_reducible first | assumption | apply State.setFld_good | apply State.raise_good | apply State.logErr_good | apply State.recErr_good | apply State.fioApply_good))

@[simp] theorem fioTrip_good {pd : List Instr} {c : Fin 16} {s : State} (hs : Good pd s) : Good pd (fioTrip c s) := by
  unfold fioTrip
  try dsimp only
  repeat' (first | (with_reducible first | assumption | apply State.incSat_good | apply State.raise_good | apply State.fioLatch_good | apply State.setFld_good | apply State.modFio_good | apply State.fioApply_good | apply good_foldl | split))

@[simp] theorem fioRetry_good {pd : List Instr} {c : Fin 16} {s : State} (hs : Good pd s) : Good pd (fioRetry c s) := by
  unfold fioRetry
  try dsimp only
  repeat' (first | (with_reducible first | assumption | apply State.waitOp_good | apply State.setFld_good | apply State.fioApply_good | apply good_foldl | split))

@[simp] theorem fioRetryCountReset_good {pd : List Instr} {c : Fin 16} {s : State} (hs : Good pd s) : Good pd (fioRetryCountReset c s) := by
  unfold fioRetryCountReset
  try dsimp only
  repeat' (first | (with_reducible first | assumption | apply State.waitOp_good | apply State.setFld_good | apply good_foldl | split))

@[simp] theorem fioExtDrive_good {pd : List Instr} {c : Fin 16} {s : State} (hs : Good pd s) : Good pd (fioExtDrive c s) := by
  unfold fioExtDrive
  try dsimp only
  repeat' (first | (with_reducible first | assumption | apply State.waitOp_good | apply State.setFld_good | apply State.raise_good | apply State.fioLatch_good | apply good_foldl | split))

@[simp] theorem fioRefreshTimeout_good {pd : List Instr} {mask : BitVec 16} {s : State} (hs : Good pd s) : Good pd (fioRefreshTimeout mask s) := by
  unfold fioRefreshTimeout
  try dsimp only
  repeat' (first | (with_reducible first | assumption | apply State.waitOp_good | apply State.setReg_good | apply over16_good | apply State.modFio_good | apply State.fioApply_good | apply State.raise_good | apply State.logErr_good | apply good_foldl | split | intro _))

@[simp] theorem State.fioPause_good {pd : List Instr} {s : State} {off : Bool} (hs : Good pd s) : Good pd (State.fioPause s off) := by
  unfold State.fioPause
  try dsimp only
  repeat' (first | (with_reducible first | assumption | apply over16_good | apply State.modFio_good | apply good_foldl | split | intro _))

@[simp] theorem State.holdLost_good {pd : List Instr} {s : State} (hs : Good pd s) : Good pd (State.holdLost s) := by
  unfold State.holdLost
  try dsimp only
  repeat' (first | (with_reducible first | assumption | apply over16_good | apply State.modFio_good | apply State.fioApply_good | apply good_foldl | split | intro _ | simp only [good_mk]))

@[simp] theorem fioLplusMeasure_good {pd : List Instr} {volt : BitVec 12} {s : State} (hs : Good pd s) : Good pd (fioLplusMeasure volt s) := by
  unfold fioLplusMeasure
  try dsimp only
  repeat' (first | (with_reducible first | assumption | apply State.holdLost_good | apply State.waitOp_good | apply State.setFld_good | apply State.raise_good | apply State.fioPause_good | apply over16_good | apply State.modFio_good | apply State.recIrq_good | apply State.fioApplyAll_good | apply good_foldl | split | intro _ | simp only [good_mk]))

@[simp] theorem fioLplusRestored_good {pd : List Instr} {s : State} (hs : Good pd s) : Good pd (fioLplusRestored s) := by
  unfold fioLplusRestored
  try dsimp only
  repeat' (first | (with_reducible first | assumption | apply State.waitOp_good | apply State.fioPause_good | apply State.setFld_good | apply State.incSat_good | apply State.raise_good | apply State.recIrq_good | apply State.fioApplyAll_good | apply good_foldl | split | intro _ | simp only [good_mk]))

@[simp] theorem fioCmdClear_good {pd : List Instr} {value : Word} {trips : BitVec 16} {s : State} (hs : Good pd s) : Good pd (fioCmdClear value trips s) := by
  unfold fioCmdClear
  try dsimp only
  repeat' (first | (with_reducible first | assumption | apply State.downError_good | apply State.refuse_good | apply over16_good | apply State.setFld_good | apply State.fioApply_good | apply good_foldl | split | intro _))

@[simp] theorem fioCfgWrite_good {pd : List Instr} {value : Word} {s : State} (hs : Good pd s) : Good pd (fioCfgWrite value s) := by
  unfold fioCfgWrite
  try dsimp only
  repeat' (first | (with_reducible first | assumption | apply State.downError_good | apply State.logErr_good | apply State.setReg_good | apply State.fioApply_good | apply good_foldl | split))

@[simp] theorem State.loopDeliver_good {pd : List Instr} {s : State} {ua : Nat} (hs : Good pd s) : Good pd (State.loopDeliver s ua) := by
  unfold State.loopDeliver
  try dsimp only
  repeat' (first | (with_reducible first | assumption | apply State.setFld_good))

@[simp] theorem State.loopSet_good {pd : List Instr} {s : State} (hs : Good pd s) : Good pd (State.loopSet s) := by
  unfold State.loopSet
  try dsimp only
  repeat' (first | (with_reducible first | assumption | apply State.raise_good | apply State.setFld_good | apply State.loopDeliver_good | apply good_foldl | split))

@[simp] theorem State.loopFollow_good {pd : List Instr} {s : State} (hs : Good pd s) : Good pd (State.loopFollow s) := by
  unfold State.loopFollow
  try dsimp only
  repeat' (first | (with_reducible first | assumption | apply State.loopSet_good | apply good_foldl | split))

@[simp] theorem loopHealthTimeout_good {pd : List Instr} {s : State} (hs : Good pd s) : Good pd (loopHealthTimeout s) := by
  unfold loopHealthTimeout
  try dsimp only
  repeat' (first | (with_reducible first | assumption | apply State.waitOp_good | apply State.loopSet_good | apply good_foldl | split | intro _ | simp only [good_mk]))

@[simp] theorem loopCompl_good {pd : List Instr} {meas : BitVec 15} {term : BitVec 16} {s : State} (hs : Good pd s) : Good pd (loopCompl meas term s) := by
  unfold loopCompl
  try dsimp only
  repeat' (first | (with_reducible first | assumption | apply State.setReg_good | apply State.setFld_good | apply State.incSat_good | apply State.raise_good | apply State.logErr_good | apply State.recErr_good | apply good_foldl | split | intro _ | simp only [good_mk]))

@[simp] theorem loopComplEnd_good {pd : List Instr} {meas : BitVec 15} {term : BitVec 16} {s : State} (hs : Good pd s) : Good pd (loopComplEnd meas term s) := by
  unfold loopComplEnd
  try dsimp only
  repeat' (first | (with_reducible first | assumption | apply State.waitOp_good | apply State.setReg_good | apply State.setFld_good | apply good_foldl | split))

@[simp] theorem State.loopTestStop_good {pd : List Instr} {s : State} (hs : Good pd s) : Good pd (State.loopTestStop s) := by
  unfold State.loopTestStop
  try dsimp only
  repeat' (first | (with_reducible first | assumption | apply State.setFld_good | apply State.raise_good | apply State.loopSet_good | apply good_foldl | split))

@[simp] theorem loopTestEnd_good {pd : List Instr} {s : State} (hs : Good pd s) : Good pd (loopTestEnd s) := by
  unfold loopTestEnd
  try dsimp only
  repeat' (first | (with_reducible first | assumption | apply State.waitOp_good | apply State.loopTestStop_good | apply good_foldl | split))

@[simp] theorem loopTestWrite_good {pd : List Instr} {value : Word} {s : State} (hs : Good pd s) : Good pd (loopTestWrite value s) := by
  unfold loopTestWrite
  try dsimp only
  repeat' (first | (with_reducible first | assumption | apply State.downError_good | apply State.loopTestStop_good | apply State.setFld_good | apply State.incSat_good | apply State.loopSet_good | apply good_foldl | split | intro _ | simp only [good_mk]))

@[simp] theorem State.writeLib_good {pd : List Instr} {s : State} {lib : Bytes} {h : Nat} {p : Fin 16 → Bool} (hs : Good pd s) : Good pd (State.writeLib s lib h p) := by
  unfold State.writeLib
  try dsimp only
  repeat' (first | (with_reducible first | assumption | apply over16_good | apply State.writeMem_good | apply good_foldl | split | intro _))

@[simp] theorem State.writeBanks_good {pd : List Instr} {s : State} {f : Update → Update} {written : Bool} (hs : Good pd s) : Good pd (State.writeBanks s f written) := by
  unfold State.writeBanks
  try dsimp only
  repeat' (first | (with_reducible first | assumption | apply State.logErr_good | apply State.raise_good | apply good_foldl | split | intro _ | simp only [good_mk]))

@[simp] theorem State.setBank_good {pd : List Instr} {s : State} {b : Bool} {st : BankState} (hs : Good pd s) : Good pd (State.setBank s b st) := by
  unfold State.setBank
  try dsimp only
  repeat' (first | (with_reducible first | assumption | apply State.writeBanks_good | apply State.takeFree_good))

@[simp] theorem State.startSteward_good {pd : List Instr} {s : State} {b : Bool} {block : Option HoBlock} (hs : Good pd s) : Good pd (State.startSteward s b block) := by
  unfold State.startSteward
  try dsimp only
  repeat' (first | (with_reducible first | assumption | apply good_foldl | split | intro _ | simp only [good_mk]))

@[simp] theorem State.setSetting_good {pd : List Instr} {s : State} {x : Nat × Word} {v : Word} (hs : Good pd s) : Good pd (State.setSetting s x v) := by
  unfold State.setSetting
  try dsimp only
  repeat' (first | (with_reducible first | assumption | apply State.setReg_good | apply good_foldl | split))

@[simp] theorem State.hostSettings_good {pd : List Instr} {s : State} {a : Settings} {p : Fin 8 → Bool} (hs : Good pd s) : Good pd (State.hostSettings s a p) := by
  unfold State.hostSettings
  try dsimp only
  repeat' (first | (with_reducible first | assumption | apply good_foldl | split | intro _ | simp only [good_mk]))

@[simp] theorem State.useSettings_good {pd : List Instr} {s : State} {a : Settings} {f : Nat × Word → Word} {p : Fin 8 → Bool} (hs : Good pd s) : Good pd (State.useSettings s a f p) := by
  unfold State.useSettings
  try dsimp only
  repeat' (first | (with_reducible first | assumption | apply State.setSetting_good | apply State.hostSettings_good | apply State.fioApplyAll_good | apply State.loopFollow_good | apply good_foldl | split | intro _))

@[simp] theorem State.setImg_good {pd : List Instr} {s : State} {b : Bool} {l : Bytes} (hs : Good pd s) : Good pd (State.setImg s b l) := by
  unfold State.setImg
  try dsimp only
  repeat' (first | (with_reducible first | assumption | apply State.setReg_good | apply good_foldl | split | intro _ | simp only [good_mk]))

end Sys2Proof.Machine
end

