-- ==== Sys2Proof/Laws/KeepBlocks.lean ====
section
/-! SUPPORT. The invariant `Good` through reset, recorder, boot, CAN and Dunly: every function that answers a state keeps it. -/

open Sys2Proof
namespace Sys2Proof.Machine

@[simp] theorem State.resetRegs_good {pd : List Instr} {s : State} {f : Nat → Bool} (hs : Good pd s) : Good pd (State.resetRegs s f) := by
  unfold State.resetRegs
  try dsimp only
  repeat' (first | (with_reducible first | assumption | apply good_foldl | split | intro _ | simp only [good_mk]))

@[simp] theorem State.releaseLine_good {pd : List Instr} {s : State} (hs : Good pd s) : Good pd (State.releaseLine s) := by
  unfold State.releaseLine
  try dsimp only
  repeat' (first | (with_reducible first | assumption | apply State.setFld_good | apply State.raise_good | apply good_foldl | split))

@[simp] theorem State.storeBroken_good {pd : List Instr} {s : State} (hs : Good pd s) : Good pd (State.storeBroken s) := by
  unfold State.storeBroken
  try dsimp only
  repeat' (first | (with_reducible first | assumption | apply State.setImg_good | apply good_foldl | split | intro _ | simp only [good_mk]))

@[simp] theorem State.formerSettings_good {pd : List Instr} {s : State} (hs : Good pd s) : Good pd (State.formerSettings s) := by
  unfold State.formerSettings
  try dsimp only
  repeat' (first | (with_reducible first | assumption | apply State.hostSettings_good | apply good_foldl | split))

@[simp] theorem State.resetFld_good {pd : List Instr} {s : State} (hs : Good pd s) : Good pd (State.resetFld s) := by
  unfold State.resetFld
  try dsimp only
  repeat' (first | (with_reducible first | assumption | apply State.resetRegs_good | apply over16_good | apply State.modFio_good | apply State.setFld_good | apply State.fioApply_good | apply good_foldl | split | intro _ | simp only [good_mk]))

@[simp] theorem State.resetDomain_good {pd : List Instr} {s : State} {d : Nat} (hs : Good pd s) : Good pd (s.resetDomain d) := by
  unfold State.resetDomain
  extract_lets s1 s2
  have h1 : Good pd s2 := by
    unfold s2
    split
    · exact State.setFld_good hs
    · exact State.resetRegs_good (State.setFld_good hs)
  clear_value s2
  split
  · exact h1
  · exact h1
  · exact State.releaseLine_good (s := { s2 with time := _, boards := _, seqr := _, gmb := _, tasks := _, written := _, state := _, sdPend := _, wedged := _, pair := _ }) h1
  · exact h1
  · have h3 := State.formerSettings_good (State.storeBroken_good h1)
    exact State.releaseLine_good (s := { s2.storeBroken.formerSettings with rcd := _, events := _, upd := _, host := _, can := _ }) h3
  · exact State.resetFld_good h1
  · refine over16_good h1 fun s n h => ?_
    split
    · exact State.modLane_good h fun l _ => rfl
    · exact h

@[simp] theorem State.showRst_good {pd : List Instr} {s : State} (hs : Good pd s) : Good pd (State.showRst s) := by
  unfold State.showRst
  try dsimp only
  repeat' (first | (with_reducible first | assumption | apply State.setReg_good))

@[simp] theorem State.driveExtest_good {pd : List Instr} {s : State} {was : Bool} (hs : Good pd s) : Good pd (State.driveExtest s was) := by
  unfold State.driveExtest
  try dsimp only
  repeat' (first | (with_reducible first | assumption | apply State.send_good | apply good_foldl | split))

@[simp] theorem State.endWarm_good {pd : List Instr} {s : State} (hs : Good pd s) : Good pd (State.endWarm s) := by
  unfold State.endWarm
  try dsimp only
  repeat' (first | (with_reducible first | assumption | apply over16_good | apply State.modFio_good | apply State.fioApply_good | apply State.setReg_good | apply good_foldl | split | intro _))

@[simp] theorem State.assertSource_good {pd : List Instr} {s : State} {b reach : Nat} {level : Bool} (hs : Good pd s) : Good pd (State.assertSource s b reach level) := by
  unfold State.assertSource
  try dsimp only
  repeat' (first | (with_reducible first | assumption | apply State.setFld_good | apply State.setReg_good | apply State.resetDomain_good | apply State.endWarm_good | apply State.driveExtest_good | apply State.showRst_good | apply good_foldl | split | intro _ | simp only [good_mk]))

@[simp] theorem State.releaseSource_good {pd : List Instr} {s : State} {b : Nat} (hs : Good pd s) : Good pd (State.releaseSource s b) := by
  unfold State.releaseSource
  try dsimp only
  repeat' (first | (with_reducible first | assumption | apply State.showRst_good | apply good_foldl | split | intro _ | simp only [good_mk]))

@[simp] theorem State.nextDomain_good {pd : List Instr} {s : State} {d : Nat} (hs : Good pd s) : Good pd (State.nextDomain s d) := by
  unfold State.nextDomain
  try dsimp only
  repeat' (first | (with_reducible first | assumption | apply State.setReg_good | apply State.incSat_good | apply State.showRst_good | apply good_foldl | split | intro _ | simp only [good_mk]))

@[simp] theorem State.firstRelease_good {pd : List Instr} {s : State} (hs : Good pd s) : Good pd (State.firstRelease s) := by
  unfold State.firstRelease
  try dsimp only
  repeat' (first | (with_reducible first | assumption | apply State.setFld_good | apply State.logErr_good | apply good_foldl | split | intro _ | simp only [good_mk]))

@[simp] theorem State.releaseLanes_good {pd : List Instr} {s : State} {d : Nat} (hs : Good pd s) : Good pd (State.releaseLanes s d) := by
  unfold State.releaseLanes
  try dsimp only
  repeat' (first | (with_reducible first | assumption | apply over16_good | apply State.setFld_good | apply State.setLane_good | apply State.modLane_good | apply good_foldl | split | intro _))

@[simp] theorem State.wdtStart_good {pd : List Instr} {s : State} (hs : Good pd s) : Good pd (State.wdtStart s) := by
  unfold State.wdtStart
  try dsimp only
  repeat' (first | (with_reducible first | assumption | apply good_foldl | split | intro _ | simp only [good_mk]))

@[simp] theorem State.releaseHost_good {pd : List Instr} {s : State} (hs : Good pd s) : Good pd (State.releaseHost s) := by
  unfold State.releaseHost
  try dsimp only
  repeat' (first | (with_reducible first | assumption | apply State.setFld_good | apply State.wdtStart_good | apply State.raise_good | apply State.recIrq_good | apply good_foldl | split))

@[simp] theorem State.releaseFld_good {pd : List Instr} {s : State} (hs : Good pd s) : Good pd (State.releaseFld s) := by
  unfold State.releaseFld
  try dsimp only
  repeat' (first | (with_reducible first | assumption | apply over16_good | apply State.setFld_good | apply State.modFio_good | apply State.fioDirections_good | apply State.fioApplyAll_good | apply State.loopSet_good | apply good_foldl | split | intro _ | simp only [good_mk]))

@[simp] theorem State.showClocks_good {pd : List Instr} {s : State} (hs : Good pd s) : Good pd (State.showClocks s) := by
  unfold State.showClocks
  try dsimp only
  repeat' (first | (with_reducible first | assumption | apply State.setReg_good | apply State.setFld_good))

@[simp] theorem State.loseGrants_good {pd : List Instr} {s : State} (hs : Good pd s) : Good pd (State.loseGrants s) := by
  unfold State.loseGrants
  try dsimp only
  repeat' (first | (with_reducible first | assumption | apply State.modNet_good | apply State.raise_good | apply State.recIrq_good | apply good_foldl | split | intro _))

@[simp] theorem State.stretchOver_good {pd : List Instr} {s : State} (hs : Good pd s) : Good pd (State.stretchOver s) := by
  unfold State.stretchOver
  try dsimp only
  repeat' (first | (with_reducible first | assumption | apply good_foldl | split | intro _ | simp only [good_mk]))

@[simp] theorem State.onRelease_good {pd : List Instr} {s : State} {d : Nat} (hs : Good pd s) : Good pd (State.onRelease s d) := by
  unfold State.onRelease
  try dsimp only
  repeat' (first | (with_reducible first | assumption | apply State.firstRelease_good | apply State.stretchOver_good | apply State.setReg_good | apply State.showClocks_good | apply State.loseGrants_good | apply State.releaseHost_good | apply State.releaseFld_good | apply State.releaseLanes_good | apply good_foldl | split | intro _ | simp only [good_mk]))

@[simp] theorem domainRelease_good {pd : List Instr} {s : State} (hs : Good pd s) : Good pd (domainRelease s) := by
  unfold domainRelease
  try dsimp only
  repeat' (first | (with_reducible first | assumption | apply State.waitOp_good | apply State.setFld_good | apply State.onRelease_good | apply State.nextDomain_good | apply good_foldl | split))

@[simp] theorem State.failLanes_good {pd : List Instr} {s : State} {d : Nat} (hs : Good pd s) : Good pd (s.failLanes d) := by
  unfold State.failLanes
  refine over16_good hs fun s n h => ?_
  split
  · refine State.modLane_good ?_ fun l hl => rfl
    split
    · exact State.setLane_good h
    · exact State.haltWork_good (State.setLane_good h)
  · exact h

@[simp] theorem State.markFailed_good {pd : List Instr} {s : State} {d : Nat} (hs : Good pd s) : Good pd (State.markFailed s d) := by
  unfold State.markFailed
  try dsimp only
  repeat' (first | (with_reducible first | assumption | apply State.setFld_good | apply State.raise_good | apply State.recIrq_good))

@[simp] theorem domainClockTimeout_good {pd : List Instr} {s : State} (hs : Good pd s) : Good pd (domainClockTimeout s) := by
  unfold domainClockTimeout
  try dsimp only
  repeat' (first | (with_reducible first | assumption | apply State.waitOp_good | apply State.failLanes_good | apply State.markFailed_good | apply State.nextDomain_good | apply good_foldl | split))

@[simp] theorem State.clockLost_good {pd : List Instr} {s : State} {i : Nat} (hs : Good pd s) : Good pd (State.clockLost s i) := by
  unfold State.clockLost
  try dsimp only
  repeat' (first | (with_reducible first | assumption | apply State.assertSource_good | apply State.resetDomain_good | apply State.markFailed_good | apply State.loopSet_good | apply State.failLanes_good | apply State.setFld_good | apply State.resetRegs_good | apply good_foldl | split))

@[simp] theorem State.powerLost_good {pd : List Instr} {s : State} {ns : Nat} (hs : Good pd s) : Good pd (s.powerLost ns) := by
  unfold State.powerLost
  dsimp only
  exact ⟨hs.1, Memory.filter_wf _ hs.2.1, hs.2.2⟩

@[simp] theorem powerOnReset_good {pd : List Instr} {on : Bool} {s : State} (hs : Good pd s) : Good pd (powerOnReset on s) := by
  unfold powerOnReset
  try dsimp only
  repeat' (first | (with_reducible first | assumption | apply State.assertSource_good | apply State.powerLost_good | apply State.setFld_good | apply State.setReg_good | apply State.releaseSource_good | apply good_foldl | split))

@[simp] theorem aonBrownOut_good {pd : List Instr} {on : Bool} {s : State} (hs : Good pd s) : Good pd (aonBrownOut on s) := by
  unfold aonBrownOut
  try dsimp only
  repeat' (first | (with_reducible first | assumption | apply State.assertSource_good | apply State.releaseSource_good | apply good_foldl | split))

@[simp] theorem coreBrownOut_good {pd : List Instr} {on : Bool} {s : State} (hs : Good pd s) : Good pd (coreBrownOut on s) := by
  unfold coreBrownOut
  try dsimp only
  repeat' (first | (with_reducible first | assumption | apply State.setFld_good | apply State.assertSource_good | apply State.releaseSource_good | apply good_foldl | split))

@[simp] theorem resetNAssert_good {pd : List Instr} {on : Bool} {s : State} (hs : Good pd s) : Good pd (resetNAssert on s) := by
  unfold resetNAssert
  try dsimp only
  repeat' (first | (with_reducible first | assumption | apply State.waitOp_good | apply State.assertSource_good | apply State.releaseSource_good | apply good_foldl | split))

@[simp] theorem resetNLong_good {pd : List Instr} {s : State} (hs : Good pd s) : Good pd (resetNLong s) := by
  unfold resetNLong
  try dsimp only
  repeat' (first | (with_reducible first | assumption | apply State.assertSource_good | apply good_foldl | split))

@[simp] theorem State.clockOff_good {pd : List Instr} {s : State} {i : Nat} (hs : Good pd s) : Good pd (State.clockOff s i) := by
  unfold State.clockOff
  try dsimp only
  repeat' (first | (with_reducible first | assumption | apply good_foldl | split | intro _ | simp only [good_mk]))

@[simp] theorem clockFailureReset_good {pd : List Instr} {i : Fin 20} {s : State} (hs : Good pd s) : Good pd (clockFailureReset i s) := by
  unfold clockFailureReset
  try dsimp only
  repeat' (first | (with_reducible first | assumption | apply State.clockOff_good | apply State.assertSource_good | apply good_foldl | split))

@[simp] theorem stewardLockstepFault_good {pd : List Instr} {s : State} (hs : Good pd s) : Good pd (stewardLockstepFault s) := by
  unfold stewardLockstepFault
  try dsimp only
  repeat' (first | (with_reducible first | assumption | apply State.incSat_good | apply State.assertSource_good | apply good_foldl | split))

@[simp] theorem rstSw_good {pd : List Instr} {hap : Bool} {value : Word} {s : State} (hs : Good pd s) : Good pd (rstSw hap value s) := by
  unfold rstSw
  try dsimp only
  repeat' (first | (with_reducible first | assumption | apply State.refuse_good | apply State.logErr_good | apply State.assertSource_good | apply good_foldl | split))

@[simp] theorem presenceLost_good {pd : List Instr} {p : SlotPins} {s : State} (hs : Good pd s) : Good pd (presenceLost p s) := by
  unfold presenceLost
  try dsimp only
  repeat' (first | (with_reducible first | assumption | apply State.setFld_good | apply State.driveExtest_good | apply State.releaseSource_good | apply State.assertSource_good | apply good_foldl | split | intro _ | simp only [good_mk]))

@[simp] theorem operatingTimeSave_good {pd : List Instr} {s : State} (hs : Good pd s) : Good pd (operatingTimeSave s) := by
  unfold operatingTimeSave
  try dsimp only
  repeat' (first | (with_reducible first | assumption | apply State.waitOp_good | apply good_foldl | split | intro _ | simp only [good_mk]))

@[simp] theorem vinLow_good {pd : List Instr} {vin : BitVec 16} {s : State} (hs : Good pd s) : Good pd (vinLow vin s) := by
  unfold vinLow
  try dsimp only
  repeat' (first | (with_reducible first | assumption | apply State.setFld_good | apply State.raise_good | apply good_foldl | split))

@[simp] theorem rstOptimeLoRead_good {pd : List Instr} {s : State} (hs : Good pd s) : Good pd (rstOptimeLoRead s) := by
  unfold rstOptimeLoRead
  try dsimp only
  repeat' (first | (with_reducible first | assumption | apply State.setReg_good | apply good_foldl | split))

@[simp] theorem State.recShow_good {pd : List Instr} {s : State} (hs : Good pd s) : Good pd (State.recShow s) := by
  unfold State.recShow
  try dsimp only
  repeat' (first | (with_reducible first | assumption | apply State.setFld_good | apply State.setReg_good))

@[simp] theorem State.oweEvent_good {pd : List Instr} {s : State} {e : Event} (hs : Good pd s) : Good pd (State.oweEvent s e) := by
  unfold State.oweEvent
  try dsimp only
  repeat' (first | (with_reducible first | assumption | apply good_foldl | split | intro _ | simp only [good_mk]))

@[simp] theorem State.owe_good {pd : List Instr} {s : State} {type : Nat} {payload : Bytes} (hs : Good pd s) : Good pd (State.owe s type payload) := by
  unfold State.owe
  try dsimp only
  repeat' (first | (with_reducible first | assumption | apply State.oweEvent_good))

@[simp] theorem State.dropEvent_good {pd : List Instr} {s : State} {q : QEntry} (hs : Good pd s) : Good pd (State.dropEvent s q) := by
  unfold State.dropEvent
  try dsimp only
  repeat' (first | (with_reducible first | assumption | apply State.incSat_good | apply State.raise_good | apply good_foldl | split | intro _ | simp only [good_mk]))

@[simp] theorem State.recAdmit_good {pd : List Instr} {s : State} {e : Event} (hs : Good pd s) : Good pd (s.recAdmit e).1 := by
  have hput : ∀ l, Good pd { s with rcd := { s.rcd with queue := l ++ [s.stamp e], lastOp := (s.stamp e).op } } := fun _ => hs
  have hsw : ∀ (p : QEntry → Bool) (t : State), (match takeLast p s.rcd.queue with
      | some (d, l) => some (({ s with rcd := { s.rcd with queue := l ++ [s.stamp e], lastOp := (s.stamp e).op } } : State).dropEvent d)
      | none => none) = some t → Good pd t := by
    intro p t h
    split at h
    · cases h; exact State.dropEvent_good (hput _)
    · cases h
  unfold State.recAdmit
  dsimp only
  repeat' split
  all_goals first
    | exact hs
    | exact State.dropEvent_good hs
    | exact State.logErr_good (State.dropEvent_good hs)
    | exact hsw _ _ (by assumption)

@[simp] theorem recordEventAdmit_good {pd : List Instr} {s : State} (hs : Good pd s) : Good pd (recordEventAdmit s) := by
  unfold recordEventAdmit
  try dsimp only
  repeat' (first | (with_reducible first | assumption | apply State.recAdmit_good | apply State.recShow_good | apply good_foldl | split | intro _ | simp only [good_mk]))

@[simp] theorem State.suppress_good {pd : List Instr} {s : State} {p : DropCnt → Bool} (hs : Good pd s) : Good pd (State.suppress s p) := by
  unfold State.suppress
  try dsimp only
  repeat' (first | (with_reducible first | assumption | apply State.setReg_good | apply State.owe_good | apply good_foldl | split | intro _ | simp only [good_mk]))

@[simp] theorem State.keepErased_good {pd : List Instr} {s : State} (hs : Good pd s) : Good pd (State.keepErased s) := by
  unfold State.keepErased
  try dsimp only
  repeat' (first | (with_reducible first | assumption | apply State.owe_good | apply good_foldl | split | intro _ | simp only [good_mk]))

@[simp] theorem State.program_good {pd : List Instr} {s : State} {b : Bytes} (hs : Good pd s) : Good pd (State.program s b) := by
  unfold State.program
  try dsimp only
  repeat' (first | (with_reducible first | assumption | apply good_foldl | split | intro _ | simp only [good_mk]))

@[simp] theorem State.closeSeg_good {pd : List Instr} {s : State} (hs : Good pd s) : Good pd (State.closeSeg s) := by
  unfold State.closeSeg
  try dsimp only
  repeat' (first | (with_reducible first | assumption | apply State.setReg_good))

@[simp] theorem State.written__good {pd : List Instr} {s : State} {q : QEntry} {b : Bytes} (hs : Good pd s) : Good pd (State.written_ s q b) := by
  unfold State.written_
  try dsimp only
  repeat' (first | (with_reducible first | assumption | apply State.setReg_good | apply State.raise_good | apply State.incWrap_good | apply State.incSat_good | apply State.notify_good | apply good_foldl | split))

@[simp] theorem State.wedgeReset_good {pd : List Instr} {s : State} (hs : Good pd s) : Good pd (State.wedgeReset s) := by
  unfold State.wedgeReset
  try dsimp only
  repeat' (first | (with_reducible first | assumption | apply State.assertSource_good | apply good_foldl | split | intro _ | simp only [good_mk]))

@[simp] theorem State.wedgeRecorded_good {pd : List Instr} {s : State} {q : QEntry} {res : ProgRes} (hs : Good pd s) : Good pd (State.wedgeRecorded s q res) := by
  unfold State.wedgeRecorded
  try dsimp only
  repeat' (first | (with_reducible first | assumption | apply State.wedgeReset_good | apply good_foldl | split))

theorem State.openSeg_good {pd : List Instr} {s t : State} {q : Word} (hs : Good pd s) (h : s.openSeg q = some t) : Good pd t := by
  unfold State.openSeg at h
  split at h
  · cases h
  · extract_lets hd rc s1 s2 s3 at h
    have h1 : Good pd s1 := hs
    have h2 : Good pd s2 := State.setReg_good h1
    have h3 : Good pd s3 := by
      unfold s3
      split
      · exact State.raise_good h2
      · exact h2
    clear_value s3
    cases h
    exact State.keepErased_good h3

theorem State.room_good {pd : List Instr} {s t : State} {n : Nat} {q : Word} (hs : Good pd s) (h : s.room n q = some t) : Good pd t := by
  unfold State.room at h
  dsimp only at h
  split at h
  · cases h; exact hs
  · exact State.openSeg_good hs h

@[simp] theorem State.writeRec_good {pd : List Instr} {s : State} {q : QEntry} {kept : Option Word} {res : ProgRes} (hs : Good pd s) :
    Good pd (s.writeRec q kept res) := by
  unfold State.writeRec
  dsimp only
  split
  · split
    · exact hs
    · exact State.setFld_good (s := { s with rcd := { s.rcd with due := (q, kept) :: s.rcd.due } }) hs
  · rename_i t h
    have ht := State.room_good hs h
    have h2 : Good pd (if kept.isSome = true then t else t.setReg Reg.recNextSeq (t.reg Reg.recNextSeq + 1)) := by
      split
      · exact ht
      · exact State.setReg_good ht
    split
    · exact State.written__good (State.program_good h2)
    · exact State.program_good h2
    · have h3 : ∀ i, Good pd ((((State.program (if kept.isSome = true then t else t.setReg Reg.recNextSeq (t.reg Reg.recNextSeq + 1))
          (List.take ((q.record (kept.getD (s.reg Reg.recNextSeq))).length - 1) (q.record (kept.getD (s.reg Reg.recNextSeq))))).closeSeg).raise pREC 5).logErr pREC 0x0101 i) :=
        fun i => State.logErr_good (State.raise_good (State.closeSeg_good (State.program_good h2)))
      exact h3 _

@[simp] theorem recordWrite_good {pd : List Instr} {res : ProgRes} {s : State} (hs : Good pd s) : Good pd (recordWrite res s) := by
  unfold recordWrite
  try dsimp only
  repeat' (first | (with_reducible first | assumption | apply State.writeRec_good | apply State.recShow_good | apply State.wedgeRecorded_good | apply State.suppress_good | apply good_foldl | split | intro _ | simp only [good_mk]))

@[simp] theorem segmentEraseDone_good {pd : List Instr} {ok : Bool} {s : State} (hs : Good pd s) : Good pd (segmentEraseDone ok s) := by
  unfold segmentEraseDone
  try dsimp only
  repeat' (first | (with_reducible first | assumption | apply State.setFld_good | apply State.recShow_good | apply State.raise_good | apply State.logErr_good | apply State.owe_good | apply State.keepErased_good | apply good_foldl | split | intro _ | simp only [good_mk]))

@[simp] theorem suppressTimeout_good {pd : List Instr} {s : State} (hs : Good pd s) : Good pd (suppressTimeout s) := by
  unfold suppressTimeout
  try dsimp only
  repeat' (first | (with_reducible first | assumption | apply State.suppress_good | apply good_foldl | split))

@[simp] theorem State.examine_good {pd : List Instr} {s : State} (hs : Good pd s) : Good pd (State.examine s).1 := by
  unfold State.examine
  try dsimp only
  repeat' (first | (with_reducible first | assumption | apply State.setReg_good | apply good_foldl | split))

@[simp] theorem State.recStart_good {pd : List Instr} {s : State} {first : List (Nat × Bytes)} (hs : Good pd s) : Good pd (State.recStart s first) := by
  unfold State.recStart
  try dsimp only
  repeat' (first | (with_reducible first | assumption | apply State.setFld_good | apply State.examine_good | apply State.owe_good | apply State.keepErased_good | apply State.recShow_good | apply good_foldl | split | intro _ | simp only [good_mk]))

@[simp] theorem recorderStart_good {pd : List Instr} {indexOk : Bool} {s : State} (hs : Good pd s) : Good pd (recorderStart indexOk s) := by
  unfold recorderStart
  try dsimp only
  repeat' (first | (with_reducible first | assumption | apply State.oweEvent_good | apply State.recStart_good | apply State.setFld_good | apply good_foldl | split | intro _ | simp only [good_mk]))

@[simp] theorem indexRebuilt_good {pd : List Instr} {ms : Word} {s : State} (hs : Good pd s) : Good pd (indexRebuilt ms s) := by
  unfold indexRebuilt
  try dsimp only
  repeat' (first | (with_reducible first | assumption | apply State.setReg_good | apply State.recStart_good | apply good_foldl | split | intro _ | simp only [good_mk]))

@[simp] theorem recSubCmd_good {pd : List Instr} {hap : Bool} {s : State} (hs : Good pd s) : Good pd (recSubCmd hap s) := by
  unfold recSubCmd
  try dsimp only
  repeat' (first | (with_reducible first | assumption | apply State.downError_good | apply State.refuse_good | apply State.setFld_good | apply State.logErr_good | apply State.recAdmit_good | apply State.recShow_good | apply good_foldl | split))

@[simp] theorem State.readBegin_good {pd : List Instr} {s : State} (hs : Good pd s) : Good pd (State.readBegin s) := by
  unfold State.readBegin
  try dsimp only
  repeat' (first | (with_reducible first | assumption | apply State.setFld_good | apply good_foldl | split | intro _ | simp only [good_mk]))

@[simp] theorem recRdCmdRead_good {pd : List Instr} {hap : Bool} {s : State} (hs : Good pd s) : Good pd (recRdCmdRead hap s) := by
  unfold recRdCmdRead
  try dsimp only
  repeat' (first | (with_reducible first | assumption | apply State.downError_good | apply State.refuse_good | apply State.readBegin_good | apply good_foldl | split))

@[simp] theorem recReadDone_good {pd : List Instr} {s : State} (hs : Good pd s) : Good pd (recReadDone s) := by
  unfold recReadDone
  try dsimp only
  repeat' (first | (with_reducible first | assumption | apply State.writeMem_good | apply State.setReg_good | apply State.raise_good | apply good_foldl | split | intro _ | simp only [good_mk]))

@[simp] theorem State.optBad_good {pd : List Instr} {s : State} {copy : Nat} {reason : Nat} (hs : Good pd s) : Good pd (State.optBad s copy reason) := by
  unfold State.optBad
  try dsimp only
  repeat' (first | (with_reducible first | assumption | apply State.logErr_good))

@[simp] theorem optionLoaderDone_good {pd : List Instr} {err1 err2 : Bool} {s : State} (hs : Good pd s) : Good pd (optionLoaderDone err1 err2 s) := by
  unfold optionLoaderDone
  try dsimp only
  repeat' (first | (with_reducible first | assumption | apply State.optBad_good | apply State.setReg_good | apply State.raise_good | apply State.showRst_good | apply good_foldl | split | intro _ | simp only [good_mk]))

@[simp] theorem sysOptCmdWrite_good {pd : List Instr} {s : State} (hs : Good pd s) : Good pd (sysOptCmdWrite s) := by
  unfold sysOptCmdWrite
  try dsimp only
  repeat' (first | (with_reducible first | assumption | apply State.refuse_good | apply State.setFld_good | apply State.logErr_good | apply good_foldl | split | intro _ | simp only [good_mk]))

@[simp] theorem optionWriteDone_good {pd : List Instr} {ok : Bool} {s : State} (hs : Good pd s) : Good pd (optionWriteDone ok s) := by
  unfold optionWriteDone
  try dsimp only
  repeat' (first | (with_reducible first | assumption | apply State.setFld_good | apply State.incWrap_good | apply State.raise_good | apply State.logErr_good | apply good_foldl | split | intro _ | simp only [good_mk]))

@[simp] theorem sysFuseCmdBurn_good {pd : List Instr} {value : Word} {ok : Bool} {s : State} (hs : Good pd s) : Good pd (sysFuseCmdBurn value ok s) := by
  unfold sysFuseCmdBurn
  try dsimp only
  repeat' (first | (with_reducible first | assumption | apply State.logErr_good | apply State.raise_good | apply good_foldl | split | intro _ | simp only [good_mk]))

@[simp] theorem State.secFail_good {pd : List Instr} {s : State} {obj reason : Nat} (hs : Good pd s) : Good pd (State.secFail s obj reason) := by
  unfold State.secFail
  try dsimp only
  repeat' (first | (with_reducible first | assumption | apply State.setReg_good | apply State.logErr_good))

@[simp] theorem State.extStart_good {pd : List Instr} {s : State} {n : Nat} {b : Bytes} (hs : Good pd s) : Good pd (State.extStart s n b) := by
  unfold State.extStart
  try dsimp only
  repeat' (first | (with_reducible first | assumption | apply State.setReg_good | apply good_foldl | split | intro _ | simp only [good_mk]))

@[simp] theorem romBoot_good {pd : List Instr} {err1 err2 : Bool} {s : State} (hs : Good pd s) : Good pd (romBoot err1 err2 s) := by
  unfold romBoot
  try dsimp only
  repeat' (first | (with_reducible first | assumption | apply State.extStart_good | apply State.secFail_good | apply State.setFld_good | apply good_foldl | split))

@[simp] theorem State.judgeTrial_good {pd : List Instr} {s : State} {b : Bool} (hs : Good pd s) : Good pd (State.judgeTrial s b) := by
  unfold State.judgeTrial
  try dsimp only
  repeat' (first | (with_reducible first | assumption | apply State.setBank_good | apply State.writeLib_good | apply State.incSat_good | apply State.logErr_good | apply State.recErr_good | apply good_foldl | split))

@[simp] theorem State.firmwareStart_good {pd : List Instr} {s : State} {b : Bool} (hs : Good pd s) : Good pd (State.firmwareStart s b) := by
  unfold State.firmwareStart
  try dsimp only
  repeat' (first | (with_reducible first | assumption | apply State.startSteward_good | apply State.setFld_good | apply State.setReg_good | apply over16_good | apply State.writeLib_good | apply good_foldl | split | intro _ | simp only [good_mk]))

@[simp] theorem firmwareBankVerify_good {pd : List Instr} {errA errB : Bool} {s : State} (hs : Good pd s) : Good pd (firmwareBankVerify errA errB s) := by
  unfold firmwareBankVerify
  try dsimp only
  repeat' (first | (with_reducible first | assumption | apply State.judgeTrial_good | apply State.firmwareStart_good | apply State.secFail_good | apply State.recErr_good | apply State.setFld_good | apply good_foldl | split | intro _ | simp only [good_mk]))

@[simp] theorem State.keyRefused_good {pd : List Instr} {s : State} {value : Word} (hs : Good pd s) : Good pd (State.keyRefused s value) := by
  unfold State.keyRefused
  try dsimp only
  repeat' (first | (with_reducible first | assumption | apply State.logErr_good))

@[simp] theorem State.secCmd_good {pd : List Instr} {s : State} {value : Word} {op : Nat} {f : State → Fin 8 → State} (hs : Good pd s) (hf : ∀ (y0 : State) (y1 : Fin 8), Good pd y0 → Good pd (f y0 y1)) : Good pd (State.secCmd s value op f) := by
  unfold State.secCmd
  try dsimp only
  repeat' (first | (with_reducible first | assumption | apply hf | apply State.downError_good | apply State.keyRefused_good | apply good_foldl | split))

@[simp] theorem secKeyStore_good {pd : List Instr} {value : Word} {s : State} (hs : Good pd s) : Good pd (secKeyStore value s) := by
  unfold secKeyStore
  try dsimp only
  repeat' (first | (with_reducible first | assumption | apply State.secCmd_good | apply State.keyRefused_good | apply State.setFld_good | apply State.raise_good | apply good_foldl | split | intro _ | simp only [good_mk]))

@[simp] theorem secKeyEnable_good {pd : List Instr} {value : Word} {s : State} (hs : Good pd s) : Good pd (secKeyEnable value s) := by
  unfold secKeyEnable
  try dsimp only
  repeat' (first | (with_reducible first | assumption | apply State.secCmd_good | apply State.keyRefused_good | apply State.setFld_good | apply State.raise_good | apply good_foldl | split | intro _))

@[simp] theorem secKeyDisable_good {pd : List Instr} {value : Word} {s : State} (hs : Good pd s) : Good pd (secKeyDisable value s) := by
  unfold secKeyDisable
  try dsimp only
  repeat' (first | (with_reducible first | assumption | apply State.secCmd_good | apply State.setFld_good | apply State.raise_good | apply good_foldl | split | intro _))

@[simp] theorem secKeyRevoke_good {pd : List Instr} {value : Word} {s : State} (hs : Good pd s) : Good pd (secKeyRevoke value s) := by
  unfold secKeyRevoke
  try dsimp only
  repeat' (first | (with_reducible first | assumption | apply State.secCmd_good | apply State.keyRefused_good | apply State.setFld_good | apply State.raise_good | apply good_foldl | split | intro _))

@[simp] theorem State.modCan_good {pd : List Instr} {s : State} {c : Fin 2} {f : CanCh → CanCh} (hs : Good pd s) : Good pd (State.modCan s c f) := by
  unfold State.modCan
  try dsimp only
  repeat' (first | (with_reducible first | assumption | apply good_foldl | split | intro _ | simp only [good_mk]))

@[simp] theorem State.setTx_good {pd : List Instr} {s : State} {c : Fin 2} {b v : Nat} (hs : Good pd s) : Good pd (State.setTx s c b v) := by
  unfold State.setTx
  try dsimp only
  repeat' (first | (with_reducible first | assumption | apply State.setFld_good))

@[simp] theorem State.canStart_good {pd : List Instr} {s : State} {c : Fin 2} (hs : Good pd s) : Good pd (State.canStart s c) := by
  unfold State.canStart
  try dsimp only
  repeat' (first | (with_reducible first | assumption | apply State.modCan_good | apply good_foldl | split))

@[simp] theorem State.txEnds_good {pd : List Instr} {s : State} {c : Fin 2} {b v : Nat} (hs : Good pd s) : Good pd (State.txEnds s c b v) := by
  unfold State.txEnds
  try dsimp only
  repeat' (first | (with_reducible first | assumption | apply State.setTx_good | apply State.modCan_good))

@[simp] theorem State.canUnsent_good {pd : List Instr} {s : State} {c : Fin 2} {b : Nat} {aborted : Bool} (hs : Good pd s) : Good pd (State.canUnsent s c b aborted) := by
  unfold State.canUnsent
  try dsimp only
  repeat' (first | (with_reducible first | assumption | apply State.txEnds_good | apply State.raise_good | apply good_foldl | split))

@[simp] theorem State.canOff_good {pd : List Instr} {s : State} {c : Fin 2} (hs : Good pd s) : Good pd (State.canOff s c) := by
  unfold State.canOff
  try dsimp only
  repeat' (first | (with_reducible first | assumption | apply State.modCan_good | apply State.canUnsent_good | apply good_foldl | split))

@[simp] theorem State.canFree_good {pd : List Instr} {s : State} {c : Fin 2} (hs : Good pd s) : Good pd (State.canFree s c) := by
  unfold State.canFree
  try dsimp only
  repeat' (first | (with_reducible first | assumption | apply State.modCan_good | apply State.canStart_good))

@[simp] theorem State.canCounters_good {pd : List Instr} {s : State} {c : Fin 2} {tec rec : Nat} (hs : Good pd s) : Good pd (State.canCounters s c tec rec) := by
  unfold State.canCounters
  try dsimp only
  repeat' (first | (with_reducible first | assumption | apply State.setFld_good | apply State.incSat_good | apply State.modCan_good | apply State.raise_good | apply State.logErr_good | apply State.recErr_good | apply good_foldl | split))

@[simp] theorem State.canRecDown_good {pd : List Instr} {s : State} {rec : Nat} (hs : Good pd s) : Good pd (State.canRecDown s rec).1 := by
  unfold State.canRecDown
  try dsimp only
  repeat' (first | (with_reducible first | assumption | apply State.takeFree_good | apply good_foldl | split))

@[simp] theorem State.canAcked_good {pd : List Instr} {s : State} {c : Fin 2} (hs : Good pd s) : Good pd (State.canAcked s c) := by
  unfold State.canAcked
  try dsimp only
  repeat' (first | (with_reducible first | assumption | apply State.setFld_good | apply State.modCan_good))

@[simp] theorem State.canNoAck_good {pd : List Instr} {s : State} {c : Fin 2} {b : Nat} (hs : Good pd s) : Good pd (State.canNoAck s c b) := by
  unfold State.canNoAck
  try dsimp only
  repeat' (first | (with_reducible first | assumption | apply State.incSat_good | apply State.modCan_good | apply State.raise_good | apply State.recIrq_good | apply State.txEnds_good | apply good_foldl | split))

@[simp] theorem State.canServe_good {pd : List Instr} {s : State} (hs : Good pd s) : Good pd (State.canServe s) := by
  unfold State.canServe
  try dsimp only
  repeat' (first | (with_reducible first | assumption | apply State.setReg_good | apply good_foldl | split | intro _ | simp only [good_mk]))

@[simp] theorem State.canQueue_good {pd : List Instr} {s : State} {c : Fin 2} {hdr0 hdr1 : Word} {data : Bytes} (hs : Good pd s) : Good pd (State.canQueue s c hdr0 hdr1 data) := by
  unfold State.canQueue
  try dsimp only
  repeat' (first | (with_reducible first | assumption | apply State.incSat_good | apply State.raise_good | apply State.modCan_good | apply State.incWrap_good | apply State.canServe_good | apply good_foldl | split))

@[simp] theorem State.canReceive_good {pd : List Instr} {s : State} {c : Fin 2} {hdr0 hdr1 : Word} {data : Bytes} (hs : Good pd s) : Good pd (State.canReceive s c hdr0 hdr1 data) := by
  unfold State.canReceive
  try dsimp only
  repeat' (first | (with_reducible first | assumption | apply State.incSat_good | apply State.canAcked_good | apply State.canQueue_good | apply good_foldl | split))

@[simp] theorem canFrameRx_good {pd : List Instr} {c : Fin 2} {hdr0 hdr1 : Word} {data : Bytes} {s : State} (hs : Good pd s) : Good pd (canFrameRx c hdr0 hdr1 data s) := by
  unfold canFrameRx
  try dsimp only
  repeat' (first | (with_reducible first | assumption | apply State.canReceive_good | apply State.canRecDown_good | apply State.canCounters_good | apply State.send_good | apply State.canFree_good | apply good_foldl | split))

@[simp] theorem canRxPop_good {pd : List Instr} {c : Fin 2} {s : State} (hs : Good pd s) : Good pd (canRxPop c s) := by
  unfold canRxPop
  try dsimp only
  repeat' (first | (with_reducible first | assumption | apply State.onPage_good | apply State.modCan_good | apply good_foldl | split | intro _))

@[simp] theorem canTxReq_good {pd : List Instr} {c : Fin 2} {req : CanReq} {s : State} (hs : Good pd s) : Good pd (canTxReq c req s) := by
  unfold canTxReq
  try dsimp only
  repeat' (first | (with_reducible first | assumption | apply State.onPage_good | apply State.modCan_good | apply State.refuse_good | apply State.setTx_good | apply State.canStart_good | apply good_foldl | split | intro _))

@[simp] theorem canTxAbort_good {pd : List Instr} {c : Fin 2} {bufs : BitVec 3} {s : State} (hs : Good pd s) : Good pd (canTxAbort c bufs s) := by
  unfold canTxAbort
  try dsimp only
  repeat' (first | (with_reducible first | assumption | apply State.onPage_good | apply State.modCan_good | apply State.txEnds_good | apply good_foldl | split | intro _))

@[simp] theorem State.canDone_good {pd : List Instr} {s : State} {c : Fin 2} {b : Nat} (hs : Good pd s) : Good pd (State.canDone s c b) := by
  unfold State.canDone
  try dsimp only
  repeat' (first | (with_reducible first | assumption | apply State.setTx_good | apply State.raise_good | apply State.modCan_good | apply State.incWrap_good | apply State.canAcked_good | apply State.canCounters_good | apply State.canReceive_good | apply State.send_good | apply good_foldl | split))

@[simp] theorem State.canFailed_good {pd : List Instr} {s : State} {c : Fin 2} {b : Nat} {aborted : Bool} {lec : BitVec 4} {acked exempt : Bool} (hs : Good pd s) : Good pd (State.canFailed s c b aborted lec acked exempt) := by
  unfold State.canFailed
  try dsimp only
  repeat' (first | (with_reducible first | assumption | apply State.setFld_good | apply State.canNoAck_good | apply State.canAcked_good | apply State.canUnsent_good | apply State.canCounters_good | apply State.modCan_good | apply good_foldl | split))

@[simp] theorem canFrameTxEnd_good {pd : List Instr} {c : Fin 2} {res : CanEnd} {s : State} (hs : Good pd s) : Good pd (canFrameTxEnd c res s) := by
  unfold canFrameTxEnd
  try dsimp only
  repeat' (first | (with_reducible first | assumption | apply State.modCan_good | apply State.canDone_good | apply State.canStart_good | apply State.canUnsent_good | apply State.canFailed_good | apply good_foldl | split))

@[simp] theorem canCmdRecover_good {pd : List Instr} {c : Fin 2} {s : State} (hs : Good pd s) : Good pd (canCmdRecover c s) := by
  unfold canCmdRecover
  try dsimp only
  repeat' (first | (with_reducible first | assumption | apply State.onPage_good | apply State.setFld_good | apply State.refuse_good | apply good_foldl | split | intro _))

@[simp] theorem canRecoveryDone_good {pd : List Instr} {c : Fin 2} {s : State} (hs : Good pd s) : Good pd (canRecoveryDone c s) := by
  unfold canRecoveryDone
  try dsimp only
  repeat' (first | (with_reducible first | assumption | apply State.setReg_good | apply State.canFree_good | apply good_foldl | split))

@[simp] theorem canRecoveryDelay_good {pd : List Instr} {c : Fin 2} {s : State} (hs : Good pd s) : Good pd (canRecoveryDelay c s) := by
  unfold canRecoveryDelay
  try dsimp only
  repeat' (first | (with_reducible first | assumption | apply canCmdRecover_good | apply State.waitOp_good | apply good_foldl | split))

@[simp] theorem State.canRetire_good {pd : List Instr} {s : State} {c : Fin 2} {cause : Nat} (hs : Good pd s) : Good pd (State.canRetire s c cause) := by
  unfold State.canRetire
  try dsimp only
  repeat' (first | (with_reducible first | assumption | apply State.setFld_good | apply State.canOff_good | apply State.raise_good | apply State.logErr_good | apply State.recErr_good))

@[simp] theorem canDominantTimeout_good {pd : List Instr} {c : Fin 2} {s : State} (hs : Good pd s) : Good pd (canDominantTimeout c s) := by
  unfold canDominantTimeout
  try dsimp only
  repeat' (first | (with_reducible first | assumption | apply State.modCan_good | apply State.send_good | apply State.canRetire_good | apply good_foldl | split))

@[simp] theorem canBusError_good {pd : List Instr} {c : Fin 2} {lec : BitVec 4} {dominant : Bool} {s : State} (hs : Good pd s) : Good pd (canBusError c lec dominant s) := by
  unfold canBusError
  try dsimp only
  repeat' (first | (with_reducible first | assumption | apply State.setFld_good | apply State.canCounters_good | apply State.canFree_good | apply good_foldl | split))

@[simp] theorem canCtrlWrite_good {pd : List Instr} {c : Fin 2} {value : Word} {check : Bool} {s : State} (hs : Good pd s) : Good pd (canCtrlWrite c value check s) := by
  unfold canCtrlWrite
  try dsimp only
  repeat' (first | (with_reducible first | assumption | apply State.onPage_good | apply State.setReg_good | apply State.refuse_good | apply State.logErr_good | apply State.canRetire_good | apply State.setFld_good | apply State.canStart_good | apply State.canOff_good | apply good_foldl | split | intro _))

@[simp] theorem State.dunlySend_good {pd : List Instr} {s : State} {lane : Fin 4} {kind : Nat} {payload : Bytes} (hs : Good pd s) : Good pd (State.dunlySend s lane kind payload) := by
  unfold State.dunlySend
  try dsimp only
  repeat' (first | (with_reducible first | assumption | apply State.send_good | apply good_foldl | split | intro _ | simp only [good_mk]))

@[simp] theorem State.dunlyBad_good {pd : List Instr} {s : State} (hs : Good pd s) : Good pd (State.dunlyBad s) := by
  unfold State.dunlyBad
  try dsimp only
  repeat' (first | (with_reducible first | assumption | apply State.incSat_good | apply State.raise_good))

@[simp] theorem State.seqGap_good {pd : List Instr} {s : State} {lane : Fin 4} {seq : Word} (hs : Good pd s) : Good pd (State.seqGap s lane seq) := by
  unfold State.seqGap
  try dsimp only
  repeat' (first | (with_reducible first | assumption | apply State.setFld_good | apply State.raise_good | apply good_foldl | split | intro _ | simp only [good_mk]))

@[simp] theorem State.dunlyRx_good {pd : List Instr} {s : State} {lane : Fin 4} {kind : Nat} {msg : Bytes} {f : State → Word → Bytes → State} (hs : Good pd s) (hf : ∀ (y0 : State) (y1 : Word) (y2 : Bytes), Good pd y0 → Good pd (f y0 y1 y2)) : Good pd (State.dunlyRx s lane kind msg f) := by
  unfold State.dunlyRx
  try dsimp only
  repeat' (first | (with_reducible first | assumption | apply hf | apply State.dunlyBad_good | apply State.seqGap_good | apply good_foldl | split))

@[simp] theorem State.sendChg_good {pd : List Instr} {s : State} {op reason : Nat} {sr : Word} {ident : Bytes} (hs : Good pd s) : Good pd (State.sendChg s op reason sr ident) := by
  unfold State.sendChg
  try dsimp only
  repeat' (first | (with_reducible first | assumption | apply State.dunlySend_good))

@[simp] theorem State.sendCastle_good {pd : List Instr} {s : State} {op : Nat} {c : Word} (hs : Good pd s) : Good pd (State.sendCastle s op c) := by
  unfold State.sendCastle
  try dsimp only
  repeat' (first | (with_reducible first | assumption | apply State.dunlySend_good))

@[simp] theorem State.sendJoinc_good {pd : List Instr} {s : State} {op reason : Nat} {r : Word} (hs : Good pd s) : Good pd (State.sendJoinc s op reason r) := by
  unfold State.sendJoinc
  try dsimp only
  repeat' (first | (with_reducible first | assumption | apply State.dunlySend_good))

@[simp] theorem State.sendCheck_good {pd : List Instr} {s : State} {result cause : Nat} {start : Word} (hs : Good pd s) : Good pd (State.sendCheck s result cause start) := by
  unfold State.sendCheck
  try dsimp only
  repeat' (first | (with_reducible first | assumption | apply State.dunlySend_good))

@[simp] theorem State.migrateLine_good {pd : List Instr} {s : State} {k : Nat} (hs : Good pd s) : Good pd (State.migrateLine s k) := by
  unfold State.migrateLine
  try dsimp only
  repeat' (first | (with_reducible first | assumption | apply State.writeMem_good | apply good_foldl | split | intro _ | simp only [good_mk]))

@[simp] theorem State.migrateRange_good {pd : List Instr} {s : State} {a n : Nat} (hs : Good pd s) : Good pd (State.migrateRange s a n) := by
  unfold State.migrateRange
  try dsimp only
  repeat' (first | (with_reducible first | assumption | apply State.migrateLine_good | apply good_foldl | split | intro _))

@[simp] theorem State.sendUnit_good {pd : List Instr} {s : State} {space ofs : Nat} {mirror : Bool} {body : Bytes} (hs : Good pd s) : Good pd (State.sendUnit s space ofs mirror body) := by
  unfold State.sendUnit
  try dsimp only
  repeat' (first | (with_reducible first | assumption | apply State.dunlySend_good))

@[simp] theorem State.closingOverrun_good {pd : List Instr} {s : State} {x : XferRun} (hs : Good pd s) : Good pd (State.closingOverrun s x) := by
  unfold State.closingOverrun
  try dsimp only
  repeat' (first | (with_reducible first | assumption | apply State.sendJoinc_good | apply State.modPair_good | apply State.setFld_good))

@[simp] theorem State.touchUnit_good {pd : List Instr} {s : State} {space unit ofs n : Nat} (hs : Good pd s) : Good pd (State.touchUnit s space unit ofs n) := by
  unfold State.touchUnit
  try dsimp only
  repeat' (first | (with_reducible first | assumption | apply State.sendUnit_good | apply State.modPair_good | apply State.closingOverrun_good | apply good_foldl | split))

@[simp] theorem State.touchStore_good {pd : List Instr} {s : State} {ofs n : Nat} (hs : Good pd s) : Good pd (State.touchStore s ofs n) := by
  unfold State.touchStore
  try dsimp only
  repeat' (first | (with_reducible first | assumption | apply State.touchUnit_good | apply good_foldl | split | intro _))

@[simp] theorem State.touchLine_good {pd : List Instr} {s : State} {line n : Nat} (hs : Good pd s) : Good pd (State.touchLine s line n) := by
  unfold State.touchLine
  try dsimp only
  repeat' (first | (with_reducible first | assumption | apply State.touchUnit_good | apply good_foldl | split))

@[simp] theorem State.touchImage_good {pd : List Instr} {s : State} {ofs : Nat} (hs : Good pd s) : Good pd (State.touchImage s ofs) := by
  unfold State.touchImage
  try dsimp only
  repeat' (first | (with_reducible first | assumption | apply State.touchLine_good))

@[simp] theorem State.imemPut_good {pd : List Instr} {s : State} {ofs : Nat} {w : Word} {q : BitVec 4} (hs : Good pd s) : Good pd (State.imemPut s ofs w q) := by
  unfold State.imemPut
  try dsimp only
  repeat' (first | (with_reducible first | assumption | apply State.imemSet_good | apply State.touchImage_good))

@[simp] theorem State.mirrorLine_good {pd : List Instr} {s : State} {k : Nat} (hs : Good pd s) : Good pd (State.mirrorLine s k) := by
  unfold State.mirrorLine
  try dsimp only
  repeat' (first | (with_reducible first | assumption | apply State.writeMem_good | apply good_foldl | split | intro _ | simp only [good_mk]))

@[simp] theorem State.storeWrite_good {pd : List Instr} {s : State} {ofs : Nat} {l : Bytes} (hs : Good pd s) : Good pd (State.storeWrite s ofs l) := by
  unfold State.storeWrite
  try dsimp only
  repeat' (first | (with_reducible first | assumption | apply State.migrateRange_good | apply State.writeMem_good | apply State.touchStore_good | apply State.mirrorLine_good | apply good_foldl | split | intro _))

@[simp] theorem State.boardRefused_good {pd : List Instr} {s : State} {code info : Nat} (hs : Good pd s) : Good pd (State.boardRefused s code info) := by
  unfold State.boardRefused
  try dsimp only
  repeat' (first | (with_reducible first | assumption | apply State.logErr_good | apply State.setReg_good | apply State.raise_good | apply State.incSat_good))

@[simp] theorem State.boardResult_good {pd : List Instr} {s : State} {code info : Nat} (hs : Good pd s) : Good pd (State.boardResult s code info) := by
  unfold State.boardResult
  try dsimp only
  repeat' (first | (with_reducible first | assumption | apply State.setFld_good | apply State.setReg_good | apply State.incWrap_good | apply State.raise_good))

@[simp] theorem State.boardCmd_good {pd : List Instr} {s : State} {op : BrdOp} {allowed : Bool} (hs : Good pd s) : Good pd (State.boardCmd s op allowed) := by
  unfold State.boardCmd
  try dsimp only
  repeat' (first | (with_reducible first | assumption | apply State.downError_good | apply State.refuse_good | apply State.boardResult_good | apply good_foldl | split | intro _ | simp only [good_mk]))

@[simp] theorem brdCmdVerify_good {pd : List Instr} {s : State} (hs : Good pd s) : Good pd (brdCmdVerify s) := by
  unfold brdCmdVerify
  try dsimp only
  repeat' (first | (with_reducible first | assumption | apply State.boardCmd_good))

@[simp] theorem brdCmdArm_good {pd : List Instr} {s : State} (hs : Good pd s) : Good pd (brdCmdArm s) := by
  unfold brdCmdArm
  try dsimp only
  repeat' (first | (with_reducible first | assumption | apply State.boardCmd_good))

@[simp] theorem brdCmdDisarm_good {pd : List Instr} {s : State} (hs : Good pd s) : Good pd (brdCmdDisarm s) := by
  unfold brdCmdDisarm
  try dsimp only
  repeat' (first | (with_reducible first | assumption | apply State.boardCmd_good))

@[simp] theorem brdCmdDiscard_good {pd : List Instr} {s : State} (hs : Good pd s) : Good pd (brdCmdDiscard s) := by
  unfold brdCmdDiscard
  try dsimp only
  repeat' (first | (with_reducible first | assumption | apply State.boardCmd_good))

@[simp] theorem brdCmdActivate_good {pd : List Instr} {s : State} (hs : Good pd s) : Good pd (brdCmdActivate s) := by
  unfold brdCmdActivate
  try dsimp only
  repeat' (first | (with_reducible first | assumption | apply State.boardCmd_good))

@[simp] theorem State.installBoard_good {pd : List Instr} {s : State} {raw : Bytes} (hs : Good pd s) : Good pd (State.installBoard s raw) := by
  unfold State.installBoard
  try dsimp only
  repeat' (first | (with_reducible first | assumption | apply State.setFld_good | apply State.writeMem_good | apply State.loadCode_good | apply State.initStore_good | apply State.restoreRetained_good | apply State.deriveRegions_good | apply State.fioDirections_good | apply State.incSat_good | apply good_foldl | split | intro _ | simp only [good_mk]))

@[simp] theorem State.armBoard_good {pd : List Instr} {s : State} (hs : Good pd s) : Good pd (State.armBoard s) := by
  unfold State.armBoard
  try dsimp only
  repeat' (first | (with_reducible first | assumption | apply State.writeMem_good | apply State.loadCode_good | apply State.initStore_good | apply State.incSat_good | apply good_foldl | split | intro _ | simp only [good_mk]))

@[simp] theorem brdCmdStore_good {pd : List Instr} {s : State} (hs : Good pd s) : Good pd (brdCmdStore s) := by
  unfold brdCmdStore
  try dsimp only
  repeat' (first | (with_reducible first | assumption | apply State.boardCmd_good | apply good_foldl | split | intro _ | simp only [good_mk]))

@[simp] theorem State.finishCheck_good {pd : List Instr} {s : State} {f : Option (Nat × Nat)} {act : State → State} (hs : Good pd s) (hact : ∀ (y0 : State), Good pd y0 → Good pd (act y0)) : Good pd (State.finishCheck s f act) := by
  unfold State.finishCheck
  try dsimp only
  repeat' (first | (with_reducible first | assumption | apply hact | apply State.takeFree_good | apply State.boardRefused_good | apply State.boardResult_good | apply good_foldl | split))

@[simp] theorem State.storeBoard_good {pd : List Instr} {s : State} {raw : Bytes} {writeErr : Bool} (hs : Good pd s) : Good pd (State.storeBoard s raw writeErr) := by
  unfold State.storeBoard
  try dsimp only
  repeat' (first | (with_reducible first | assumption | apply State.raise_good | apply good_foldl | split | intro _ | simp only [good_mk]))

@[simp] theorem State.activateBoard_good {pd : List Instr} {s : State} (hs : Good pd s) : Good pd (State.activateBoard s) := by
  unfold State.activateBoard
  try dsimp only
  repeat' (first | (with_reducible first | assumption | apply State.installBoard_good | apply good_foldl | split | intro _ | simp only [good_mk]))

@[simp] theorem State.endBoardClaim_good {pd : List Instr} {s : State} (hs : Good pd s) : Good pd (State.endBoardClaim s) := by
  unfold State.endBoardClaim
  try dsimp only
  repeat' (first | (with_reducible first | assumption | apply good_foldl | split | intro _ | simp only [good_mk]))

@[simp] theorem State.storeDone_good {pd : List Instr} {s : State} {writeErr : Bool} (hs : Good pd s) :
    Good pd (s.storeDone writeErr) := by
  unfold State.storeDone
  split
  · exact State.finishCheck_good hs (fun _ h => h)
  · extract_lets t
    have ht : Good pd t := State.storeBoard_good hs
    clear_value t
    split
    · exact State.boardResult_good (State.takeFree_good ht)
    · exact State.boardResult_good ht

@[simp] theorem brdCmdDone_good {pd : List Instr} {readErr writeErr : Bool} {s : State} (hs : Good pd s) : Good pd (brdCmdDone readErr writeErr s) := by
  unfold brdCmdDone
  split
  · exact hs
  · rename_i op _
    split
    · exact hs
    have h1 : Good pd { s with boards := { s.boards with running := none } } := hs
    revert h1
    generalize ({ s with boards := { s.boards with running := none } } : State) = t
    intro h1
    dsimp only
    split
    · exact State.endBoardClaim_good (State.finishCheck_good h1 (fun _ h => h))
    · exact State.endBoardClaim_good (State.storeDone_good h1)
    · exact State.finishCheck_good h1 (fun _ h => State.armBoard_good h)
    · exact State.boardResult_good (s := { t with boards := { t.boards with standby := .stored, stb := none } }) h1
    · refine State.boardResult_good ?_
      split
      · exact State.raise_good h1 |>.of_eq rfl rfl rfl
      · exact h1
    · exact State.finishCheck_good h1 (fun _ h => State.activateBoard_good h)

@[simp] theorem boardLoadAtReset_good {pd : List Instr} {readErr : Bool} {s : State} (hs : Good pd s) : Good pd (boardLoadAtReset readErr s) := by
  unfold boardLoadAtReset
  try dsimp only
  repeat' (first | (with_reducible first | assumption | apply State.takeFree_good | apply State.boardRefused_good | apply State.installBoard_good | apply good_foldl | split | intro _ | simp only [good_mk]))

end Sys2Proof.Machine
end

