-- ==== Sys2Proof/Laws/KeepSystem.lean ====
section
/-! SUPPORT. The invariant `Good` through gambit, system state, health, sequencer operations, time, Mebarid: every function that answers a state keeps it. -/

open Sys2Proof
namespace Sys2Proof.Machine

@[simp] theorem State.copyStaged_good {pd : List Instr} {s : State} {t : Fin 16} {line : Nat} (hs : Good pd s) : Good pd (State.copyStaged s t line) := by
  unfold State.copyStaged
  try dsimp only
  repeat' (first | (with_reducible first | assumption | apply State.imemSet_good | apply State.touchLine_good | apply good_foldl | split | intro _ | simp only [good_mk]))

@[simp] theorem State.restoreLine_good {pd : List Instr} {s : State} {n : Fin 16} {l : ShadowLine} (hs : Good pd s) : Good pd (State.restoreLine s n l) := by
  unfold State.restoreLine
  try dsimp only
  repeat' (first | (with_reducible first | assumption | apply State.writeMem_good | apply good_foldl | split | intro _ | simp only [good_mk]))

@[simp] theorem State.leaveCtx_good {pd : List Instr} {s : State} {n : Fin 16} {commit : Bool} (hs : Good pd s) : Good pd (State.leaveCtx s n commit) := by
  unfold State.leaveCtx
  try dsimp only
  repeat' (first | (with_reducible first | assumption | apply State.restoreLine_good | apply State.setFld_good | apply State.incSat_good | apply State.modLane_good | apply Lane.begin3_good | apply good_foldl | split | intro _))

@[simp] theorem State.gmbShow_good {pd : List Instr} {s : State} {t : Fin 16} {r : GmbRes} (hs : Good pd s) : Good pd (State.gmbShow s t r) := by
  unfold State.gmbShow
  try dsimp only
  repeat' (first | (with_reducible first | assumption | apply State.setReg_good | apply State.incWrap_good | apply State.incSat_good | apply State.modPair_good | apply State.setFld_good | apply good_foldl | split))

@[simp] theorem State.gmbReport_good {pd : List Instr} {s : State} {t : Fin 16} {r : GmbRes} {code : Option Nat} (hs : Good pd s) : Good pd (State.gmbReport s t r code) := by
  unfold State.gmbReport
  try dsimp only
  repeat' (first | (with_reducible first | assumption | apply State.raise_good | apply State.logErr_good | apply State.recErr_good | apply State.recIrq_good | apply good_foldl | split))

@[simp] theorem State.carryOut_good {pd : List Instr} {s : State} {t : Fin 16} {r : GmbRes} {code : Option Nat} (hs : Good pd s) : Good pd (State.carryOut s t r code) := by
  unfold State.carryOut
  try dsimp only
  repeat' (first | (with_reducible first | assumption | apply State.copyStaged_good | apply State.leaveCtx_good | apply State.modCtx_good | apply State.gmbShow_good | apply State.gmbReport_good | apply good_foldl | split | intro _))

@[simp] theorem State.closeContexts_good {pd : List Instr} {s : State} (hs : Good pd s) : Good pd (State.closeContexts s) := by
  unfold State.closeContexts
  try dsimp only
  repeat' (first | (with_reducible first | assumption | apply over16_good | apply State.carryOut_good | apply good_foldl | split | intro _))

@[simp] theorem State.seqStart_good {pd : List Instr} {s : State} (hs : Good pd s) : Good pd (State.seqStart s) := by
  unfold State.seqStart
  try dsimp only
  repeat' (first | (with_reducible first | assumption | apply good_foldl | split | intro _ | simp only [good_mk]))

@[simp] theorem State.seqStop_good {pd : List Instr} {s : State} (hs : Good pd s) : Good pd (State.seqStop s) := by
  unfold State.seqStop
  try dsimp only
  repeat' (first | (with_reducible first | assumption | apply good_foldl | split | intro _ | simp only [good_mk]))

@[simp] theorem State.driveLine_good {pd : List Instr} {s : State} (hs : Good pd s) : Good pd (State.driveLine s) := by
  unfold State.driveLine
  try dsimp only
  repeat' (first | (with_reducible first | assumption | apply State.setFld_good | apply State.raise_good))

@[simp] theorem State.toState_good {pd : List Instr} {s : State} {st : ModState} (hs : Good pd s) : Good pd (State.toState s st) := by
  unfold State.toState
  try dsimp only
  repeat' (first | (with_reducible first | assumption | apply State.releaseLine_good | apply State.raise_good | apply State.recIrq_good | apply State.loopFollow_good | apply State.notify_good | apply good_foldl | split | intro _ | simp only [good_mk]))

@[simp] theorem State.joinPhase_good {pd : List Instr} {s : State} {p : Nat} (hs : Good pd s) : Good pd (State.joinPhase s p) := by
  unfold State.joinPhase
  try dsimp only
  repeat' (first | (with_reducible first | assumption | apply State.setFld_good))

@[simp] theorem State.enterJoining_good {pd : List Instr} {s : State} (hs : Good pd s) : Good pd (State.enterJoining s) := by
  unfold State.enterJoining
  try dsimp only
  repeat' (first | (with_reducible first | assumption | apply State.toState_good | apply State.closeContexts_good | apply State.setFld_good | apply State.sendJoinc_good | apply State.joinPhase_good | apply good_foldl | split | intro _ | simp only [good_mk]))

@[simp] theorem State.joinToBoot_good {pd : List Instr} {s : State} (hs : Good pd s) : Good pd (State.joinToBoot s) := by
  unfold State.joinToBoot
  try dsimp only
  repeat' (first | (with_reducible first | assumption | apply State.toState_good | apply State.seqStop_good | apply State.joinPhase_good | apply State.initStore_good | apply State.restoreRetained_good | apply good_foldl | split))

@[simp] theorem State.takeLead_good {pd : List Instr} {s : State} (hs : Good pd s) : Good pd (State.takeLead s) := by
  unfold State.takeLead
  try dsimp only
  repeat' (first | (with_reducible first | assumption | apply State.driveLine_good | apply State.incSat_good | apply State.toState_good | apply State.seqStart_good | apply good_foldl | split))

@[simp] theorem State.dropLead_good {pd : List Instr} {s : State} (hs : Good pd s) : Good pd (State.dropLead s) := by
  unfold State.dropLead
  try dsimp only
  repeat' (first | (with_reducible first | assumption | apply State.toState_good))

@[simp] theorem State.standDown_good {pd : List Instr} {s : State} {cause : Nat} (hs : Good pd s) : Good pd (State.standDown s cause) := by
  unfold State.standDown
  try dsimp only
  repeat' (first | (with_reducible first | assumption | apply State.toState_good | apply State.seqStop_good | apply State.setReg_good | apply State.raise_good | apply State.logErr_good | apply State.recErr_good | apply State.fioApplyAll_good | apply State.loopSet_good | apply good_foldl | split | intro _ | simp only [good_mk]))

@[simp] theorem State.sdShow_good {pd : List Instr} {s : State} (hs : Good pd s) : Good pd (State.sdShow s) := by
  unfold State.sdShow
  try dsimp only
  repeat' (first | (with_reducible first | assumption | apply State.setReg_good | apply State.raise_good | apply State.recIrq_good | apply good_foldl | split | intro _ | simp only [good_mk]))

@[simp] theorem State.sdCause_good {pd : List Instr} {s : State} {cause : Nat} (hs : Good pd s) : Good pd (State.sdCause s cause) := by
  unfold State.sdCause
  try dsimp only
  repeat' (first | (with_reducible first | assumption | apply State.sdShow_good | apply good_foldl | split | intro _ | simp only [good_mk]))

@[simp] theorem State.sdLanes_good {pd : List Instr} {s : State} (hs : Good pd s) : Good pd (State.sdLanes s) := by
  unfold State.sdLanes
  try dsimp only
  repeat' (first | (with_reducible first | assumption | apply State.sdCause_good | apply State.setReg_good | apply good_foldl | split | intro _ | simp only [good_mk]))

@[simp] theorem State.testStep_good {pd : List Instr} {s : State} {n : Fin 16} (hs : Good pd s) : Good pd (State.testStep s n) := by
  unfold State.testStep
  try dsimp only
  repeat' (first | (with_reducible first | assumption | apply State.modLane_good | apply State.setFld_good | apply State.incWrap_good | apply good_foldl | split | intro _))

@[simp] theorem State.segFail_good {pd : List Instr} {s : State} {n : Fin 16} {pos : Nat} (hs : Good pd s) : Good pd (State.segFail s n pos) := by
  unfold State.segFail
  try dsimp only
  repeat' (first | (with_reducible first | assumption | apply State.incSat_good | apply State.setReg_good | apply State.raise_good | apply State.logErr_good | apply State.recErr_good))

@[simp] theorem State.testSegment_good {pd : List Instr} {s : State} {n : Fin 16} {res : SegResult} (hs : Good pd s) : Good pd (State.testSegment s n res) := by
  unfold State.testSegment
  try dsimp only
  repeat' (first | (with_reducible first | assumption | apply State.testStep_good | apply State.incWrap_good | apply State.incSat_good | apply State.segFail_good | apply State.mismatch_good | apply State.untrusted_good | apply good_foldl | split))

@[simp] theorem State.stickLane_good {pd : List Instr} {s : State} {p : Nat} (hs : Good pd s) : Good pd (State.stickLane s p) := by
  unfold State.stickLane
  try dsimp only
  repeat' (first | (with_reducible first | assumption | apply State.modLane_good | apply good_foldl | split | intro _))

@[simp] theorem State.reportWedge_good {pd : List Instr} {s : State} {p : Nat} (hs : Good pd s) : Good pd (State.reportWedge s p) := by
  unfold State.reportWedge
  try dsimp only
  repeat' (first | (with_reducible first | assumption | apply State.setFld_good | apply State.incSat_good | apply State.raise_good | apply State.logErr_good | apply State.recErr_good | apply good_foldl | split | intro _ | simp only [good_mk]))

@[simp] theorem State.stewardOnWedge_good {pd : List Instr} {s : State} {p : Nat} (hs : Good pd s) : Good pd (State.stewardOnWedge s p) := by
  unfold State.stewardOnWedge
  try dsimp only
  repeat' (first | (with_reducible first | assumption | apply State.event_good | apply good_foldl | split | intro _ | simp only [good_mk]))

@[simp] theorem blockWedged_good {pd : List Instr} {page : BitVec 8} {s : State} (hs : Good pd s) : Good pd (blockWedged page s) := by
  unfold blockWedged
  try dsimp only
  repeat' (first | (with_reducible first | assumption | apply State.waitOp_good | apply State.stickLane_good | apply State.reportWedge_good | apply State.stewardOnWedge_good | apply good_foldl | split))

@[simp] theorem tempWarn_good {pd : List Instr} {temp : BitVec 16} {s : State} (hs : Good pd s) : Good pd (tempWarn temp s) := by
  unfold tempWarn
  try dsimp only
  repeat' (first | (with_reducible first | assumption | apply State.setFld_good | apply State.raise_good | apply State.recIrq_good | apply good_foldl | split))

@[simp] theorem State.qualEvent_good {pd : List Instr} {s : State} {ev ofs : Nat} (hs : Good pd s) : Good pd (State.qualEvent s ev ofs) := by
  unfold State.qualEvent
  try dsimp only
  repeat' (first | (with_reducible first | assumption | apply State.imemPut_good | apply State.imemSet_good | apply good_foldl | split))

@[simp] theorem State.qualRange_good {pd : List Instr} {s : State} {ev ofs n : Nat} (hs : Good pd s) : Good pd (State.qualRange s ev ofs n) := by
  unfold State.qualRange
  try dsimp only
  repeat' (first | (with_reducible first | assumption | apply State.qualEvent_good | apply good_foldl | split | intro _))

@[simp] theorem State.setJobWord_good {pd : List Instr} {s : State} {n : Fin 16} {w : Word} (hs : Good pd s) : Good pd (State.setJobWord s n w) := by
  unfold State.setJobWord
  try dsimp only
  repeat' (first | (with_reducible first | assumption | apply State.writeMem_good))

@[simp] theorem State.laneRun_good {pd : List Instr} {s : State} {n : Fin 16} (hs : Good pd s) : Good pd (State.laneRun s n) := by
  unfold State.laneRun
  try dsimp only
  repeat' (first | (with_reducible first | assumption | apply State.setLane_good | apply State.setJobWord_good | apply State.modLane_good | apply good_foldl | split | intro _))

@[simp] theorem State.clearPly_good {pd : List Instr} {s : State} {n : Fin 16} (hs : Good pd s) : Good pd (State.clearPly s n) := by
  unfold State.clearPly
  try dsimp only
  repeat' (first | (with_reducible first | assumption | apply State.setFld_good | apply State.modLane_good | apply State.settleLane_good | apply good_foldl | split | intro _))

@[simp] theorem State.lateOutcome_good {pd : List Instr} {s : State} {n : Fin 16} {p : Ply} (hs : Good pd s) : Good pd (State.lateOutcome s n p) := by
  unfold State.lateOutcome
  try dsimp only
  repeat' (first | (with_reducible first | assumption | apply State.plyOutcome_good | apply State.endOfPly_good | apply good_foldl | split))

@[simp] theorem State.countLate_good {pd : List Instr} {s : State} {n : Fin 16} {p : Ply} (hs : Good pd s) : Good pd (State.countLate s n p) := by
  unfold State.countLate
  try dsimp only
  repeat' (first | (with_reducible first | assumption | apply State.lateOutcome_good | apply State.incSat_good | apply State.setReg_good | apply State.raise_good | apply State.modTask_good | apply State.spoil_good | apply good_foldl | split | intro _ | simp only [good_mk]))

@[simp] theorem State.abortPly_good {pd : List Instr} {s : State} {n : Fin 16} (hs : Good pd s) : Good pd (State.abortPly s n) := by
  unfold State.abortPly
  try dsimp only
  repeat' (first | (with_reducible first | assumption | apply State.countLate_good | apply State.clearPly_good | apply State.modLane_good | apply good_foldl | split | intro _))

@[simp] theorem State.dropPly_good {pd : List Instr} {s : State} {n : Fin 16} {e : Entry} (hs : Good pd s) : Good pd (State.dropPly s n e) := by
  unfold State.dropPly
  try dsimp only
  repeat' (first | (with_reducible first | assumption | apply State.incSat_good | apply State.raise_good | apply State.modTask_good | apply good_foldl | split | intro _ | simp only [good_mk]))

@[simp] theorem State.keepOriginal_good {pd : List Instr} {s : State} {n : Fin 16} {line : Nat} (hs : Good pd s) : Good pd (State.keepOriginal s n line) := by
  unfold State.keepOriginal
  try dsimp only
  repeat' (first | (with_reducible first | assumption | apply State.modLane_good | apply State.peak_good | apply good_foldl | split | intro _))

@[simp] theorem State.commitLine_good {pd : List Instr} {s : State} {n : Fin 16} {lg : WriteLog} {line : Nat} (hs : Good pd s) :
    Good pd (s.commitLine n lg line) := by
  unfold State.commitLine
  extract_lets a b
  clear_value a b
  exact ⟨hs.1, Memory.write_wf hs.2.1, hs.2.2⟩

@[simp] theorem State.noteCommit_good {pd : List Instr} {s : State} {n : Fin 16} {words : List Nat} (hs : Good pd s) : Good pd (State.noteCommit s n words) := by
  unfold State.noteCommit
  try dsimp only
  repeat' (first | (with_reducible first | assumption | apply good_foldl | split | intro _ | simp only [good_mk]))

@[simp] theorem State.commitWord_good {pd : List Instr} {s : State} {n : Fin 16} {lg : WriteLog} {ofs : Nat} (hs : Good pd s) : Good pd (State.commitWord s n lg ofs) := by
  unfold State.commitWord
  try dsimp only
  repeat' (first | (with_reducible first | assumption | apply State.imemSet_good | apply good_foldl | split | intro _ | simp only [good_mk]))

@[simp] theorem State.stageWord_good {pd : List Instr} {s : State} {n : Fin 16} {t : Fin 16} {lg : WriteLog} {ofs : Nat} (hs : Good pd s) : Good pd (State.stageWord s n t lg ofs) := by
  unfold State.stageWord
  try dsimp only
  repeat' (first | (with_reducible first | assumption | apply State.imemSet_good | apply State.modCtx_good | apply good_foldl | split))

@[simp] theorem State.publish_good {pd : List Instr} {s : State} {n : Fin 16} {e : Entry} (hs : Good pd s) : Good pd (State.publish s n e) := by
  unfold State.publish
  try dsimp only
  repeat' (first | (with_reducible first | assumption | apply State.keepOriginal_good | apply State.commitLine_good | apply State.stageWord_good | apply State.commitWord_good | apply State.touchLine_good | apply State.noteCommit_good | apply good_foldl | split | intro _))

@[simp] theorem State.commitPly_good {pd : List Instr} {s : State} {n : Fin 16} (hs : Good pd s) : Good pd (State.commitPly s n) := by
  unfold State.commitPly
  try dsimp only
  repeat' (first | (with_reducible first | assumption | apply State.endOfPly_good | apply State.publish_good | apply State.incWrap_good | apply State.clearPly_good | apply good_foldl | split))

@[simp] theorem State.trapSeen_good {pd : List Instr} {s : State} {n : Fin 16} (hs : Good pd s) : Good pd (State.trapSeen s n) := by
  unfold State.trapSeen
  try dsimp only
  repeat' (first | (with_reducible first | assumption | apply State.modTask_good | apply State.spoil_good | apply State.plyOutcome_good | apply State.modLane_good | apply good_foldl | split | intro _))

@[simp] theorem State.abortAll_good {pd : List Instr} {s : State} (hs : Good pd s) : Good pd (State.abortAll s) := by
  unfold State.abortAll
  try dsimp only
  repeat' (first | (with_reducible first | assumption | apply over16_good | apply State.abortPly_good))

@[simp] theorem State.moverQual_good {pd : List Instr} {s : State} {e : Entry} (hs : Good pd s) : Good pd (State.moverQual s e) := by
  unfold State.moverQual
  try dsimp only
  repeat' (first | (with_reducible first | assumption | apply State.modTask_good | apply State.qualRange_good | apply good_foldl | split | intro _ | simp only [good_mk]))

@[simp] theorem State.moverFault_good {pd : List Instr} {s : State} {x : MoverXfer} {cause addr : Nat} (hs : Good pd s) : Good pd (State.moverFault s x cause addr) := by
  unfold State.moverFault
  try dsimp only
  repeat' (first | (with_reducible first | assumption | apply State.setReg_good | apply State.setFld_good | apply State.incSat_good | apply State.raise_good | apply State.logErr_good | apply State.recErr_good | apply State.evidence_good | apply State.moverQual_good | apply State.sdCause_good | apply good_foldl | split | intro _ | simp only [good_mk]))

@[simp] theorem State.moverOverrun_good {pd : List Instr} {s : State} {x : MoverXfer} (hs : Good pd s) : Good pd (State.moverOverrun s x) := by
  unfold State.moverOverrun
  try dsimp only
  repeat' (first | (with_reducible first | assumption | apply State.raise_good | apply State.logErr_good | apply State.moverFault_good | apply good_foldl | split | intro _ | simp only [good_mk]))

@[simp] theorem State.stopMovers_good {pd : List Instr} {s : State} (hs : Good pd s) : Good pd (State.stopMovers s) := by
  unfold State.stopMovers
  try dsimp only
  repeat' (first | (with_reducible first | assumption | apply State.moverOverrun_good | apply good_foldl | split | intro _ | simp only [good_mk]))

@[simp] theorem State.onUnsync_good {pd : List Instr} {s : State} (hs : Good pd s) : Good pd (State.onUnsync s) := by
  unfold State.onUnsync
  try dsimp only
  repeat' (first | (with_reducible first | assumption | apply State.enterJoining_good | apply good_foldl | split))

@[simp] theorem State.toTb_good {pd : List Instr} {s : State} {st : TbState} (hs : Good pd s) : Good pd (State.toTb s st) := by
  unfold State.toTb
  try dsimp only
  repeat' (first | (with_reducible first | assumption | apply State.incSat_good | apply State.raise_good | apply State.onUnsync_good | apply good_foldl | split | intro _ | simp only [good_mk]))

@[simp] theorem State.countDisagree_good {pd : List Instr} {s : State} {n : Nat} (hs : Good pd s) : Good pd (State.countDisagree s n) := by
  unfold State.countDisagree
  try dsimp only
  repeat' (first | (with_reducible first | assumption | apply State.incSat_good | apply good_foldl | split | intro _))

@[simp] theorem State.corrValues_good {pd : List Instr} {s : State} (hs : Good pd s) : Good pd (State.corrValues s).1 := by
  unfold State.corrValues
  try dsimp only
  repeat' (first | (with_reducible first | assumption | apply State.logErr_good | apply State.raise_good | apply good_foldl | split))

@[simp] theorem State.uncorrected_good {pd : List Instr} {s : State} (hs : Good pd s) : Good pd (State.uncorrected s) := by
  unfold State.uncorrected
  try dsimp only
  repeat' (first | (with_reducible first | assumption | apply State.toTb_good | apply good_foldl | split | intro _ | simp only [good_mk]))

@[simp] theorem State.correctedState_good {pd : List Instr} {s : State} {d8 : Int} (hs : Good pd s) : Good pd (State.correctedState s d8) := by
  unfold State.correctedState
  try dsimp only
  repeat' (first | (with_reducible first | assumption | apply State.toTb_good | apply good_foldl | split | intro _ | simp only [good_mk]))

@[simp] theorem State.applyCorrection_good {pd : List Instr} {s : State} {d8 : Int} (hs : Good pd s) : Good pd (State.applyCorrection s d8) := by
  unfold State.applyCorrection
  try dsimp only
  repeat' (first | (with_reducible first | assumption | apply State.setReg_good | apply State.peak_good | apply State.raise_good | apply State.recIrq_good | apply State.toTb_good | apply State.correctedState_good | apply good_foldl | split | intro _ | simp only [good_mk]))

@[simp] theorem State.correct_good {pd : List Instr} {s : State} (hs : Good pd s) : Good pd (State.correct s) := by
  unfold State.correct
  try dsimp only
  repeat' (first | (with_reducible first | assumption | apply State.modTime_good | apply State.corrValues_good | apply State.countDisagree_good | apply State.setReg_good | apply State.uncorrected_good | apply State.raise_good | apply State.applyCorrection_good | apply good_foldl | split | intro _ | simp only [good_mk]))

@[simp] theorem syncCorrect_good {pd : List Instr} {s : State} (hs : Good pd s) : Good pd (syncCorrect s) := by
  unfold syncCorrect
  try dsimp only
  repeat' (first | (with_reducible first | assumption | apply State.onField_good | apply State.correct_good | apply State.toPip_good | apply good_foldl | split | intro _))

@[simp] theorem State.dropSlots_good {pd : List Instr} {s : State} (hs : Good pd s) : Good pd (State.dropSlots s) := by
  unfold State.dropSlots
  try dsimp only
  repeat' (first | (with_reducible first | assumption | apply State.setReg_good | apply State.modNet_good))

@[simp] theorem State.stepTime_good {pd : List Instr} {s : State} {gt : BitVec 96} {epoch : BitVec 64} {fresh : Bool} {st : TbState} (hs : Good pd s) : Good pd (State.stepTime s gt epoch fresh st) := by
  unfold State.stepTime
  try dsimp only
  repeat' (first | (with_reducible first | assumption | apply State.modTime_good | apply State.recIrq_good | apply State.abortAll_good | apply State.stopMovers_good | apply State.closeContexts_good | apply State.dropSlots_good | apply State.modSeqr_good | apply State.toTb_good))

@[simp] theorem State.makeStep_good {pd : List Instr} {s : State} (hs : Good pd s) : Good pd (State.makeStep s) := by
  unfold State.makeStep
  try dsimp only
  repeat' (first | (with_reducible first | assumption | apply State.advanceTo_good | apply State.countDisagree_good | apply State.stepTime_good | apply good_foldl | split))

@[simp] theorem timStepCmd_good {pd : List Instr} {value : Word} {s : State} (hs : Good pd s) : Good pd (timStepCmd value s) := by
  unfold timStepCmd
  try dsimp only
  repeat' (first | (with_reducible first | assumption | apply State.downError_good | apply State.refuse_good | apply State.modTime_good | apply good_foldl | split))

@[simp] theorem timExtOfsWrite_good {pd : List Instr} {value : Word} {s : State} (hs : Good pd s) : Good pd (timExtOfsWrite value s) := by
  unfold timExtOfsWrite
  try dsimp only
  repeat' (first | (with_reducible first | assumption | apply State.onPage_good | apply State.setReg_good | apply State.modTime_good | apply good_foldl | split | intro _))

@[simp] theorem timNowLoRead_good {pd : List Instr} {s : State} (hs : Good pd s) : Good pd (timNowLoRead s) := by
  unfold timNowLoRead
  try dsimp only
  repeat' (first | (with_reducible first | assumption | apply State.onPage_good | apply State.setReg_good | apply good_foldl | split | intro _))

@[simp] theorem State.cutPort_good {pd : List Instr} {s : State} {q : Nat} (hs : Good pd s) : Good pd (State.cutPort s q) := by
  unfold State.cutPort
  try dsimp only
  repeat' (first | (with_reducible first | assumption | apply good_foldl | split | intro _ | simp only [good_mk]))

@[simp] theorem State.bearPort_good {pd : List Instr} {s : State} {c p : Nat} (hs : Good pd s) : Good pd (State.bearPort s c p) := by
  unfold State.bearPort
  try dsimp only
  repeat' (first | (with_reducible first | assumption | apply State.cutPort_good | apply State.setFld_good | apply State.raise_good | apply State.logErr_good | apply State.recErr_good | apply State.sdCause_good | apply good_foldl | split))

@[simp] theorem State.portLost_good {pd : List Instr} {s : State} {c p : Nat} (hs : Good pd s) : Good pd (State.portLost s c p) := by
  unfold State.portLost
  try dsimp only
  repeat' (first | (with_reducible first | assumption | apply State.setFld_good | apply State.cutPort_good | apply State.incSat_good | apply State.raise_good | apply State.modNet_good | apply State.bearPort_good | apply good_foldl | split))

@[simp] theorem portDown_good {pd : List Instr} {ch : Chan} {port : Fin 4} {s : State} (hs : Good pd s) : Good pd (portDown ch port s) := by
  unfold portDown
  try dsimp only
  repeat' (first | (with_reducible first | assumption | apply State.portLost_good))

@[simp] theorem portUp_good {pd : List Instr} {ch : Chan} {port : Fin 4} {s : State} (hs : Good pd s) : Good pd (portUp ch port s) := by
  unfold portUp
  try dsimp only
  repeat' (first | (with_reducible first | assumption | apply State.setFld_good | apply State.raise_good | apply good_foldl | split))

@[simp] theorem retrain_good {pd : List Instr} {ch : Chan} {ports : BitVec 4} {s : State} (hs : Good pd s) : Good pd (retrain ch ports s) := by
  unfold retrain
  try dsimp only
  repeat' (first | (with_reducible first | assumption | apply State.downError_good | apply State.setFld_good | apply State.raise_good | apply State.refuse_good | apply good_foldl | split | intro _))

@[simp] theorem State.takeGrant_good {pd : List Instr} {s : State} {g : Grant} (hs : Good pd s) : Good pd (State.takeGrant s g) := by
  unfold State.takeGrant
  try dsimp only
  repeat' (first | (with_reducible first | assumption | apply State.modNet_good))

@[simp] theorem State.endGrant_good {pd : List Instr} {s : State} {slot : Nat} (hs : Good pd s) : Good pd (State.endGrant s slot) := by
  unfold State.endGrant
  try dsimp only
  repeat' (first | (with_reducible first | assumption | apply State.modNet_good | apply State.setReg_good | apply State.raise_good | apply State.recIrq_good | apply State.dunlySend_good | apply good_foldl | split))

@[simp] theorem State.refuseJoin_good {pd : List Instr} {s : State} {station : Nat} (hs : Good pd s) : Good pd (State.refuseJoin s station) := by
  unfold State.refuseJoin
  try dsimp only
  repeat' (first | (with_reducible first | assumption | apply State.incSat_good | apply State.raise_good | apply State.logErr_good | apply State.recErr_good))

@[simp] theorem State.joinRequest_good {pd : List Instr} {s : State} {t : Tables} {sender want : Nat} {rsn : Word} (hs : Good pd s) : Good pd (State.joinRequest s t sender want rsn) := by
  unfold State.joinRequest
  try dsimp only
  repeat' (first | (with_reducible first | assumption | apply State.modNet_good | apply State.refuseJoin_good | apply State.incWrap_good | apply State.raise_good | apply State.dunlySend_good | apply good_foldl | split))

@[simp] theorem State.showWindows_good {pd : List Instr} {s : State} {t : Tables} (hs : Good pd s) : Good pd (State.showWindows s t) := by
  unfold State.showWindows
  try dsimp only
  repeat' (first | (with_reducible first | assumption | apply State.setFld_good))

@[simp] theorem guardianWindowOpen_good {pd : List Instr} {idx : Nat} {s : State} (hs : Good pd s) : Good pd (guardianWindowOpen idx s) := by
  unfold guardianWindowOpen
  try dsimp only
  repeat' (first | (with_reducible first | assumption | apply State.toPip_good | apply State.modNet_good | apply State.showWindows_good | apply good_foldl | split))

@[simp] theorem State.guardBlock_good {pd : List Instr} {s : State} {q slot : Nat} (hs : Good pd s) : Good pd (State.guardBlock s q slot) := by
  unfold State.guardBlock
  try dsimp only
  repeat' (first | (with_reducible first | assumption | apply State.setFld_good | apply State.incSat_good | apply State.raise_good | apply State.logErr_good | apply State.recErr_good | apply State.modNet_good | apply State.bearPort_good | apply good_foldl | split))

@[simp] theorem State.cutOut_good {pd : List Instr} {s : State} {q : Nat} {start : BitVec 64} {n : Nat} (hs : Good pd s) : Good pd (State.cutOut s q start n) := by
  unfold State.cutOut
  try dsimp only
  repeat' (first | (with_reducible first | assumption | apply good_foldl | split | intro _ | simp only [good_mk]))

@[simp] theorem guardianWindowClose_good {pd : List Instr} {idx : Nat} {s : State} (hs : Good pd s) : Good pd (guardianWindowClose idx s) := by
  unfold guardianWindowClose
  try dsimp only
  repeat' (first | (with_reducible first | assumption | apply State.toPip_good | apply State.modNet_good | apply State.showWindows_good | apply State.cutOut_good | apply State.guardBlock_good | apply good_foldl | split | intro _))

end Sys2Proof.Machine
end

