-- ==== Sys2Proof/Laws/KeepPair.lean ====
section
/-! SUPPORT. The invariant `Good` through slots, cold start, the pair: every function that answers a state keeps it. -/

open Sys2Proof
namespace Sys2Proof.Machine

@[simp] theorem State.leaderFrame_good {pd : List Instr} {s : State} {t : Tables} {r : SlotRec} (hs : Good pd s) : Good pd (State.leaderFrame s t r).1 := by
  unfold State.leaderFrame
  try dsimp only
  repeat' (first | (with_reducible first | assumption | apply State.modNet_good | apply good_foldl | split))

@[simp] theorem State.formFrame_good {pd : List Instr} {s : State} {t : Tables} {r : SlotRec} {start : BitVec 64} (hs : Good pd s) : Good pd (State.formFrame s t r start).1 := by
  unfold State.formFrame
  try dsimp only
  repeat' (first | (with_reducible first | assumption | apply State.leaderFrame_good | apply State.modNet_good | apply good_foldl | split))

@[simp] theorem State.sendFrame_good {pd : List Instr} {s : State} {r : SlotRec} {run : SlotRun} {type dst : Nat} {payload : Bytes} (hs : Good pd s) : Good pd (State.sendFrame s r run type dst payload) := by
  unfold State.sendFrame
  try dsimp only
  repeat' (first | (with_reducible first | assumption | apply State.send_good | apply State.incWrap_good | apply State.setReg_good | apply State.modNet_good | apply good_foldl | split))

@[simp] theorem State.blockStart_good {pd : List Instr} {s : State} {r : SlotRec} (hs : Good pd s) : Good pd (State.blockStart s r) := by
  unfold State.blockStart
  try dsimp only
  repeat' (first | (with_reducible first | assumption | apply State.guardBlock_good | apply good_foldl | split))

@[simp] theorem State.openOwn_good {pd : List Instr} {s : State} {t : Tables} {r : SlotRec} {run : SlotRun} {late : Bool} (hs : Good pd s) :
    Good pd (s.openOwn t r run late) := by
  unfold State.openOwn
  dsimp only
  have h1 := State.setReg_good (k := Reg.bank r.slot Reg.mbsTsB) (v := 0) (State.setReg_good (k := Reg.bank r.slot Reg.mbsTsA) (v := 0)
    (State.modNet_good (f := fun n => { n with
      slots := putRun (n.slots.filter (fun x => x.slot != r.slot || x.isOpen)) { run with own := true } }) hs))
  split
  · exact h1
  · have h2 := State.formFrame_good (t := t) (r := r) (start := run.start) h1
    split <;> rename_i e <;> rw [e] at h2
    · exact h2
    · split
      · exact State.sendFrame_good h2
      · exact State.blockStart_good h2

@[simp] theorem State.noteStation_good {pd : List Instr} {s : State} {r : SlotRec} {rsn : Word} {landed : Bool} (hs : Good pd s) : Good pd (State.noteStation s r rsn landed) := by
  unfold State.noteStation
  try dsimp only
  repeat' (first | (with_reducible first | assumption | apply State.modNet_good | apply good_foldl | split))

@[simp] theorem State.openSlot_good {pd : List Instr} {s : State} {t : Tables} {e : Entry} {late : Bool} (hs : Good pd s) : Good pd (State.openSlot s t e late) := by
  unfold State.openSlot
  try dsimp only
  repeat' (first | (with_reducible first | assumption | apply State.openOwn_good | apply State.noteStation_good | apply State.modNet_good | apply good_foldl | split))

@[simp] theorem slotOpen_good {pd : List Instr} {idx : Nat} {s : State} (hs : Good pd s) : Good pd (slotOpen idx s) := by
  unfold slotOpen
  try dsimp only
  repeat' (first | (with_reducible first | assumption | apply State.onEntry_good | apply State.openSlot_good | apply State.toPip_good | apply good_foldl | split | intro _))

@[simp] theorem State.strayFrame_good {pd : List Instr} {s : State} {c : Nat} (hs : Good pd s) : Good pd (State.strayFrame s c) := by
  unfold State.strayFrame
  try dsimp only
  repeat' (first | (with_reducible first | assumption | apply State.incSat_good | apply State.raise_good))

@[simp] theorem State.takeFrame_good {pd : List Instr} {s : State} {c p : Nat} {ts : BitVec 64} {f : Bytes} (hs : Good pd s) : Good pd (State.takeFrame s c p ts f) := by
  unfold State.takeFrame
  try dsimp only
  repeat' (first | (with_reducible first | assumption | apply State.strayFrame_good | apply State.modNet_good | apply good_foldl | split | intro _))

@[simp] theorem State.toCold_good {pd : List Instr} {s : State} {st : Nat} (hs : Good pd s) : Good pd (State.toCold s st) := by
  unfold State.toCold
  try dsimp only
  repeat' (first | (with_reducible first | assumption | apply State.setFld_good | apply State.raise_good | apply good_foldl | split))

@[simp] theorem State.searchFrame_good {pd : List Instr} {s : State} {x : SyncRec} {j : Nat} {ch : Chan} {ts : BitVec 64} {f : Bytes} (hs : Good pd s) : Good pd (State.searchFrame s x j ch ts f) := by
  unfold State.searchFrame
  try dsimp only
  repeat' (first | (with_reducible first | assumption | apply State.modTime_good))

@[simp] theorem State.measureFrame_good {pd : List Instr} {s : State} {x : SyncRec} {t : Tables} {j : Nat} {ch : Chan} {ts : BitVec 64} (hs : Good pd s) : Good pd (State.measureFrame s x t j ch ts) := by
  unfold State.measureFrame
  try dsimp only
  repeat' (first | (with_reducible first | assumption | apply State.modTime_good))

@[simp] theorem State.attemptFrame_good {pd : List Instr} {s : State} {x : SyncRec} {t : Tables} {j : Nat} {ch : Chan} {ts : BitVec 64} {f : Bytes} (hs : Good pd s) : Good pd (State.attemptFrame s x t j ch ts f) := by
  unfold State.attemptFrame
  try dsimp only
  repeat' (first | (with_reducible first | assumption | apply State.modNet_good | apply State.searchFrame_good | apply good_foldl | split))

@[simp] theorem State.syncFrame_good {pd : List Instr} {s : State} {ch : Chan} {ts : BitVec 64} {f : Bytes} (hs : Good pd s) : Good pd (State.syncFrame s ch ts f) := by
  unfold State.syncFrame
  try dsimp only
  repeat' (first | (with_reducible first | assumption | apply State.modTime_good | apply State.searchFrame_good | apply State.toCold_good | apply State.measureFrame_good | apply State.attemptFrame_good | apply good_foldl | split))

@[simp] theorem State.hearFrame_good {pd : List Instr} {s : State} {f : Bytes} (hs : Good pd s) : Good pd (State.hearFrame s f) := by
  unfold State.hearFrame
  try dsimp only
  repeat' (first | (with_reducible first | assumption | apply State.setFld_good | apply State.modNet_good | apply good_foldl | split))

@[simp] theorem netRx_good {pd : List Instr} {ch : Chan} {port : Fin 4} {ts : BitVec 64} {f : Bytes} {s : State} (hs : Good pd s) : Good pd (netRx ch port ts f s) := by
  unfold netRx
  try dsimp only
  repeat' (first | (with_reducible first | assumption | apply State.advanceTo_good | apply State.strayFrame_good | apply State.incSat_good | apply State.hearFrame_good | apply State.syncFrame_good | apply State.takeFrame_good | apply good_foldl | split))

@[simp] theorem State.keepOutcome_good {pd : List Instr} {s : State} {t : Tables} {r : SlotRec} {run : SlotRun} {c : Nat} {l : List RxCopy} (hs : Good pd s) : Good pd (State.keepOutcome s t r run c l) := by
  unfold State.keepOutcome
  try dsimp only
  repeat' (first | (with_reducible first | assumption | apply State.setFld_good | apply State.setReg_good | apply State.incWrap_good | apply State.incSat_good | apply good_foldl | split))

@[simp] theorem State.forward_good {pd : List Instr} {s : State} {t : Tables} {r : SlotRec} {ch outcomes : Nat} {x : RxCopy} (hs : Good pd s) : Good pd (State.forward s t r ch outcomes x) := by
  unfold State.forward
  try dsimp only
  repeat' (first | (with_reducible first | assumption | apply State.dunlySend_good | apply State.modPair_good | apply good_foldl | split))

@[simp] theorem State.stationHeard_good {pd : List Instr} {s : State} {r : SlotRec} {rsn : Word} (hs : Good pd s) : Good pd (State.stationHeard s r rsn) := by
  unfold State.stationHeard
  try dsimp only
  repeat' (first | (with_reducible first | assumption | apply State.setFld_good | apply good_foldl | split))

@[simp] theorem State.chMismatch_good {pd : List Instr} {s : State} {slot : Nat} (hs : Good pd s) : Good pd (State.chMismatch s slot) := by
  unfold State.chMismatch
  try dsimp only
  repeat' (first | (with_reducible first | assumption | apply State.incSat_good | apply State.raise_good))

@[simp] theorem State.useValid_good {pd : List Instr} {s : State} {t : Tables} {r : SlotRec} {run : SlotRun} {ch outcomes : Nat} {x : RxCopy} (hs : Good pd s) : Good pd (State.useValid s t r run ch outcomes x) := by
  unfold State.useValid
  try dsimp only
  repeat' (first | (with_reducible first | assumption | apply State.stationHeard_good | apply State.noteStation_good | apply State.forward_good | apply State.incWrap_good | apply State.raise_good | apply State.joinRequest_good | apply State.takeGrant_good | apply good_foldl | split | intro _))

@[simp] theorem State.closeRun_good {pd : List Instr} {s : State} {t : Tables} {r : SlotRec} {run : SlotRun} (hs : Good pd s) : Good pd (State.closeRun s t r run) := by
  unfold State.closeRun
  try dsimp only
  repeat' (first | (with_reducible first | assumption | apply State.keepOutcome_good | apply State.noteStation_good | apply State.chMismatch_good | apply State.useValid_good | apply good_foldl | split))

@[simp] theorem slotClose_good {pd : List Instr} {slot : BitVec 16} {s : State} (hs : Good pd s) : Good pd (slotClose slot s) := by
  unfold slotClose
  try dsimp only
  repeat' (first | (with_reducible first | assumption | apply State.advanceTo_good | apply State.modNet_good | apply State.closeRun_good | apply good_foldl | split))

@[simp] theorem State.stationLost_good {pd : List Instr} {s : State} {k : Nat} (hs : Good pd s) : Good pd (State.stationLost s k) := by
  unfold State.stationLost
  try dsimp only
  repeat' (first | (with_reducible first | assumption | apply State.setFld_good | apply State.incSat_good | apply State.incWrap_good | apply State.raise_good | apply State.logErr_good | apply State.recErr_good | apply State.modNet_good | apply State.endGrant_good | apply good_foldl | split | intro _))

@[simp] theorem State.stationRound_good {pd : List Instr} {s : State} {k : Nat} {landed : Bool} (hs : Good pd s) : Good pd (State.stationRound s k landed) := by
  unfold State.stationRound
  try dsimp only
  repeat' (first | (with_reducible first | assumption | apply State.setFld_good | apply State.stationLost_good | apply State.modNet_good | apply State.raise_good | apply good_foldl | split))

@[simp] theorem State.stationsRound_good {pd : List Instr} {s : State} (hs : Good pd s) : Good pd (State.stationsRound s) := by
  unfold State.stationsRound
  try dsimp only
  repeat' (first | (with_reducible first | assumption | apply State.stationRound_good | apply State.modNet_good | apply good_foldl | split | intro _))

@[simp] theorem State.grantsRound_good {pd : List Instr} {s : State} (hs : Good pd s) : Good pd (State.grantsRound s) := by
  unfold State.grantsRound
  try dsimp only
  repeat' (first | (with_reducible first | assumption | apply State.modNet_good | apply State.endGrant_good | apply good_foldl | split | intro _))

@[simp] theorem State.clearCounts_good {pd : List Instr} {s : State} {k : Nat} (hs : Good pd s) : Good pd (State.clearCounts s k) := by
  unfold State.clearCounts
  try dsimp only
  repeat' (first | (with_reducible first | assumption | apply State.setReg_good | apply State.setFld_good))

@[simp] theorem mbsClrSlot_good {pd : List Instr} {s : State} (hs : Good pd s) : Good pd (mbsClrSlot s) := by
  unfold mbsClrSlot
  try dsimp only
  repeat' (first | (with_reducible first | assumption | apply State.onPage_good | apply State.clearCounts_good | apply good_foldl | split | intro _))

@[simp] theorem mbsClrAll_good {pd : List Instr} {s : State} (hs : Good pd s) : Good pd (mbsClrAll s) := by
  unfold mbsClrAll
  try dsimp only
  repeat' (first | (with_reducible first | assumption | apply State.downError_good | apply good_foldl | split | intro _ | simp only [good_mk]))

@[simp] theorem State.coldEdge_good {pd : List Instr} {s : State} (hs : Good pd s) : Good pd (State.coldEdge s).1 := by
  unfold State.coldEdge
  try dsimp only
  repeat' (first | (with_reducible first | assumption | apply State.advanceTo_good | apply good_foldl | split))

@[simp] theorem State.coldWait_good {pd : List Instr} {s : State} {ahead : Bool} (hs : Good pd s) : Good pd (State.coldWait s ahead) := by
  unfold State.coldWait
  try dsimp only
  repeat' (first | (with_reducible first | assumption | apply State.toCold_good | apply State.setFld_good | apply State.modNet_good))

@[simp] theorem coldListen_good {pd : List Instr} {s : State} (hs : Good pd s) : Good pd (coldListen s) := by
  unfold coldListen
  try dsimp only
  repeat' (first | (with_reducible first | assumption | apply State.coldEdge_good | apply State.coldWait_good | apply good_foldl | split))

@[simp] theorem State.beginAttempt_good {pd : List Instr} {s : State} {ahead : Bool} (hs : Good pd s) : Good pd (State.beginAttempt s ahead) := by
  unfold State.beginAttempt
  try dsimp only
  repeat' (first | (with_reducible first | assumption | apply State.toCold_good | apply State.incSat_good | apply State.setFld_good | apply State.modNet_good | apply State.raise_good | apply State.recIrq_good | apply good_foldl | split))

@[simp] theorem State.epochHere_good {pd : List Instr} {s : State} (hs : Good pd s) : Good pd (State.epochHere s) := by
  unfold State.epochHere
  try dsimp only
  repeat' (first | (with_reducible first | assumption | apply State.modTime_good | apply State.modSeqr_good | apply State.toTb_good | apply good_foldl | split))

@[simp] theorem State.epochStepped_good {pd : List Instr} {s : State} (hs : Good pd s) : Good pd (State.epochStepped s) := by
  unfold State.epochStepped
  try dsimp only
  repeat' (first | (with_reducible first | assumption | apply State.modTime_good | apply State.stepTime_good))

@[simp] theorem coldAttempt_good {pd : List Instr} {s : State} (hs : Good pd s) : Good pd (coldAttempt s) := by
  unfold coldAttempt
  try dsimp only
  repeat' (first | (with_reducible first | assumption | apply State.coldEdge_good | apply State.epochStepped_good | apply State.beginAttempt_good | apply State.epochHere_good | apply good_foldl | split))

@[simp] theorem coldAbandon_good {pd : List Instr} {s : State} (hs : Good pd s) : Good pd (coldAbandon s) := by
  unfold coldAbandon
  try dsimp only
  repeat' (first | (with_reducible first | assumption | apply State.coldEdge_good | apply State.incSat_good | apply State.toTb_good | apply State.modTime_good | apply State.coldWait_good | apply good_foldl | split))

@[simp] theorem coldDone_good {pd : List Instr} {s : State} (hs : Good pd s) : Good pd (coldDone s) := by
  unfold coldDone
  try dsimp only
  repeat' (first | (with_reducible first | assumption | apply State.coldEdge_good | apply State.toCold_good | apply good_foldl | split))

@[simp] theorem State.coldRound_good {pd : List Instr} {s : State} (hs : Good pd s) : Good pd (State.coldRound s) := by
  unfold State.coldRound
  try dsimp only
  repeat' (first | (with_reducible first | assumption | apply State.modNet_good | apply State.setFld_good | apply State.toCold_good | apply good_foldl | split))

@[simp] theorem State.atBoundary_good {pd : List Instr} {s : State} (hs : Good pd s) : Good pd (State.atBoundary s) := by
  unfold State.atBoundary
  try dsimp only
  repeat' (first | (with_reducible first | assumption | apply State.coldEdge_good))

@[simp] theorem State.showLead_good {pd : List Instr} {s : State} (hs : Good pd s) : Good pd (State.showLead s) := by
  unfold State.showLead
  try dsimp only
  repeat' (first | (with_reducible first | assumption | apply State.setFld_good | apply State.modNet_good))

@[simp] theorem State.bootNotes_good {pd : List Instr} {s : State} (hs : Good pd s) : Good pd (State.bootNotes s) := by
  unfold State.bootNotes
  try dsimp only
  repeat' (first | (with_reducible first | assumption | apply State.recIrq_good | apply State.modPair_good | apply good_foldl | split))

@[simp] theorem leadTake_good {pd : List Instr} {s : State} (hs : Good pd s) : Good pd (leadTake s) := by
  unfold leadTake
  try dsimp only
  repeat' (first | (with_reducible first | assumption | apply State.waitOp_good | apply State.takeLead_good | apply good_foldl | split))

@[simp] theorem joinEnter_good {pd : List Instr} {s : State} (hs : Good pd s) : Good pd (joinEnter s) := by
  unfold joinEnter
  try dsimp only
  repeat' (first | (with_reducible first | assumption | apply State.enterJoining_good | apply good_foldl | split))

@[simp] theorem partnerLineDead2ms_good {pd : List Instr} {s : State} (hs : Good pd s) : Good pd (partnerLineDead2ms s) := by
  unfold partnerLineDead2ms
  try dsimp only
  repeat' (first | (with_reducible first | assumption | apply State.waitOp_good | apply State.takeLead_good | apply leadTake_good | apply State.joinToBoot_good | apply good_foldl | split))

@[simp] theorem partnerLineChange_good {pd : List Instr} {live : Bool} {s : State} (hs : Good pd s) : Good pd (partnerLineChange live s) := by
  unfold partnerLineChange
  try dsimp only
  repeat' (first | (with_reducible first | assumption | apply State.setFld_good | apply State.raise_good | apply State.toState_good | apply State.bootNotes_good | apply good_foldl | split | intro _ | simp only [good_mk]))

@[simp] theorem yield_good {pd : List Instr} {s : State} (hs : Good pd s) : Good pd (yield s) := by
  unfold yield
  try dsimp only
  repeat' (first | (with_reducible first | assumption | apply State.incSat_good | apply State.raise_good | apply State.logErr_good | apply State.recErr_good | apply State.dropLead_good | apply State.releaseLine_good | apply good_foldl | split))

@[simp] theorem State.lineFalls_good {pd : List Instr} {s : State} (hs : Good pd s) : Good pd (State.lineFalls s) := by
  unfold State.lineFalls
  try dsimp only
  repeat' (first | (with_reducible first | assumption | apply good_foldl | split | intro _ | simp only [good_mk]))

@[simp] theorem readback_good {pd : List Instr} {s : State} (hs : Good pd s) : Good pd (readback s) := by
  unfold readback
  try dsimp only
  repeat' (first | (with_reducible first | assumption | apply State.incSat_good | apply State.raise_good | apply State.logErr_good | apply State.recErr_good | apply State.dropLead_good | apply State.releaseLine_good | apply good_foldl | split | intro _ | simp only [good_mk]))

@[simp] theorem State.toPulse_good {pd : List Instr} {s : State} (hs : Good pd s) : Good pd (State.toPulse s) := by
  unfold State.toPulse
  try dsimp only
  repeat' (first | (with_reducible first | assumption | apply State.toPip_good | apply State.waitOp_good | apply good_foldl | split))

@[simp] theorem leadPulse_good {pd : List Instr} {s : State} (hs : Good pd s) : Good pd (leadPulse s) := by
  unfold leadPulse
  try dsimp only
  repeat' (first | (with_reducible first | assumption | apply State.toPulse_good | apply State.lineFalls_good | apply State.modPair_good | apply State.send_good | apply good_foldl | split))

@[simp] theorem pairCmdLead_good {pd : List Instr} {s : State} (hs : Good pd s) : Good pd (pairCmdLead s) := by
  unfold pairCmdLead
  try dsimp only
  repeat' (first | (with_reducible first | assumption | apply State.downError_good | apply State.modPair_good | apply State.refuse_good | apply good_foldl | split))

@[simp] theorem pairCmdJoin_good {pd : List Instr} {s : State} (hs : Good pd s) : Good pd (pairCmdJoin s) := by
  unfold pairCmdJoin
  try dsimp only
  repeat' (first | (with_reducible first | assumption | apply State.downError_good | apply State.modPair_good | apply State.refuse_good | apply good_foldl | split))

@[simp] theorem pairCmdCastle_good {pd : List Instr} {s : State} (hs : Good pd s) : Good pd (pairCmdCastle s) := by
  unfold pairCmdCastle
  try dsimp only
  repeat' (first | (with_reducible first | assumption | apply State.downError_good | apply State.sendCastle_good | apply State.modPair_good | apply State.refuse_good | apply good_foldl | split))

@[simp] theorem pairCmdStandDown_good {pd : List Instr} {s : State} (hs : Good pd s) : Good pd (pairCmdStandDown s) := by
  unfold pairCmdStandDown
  try dsimp only
  repeat' (first | (with_reducible first | assumption | apply State.downError_good | apply State.standDown_good | apply State.refuse_good | apply good_foldl | split))

@[simp] theorem pairCmdBench_good {pd : List Instr} {s : State} (hs : Good pd s) : Good pd (pairCmdBench s) := by
  unfold pairCmdBench
  try dsimp only
  repeat' (first | (with_reducible first | assumption | apply State.downError_good | apply State.toState_good | apply State.refuse_good | apply good_foldl | split))

@[simp] theorem pairCmdAbortJoin_good {pd : List Instr} {s : State} (hs : Good pd s) : Good pd (pairCmdAbortJoin s) := by
  unfold pairCmdAbortJoin
  try dsimp only
  repeat' (first | (with_reducible first | assumption | apply State.downError_good | apply State.joinToBoot_good | apply State.refuse_good | apply good_foldl | split))

@[simp] theorem pairCmdResetPartner_good {pd : List Instr} {s : State} (hs : Good pd s) : Good pd (pairCmdResetPartner s) := by
  unfold pairCmdResetPartner
  try dsimp only
  repeat' (first | (with_reducible first | assumption | apply State.downError_good | apply State.dunlySend_good | apply State.refuse_good | apply good_foldl | split))

@[simp] theorem dxlLinkUp_good {pd : List Instr} {s : State} (hs : Good pd s) : Good pd (dxlLinkUp s) := by
  unfold dxlLinkUp
  try dsimp only
  repeat' (first | (with_reducible first | assumption | apply State.waitOp_good | apply State.setFld_good | apply State.raise_good | apply State.recIrq_good | apply State.modPair_good | apply State.enterJoining_good | apply State.sendJoinc_good | apply State.joinPhase_good | apply State.bootNotes_good | apply good_foldl | split))

@[simp] theorem State.abandonJoin_good {pd : List Instr} {s : State} {reason : Nat} (hs : Good pd s) : Good pd (State.abandonJoin s reason) := by
  unfold State.abandonJoin
  try dsimp only
  repeat' (first | (with_reducible first | assumption | apply State.logErr_good | apply State.recErr_good | apply State.raise_good | apply State.joinPhase_good | apply State.setFld_good))

@[simp] theorem State.linkLost_good {pd : List Instr} {s : State} (hs : Good pd s) : Good pd (State.linkLost s) := by
  unfold State.linkLost
  try dsimp only
  repeat' (first | (with_reducible first | assumption | apply State.toState_good | apply State.joinToBoot_good | apply State.abandonJoin_good | apply State.modPair_good | apply State.joinPhase_good | apply State.bootNotes_good | apply good_foldl | split))

@[simp] theorem State.showLock_good {pd : List Instr} {s : State} {lanes : BitVec 4} (hs : Good pd s) : Good pd (State.showLock s lanes) := by
  unfold State.showLock
  try dsimp only
  repeat' (first | (with_reducible first | assumption | apply State.setFld_good | apply State.modPair_good | apply good_foldl | split))

@[simp] theorem State.dropLink_good {pd : List Instr} {s : State} {lanes : BitVec 4} {health : Bool} (hs : Good pd s) : Good pd (State.dropLink s lanes health) := by
  unfold State.dropLink
  try dsimp only
  repeat' (first | (with_reducible first | assumption | apply State.showLock_good | apply State.setFld_good | apply State.incSat_good | apply State.logErr_good | apply State.recErr_good | apply State.raise_good | apply State.modPair_good | apply State.linkLost_good | apply good_foldl | split))

@[simp] theorem dxlLinkDown_good {pd : List Instr} {lanes : BitVec 4} {health : Bool} {s : State} (hs : Good pd s) : Good pd (dxlLinkDown lanes health s) := by
  unfold dxlLinkDown
  try dsimp only
  repeat' (first | (with_reducible first | assumption | apply State.advanceTo_good | apply State.dropLink_good | apply State.showLock_good | apply good_foldl | split))

@[simp] theorem State.partnerSeen_good {pd : List Instr} {s : State} {was block : Bytes} (hs : Good pd s) : Good pd (State.partnerSeen s was block) := by
  unfold State.partnerSeen
  try dsimp only
  repeat' (first | (with_reducible first | assumption | apply State.enterJoining_good | apply State.sendJoinc_good | apply State.joinPhase_good | apply good_foldl | split))

@[simp] theorem healthMsgRx_good {pd : List Instr} {lane : Fin 4} {msg : Bytes} {s : State} (hs : Good pd s) : Good pd (healthMsgRx lane msg s) := by
  unfold healthMsgRx
  try dsimp only
  repeat' (first | (with_reducible first | assumption | apply State.dunlyRx_good | apply State.dunlyBad_good | apply State.modPair_good | apply State.partnerSeen_good | apply good_foldl | split | intro _))

@[simp] theorem digestMsgRx_good {pd : List Instr} {lane : Fin 4} {msg : Bytes} {s : State} (hs : Good pd s) : Good pd (digestMsgRx lane msg s) := by
  unfold digestMsgRx
  try dsimp only
  repeat' (first | (with_reducible first | assumption | apply State.dunlyRx_good | apply State.modPair_good | apply good_foldl | split | intro _))

@[simp] theorem State.startCheck_good {pd : List Instr} {s : State} {since : Nat} (hs : Good pd s) : Good pd (State.startCheck s since) := by
  unfold State.startCheck
  try dsimp only
  repeat' (first | (with_reducible first | assumption | apply over16_good | apply State.modLane_good | apply State.modPair_good | apply good_foldl | split | intro _))

@[simp] theorem State.digestsDiffer_good {pd : List Instr} {s : State} {task : Nat} {since : Nat} (hs : Good pd s) : Good pd (State.digestsDiffer s task since) := by
  unfold State.digestsDiffer
  try dsimp only
  repeat' (first | (with_reducible first | assumption | apply State.incSat_good | apply State.setReg_good | apply State.raise_good | apply State.logErr_good | apply State.recErr_good | apply State.startCheck_good | apply good_foldl | split))

@[simp] theorem digestCompare_good {pd : List Instr} {idx : Nat} {s : State} (hs : Good pd s) : Good pd (digestCompare idx s) := by
  unfold digestCompare
  try dsimp only
  repeat' (first | (with_reducible first | assumption | apply State.toPip_good | apply State.modPair_good | apply State.incSat_good | apply State.incWrap_good | apply State.digestsDiffer_good | apply good_foldl | split))

@[simp] theorem State.checkOutcome_good {pd : List Instr} {s : State} (hs : Good pd s) : Good pd (State.checkOutcome s) := by
  unfold State.checkOutcome
  try dsimp only
  repeat' (first | (with_reducible first | assumption | apply State.modPair_good | apply State.incSat_good | apply State.enterJoining_good | apply State.standDown_good | apply State.recErr_good | apply good_foldl | split))

@[simp] theorem pairCheckEnd_good {pd : List Instr} {engine : Bool} {s : State} (hs : Good pd s) : Good pd (pairCheckEnd engine s) := by
  unfold pairCheckEnd
  try dsimp only
  repeat' (first | (with_reducible first | assumption | apply State.atBoundary_good | apply State.setFld_good | apply State.raise_good | apply State.logErr_good | apply State.recErr_good | apply State.sendCheck_good | apply State.modPair_good | apply State.checkOutcome_good | apply good_foldl | split))

@[simp] theorem checkMsgRx_good {pd : List Instr} {lane : Fin 4} {msg : Bytes} {s : State} (hs : Good pd s) : Good pd (checkMsgRx lane msg s) := by
  unfold checkMsgRx
  try dsimp only
  repeat' (first | (with_reducible first | assumption | apply State.dunlyRx_good | apply State.modPair_good | apply State.checkOutcome_good | apply good_foldl | split | intro _))

@[simp] theorem State.endCastle_good {pd : List Instr} {s : State} (hs : Good pd s) : Good pd (State.endCastle s) := by
  unfold State.endCastle
  try dsimp only
  repeat' (first | (with_reducible first | assumption | apply State.setFld_good | apply State.modPair_good))

@[simp] theorem castleOfferRx_good {pd : List Instr} {lane : Fin 4} {msg : Bytes} {s : State} (hs : Good pd s) : Good pd (castleOfferRx lane msg s) := by
  unfold castleOfferRx
  try dsimp only
  repeat' (first | (with_reducible first | assumption | apply State.dunlyRx_good | apply State.setFld_good | apply State.sendCastle_good | apply State.modPair_good | apply good_foldl | split | intro _))

@[simp] theorem castleTakeRx_good {pd : List Instr} {lane : Fin 4} {msg : Bytes} {s : State} (hs : Good pd s) : Good pd (castleTakeRx lane msg s) := by
  unfold castleTakeRx
  try dsimp only
  repeat' (first | (with_reducible first | assumption | apply State.dunlyRx_good | apply State.modPair_good | apply good_foldl | split | intro _))

@[simp] theorem castleCancelRx_good {pd : List Instr} {lane : Fin 4} {msg : Bytes} {s : State} (hs : Good pd s) : Good pd (castleCancelRx lane msg s) := by
  unfold castleCancelRx
  try dsimp only
  repeat' (first | (with_reducible first | assumption | apply State.dunlyRx_good | apply State.endCastle_good | apply good_foldl | split | intro _))

@[simp] theorem castleDeadline_good {pd : List Instr} {s : State} (hs : Good pd s) : Good pd (castleDeadline s) := by
  unfold castleDeadline
  try dsimp only
  repeat' (first | (with_reducible first | assumption | apply State.atBoundary_good | apply State.sendCastle_good | apply State.endCastle_good | apply good_foldl | split))

@[simp] theorem State.castleRound_good {pd : List Instr} {s : State} (hs : Good pd s) : Good pd (State.castleRound s) := by
  unfold State.castleRound
  try dsimp only
  repeat' (first | (with_reducible first | assumption | apply State.endCastle_good | apply State.sendCastle_good | apply State.lineFalls_good | apply State.send_good | apply good_foldl | split))

@[simp] theorem castleHandOff_good {pd : List Instr} {s : State} (hs : Good pd s) : Good pd (castleHandOff s) := by
  unfold castleHandOff
  try dsimp only
  repeat' (first | (with_reducible first | assumption | apply State.atBoundary_good | apply State.incSat_good | apply State.raise_good | apply State.endCastle_good | apply State.toState_good | apply State.showLead_good | apply good_foldl | split))

@[simp] theorem castleTakeLead_good {pd : List Instr} {s : State} (hs : Good pd s) : Good pd (castleTakeLead s) := by
  unfold castleTakeLead
  try dsimp only
  repeat' (first | (with_reducible first | assumption | apply State.toPip_good | apply State.endCastle_good | apply State.driveLine_good | apply State.atBoundary_good | apply State.incSat_good | apply State.raise_good | apply State.modPair_good | apply State.toState_good | apply State.showLead_good | apply good_foldl | split))

@[simp] theorem standDownTakeEffect_good {pd : List Instr} {s : State} (hs : Good pd s) : Good pd (standDownTakeEffect s) := by
  unfold standDownTakeEffect
  try dsimp only
  repeat' (first | (with_reducible first | assumption | apply State.atBoundary_good | apply State.standDown_good | apply State.sdShow_good | apply good_foldl | split))

@[simp] theorem grantMsgRx_good {pd : List Instr} {lane : Fin 4} {msg : Bytes} {s : State} (hs : Good pd s) : Good pd (grantMsgRx lane msg s) := by
  unfold grantMsgRx
  try dsimp only
  repeat' (first | (with_reducible first | assumption | apply State.dunlyRx_good | apply State.endGrant_good | apply State.takeGrant_good | apply good_foldl | split | intro _))

@[simp] theorem hostwRx_good {pd : List Instr} {lane : Fin 4} {msg : Bytes} {s : State} (hs : Good pd s) : Good pd (hostwRx lane msg s) := by
  unfold hostwRx
  try dsimp only
  repeat' (first | (with_reducible first | assumption | apply State.dunlyRx_good | apply State.modPair_good | apply good_foldl | split | intro _))

@[simp] theorem plantWriteApply_good {pd : List Instr} {s : State} (hs : Good pd s) : Good pd (plantWriteApply s) := by
  unfold plantWriteApply
  try dsimp only
  repeat' (first | (with_reducible first | assumption | apply State.atBoundary_good | apply State.modPair_good | apply State.storeWrite_good | apply good_foldl | split | intro _))

@[simp] theorem fiolRx_good {pd : List Instr} {lane : Fin 4} {msg : Bytes} {s : State} (hs : Good pd s) : Good pd (fiolRx lane msg s) := by
  unfold fiolRx
  try dsimp only
  repeat' (first | (with_reducible first | assumption | apply State.dunlyRx_good | apply State.keepLatch_good | apply good_foldl | split | intro _))

@[simp] theorem resetReqRx_good {pd : List Instr} {lane : Fin 4} {msg : Bytes} {s : State} (hs : Good pd s) : Good pd (resetReqRx lane msg s) := by
  unfold resetReqRx
  try dsimp only
  repeat' (first | (with_reducible first | assumption | apply State.dunlyRx_good | apply State.assertSource_good | apply State.recIrq_good | apply good_foldl | split | intro _))

@[simp] theorem State.takeForward_good {pd : List Instr} {s : State} {slot ch : Nat} {x : RxCopy} (hs : Good pd s) : Good pd (State.takeForward s slot ch x) := by
  unfold State.takeForward
  try dsimp only
  repeat' (first | (with_reducible first | assumption | apply State.modNet_good | apply State.chMismatch_good | apply State.stationHeard_good | apply State.noteStation_good | apply good_foldl | split))

theorem State.takeForwards_good {pd : List Instr} : ∀ {n : Nat} {b : Bytes} {s : State}, Good pd s → Good pd (s.takeForwards n b)
  | 0, _, _, h => h
  | n + 1, b, s, h => by
    unfold State.takeForwards
    split
    · exact h
    · exact State.takeForwards_good (State.takeForward_good h)

@[simp] theorem fwdRx_good {pd : List Instr} {lane : Fin 4} {msg : Bytes} {s : State} (hs : Good pd s) : Good pd (fwdRx lane msg s) :=
  State.dunlyRx_good hs fun _ _ _ h => State.takeForwards_good h

end Sys2Proof.Machine
end

