-- ==== Sys2Proof/Laws/KeepMemory.lean ====
section
/-! SUPPORT. The invariant `Good` through memory, movers, plies, fields, host messages, host ports, joining: every function that answers a state keeps it. -/

open Sys2Proof
namespace Sys2Proof.Machine

@[simp] theorem State.poisonAt_good {pd : List Instr} {s : State} {a : Nat} (hs : Good pd s) : Good pd (State.poisonAt s a) := by
  unfold State.poisonAt
  try dsimp only
  repeat' (first | (with_reducible first | assumption | apply good_foldl | split | intro _ | simp only [good_mk]))

@[simp] theorem State.sramError_good {pd : List Instr} {s : State} {a : Nat} (hs : Good pd s) : Good pd (State.sramError s a) := by
  unfold State.sramError
  try dsimp only
  repeat' (first | (with_reducible first | assumption | apply State.evidence_good | apply State.incSat_good | apply State.setReg_good | apply State.raise_good | apply State.logErr_good | apply State.recErr_good))

@[simp] theorem sramUncorr_good {pd : List Instr} {addr : BitVec 40} {s : State} (hs : Good pd s) : Good pd (sramUncorr addr s) := by
  unfold sramUncorr
  try dsimp only
  repeat' (first | (with_reducible first | assumption | apply State.sramError_good | apply State.poisonAt_good | apply State.imemPut_good | apply good_foldl | split))

@[simp] theorem State.repairCode_good {pd : List Instr} {s : State} {n : Fin 16} {ofs : Nat} (hs : Good pd s) : Good pd (State.repairCode s n ofs) := by
  unfold State.repairCode
  try dsimp only
  repeat' (first | (with_reducible first | assumption | apply State.writeMem_good | apply State.incSat_good | apply State.raise_good | apply good_foldl | split))

@[simp] theorem codeRepairDone_good {pd : List Instr} {addr : BitVec 40} {s : State} (hs : Good pd s) : Good pd (codeRepairDone addr s) := by
  unfold codeRepairDone
  try dsimp only
  repeat' (first | (with_reducible first | assumption | apply State.repairCode_good | apply good_foldl | split))

@[simp] theorem State.repairLane_good {pd : List Instr} {s : State} {n : Fin 16} (hs : Good pd s) : Good pd (State.repairLane s n) := by
  unfold State.repairLane
  try dsimp only
  repeat' (first | (with_reducible first | assumption | apply State.repairCode_good | apply good_foldl | split | intro _))

@[simp] theorem State.retirePage_good {pd : List Instr} {s : State} {page : Nat} (hs : Good pd s) : Good pd (State.retirePage s page) := by
  unfold State.retirePage
  try dsimp only
  repeat' (first | (with_reducible first | assumption | apply State.raise_good | apply State.recIrq_good | apply State.incSat_good | apply good_foldl | split | intro _ | simp only [good_mk]))

@[simp] theorem dramUncorr_good {pd : List Instr} {addr : BitVec 40} {s : State} (hs : Good pd s) : Good pd (dramUncorr addr s) := by
  unfold dramUncorr
  try dsimp only
  repeat' (first | (with_reducible first | assumption | apply State.evidence_good | apply State.incSat_good | apply State.setReg_good | apply State.raise_good | apply State.logErr_good | apply State.recErr_good | apply State.poisonAt_good | apply State.retirePage_good | apply good_foldl | split))

@[simp] theorem State.laneCorrected_good {pd : List Instr} {s : State} {lane : Option (Fin 16)} (hs : Good pd s) : Good pd (State.laneCorrected s lane) := by
  unfold State.laneCorrected
  try dsimp only
  repeat' (first | (with_reducible first | assumption | apply State.incSat_good | apply State.laneEcc_good | apply good_foldl | split))

@[simp] theorem State.dramCorrected_good {pd : List Instr} {s : State} {page : Nat} (hs : Good pd s) : Good pd (State.dramCorrected s page) := by
  unfold State.dramCorrected
  try dsimp only
  repeat' (first | (with_reducible first | assumption | apply State.incSat_good | apply State.retirePage_good | apply good_foldl | split | intro _ | simp only [good_mk]))

@[simp] theorem dramCorrectedError_good {pd : List Instr} {addr : BitVec 40} {lane : Option (Fin 16)} {s : State} (hs : Good pd s) : Good pd (dramCorrectedError addr lane s) := by
  unfold dramCorrectedError
  try dsimp only
  repeat' (first | (with_reducible first | assumption | apply State.dramCorrected_good | apply State.incSat_good | apply State.laneCorrected_good | apply good_foldl | split))

@[simp] theorem pageRetireDone_good {pd : List Instr} {s : State} (hs : Good pd s) : Good pd (pageRetireDone s) := by
  unfold pageRetireDone
  try dsimp only
  repeat' (first | (with_reducible first | assumption | apply State.setFld_good | apply State.raise_good | apply good_foldl | split | intro _ | simp only [good_mk]))

@[simp] theorem sramSweepEnd_good {pd : List Instr} {dram : Bool} {s : State} (hs : Good pd s) : Good pd (sramSweepEnd dram s) := by
  unfold sramSweepEnd
  try dsimp only
  repeat' (first | (with_reducible first | assumption | apply State.incWrap_good | apply good_foldl | split | intro _ | simp only [good_mk]))

@[simp] theorem regionWrite_good {pd : List Instr} {ofs : BitVec 12} {value : Word} {s : State} (hs : Good pd s) : Good pd (regionWrite ofs value s) := by
  unfold regionWrite
  try dsimp only
  repeat' (first | (with_reducible first | assumption | apply State.downError_good | apply State.refuse_good | apply good_foldl | split | intro _ | simp only [good_mk]))

@[simp] theorem regionTakeEffect_good {pd : List Instr} {s : State} (hs : Good pd s) : Good pd (regionTakeEffect s) := by
  unfold regionTakeEffect
  try dsimp only
  repeat' (first | (with_reducible first | assumption | apply State.atBoundary_good | apply State.setReg_good | apply State.setFld_good | apply State.logErr_good | apply good_foldl | split | intro _ | simp only [good_mk]))

@[simp] theorem State.tlbLookup_good {pd : List Instr} {s : State} {ctx vpage : Nat} (hs : Good pd s) : Good pd (State.tlbLookup s ctx vpage).1 := by
  unfold State.tlbLookup
  try dsimp only
  repeat' (first | (with_reducible first | assumption | apply State.incWrap_good | apply good_foldl | split | intro _ | simp only [good_mk]))

@[simp] theorem State.translate_good {pd : List Instr} {s : State} {ctx a : Nat} {write : Bool} (hs : Good pd s) : Good pd (State.translate s ctx a write).1 := by
  unfold State.translate
  try dsimp only
  repeat' (first | (with_reducible first | assumption | apply State.tlbLookup_good | apply good_foldl | split))

@[simp] theorem State.writeRoot_good {pd : List Instr} {s : State} {v : Word} (hs : Good pd s) : Good pd (State.writeRoot s v) := by
  unfold State.writeRoot
  try dsimp only
  repeat' (first | (with_reducible first | assumption | apply State.logErr_good | apply State.setReg_good | apply good_foldl | split))

@[simp] theorem mmuInv_good {pd : List Instr} {value : Word} {s : State} (hs : Good pd s) : Good pd (mmuInv value s) := by
  unfold mmuInv
  try dsimp only
  repeat' (first | (with_reducible first | assumption | apply State.downError_good | apply State.setFld_good | apply good_foldl | split | intro _ | simp only [good_mk]))

@[simp] theorem mmuInvDone_good {pd : List Instr} {s : State} (hs : Good pd s) : Good pd (mmuInvDone s) := by
  unfold mmuInvDone
  try dsimp only
  repeat' (first | (with_reducible first | assumption | apply State.setFld_good | apply State.raise_good | apply good_foldl | split))

@[simp] theorem State.moverBad_good {pd : List Instr} {s : State} {wb : Bool} {a : Nat} (hs : Good pd s) : Good pd (State.moverBad s wb a) := by
  unfold State.moverBad
  try dsimp only
  repeat' (first | (with_reducible first | assumption | apply State.sramError_good | apply dramUncorr_good | apply sramUncorr_good | apply good_foldl | split))

@[simp] theorem State.moverStore_good {pd : List Instr} {s : State} {e : Entry} {ofs : Nat} {b : Bytes} (hs : Good pd s) : Good pd (State.moverStore s e ofs b) := by
  unfold State.moverStore
  try dsimp only
  repeat' (first | (with_reducible first | assumption | apply State.storeWrite_good | apply State.modPair_good | apply State.migrateRange_good | apply State.writeMem_good | apply State.touchStore_good | apply good_foldl | split))

@[simp] theorem State.moverLine_good {pd : List Instr} {s : State} {e : Entry} {d : Nat} {ws : List (Word × BitVec 4)} (hs : Good pd s) : Good pd (State.moverLine s e d ws) := by
  unfold State.moverLine
  try dsimp only
  repeat' (first | (with_reducible first | assumption | apply State.imemSet_good | apply State.touchLine_good | apply State.modLane_good | apply State.writeMem_good | apply State.moverStore_good | apply good_foldl | split | intro _))

theorem State.copyLines_good {pd : List Instr} {e : Entry} {src dst : Nat} {limit : Option Nat} :
    ∀ {l : List (Nat × Nat)} {s : State}, Good pd s → Good pd (s.copyLines e src dst limit l).1
  | [], _, h => h
  | (o, n) :: r, s, h => by
    unfold State.copyLines
    split
    · exact h
    · split
      · exact h
      · exact State.copyLines_good (State.moverLine_good h)

@[simp] theorem State.runCopy_good {pd : List Instr} {s : State} {e : Entry} {limit : Option Nat} (hs : Good pd s) :
    Good pd (s.runCopy e limit).1 := by
  unfold State.runCopy
  split
  · exact hs
  · split
    · exact hs
    · exact State.copyLines_good hs

@[simp] theorem State.runLand_good {pd : List Instr} {s : State} {e : Entry} {limit : Option Nat} (hs : Good pd s) : Good pd (State.runLand s e limit).1 := by
  unfold State.runLand
  try dsimp only
  repeat' (first | (with_reducible first | assumption | apply State.modTask_good | apply State.imemSet_good | apply good_foldl | split | intro _))

@[simp] theorem State.runLoad_good {pd : List Instr} {s : State} {e : Entry} {limit : Option Nat} (hs : Good pd s) : Good pd (State.runLoad s e limit).1 := by
  unfold State.runLoad
  try dsimp only
  repeat' (first | (with_reducible first | assumption | apply State.modNet_good | apply good_foldl | split))

@[simp] theorem State.runMove_good {pd : List Instr} {s : State} {e : Entry} {limit : Option Nat} (hs : Good pd s) : Good pd (State.runMove s e limit).1 := by
  unfold State.runMove
  try dsimp only
  repeat' (first | (with_reducible first | assumption | apply State.runCopy_good | apply State.runLand_good | apply State.runLoad_good | apply good_foldl | split))

@[simp] theorem State.startMover_good {pd : List Instr} {s : State} {idx : Nat} {e : Entry} {limit : Option Nat} (hs : Good pd s) :
    Good pd (s.startMover idx e limit) := by
  unfold State.startMover
  extract_lets s1 s2 x
  have h1 : Good pd s1 := by
    unfold s1
    split
    · exact State.moverOverrun_good hs
    · exact hs
  have h2 : Good pd s2 := h1
  clear_value s2
  have h3 := State.runMove_good (e := e) (limit := limit) h2
  split <;> rename_i h <;> rw [h] at h3
  · exact h3
  · exact h3
  · exact State.moverBad_good (State.moverFault_good h3)

@[simp] theorem moveStart_good {pd : List Instr} {idx : Nat} {limit : Option Nat} {s : State} (hs : Good pd s) : Good pd (moveStart idx limit s) := by
  unfold moveStart
  try dsimp only
  repeat' (first | (with_reducible first | assumption | apply State.onEntry_good | apply State.startMover_good | apply good_foldl | split | intro _))

@[simp] theorem moveDeadline_good {pd : List Instr} {mover : Fin 8} {s : State} (hs : Good pd s) : Good pd (moveDeadline mover s) := by
  unfold moveDeadline
  try dsimp only
  repeat' (first | (with_reducible first | assumption | apply State.advanceTo_good | apply State.moverOverrun_good | apply good_foldl | split | intro _ | simp only [good_mk]))

@[simp] theorem boardMoverFault_good {pd : List Instr} {mover : Fin 8} {cause : BitVec 2} {addr : BitVec 40} {s : State} (hs : Good pd s) : Good pd (boardMoverFault mover cause addr s) := by
  unfold boardMoverFault
  try dsimp only
  repeat' (first | (with_reducible first | assumption | apply State.moverFault_good | apply State.moverBad_good | apply State.advanceTo_good | apply State.moverOverrun_good | apply good_foldl | split))

@[simp] theorem State.goPly_good {pd : List Instr} {s : State} {idx : Nat} {e : Entry} (hs : Good pd s) : Good pd (State.goPly s idx e) := by
  unfold State.goPly
  try dsimp only
  repeat' (first | (with_reducible first | assumption | apply State.setFld_good | apply State.modLane_good | apply good_foldl | split | intro _ | simp only [good_mk]))

@[simp] theorem State.goTest_good {pd : List Instr} {s : State} {n : Fin 16} {seg : SegResult} (hs : Good pd s) : Good pd (State.goTest s n seg) := by
  unfold State.goTest
  try dsimp only
  repeat' (first | (with_reducible first | assumption | apply State.testSegment_good | apply State.modLane_good | apply good_foldl | split | intro _))

@[simp] theorem State.conflict_good {pd : List Instr} {s : State} {e : Entry} {u : Nat} (hs : Good pd s) : Good pd (State.conflict s e u) := by
  unfold State.conflict
  try dsimp only
  repeat' (first | (with_reducible first | assumption | apply State.dropPly_good | apply State.spoil_good | apply State.raise_good | apply State.logErr_good))

@[simp] theorem State.dropEntry_good {pd : List Instr} {s : State} {e : Entry} (hs : Good pd s) : Good pd (State.dropEntry s e) := by
  unfold State.dropEntry
  try dsimp only
  repeat' (first | (with_reducible first | assumption | apply State.dropPly_good | apply State.spoil_good | apply good_foldl | split))

@[simp] theorem State.abortSave_good {pd : List Instr} {s : State} {n : Fin 16} (hs : Good pd s) : Good pd (State.abortSave s n) := by
  unfold State.abortSave
  try dsimp only
  repeat' (first | (with_reducible first | assumption | apply State.writeMem_good | apply State.takeFree_good | apply State.modLane_good | apply State.setFld_good | apply State.logErr_good | apply State.settleLane_good | apply good_foldl | split | intro _))

@[simp] theorem State.freeLane_good {pd : List Instr} {s : State} {n : Fin 16} (hs : Good pd s) : Good pd (State.freeLane s n) := by
  unfold State.freeLane
  try dsimp only
  repeat' (first | (with_reducible first | assumption | apply State.abortPly_good | apply State.abortSave_good | apply good_foldl | split))

@[simp] theorem State.issuePly_good {pd : List Instr} {s : State} {idx : Nat} {e : Entry} {seg : SegResult} (hs : Good pd s) : Good pd (State.issuePly s idx e seg) := by
  unfold State.issuePly
  try dsimp only
  repeat' (first | (with_reducible first | assumption | apply State.freeLane_good | apply State.conflict_good | apply State.goPly_good | apply State.dropEntry_good | apply State.goTest_good | apply good_foldl | split))

@[simp] theorem plyDispatch_good {pd : List Instr} {idx : Nat} {seg : SegResult} {s : State} (hs : Good pd s) : Good pd (plyDispatch idx seg s) := by
  unfold plyDispatch
  split
  · exact hs
  · split
    · exact hs
    · split
      · exact hs
      · have := State.issueEntry_good hs _ (by assumption)
        split
        · exact State.issuePly_good this
        · split
          · exact State.dropEntry_good this
          · exact this

@[simp] theorem plyReadyCommit_good {pd : List Instr} {lane : Fin 16} {s : State} (hs : Good pd s) : Good pd (plyReadyCommit lane s) := by
  unfold plyReadyCommit
  try dsimp only
  repeat' (first | (with_reducible first | assumption | apply State.abortPly_good | apply State.commitPly_good | apply good_foldl | split))

@[simp] theorem plyDeadlineAbort_good {pd : List Instr} {lane : Fin 16} {s : State} (hs : Good pd s) : Good pd (plyDeadlineAbort lane s) := by
  unfold plyDeadlineAbort
  try dsimp only
  repeat' (first | (with_reducible first | assumption | apply State.advanceTo_good | apply State.abortPly_good | apply good_foldl | split))

@[simp] theorem plyTrapSeen_good {pd : List Instr} {lane : Fin 16} {s : State} (hs : Good pd s) : Good pd (plyTrapSeen lane s) := by
  unfold plyTrapSeen
  try dsimp only
  repeat' (first | (with_reducible first | assumption | apply State.abortPly_good | apply State.trapSeen_good | apply good_foldl | split))

@[simp] theorem State.decideDue_good {pd : List Instr} {s : State} (hs : Good pd s) : Good pd (State.decideDue s) := by
  unfold State.decideDue
  try dsimp only
  repeat' (first | (with_reducible first | assumption | apply over16_good | apply State.abortPly_good | apply good_foldl | split | intro _))

@[simp] theorem commitEntry_good {pd : List Instr} {idx : Nat} {s : State} (hs : Good pd s) : Good pd (commitEntry idx s) := by
  unfold commitEntry
  try dsimp only
  repeat' (first | (with_reducible first | assumption | apply State.onEntry_good | apply State.decideDue_good | apply State.carryOut_good | apply State.modCtx_good | apply State.gmbShow_good | apply State.gmbReport_good | apply good_foldl | split | intro _))

@[simp] theorem rerunSelect_good {pd : List Instr} {idx : Nat} {s : State} (hs : Good pd s) : Good pd (rerunSelect idx s) := by
  unfold rerunSelect
  try dsimp only
  repeat' (first | (with_reducible first | assumption | apply State.toPip_good | apply State.modSeqr_good | apply good_foldl | split))

@[simp] theorem State.restoreJob_good {pd : List Instr} {s : State} {n : Fin 16} {start stop : BitVec 64} (hs : Good pd s) : Good pd (State.restoreJob s n start stop) := by
  unfold State.restoreJob
  try dsimp only
  repeat' (first | (with_reducible first | assumption | apply State.modLane_good | apply Lane.begin3_good | apply good_foldl | split | intro _ | simp only [good_mk]))

@[simp] theorem State.resumeJob_good {pd : List Instr} {s : State} {n : Fin 16} {start stop : BitVec 64} (hs : Good pd s) : Good pd (State.resumeJob s n start stop) := by
  unfold State.resumeJob
  try dsimp only
  repeat' (first | (with_reducible first | assumption | apply State.sramError_good | apply State.setJobWord_good | apply State.restoreJob_good | apply State.modLane_good | apply State.takeTrap_good | apply good_foldl | split | intro _))

@[simp] theorem bgResume_good {pd : List Instr} {idx : Nat} {s : State} (hs : Good pd s) : Good pd (bgResume idx s) := by
  unfold bgResume
  try dsimp only
  repeat' (first | (with_reducible first | assumption | apply State.onEntry_good | apply State.freeLane_good | apply State.resumeJob_good | apply good_foldl | split | intro _))

@[simp] theorem bgPreempt_good {pd : List Instr} {lane : Fin 16} {fault : Bool} {s : State} (hs : Good pd s) : Good pd (bgPreempt lane fault s) := by
  unfold bgPreempt
  try dsimp only
  repeat' (first | (with_reducible first | assumption | apply State.advanceTo_good | apply State.saveJob_good | apply State.setFld_good | apply State.modLane_good | apply good_foldl | split | intro _))

@[simp] theorem bgSaveAbort_good {pd : List Instr} {lane : Fin 16} {s : State} (hs : Good pd s) : Good pd (bgSaveAbort lane s) := by
  unfold bgSaveAbort
  try dsimp only
  repeat' (first | (with_reducible first | assumption | apply State.advanceTo_good | apply State.abortSave_good | apply good_foldl | split))

@[simp] theorem State.copyLocal_good {pd : List Instr} {s : State} {m : IomapRec} (hs : Good pd s) : Good pd (State.copyLocal s m) := by
  unfold State.copyLocal
  try dsimp only
  repeat' (first | (with_reducible first | assumption | apply State.imemSet_good | apply good_foldl | split))

@[simp] theorem State.noteLatch_good {pd : List Instr} {s : State} (hs : Good pd s) : Good pd (State.noteLatch s) := by
  unfold State.noteLatch
  try dsimp only
  repeat' (first | (with_reducible first | assumption | apply State.modPair_good | apply State.incSat_good | apply State.raise_good | apply good_foldl | split | intro _))

@[simp] theorem State.startTask_good {pd : List Instr} {s : State} {e : Entry} (hs : Good pd s) : Good pd (State.startTask s e) := by
  unfold State.startTask
  try dsimp only
  repeat' (first | (with_reducible first | assumption | apply State.noteLatch_good | apply State.copyLocal_good | apply State.modTask_good | apply State.modPair_good | apply good_foldl | split | intro _ | simp only [good_mk]))

@[simp] theorem taskStart_good {pd : List Instr} {idx : Nat} {s : State} (hs : Good pd s) : Good pd (taskStart idx s) := by
  unfold taskStart
  try dsimp only
  repeat' (first | (with_reducible first | assumption | apply State.onField_good | apply State.startTask_good))

@[simp] theorem State.qualSlot_good {pd : List Instr} {s : State} {t : Tables} {ev slot : Nat} (hs : Good pd s) : Good pd (State.qualSlot s t ev slot) := by
  unfold State.qualSlot
  try dsimp only
  repeat' (first | (with_reducible first | assumption | apply State.qualRange_good | apply good_foldl | split | intro _))

@[simp] theorem State.qualPeer_good {pd : List Instr} {s : State} {t : Tables} {slot twin : Nat} (hs : Good pd s) : Good pd (State.qualPeer s t slot twin) := by
  unfold State.qualPeer
  try dsimp only
  repeat' (first | (with_reducible first | assumption | apply State.qualEvent_good | apply good_foldl | split | intro _))

@[simp] theorem State.agreeSlot_good {pd : List Instr} {s : State} {t : Tables} {k : Fin 16} {r : SlotRec} (hs : Good pd s) : Good pd (State.agreeSlot s t k r) := by
  unfold State.agreeSlot
  try dsimp only
  repeat' (first | (with_reducible first | assumption | apply State.modNet_good | apply State.qualSlot_good | apply State.qualPeer_good | apply good_foldl | split))

@[simp] theorem agreeClose_good {pd : List Instr} {idx : Nat} {s : State} (hs : Good pd s) : Good pd (agreeClose idx s) := by
  unfold agreeClose
  try dsimp only
  repeat' (first | (with_reducible first | assumption | apply State.onField_good | apply State.agreeSlot_good | apply State.modTask_good | apply good_foldl | split | intro _))

@[simp] theorem State.qualUnwritten_good {pd : List Instr} {s : State} {ev : Nat} {r : TaskRec} (hs : Good pd s) : Good pd (State.qualUnwritten s ev r) := by
  unfold State.qualUnwritten
  try dsimp only
  repeat' (first | (with_reducible first | assumption | apply State.qualEvent_good | apply good_foldl | split | intro _))

@[simp] theorem State.endTask_good {pd : List Instr} {s : State} {e : Entry} (hs : Good pd s) : Good pd (State.endTask s e) := by
  unfold State.endTask
  try dsimp only
  repeat' (first | (with_reducible first | assumption | apply State.qualRange_good | apply State.qualUnwritten_good | apply State.modTask_good | apply State.modPair_good | apply State.modSeqr_good | apply State.modCtx_good | apply good_foldl | split))

@[simp] theorem taskEnd_good {pd : List Instr} {idx : Nat} {s : State} (hs : Good pd s) : Good pd (taskEnd idx s) := by
  unfold taskEnd
  try dsimp only
  repeat' (first | (with_reducible first | assumption | apply State.onField_good | apply State.endTask_good))

@[simp] theorem digest_good {pd : List Instr} {idx : Nat} {s : State} (hs : Good pd s) : Good pd (digest idx s) := by
  unfold digest
  try dsimp only
  repeat' (first | (with_reducible first | assumption | apply State.onField_good | apply State.modPair_good | apply State.dunlySend_good | apply good_foldl | split | intro _))

@[simp] theorem fioSample_good {pd : List Instr} {idx : Nat} {s : State} (hs : Good pd s) : Good pd (fioSample idx s) := by
  unfold fioSample
  try dsimp only
  repeat' (first | (with_reducible first | assumption | apply State.onField_good | apply State.modPair_good | apply State.keepLatch_good | apply State.dunlySend_good | apply good_foldl | split | intro _ | simp only [good_mk]))

@[simp] theorem State.refreshChannel_good {pd : List Instr} {s : State} {c : Fin 16} (hs : Good pd s) : Good pd (State.refreshChannel s c) := by
  unfold State.refreshChannel
  try dsimp only
  repeat' (first | (with_reducible first | assumption | apply State.modFio_good | apply State.setFld_good | apply State.fioApply_good | apply good_foldl | split))

@[simp] theorem fioRefresh_good {pd : List Instr} {idx : Nat} {s : State} (hs : Good pd s) : Good pd (fioRefresh idx s) := by
  unfold fioRefresh
  try dsimp only
  repeat' (first | (with_reducible first | assumption | apply State.onField_good | apply over16_good | apply State.refreshChannel_good | apply good_foldl | split | intro _))

@[simp] theorem State.sendHealth_good {pd : List Instr} {s : State} (hs : Good pd s) : Good pd (State.sendHealth s) := by
  unfold State.sendHealth
  try dsimp only
  repeat' (first | (with_reducible first | assumption | apply State.modPair_good | apply State.dunlySend_good))

@[simp] theorem healthXchg_good {pd : List Instr} {idx : Nat} {s : State} (hs : Good pd s) : Good pd (healthXchg idx s) := by
  unfold healthXchg
  try dsimp only
  repeat' (first | (with_reducible first | assumption | apply State.onField_good | apply State.sendHealth_good | apply State.loopSet_good | apply State.notify_good | apply good_foldl | split | intro _ | simp only [good_mk]))

@[simp] theorem State.hapDrop_good {pd : List Instr} {s : State} {d : Bytes} {n : Nat} (hs : Good pd s) : Good pd (State.hapDrop s d n) := by
  unfold State.hapDrop
  try dsimp only
  repeat' (first | (with_reducible first | assumption | apply State.incSat_good | apply State.raise_good | apply State.logErr_good | apply good_foldl | split | intro _ | simp only [good_mk]))

@[simp] theorem State.hapAccept_good {pd : List Instr} {s : State} {d : Bytes} (hs : Good pd s) : Good pd (State.hapAccept s d) := by
  unfold State.hapAccept
  try dsimp only
  repeat' (first | (with_reducible first | assumption | apply good_foldl | split | intro _ | simp only [good_mk]))

@[simp] theorem State.hapReply_good {pd : List Instr} {s : State} {m : HapMsg} {status firstBad : Nat} {body : Bytes} (hs : Good pd s) : Good pd (State.hapReply s m status firstBad body) := by
  unfold State.hapReply
  try dsimp only
  repeat' (first | (with_reducible first | assumption | apply State.hapSend_good))

@[simp] theorem State.hapIntake_good {pd : List Instr} {s : State} {src : HapSrc} {d : Bytes} {mine ok : HapMsg → Bool} {f : State → HapMsg → State} (hs : Good pd s) (hf : ∀ (y0 : State) (y1 : HapMsg), Good pd y0 → Good pd (f y0 y1)) : Good pd (State.hapIntake s src d mine ok f) := by
  unfold State.hapIntake
  try dsimp only
  repeat' (first | (with_reducible first | assumption | apply hf | apply State.hapDrop_good | apply State.hapAccept_good | apply State.hapReply_good | apply good_foldl | split | intro _ | simp only [good_mk]))

@[simp] theorem State.hapRow_good {pd : List Instr} {s : State} {src : HapSrc} {d : Bytes} {type : Nat} {f : State → HapMsg → State} (hs : Good pd s) (hf : ∀ (y0 : State) (y1 : HapMsg), Good pd y0 → Good pd (f y0 y1)) : Good pd (State.hapRow s src d type f) := by
  unfold State.hapRow
  try dsimp only
  repeat' (first | (with_reducible first | assumption | apply hf | apply State.hapIntake_good))

@[simp] theorem hapBusyTimeout_good {pd : List Instr} {src : HapSrc} {msg : Bytes} {s : State} (hs : Good pd s) : Good pd (hapBusyTimeout src msg s) := by
  unfold hapBusyTimeout
  try dsimp only
  repeat' (first | (with_reducible first | assumption | apply State.hapIntake_good | apply State.hapReply_good | apply good_foldl | split | intro _))

@[simp] theorem State.plantWrite_good {pd : List Instr} {s : State} {m : HapMsg} (hs : Good pd s) : Good pd (State.plantWrite s m) := by
  unfold State.plantWrite
  try dsimp only
  repeat' (first | (with_reducible first | assumption | apply State.hapReply_good | apply State.modPair_good | apply State.dunlySend_good | apply State.event_good | apply good_foldl | split))

@[simp] theorem hapPlantWrite_good {pd : List Instr} {src : HapSrc} {msg : Bytes} {s : State} (hs : Good pd s) : Good pd (hapPlantWrite src msg s) := by
  unfold hapPlantWrite
  try dsimp only
  repeat' (first | (with_reducible first | assumption | apply State.hapIntake_good | apply State.plantWrite_good))

@[simp] theorem State.setClaim_good {pd : List Instr} {s : State} {image : Bool} {c : Option Claim} (hs : Good pd s) : Good pd (State.setClaim s image c) := by
  unfold State.setClaim
  try dsimp only
  repeat' (first | (with_reducible first | assumption | apply good_foldl | split | intro _ | simp only [good_mk]))

@[simp] theorem State.putReasm_good {pd : List Instr} {s : State} {key : Nat} {xid : Word} {type : Nat} {r : Option Reasm} (hs : Good pd s) : Good pd (State.putReasm s key xid type r) := by
  unfold State.putReasm
  try dsimp only
  repeat' (first | (with_reducible first | assumption | apply good_foldl | split | intro _ | simp only [good_mk]))

@[simp] theorem State.chunkTake_good {pd : List Instr} {s : State} {image : Bool} {m : HapMsg} {c : Reasm} (hs : Good pd s) : Good pd (State.chunkTake s image m c) := by
  unfold State.chunkTake
  try dsimp only
  repeat' (first | (with_reducible first | assumption | apply State.writeMem_good | apply State.setClaim_good | apply State.putReasm_good | apply State.setReg_good | apply State.hapReply_good | apply good_foldl | split))

@[simp] theorem State.chunkAdmit_good {pd : List Instr} {s : State} {image : Bool} {m : HapMsg} (hs : Good pd s) : Good pd (State.chunkAdmit s image m) := by
  unfold State.chunkAdmit
  try dsimp only
  repeat' (first | (with_reducible first | assumption | apply State.hapReply_good | apply State.chunkTake_good | apply good_foldl | split))

@[simp] theorem State.touchClaim_good {pd : List Instr} {s : State} {image : Bool} {m : HapMsg} (hs : Good pd s) : Good pd (State.touchClaim s image m) := by
  unfold State.touchClaim
  try dsimp only
  repeat' (first | (with_reducible first | assumption | apply State.setClaim_good))

@[simp] theorem State.chunk_good {pd : List Instr} {s : State} {image : Bool} {m : HapMsg} (hs : Good pd s) : Good pd (State.chunk s image m) := by
  unfold State.chunk
  try dsimp only
  repeat' (first | (with_reducible first | assumption | apply State.touchClaim_good | apply State.hapReply_good | apply State.incSat_good | apply State.chunkAdmit_good | apply good_foldl | split | intro _ | simp only [good_mk]))

@[simp] theorem boardChunk_good {pd : List Instr} {src : HapSrc} {msg : Bytes} {s : State} (hs : Good pd s) : Good pd (boardChunk src msg s) := by
  unfold boardChunk
  try dsimp only
  repeat' (first | (with_reducible first | assumption | apply State.hapRow_good | apply State.chunk_good | apply good_foldl | split | intro _))

@[simp] theorem updateChunk_good {pd : List Instr} {src : HapSrc} {msg : Bytes} {s : State} (hs : Good pd s) : Good pd (updateChunk src msg s) := by
  unfold updateChunk
  try dsimp only
  repeat' (first | (with_reducible first | assumption | apply State.hapRow_good | apply State.chunk_good | apply good_foldl | split | intro _))

@[simp] theorem reassemblyTimeout_good {pd : List Instr} {key : BitVec 8} {xid : Word} {s : State} (hs : Good pd s) : Good pd (reassemblyTimeout key xid s) := by
  unfold reassemblyTimeout
  try dsimp only
  repeat' (first | (with_reducible first | assumption | apply State.waitOp_good | apply State.putReasm_good | apply State.incSat_good | apply State.raise_good | apply State.hapSend_good | apply good_foldl | split | intro _ | simp only [good_mk]))

@[simp] theorem stagingClaimTimeout_good {pd : List Instr} {image : Bool} {s : State} (hs : Good pd s) : Good pd (stagingClaimTimeout image s) := by
  unfold stagingClaimTimeout
  try dsimp only
  repeat' (first | (with_reducible first | assumption | apply State.waitOp_good | apply State.setClaim_good | apply good_foldl | split))

@[simp] theorem State.recSegments_good {pd : List Instr} {s : State} {m : HapMsg} {r : ReadRun} (hs : Good pd s) : Good pd (State.recSegments s m r) := by
  unfold State.recSegments
  try dsimp only
  repeat' (first | (with_reducible first | assumption | apply State.hapSend_good | apply good_foldl | split | intro _))

@[simp] theorem recRead_good {pd : List Instr} {src : HapSrc} {msg : Bytes} {s : State} (hs : Good pd s) : Good pd (recRead src msg s) := by
  unfold recRead
  try dsimp only
  repeat' (first | (with_reducible first | assumption | apply State.hapRow_good | apply State.hapReply_good | apply State.setReg_good | apply State.raise_good | apply State.recSegments_good | apply good_foldl | split | intro _))

@[simp] theorem resetArm_good {pd : List Instr} {src : HapSrc} {msg : Bytes} {s : State} (hs : Good pd s) : Good pd (resetArm src msg s) := by
  unfold resetArm
  try dsimp only
  repeat' (first | (with_reducible first | assumption | apply State.hapRow_good | apply State.hapReply_good | apply State.setReg_good | apply State.raise_good | apply good_foldl | split | intro _ | simp only [good_mk]))

@[simp] theorem resetFire_good {pd : List Instr} {src : HapSrc} {msg : Bytes} {s : State} (hs : Good pd s) : Good pd (resetFire src msg s) := by
  unfold resetFire
  try dsimp only
  repeat' (first | (with_reducible first | assumption | apply State.hapRow_good | apply State.hapReply_good | apply State.setReg_good | apply good_foldl | split | intro _ | simp only [good_mk]))

@[simp] theorem hapResetAssert_good {pd : List Instr} {s : State} (hs : Good pd s) : Good pd (hapResetAssert s) := by
  unfold hapResetAssert
  try dsimp only
  repeat' (first | (with_reducible first | assumption | apply State.waitOp_good | apply State.assertSource_good | apply good_foldl | split | intro _ | simp only [good_mk]))

@[simp] theorem resetArmLapse_good {pd : List Instr} {s : State} (hs : Good pd s) : Good pd (resetArmLapse s) := by
  unfold resetArmLapse
  try dsimp only
  repeat' (first | (with_reducible first | assumption | apply State.waitOp_good | apply State.setReg_good | apply good_foldl | split))

@[simp] theorem State.keyCmd_good {pd : List Instr} {s : State} {value : Word} {hapKey : Option (BitVec 8)} {op : Nat}
    {f : State → Fin 8 → Option State} (hs : Good pd s) (hf : ∀ s n t, Good pd s → f s n = some t → Good pd t) :
    Good pd (s.keyCmd value hapKey op f) := by
  unfold State.keyCmd
  extract_lets n b
  clear_value b
  split
  · exact State.downError_good hs
  split
  · exact hs
  · split
    · exact State.logErr_good hs
    · split
      · exact State.refuse_good hs
      · exact State.event_good (State.raise_good (hf _ _ _ hs (by assumption)))

@[simp] theorem hapKeyStore_good {pd : List Instr} {value : Word} {hapKey : Option (BitVec 8)} {s : State} (hs : Good pd s) :
    Good pd (hapKeyStore value hapKey s) := by
  unfold hapKeyStore
  refine State.keyCmd_good hs fun s n t h e => ?_
  cases e; exact State.setFld_good (State.setFld_good (s := { s with host := _ }) h)

@[simp] theorem hapKeyEnable_good {pd : List Instr} {value : Word} {hapKey : Option (BitVec 8)} {s : State} (hs : Good pd s) :
    Good pd (hapKeyEnable value hapKey s) := by
  unfold hapKeyEnable
  refine State.keyCmd_good hs fun s n t h e => ?_
  split at e <;> cases e; exact State.setFld_good h

@[simp] theorem hapKeyDisable_good {pd : List Instr} {value : Word} {hapKey : Option (BitVec 8)} {s : State} (hs : Good pd s) :
    Good pd (hapKeyDisable value hapKey s) := by
  unfold hapKeyDisable
  refine State.keyCmd_good hs fun s n t h e => ?_
  cases e; exact State.setFld_good h

@[simp] theorem hapKeyErase_good {pd : List Instr} {value : Word} {hapKey : Option (BitVec 8)} {s : State} (hs : Good pd s) :
    Good pd (hapKeyErase value hapKey s) := by
  unfold hapKeyErase
  refine State.keyCmd_good hs fun s n t h e => ?_
  cases e; exact State.setFld_good (State.setFld_good (s := { s with host := _ }) h)

@[simp] theorem hapCtrLoRead_good {pd : List Instr} {s : State} (hs : Good pd s) : Good pd (hapCtrLoRead s) := by
  unfold hapCtrLoRead
  try dsimp only
  repeat' (first | (with_reducible first | assumption | apply State.onPage_good | apply State.setReg_good | apply good_foldl | split | intro _))

@[simp] theorem State.sendHost_good {pd : List Instr} {s : State} {p : Nat} {frame : Bytes} (hs : Good pd s) : Good pd (State.sendHost s p frame) := by
  unfold State.sendHost
  try dsimp only
  repeat' (first | (with_reducible first | assumption | apply State.send_good | apply good_foldl | split))

@[simp] theorem State.learn_good {pd : List Instr} {s : State} {p : Nat} {frame : Bytes} (hs : Good pd s) : Good pd (State.learn s p frame) := by
  unfold State.learn
  try dsimp only
  repeat' (first | (with_reducible first | assumption | apply good_foldl | split | intro _ | simp only [good_mk]))

@[simp] theorem State.switchFrame_good {pd : List Instr} {s : State} {p : Nat} {frame : Bytes} {out : Nat → Bytes} (hs : Good pd s) : Good pd (State.switchFrame s p frame out) := by
  unfold State.switchFrame
  try dsimp only
  repeat' (first | (with_reducible first | assumption | apply State.learn_good | apply State.sendHost_good | apply good_foldl | split | intro _))

@[simp] theorem hostLinkChange_good {pd : List Instr} {port : Fin 2} {link : BitVec 2} {s : State} (hs : Good pd s) : Good pd (hostLinkChange port link s) := by
  unfold hostLinkChange
  try dsimp only
  repeat' (first | (with_reducible first | assumption | apply State.setFld_good | apply State.incSat_good | apply State.raise_good | apply good_foldl | split))

@[simp] theorem State.stamp__good {pd : List Instr} {s : State} {x : PtpStamp} (hs : Good pd s) : Good pd (State.stamp_ s x) := by
  unfold State.stamp_
  try dsimp only
  repeat' (first | (with_reducible first | assumption | apply State.raise_good | apply State.incSat_good | apply State.logErr_good | apply good_foldl | split | intro _ | simp only [good_mk]))

@[simp] theorem State.stampEvent_good {pd : List Instr} {s : State} {f : Bytes} {port : Nat} {tx : Bool} {ts : BitVec 64} (hs : Good pd s) : Good pd (State.stampEvent s f port tx ts) := by
  unfold State.stampEvent
  try dsimp only
  repeat' (first | (with_reducible first | assumption | apply State.stamp__good | apply good_foldl | split))

@[simp] theorem State.delayResp_good {pd : List Instr} {s : State} {p : Nat} {f : Bytes} (hs : Good pd s) : Good pd (State.delayResp s p f) := by
  unfold State.delayResp
  try dsimp only
  repeat' (first | (with_reducible first | assumption | apply good_foldl | split | intro _ | simp only [good_mk]))

@[simp] theorem State.delayReq_good {pd : List Instr} {s : State} (hs : Good pd s) : Good pd (State.delayReq s) := by
  unfold State.delayReq
  try dsimp only
  repeat' (first | (with_reducible first | assumption | apply State.send_good | apply State.stamp__good | apply good_foldl | split | intro _ | simp only [good_mk]))

@[simp] theorem State.slaveSync_good {pd : List Instr} {s : State} {ts : BitVec 64} {m : SyncMsg} (hs : Good pd s) : Good pd (State.slaveSync s ts m) := by
  unfold State.slaveSync
  try dsimp only
  repeat' (first | (with_reducible first | assumption | apply timExtOfsWrite_good | apply State.takeFree_good | apply State.delayReq_good | apply good_foldl | split | intro _ | simp only [good_mk]))

@[simp] theorem switchFrameForward_good {pd : List Instr} {port : Fin 3} {frame : Bytes} {s : State} (hs : Good pd s) : Good pd (switchFrameForward port frame s) := by
  unfold switchFrameForward
  try dsimp only
  repeat' (first | (with_reducible first | assumption | apply State.learn_good | apply State.switchFrame_good | apply State.stampEvent_good | apply State.delayResp_good | apply good_foldl | split | intro _))

@[simp] theorem ptpTcCorrect_good {pd : List Instr} {inPort : Fin 2} {ingress egress : BitVec 64} {frame : Bytes} {s : State} (hs : Good pd s) : Good pd (ptpTcCorrect inPort ingress egress frame s) := by
  unfold ptpTcCorrect
  try dsimp only
  repeat' (first | (with_reducible first | assumption | apply State.learn_good | apply State.switchFrame_good | apply State.incWrap_good | apply State.stampEvent_good | apply State.delayResp_good | apply good_foldl | split))

@[simp] theorem ptpSyncRx_good {pd : List Instr} {port : Fin 2} {seqId : BitVec 16} {ts : BitVec 64} {m : SyncMsg} {utc : BitVec 16} {s : State} (hs : Good pd s) : Good pd (ptpSyncRx port seqId ts m utc s) := by
  unfold ptpSyncRx
  try dsimp only
  repeat' (first | (with_reducible first | assumption | apply State.stamp__good | apply State.slaveSync_good | apply State.setReg_good | apply good_foldl | split))

@[simp] theorem ptpStateChange_good {pd : List Instr} {port : Fin 2} {st : PtpState} {clockId : BitVec 64} {s : State} (hs : Good pd s) : Good pd (ptpStateChange port st clockId s) := by
  unfold ptpStateChange
  try dsimp only
  repeat' (first | (with_reducible first | assumption | apply State.event_good | apply good_foldl | split | intro _ | simp only [good_mk]))

@[simp] theorem hstTsPop_good {pd : List Instr} {s : State} (hs : Good pd s) : Good pd (hstTsPop s) := by
  unfold hstTsPop
  try dsimp only
  repeat' (first | (with_reducible first | assumption | apply State.onPage_good | apply good_foldl | split | intro _ | simp only [good_mk]))

@[simp] theorem arpNdIcmpRx_good {pd : List Instr} {port : Fin 2} {frame : Bytes} {s : State} (hs : Good pd s) : Good pd (arpNdIcmpRx port frame s) := by
  unfold arpNdIcmpRx
  try dsimp only
  repeat' (first | (with_reducible first | assumption | apply State.learn_good | apply State.takeFree_good | apply State.sendHost_good | apply good_foldl | split))

@[simp] theorem stwWdtKick_good {pd : List Instr} {hap : Bool} {value : Word} {s : State} (hs : Good pd s) : Good pd (stwWdtKick hap value s) := by
  unfold stwWdtKick
  try dsimp only
  repeat' (first | (with_reducible first | assumption | apply State.downError_good | apply State.refuse_good | apply State.wdtStart_good | apply good_foldl | split))

@[simp] theorem State.wdtWarn_good {pd : List Instr} {s : State} (hs : Good pd s) : Good pd (State.wdtWarn s) := by
  unfold State.wdtWarn
  try dsimp only
  repeat' (first | (with_reducible first | assumption | apply State.raise_good | apply good_foldl | split | intro _ | simp only [good_mk]))

@[simp] theorem stewardWatchdogExpiry_good {pd : List Instr} {s : State} (hs : Good pd s) : Good pd (stewardWatchdogExpiry s) := by
  unfold stewardWatchdogExpiry
  try dsimp only
  repeat' (first | (with_reducible first | assumption | apply State.waitOp_good | apply State.wdtWarn_good | apply State.assertSource_good | apply good_foldl | split))

@[simp] theorem authSummary_good {pd : List Instr} {s : State} (hs : Good pd s) : Good pd (authSummary s) := by
  unfold authSummary
  try dsimp only
  repeat' (first | (with_reducible first | assumption | apply State.waitOp_good | apply State.event_good | apply good_foldl | split | intro _ | simp only [good_mk]))

@[simp] theorem State.joinReason_good {pd : List Instr} {s : State} {phase reason : Nat} (hs : Good pd s) : Good pd (State.joinReason s phase reason) := by
  unfold State.joinReason
  try dsimp only
  repeat' (first | (with_reducible first | assumption | apply State.joinPhase_good | apply State.setFld_good))

@[simp] theorem State.answerJoin_good {pd : List Instr} {s : State} (hs : Good pd s) : Good pd (State.answerJoin s) := by
  unfold State.answerJoin
  try dsimp only
  repeat' (first | (with_reducible first | assumption | apply State.sendJoinc_good | apply State.joinReason_good | apply State.modPair_good | apply State.joinPhase_good | apply State.setFld_good | apply good_foldl | split))

@[simp] theorem joincRequestRx_good {pd : List Instr} {lane : Fin 4} {msg : Bytes} {s : State} (hs : Good pd s) : Good pd (joincRequestRx lane msg s) := by
  unfold joincRequestRx
  try dsimp only
  repeat' (first | (with_reducible first | assumption | apply State.dunlyRx_good | apply State.modPair_good | apply State.answerJoin_good | apply good_foldl | split | intro _))

@[simp] theorem State.sendTables_good {pd : List Instr} {s : State} (hs : Good pd s) : Good pd (State.sendTables s) := by
  unfold State.sendTables
  try dsimp only
  repeat' (first | (with_reducible first | assumption | apply State.sendUnit_good | apply good_foldl | split | intro _))

theorem State.sendPasses_good {pd : List Instr} : ∀ {n left : Nat} {s : State}, Good pd s → Good pd (s.sendPasses n left)
  | 0, _, _, h => h
  | n + 1, left, s, h => by
    unfold State.sendPasses
    split
    · exact h
    · split
      · split
        · exact h
        · exact State.sendPasses_good (State.setFld_good (State.modPair_good h))
      · dsimp only
        split
        · exact h
        · exact State.sendPasses_good (State.modPair_good (State.sendUnit_good h))

@[simp] theorem State.xferWork_good {pd : List Instr} {s : State} (hs : Good pd s) : Good pd s.xferWork :=
  State.sendPasses_good (State.sendTables_good hs)

@[simp] theorem State.xferRound_good {pd : List Instr} {s : State} (hs : Good pd s) : Good pd (State.xferRound s) := by
  unfold State.xferRound
  try dsimp only
  repeat' (first | (with_reducible first | assumption | apply State.answerJoin_good | apply State.sendJoinc_good | apply State.modPair_good | apply State.joinPhase_good | apply State.raise_good | apply State.xferWork_good | apply good_foldl | split))

@[simp] theorem joinClosingTest_good {pd : List Instr} {s : State} (hs : Good pd s) : Good pd (joinClosingTest s) := by
  unfold joinClosingTest
  try dsimp only
  repeat' (first | (with_reducible first | assumption | apply State.sendJoinc_good | apply State.joinPhase_good | apply State.sendUnit_good | apply State.sendTables_good | apply State.modPair_good | apply State.closingOverrun_good | apply State.xferWork_good | apply good_foldl | split | intro _))

@[simp] theorem State.xferHeard_good {pd : List Instr} {s : State} (hs : Good pd s) : Good pd (State.xferHeard s) := by
  unfold State.xferHeard
  try dsimp only
  repeat' (first | (with_reducible first | assumption | apply State.modPair_good))

@[simp] theorem State.joincRx_good {pd : List Instr} {s : State} {lane : Fin 4} {op : Nat} {msg : Bytes} {f : State → Nat → State} (hs : Good pd s) (hf : ∀ (y0 : State) (y1 : Nat), Good pd y0 → Good pd (f y0 y1)) : Good pd (State.joincRx s lane op msg f) := by
  unfold State.joincRx
  try dsimp only
  repeat' (first | (with_reducible first | assumption | apply hf | apply State.dunlyRx_good | apply State.xferHeard_good | apply good_foldl | split | intro _))

@[simp] theorem joincWaitRx_good {pd : List Instr} {lane : Fin 4} {msg : Bytes} {s : State} (hs : Good pd s) : Good pd (joincWaitRx lane msg s) := by
  unfold joincWaitRx
  try dsimp only
  repeat' (first | (with_reducible first | assumption | apply State.joincRx_good | apply State.joinReason_good | apply good_foldl | split | intro _))

@[simp] theorem joincStartRx_good {pd : List Instr} {lane : Fin 4} {msg : Bytes} {s : State} (hs : Good pd s) : Good pd (joincStartRx lane msg s) := by
  unfold joincStartRx
  try dsimp only
  repeat' (first | (with_reducible first | assumption | apply State.joincRx_good | apply State.modPair_good | apply State.joinPhase_good | apply State.setFld_good | apply State.seqStart_good | apply good_foldl | split | intro _))

@[simp] theorem joincCloseRx_good {pd : List Instr} {lane : Fin 4} {msg : Bytes} {s : State} (hs : Good pd s) : Good pd (joincCloseRx lane msg s) := by
  unfold joincCloseRx
  try dsimp only
  repeat' (first | (with_reducible first | assumption | apply State.joincRx_good | apply State.joinPhase_good | apply good_foldl | split | intro _))

@[simp] theorem State.joinCompleted_good {pd : List Instr} {s : State} (hs : Good pd s) : Good pd (State.joinCompleted s) := by
  unfold State.joinCompleted
  try dsimp only
  repeat' (first | (with_reducible first | assumption | apply State.sendJoinc_good | apply State.modPair_good | apply State.joinPhase_good | apply State.raise_good))

@[simp] theorem joincDoneRx_good {pd : List Instr} {lane : Fin 4} {msg : Bytes} {s : State} (hs : Good pd s) : Good pd (joincDoneRx lane msg s) := by
  unfold joincDoneRx
  try dsimp only
  repeat' (first | (with_reducible first | assumption | apply State.joincRx_good | apply State.joinCompleted_good | apply good_foldl | split | intro _))

@[simp] theorem joincAbortRx_good {pd : List Instr} {lane : Fin 4} {msg : Bytes} {s : State} (hs : Good pd s) : Good pd (joincAbortRx lane msg s) := by
  unfold joincAbortRx
  try dsimp only
  repeat' (first | (with_reducible first | assumption | apply State.joincRx_good | apply State.abandonJoin_good | apply State.joinPhase_good | apply good_foldl | split | intro _))

@[simp] theorem joincRefuseRx_good {pd : List Instr} {lane : Fin 4} {msg : Bytes} {s : State} (hs : Good pd s) : Good pd (joincRefuseRx lane msg s) := by
  unfold joincRefuseRx
  try dsimp only
  repeat' (first | (with_reducible first | assumption | apply State.joincRx_good | apply State.joinReason_good | apply State.logErr_good | apply State.recErr_good | apply State.modPair_good | apply good_foldl | split | intro _))

@[simp] theorem State.takeStation_good {pd : List Instr} {s : State} {k : Nat} {w : Word} (hs : Good pd s) : Good pd (State.takeStation s k w) := by
  unfold State.takeStation
  try dsimp only
  repeat' (first | (with_reducible first | assumption | apply State.setFld_good | apply State.modNet_good | apply good_foldl | split))

@[simp] theorem State.takeImage_good {pd : List Instr} {s : State} {ofs : Nat} {b : Bytes} (hs : Good pd s) : Good pd (State.takeImage s ofs b) := by
  unfold State.takeImage
  try dsimp only
  repeat' (first | (with_reducible first | assumption | apply State.imemSet_good | apply good_foldl | split | intro _ | simp only [good_mk]))

@[simp] theorem State.takeUnit_good {pd : List Instr} {s : State} {space ofs : Nat} {b : Bytes} (hs : Good pd s) : Good pd (State.takeUnit s space ofs b) := by
  unfold State.takeUnit
  try dsimp only
  repeat' (first | (with_reducible first | assumption | apply State.migrateRange_good | apply State.writeMem_good | apply State.takeImage_good | apply State.takeStation_good | apply State.modNet_good | apply good_foldl | split | intro _))

theorem State.takeUnits_good {pd : List Instr} : ∀ {n : Nat} {b : Bytes} {s : State}, Good pd s → Good pd (s.takeUnits n b)
  | 0, _, _, h => h
  | n + 1, b, s, h => by
    unfold State.takeUnits
    split
    · exact h
    · exact State.takeUnits_good (State.takeUnit_good h)

@[simp] theorem xferRx_good {pd : List Instr} {lane : Fin 4} {msg : Bytes} {s : State} (hs : Good pd s) : Good pd (xferRx lane msg s) := by
  unfold xferRx
  refine State.dunlyRx_good hs fun s _ b h => ?_
  split
  · exact State.takeUnits_good h
  · exact h

@[simp] theorem joinerToFollower_good {pd : List Instr} {s : State} (hs : Good pd s) : Good pd (joinerToFollower s) := by
  unfold joinerToFollower
  try dsimp only
  repeat' (first | (with_reducible first | assumption | apply State.atBoundary_good | apply State.joinCompleted_good | apply State.toState_good | apply State.modPair_good | apply good_foldl | split))

@[simp] theorem joinTransferSilence_good {pd : List Instr} {s : State} (hs : Good pd s) : Good pd (joinTransferSilence s) := by
  unfold joinTransferSilence
  try dsimp only
  repeat' (first | (with_reducible first | assumption | apply State.waitOp_good | apply State.abandonJoin_good | apply State.sendJoinc_good | apply State.joinPhase_good | apply good_foldl | split))

end Sys2Proof.Machine
end

