-- ==== Sys2Proof/Laws/KeepLanes.lean ====
section
/-! SUPPORT. The invariant `Good` through the lane instructions, debug and the rounds: every function that answers a state keeps it. -/

open Sys2Proof
namespace Sys2Proof.Machine

@[simp] theorem State.tapLoad_good {pd : List Instr} {s : State} {code : Nat} (hs : Good pd s) : Good pd (State.tapLoad s code) := by
  unfold State.tapLoad
  try dsimp only
  repeat' (first | (with_reducible first | assumption | apply good_foldl | split | intro _ | simp only [good_mk]))

@[simp] theorem State.boundary_good {pd : List Instr} {s : State} {code : Nat} {pins : Bytes} (hs : Good pd s) : Good pd (State.boundary s code pins) := by
  unfold State.boundary
  try dsimp only
  repeat' (first | (with_reducible first | assumption | apply State.tapLoad_good | apply good_foldl | split | intro _ | simp only [good_mk]))

@[simp] theorem jtagExtest_good {pd : List Instr} {pins : Bytes} {s : State} (hs : Good pd s) : Good pd (jtagExtest pins s) := by
  unfold jtagExtest
  try dsimp only
  repeat' (first | (with_reducible first | assumption | apply State.boundary_good | apply State.send_good | apply good_foldl | split))

@[simp] theorem jtagSamplePreload_good {pd : List Instr} {pins : Bytes} {s : State} (hs : Good pd s) : Good pd (jtagSamplePreload pins s) := by
  unfold jtagSamplePreload
  try dsimp only
  repeat' (first | (with_reducible first | assumption | apply State.boundary_good | apply good_foldl | split))

@[simp] theorem jtagIdcode_good {pd : List Instr} {s : State} (hs : Good pd s) : Good pd (jtagIdcode s) := by
  unfold jtagIdcode
  try dsimp only
  repeat' (first | (with_reducible first | assumption | apply State.tapLoad_good | apply good_foldl | split | intro _ | simp only [good_mk]))

@[simp] theorem jtagRegread_good {pd : List Instr} {addr : BitVec 20} {s : State} (hs : Good pd s) : Good pd (jtagRegread addr s) := by
  unfold jtagRegread
  try dsimp only
  repeat' (first | (with_reducible first | assumption | apply State.tapLoad_good | apply State.incWrap_good | apply State.incSat_good | apply State.logErr_good | apply good_foldl | split | intro _ | simp only [good_mk]))

@[simp] theorem jtagBypass_good {pd : List Instr} {x : Bypass} {s : State} (hs : Good pd s) : Good pd (jtagBypass x s) := by
  unfold jtagBypass
  try dsimp only
  repeat' (first | (with_reducible first | assumption | apply State.tapLoad_good | apply good_foldl | split | intro _ | simp only [good_mk]))

@[simp] theorem jtagAct_good {pd : List Instr} {leave : Bool} {s : State} (hs : Good pd s) : Good pd (jtagAct leave s) := by
  unfold jtagAct
  try dsimp only
  repeat' (first | (with_reducible first | assumption | apply State.setFld_good | apply State.incSat_good | apply State.raise_good | apply State.tapLoad_good | apply good_foldl | split))

/-- A result on the core alone keeps the invariant. -/
theorem pureBody_good {pd : List Instr} {f : Core → CoreRes} {s : State} {c : Core} (h : Good pd s) :
    Good pd (pureBody f s c).1 := h

theorem aluT_good {pd : List Instr} {f : Word → Word → Word} {rd ra rb : BitVec 5} {s : State} {c : Core} (h : Good pd s) : Good pd (aluT f rd ra rb s c).1 := h

theorem satT_good {pd : List Instr} {lat : Nat} {f : Word → Word → Word × Bool} {rd ra rb : BitVec 5} {s : State} {c : Core} (h : Good pd s) : Good pd (satT lat f rd ra rb s c).1 := h

theorem aluK_good {pd : List Instr} {f : Word → BitVec 16 → Word} {rd ra : BitVec 5} {imm : BitVec 16} {s : State} {c : Core} (h : Good pd s) : Good pd (aluK f rd ra imm s c).1 := h

theorem mulPair_good {pd : List Instr} {f : Word → Word → Int} {rd ra rb : BitVec 5} {s : State} {c : Core} (h : Good pd s) : Good pd (mulPair f rd ra rb s c).1 := h

theorem divT_good {pd : List Instr} {f : Word → Word → Word × Bool} {rd ra rb : BitVec 5} {s : State} {c : Core} (h : Good pd s) : Good pd (divT f rd ra rb s c).1 := h

theorem fltT_good {pd : List Instr} {lat : Nat} {f : Word → Word → FRes} {rd ra rb : BitVec 5} {s : State} {c : Core} (h : Good pd s) : Good pd (fltT lat f rd ra rb s c).1 := h

theorem fltU_good {pd : List Instr} {lat : Nat} {f : Word → FRes} {rd ra rb : BitVec 5} {s : State} {c : Core} (h : Good pd s) : Good pd (fltU lat f rd ra rb s c).1 := h

theorem loadBody_good {pd : List Instr} {n : Fin 16} {size : Nat} {signed : Bool} {rd ra : BitVec 5} {imm : BitVec 16} {s : State} {c : Core} (h : Good pd s) : Good pd (loadBody n size signed rd ra imm s c).1 := by
  unfold loadBody
  dsimp only
  repeat' (first | (with_reducible first | assumption | apply State.noteRead_good | apply State.storeImem_good | apply State.storeDtcm_good | apply State.modLane_good | apply State.saveJob_good | apply State.peak_good | apply State.setReg_good | split))

theorem qldBody_good {pd : List Instr} {n : Fin 16} {rd ra : BitVec 5} {imm : BitVec 16} {s : State} {c : Core} (h : Good pd s) : Good pd (qldBody n rd ra imm s c).1 := by
  unfold qldBody
  dsimp only
  repeat' (first | (with_reducible first | assumption | apply State.noteRead_good | apply State.storeImem_good | apply State.storeDtcm_good | apply State.modLane_good | apply State.saveJob_good | apply State.peak_good | apply State.setReg_good | split))

theorem storeBody_good {pd : List Instr} {n : Fin 16} {size : Nat} {rs ra : BitVec 5} {imm : BitVec 16} {s : State} {c : Core} (h : Good pd s) : Good pd (storeBody n size rs ra imm s c).1 := by
  unfold storeBody
  dsimp only
  repeat' (first | (with_reducible first | assumption | apply State.noteRead_good | apply State.storeImem_good | apply State.storeDtcm_good | apply State.modLane_good | apply State.saveJob_good | apply State.peak_good | apply State.setReg_good | split))

theorem stqBody_good {pd : List Instr} {n : Fin 16} {rs ra : BitVec 5} {imm : BitVec 16} {s : State} {c : Core} (h : Good pd s) : Good pd (stqBody n rs ra imm s c).1 := by
  unfold stqBody
  dsimp only
  repeat' (first | (with_reducible first | assumption | apply State.noteRead_good | apply State.storeImem_good | apply State.storeDtcm_good | apply State.modLane_good | apply State.saveJob_good | apply State.peak_good | apply State.setReg_good | split))

theorem fieldBody_good {pd : List Instr} {f : Word → Word → Nat → Nat → Word} {rd ra pos wm1 : BitVec 5} {zero : BitVec 6} {s : State} {c : Core} (h : Good pd s) : Good pd (fieldBody f rd ra pos wm1 zero s c).1 := h

theorem jcBody_good {pd : List Instr} {cond : BitVec 4} {ra rb : BitVec 5} {off : BitVec 12} {s : State} {c : Core} (h : Good pd s) : Good pd (jcBody cond ra rb off s c).1 := h

theorem callBody_good {pd : List Instr} {rd : BitVec 5} {off : BitVec 21} {s : State} {c : Core} (h : Good pd s) : Good pd (callBody rd off s c).1 := h

theorem callrBody_good {pd : List Instr} {rd ra : BitVec 5} {imm : BitVec 16} {s : State} {c : Core} (h : Good pd s) : Good pd (callrBody rd ra imm s c).1 := h

theorem shkBody_good {pd : List Instr} {rd ra : BitVec 5} {imm : BitVec 16} {s : State} {c : Core} (h : Good pd s) : Good pd (shkBody rd ra imm s c).1 := h

theorem kcatBody_good {pd : List Instr} {rd ra : BitVec 5} {imm : BitVec 16} {s : State} {c : Core} (h : Good pd s) : Good pd (kcatBody rd ra imm s c).1 := h

theorem qmrgBody_good {pd : List Instr} {rd ra rb : BitVec 5} {s : State} {c : Core} (h : Good pd s) : Good pd (qmrgBody rd ra rb s c).1 := h

theorem qgetBody_good {pd : List Instr} {rd ra rb : BitVec 5} {s : State} {c : Core} (h : Good pd s) : Good pd (qgetBody rd ra rb s c).1 := h

theorem qtakeBody_good {pd : List Instr} {rd ra rb : BitVec 5} {s : State} {c : Core} (h : Good pd s) : Good pd (qtakeBody rd ra rb s c).1 := h

theorem timeBody_good {pd : List Instr} {n : Fin 16} {rd ra rb : BitVec 5} {s : State} {c : Core} (h : Good pd s) : Good pd (timeBody n rd ra rb s c).1 := h

theorem plyendBody_good {pd : List Instr} {n : Fin 16} {rd ra rb : BitVec 5} {s : State} {c : Core} (h : Good pd s) : Good pd (plyendBody n rd ra rb s c).1 := by
  unfold plyendBody
  dsimp only
  repeat' (first | (with_reducible first | assumption | apply State.noteRead_good | apply State.storeImem_good | apply State.storeDtcm_good | apply State.modLane_good | apply State.saveJob_good | apply State.peak_good | apply State.setReg_good | split | intro _))

theorem mulT_good {pd : List Instr} {rd ra rb : BitVec 5} {s : State} {c : Core} (h : Good pd s) : Good pd (mulT rd ra rb s c).1 := h

theorem addskBody_good {pd : List Instr} {rd ra : BitVec 5} {imm : BitVec 16} {s : State} {c : Core} (h : Good pd s) : Good pd (addskBody rd ra imm s c).1 := h

theorem insAdd_good {pd : List Instr} {rd : BitVec 5} {ra : BitVec 5} {rb : BitVec 5} {s : State} {c : Core} (h : Good pd s) : Good pd (insAdd rd ra rb s c).1 := h

theorem insSub_good {pd : List Instr} {rd : BitVec 5} {ra : BitVec 5} {rb : BitVec 5} {s : State} {c : Core} (h : Good pd s) : Good pd (insSub rd ra rb s c).1 := h

theorem insAnd_good {pd : List Instr} {rd : BitVec 5} {ra : BitVec 5} {rb : BitVec 5} {s : State} {c : Core} (h : Good pd s) : Good pd (insAnd rd ra rb s c).1 := h

theorem insOr_good {pd : List Instr} {rd : BitVec 5} {ra : BitVec 5} {rb : BitVec 5} {s : State} {c : Core} (h : Good pd s) : Good pd (insOr rd ra rb s c).1 := h

theorem insXor_good {pd : List Instr} {rd : BitVec 5} {ra : BitVec 5} {rb : BitVec 5} {s : State} {c : Core} (h : Good pd s) : Good pd (insXor rd ra rb s c).1 := h

theorem insSll_good {pd : List Instr} {rd : BitVec 5} {ra : BitVec 5} {rb : BitVec 5} {s : State} {c : Core} (h : Good pd s) : Good pd (insSll rd ra rb s c).1 := h

theorem insSrl_good {pd : List Instr} {rd : BitVec 5} {ra : BitVec 5} {rb : BitVec 5} {s : State} {c : Core} (h : Good pd s) : Good pd (insSrl rd ra rb s c).1 := h

theorem insSra_good {pd : List Instr} {rd : BitVec 5} {ra : BitVec 5} {rb : BitVec 5} {s : State} {c : Core} (h : Good pd s) : Good pd (insSra rd ra rb s c).1 := h

theorem insCmplt_good {pd : List Instr} {rd : BitVec 5} {ra : BitVec 5} {rb : BitVec 5} {s : State} {c : Core} (h : Good pd s) : Good pd (insCmplt rd ra rb s c).1 := h

theorem insCmpltu_good {pd : List Instr} {rd : BitVec 5} {ra : BitVec 5} {rb : BitVec 5} {s : State} {c : Core} (h : Good pd s) : Good pd (insCmpltu rd ra rb s c).1 := h

theorem insMin_good {pd : List Instr} {rd : BitVec 5} {ra : BitVec 5} {rb : BitVec 5} {s : State} {c : Core} (h : Good pd s) : Good pd (insMin rd ra rb s c).1 := h

theorem insMax_good {pd : List Instr} {rd : BitVec 5} {ra : BitVec 5} {rb : BitVec 5} {s : State} {c : Core} (h : Good pd s) : Good pd (insMax rd ra rb s c).1 := h

theorem insMinu_good {pd : List Instr} {rd : BitVec 5} {ra : BitVec 5} {rb : BitVec 5} {s : State} {c : Core} (h : Good pd s) : Good pd (insMinu rd ra rb s c).1 := h

theorem insMaxu_good {pd : List Instr} {rd : BitVec 5} {ra : BitVec 5} {rb : BitVec 5} {s : State} {c : Core} (h : Good pd s) : Good pd (insMaxu rd ra rb s c).1 := h

theorem insAdds_good {pd : List Instr} {rd : BitVec 5} {ra : BitVec 5} {rb : BitVec 5} {s : State} {c : Core} (h : Good pd s) : Good pd (insAdds rd ra rb s c).1 := h

theorem insSubs_good {pd : List Instr} {rd : BitVec 5} {ra : BitVec 5} {rb : BitVec 5} {s : State} {c : Core} (h : Good pd s) : Good pd (insSubs rd ra rb s c).1 := h

theorem insAddsu_good {pd : List Instr} {rd : BitVec 5} {ra : BitVec 5} {rb : BitVec 5} {s : State} {c : Core} (h : Good pd s) : Good pd (insAddsu rd ra rb s c).1 := h

theorem insSubsu_good {pd : List Instr} {rd : BitVec 5} {ra : BitVec 5} {rb : BitVec 5} {s : State} {c : Core} (h : Good pd s) : Good pd (insSubsu rd ra rb s c).1 := h

theorem insAddk_good {pd : List Instr} {rd : BitVec 5} {ra : BitVec 5} {imm : BitVec 16} {s : State} {c : Core} (h : Good pd s) : Good pd (insAddk rd ra imm s c).1 := h

theorem insAddsk_good {pd : List Instr} {rd : BitVec 5} {ra : BitVec 5} {imm : BitVec 16} {s : State} {c : Core} (h : Good pd s) : Good pd (insAddsk rd ra imm s c).1 := h

theorem insAndk_good {pd : List Instr} {rd : BitVec 5} {ra : BitVec 5} {imm : BitVec 16} {s : State} {c : Core} (h : Good pd s) : Good pd (insAndk rd ra imm s c).1 := h

theorem insOrk_good {pd : List Instr} {rd : BitVec 5} {ra : BitVec 5} {imm : BitVec 16} {s : State} {c : Core} (h : Good pd s) : Good pd (insOrk rd ra imm s c).1 := h

theorem insXork_good {pd : List Instr} {rd : BitVec 5} {ra : BitVec 5} {imm : BitVec 16} {s : State} {c : Core} (h : Good pd s) : Good pd (insXork rd ra imm s c).1 := h

theorem insCmpltk_good {pd : List Instr} {rd : BitVec 5} {ra : BitVec 5} {imm : BitVec 16} {s : State} {c : Core} (h : Good pd s) : Good pd (insCmpltk rd ra imm s c).1 := h

theorem insShk_good {pd : List Instr} {rd : BitVec 5} {ra : BitVec 5} {imm : BitVec 16} {s : State} {c : Core} (h : Good pd s) : Good pd (insShk rd ra imm s c).1 := h

theorem insKcat_good {pd : List Instr} {rd : BitVec 5} {ra : BitVec 5} {imm : BitVec 16} {s : State} {c : Core} (h : Good pd s) : Good pd (insKcat rd ra imm s c).1 := h

theorem insMul_good {pd : List Instr} {rd : BitVec 5} {ra : BitVec 5} {rb : BitVec 5} {s : State} {c : Core} (h : Good pd s) : Good pd (insMul rd ra rb s c).1 := h

theorem insMull_good {pd : List Instr} {rd : BitVec 5} {ra : BitVec 5} {rb : BitVec 5} {s : State} {c : Core} (h : Good pd s) : Good pd (insMull rd ra rb s c).1 := h

theorem insMullu_good {pd : List Instr} {rd : BitVec 5} {ra : BitVec 5} {rb : BitVec 5} {s : State} {c : Core} (h : Good pd s) : Good pd (insMullu rd ra rb s c).1 := h

theorem insMuls_good {pd : List Instr} {rd : BitVec 5} {ra : BitVec 5} {rb : BitVec 5} {s : State} {c : Core} (h : Good pd s) : Good pd (insMuls rd ra rb s c).1 := h

theorem insDiv_good {pd : List Instr} {rd : BitVec 5} {ra : BitVec 5} {rb : BitVec 5} {s : State} {c : Core} (h : Good pd s) : Good pd (insDiv rd ra rb s c).1 := h

theorem insDivu_good {pd : List Instr} {rd : BitVec 5} {ra : BitVec 5} {rb : BitVec 5} {s : State} {c : Core} (h : Good pd s) : Good pd (insDivu rd ra rb s c).1 := h

theorem insRem_good {pd : List Instr} {rd : BitVec 5} {ra : BitVec 5} {rb : BitVec 5} {s : State} {c : Core} (h : Good pd s) : Good pd (insRem rd ra rb s c).1 := h

theorem insRemu_good {pd : List Instr} {rd : BitVec 5} {ra : BitVec 5} {rb : BitVec 5} {s : State} {c : Core} (h : Good pd s) : Good pd (insRemu rd ra rb s c).1 := h

theorem insFadd_good {pd : List Instr} {rd : BitVec 5} {ra : BitVec 5} {rb : BitVec 5} {s : State} {c : Core} (h : Good pd s) : Good pd (insFadd rd ra rb s c).1 := h

theorem insFsub_good {pd : List Instr} {rd : BitVec 5} {ra : BitVec 5} {rb : BitVec 5} {s : State} {c : Core} (h : Good pd s) : Good pd (insFsub rd ra rb s c).1 := h

theorem insFmul_good {pd : List Instr} {rd : BitVec 5} {ra : BitVec 5} {rb : BitVec 5} {s : State} {c : Core} (h : Good pd s) : Good pd (insFmul rd ra rb s c).1 := h

theorem insFdiv_good {pd : List Instr} {rd : BitVec 5} {ra : BitVec 5} {rb : BitVec 5} {s : State} {c : Core} (h : Good pd s) : Good pd (insFdiv rd ra rb s c).1 := h

theorem insFmin_good {pd : List Instr} {rd : BitVec 5} {ra : BitVec 5} {rb : BitVec 5} {s : State} {c : Core} (h : Good pd s) : Good pd (insFmin rd ra rb s c).1 := h

theorem insFmax_good {pd : List Instr} {rd : BitVec 5} {ra : BitVec 5} {rb : BitVec 5} {s : State} {c : Core} (h : Good pd s) : Good pd (insFmax rd ra rb s c).1 := h

theorem insFeq_good {pd : List Instr} {rd : BitVec 5} {ra : BitVec 5} {rb : BitVec 5} {s : State} {c : Core} (h : Good pd s) : Good pd (insFeq rd ra rb s c).1 := h

theorem insFlt_good {pd : List Instr} {rd : BitVec 5} {ra : BitVec 5} {rb : BitVec 5} {s : State} {c : Core} (h : Good pd s) : Good pd (insFlt rd ra rb s c).1 := h

theorem insFle_good {pd : List Instr} {rd : BitVec 5} {ra : BitVec 5} {rb : BitVec 5} {s : State} {c : Core} (h : Good pd s) : Good pd (insFle rd ra rb s c).1 := h

theorem insFcvtws_good {pd : List Instr} {rd : BitVec 5} {ra : BitVec 5} {rb : BitVec 5} {s : State} {c : Core} (h : Good pd s) : Good pd (insFcvtws rd ra rb s c).1 := h

theorem insFcvtsw_good {pd : List Instr} {rd : BitVec 5} {ra : BitVec 5} {rb : BitVec 5} {s : State} {c : Core} (h : Good pd s) : Good pd (insFcvtsw rd ra rb s c).1 := h

theorem insFabs_good {pd : List Instr} {rd : BitVec 5} {ra : BitVec 5} {rb : BitVec 5} {s : State} {c : Core} (h : Good pd s) : Good pd (insFabs rd ra rb s c).1 := h

theorem insFneg_good {pd : List Instr} {rd : BitVec 5} {ra : BitVec 5} {rb : BitVec 5} {s : State} {c : Core} (h : Good pd s) : Good pd (insFneg rd ra rb s c).1 := h

theorem insLdw_good {pd : List Instr} {n : Fin 16} {rd : BitVec 5} {ra : BitVec 5} {imm : BitVec 16} {s : State} {c : Core} (h : Good pd s) : Good pd (insLdw n rd ra imm s c).1 :=
  loadBody_good h

theorem insLdh_good {pd : List Instr} {n : Fin 16} {rd : BitVec 5} {ra : BitVec 5} {imm : BitVec 16} {s : State} {c : Core} (h : Good pd s) : Good pd (insLdh n rd ra imm s c).1 :=
  loadBody_good h

theorem insLdhu_good {pd : List Instr} {n : Fin 16} {rd : BitVec 5} {ra : BitVec 5} {imm : BitVec 16} {s : State} {c : Core} (h : Good pd s) : Good pd (insLdhu n rd ra imm s c).1 :=
  loadBody_good h

theorem insLdb_good {pd : List Instr} {n : Fin 16} {rd : BitVec 5} {ra : BitVec 5} {imm : BitVec 16} {s : State} {c : Core} (h : Good pd s) : Good pd (insLdb n rd ra imm s c).1 :=
  loadBody_good h

theorem insLdbu_good {pd : List Instr} {n : Fin 16} {rd : BitVec 5} {ra : BitVec 5} {imm : BitVec 16} {s : State} {c : Core} (h : Good pd s) : Good pd (insLdbu n rd ra imm s c).1 :=
  loadBody_good h

theorem insQld_good {pd : List Instr} {n : Fin 16} {rd : BitVec 5} {ra : BitVec 5} {imm : BitVec 16} {s : State} {c : Core} (h : Good pd s) : Good pd (insQld n rd ra imm s c).1 :=
  qldBody_good h

theorem insStw_good {pd : List Instr} {n : Fin 16} {rs : BitVec 5} {ra : BitVec 5} {imm : BitVec 16} {s : State} {c : Core} (h : Good pd s) : Good pd (insStw n rs ra imm s c).1 :=
  storeBody_good h

theorem insSth_good {pd : List Instr} {n : Fin 16} {rs : BitVec 5} {ra : BitVec 5} {imm : BitVec 16} {s : State} {c : Core} (h : Good pd s) : Good pd (insSth n rs ra imm s c).1 :=
  storeBody_good h

theorem insStb_good {pd : List Instr} {n : Fin 16} {rs : BitVec 5} {ra : BitVec 5} {imm : BitVec 16} {s : State} {c : Core} (h : Good pd s) : Good pd (insStb n rs ra imm s c).1 :=
  storeBody_good h

theorem insStq_good {pd : List Instr} {n : Fin 16} {rs : BitVec 5} {ra : BitVec 5} {imm : BitVec 16} {s : State} {c : Core} (h : Good pd s) : Good pd (insStq n rs ra imm s c).1 :=
  stqBody_good h

theorem insJc_good {pd : List Instr} {cond : BitVec 4} {ra : BitVec 5} {rb : BitVec 5} {off : BitVec 12} {s : State} {c : Core} (h : Good pd s) : Good pd (insJc cond ra rb off s c).1 := h

theorem insCall_good {pd : List Instr} {rd : BitVec 5} {off : BitVec 21} {s : State} {c : Core} (h : Good pd s) : Good pd (insCall rd off s c).1 := h

theorem insCallr_good {pd : List Instr} {rd : BitVec 5} {ra : BitVec 5} {imm : BitVec 16} {s : State} {c : Core} (h : Good pd s) : Good pd (insCallr rd ra imm s c).1 := h

theorem insExt_good {pd : List Instr} {rd : BitVec 5} {ra : BitVec 5} {pos : BitVec 5} {wm1 : BitVec 5} {zero : BitVec 6} {s : State} {c : Core} (h : Good pd s) : Good pd (insExt rd ra pos wm1 zero s c).1 := h

theorem insExts_good {pd : List Instr} {rd : BitVec 5} {ra : BitVec 5} {pos : BitVec 5} {wm1 : BitVec 5} {zero : BitVec 6} {s : State} {c : Core} (h : Good pd s) : Good pd (insExts rd ra pos wm1 zero s c).1 := h

theorem insIns_good {pd : List Instr} {rd : BitVec 5} {ra : BitVec 5} {pos : BitVec 5} {wm1 : BitVec 5} {zero : BitVec 6} {s : State} {c : Core} (h : Good pd s) : Good pd (insIns rd ra pos wm1 zero s c).1 := h

theorem insQmrg_good {pd : List Instr} {rd : BitVec 5} {ra : BitVec 5} {rb : BitVec 5} {s : State} {c : Core} (h : Good pd s) : Good pd (insQmrg rd ra rb s c).1 := h

theorem insQget_good {pd : List Instr} {rd : BitVec 5} {ra : BitVec 5} {rb : BitVec 5} {s : State} {c : Core} (h : Good pd s) : Good pd (insQget rd ra rb s c).1 := h

theorem insQtake_good {pd : List Instr} {rd : BitVec 5} {ra : BitVec 5} {rb : BitVec 5} {s : State} {c : Core} (h : Good pd s) : Good pd (insQtake rd ra rb s c).1 := h

theorem insTime_good {pd : List Instr} {n : Fin 16} {rd : BitVec 5} {ra : BitVec 5} {rb : BitVec 5} {s : State} {c : Core} (h : Good pd s) : Good pd (insTime n rd ra rb s c).1 := h

theorem insPlyend_good {pd : List Instr} {n : Fin 16} {rd : BitVec 5} {ra : BitVec 5} {rb : BitVec 5} {s : State} {c : Core} (h : Good pd s) : Good pd (insPlyend n rd ra rb s c).1 :=
  plyendBody_good h

theorem decode01_good {pd : List Instr} {fn : Nat} {f : BitVec 5 → BitVec 5 → BitVec 5 → Body} (e : decode01 fn = some f)
    {rd ra rb : BitVec 5} {s : State} {c : Core} (h : Good pd s) : Good pd (f rd ra rb s c).1 := by
  unfold decode01 at e
  split at e <;> cases e <;> exact h

theorem decode02_good {pd : List Instr} {fn : Nat} {f : BitVec 5 → BitVec 5 → BitVec 5 → Body} (e : decode02 fn = some f)
    {rd ra rb : BitVec 5} {s : State} {c : Core} (h : Good pd s) : Good pd (f rd ra rb s c).1 := by
  unfold decode02 at e
  split at e <;> cases e <;> exact h

theorem decode03_good {pd : List Instr} {fn : Nat} {f : BitVec 5 → BitVec 5 → BitVec 5 → Body} (e : decode03 fn = some f)
    {rd ra rb : BitVec 5} {s : State} {c : Core} (h : Good pd s) : Good pd (f rd ra rb s c).1 := by
  unfold decode03 at e
  split at e <;> cases e <;> exact h

theorem decode04_good {pd : List Instr} {n : Fin 16} {fn : Nat} {f : BitVec 5 → BitVec 5 → BitVec 5 → Body}
    (e : decode04 n fn = some f) {rd ra rb : BitVec 5} {s : State} {c : Core} (h : Good pd s) :
    Good pd (f rd ra rb s c).1 := by
  unfold decode04 at e
  split at e <;> cases e <;> first | exact insPlyend_good h | exact h

theorem decodeK_good {pd : List Instr} {n : Fin 16} {op : Nat} {f : BitVec 5 → BitVec 5 → BitVec 16 → Body}
    (e : decodeK n op = some f) {rd ra : BitVec 5} {imm : BitVec 16} {s : State} {c : Core} (h : Good pd s) :
    Good pd (f rd ra imm s c).1 := by
  unfold decodeK at e
  split at e <;> cases e <;>
    first | exact loadBody_good h | exact qldBody_good h | exact storeBody_good h | exact stqBody_good h | exact h

theorem decodeBody_good {pd : List Instr} {n : Fin 16} {w : Word} {s : State} {c : Core} (h : Good pd s) :
    Good pd (decodeBody n w s c).1 := by
  unfold decodeBody
  dsimp only
  repeat' (first | exact h | split)
  · generalize e : decode01 (bits w 10 0) = o
    cases o
    · exact h
    · exact decode01_good e h
  · generalize e : decode02 (bits w 10 0) = o
    cases o
    · exact h
    · exact decode02_good e h
  · generalize e : decode03 (bits w 10 0) = o
    cases o
    · exact h
    · exact decode03_good e h
  · generalize e : decode04 n (bits w 10 0) = o
    cases o
    · exact h
    · exact decode04_good e h
  · generalize e : decodeK n (bits w 31 26) = o
    cases o
    · exact h
    · exact decodeK_good e h

theorem fetchBody_good {pd : List Instr} {n : Fin 16} {s : State} {c : Core} (h : Good pd s) : Good pd (fetchBody n s c).1 :=
  decodeBody_good h

@[simp] theorem State.changeRecord_good {pd : List Instr} {s : State} {what : Nat} {v : Word} (hs : Good pd s) : Good pd (State.changeRecord s what v) := by
  unfold State.changeRecord
  try dsimp only
  repeat' (first | (with_reducible first | assumption | apply State.recIrq_good))

@[simp] theorem pairCmdChange_good {pd : List Instr} {s : State} (hs : Good pd s) : Good pd (pairCmdChange s) := by
  unfold pairCmdChange
  try dsimp only
  repeat' (first | (with_reducible first | assumption | apply State.downError_good | apply State.refuse_good | apply State.changeRecord_good | apply State.modPair_good | apply good_foldl | split))

@[simp] theorem State.changeRound_good {pd : List Instr} {s : State} (hs : Good pd s) : Good pd (State.changeRound s) := by
  unfold State.changeRound
  try dsimp only
  repeat' (first | (with_reducible first | assumption | apply State.sendChg_good | apply good_foldl | split))

@[simp] theorem State.chgRx_good {pd : List Instr} {s : State} {lane : Fin 4} {op : Nat} {msg : Bytes} {f : State → Word → Bytes → State} (hs : Good pd s) (hf : ∀ (y0 : State) (y1 : Word) (y2 : Bytes), Good pd y0 → Good pd (f y0 y1 y2)) : Good pd (State.chgRx s lane op msg f) := by
  unfold State.chgRx
  try dsimp only
  repeat' (first | (with_reducible first | assumption | apply hf | apply State.dunlyRx_good | apply good_foldl | split | intro _))

@[simp] theorem chgProposeRx_good {pd : List Instr} {lane : Fin 4} {msg : Bytes} {s : State} (hs : Good pd s) : Good pd (chgProposeRx lane msg s) := by
  unfold chgProposeRx
  try dsimp only
  repeat' (first | (with_reducible first | assumption | apply State.chgRx_good | apply State.sendChg_good | apply State.modPair_good | apply good_foldl | split | intro _))

@[simp] theorem State.onChange_good {pd : List Instr} {s : State} {sr : Word} {f : ChangeRun → ChangeRun} (hs : Good pd s) : Good pd (State.onChange s sr f) := by
  unfold State.onChange
  try dsimp only
  repeat' (first | (with_reducible first | assumption | apply State.modPair_good | apply good_foldl | split))

@[simp] theorem chgAcceptRx_good {pd : List Instr} {lane : Fin 4} {msg : Bytes} {s : State} (hs : Good pd s) : Good pd (chgAcceptRx lane msg s) := by
  unfold chgAcceptRx
  try dsimp only
  repeat' (first | (with_reducible first | assumption | apply State.chgRx_good | apply State.onChange_good | apply good_foldl | split | intro _))

@[simp] theorem chgRefuseRx_good {pd : List Instr} {lane : Fin 4} {msg : Bytes} {s : State} (hs : Good pd s) : Good pd (chgRefuseRx lane msg s) := by
  unfold chgRefuseRx
  try dsimp only
  repeat' (first | (with_reducible first | assumption | apply State.chgRx_good | apply State.onChange_good | apply good_foldl | split | intro _))

@[simp] theorem chgCommitRx_good {pd : List Instr} {lane : Fin 4} {msg : Bytes} {s : State} (hs : Good pd s) : Good pd (chgCommitRx lane msg s) := by
  unfold chgCommitRx
  try dsimp only
  repeat' (first | (with_reducible first | assumption | apply State.chgRx_good | apply State.onChange_good | apply good_foldl | split | intro _))

@[simp] theorem chgCancelRx_good {pd : List Instr} {lane : Fin 4} {msg : Bytes} {s : State} (hs : Good pd s) : Good pd (chgCancelRx lane msg s) := by
  unfold chgCancelRx
  try dsimp only
  repeat' (first | (with_reducible first | assumption | apply State.chgRx_good | apply State.modPair_good | apply good_foldl | split | intro _))

@[simp] theorem changeDecision_good {pd : List Instr} {s : State} (hs : Good pd s) : Good pd (changeDecision s) := by
  unfold changeDecision
  try dsimp only
  repeat' (first | (with_reducible first | assumption | apply State.atBoundary_good | apply State.raise_good | apply State.changeRecord_good | apply State.modPair_good | apply State.sendChg_good | apply good_foldl | split))

@[simp] theorem State.switchGrant_good {pd : List Instr} {s : State} {t : Tables} {g : Grant} (hs : Good pd s) : Good pd (State.switchGrant s t g) := by
  unfold State.switchGrant
  try dsimp only
  repeat' (first | (with_reducible first | assumption | apply State.endGrant_good | apply State.modNet_good | apply good_foldl | split))

@[simp] theorem State.forgetStations_good {pd : List Instr} {s : State} (hs : Good pd s) : Good pd (State.forgetStations s) := by
  unfold State.forgetStations
  try dsimp only
  repeat' (first | (with_reducible first | assumption | apply good_foldl | split | intro _ | simp only [good_mk]))

@[simp] theorem State.swapBoards_good {pd : List Instr} {s : State} {old new : Tables} (hs : Good pd s) : Good pd (State.swapBoards s old new) := by
  unfold State.swapBoards
  try dsimp only
  repeat' (first | (with_reducible first | assumption | apply State.writeMem_good | apply good_foldl | split | intro _ | simp only [good_mk]))

@[simp] theorem State.freshTracks_good {pd : List Instr} {s : State} (hs : Good pd s) : Good pd (State.freshTracks s) := by
  unfold State.freshTracks
  try dsimp only
  repeat' (first | (with_reducible first | assumption | apply State.modSeqr_good | apply State.modNet_good | apply State.modPair_good | apply good_foldl | split | intro _ | simp only [good_mk]))

@[simp] theorem State.switchBoards_good {pd : List Instr} {s : State} {mig : Bool} (hs : Good pd s) : Good pd (State.switchBoards s mig) := by
  unfold State.switchBoards
  try dsimp only
  repeat' (first | (with_reducible first | assumption | apply State.swapBoards_good | apply State.setFld_good | apply State.deriveRegions_good | apply State.switchGrant_good | apply State.forgetStations_good | apply State.fioDirections_good | apply State.freshTracks_good | apply State.modTime_good | apply State.raise_good | apply good_foldl | split | intro _ | simp only [good_mk]))

@[simp] theorem onlineChangeSwitch_good {pd : List Instr} {s : State} (hs : Good pd s) : Good pd (onlineChangeSwitch s) := by
  unfold onlineChangeSwitch
  try dsimp only
  repeat' (first | (with_reducible first | assumption | apply State.atBoundary_good | apply State.switchBoards_good | apply State.modPair_good | apply State.recIrq_good | apply good_foldl | split))

@[simp] theorem State.joinExchange_good {pd : List Instr} {s : State} (hs : Good pd s) : Good pd (State.joinExchange s) := by
  unfold State.joinExchange
  try dsimp only
  repeat' (first | (with_reducible first | assumption | apply State.switchBoards_good | apply State.recIrq_good | apply State.sendJoinc_good | apply State.joinPhase_good | apply good_foldl | split))

@[simp] theorem State.engineLine_good {pd : List Instr} {s : State} {k : Nat} (hs : Good pd s) : Good pd (State.engineLine s k) := by
  unfold State.engineLine
  try dsimp only
  repeat' (first | (with_reducible first | assumption | apply State.migrateLine_good | apply State.mirrorLine_good | apply good_foldl | split | intro _ | simp only [good_mk]))

@[simp] theorem convertRoundEnd_good {pd : List Instr} {s : State} (hs : Good pd s) : Good pd (convertRoundEnd s) := by
  unfold convertRoundEnd
  try dsimp only
  repeat' (first | (with_reducible first | assumption | apply State.atBoundary_good | apply State.engineLine_good | apply State.recIrq_good | apply good_foldl | split | intro _ | simp only [good_mk]))

@[simp] theorem migrationDone_good {pd : List Instr} {s : State} (hs : Good pd s) : Good pd (migrationDone s) := by
  unfold migrationDone
  try dsimp only
  repeat' (first | (with_reducible first | assumption | apply State.engineLine_good | apply State.recIrq_good | apply good_foldl | split | intro _ | simp only [good_mk]))

@[simp] theorem bsqStart_good {pd : List Instr} {s : State} (hs : Good pd s) : Good pd (bsqStart s) := by
  unfold bsqStart
  try dsimp only
  repeat' (first | (with_reducible first | assumption | apply State.downError_good | apply State.seqStart_good | apply State.refuse_good | apply good_foldl | split))

@[simp] theorem bsqStop_good {pd : List Instr} {s : State} (hs : Good pd s) : Good pd (bsqStop s) := by
  unfold bsqStop
  try dsimp only
  repeat' (first | (with_reducible first | assumption | apply State.downError_good | apply State.seqStop_good | apply State.refuse_good | apply good_foldl | split))

@[simp] theorem State.kick_good {pd : List Instr} {s : State} (hs : Good pd s) : Good pd (State.kick s) := by
  unfold State.kick
  try dsimp only
  repeat' (first | (with_reducible first | assumption | apply State.modSeqr_good))

@[simp] theorem State.roundIrqs_good {pd : List Instr} {s : State} (hs : Good pd s) : Good pd (State.roundIrqs s) := by
  unfold State.roundIrqs
  try dsimp only
  repeat' (first | (with_reducible first | assumption | apply State.raise_good | apply good_foldl | split))

@[simp] theorem State.enterRun_good {pd : List Instr} {s : State} (hs : Good pd s) : Good pd (State.enterRun s) := by
  unfold State.enterRun
  try dsimp only
  repeat' (first | (with_reducible first | assumption | apply State.modSeqr_good | apply over16_good | apply State.laneRun_good | apply State.kick_good | apply State.roundIrqs_good | apply good_foldl | split | intro _ | simp only [good_mk]))

@[simp] theorem State.nextAfter_good {pd : List Instr} {s : State} {t0 : BitVec 64} (hs : Good pd s) : Good pd (State.nextAfter s t0) := by
  unfold State.nextAfter
  try dsimp only
  repeat' (first | (with_reducible first | assumption | apply State.atBoundary_good | apply State.advanceTo_good | apply good_foldl | split))

@[simp] theorem State.nextAfterCmd_good {pd : List Instr} {s : State} (hs : Good pd s) : Good pd (State.nextAfterCmd s) := by
  unfold State.nextAfterCmd
  try dsimp only
  repeat' (first | (with_reducible first | assumption | apply State.nextAfter_good))

@[simp] theorem seqEnterRun_good {pd : List Instr} {s : State} (hs : Good pd s) : Good pd (seqEnterRun s) := by
  unfold seqEnterRun
  try dsimp only
  repeat' (first | (with_reducible first | assumption | apply State.nextAfterCmd_good | apply State.enterRun_good | apply good_foldl | split))

@[simp] theorem State.enterOff_good {pd : List Instr} {s : State} (hs : Good pd s) : Good pd (State.enterOff s) := by
  unfold State.enterOff
  try dsimp only
  repeat' (first | (with_reducible first | assumption | apply over16_good | apply State.abortSave_good | apply State.abortAll_good | apply State.closeContexts_good | apply State.modSeqr_good | apply State.modTime_good | apply State.settleLane_good | apply good_foldl | split | intro _ | simp only [good_mk]))

@[simp] theorem seqStopTakesEffect_good {pd : List Instr} {s : State} (hs : Good pd s) : Good pd (seqStopTakesEffect s) := by
  unfold seqStopTakesEffect
  try dsimp only
  repeat' (first | (with_reducible first | assumption | apply State.nextAfterCmd_good | apply State.enterOff_good | apply good_foldl | split))

@[simp] theorem State.tableError_good {pd : List Instr} {s : State} {k : Track} {i : Nat} (hs : Good pd s) : Good pd (State.tableError s k i) := by
  unfold State.tableError
  try dsimp only
  repeat' (first | (with_reducible first | assumption | apply State.incSat_good | apply State.logErr_good | apply State.raise_good | apply State.evidence_good | apply State.modSeqr_good | apply over16_good | apply State.settleLane_good))

@[simp] theorem trackWalkBegin_good {pd : List Instr} {corrected : Nat} {bad : Option (Fin 4 × Nat)} {s : State} (hs : Good pd s) : Good pd (trackWalkBegin corrected bad s) := by
  unfold trackWalkBegin
  try dsimp only
  repeat' (first | (with_reducible first | assumption | apply State.toPip_good | apply State.setFld_good | apply State.tableError_good | apply State.modSeqr_good | apply good_foldl | split))

@[simp] theorem State.roundRecord_good {pd : List Instr} {s : State} (hs : Good pd s) : Good pd (State.roundRecord s) := by
  unfold State.roundRecord
  try dsimp only
  repeat' (first | (with_reducible first | assumption | apply State.slip_good | apply State.recIrq_good | apply State.modSeqr_good | apply good_foldl | split))

@[simp] theorem State.endRound_good {pd : List Instr} {s : State} (hs : Good pd s) : Good pd (State.endRound s) := by
  unfold State.endRound
  try dsimp only
  repeat' (first | (with_reducible first | assumption | apply State.roundRecord_good | apply State.peak_good | apply State.modPair_good | apply State.stationsRound_good | apply State.coldRound_good | apply State.grantsRound_good | apply good_foldl | split))

@[simp] theorem State.applyMask_good {pd : List Instr} {s : State} (hs : Good pd s) : Good pd (State.applyMask s) := by
  unfold State.applyMask
  try dsimp only
  repeat' (first | (with_reducible first | assumption | apply State.modSeqr_good | apply State.raise_good | apply good_foldl | split))

@[simp] theorem State.beginTime_good {pd : List Instr} {s : State} (hs : Good pd s) : Good pd (State.beginTime s) := by
  unfold State.beginTime
  try dsimp only
  repeat' (first | (with_reducible first | assumption | apply State.countDisagree_good | apply State.modTime_good | apply good_foldl | split))

@[simp] theorem State.dropSelections_good {pd : List Instr} {s : State} {last : Option Word} (hs : Good pd s) :
    Good pd (s.dropSelections last) := by
  unfold State.dropSelections
  refine over16_good hs fun s k h => ?_
  cases last with
  | none => exact State.modSeqr_good h
  | some l =>
    dsimp only
    split
    · exact h
    · exact State.modSeqr_good h

@[simp] theorem State.passHold_good {pd : List Instr} {s : State} (hs : Good pd s) : Good pd (State.passHold s) := by
  unfold State.passHold
  try dsimp only
  repeat' (first | (with_reducible first | assumption | apply State.dropSelections_good | apply State.modTime_good | apply good_foldl | split))

@[simp] theorem State.runRound_good {pd : List Instr} {s : State} (hs : Good pd s) : Good pd (State.runRound s) := by
  unfold State.runRound
  try dsimp only
  repeat' (first | (with_reducible first | assumption | apply State.kick_good | apply State.roundIrqs_good | apply State.modSeqr_good | apply good_foldl | split))

@[simp] theorem State.pairRound_good {pd : List Instr} {s : State} (hs : Good pd s) : Good pd (State.pairRound s) := by
  unfold State.pairRound
  try dsimp only
  repeat' (first | (with_reducible first | assumption | apply State.showLead_good | apply State.sdCause_good | apply State.sdLanes_good | apply State.sdShow_good | apply State.modPair_good | apply State.castleRound_good | apply State.changeRound_good | apply State.joinExchange_good | apply State.xferRound_good | apply State.bootNotes_good | apply good_foldl | split))

@[simp] theorem State.rolesWritten_good {pd : List Instr} {s : State} (hs : Good pd s) : Good pd (State.rolesWritten s) := by
  unfold State.rolesWritten
  try dsimp only
  repeat' (first | (with_reducible first | assumption | apply good_foldl | split | intro _ | simp only [good_mk]))

@[simp] theorem State.beginRound_good {pd : List Instr} {s : State} (hs : Good pd s) : Good pd (State.beginRound s) := by
  unfold State.beginRound
  try dsimp only
  repeat' (first | (with_reducible first | assumption | apply State.beginTime_good | apply State.applyMask_good | apply State.passHold_good | apply State.runRound_good | apply State.rolesWritten_good | apply State.pairRound_good | apply State.sendHealth_good | apply State.wdtWarn_good | apply good_foldl | split))

@[simp] theorem roundBoundary_good {pd : List Instr} {s : State} (hs : Good pd s) : Good pd (roundBoundary s) := by
  unfold roundBoundary
  try dsimp only
  repeat' (first | (with_reducible first | assumption | apply State.advanceTo_good | apply State.endRound_good | apply State.makeStep_good | apply State.beginRound_good | apply good_foldl | split))

@[simp] theorem timeStep_good {pd : List Instr} {s : State} (hs : Good pd s) : Good pd (timeStep s) := by
  unfold timeStep
  try dsimp only
  repeat' (first | (with_reducible first | assumption | apply roundBoundary_good | apply good_foldl | split))

@[simp] theorem seqWatchdogExpiry_good {pd : List Instr} {s : State} (hs : Good pd s) : Good pd (seqWatchdogExpiry s) := by
  unfold seqWatchdogExpiry
  try dsimp only
  repeat' (first | (with_reducible first | assumption | apply State.waitOp_good | apply State.kick_good | apply State.assertSource_good | apply good_foldl | split))

@[simp] theorem State.finishSave_good {pd : List Instr} {s : State} {n : Fin 16} (hs : Good pd s) : Good pd (State.finishSave s n) := by
  unfold State.finishSave
  try dsimp only
  repeat' (first | (with_reducible first | assumption | apply State.saveJob_good | apply State.waitOp_good | apply State.modLane_good | apply good_foldl | split | intro _))

@[simp] theorem lockstepMismatch_good {pd : List Instr} {lane : Fin 16} {line : Fin 216} {pc : BitVec 20} {s : State} (hs : Good pd s) : Good pd (lockstepMismatch lane line pc s) := by
  unfold lockstepMismatch
  try dsimp only
  repeat' (first | (with_reducible first | assumption | apply State.finishSave_good | apply State.mismatch_good | apply good_foldl | split))

@[simp] theorem dualRailDisagree_good {pd : List Instr} {lane : Fin 16} {results : Bool} {s : State} (hs : Good pd s) : Good pd (dualRailDisagree lane results s) := by
  unfold dualRailDisagree
  try dsimp only
  repeat' (first | (with_reducible first | assumption | apply State.setFld_good | apply State.untrusted_good | apply good_foldl | split))

@[simp] theorem barSequenceStart_good {pd : List Instr} {lane : Fin 16} {s : State} (hs : Good pd s) : Good pd (barSequenceStart lane s) := by
  unfold barSequenceStart
  try dsimp only
  repeat' (first | (with_reducible first | assumption | apply State.advanceTo_good | apply State.incSat_good | apply State.setReg_good | apply State.modLane_good | apply good_foldl | split | intro _))

@[simp] theorem State.barDecided_good {pd : List Instr} {s : State} {n : Fin 16} {b : Option Nat} (hs : Good pd s) : Good pd (State.barDecided s n b) := by
  unfold State.barDecided
  try dsimp only
  repeat' (first | (with_reducible first | assumption | apply State.setFld_good | apply good_foldl | split))

@[simp] theorem barLbistDone_good {pd : List Instr} {lane : Fin 16} {pass : Bool} {s : State} (hs : Good pd s) : Good pd (barLbistDone lane pass s) := by
  unfold barLbistDone
  try dsimp only
  repeat' (first | (with_reducible first | assumption | apply State.waitOp_good | apply State.setFld_good | apply State.modLane_good | apply State.barDecided_good | apply State.untrusted_good | apply good_foldl | split | intro _))

@[simp] theorem State.barPassed_good {pd : List Instr} {s : State} {n : Fin 16} (hs : Good pd s) : Good pd (State.barPassed s n) := by
  unfold State.barPassed
  try dsimp only
  repeat' (first | (with_reducible first | assumption | apply State.barDecided_good | apply State.setLane_good | apply State.modLane_good | apply State.recIrq_good | apply State.laneRun_good | apply State.raise_good | apply good_foldl | split | intro _))

@[simp] theorem State.rollFailed_good {pd : List Instr} {s : State} {n : Fin 16} {point line : Nat} (hs : Good pd s) : Good pd (State.rollFailed s n point line) := by
  unfold State.rollFailed
  try dsimp only
  repeat' (first | (with_reducible first | assumption | apply State.setFld_good | apply State.untrusted_good))

@[simp] theorem barRollDone_good {pd : List Instr} {lane : Fin 16} {res : SegResult} {s : State} (hs : Good pd s) : Good pd (barRollDone lane res s) := by
  unfold barRollDone
  try dsimp only
  repeat' (first | (with_reducible first | assumption | apply State.waitOp_good | apply State.setFld_good | apply State.rollFailed_good | apply State.repairLane_good | apply State.barPassed_good | apply good_foldl | split))

@[simp] theorem powerOnTestDone_good {pd : List Instr} {lane : Fin 16} {lbist : Bool} {res : SegResult} {s : State} (hs : Good pd s) : Good pd (powerOnTestDone lane lbist res s) := by
  unfold powerOnTestDone
  try dsimp only
  repeat' (first | (with_reducible first | assumption | apply State.waitOp_good | apply State.setFld_good | apply State.untrusted_good | apply State.rollFailed_good | apply State.modLane_good | apply State.raise_good | apply State.recIrq_good | apply good_foldl | split | intro _))

@[simp] theorem State.onDebug_good {pd : List Instr} {s : State} {n : Fin 16} {f : State → State} (hs : Good pd s) (hf : ∀ (y0 : State), Good pd y0 → Good pd (f y0)) : Good pd (State.onDebug s n f) := by
  unfold State.onDebug
  try dsimp only
  repeat' (first | (with_reducible first | assumption | apply hf | apply State.downError_good | apply State.refuse_good | apply good_foldl | split))

@[simp] theorem claim_good {pd : List Instr} {lane : Fin 16} {s : State} (hs : Good pd s) : Good pd (claim lane s) := by
  unfold claim
  try dsimp only
  repeat' (first | (with_reducible first | assumption | apply State.onDebug_good | apply State.modLane_good | apply good_foldl | split | intro _))

@[simp] theorem release_good {pd : List Instr} {lane : Fin 16} {s : State} (hs : Good pd s) : Good pd (release lane s) := by
  unfold release
  try dsimp only
  repeat' (first | (with_reducible first | assumption | apply State.onDebug_good | apply State.modLane_good | apply good_foldl | split | intro _))

@[simp] theorem laneBenchChangeApply_good {pd : List Instr} {lane : Fin 16} {s : State} (hs : Good pd s) : Good pd (laneBenchChangeApply lane s) := by
  unfold laneBenchChangeApply
  try dsimp only
  repeat' (first | (with_reducible first | assumption | apply claim_good | apply State.nextAfter_good | apply State.freeLane_good | apply State.setLane_good | apply State.modLane_good | apply release_good | apply State.laneRun_good | apply good_foldl | split | intro _))

@[simp] theorem State.dbgHalt_good {pd : List Instr} {s : State} {n : Fin 16} (hs : Good pd s) : Good pd (State.dbgHalt s n) := by
  unfold State.dbgHalt
  try dsimp only
  repeat' (first | (with_reducible first | assumption | apply State.modLane_good | apply State.raise_good | apply good_foldl | split | intro _))

@[simp] theorem halt_good {pd : List Instr} {lane : Fin 16} {s : State} (hs : Good pd s) : Good pd (halt lane s) := by
  unfold halt
  try dsimp only
  repeat' (first | (with_reducible first | assumption | apply State.onDebug_good | apply State.dbgHalt_good | apply good_foldl | split | intro _))

@[simp] theorem resume_good {pd : List Instr} {lane : Fin 16} {s : State} (hs : Good pd s) : Good pd (resume lane s) := by
  unfold resume
  try dsimp only
  repeat' (first | (with_reducible first | assumption | apply State.onDebug_good | apply State.modLane_good | apply good_foldl | split | intro _))

@[simp] theorem stepLane_good {pd : List Instr} {lane : Fin 16} {s : State} (hs : Good pd s) : Good pd (stepLane lane s) := by
  unfold stepLane
  refine State.onDebug_good hs fun s h => ?_
  split
  · exact h
  · exact State.dbgHalt_good (State.issueAs_good h fun _ _ => fetchBody_good)

@[simp] theorem cmpDbgRegDataWrite_good {pd : List Instr} {value : Word} {s : State} (hs : Good pd s) : Good pd (cmpDbgRegDataWrite value s) := by
  unfold cmpDbgRegDataWrite
  dsimp only
  split
  · exact State.downError_good hs
  · split
    · exact State.refuse_good hs
    · exact State.modLane_good hs fun l hl => by simp [hl]

end Sys2Proof.Machine
end

