-- ==== Sys2Proof/Laws/KeepHost.lean ====
section
/-! SUPPORT. The invariant `Good` through rings, update, register accesses, clocks, the standard library and the tick: every function that answers a state keeps it. -/

open Sys2Proof
namespace Sys2Proof.Machine

@[simp] theorem State.setDesc_good {pd : List Instr} {s : State} {r : Nat} {d : Option DescRun} (hs : Good pd s) : Good pd (State.setDesc s r d) := by
  unfold State.setDesc
  try dsimp only
  repeat' (first | (with_reducible first | assumption | apply good_foldl | split | intro _ | simp only [good_mk]))

@[simp] theorem ringHeadWrite_good {pd : List Instr} {ring : Fin 64} {value : Word} {s : State} (hs : Good pd s) : Good pd (ringHeadWrite ring value s) := by
  unfold ringHeadWrite
  try dsimp only
  repeat' (first | (with_reducible first | assumption | apply State.downError_good | apply State.logErr_good | apply State.setReg_good | apply good_foldl | split))

@[simp] theorem State.abortDesc_good {pd : List Instr} {s : State} {r : Nat} (hs : Good pd s) : Good pd (State.abortDesc s r) := by
  unfold State.abortDesc
  try dsimp only
  repeat' (first | (with_reducible first | assumption | apply State.writeMem_good | apply State.setDesc_good | apply State.setFld_good | apply good_foldl | split))

@[simp] theorem ringCfgWrite_good {pd : List Instr} {ring : Fin 64} {ofs : BitVec 12} {value : Word} {s : State} (hs : Good pd s) : Good pd (ringCfgWrite ring ofs value s) := by
  unfold ringCfgWrite
  try dsimp only
  repeat' (first | (with_reducible first | assumption | apply State.downError_good | apply halt_good | apply State.refuse_good | apply State.setReg_good | apply State.logErr_good | apply State.abortDesc_good | apply good_foldl | split))

@[simp] theorem descriptorStart_good {pd : List Instr} {mover : Fin 4} {s : State} (hs : Good pd s) : Good pd (descriptorStart mover s) := by
  unfold descriptorStart
  try dsimp only
  repeat' (first | (with_reducible first | assumption | apply State.setDesc_good | apply good_foldl | split | intro _ | simp only [good_mk]))

@[simp] theorem State.moverByte_good {pd : List Instr} {s : State} {a : Nat} {b : Byte} {q : BitVec 4} (hs : Good pd s) : Good pd (State.moverByte s a b q) := by
  unfold State.moverByte
  try dsimp only
  repeat' (first | (with_reducible first | assumption | apply State.imemPut_good | apply State.migrateRange_good | apply State.writeMem_good | apply State.touchStore_good | apply good_foldl | split))

@[simp] theorem State.unpoison_good {pd : List Instr} {s : State} {a n : Nat} (hs : Good pd s) : Good pd (State.unpoison s a n) := by
  unfold State.unpoison
  try dsimp only
  repeat' (first | (with_reducible first | assumption | apply good_foldl | split | intro _ | simp only [good_mk]))

@[simp] theorem State.pageAddr_good {pd : List Instr} {s : State} {ctx va : Nat} {on : Option (Nat × Nat)} {write : Bool} (hs : Good pd s) : Good pd (State.pageAddr s ctx va on write).1 := by
  unfold State.pageAddr
  try dsimp only
  repeat' (first | (with_reducible first | assumption | apply State.translate_good | apply good_foldl | split))

theorem State.copyRun_good {pd : List Instr} : ∀ {n src dst : Nat} {s : State}, Good pd s → Good pd (s.copyRun src dst n)
  | 0, _, _, _, h => h
  | n + 1, src, dst, s, h => State.copyRun_good (n := n) (State.moverByte_good h)

theorem State.fillRun_good {pd : List Instr} {pat : Bytes} : ∀ {n i dst : Nat} {s : State}, Good pd s → Good pd (s.fillRun pat i dst n)
  | 0, _, _, _, h => h
  | n + 1, i, dst, s, h => State.fillRun_good (n := n) (State.moverByte_good h)

theorem State.runDesc_good {pd : List Instr} {ctx : Nat} {d : Desc} : ∀ {n a b : Nat} {pg : DescPages} {s : State}, Good pd s →
    Good pd (s.runDesc ctx d n a b pg).1
  | 0, _, _, _, _, h => h
  | n + 1, done, line, pg, s, h => by
    unfold State.runDesc
    split
    · exact h
    · extract_lets src dst x
      have hx : Good pd x.1 := by
        unfold x
        split
        · exact State.pageAddr_good h
        · exact h
      clear_value x
      split
      · exact hx
      · exact hx
      · split
        · exact hx
        · rename_i _ y _ _ _ _ _
          have hy : Good pd y.1 := State.pageAddr_good hx
          clear_value y
          split
          · exact hy
          · exact hy
          · refine State.runDesc_good (State.unpoison_good ?_)
            split
            · exact State.copyRun_good hy
            · exact State.fillRun_good hy

@[simp] theorem State.workDesc_good {pd : List Instr} {s : State} {x : DescRun} (hs : Good pd s) : Good pd (s.workDesc x).1 :=
  State.runDesc_good hs

@[simp] theorem State.endDesc_good {pd : List Instr} {s : State} {r : Nat} {code : Nat} {status : Word} {done : Nat} {irq : Bool} (hs : Good pd s) : Good pd (State.endDesc s r code status done irq) := by
  unfold State.endDesc
  try dsimp only
  repeat' (first | (with_reducible first | assumption | apply State.writeMem_good | apply State.setDesc_good | apply State.setReg_good | apply State.setFld_good | apply State.raise_good | apply good_foldl | split))

@[simp] theorem descriptorComplete_good {pd : List Instr} {ring : Fin 64} {s : State} (hs : Good pd s) : Good pd (descriptorComplete ring s) := by
  unfold descriptorComplete
  dsimp only
  split
  · exact hs
  · rename_i x d _
    split
    · exact State.raise_good (State.endDesc_good hs)
    · split
      · exact State.endDesc_good hs
      · have h2 := State.workDesc_good (x := x) hs
        split <;> rename_i e
        · rw [e] at h2; exact State.endDesc_good h2
        · rw [e] at h2; exact State.endDesc_good h2
        · exact hs

@[simp] theorem ringPageFault_good {pd : List Instr} {ring : Fin 64} {s : State} (hs : Good pd s) : Good pd (ringPageFault ring s) := by
  unfold ringPageFault
  dsimp only
  split
  · exact hs
  · rename_i x d _
    split
    · exact hs
    · have h2 := State.workDesc_good (x := x) hs
      split <;> rename_i e
      · rw [e] at h2
        repeat' (with_reducible first | assumption | apply State.logErr_good | apply State.raise_good | apply State.setReg_good | apply State.incSat_good | apply State.setFld_good | apply State.setDesc_good | apply State.writeMem_good)
      · exact hs

@[simp] theorem State.ringCmd_good {pd : List Instr} {s : State} {r : Nat} {f : State → DescRun → Nat → State} (hs : Good pd s) (hf : ∀ (y0 : State) (y1 : DescRun) (y2 : Nat), Good pd y0 → Good pd (f y0 y1 y2)) : Good pd (State.ringCmd s r f) := by
  unfold State.ringCmd
  try dsimp only
  repeat' (first | (with_reducible first | assumption | apply hf | apply State.downError_good | apply halt_good | apply State.refuse_good | apply good_foldl | split))

@[simp] theorem ringCmdResume_good {pd : List Instr} {ring : Fin 64} {s : State} (hs : Good pd s) : Good pd (ringCmdResume ring s) := by
  unfold ringCmdResume
  try dsimp only
  repeat' (first | (with_reducible first | assumption | apply State.ringCmd_good | apply State.setDesc_good | apply halt_good | apply State.setFld_good | apply good_foldl | split | intro _))

@[simp] theorem ringCmdSkip_good {pd : List Instr} {ring : Fin 64} {s : State} (hs : Good pd s) : Good pd (ringCmdSkip ring s) := by
  unfold ringCmdSkip
  try dsimp only
  repeat' (first | (with_reducible first | assumption | apply State.ringCmd_good | apply State.endDesc_good | apply good_foldl | split | intro _))

@[simp] theorem ringPush_good {pd : List Instr} {src : HapSrc} {msg : Bytes} {s : State} (hs : Good pd s) : Good pd (ringPush src msg s) := by
  unfold ringPush
  try dsimp only
  repeat' (first | (with_reducible first | assumption | apply State.hapRow_good | apply State.hapReply_good | apply State.writeMem_good | apply State.setReg_good | apply good_foldl | split | intro _))

@[simp] theorem ringPull_good {pd : List Instr} {src : HapSrc} {msg : Bytes} {s : State} (hs : Good pd s) : Good pd (ringPull src msg s) := by
  unfold ringPull
  try dsimp only
  repeat' (first | (with_reducible first | assumption | apply State.hapRow_good | apply State.hapReply_good | apply good_foldl | split | intro _))

@[simp] theorem State.modUpd_good {pd : List Instr} {s : State} {f : Update → Update} (hs : Good pd s) : Good pd (State.modUpd s f) := by
  unfold State.modUpd
  try dsimp only
  repeat' (first | (with_reducible first | assumption | apply good_foldl | split | intro _ | simp only [good_mk]))

@[simp] theorem State.updResult_good {pd : List Instr} {s : State} {code : Nat} (hs : Good pd s) : Good pd (State.updResult s code) := by
  unfold State.updResult
  try dsimp only
  repeat' (first | (with_reducible first | assumption | apply State.setFld_good | apply State.incWrap_good))

@[simp] theorem State.updDone_good {pd : List Instr} {s : State} {code : Nat} (hs : Good pd s) : Good pd (State.updDone s code) := by
  unfold State.updDone
  try dsimp only
  repeat' (first | (with_reducible first | assumption | apply State.updResult_good | apply State.raise_good))

@[simp] theorem State.updRefuse_good {pd : List Instr} {s : State} (hs : Good pd s) : Good pd (State.updRefuse s) := by
  unfold State.updRefuse
  try dsimp only
  repeat' (first | (with_reducible first | assumption | apply State.refuse_good))

@[simp] theorem State.imageBad_good {pd : List Instr} {s : State} {r : Nat} (hs : Good pd s) : Good pd (State.imageBad s r) := by
  unfold State.imageBad
  try dsimp only
  repeat' (first | (with_reducible first | assumption | apply State.logErr_good | apply State.updDone_good))

@[simp] theorem State.updBegin_good {pd : List Instr} {s : State} {op : UpdOp} (hs : Good pd s) : Good pd (State.updBegin s op) := by
  unfold State.updBegin
  try dsimp only
  repeat' (first | (with_reducible first | assumption | apply State.modUpd_good))

@[simp] theorem State.updEnd_good {pd : List Instr} {s : State} (hs : Good pd s) : Good pd (State.updEnd s) := by
  unfold State.updEnd
  try dsimp only
  repeat' (first | (with_reducible first | assumption | apply State.modUpd_good))

@[simp] theorem updCmdVerify_good {pd : List Instr} {s : State} (hs : Good pd s) : Good pd (updCmdVerify s) := by
  unfold updCmdVerify
  try dsimp only
  repeat' (first | (with_reducible first | assumption | apply State.onPage_good | apply State.updRefuse_good | apply State.updBegin_good | apply good_foldl | split | intro _))

@[simp] theorem updCmdStore_good {pd : List Instr} {s : State} (hs : Good pd s) : Good pd (updCmdStore s) := by
  unfold updCmdStore
  try dsimp only
  repeat' (first | (with_reducible first | assumption | apply State.onPage_good | apply State.updRefuse_good | apply State.updBegin_good | apply good_foldl | split | intro _))

@[simp] theorem updCmdDiscard_good {pd : List Instr} {s : State} (hs : Good pd s) : Good pd (updCmdDiscard s) := by
  unfold updCmdDiscard
  try dsimp only
  repeat' (first | (with_reducible first | assumption | apply State.onPage_good | apply State.updRefuse_good | apply State.setImg_good | apply State.setBank_good | apply State.updDone_good | apply good_foldl | split | intro _))

@[simp] theorem State.storeImage_good {pd : List Instr} {s : State} {img : Bytes} (hs : Good pd s) : Good pd (State.storeImage s img) := by
  unfold State.storeImage
  try dsimp only
  repeat' (first | (with_reducible first | assumption | apply State.setImg_good | apply State.setBank_good | apply State.writeLib_good))

@[simp] theorem State.reverifyNext_good {pd : List Instr} {s : State} (hs : Good pd s) : Good pd (State.reverifyNext s) := by
  unfold State.reverifyNext
  try dsimp only
  repeat' (first | (with_reducible first | assumption | apply State.modUpd_good | apply good_foldl | split))

@[simp] theorem State.endImageClaim_good {pd : List Instr} {s : State} (hs : Good pd s) : Good pd (State.endImageClaim s) := by
  unfold State.endImageClaim
  try dsimp only
  repeat' (first | (with_reducible first | assumption | apply State.setClaim_good))

@[simp] theorem updCmdDone_good {pd : List Instr} {flashOk : Bool} {s : State} (hs : Good pd s) : Good pd (updCmdDone flashOk s) := by
  unfold updCmdDone
  try dsimp only
  repeat' (first | (with_reducible first | assumption | apply State.updEnd_good | apply State.endImageClaim_good | apply State.reverifyNext_good | apply State.imageBad_good | apply State.updDone_good | apply State.setImg_good | apply State.setBank_good | apply State.raise_good | apply State.storeImage_good | apply State.writeMem_good | apply State.modUpd_good | apply good_foldl | split))

@[simp] theorem updCmdHandover_good {pd : List Instr} {s : State} (hs : Good pd s) : Good pd (updCmdHandover s) := by
  unfold updCmdHandover
  try dsimp only
  repeat' (first | (with_reducible first | assumption | apply State.onPage_good | apply State.updRefuse_good | apply State.modUpd_good | apply good_foldl | split | intro _))

@[simp] theorem updCmdCancel_good {pd : List Instr} {s : State} (hs : Good pd s) : Good pd (updCmdCancel s) := by
  unfold updCmdCancel
  try dsimp only
  repeat' (first | (with_reducible first | assumption | apply State.onPage_good | apply State.updRefuse_good | apply State.modUpd_good | apply State.updDone_good | apply good_foldl | split | intro _))

@[simp] theorem State.wdtPause_good {pd : List Instr} {s : State} (hs : Good pd s) : Good pd (State.wdtPause s) := by
  unfold State.wdtPause
  try dsimp only
  repeat' (first | (with_reducible first | assumption | apply good_foldl | split | intro _ | simp only [good_mk]))

@[simp] theorem State.wdtResume_good {pd : List Instr} {s : State} (hs : Good pd s) : Good pd (State.wdtResume s) := by
  unfold State.wdtResume
  try dsimp only
  repeat' (first | (with_reducible first | assumption | apply good_foldl | split | intro _ | simp only [good_mk]))

@[simp] theorem State.hoBegin_good {pd : List Instr} {s : State} {ret : Bool} (hs : Good pd s) : Good pd (State.hoBegin s ret) := by
  unfold State.hoBegin
  try dsimp only
  repeat' (first | (with_reducible first | assumption | apply State.modUpd_good | apply State.wdtPause_good))

@[simp] theorem handoverSwitchPoint_good {pd : List Instr} {s : State} (hs : Good pd s) : Good pd (handoverSwitchPoint s) := by
  unfold handoverSwitchPoint
  try dsimp only
  repeat' (first | (with_reducible first | assumption | apply State.atBoundary_good | apply State.hoBegin_good | apply good_foldl | split))

@[simp] theorem State.loadBrdFmt_good {pd : List Instr} {s : State} (hs : Good pd s) : Good pd (State.loadBrdFmt s) := by
  unfold State.loadBrdFmt
  try dsimp only
  repeat' (first | (with_reducible first | assumption | apply State.setReg_good))

@[simp] theorem State.startSettings_good {pd : List Instr} {s : State} {written : Bool} (hs : Good pd s) : Good pd (State.startSettings s written) := by
  unfold State.startSettings
  try dsimp only
  repeat' (first | (with_reducible first | assumption | apply State.useSettings_good | apply State.modUpd_good | apply State.setFld_good | apply State.event_good | apply State.logErr_good | apply State.raise_good | apply good_foldl | split))

@[simp] theorem State.returnSettings_good {pd : List Instr} {s : State} (hs : Good pd s) : Good pd (State.returnSettings s) := by
  unfold State.returnSettings
  try dsimp only
  repeat' (first | (with_reducible first | assumption | apply State.useSettings_good | apply State.modUpd_good | apply State.event_good | apply good_foldl | split))

@[simp] theorem State.handed_good {pd : List Instr} {s : State} {len : Word} {w : HandedWrites} (hs : Good pd s) : Good pd (State.handed s len w) := by
  unfold State.handed
  try dsimp only
  repeat' (first | (with_reducible first | assumption | apply State.writeBanks_good | apply State.modUpd_good | apply State.startSettings_good | apply State.loadBrdFmt_good | apply State.updResult_good | apply State.raise_good | apply State.wdtResume_good))

@[simp] theorem State.returned_good {pd : List Instr} {s : State} {len : Word} (hs : Good pd s) : Good pd (State.returned s len) := by
  unfold State.returned
  try dsimp only
  repeat' (first | (with_reducible first | assumption | apply State.modUpd_good | apply State.returnSettings_good | apply State.loadBrdFmt_good | apply State.incSat_good | apply State.event_good | apply State.updResult_good | apply State.raise_good | apply State.wdtResume_good | apply good_foldl | split | intro _ | simp only [good_mk]))

@[simp] theorem State.returnEnds_good {pd : List Instr} {s : State} (hs : Good pd s) : Good pd (State.returnEnds s) := by
  unfold State.returnEnds
  try dsimp only
  repeat' (first | (with_reducible first | assumption | apply State.setBank_good | apply State.modUpd_good | apply good_foldl | split))

@[simp] theorem State.hoFail_good {pd : List Instr} {s : State} {step : Nat} (hs : Good pd s) : Good pd (State.hoFail s step) := by
  unfold State.hoFail
  try dsimp only
  repeat' (first | (with_reducible first | assumption | apply State.startSteward_good | apply State.forward_good | apply State.raise_good | apply State.logErr_good | apply State.modUpd_good | apply State.updResult_good | apply State.wdtResume_good | apply good_foldl | split))

@[simp] theorem State.hoStarting_good {pd : List Instr} {s : State} {ms : Nat} (hs : Good pd s) : Good pd (State.hoStarting s ms) := by
  unfold State.hoStarting
  try dsimp only
  repeat' (first | (with_reducible first | assumption | apply State.startSteward_good | apply State.forward_good | apply State.setFld_good | apply State.modUpd_good))

@[simp] theorem serLimitExpiry_good {pd : List Instr} {s : State} (hs : Good pd s) : Good pd (serLimitExpiry s) := by
  unfold serLimitExpiry
  try dsimp only
  repeat' (first | (with_reducible first | assumption | apply State.waitOp_good | apply State.modUpd_good | apply State.hoStarting_good | apply State.hoFail_good | apply good_foldl | split))

@[simp] theorem startLimitExpiry_good {pd : List Instr} {s : State} (hs : Good pd s) : Good pd (startLimitExpiry s) := by
  unfold startLimitExpiry
  try dsimp only
  repeat' (first | (with_reducible first | assumption | apply State.waitOp_good | apply State.hoFail_good | apply good_foldl | split))

@[simp] theorem updHoSerialised_good {pd : List Instr} {hap : Bool} {ms : BitVec 16} {block : Bytes} {s : State} (hs : Good pd s) : Good pd (updHoSerialised hap ms block s) := by
  unfold updHoSerialised
  try dsimp only
  repeat' (first | (with_reducible first | assumption | apply State.downError_good | apply State.refuse_good | apply serLimitExpiry_good | apply State.waitOp_good | apply State.writeMem_good | apply State.forward_good | apply State.hoStarting_good | apply good_foldl | split))

@[simp] theorem updHoHanded_good {pd : List Instr} {hap : Bool} {ms : BitVec 16} {len : Word} {w : HandedWrites} {s : State} (hs : Good pd s) : Good pd (updHoHanded hap ms len w s) := by
  unfold updHoHanded
  try dsimp only
  repeat' (first | (with_reducible first | assumption | apply State.downError_good | apply State.refuse_good | apply startLimitExpiry_good | apply State.waitOp_good | apply State.setFld_good | apply State.returned_good | apply State.handed_good | apply State.canServe_good | apply good_foldl | split))

@[simp] theorem State.dropLibJob_good {pd : List Instr} {s : State} {n : Fin 16} (hs : Good pd s) : Good pd (State.dropLibJob s n).1 := by
  unfold State.dropLibJob
  try dsimp only
  repeat' (first | (with_reducible first | assumption | apply State.writeMem_good | apply good_foldl | split))

@[simp] theorem librarySwitch_good {pd : List Instr} {s : State} (hs : Good pd s) : Good pd (librarySwitch s) := by
  unfold librarySwitch
  split
  · exact hs
  · extract_lets t0 t1 t2 t r
    have h0 : Good pd t0 := State.atBoundary_good hs
    have h1 : Good pd t1 := over16_good h0 fun s n h => by
      split
      · exact State.saveJob_good h
      · exact h
    have h2 : Good pd t2 := over16_good h1 fun s n h => by
      split
      · exact State.setFld_good h
      · exact h
    have ht : Good pd t := State.modUpd_good h2
    have hr : Good pd r.1 := by
      have hl : ∀ (l : List (Fin 16)) (x : State × Nat), Good pd x.1 → Good pd (l.foldl (fun (x : State × Nat) n =>
          if x.1.domainUp (4 + n.val / 4) then ((x.1.dropLibJob n).1, x.2 + (x.1.dropLibJob n).2) else x) x).1 := by
        intro l
        induction l with
        | nil => exact fun _ h => h
        | cons n l ih =>
          intro x h
          refine ih _ ?_
          dsimp only
          split
          · exact State.dropLibJob_good h
          · exact h
      exact hl _ (t, 0) ht
    clear_value r t
    exact State.event_good (State.returnEnds_good hr)

@[simp] theorem State.trialFailed_good {pd : List Instr} {s : State} {cause code : Nat} (hs : Good pd s) : Good pd (State.trialFailed s cause code) := by
  unfold State.trialFailed
  try dsimp only
  repeat' (first | (with_reducible first | assumption | apply State.modUpd_good))

@[simp] theorem confLimitExpiry_good {pd : List Instr} {s : State} (hs : Good pd s) : Good pd (confLimitExpiry s) := by
  unfold confLimitExpiry
  try dsimp only
  repeat' (first | (with_reducible first | assumption | apply State.waitOp_good | apply State.trialFailed_good | apply good_foldl | split))

@[simp] theorem State.trialDue_good {pd : List Instr} {s : State} (hs : Good pd s) : Good pd (State.trialDue s) := by
  unfold State.trialDue
  try dsimp only
  repeat' (first | (with_reducible first | assumption | apply confLimitExpiry_good | apply good_foldl | split))

@[simp] theorem updConfirmOk_good {pd : List Instr} {hap : Bool} {key : BitVec 16} {written : Bool} {s : State} (hs : Good pd s) : Good pd (updConfirmOk hap key written s) := by
  unfold updConfirmOk
  try dsimp only
  repeat' (first | (with_reducible first | assumption | apply State.downError_good | apply State.refuse_good | apply State.trialDue_good | apply State.writeBanks_good | apply State.modUpd_good | apply State.raise_good | apply good_foldl | split))

@[simp] theorem updConfirmFail_good {pd : List Instr} {hap : Bool} {code : Byte} {s : State} (hs : Good pd s) : Good pd (updConfirmFail hap code s) := by
  unfold updConfirmFail
  try dsimp only
  repeat' (first | (with_reducible first | assumption | apply State.downError_good | apply State.refuse_good | apply State.trialDue_good | apply State.trialFailed_good | apply good_foldl | split))

@[simp] theorem fallbackReturn_good {pd : List Instr} {s : State} (hs : Good pd s) : Good pd (fallbackReturn s) := by
  unfold fallbackReturn
  try dsimp only
  repeat' (first | (with_reducible first | assumption | apply State.atBoundary_good | apply State.raise_good | apply State.logErr_good | apply State.hoBegin_good | apply good_foldl | split))

@[simp] theorem State.sysErr_good {pd : List Instr} {s : State} {code : Nat} {info : Nat} (hs : Good pd s) : Good pd (State.sysErr s code info) := by
  unfold State.sysErr
  try dsimp only
  repeat' (first | (with_reducible first | assumption | apply State.logErr_good | apply good_foldl | split))

@[simp] theorem State.writeLock_good {pd : List Instr} {s : State} {p : Nat} {v : Word} (hs : Good pd s) : Good pd (State.writeLock s p v) := by
  unfold State.writeLock
  try dsimp only
  repeat' (first | (with_reducible first | assumption | apply State.setReg_good | apply good_foldl | split))

@[simp] theorem State.latchLevels_good {pd : List Instr} {s : State} {p : Nat} (hs : Good pd s) : Good pd (State.latchLevels s p) := by
  unfold State.latchLevels
  try dsimp only
  repeat' (first | (with_reducible first | assumption | apply State.setReg_good))

@[simp] theorem State.clearIrq_good {pd : List Instr} {s : State} {p : Nat} {v rising : Word} (hs : Good pd s) : Good pd (State.clearIrq s p v rising) := by
  unfold State.clearIrq
  try dsimp only
  repeat' (first | (with_reducible first | assumption | apply State.setReg_good | apply State.latchLevels_good))

@[simp] theorem State.clearErr_good {pd : List Instr} {s : State} {p : Nat} {v : Word} (hs : Good pd s) : Good pd (State.clearErr s p v) := by
  unfold State.clearErr
  try dsimp only
  repeat' (first | (with_reducible first | assumption | apply State.setReg_good | apply State.setFld_good | apply good_foldl | split))

@[simp] theorem State.blockReset_good {pd : List Instr} {s : State} {p : Nat} (hs : Good pd s) : Good pd (State.blockReset s p) := by
  unfold State.blockReset
  try dsimp only
  repeat' (first | (with_reducible first | assumption | apply State.resetRegs_good | apply State.modLane_good | apply State.modCan_good | apply good_foldl | split | intro _ | simp only [good_mk]))

@[simp] theorem State.writeBrst_good {pd : List Instr} {s : State} {p : Nat} {v : Word} (hs : Good pd s) : Good pd (State.writeBrst s p v) := by
  unfold State.writeBrst
  try dsimp only
  repeat' (first | (with_reducible first | assumption | apply State.blockReset_good | apply State.logErr_good | apply good_foldl | split))

@[simp] theorem State.writeHeader_good {pd : List Instr} {s : State} {p ofs : Nat} {v : Word} (hs : Good pd s) : Good pd (State.writeHeader s p ofs v) := by
  unfold State.writeHeader
  try dsimp only
  repeat' (first | (with_reducible first | assumption | apply State.setReg_good | apply State.latchLevels_good | apply State.clearIrq_good | apply State.writeLock_good | apply State.clearErr_good | apply State.writeBrst_good | apply good_foldl | split))

@[simp] theorem State.writePlain_good {pd : List Instr} {s : State} {p : Nat} {r : RegSpec} {v : Word} (hs : Good pd s) : Good pd (State.writePlain s p r v) := by
  unfold State.writePlain
  try dsimp only
  repeat' (first | (with_reducible first | assumption | apply State.setReg_good | apply State.logErr_good | apply good_foldl | split))

@[simp] theorem pick_good {pd : List Instr} {n : Nat} {l : List (Nat × (State → State))} {s : State} (hs : Good pd s)
    (hl : ∀ x ∈ l, ∀ s, Good pd s → Good pd (x.2 s)) : Good pd (pick n l s) := by
  unfold pick
  split
  · rename_i x h
    exact hl x (List.mem_of_find?_eq_some h) s hs
  · exact hs

@[simp] theorem State.writeTimCtrl_good {pd : List Instr} {s : State} {r : RegSpec} {v : Word} (hs : Good pd s) : Good pd (State.writeTimCtrl s r v) := by
  unfold State.writeTimCtrl
  try dsimp only
  repeat' (first | (with_reducible first | assumption | apply State.writePlain_good | apply State.logErr_good | apply good_foldl | split))

@[simp] theorem State.writeClkSel_good {pd : List Instr} {s : State} {r : RegSpec} {v : Word} (hs : Good pd s) : Good pd (State.writeClkSel s r v) := by
  unfold State.writeClkSel
  try dsimp only
  repeat' (first | (with_reducible first | assumption | apply State.logErr_good | apply State.writePlain_good | apply good_foldl | split))

@[simp] theorem State.writeHoCmd_good {pd : List Instr} {s : State} {v : Word} {hap : Bool} (hs : Good pd s) : Good pd (State.writeHoCmd s v hap) := by
  unfold State.writeHoCmd
  try dsimp only
  repeat' (first | (with_reducible first | assumption | apply State.refuse_good | apply updHoSerialised_good | apply updHoHanded_good | apply State.takeFree_good | apply good_foldl | split))

@[simp] theorem State.writeConfirm_good {pd : List Instr} {s : State} {v : Word} {hap : Bool} (hs : Good pd s) : Good pd (State.writeConfirm s v hap) := by
  unfold State.writeConfirm
  try dsimp only
  repeat' (first | (with_reducible first | assumption | apply State.refuse_good | apply updConfirmOk_good | apply updConfirmFail_good | apply good_foldl | split))

@[simp] theorem State.writePort_good {pd : List Instr} {s : State} {r : RegSpec} {v : Word} {port : Fin 2} (hs : Good pd s) : Good pd (State.writePort s r v port) := by
  unfold State.writePort
  try dsimp only
  repeat' (first | (with_reducible first | assumption | apply State.writePlain_good | apply hostLinkChange_good | apply good_foldl | split))

@[simp] theorem State.writeTxCmd_good {pd : List Instr} {s : State} {c : Fin 2} {v : Word} (hs : Good pd s) : Good pd (State.writeTxCmd s c v) := by
  unfold State.writeTxCmd
  try dsimp only
  repeat' (first | (with_reducible first | assumption | apply canTxReq_good | apply State.takeFree_good | apply canTxAbort_good | apply good_foldl | split))

@[simp] theorem State.writeTxWindow_good {pd : List Instr} {s : State} {c : Fin 2} {r : RegSpec} {v : Word} (hs : Good pd s) : Good pd (State.writeTxWindow s c r v) := by
  unfold State.writeTxWindow
  try dsimp only
  repeat' (first | (with_reducible first | assumption | apply State.refuse_good | apply State.writePlain_good | apply good_foldl | split))

/-- Every action that an optional action stands for keeps the invariant. -/
def Keeps (pd : List Instr) (o : Option (State → State)) : Prop := ∀ f, o = some f → ∀ s, Good pd s → Good pd (f s)

theorem keeps_none {pd : List Instr} : Keeps pd none := by intro f h; cases h

theorem keeps_some {pd : List Instr} {f : State → State} (h : ∀ s, Good pd s → Good pd (f s)) : Keeps pd (some f) := by
  intro g e; cases e; exact h

theorem keeps_ite {pd : List Instr} {c : Prop} [Decidable c] {a b : Option (State → State)} (ha : Keeps pd a) (hb : Keeps pd b) :
    Keeps pd (if c then a else b) := by split <;> assumption

theorem orElseA_good {pd : List Instr} {o : Option (State → State)} {f : Unit → Option (State → State)}
    (h : Keeps pd o) (hf : Keeps pd (f ())) : Keeps pd (orElseA o f) := by
  unfold orElseA; split
  · exact h
  · exact hf

/-- What a register write that acts does keeps the invariant. -/
theorem writeSeq_good {pd : List Instr} {p ofs : Nat} {r : RegSpec} {v : Word} : Keeps pd (writeSeq p ofs r v) := by
  unfold writeSeq
  try dsimp only
  repeat' (with_reducible first | exact keeps_none | apply keeps_some | apply keeps_ite)
  all_goals intro _ _
  all_goals
    repeat' (with_reducible first | assumption | apply State.writeClkSel_good | apply State.writeTimCtrl_good | apply timExtOfsWrite_good | apply timStepCmd_good | apply State.refuse_good | apply brdCmdVerify_good | apply brdCmdStore_good | apply brdCmdArm_good | apply brdCmdDisarm_good | apply brdCmdDiscard_good | apply brdCmdActivate_good | apply bsqStart_good | apply bsqStop_good | apply claim_good | apply release_good | apply halt_good | apply resume_good | apply stepLane_good | apply cmpDbgRegDataWrite_good | apply pairCmdLead_good | apply pairCmdJoin_good | apply pairCmdCastle_good | apply pairCmdChange_good | apply pairCmdStandDown_good | apply pairCmdBench_good | apply pairCmdAbortJoin_good | apply pairCmdResetPartner_good | apply pick_good | split | rw [List.forall_mem_cons] | exact List.forall_mem_nil _ | intro _ | apply And.intro)

/-- What a register write that acts does keeps the invariant. -/
theorem writeNet_good {pd : List Instr} {p ofs : Nat} {r : RegSpec} {v : Word} : Keeps pd (writeNet p ofs r v) := by
  unfold writeNet
  try dsimp only
  repeat' (with_reducible first | exact keeps_none | apply keeps_some | apply keeps_ite)
  all_goals intro _ _
  all_goals
    repeat' (with_reducible first | assumption | apply regionWrite_good | apply State.writeRoot_good | apply mmuInv_good | apply ringCfgWrite_good | apply ringHeadWrite_good | apply ringCmdResume_good | apply ringCmdSkip_good | apply retrain_good | apply mbsClrSlot_good | apply mbsClrAll_good | apply pick_good | split | rw [List.forall_mem_cons] | exact List.forall_mem_nil _ | intro _ | apply And.intro)

/-- What a register write that acts does keeps the invariant. -/
theorem writeRst_good {pd : List Instr} {p ofs : Nat} {r : RegSpec} {v : Word} {hap : Bool} : Keeps pd (writeRst p ofs r v hap) := by
  unfold writeRst
  try dsimp only
  repeat' (with_reducible first | exact keeps_none | apply keeps_some | apply keeps_ite)
  all_goals intro _ _
  all_goals
    repeat' (with_reducible first | assumption | apply rstSw_good | apply State.writePlain_good | apply sysOptCmdWrite_good | apply sysFuseCmdBurn_good | apply secKeyStore_good | apply secKeyEnable_good | apply secKeyDisable_good | apply secKeyRevoke_good | apply recSubCmd_good | apply recRdCmdRead_good | apply updCmdVerify_good | apply updCmdStore_good | apply updCmdDiscard_good | apply updCmdHandover_good | apply updCmdCancel_good | apply State.writeHoCmd_good | apply State.writeConfirm_good | apply pick_good | split | rw [List.forall_mem_cons] | exact List.forall_mem_nil _ | intro _ | apply And.intro)

/-- What a register write that acts does keeps the invariant. -/
theorem writeHost_good {pd : List Instr} {p ofs : Nat} {r : RegSpec} {v : Word} {src : Option (BitVec 8)} : Keeps pd (writeHost p ofs r v src) := by
  unfold writeHost
  try dsimp only
  repeat' (with_reducible first | exact keeps_none | apply keeps_some | apply keeps_ite)
  all_goals intro _ _
  all_goals
    repeat' (with_reducible first | assumption | apply stwWdtKick_good | apply State.writePort_good | apply hapKeyStore_good | apply hapKeyEnable_good | apply hapKeyDisable_good | apply hapKeyErase_good | apply canCtrlWrite_good | apply State.refuse_good | apply State.writePlain_good | apply canCmdRecover_good | apply canRxPop_good | apply State.writeTxWindow_good | apply State.writeTxCmd_good | apply fioCfgWrite_good | apply fioCmdClear_good | apply loopTestWrite_good | apply pick_good | split | rw [List.forall_mem_cons] | exact List.forall_mem_nil _ | intro _ | apply And.intro | simp only [good_mk])

@[simp] theorem State.writeAt_good {pd : List Instr} {s : State} {p ofs : Nat} {v : Word} {src : Option (BitVec 8)} (hs : Good pd s) :
    Good pd (s.writeAt p ofs v src) := by
  unfold State.writeAt
  split
  · exact State.writeHeader_good hs
  · split
    · exact hs
    · split
      · rename_i f h
        exact orElseA_good writeSeq_good (orElseA_good writeNet_good (orElseA_good writeRst_good writeHost_good)) f h s hs
      · exact State.writePlain_good hs

@[simp] theorem State.busWrite_good {pd : List Instr} {s : State} {addr width : Nat} {v : Word} {src : Option (BitVec 8)} (hs : Good pd s) : Good pd (State.busWrite s addr width v src) := by
  unfold State.busWrite
  try dsimp only
  repeat' (first | (with_reducible first | assumption | apply State.sysErr_good | apply State.writeAt_good | apply good_foldl | split))

@[simp] theorem State.readEffect_good {pd : List Instr} {s : State} {k : Nat} (hs : Good pd s) : Good pd (State.readEffect s k) := by
  unfold State.readEffect
  try dsimp only
  repeat' (first | (with_reducible first | assumption | apply timNowLoRead_good | apply rstOptimeLoRead_good | apply hapCtrLoRead_good | apply hstTsPop_good | apply State.refuse_good | apply good_foldl | split))

@[simp] theorem State.busRead_good {pd : List Instr} {s : State} {addr : Nat} (hs : Good pd s) : Good pd (State.busRead s addr).1 := by
  unfold State.busRead
  try dsimp only
  repeat' (first | (with_reducible first | assumption | apply State.sysErr_good | apply State.readEffect_good | apply good_foldl | split))

@[simp] theorem ItemRun.reply_good {pd : List Instr} {r : ItemRun} {m : HapMsg} (h : Good pd r.s) : Good pd (r.reply m) := by
  unfold ItemRun.reply
  split <;> exact State.hapReply_good h

/-- A fold over the items of a message keeps the invariant. -/
theorem itemFold_good {pd : List Instr} {α : Type} {f : ItemRun → α → ItemRun} (hf : ∀ r x, Good pd r.s → Good pd (f r x).s) :
    ∀ {l : List α} {r : ItemRun}, Good pd r.s → Good pd (l.foldl f r).s
  | [], _, h => h
  | x :: l, r, h => itemFold_good hf (l := l) (r := f r x) (hf r x h)

@[simp] theorem State.readMsg_good {pd : List Instr} {s : State} {m : HapMsg} (hs : Good pd s) : Good pd (State.readMsg s m) := by
  unfold State.readMsg
  dsimp only
  repeat' (with_reducible first | assumption | apply ItemRun.reply_good | apply State.hapReply_good | apply State.writeMem_good | split)
  exact itemFold_good (fun r x h => State.busRead_good h) hs

@[simp] theorem State.writeMsg_good {pd : List Instr} {s : State} {m : HapMsg} (hs : Good pd s) : Good pd (State.writeMsg s m) := by
  unfold State.writeMsg
  dsimp only
  repeat' (with_reducible first | assumption | apply ItemRun.reply_good | apply State.hapReply_good | apply State.writeMem_good | split)
  exact itemFold_good (fun r x h => State.busWrite_good h) hs

@[simp] theorem registerWrite_good {pd : List Instr} {addr : BitVec 20} {width : BitVec 4} {value : Word} {s : State} (hs : Good pd s) : Good pd (registerWrite addr width value s) := by
  unfold registerWrite
  try dsimp only
  repeat' (first | (with_reducible first | assumption | apply State.busWrite_good))

@[simp] theorem State.headerWrite_good {pd : List Instr} {s : State} {page : BitVec 8} {ofs : Nat} {f : State → State} (hs : Good pd s) (hf : ∀ (y0 : State), Good pd y0 → Good pd (f y0)) : Good pd (State.headerWrite s page ofs f) := by
  unfold State.headerWrite
  try dsimp only
  repeat' (first | (with_reducible first | assumption | apply hf | apply State.sysErr_good | apply good_foldl | split))

@[simp] theorem pgLockWrite_good {pd : List Instr} {page : BitVec 8} {value : Word} {s : State} (hs : Good pd s) : Good pd (pgLockWrite page value s) := by
  unfold pgLockWrite
  try dsimp only
  repeat' (first | (with_reducible first | assumption | apply State.headerWrite_good | apply State.writeLock_good | apply good_foldl | split | intro _))

@[simp] theorem pgBrstWrite_good {pd : List Instr} {page : BitVec 8} {value : Word} {s : State} (hs : Good pd s) : Good pd (pgBrstWrite page value s) := by
  unfold pgBrstWrite
  try dsimp only
  repeat' (first | (with_reducible first | assumption | apply State.headerWrite_good | apply State.writeBrst_good | apply good_foldl | split | intro _))

@[simp] theorem pgIrqClear_good {pd : List Instr} {page : BitVec 8} {value rising : Word} {s : State} (hs : Good pd s) : Good pd (pgIrqClear page value rising s) := by
  unfold pgIrqClear
  try dsimp only
  repeat' (first | (with_reducible first | assumption | apply State.headerWrite_good | apply State.clearIrq_good | apply good_foldl | split | intro _))

@[simp] theorem pgErrClear_good {pd : List Instr} {page : BitVec 8} {value : Word} {err : Option (BitVec 16 × Word)} {s : State} (hs : Good pd s) : Good pd (pgErrClear page value err s) := by
  unfold pgErrClear
  try dsimp only
  repeat' (first | (with_reducible first | assumption | apply State.headerWrite_good | apply State.clearErr_good | apply State.logErr_good | apply good_foldl | split | intro _))

@[simp] theorem hapRead_good {pd : List Instr} {src : HapSrc} {msg : Bytes} {s : State} (hs : Good pd s) : Good pd (hapRead src msg s) := by
  unfold hapRead
  try dsimp only
  repeat' (first | (with_reducible first | assumption | apply State.hapIntake_good | apply State.readMsg_good))

@[simp] theorem hapWrite_good {pd : List Instr} {src : HapSrc} {msg : Bytes} {s : State} (hs : Good pd s) : Good pd (hapWrite src msg s) := by
  unfold hapWrite
  try dsimp only
  repeat' (first | (with_reducible first | assumption | apply State.hapIntake_good | apply State.writeMsg_good))

@[simp] theorem State.recoveredLost_good {pd : List Instr} {s : State} {i : Nat} (hs : Good pd s) : Good pd (State.recoveredLost s i) := by
  unfold State.recoveredLost
  try dsimp only
  repeat' (first | (with_reducible first | assumption | apply State.dropLink_good | apply State.portLost_good | apply good_foldl | split))

@[simp] theorem State.clockBad_good {pd : List Instr} {s : State} {i : Nat} (hs : Good pd s) : Good pd (State.clockBad s i) := by
  unfold State.clockBad
  try dsimp only
  repeat' (first | (with_reducible first | assumption | apply State.clockOff_good | apply State.setFld_good | apply State.raise_good | apply State.clockLost_good | apply State.recoveredLost_good | apply good_foldl | split))

@[simp] theorem State.clockOn_good {pd : List Instr} {s : State} {i : Nat} (hs : Good pd s) : Good pd (State.clockOn s i) := by
  unfold State.clockOn
  try dsimp only
  repeat' (first | (with_reducible first | assumption | apply State.setFld_good | apply good_foldl | split | intro _ | simp only [good_mk]))

@[simp] theorem clockMonitorWindowEnd_good {pd : List Instr} {idx : Fin 20} {count : BitVec 16} {s : State} (hs : Good pd s) : Good pd (clockMonitorWindowEnd idx count s) := by
  unfold clockMonitorWindowEnd
  try dsimp only
  repeat' (first | (with_reducible first | assumption | apply State.clockOn_good | apply State.setReg_good | apply State.clockBad_good | apply good_foldl | split))

@[simp] theorem pllLossOfLock_good {pd : List Instr} {idx : Fin 20} {s : State} (hs : Good pd s) : Good pd (pllLossOfLock idx s) := by
  unfold pllLossOfLock
  try dsimp only
  repeat' (first | (with_reducible first | assumption | apply State.setFld_good | apply State.clockBad_good | apply good_foldl | split))

@[simp] theorem State.setXtal_good {pd : List Instr} {s : State} {b : Bool} (hs : Good pd s) : Good pd (State.setXtal s b) := by
  unfold State.setXtal
  try dsimp only
  repeat' (first | (with_reducible first | assumption | apply State.setFld_good | apply good_foldl | split | intro _ | simp only [good_mk]))

@[simp] theorem xtalStop_good {pd : List Instr} {s : State} (hs : Good pd s) : Good pd (xtalStop s) := by
  unfold xtalStop
  try dsimp only
  repeat' (first | (with_reducible first | assumption | apply State.setXtal_good | apply State.recIrq_good | apply good_foldl | split))

@[simp] theorem xtalRestart_good {pd : List Instr} {s : State} (hs : Good pd s) : Good pd (xtalRestart s) := by
  unfold xtalRestart
  try dsimp only
  repeat' (first | (with_reducible first | assumption | apply State.setXtal_good))

@[simp] theorem State.storeWords_good {pd : List Instr} {n : Fin 16} {ws : List Word} :
    ∀ {s s' : State} {a : Nat}, Good pd s → s.storeWords n a ws = some s' → Good pd s' := by
  induction ws with
  | nil => intro s s' a h e; cases e; exact h
  | cons w ws ih =>
    intro s s' a h e
    unfold State.storeWords at e
    split at e
    · exact ih (State.storeDtcm_good h) e
    · cases e

theorem State.libCall_good {pd : List Instr} {n : Fin 16} {t : Nat} {c : Core} {s : State} {r : State × Core × Nat}
    (h : Good pd s) (e : s.libCall n t c = some r) : Good pd r.1 := by
  unfold State.libCall at e
  split at e
  · cases e
  · dsimp only at e
    split at e
    · split at e
      · rename_i he
        cases e
        exact State.takeFree_good (State.storeWords_good h he)
      · cases e
    · cases e

@[simp] theorem State.libraryStep_good {pd : List Instr} {s : State} {n : Fin 16} (hs : Good pd s) :
    Good pd (s.libraryStep n) := by
  unfold State.libraryStep
  split
  · exact hs
  · dsimp only
    split
    · exact hs
    · exact State.takeTrap_good (State.takeFree_good hs)
    · split
      · rename_i e
        exact State.modLane_good (State.setCore_good (State.libCall_good hs e)) fun _ h => h
      · exact hs

@[simp] theorem State.command_good {pd : List Instr} {s : State} {n : Fin 16} {body : State → Core → State × CoreRes}
    (h : Good pd s) (hb : ∀ s c, Good pd s → Good pd (body s c).1) : Good pd (s.command n body) :=
  State.issue_good (State.libraryStep_good h) hb

@[simp] theorem State.edge_good {pd : List Instr} {s : State} (hs : Good pd s) : Good pd (State.edge s) := by
  unfold State.edge
  try dsimp only
  repeat' (first | (with_reducible first | assumption | apply State.edges_good | apply State.opAdvance_good | apply good_foldl | split))

@[simp] theorem State.tick_good {pd : List Instr} {s : State} (hs : Good pd s) : Good pd (State.tick s) := by
  unfold State.tick
  try dsimp only
  repeat' (first | (with_reducible first | assumption | apply State.edge_good | apply State.wedgeReset_good | apply good_foldl | split))

end Sys2Proof.Machine
end

