-- ==== Sys2Proof/Laws/State.lean ====
section
/-! SUPPORT. What each named update of the state leaves in each field. -/

namespace Sys2Proof.Machine

variable (s : State)

@[simp] theorem State.setReg_pending (k : Nat) (v : Word) : (s.setReg k v).pending = s.pending := rfl
@[simp] theorem State.setReg_regs (k : Nat) (v : Word) : (s.setReg k v).regs = tput s.regs k v := rfl
@[simp] theorem State.setReg_mem (k : Nat) (v : Word) : (s.setReg k v).mem = s.mem := rfl
@[simp] theorem State.setReg_poison (k : Nat) (v : Word) : (s.setReg k v).poison = s.poison := rfl
@[simp] theorem State.setReg_state (k : Nat) (v : Word) : (s.setReg k v).state = s.state := rfl
@[simp] theorem State.setReg_option (k : Nat) (v : Word) : (s.setReg k v).option = s.option := rfl
@[simp] theorem State.setReg_opTime (k : Nat) (v : Word) : (s.setReg k v).opTime = s.opTime := rfl
@[simp] theorem State.setReg_opFrac (k : Nat) (v : Word) : (s.setReg k v).opFrac = s.opFrac := rfl
@[simp] theorem State.setReg_opSaved (k : Nat) (v : Word) : (s.setReg k v).opSaved = s.opSaved := rfl
@[simp] theorem State.setReg_time (k : Nat) (v : Word) : (s.setReg k v).time = s.time := rfl
@[simp] theorem State.setReg_boards (k : Nat) (v : Word) : (s.setReg k v).boards = s.boards := rfl
@[simp] theorem State.setReg_seqr (k : Nat) (v : Word) : (s.setReg k v).seqr = s.seqr := rfl
@[simp] theorem State.setReg_lanes (k : Nat) (v : Word) : (s.setReg k v).lanes = s.lanes := rfl
@[simp] theorem State.setReg_gmb (k : Nat) (v : Word) : (s.setReg k v).gmb = s.gmb := rfl
@[simp] theorem State.setReg_tasks (k : Nat) (v : Word) : (s.setReg k v).tasks = s.tasks := rfl
@[simp] theorem State.setReg_written (k : Nat) (v : Word) : (s.setReg k v).written = s.written := rfl
@[simp] theorem State.setReg_movers (k : Nat) (v : Word) : (s.setReg k v).movers = s.movers := rfl
@[simp] theorem State.setReg_descs (k : Nat) (v : Word) : (s.setReg k v).descs = s.descs := rfl
@[simp] theorem State.setReg_ringTurn (k : Nat) (v : Word) : (s.setReg k v).ringTurn = s.ringTurn := rfl
@[simp] theorem State.setReg_tlb (k : Nat) (v : Word) : (s.setReg k v).tlb = s.tlb := rfl
@[simp] theorem State.setReg_retire (k : Nat) (v : Word) : (s.setReg k v).retire = s.retire := rfl
@[simp] theorem State.setReg_retMark (k : Nat) (v : Word) : (s.setReg k v).retMark = s.retMark := rfl
@[simp] theorem State.setReg_migr (k : Nat) (v : Word) : (s.setReg k v).migr = s.migr := rfl
@[simp] theorem State.setReg_invAt (k : Nat) (v : Word) : (s.setReg k v).invAt = s.invAt := rfl
@[simp] theorem State.setReg_regionW (k : Nat) (v : Word) : (s.setReg k v).regionW = s.regionW := rfl
@[simp] theorem State.setReg_events (k : Nat) (v : Word) : (s.setReg k v).events = s.events := rfl
@[simp] theorem State.setReg_lineDead (k : Nat) (v : Word) : (s.setReg k v).lineDead = s.lineDead := rfl
@[simp] theorem State.setReg_ownFall (k : Nat) (v : Word) : (s.setReg k v).ownFall = s.ownFall := rfl
@[simp] theorem State.setReg_rst (k : Nat) (v : Word) : (s.setReg k v).rst = s.rst := rfl
@[simp] theorem State.setReg_boot (k : Nat) (v : Word) : (s.setReg k v).boot = s.boot := rfl
@[simp] theorem State.setReg_net (k : Nat) (v : Word) : (s.setReg k v).net = s.net := rfl
@[simp] theorem State.setReg_pair (k : Nat) (v : Word) : (s.setReg k v).pair = s.pair := rfl
@[simp] theorem State.setReg_sdPend (k : Nat) (v : Word) : (s.setReg k v).sdPend = s.sdPend := rfl
@[simp] theorem State.setReg_wedged (k : Nat) (v : Word) : (s.setReg k v).wedged = s.wedged := rfl
@[simp] theorem State.setReg_rcd (k : Nat) (v : Word) : (s.setReg k v).rcd = s.rcd := rfl
@[simp] theorem State.setReg_upd (k : Nat) (v : Word) : (s.setReg k v).upd = s.upd := rfl
@[simp] theorem State.setReg_host (k : Nat) (v : Word) : (s.setReg k v).host = s.host := rfl
@[simp] theorem State.setReg_can (k : Nat) (v : Word) : (s.setReg k v).can = s.can := rfl
@[simp] theorem State.setReg_fio (k : Nat) (v : Word) : (s.setReg k v).fio = s.fio := rfl
@[simp] theorem State.setReg_jtag (k : Nat) (v : Word) : (s.setReg k v).jtag = s.jtag := rfl
@[simp] theorem State.setReg_out (k : Nat) (v : Word) : (s.setReg k v).out = s.out := rfl
@[simp] theorem State.setReg_free (k : Nat) (v : Word) : (s.setReg k v).free = s.free := rfl

@[simp] theorem State.setFld_pending (k hi lo v : Nat) : (s.setFld k hi lo v).pending = s.pending := rfl
@[simp] theorem State.setFld_mem (k hi lo v : Nat) : (s.setFld k hi lo v).mem = s.mem := rfl
@[simp] theorem State.setFld_poison (k hi lo v : Nat) : (s.setFld k hi lo v).poison = s.poison := rfl
@[simp] theorem State.setFld_state (k hi lo v : Nat) : (s.setFld k hi lo v).state = s.state := rfl
@[simp] theorem State.setFld_option (k hi lo v : Nat) : (s.setFld k hi lo v).option = s.option := rfl
@[simp] theorem State.setFld_opTime (k hi lo v : Nat) : (s.setFld k hi lo v).opTime = s.opTime := rfl
@[simp] theorem State.setFld_opFrac (k hi lo v : Nat) : (s.setFld k hi lo v).opFrac = s.opFrac := rfl
@[simp] theorem State.setFld_opSaved (k hi lo v : Nat) : (s.setFld k hi lo v).opSaved = s.opSaved := rfl
@[simp] theorem State.setFld_time (k hi lo v : Nat) : (s.setFld k hi lo v).time = s.time := rfl
@[simp] theorem State.setFld_boards (k hi lo v : Nat) : (s.setFld k hi lo v).boards = s.boards := rfl
@[simp] theorem State.setFld_seqr (k hi lo v : Nat) : (s.setFld k hi lo v).seqr = s.seqr := rfl
@[simp] theorem State.setFld_lanes (k hi lo v : Nat) : (s.setFld k hi lo v).lanes = s.lanes := rfl
@[simp] theorem State.setFld_gmb (k hi lo v : Nat) : (s.setFld k hi lo v).gmb = s.gmb := rfl
@[simp] theorem State.setFld_tasks (k hi lo v : Nat) : (s.setFld k hi lo v).tasks = s.tasks := rfl
@[simp] theorem State.setFld_written (k hi lo v : Nat) : (s.setFld k hi lo v).written = s.written := rfl
@[simp] theorem State.setFld_movers (k hi lo v : Nat) : (s.setFld k hi lo v).movers = s.movers := rfl
@[simp] theorem State.setFld_descs (k hi lo v : Nat) : (s.setFld k hi lo v).descs = s.descs := rfl
@[simp] theorem State.setFld_ringTurn (k hi lo v : Nat) : (s.setFld k hi lo v).ringTurn = s.ringTurn := rfl
@[simp] theorem State.setFld_tlb (k hi lo v : Nat) : (s.setFld k hi lo v).tlb = s.tlb := rfl
@[simp] theorem State.setFld_retire (k hi lo v : Nat) : (s.setFld k hi lo v).retire = s.retire := rfl
@[simp] theorem State.setFld_retMark (k hi lo v : Nat) : (s.setFld k hi lo v).retMark = s.retMark := rfl
@[simp] theorem State.setFld_migr (k hi lo v : Nat) : (s.setFld k hi lo v).migr = s.migr := rfl
@[simp] theorem State.setFld_invAt (k hi lo v : Nat) : (s.setFld k hi lo v).invAt = s.invAt := rfl
@[simp] theorem State.setFld_regionW (k hi lo v : Nat) : (s.setFld k hi lo v).regionW = s.regionW := rfl
@[simp] theorem State.setFld_events (k hi lo v : Nat) : (s.setFld k hi lo v).events = s.events := rfl
@[simp] theorem State.setFld_lineDead (k hi lo v : Nat) : (s.setFld k hi lo v).lineDead = s.lineDead := rfl
@[simp] theorem State.setFld_ownFall (k hi lo v : Nat) : (s.setFld k hi lo v).ownFall = s.ownFall := rfl
@[simp] theorem State.setFld_rst (k hi lo v : Nat) : (s.setFld k hi lo v).rst = s.rst := rfl
@[simp] theorem State.setFld_boot (k hi lo v : Nat) : (s.setFld k hi lo v).boot = s.boot := rfl
@[simp] theorem State.setFld_net (k hi lo v : Nat) : (s.setFld k hi lo v).net = s.net := rfl
@[simp] theorem State.setFld_pair (k hi lo v : Nat) : (s.setFld k hi lo v).pair = s.pair := rfl
@[simp] theorem State.setFld_sdPend (k hi lo v : Nat) : (s.setFld k hi lo v).sdPend = s.sdPend := rfl
@[simp] theorem State.setFld_wedged (k hi lo v : Nat) : (s.setFld k hi lo v).wedged = s.wedged := rfl
@[simp] theorem State.setFld_rcd (k hi lo v : Nat) : (s.setFld k hi lo v).rcd = s.rcd := rfl
@[simp] theorem State.setFld_upd (k hi lo v : Nat) : (s.setFld k hi lo v).upd = s.upd := rfl
@[simp] theorem State.setFld_host (k hi lo v : Nat) : (s.setFld k hi lo v).host = s.host := rfl
@[simp] theorem State.setFld_can (k hi lo v : Nat) : (s.setFld k hi lo v).can = s.can := rfl
@[simp] theorem State.setFld_fio (k hi lo v : Nat) : (s.setFld k hi lo v).fio = s.fio := rfl
@[simp] theorem State.setFld_jtag (k hi lo v : Nat) : (s.setFld k hi lo v).jtag = s.jtag := rfl
@[simp] theorem State.setFld_out (k hi lo v : Nat) : (s.setFld k hi lo v).out = s.out := rfl
@[simp] theorem State.setFld_free (k hi lo v : Nat) : (s.setFld k hi lo v).free = s.free := rfl

@[simp] theorem State.event_pending (ty src : Nat) (pr : Prio) (b : Bytes) : (s.event ty src pr b).pending = s.pending := rfl
@[simp] theorem State.event_regs (ty src : Nat) (pr : Prio) (b : Bytes) : (s.event ty src pr b).regs = s.regs := rfl
@[simp] theorem State.event_mem (ty src : Nat) (pr : Prio) (b : Bytes) : (s.event ty src pr b).mem = s.mem := rfl
@[simp] theorem State.event_poison (ty src : Nat) (pr : Prio) (b : Bytes) : (s.event ty src pr b).poison = s.poison := rfl
@[simp] theorem State.event_state (ty src : Nat) (pr : Prio) (b : Bytes) : (s.event ty src pr b).state = s.state := rfl
@[simp] theorem State.event_option (ty src : Nat) (pr : Prio) (b : Bytes) : (s.event ty src pr b).option = s.option := rfl
@[simp] theorem State.event_opTime (ty src : Nat) (pr : Prio) (b : Bytes) : (s.event ty src pr b).opTime = s.opTime := rfl
@[simp] theorem State.event_opFrac (ty src : Nat) (pr : Prio) (b : Bytes) : (s.event ty src pr b).opFrac = s.opFrac := rfl
@[simp] theorem State.event_opSaved (ty src : Nat) (pr : Prio) (b : Bytes) : (s.event ty src pr b).opSaved = s.opSaved := rfl
@[simp] theorem State.event_time (ty src : Nat) (pr : Prio) (b : Bytes) : (s.event ty src pr b).time = s.time := rfl
@[simp] theorem State.event_boards (ty src : Nat) (pr : Prio) (b : Bytes) : (s.event ty src pr b).boards = s.boards := rfl
@[simp] theorem State.event_seqr (ty src : Nat) (pr : Prio) (b : Bytes) : (s.event ty src pr b).seqr = s.seqr := rfl
@[simp] theorem State.event_lanes (ty src : Nat) (pr : Prio) (b : Bytes) : (s.event ty src pr b).lanes = s.lanes := rfl
@[simp] theorem State.event_gmb (ty src : Nat) (pr : Prio) (b : Bytes) : (s.event ty src pr b).gmb = s.gmb := rfl
@[simp] theorem State.event_tasks (ty src : Nat) (pr : Prio) (b : Bytes) : (s.event ty src pr b).tasks = s.tasks := rfl
@[simp] theorem State.event_written (ty src : Nat) (pr : Prio) (b : Bytes) : (s.event ty src pr b).written = s.written := rfl
@[simp] theorem State.event_movers (ty src : Nat) (pr : Prio) (b : Bytes) : (s.event ty src pr b).movers = s.movers := rfl
@[simp] theorem State.event_descs (ty src : Nat) (pr : Prio) (b : Bytes) : (s.event ty src pr b).descs = s.descs := rfl
@[simp] theorem State.event_ringTurn (ty src : Nat) (pr : Prio) (b : Bytes) : (s.event ty src pr b).ringTurn = s.ringTurn := rfl
@[simp] theorem State.event_tlb (ty src : Nat) (pr : Prio) (b : Bytes) : (s.event ty src pr b).tlb = s.tlb := rfl
@[simp] theorem State.event_retire (ty src : Nat) (pr : Prio) (b : Bytes) : (s.event ty src pr b).retire = s.retire := rfl
@[simp] theorem State.event_retMark (ty src : Nat) (pr : Prio) (b : Bytes) : (s.event ty src pr b).retMark = s.retMark := rfl
@[simp] theorem State.event_migr (ty src : Nat) (pr : Prio) (b : Bytes) : (s.event ty src pr b).migr = s.migr := rfl
@[simp] theorem State.event_invAt (ty src : Nat) (pr : Prio) (b : Bytes) : (s.event ty src pr b).invAt = s.invAt := rfl
@[simp] theorem State.event_regionW (ty src : Nat) (pr : Prio) (b : Bytes) : (s.event ty src pr b).regionW = s.regionW := rfl
@[simp] theorem State.event_events (ty src : Nat) (pr : Prio) (b : Bytes) : (s.event ty src pr b).events = s.events ++ [⟨ty, src, pr, b⟩] := rfl
@[simp] theorem State.event_lineDead (ty src : Nat) (pr : Prio) (b : Bytes) : (s.event ty src pr b).lineDead = s.lineDead := rfl
@[simp] theorem State.event_ownFall (ty src : Nat) (pr : Prio) (b : Bytes) : (s.event ty src pr b).ownFall = s.ownFall := rfl
@[simp] theorem State.event_rst (ty src : Nat) (pr : Prio) (b : Bytes) : (s.event ty src pr b).rst = s.rst := rfl
@[simp] theorem State.event_boot (ty src : Nat) (pr : Prio) (b : Bytes) : (s.event ty src pr b).boot = s.boot := rfl
@[simp] theorem State.event_net (ty src : Nat) (pr : Prio) (b : Bytes) : (s.event ty src pr b).net = s.net := rfl
@[simp] theorem State.event_pair (ty src : Nat) (pr : Prio) (b : Bytes) : (s.event ty src pr b).pair = s.pair := rfl
@[simp] theorem State.event_sdPend (ty src : Nat) (pr : Prio) (b : Bytes) : (s.event ty src pr b).sdPend = s.sdPend := rfl
@[simp] theorem State.event_wedged (ty src : Nat) (pr : Prio) (b : Bytes) : (s.event ty src pr b).wedged = s.wedged := rfl
@[simp] theorem State.event_rcd (ty src : Nat) (pr : Prio) (b : Bytes) : (s.event ty src pr b).rcd = s.rcd := rfl
@[simp] theorem State.event_upd (ty src : Nat) (pr : Prio) (b : Bytes) : (s.event ty src pr b).upd = s.upd := rfl
@[simp] theorem State.event_host (ty src : Nat) (pr : Prio) (b : Bytes) : (s.event ty src pr b).host = s.host := rfl
@[simp] theorem State.event_can (ty src : Nat) (pr : Prio) (b : Bytes) : (s.event ty src pr b).can = s.can := rfl
@[simp] theorem State.event_fio (ty src : Nat) (pr : Prio) (b : Bytes) : (s.event ty src pr b).fio = s.fio := rfl
@[simp] theorem State.event_jtag (ty src : Nat) (pr : Prio) (b : Bytes) : (s.event ty src pr b).jtag = s.jtag := rfl
@[simp] theorem State.event_out (ty src : Nat) (pr : Prio) (b : Bytes) : (s.event ty src pr b).out = s.out := rfl
@[simp] theorem State.event_free (ty src : Nat) (pr : Prio) (b : Bytes) : (s.event ty src pr b).free = s.free := rfl

@[simp] theorem State.takeFree_pending : (s.takeFree).pending = s.pending := rfl
@[simp] theorem State.takeFree_regs : (s.takeFree).regs = s.regs := rfl
@[simp] theorem State.takeFree_mem : (s.takeFree).mem = s.mem := rfl
@[simp] theorem State.takeFree_poison : (s.takeFree).poison = s.poison := rfl
@[simp] theorem State.takeFree_state : (s.takeFree).state = s.state := rfl
@[simp] theorem State.takeFree_option : (s.takeFree).option = s.option := rfl
@[simp] theorem State.takeFree_opTime : (s.takeFree).opTime = s.opTime := rfl
@[simp] theorem State.takeFree_opFrac : (s.takeFree).opFrac = s.opFrac := rfl
@[simp] theorem State.takeFree_opSaved : (s.takeFree).opSaved = s.opSaved := rfl
@[simp] theorem State.takeFree_time : (s.takeFree).time = s.time := rfl
@[simp] theorem State.takeFree_boards : (s.takeFree).boards = s.boards := rfl
@[simp] theorem State.takeFree_seqr : (s.takeFree).seqr = s.seqr := rfl
@[simp] theorem State.takeFree_lanes : (s.takeFree).lanes = s.lanes := rfl
@[simp] theorem State.takeFree_gmb : (s.takeFree).gmb = s.gmb := rfl
@[simp] theorem State.takeFree_tasks : (s.takeFree).tasks = s.tasks := rfl
@[simp] theorem State.takeFree_written : (s.takeFree).written = s.written := rfl
@[simp] theorem State.takeFree_movers : (s.takeFree).movers = s.movers := rfl
@[simp] theorem State.takeFree_descs : (s.takeFree).descs = s.descs := rfl
@[simp] theorem State.takeFree_ringTurn : (s.takeFree).ringTurn = s.ringTurn := rfl
@[simp] theorem State.takeFree_tlb : (s.takeFree).tlb = s.tlb := rfl
@[simp] theorem State.takeFree_retire : (s.takeFree).retire = s.retire := rfl
@[simp] theorem State.takeFree_retMark : (s.takeFree).retMark = s.retMark := rfl
@[simp] theorem State.takeFree_migr : (s.takeFree).migr = s.migr := rfl
@[simp] theorem State.takeFree_invAt : (s.takeFree).invAt = s.invAt := rfl
@[simp] theorem State.takeFree_regionW : (s.takeFree).regionW = s.regionW := rfl
@[simp] theorem State.takeFree_events : (s.takeFree).events = s.events := rfl
@[simp] theorem State.takeFree_lineDead : (s.takeFree).lineDead = s.lineDead := rfl
@[simp] theorem State.takeFree_ownFall : (s.takeFree).ownFall = s.ownFall := rfl
@[simp] theorem State.takeFree_rst : (s.takeFree).rst = s.rst := rfl
@[simp] theorem State.takeFree_boot : (s.takeFree).boot = s.boot := rfl
@[simp] theorem State.takeFree_net : (s.takeFree).net = s.net := rfl
@[simp] theorem State.takeFree_pair : (s.takeFree).pair = s.pair := rfl
@[simp] theorem State.takeFree_sdPend : (s.takeFree).sdPend = s.sdPend := rfl
@[simp] theorem State.takeFree_wedged : (s.takeFree).wedged = s.wedged := rfl
@[simp] theorem State.takeFree_rcd : (s.takeFree).rcd = s.rcd := rfl
@[simp] theorem State.takeFree_upd : (s.takeFree).upd = s.upd := rfl
@[simp] theorem State.takeFree_host : (s.takeFree).host = s.host := rfl
@[simp] theorem State.takeFree_can : (s.takeFree).can = s.can := rfl
@[simp] theorem State.takeFree_fio : (s.takeFree).fio = s.fio := rfl
@[simp] theorem State.takeFree_jtag : (s.takeFree).jtag = s.jtag := rfl
@[simp] theorem State.takeFree_out : (s.takeFree).out = s.out := rfl
@[simp] theorem State.takeFree_free : (s.takeFree).free = s.free + 1 := rfl

@[simp] theorem State.writeMem_pending (a : Nat) (l : Bytes) : (s.writeMem a l).pending = s.pending := rfl
@[simp] theorem State.writeMem_regs (a : Nat) (l : Bytes) : (s.writeMem a l).regs = s.regs := rfl
@[simp] theorem State.writeMem_mem (a : Nat) (l : Bytes) : (s.writeMem a l).mem = s.mem.write a l := rfl
@[simp] theorem State.writeMem_state (a : Nat) (l : Bytes) : (s.writeMem a l).state = s.state := rfl
@[simp] theorem State.writeMem_option (a : Nat) (l : Bytes) : (s.writeMem a l).option = s.option := rfl
@[simp] theorem State.writeMem_opTime (a : Nat) (l : Bytes) : (s.writeMem a l).opTime = s.opTime := rfl
@[simp] theorem State.writeMem_opFrac (a : Nat) (l : Bytes) : (s.writeMem a l).opFrac = s.opFrac := rfl
@[simp] theorem State.writeMem_opSaved (a : Nat) (l : Bytes) : (s.writeMem a l).opSaved = s.opSaved := rfl
@[simp] theorem State.writeMem_time (a : Nat) (l : Bytes) : (s.writeMem a l).time = s.time := rfl
@[simp] theorem State.writeMem_boards (a : Nat) (l : Bytes) : (s.writeMem a l).boards = s.boards := rfl
@[simp] theorem State.writeMem_seqr (a : Nat) (l : Bytes) : (s.writeMem a l).seqr = s.seqr := rfl
@[simp] theorem State.writeMem_lanes (a : Nat) (l : Bytes) : (s.writeMem a l).lanes = s.lanes := rfl
@[simp] theorem State.writeMem_gmb (a : Nat) (l : Bytes) : (s.writeMem a l).gmb = s.gmb := rfl
@[simp] theorem State.writeMem_tasks (a : Nat) (l : Bytes) : (s.writeMem a l).tasks = s.tasks := rfl
@[simp] theorem State.writeMem_written (a : Nat) (l : Bytes) : (s.writeMem a l).written = s.written := rfl
@[simp] theorem State.writeMem_movers (a : Nat) (l : Bytes) : (s.writeMem a l).movers = s.movers := rfl
@[simp] theorem State.writeMem_descs (a : Nat) (l : Bytes) : (s.writeMem a l).descs = s.descs := rfl
@[simp] theorem State.writeMem_ringTurn (a : Nat) (l : Bytes) : (s.writeMem a l).ringTurn = s.ringTurn := rfl
@[simp] theorem State.writeMem_tlb (a : Nat) (l : Bytes) : (s.writeMem a l).tlb = s.tlb := rfl
@[simp] theorem State.writeMem_retire (a : Nat) (l : Bytes) : (s.writeMem a l).retire = s.retire := rfl
@[simp] theorem State.writeMem_retMark (a : Nat) (l : Bytes) : (s.writeMem a l).retMark = s.retMark := rfl
@[simp] theorem State.writeMem_migr (a : Nat) (l : Bytes) : (s.writeMem a l).migr = s.migr := rfl
@[simp] theorem State.writeMem_invAt (a : Nat) (l : Bytes) : (s.writeMem a l).invAt = s.invAt := rfl
@[simp] theorem State.writeMem_regionW (a : Nat) (l : Bytes) : (s.writeMem a l).regionW = s.regionW := rfl
@[simp] theorem State.writeMem_events (a : Nat) (l : Bytes) : (s.writeMem a l).events = s.events := rfl
@[simp] theorem State.writeMem_lineDead (a : Nat) (l : Bytes) : (s.writeMem a l).lineDead = s.lineDead := rfl
@[simp] theorem State.writeMem_ownFall (a : Nat) (l : Bytes) : (s.writeMem a l).ownFall = s.ownFall := rfl
@[simp] theorem State.writeMem_rst (a : Nat) (l : Bytes) : (s.writeMem a l).rst = s.rst := rfl
@[simp] theorem State.writeMem_boot (a : Nat) (l : Bytes) : (s.writeMem a l).boot = s.boot := rfl
@[simp] theorem State.writeMem_net (a : Nat) (l : Bytes) : (s.writeMem a l).net = s.net := rfl
@[simp] theorem State.writeMem_pair (a : Nat) (l : Bytes) : (s.writeMem a l).pair = s.pair := rfl
@[simp] theorem State.writeMem_sdPend (a : Nat) (l : Bytes) : (s.writeMem a l).sdPend = s.sdPend := rfl
@[simp] theorem State.writeMem_wedged (a : Nat) (l : Bytes) : (s.writeMem a l).wedged = s.wedged := rfl
@[simp] theorem State.writeMem_rcd (a : Nat) (l : Bytes) : (s.writeMem a l).rcd = s.rcd := rfl
@[simp] theorem State.writeMem_upd (a : Nat) (l : Bytes) : (s.writeMem a l).upd = s.upd := rfl
@[simp] theorem State.writeMem_host (a : Nat) (l : Bytes) : (s.writeMem a l).host = s.host := rfl
@[simp] theorem State.writeMem_can (a : Nat) (l : Bytes) : (s.writeMem a l).can = s.can := rfl
@[simp] theorem State.writeMem_fio (a : Nat) (l : Bytes) : (s.writeMem a l).fio = s.fio := rfl
@[simp] theorem State.writeMem_jtag (a : Nat) (l : Bytes) : (s.writeMem a l).jtag = s.jtag := rfl
@[simp] theorem State.writeMem_out (a : Nat) (l : Bytes) : (s.writeMem a l).out = s.out := rfl
@[simp] theorem State.writeMem_free (a : Nat) (l : Bytes) : (s.writeMem a l).free = s.free := rfl

@[simp] theorem State.modLane_pending (n : Fin 16) (f : Lane → Lane) : (s.modLane n f).pending = s.pending := rfl
@[simp] theorem State.modLane_regs (n : Fin 16) (f : Lane → Lane) : (s.modLane n f).regs = s.regs := rfl
@[simp] theorem State.modLane_mem (n : Fin 16) (f : Lane → Lane) : (s.modLane n f).mem = s.mem := rfl
@[simp] theorem State.modLane_poison (n : Fin 16) (f : Lane → Lane) : (s.modLane n f).poison = s.poison := rfl
@[simp] theorem State.modLane_state (n : Fin 16) (f : Lane → Lane) : (s.modLane n f).state = s.state := rfl
@[simp] theorem State.modLane_option (n : Fin 16) (f : Lane → Lane) : (s.modLane n f).option = s.option := rfl
@[simp] theorem State.modLane_opTime (n : Fin 16) (f : Lane → Lane) : (s.modLane n f).opTime = s.opTime := rfl
@[simp] theorem State.modLane_opFrac (n : Fin 16) (f : Lane → Lane) : (s.modLane n f).opFrac = s.opFrac := rfl
@[simp] theorem State.modLane_opSaved (n : Fin 16) (f : Lane → Lane) : (s.modLane n f).opSaved = s.opSaved := rfl
@[simp] theorem State.modLane_time (n : Fin 16) (f : Lane → Lane) : (s.modLane n f).time = s.time := rfl
@[simp] theorem State.modLane_boards (n : Fin 16) (f : Lane → Lane) : (s.modLane n f).boards = s.boards := rfl
@[simp] theorem State.modLane_seqr (n : Fin 16) (f : Lane → Lane) : (s.modLane n f).seqr = s.seqr := rfl
@[simp] theorem State.modLane_lanes (n : Fin 16) (f : Lane → Lane) : (s.modLane n f).lanes = s.lanes.set n (f s.lanes[n]) := rfl
@[simp] theorem State.modLane_gmb (n : Fin 16) (f : Lane → Lane) : (s.modLane n f).gmb = s.gmb := rfl
@[simp] theorem State.modLane_tasks (n : Fin 16) (f : Lane → Lane) : (s.modLane n f).tasks = s.tasks := rfl
@[simp] theorem State.modLane_written (n : Fin 16) (f : Lane → Lane) : (s.modLane n f).written = s.written := rfl
@[simp] theorem State.modLane_movers (n : Fin 16) (f : Lane → Lane) : (s.modLane n f).movers = s.movers := rfl
@[simp] theorem State.modLane_descs (n : Fin 16) (f : Lane → Lane) : (s.modLane n f).descs = s.descs := rfl
@[simp] theorem State.modLane_ringTurn (n : Fin 16) (f : Lane → Lane) : (s.modLane n f).ringTurn = s.ringTurn := rfl
@[simp] theorem State.modLane_tlb (n : Fin 16) (f : Lane → Lane) : (s.modLane n f).tlb = s.tlb := rfl
@[simp] theorem State.modLane_retire (n : Fin 16) (f : Lane → Lane) : (s.modLane n f).retire = s.retire := rfl
@[simp] theorem State.modLane_retMark (n : Fin 16) (f : Lane → Lane) : (s.modLane n f).retMark = s.retMark := rfl
@[simp] theorem State.modLane_migr (n : Fin 16) (f : Lane → Lane) : (s.modLane n f).migr = s.migr := rfl
@[simp] theorem State.modLane_invAt (n : Fin 16) (f : Lane → Lane) : (s.modLane n f).invAt = s.invAt := rfl
@[simp] theorem State.modLane_regionW (n : Fin 16) (f : Lane → Lane) : (s.modLane n f).regionW = s.regionW := rfl
@[simp] theorem State.modLane_events (n : Fin 16) (f : Lane → Lane) : (s.modLane n f).events = s.events := rfl
@[simp] theorem State.modLane_lineDead (n : Fin 16) (f : Lane → Lane) : (s.modLane n f).lineDead = s.lineDead := rfl
@[simp] theorem State.modLane_ownFall (n : Fin 16) (f : Lane → Lane) : (s.modLane n f).ownFall = s.ownFall := rfl
@[simp] theorem State.modLane_rst (n : Fin 16) (f : Lane → Lane) : (s.modLane n f).rst = s.rst := rfl
@[simp] theorem State.modLane_boot (n : Fin 16) (f : Lane → Lane) : (s.modLane n f).boot = s.boot := rfl
@[simp] theorem State.modLane_net (n : Fin 16) (f : Lane → Lane) : (s.modLane n f).net = s.net := rfl
@[simp] theorem State.modLane_pair (n : Fin 16) (f : Lane → Lane) : (s.modLane n f).pair = s.pair := rfl
@[simp] theorem State.modLane_sdPend (n : Fin 16) (f : Lane → Lane) : (s.modLane n f).sdPend = s.sdPend := rfl
@[simp] theorem State.modLane_wedged (n : Fin 16) (f : Lane → Lane) : (s.modLane n f).wedged = s.wedged := rfl
@[simp] theorem State.modLane_rcd (n : Fin 16) (f : Lane → Lane) : (s.modLane n f).rcd = s.rcd := rfl
@[simp] theorem State.modLane_upd (n : Fin 16) (f : Lane → Lane) : (s.modLane n f).upd = s.upd := rfl
@[simp] theorem State.modLane_host (n : Fin 16) (f : Lane → Lane) : (s.modLane n f).host = s.host := rfl
@[simp] theorem State.modLane_can (n : Fin 16) (f : Lane → Lane) : (s.modLane n f).can = s.can := rfl
@[simp] theorem State.modLane_fio (n : Fin 16) (f : Lane → Lane) : (s.modLane n f).fio = s.fio := rfl
@[simp] theorem State.modLane_jtag (n : Fin 16) (f : Lane → Lane) : (s.modLane n f).jtag = s.jtag := rfl
@[simp] theorem State.modLane_out (n : Fin 16) (f : Lane → Lane) : (s.modLane n f).out = s.out := rfl
@[simp] theorem State.modLane_free (n : Fin 16) (f : Lane → Lane) : (s.modLane n f).free = s.free := rfl

@[simp] theorem State.modCtx_pending (n : Fin 16) (f : GmbCtx → GmbCtx) : (s.modCtx n f).pending = s.pending := rfl
@[simp] theorem State.modCtx_regs (n : Fin 16) (f : GmbCtx → GmbCtx) : (s.modCtx n f).regs = s.regs := rfl
@[simp] theorem State.modCtx_mem (n : Fin 16) (f : GmbCtx → GmbCtx) : (s.modCtx n f).mem = s.mem := rfl
@[simp] theorem State.modCtx_poison (n : Fin 16) (f : GmbCtx → GmbCtx) : (s.modCtx n f).poison = s.poison := rfl
@[simp] theorem State.modCtx_state (n : Fin 16) (f : GmbCtx → GmbCtx) : (s.modCtx n f).state = s.state := rfl
@[simp] theorem State.modCtx_option (n : Fin 16) (f : GmbCtx → GmbCtx) : (s.modCtx n f).option = s.option := rfl
@[simp] theorem State.modCtx_opTime (n : Fin 16) (f : GmbCtx → GmbCtx) : (s.modCtx n f).opTime = s.opTime := rfl
@[simp] theorem State.modCtx_opFrac (n : Fin 16) (f : GmbCtx → GmbCtx) : (s.modCtx n f).opFrac = s.opFrac := rfl
@[simp] theorem State.modCtx_opSaved (n : Fin 16) (f : GmbCtx → GmbCtx) : (s.modCtx n f).opSaved = s.opSaved := rfl
@[simp] theorem State.modCtx_time (n : Fin 16) (f : GmbCtx → GmbCtx) : (s.modCtx n f).time = s.time := rfl
@[simp] theorem State.modCtx_boards (n : Fin 16) (f : GmbCtx → GmbCtx) : (s.modCtx n f).boards = s.boards := rfl
@[simp] theorem State.modCtx_seqr (n : Fin 16) (f : GmbCtx → GmbCtx) : (s.modCtx n f).seqr = s.seqr := rfl
@[simp] theorem State.modCtx_lanes (n : Fin 16) (f : GmbCtx → GmbCtx) : (s.modCtx n f).lanes = s.lanes := rfl
@[simp] theorem State.modCtx_gmb (n : Fin 16) (f : GmbCtx → GmbCtx) : (s.modCtx n f).gmb = s.gmb.set n (f s.gmb[n]) := rfl
@[simp] theorem State.modCtx_tasks (n : Fin 16) (f : GmbCtx → GmbCtx) : (s.modCtx n f).tasks = s.tasks := rfl
@[simp] theorem State.modCtx_written (n : Fin 16) (f : GmbCtx → GmbCtx) : (s.modCtx n f).written = s.written := rfl
@[simp] theorem State.modCtx_movers (n : Fin 16) (f : GmbCtx → GmbCtx) : (s.modCtx n f).movers = s.movers := rfl
@[simp] theorem State.modCtx_descs (n : Fin 16) (f : GmbCtx → GmbCtx) : (s.modCtx n f).descs = s.descs := rfl
@[simp] theorem State.modCtx_ringTurn (n : Fin 16) (f : GmbCtx → GmbCtx) : (s.modCtx n f).ringTurn = s.ringTurn := rfl
@[simp] theorem State.modCtx_tlb (n : Fin 16) (f : GmbCtx → GmbCtx) : (s.modCtx n f).tlb = s.tlb := rfl
@[simp] theorem State.modCtx_retire (n : Fin 16) (f : GmbCtx → GmbCtx) : (s.modCtx n f).retire = s.retire := rfl
@[simp] theorem State.modCtx_retMark (n : Fin 16) (f : GmbCtx → GmbCtx) : (s.modCtx n f).retMark = s.retMark := rfl
@[simp] theorem State.modCtx_migr (n : Fin 16) (f : GmbCtx → GmbCtx) : (s.modCtx n f).migr = s.migr := rfl
@[simp] theorem State.modCtx_invAt (n : Fin 16) (f : GmbCtx → GmbCtx) : (s.modCtx n f).invAt = s.invAt := rfl
@[simp] theorem State.modCtx_regionW (n : Fin 16) (f : GmbCtx → GmbCtx) : (s.modCtx n f).regionW = s.regionW := rfl
@[simp] theorem State.modCtx_events (n : Fin 16) (f : GmbCtx → GmbCtx) : (s.modCtx n f).events = s.events := rfl
@[simp] theorem State.modCtx_lineDead (n : Fin 16) (f : GmbCtx → GmbCtx) : (s.modCtx n f).lineDead = s.lineDead := rfl
@[simp] theorem State.modCtx_ownFall (n : Fin 16) (f : GmbCtx → GmbCtx) : (s.modCtx n f).ownFall = s.ownFall := rfl
@[simp] theorem State.modCtx_rst (n : Fin 16) (f : GmbCtx → GmbCtx) : (s.modCtx n f).rst = s.rst := rfl
@[simp] theorem State.modCtx_boot (n : Fin 16) (f : GmbCtx → GmbCtx) : (s.modCtx n f).boot = s.boot := rfl
@[simp] theorem State.modCtx_net (n : Fin 16) (f : GmbCtx → GmbCtx) : (s.modCtx n f).net = s.net := rfl
@[simp] theorem State.modCtx_pair (n : Fin 16) (f : GmbCtx → GmbCtx) : (s.modCtx n f).pair = s.pair := rfl
@[simp] theorem State.modCtx_sdPend (n : Fin 16) (f : GmbCtx → GmbCtx) : (s.modCtx n f).sdPend = s.sdPend := rfl
@[simp] theorem State.modCtx_wedged (n : Fin 16) (f : GmbCtx → GmbCtx) : (s.modCtx n f).wedged = s.wedged := rfl
@[simp] theorem State.modCtx_rcd (n : Fin 16) (f : GmbCtx → GmbCtx) : (s.modCtx n f).rcd = s.rcd := rfl
@[simp] theorem State.modCtx_upd (n : Fin 16) (f : GmbCtx → GmbCtx) : (s.modCtx n f).upd = s.upd := rfl
@[simp] theorem State.modCtx_host (n : Fin 16) (f : GmbCtx → GmbCtx) : (s.modCtx n f).host = s.host := rfl
@[simp] theorem State.modCtx_can (n : Fin 16) (f : GmbCtx → GmbCtx) : (s.modCtx n f).can = s.can := rfl
@[simp] theorem State.modCtx_fio (n : Fin 16) (f : GmbCtx → GmbCtx) : (s.modCtx n f).fio = s.fio := rfl
@[simp] theorem State.modCtx_jtag (n : Fin 16) (f : GmbCtx → GmbCtx) : (s.modCtx n f).jtag = s.jtag := rfl
@[simp] theorem State.modCtx_out (n : Fin 16) (f : GmbCtx → GmbCtx) : (s.modCtx n f).out = s.out := rfl
@[simp] theorem State.modCtx_free (n : Fin 16) (f : GmbCtx → GmbCtx) : (s.modCtx n f).free = s.free := rfl

@[simp] theorem State.modTask_pending (n : Fin 16) (f : TaskRun → TaskRun) : (s.modTask n f).pending = s.pending := rfl
@[simp] theorem State.modTask_regs (n : Fin 16) (f : TaskRun → TaskRun) : (s.modTask n f).regs = s.regs := rfl
@[simp] theorem State.modTask_mem (n : Fin 16) (f : TaskRun → TaskRun) : (s.modTask n f).mem = s.mem := rfl
@[simp] theorem State.modTask_poison (n : Fin 16) (f : TaskRun → TaskRun) : (s.modTask n f).poison = s.poison := rfl
@[simp] theorem State.modTask_state (n : Fin 16) (f : TaskRun → TaskRun) : (s.modTask n f).state = s.state := rfl
@[simp] theorem State.modTask_option (n : Fin 16) (f : TaskRun → TaskRun) : (s.modTask n f).option = s.option := rfl
@[simp] theorem State.modTask_opTime (n : Fin 16) (f : TaskRun → TaskRun) : (s.modTask n f).opTime = s.opTime := rfl
@[simp] theorem State.modTask_opFrac (n : Fin 16) (f : TaskRun → TaskRun) : (s.modTask n f).opFrac = s.opFrac := rfl
@[simp] theorem State.modTask_opSaved (n : Fin 16) (f : TaskRun → TaskRun) : (s.modTask n f).opSaved = s.opSaved := rfl
@[simp] theorem State.modTask_time (n : Fin 16) (f : TaskRun → TaskRun) : (s.modTask n f).time = s.time := rfl
@[simp] theorem State.modTask_boards (n : Fin 16) (f : TaskRun → TaskRun) : (s.modTask n f).boards = s.boards := rfl
@[simp] theorem State.modTask_seqr (n : Fin 16) (f : TaskRun → TaskRun) : (s.modTask n f).seqr = s.seqr := rfl
@[simp] theorem State.modTask_lanes (n : Fin 16) (f : TaskRun → TaskRun) : (s.modTask n f).lanes = s.lanes := rfl
@[simp] theorem State.modTask_gmb (n : Fin 16) (f : TaskRun → TaskRun) : (s.modTask n f).gmb = s.gmb := rfl
@[simp] theorem State.modTask_tasks (n : Fin 16) (f : TaskRun → TaskRun) : (s.modTask n f).tasks = s.tasks.set n (f s.tasks[n]) := rfl
@[simp] theorem State.modTask_written (n : Fin 16) (f : TaskRun → TaskRun) : (s.modTask n f).written = s.written := rfl
@[simp] theorem State.modTask_movers (n : Fin 16) (f : TaskRun → TaskRun) : (s.modTask n f).movers = s.movers := rfl
@[simp] theorem State.modTask_descs (n : Fin 16) (f : TaskRun → TaskRun) : (s.modTask n f).descs = s.descs := rfl
@[simp] theorem State.modTask_ringTurn (n : Fin 16) (f : TaskRun → TaskRun) : (s.modTask n f).ringTurn = s.ringTurn := rfl
@[simp] theorem State.modTask_tlb (n : Fin 16) (f : TaskRun → TaskRun) : (s.modTask n f).tlb = s.tlb := rfl
@[simp] theorem State.modTask_retire (n : Fin 16) (f : TaskRun → TaskRun) : (s.modTask n f).retire = s.retire := rfl
@[simp] theorem State.modTask_retMark (n : Fin 16) (f : TaskRun → TaskRun) : (s.modTask n f).retMark = s.retMark := rfl
@[simp] theorem State.modTask_migr (n : Fin 16) (f : TaskRun → TaskRun) : (s.modTask n f).migr = s.migr := rfl
@[simp] theorem State.modTask_invAt (n : Fin 16) (f : TaskRun → TaskRun) : (s.modTask n f).invAt = s.invAt := rfl
@[simp] theorem State.modTask_regionW (n : Fin 16) (f : TaskRun → TaskRun) : (s.modTask n f).regionW = s.regionW := rfl
@[simp] theorem State.modTask_events (n : Fin 16) (f : TaskRun → TaskRun) : (s.modTask n f).events = s.events := rfl
@[simp] theorem State.modTask_lineDead (n : Fin 16) (f : TaskRun → TaskRun) : (s.modTask n f).lineDead = s.lineDead := rfl
@[simp] theorem State.modTask_ownFall (n : Fin 16) (f : TaskRun → TaskRun) : (s.modTask n f).ownFall = s.ownFall := rfl
@[simp] theorem State.modTask_rst (n : Fin 16) (f : TaskRun → TaskRun) : (s.modTask n f).rst = s.rst := rfl
@[simp] theorem State.modTask_boot (n : Fin 16) (f : TaskRun → TaskRun) : (s.modTask n f).boot = s.boot := rfl
@[simp] theorem State.modTask_net (n : Fin 16) (f : TaskRun → TaskRun) : (s.modTask n f).net = s.net := rfl
@[simp] theorem State.modTask_pair (n : Fin 16) (f : TaskRun → TaskRun) : (s.modTask n f).pair = s.pair := rfl
@[simp] theorem State.modTask_sdPend (n : Fin 16) (f : TaskRun → TaskRun) : (s.modTask n f).sdPend = s.sdPend := rfl
@[simp] theorem State.modTask_wedged (n : Fin 16) (f : TaskRun → TaskRun) : (s.modTask n f).wedged = s.wedged := rfl
@[simp] theorem State.modTask_rcd (n : Fin 16) (f : TaskRun → TaskRun) : (s.modTask n f).rcd = s.rcd := rfl
@[simp] theorem State.modTask_upd (n : Fin 16) (f : TaskRun → TaskRun) : (s.modTask n f).upd = s.upd := rfl
@[simp] theorem State.modTask_host (n : Fin 16) (f : TaskRun → TaskRun) : (s.modTask n f).host = s.host := rfl
@[simp] theorem State.modTask_can (n : Fin 16) (f : TaskRun → TaskRun) : (s.modTask n f).can = s.can := rfl
@[simp] theorem State.modTask_fio (n : Fin 16) (f : TaskRun → TaskRun) : (s.modTask n f).fio = s.fio := rfl
@[simp] theorem State.modTask_jtag (n : Fin 16) (f : TaskRun → TaskRun) : (s.modTask n f).jtag = s.jtag := rfl
@[simp] theorem State.modTask_out (n : Fin 16) (f : TaskRun → TaskRun) : (s.modTask n f).out = s.out := rfl
@[simp] theorem State.modTask_free (n : Fin 16) (f : TaskRun → TaskRun) : (s.modTask n f).free = s.free := rfl

@[simp] theorem State.modNet_pending (f : Net → Net) : (s.modNet f).pending = s.pending := rfl
@[simp] theorem State.modNet_regs (f : Net → Net) : (s.modNet f).regs = s.regs := rfl
@[simp] theorem State.modNet_mem (f : Net → Net) : (s.modNet f).mem = s.mem := rfl
@[simp] theorem State.modNet_poison (f : Net → Net) : (s.modNet f).poison = s.poison := rfl
@[simp] theorem State.modNet_state (f : Net → Net) : (s.modNet f).state = s.state := rfl
@[simp] theorem State.modNet_option (f : Net → Net) : (s.modNet f).option = s.option := rfl
@[simp] theorem State.modNet_opTime (f : Net → Net) : (s.modNet f).opTime = s.opTime := rfl
@[simp] theorem State.modNet_opFrac (f : Net → Net) : (s.modNet f).opFrac = s.opFrac := rfl
@[simp] theorem State.modNet_opSaved (f : Net → Net) : (s.modNet f).opSaved = s.opSaved := rfl
@[simp] theorem State.modNet_time (f : Net → Net) : (s.modNet f).time = s.time := rfl
@[simp] theorem State.modNet_boards (f : Net → Net) : (s.modNet f).boards = s.boards := rfl
@[simp] theorem State.modNet_seqr (f : Net → Net) : (s.modNet f).seqr = s.seqr := rfl
@[simp] theorem State.modNet_lanes (f : Net → Net) : (s.modNet f).lanes = s.lanes := rfl
@[simp] theorem State.modNet_gmb (f : Net → Net) : (s.modNet f).gmb = s.gmb := rfl
@[simp] theorem State.modNet_tasks (f : Net → Net) : (s.modNet f).tasks = s.tasks := rfl
@[simp] theorem State.modNet_written (f : Net → Net) : (s.modNet f).written = s.written := rfl
@[simp] theorem State.modNet_movers (f : Net → Net) : (s.modNet f).movers = s.movers := rfl
@[simp] theorem State.modNet_descs (f : Net → Net) : (s.modNet f).descs = s.descs := rfl
@[simp] theorem State.modNet_ringTurn (f : Net → Net) : (s.modNet f).ringTurn = s.ringTurn := rfl
@[simp] theorem State.modNet_tlb (f : Net → Net) : (s.modNet f).tlb = s.tlb := rfl
@[simp] theorem State.modNet_retire (f : Net → Net) : (s.modNet f).retire = s.retire := rfl
@[simp] theorem State.modNet_retMark (f : Net → Net) : (s.modNet f).retMark = s.retMark := rfl
@[simp] theorem State.modNet_migr (f : Net → Net) : (s.modNet f).migr = s.migr := rfl
@[simp] theorem State.modNet_invAt (f : Net → Net) : (s.modNet f).invAt = s.invAt := rfl
@[simp] theorem State.modNet_regionW (f : Net → Net) : (s.modNet f).regionW = s.regionW := rfl
@[simp] theorem State.modNet_events (f : Net → Net) : (s.modNet f).events = s.events := rfl
@[simp] theorem State.modNet_lineDead (f : Net → Net) : (s.modNet f).lineDead = s.lineDead := rfl
@[simp] theorem State.modNet_ownFall (f : Net → Net) : (s.modNet f).ownFall = s.ownFall := rfl
@[simp] theorem State.modNet_rst (f : Net → Net) : (s.modNet f).rst = s.rst := rfl
@[simp] theorem State.modNet_boot (f : Net → Net) : (s.modNet f).boot = s.boot := rfl
@[simp] theorem State.modNet_net (f : Net → Net) : (s.modNet f).net = f s.net := rfl
@[simp] theorem State.modNet_pair (f : Net → Net) : (s.modNet f).pair = s.pair := rfl
@[simp] theorem State.modNet_sdPend (f : Net → Net) : (s.modNet f).sdPend = s.sdPend := rfl
@[simp] theorem State.modNet_wedged (f : Net → Net) : (s.modNet f).wedged = s.wedged := rfl
@[simp] theorem State.modNet_rcd (f : Net → Net) : (s.modNet f).rcd = s.rcd := rfl
@[simp] theorem State.modNet_upd (f : Net → Net) : (s.modNet f).upd = s.upd := rfl
@[simp] theorem State.modNet_host (f : Net → Net) : (s.modNet f).host = s.host := rfl
@[simp] theorem State.modNet_can (f : Net → Net) : (s.modNet f).can = s.can := rfl
@[simp] theorem State.modNet_fio (f : Net → Net) : (s.modNet f).fio = s.fio := rfl
@[simp] theorem State.modNet_jtag (f : Net → Net) : (s.modNet f).jtag = s.jtag := rfl
@[simp] theorem State.modNet_out (f : Net → Net) : (s.modNet f).out = s.out := rfl
@[simp] theorem State.modNet_free (f : Net → Net) : (s.modNet f).free = s.free := rfl

@[simp] theorem State.modPair_pending (f : Pair → Pair) : (s.modPair f).pending = s.pending := rfl
@[simp] theorem State.modPair_regs (f : Pair → Pair) : (s.modPair f).regs = s.regs := rfl
@[simp] theorem State.modPair_mem (f : Pair → Pair) : (s.modPair f).mem = s.mem := rfl
@[simp] theorem State.modPair_poison (f : Pair → Pair) : (s.modPair f).poison = s.poison := rfl
@[simp] theorem State.modPair_state (f : Pair → Pair) : (s.modPair f).state = s.state := rfl
@[simp] theorem State.modPair_option (f : Pair → Pair) : (s.modPair f).option = s.option := rfl
@[simp] theorem State.modPair_opTime (f : Pair → Pair) : (s.modPair f).opTime = s.opTime := rfl
@[simp] theorem State.modPair_opFrac (f : Pair → Pair) : (s.modPair f).opFrac = s.opFrac := rfl
@[simp] theorem State.modPair_opSaved (f : Pair → Pair) : (s.modPair f).opSaved = s.opSaved := rfl
@[simp] theorem State.modPair_time (f : Pair → Pair) : (s.modPair f).time = s.time := rfl
@[simp] theorem State.modPair_boards (f : Pair → Pair) : (s.modPair f).boards = s.boards := rfl
@[simp] theorem State.modPair_seqr (f : Pair → Pair) : (s.modPair f).seqr = s.seqr := rfl
@[simp] theorem State.modPair_lanes (f : Pair → Pair) : (s.modPair f).lanes = s.lanes := rfl
@[simp] theorem State.modPair_gmb (f : Pair → Pair) : (s.modPair f).gmb = s.gmb := rfl
@[simp] theorem State.modPair_tasks (f : Pair → Pair) : (s.modPair f).tasks = s.tasks := rfl
@[simp] theorem State.modPair_written (f : Pair → Pair) : (s.modPair f).written = s.written := rfl
@[simp] theorem State.modPair_movers (f : Pair → Pair) : (s.modPair f).movers = s.movers := rfl
@[simp] theorem State.modPair_descs (f : Pair → Pair) : (s.modPair f).descs = s.descs := rfl
@[simp] theorem State.modPair_ringTurn (f : Pair → Pair) : (s.modPair f).ringTurn = s.ringTurn := rfl
@[simp] theorem State.modPair_tlb (f : Pair → Pair) : (s.modPair f).tlb = s.tlb := rfl
@[simp] theorem State.modPair_retire (f : Pair → Pair) : (s.modPair f).retire = s.retire := rfl
@[simp] theorem State.modPair_retMark (f : Pair → Pair) : (s.modPair f).retMark = s.retMark := rfl
@[simp] theorem State.modPair_migr (f : Pair → Pair) : (s.modPair f).migr = s.migr := rfl
@[simp] theorem State.modPair_invAt (f : Pair → Pair) : (s.modPair f).invAt = s.invAt := rfl
@[simp] theorem State.modPair_regionW (f : Pair → Pair) : (s.modPair f).regionW = s.regionW := rfl
@[simp] theorem State.modPair_events (f : Pair → Pair) : (s.modPair f).events = s.events := rfl
@[simp] theorem State.modPair_lineDead (f : Pair → Pair) : (s.modPair f).lineDead = s.lineDead := rfl
@[simp] theorem State.modPair_ownFall (f : Pair → Pair) : (s.modPair f).ownFall = s.ownFall := rfl
@[simp] theorem State.modPair_rst (f : Pair → Pair) : (s.modPair f).rst = s.rst := rfl
@[simp] theorem State.modPair_boot (f : Pair → Pair) : (s.modPair f).boot = s.boot := rfl
@[simp] theorem State.modPair_net (f : Pair → Pair) : (s.modPair f).net = s.net := rfl
@[simp] theorem State.modPair_pair (f : Pair → Pair) : (s.modPair f).pair = f s.pair := rfl
@[simp] theorem State.modPair_sdPend (f : Pair → Pair) : (s.modPair f).sdPend = s.sdPend := rfl
@[simp] theorem State.modPair_wedged (f : Pair → Pair) : (s.modPair f).wedged = s.wedged := rfl
@[simp] theorem State.modPair_rcd (f : Pair → Pair) : (s.modPair f).rcd = s.rcd := rfl
@[simp] theorem State.modPair_upd (f : Pair → Pair) : (s.modPair f).upd = s.upd := rfl
@[simp] theorem State.modPair_host (f : Pair → Pair) : (s.modPair f).host = s.host := rfl
@[simp] theorem State.modPair_can (f : Pair → Pair) : (s.modPair f).can = s.can := rfl
@[simp] theorem State.modPair_fio (f : Pair → Pair) : (s.modPair f).fio = s.fio := rfl
@[simp] theorem State.modPair_jtag (f : Pair → Pair) : (s.modPair f).jtag = s.jtag := rfl
@[simp] theorem State.modPair_out (f : Pair → Pair) : (s.modPair f).out = s.out := rfl
@[simp] theorem State.modPair_free (f : Pair → Pair) : (s.modPair f).free = s.free := rfl

@[simp] theorem State.modTime_pending (f : TimeBase → TimeBase) : (s.modTime f).pending = s.pending := rfl
@[simp] theorem State.modTime_regs (f : TimeBase → TimeBase) : (s.modTime f).regs = s.regs := rfl
@[simp] theorem State.modTime_mem (f : TimeBase → TimeBase) : (s.modTime f).mem = s.mem := rfl
@[simp] theorem State.modTime_poison (f : TimeBase → TimeBase) : (s.modTime f).poison = s.poison := rfl
@[simp] theorem State.modTime_state (f : TimeBase → TimeBase) : (s.modTime f).state = s.state := rfl
@[simp] theorem State.modTime_option (f : TimeBase → TimeBase) : (s.modTime f).option = s.option := rfl
@[simp] theorem State.modTime_opTime (f : TimeBase → TimeBase) : (s.modTime f).opTime = s.opTime := rfl
@[simp] theorem State.modTime_opFrac (f : TimeBase → TimeBase) : (s.modTime f).opFrac = s.opFrac := rfl
@[simp] theorem State.modTime_opSaved (f : TimeBase → TimeBase) : (s.modTime f).opSaved = s.opSaved := rfl
@[simp] theorem State.modTime_time (f : TimeBase → TimeBase) : (s.modTime f).time = f s.time := rfl
@[simp] theorem State.modTime_boards (f : TimeBase → TimeBase) : (s.modTime f).boards = s.boards := rfl
@[simp] theorem State.modTime_seqr (f : TimeBase → TimeBase) : (s.modTime f).seqr = s.seqr := rfl
@[simp] theorem State.modTime_lanes (f : TimeBase → TimeBase) : (s.modTime f).lanes = s.lanes := rfl
@[simp] theorem State.modTime_gmb (f : TimeBase → TimeBase) : (s.modTime f).gmb = s.gmb := rfl
@[simp] theorem State.modTime_tasks (f : TimeBase → TimeBase) : (s.modTime f).tasks = s.tasks := rfl
@[simp] theorem State.modTime_written (f : TimeBase → TimeBase) : (s.modTime f).written = s.written := rfl
@[simp] theorem State.modTime_movers (f : TimeBase → TimeBase) : (s.modTime f).movers = s.movers := rfl
@[simp] theorem State.modTime_descs (f : TimeBase → TimeBase) : (s.modTime f).descs = s.descs := rfl
@[simp] theorem State.modTime_ringTurn (f : TimeBase → TimeBase) : (s.modTime f).ringTurn = s.ringTurn := rfl
@[simp] theorem State.modTime_tlb (f : TimeBase → TimeBase) : (s.modTime f).tlb = s.tlb := rfl
@[simp] theorem State.modTime_retire (f : TimeBase → TimeBase) : (s.modTime f).retire = s.retire := rfl
@[simp] theorem State.modTime_retMark (f : TimeBase → TimeBase) : (s.modTime f).retMark = s.retMark := rfl
@[simp] theorem State.modTime_migr (f : TimeBase → TimeBase) : (s.modTime f).migr = s.migr := rfl
@[simp] theorem State.modTime_invAt (f : TimeBase → TimeBase) : (s.modTime f).invAt = s.invAt := rfl
@[simp] theorem State.modTime_regionW (f : TimeBase → TimeBase) : (s.modTime f).regionW = s.regionW := rfl
@[simp] theorem State.modTime_events (f : TimeBase → TimeBase) : (s.modTime f).events = s.events := rfl
@[simp] theorem State.modTime_lineDead (f : TimeBase → TimeBase) : (s.modTime f).lineDead = s.lineDead := rfl
@[simp] theorem State.modTime_ownFall (f : TimeBase → TimeBase) : (s.modTime f).ownFall = s.ownFall := rfl
@[simp] theorem State.modTime_rst (f : TimeBase → TimeBase) : (s.modTime f).rst = s.rst := rfl
@[simp] theorem State.modTime_boot (f : TimeBase → TimeBase) : (s.modTime f).boot = s.boot := rfl
@[simp] theorem State.modTime_net (f : TimeBase → TimeBase) : (s.modTime f).net = s.net := rfl
@[simp] theorem State.modTime_pair (f : TimeBase → TimeBase) : (s.modTime f).pair = s.pair := rfl
@[simp] theorem State.modTime_sdPend (f : TimeBase → TimeBase) : (s.modTime f).sdPend = s.sdPend := rfl
@[simp] theorem State.modTime_wedged (f : TimeBase → TimeBase) : (s.modTime f).wedged = s.wedged := rfl
@[simp] theorem State.modTime_rcd (f : TimeBase → TimeBase) : (s.modTime f).rcd = s.rcd := rfl
@[simp] theorem State.modTime_upd (f : TimeBase → TimeBase) : (s.modTime f).upd = s.upd := rfl
@[simp] theorem State.modTime_host (f : TimeBase → TimeBase) : (s.modTime f).host = s.host := rfl
@[simp] theorem State.modTime_can (f : TimeBase → TimeBase) : (s.modTime f).can = s.can := rfl
@[simp] theorem State.modTime_fio (f : TimeBase → TimeBase) : (s.modTime f).fio = s.fio := rfl
@[simp] theorem State.modTime_jtag (f : TimeBase → TimeBase) : (s.modTime f).jtag = s.jtag := rfl
@[simp] theorem State.modTime_out (f : TimeBase → TimeBase) : (s.modTime f).out = s.out := rfl
@[simp] theorem State.modTime_free (f : TimeBase → TimeBase) : (s.modTime f).free = s.free := rfl

@[simp] theorem State.modSeqr_pending (f : Seqr → Seqr) : (s.modSeqr f).pending = s.pending := rfl
@[simp] theorem State.modSeqr_regs (f : Seqr → Seqr) : (s.modSeqr f).regs = s.regs := rfl
@[simp] theorem State.modSeqr_mem (f : Seqr → Seqr) : (s.modSeqr f).mem = s.mem := rfl
@[simp] theorem State.modSeqr_poison (f : Seqr → Seqr) : (s.modSeqr f).poison = s.poison := rfl
@[simp] theorem State.modSeqr_state (f : Seqr → Seqr) : (s.modSeqr f).state = s.state := rfl
@[simp] theorem State.modSeqr_option (f : Seqr → Seqr) : (s.modSeqr f).option = s.option := rfl
@[simp] theorem State.modSeqr_opTime (f : Seqr → Seqr) : (s.modSeqr f).opTime = s.opTime := rfl
@[simp] theorem State.modSeqr_opFrac (f : Seqr → Seqr) : (s.modSeqr f).opFrac = s.opFrac := rfl
@[simp] theorem State.modSeqr_opSaved (f : Seqr → Seqr) : (s.modSeqr f).opSaved = s.opSaved := rfl
@[simp] theorem State.modSeqr_time (f : Seqr → Seqr) : (s.modSeqr f).time = s.time := rfl
@[simp] theorem State.modSeqr_boards (f : Seqr → Seqr) : (s.modSeqr f).boards = s.boards := rfl
@[simp] theorem State.modSeqr_seqr (f : Seqr → Seqr) : (s.modSeqr f).seqr = f s.seqr := rfl
@[simp] theorem State.modSeqr_lanes (f : Seqr → Seqr) : (s.modSeqr f).lanes = s.lanes := rfl
@[simp] theorem State.modSeqr_gmb (f : Seqr → Seqr) : (s.modSeqr f).gmb = s.gmb := rfl
@[simp] theorem State.modSeqr_tasks (f : Seqr → Seqr) : (s.modSeqr f).tasks = s.tasks := rfl
@[simp] theorem State.modSeqr_written (f : Seqr → Seqr) : (s.modSeqr f).written = s.written := rfl
@[simp] theorem State.modSeqr_movers (f : Seqr → Seqr) : (s.modSeqr f).movers = s.movers := rfl
@[simp] theorem State.modSeqr_descs (f : Seqr → Seqr) : (s.modSeqr f).descs = s.descs := rfl
@[simp] theorem State.modSeqr_ringTurn (f : Seqr → Seqr) : (s.modSeqr f).ringTurn = s.ringTurn := rfl
@[simp] theorem State.modSeqr_tlb (f : Seqr → Seqr) : (s.modSeqr f).tlb = s.tlb := rfl
@[simp] theorem State.modSeqr_retire (f : Seqr → Seqr) : (s.modSeqr f).retire = s.retire := rfl
@[simp] theorem State.modSeqr_retMark (f : Seqr → Seqr) : (s.modSeqr f).retMark = s.retMark := rfl
@[simp] theorem State.modSeqr_migr (f : Seqr → Seqr) : (s.modSeqr f).migr = s.migr := rfl
@[simp] theorem State.modSeqr_invAt (f : Seqr → Seqr) : (s.modSeqr f).invAt = s.invAt := rfl
@[simp] theorem State.modSeqr_regionW (f : Seqr → Seqr) : (s.modSeqr f).regionW = s.regionW := rfl
@[simp] theorem State.modSeqr_events (f : Seqr → Seqr) : (s.modSeqr f).events = s.events := rfl
@[simp] theorem State.modSeqr_lineDead (f : Seqr → Seqr) : (s.modSeqr f).lineDead = s.lineDead := rfl
@[simp] theorem State.modSeqr_ownFall (f : Seqr → Seqr) : (s.modSeqr f).ownFall = s.ownFall := rfl
@[simp] theorem State.modSeqr_rst (f : Seqr → Seqr) : (s.modSeqr f).rst = s.rst := rfl
@[simp] theorem State.modSeqr_boot (f : Seqr → Seqr) : (s.modSeqr f).boot = s.boot := rfl
@[simp] theorem State.modSeqr_net (f : Seqr → Seqr) : (s.modSeqr f).net = s.net := rfl
@[simp] theorem State.modSeqr_pair (f : Seqr → Seqr) : (s.modSeqr f).pair = s.pair := rfl
@[simp] theorem State.modSeqr_sdPend (f : Seqr → Seqr) : (s.modSeqr f).sdPend = s.sdPend := rfl
@[simp] theorem State.modSeqr_wedged (f : Seqr → Seqr) : (s.modSeqr f).wedged = s.wedged := rfl
@[simp] theorem State.modSeqr_rcd (f : Seqr → Seqr) : (s.modSeqr f).rcd = s.rcd := rfl
@[simp] theorem State.modSeqr_upd (f : Seqr → Seqr) : (s.modSeqr f).upd = s.upd := rfl
@[simp] theorem State.modSeqr_host (f : Seqr → Seqr) : (s.modSeqr f).host = s.host := rfl
@[simp] theorem State.modSeqr_can (f : Seqr → Seqr) : (s.modSeqr f).can = s.can := rfl
@[simp] theorem State.modSeqr_fio (f : Seqr → Seqr) : (s.modSeqr f).fio = s.fio := rfl
@[simp] theorem State.modSeqr_jtag (f : Seqr → Seqr) : (s.modSeqr f).jtag = s.jtag := rfl
@[simp] theorem State.modSeqr_out (f : Seqr → Seqr) : (s.modSeqr f).out = s.out := rfl
@[simp] theorem State.modSeqr_free (f : Seqr → Seqr) : (s.modSeqr f).free = s.free := rfl

end Sys2Proof.Machine
end

