-- ==== Sys2Proof/Laws/Registers.lean ====
section
/-! SUPPORT. The register file: a register reads what was written to it last, fields that do not overlap do not
disturb each other, and what the shared register operations leave in registers and in the other fields. -/

namespace Sys2Proof.Machine

/-! ### Tables -/

theorem tget_tput_self {β : Type} {d : β} {k : Nat} {v : β} : ∀ {l : List (Nat × β)}, tget d (tput l k v) k = v
  | [] => by simp [tput, tget]
  | (a, x) :: r => by
    unfold tput
    split
    · simp [tget]
    · split
      · simp [tget]
      · have := tget_tput_self (d := d) (k := k) (v := v) (l := r)
        simp_all [tget]

theorem tget_tput_ne {β : Type} {d : β} {k j : Nat} {v : β} (h : j ≠ k) :
    ∀ {l : List (Nat × β)}, tget d (tput l k v) j = tget d l j
  | [] => by
    simp only [tput, tget]; split <;> simp_all
  | (a, x) :: r => by
    have ih := tget_tput_ne (d := d) (v := v) h (l := r)
    unfold tput
    split
    · simp only [tget]
      split
      · rw [if_pos (by omega)]
      · rfl
    · split
      · subst_vars; simp [tget, h]
      · simp only [tget, ih]

/-! ### Registers -/

variable {s : State}

@[simp] theorem State.reg_setReg_self {k : Nat} {v : Word} : (s.setReg k v).reg k = v := tget_tput_self

theorem State.reg_setReg_ne {k j : Nat} {v : Word} (h : j ≠ k) : (s.setReg k v).reg j = s.reg j := tget_tput_ne h

theorem State.reg_setReg (k j : Nat) (v : Word) : (s.setReg k v).reg j = if j = k then v else s.reg j := by
  split
  · subst_vars; exact State.reg_setReg_self
  · exact State.reg_setReg_ne (by assumption)

/-! ### Bit fields -/

theorem bits_withBits_self {w : Word} {hi lo v : Nat} (h : lo ≤ hi) (hh : hi < 32) :
    bits (withBits w hi lo v) hi lo = v % 2 ^ (hi + 1 - lo) := by
  apply Nat.eq_of_testBit_eq
  intro i
  simp only [bits, withBits, Nat.testBit_mod_two_pow, Nat.testBit_shiftRight]
  by_cases hi' : i < hi + 1 - lo
  · have h2 : lo + i < 32 := by omega
    simp only [hi', decide_true, Bool.true_and, BitVec.testBit_toNat, BitVec.getLsbD_or, BitVec.getLsbD_and, BitVec.getLsbD_not,
      BitVec.getLsbD_ofNat, h2, Nat.testBit_shiftLeft, Nat.testBit_two_pow_sub_one]
    simp [hi']
  · simp [hi']

theorem bits_withBits_disjoint {w : Word} {hi lo v hi' lo' : Nat} (h : hi < lo' ∨ hi' < lo) (hh : hi < 32) :
    bits (withBits w hi lo v) hi' lo' = bits w hi' lo' := by
  apply Nat.eq_of_testBit_eq
  intro i
  simp only [bits, withBits, Nat.testBit_mod_two_pow, Nat.testBit_shiftRight]
  by_cases hi2 : i < hi' + 1 - lo'
  · simp only [hi2, decide_true, Bool.true_and, BitVec.testBit_toNat, BitVec.getLsbD_or, BitVec.getLsbD_and, BitVec.getLsbD_not,
      BitVec.getLsbD_ofNat, Nat.testBit_shiftLeft, Nat.testBit_two_pow_sub_one]
    by_cases h3 : lo' + i < 32
    · have h4 : ¬ (lo ≤ lo' + i ∧ lo' + i - lo < hi + 1 - lo) := by omega
      simp only [h3, decide_true, Bool.true_and]
      rcases Nat.lt_or_ge (lo' + i) lo with h5 | h5
      · simp [show ¬ lo ≤ lo' + i by omega]
      · have h6 : ¬ (lo' + i - lo < hi + 1 - lo) := by omega
        simp [h5, h6]
    · have : w.getLsbD (lo' + i) = false := BitVec.getLsbD_of_ge _ _ (by omega)
      simp [h3, this]
  · simp [hi2]

theorem bit_withBits {w : Word} {i v : Nat} (hh : i < 32) : bit (withBits w i i v) i = (v % 2 == 1) := by
  simp only [bit, withBits, BitVec.getLsbD_or, BitVec.getLsbD_and, BitVec.getLsbD_not, BitVec.getLsbD_ofNat, Nat.testBit_shiftLeft,
    Nat.testBit_two_pow_sub_one]
  simp [hh, Nat.testBit_zero, decide_eq_true_eq]
  rfl

theorem bit_withBits_ne {w : Word} {hi lo v i : Nat} (h : i < lo ∨ hi < i) (hh : hi < 32) :
    bit (withBits w hi lo v) i = bit w i := by
  simp only [bit, withBits, BitVec.getLsbD_or, BitVec.getLsbD_and, BitVec.getLsbD_not, BitVec.getLsbD_ofNat, Nat.testBit_shiftLeft,
    Nat.testBit_two_pow_sub_one]
  by_cases h3 : i < 32
  · rcases Nat.lt_or_ge i lo with h5 | h5
    · simp [h3, show ¬ lo ≤ i by omega]
    · simp [h3, h5, show ¬ (i - lo < hi + 1 - lo) by omega]
  · simp [h3, BitVec.getLsbD_of_ge w i (by omega)]

@[simp] theorem State.fld_setFld_self {k hi lo v : Nat} (h : lo ≤ hi := by decide) (hh : hi < 32 := by decide) :
    (s.setFld k hi lo v).fld k hi lo = v % 2 ^ (hi + 1 - lo) := by
  simp [State.fld, State.setFld, bits_withBits_self h hh]

theorem State.fld_setFld_disjoint {k hi lo v hi' lo' : Nat} (h : hi < lo' ∨ hi' < lo) (hh : hi < 32) :
    (s.setFld k hi lo v).fld k hi' lo' = s.fld k hi' lo' := by
  simp [State.fld, State.setFld, bits_withBits_disjoint h hh]

theorem State.reg_setFld_ne {k j hi lo v : Nat} (h : j ≠ k) : (s.setFld k hi lo v).reg j = s.reg j := State.reg_setReg_ne h

theorem State.fld_setFld_ne {k j hi lo v hi' lo' : Nat} (h : j ≠ k) : (s.setFld k hi lo v).fld j hi' lo' = s.fld j hi' lo' := by
  simp only [State.fld, State.reg_setFld_ne h]

theorem State.fld_setReg_ne {k j hi lo : Nat} {v : Word} (h : j ≠ k) : (s.setReg k v).fld j hi lo = s.fld j hi lo := by
  simp only [State.fld, State.reg_setReg_ne h]

/-! ### Interrupt bits and errors (R14, R18) -/

theorem State.reg_raise_ne {p b j : Nat} (h : j ≠ Reg.pgIrq p) : (s.raise p b).reg j = s.reg j := by
  unfold State.raise; split
  · exact State.reg_setReg_ne h
  · rfl

theorem State.reg_logErr_ne {p c j : Nat} {i : Word} (h : j ≠ Reg.pgErr p) (h' : j ≠ Reg.pgErrInfo p) :
    (s.logErr p c i).reg j = s.reg j := by
  unfold State.logErr
  dsimp only
  split
  · rw [State.reg_setReg_ne h', State.reg_setReg_ne h]
  · exact State.reg_setReg_ne h

/-- An enabled interrupt bit that rises is latched (R14). -/
theorem State.raise_latched {p b : Nat} (h : bit (s.reg (Reg.pgIrqEn p)) b = true) (hb : b < 32) :
    bit ((s.raise p b).reg (Reg.pgIrq p)) b = true := by
  unfold State.raise
  rw [if_pos h, State.reg_setReg_self]
  simp only [bit, oneBit, BitVec.getLsbD_or, BitVec.getLsbD_ofNat]
  simp [hb, Nat.testBit_two_pow]

/-- A first error leaves its code and its detail (R18). -/
theorem State.logErr_first {p c : Nat} {i : Word} (h : bits (s.reg (Reg.pgErr p)) 15 0 = 0) :
    (s.logErr p c i).reg (Reg.pgErrInfo p) = i := by
  unfold State.logErr
  rw [if_pos h, State.reg_setReg_self]

/-! ### The other fields -/

@[simp] theorem State.raise_pending (p b : Nat) : (s.raise p b).pending = s.pending := by unfold State.raise; split <;> rfl
@[simp] theorem State.raise_mem (p b : Nat) : (s.raise p b).mem = s.mem := by unfold State.raise; split <;> rfl
@[simp] theorem State.raise_poison (p b : Nat) : (s.raise p b).poison = s.poison := by unfold State.raise; split <;> rfl
@[simp] theorem State.raise_state (p b : Nat) : (s.raise p b).state = s.state := by unfold State.raise; split <;> rfl
@[simp] theorem State.raise_option (p b : Nat) : (s.raise p b).option = s.option := by unfold State.raise; split <;> rfl
@[simp] theorem State.raise_opTime (p b : Nat) : (s.raise p b).opTime = s.opTime := by unfold State.raise; split <;> rfl
@[simp] theorem State.raise_opFrac (p b : Nat) : (s.raise p b).opFrac = s.opFrac := by unfold State.raise; split <;> rfl
@[simp] theorem State.raise_opSaved (p b : Nat) : (s.raise p b).opSaved = s.opSaved := by unfold State.raise; split <;> rfl
@[simp] theorem State.raise_time (p b : Nat) : (s.raise p b).time = s.time := by unfold State.raise; split <;> rfl
@[simp] theorem State.raise_boards (p b : Nat) : (s.raise p b).boards = s.boards := by unfold State.raise; split <;> rfl
@[simp] theorem State.raise_seqr (p b : Nat) : (s.raise p b).seqr = s.seqr := by unfold State.raise; split <;> rfl
@[simp] theorem State.raise_lanes (p b : Nat) : (s.raise p b).lanes = s.lanes := by unfold State.raise; split <;> rfl
@[simp] theorem State.raise_gmb (p b : Nat) : (s.raise p b).gmb = s.gmb := by unfold State.raise; split <;> rfl
@[simp] theorem State.raise_tasks (p b : Nat) : (s.raise p b).tasks = s.tasks := by unfold State.raise; split <;> rfl
@[simp] theorem State.raise_written (p b : Nat) : (s.raise p b).written = s.written := by unfold State.raise; split <;> rfl
@[simp] theorem State.raise_movers (p b : Nat) : (s.raise p b).movers = s.movers := by unfold State.raise; split <;> rfl
@[simp] theorem State.raise_descs (p b : Nat) : (s.raise p b).descs = s.descs := by unfold State.raise; split <;> rfl
@[simp] theorem State.raise_ringTurn (p b : Nat) : (s.raise p b).ringTurn = s.ringTurn := by unfold State.raise; split <;> rfl
@[simp] theorem State.raise_tlb (p b : Nat) : (s.raise p b).tlb = s.tlb := by unfold State.raise; split <;> rfl
@[simp] theorem State.raise_retire (p b : Nat) : (s.raise p b).retire = s.retire := by unfold State.raise; split <;> rfl
@[simp] theorem State.raise_retMark (p b : Nat) : (s.raise p b).retMark = s.retMark := by unfold State.raise; split <;> rfl
@[simp] theorem State.raise_migr (p b : Nat) : (s.raise p b).migr = s.migr := by unfold State.raise; split <;> rfl
@[simp] theorem State.raise_invAt (p b : Nat) : (s.raise p b).invAt = s.invAt := by unfold State.raise; split <;> rfl
@[simp] theorem State.raise_regionW (p b : Nat) : (s.raise p b).regionW = s.regionW := by unfold State.raise; split <;> rfl
@[simp] theorem State.raise_events (p b : Nat) : (s.raise p b).events = s.events := by unfold State.raise; split <;> rfl
@[simp] theorem State.raise_lineDead (p b : Nat) : (s.raise p b).lineDead = s.lineDead := by unfold State.raise; split <;> rfl
@[simp] theorem State.raise_ownFall (p b : Nat) : (s.raise p b).ownFall = s.ownFall := by unfold State.raise; split <;> rfl
@[simp] theorem State.raise_rst (p b : Nat) : (s.raise p b).rst = s.rst := by unfold State.raise; split <;> rfl
@[simp] theorem State.raise_boot (p b : Nat) : (s.raise p b).boot = s.boot := by unfold State.raise; split <;> rfl
@[simp] theorem State.raise_net (p b : Nat) : (s.raise p b).net = s.net := by unfold State.raise; split <;> rfl
@[simp] theorem State.raise_pair (p b : Nat) : (s.raise p b).pair = s.pair := by unfold State.raise; split <;> rfl
@[simp] theorem State.raise_sdPend (p b : Nat) : (s.raise p b).sdPend = s.sdPend := by unfold State.raise; split <;> rfl
@[simp] theorem State.raise_wedged (p b : Nat) : (s.raise p b).wedged = s.wedged := by unfold State.raise; split <;> rfl
@[simp] theorem State.raise_rcd (p b : Nat) : (s.raise p b).rcd = s.rcd := by unfold State.raise; split <;> rfl
@[simp] theorem State.raise_upd (p b : Nat) : (s.raise p b).upd = s.upd := by unfold State.raise; split <;> rfl
@[simp] theorem State.raise_host (p b : Nat) : (s.raise p b).host = s.host := by unfold State.raise; split <;> rfl
@[simp] theorem State.raise_can (p b : Nat) : (s.raise p b).can = s.can := by unfold State.raise; split <;> rfl
@[simp] theorem State.raise_fio (p b : Nat) : (s.raise p b).fio = s.fio := by unfold State.raise; split <;> rfl
@[simp] theorem State.raise_jtag (p b : Nat) : (s.raise p b).jtag = s.jtag := by unfold State.raise; split <;> rfl
@[simp] theorem State.raise_out (p b : Nat) : (s.raise p b).out = s.out := by unfold State.raise; split <;> rfl
@[simp] theorem State.raise_free (p b : Nat) : (s.raise p b).free = s.free := by unfold State.raise; split <;> rfl

@[simp] theorem State.logErr_pending (p code : Nat) (info : Word) : (s.logErr p code info).pending = s.pending := by unfold State.logErr; dsimp only; split <;> rfl
@[simp] theorem State.logErr_mem (p code : Nat) (info : Word) : (s.logErr p code info).mem = s.mem := by unfold State.logErr; dsimp only; split <;> rfl
@[simp] theorem State.logErr_poison (p code : Nat) (info : Word) : (s.logErr p code info).poison = s.poison := by unfold State.logErr; dsimp only; split <;> rfl
@[simp] theorem State.logErr_state (p code : Nat) (info : Word) : (s.logErr p code info).state = s.state := by unfold State.logErr; dsimp only; split <;> rfl
@[simp] theorem State.logErr_option (p code : Nat) (info : Word) : (s.logErr p code info).option = s.option := by unfold State.logErr; dsimp only; split <;> rfl
@[simp] theorem State.logErr_opTime (p code : Nat) (info : Word) : (s.logErr p code info).opTime = s.opTime := by unfold State.logErr; dsimp only; split <;> rfl
@[simp] theorem State.logErr_opFrac (p code : Nat) (info : Word) : (s.logErr p code info).opFrac = s.opFrac := by unfold State.logErr; dsimp only; split <;> rfl
@[simp] theorem State.logErr_opSaved (p code : Nat) (info : Word) : (s.logErr p code info).opSaved = s.opSaved := by unfold State.logErr; dsimp only; split <;> rfl
@[simp] theorem State.logErr_time (p code : Nat) (info : Word) : (s.logErr p code info).time = s.time := by unfold State.logErr; dsimp only; split <;> rfl
@[simp] theorem State.logErr_boards (p code : Nat) (info : Word) : (s.logErr p code info).boards = s.boards := by unfold State.logErr; dsimp only; split <;> rfl
@[simp] theorem State.logErr_seqr (p code : Nat) (info : Word) : (s.logErr p code info).seqr = s.seqr := by unfold State.logErr; dsimp only; split <;> rfl
@[simp] theorem State.logErr_lanes (p code : Nat) (info : Word) : (s.logErr p code info).lanes = s.lanes := by unfold State.logErr; dsimp only; split <;> rfl
@[simp] theorem State.logErr_gmb (p code : Nat) (info : Word) : (s.logErr p code info).gmb = s.gmb := by unfold State.logErr; dsimp only; split <;> rfl
@[simp] theorem State.logErr_tasks (p code : Nat) (info : Word) : (s.logErr p code info).tasks = s.tasks := by unfold State.logErr; dsimp only; split <;> rfl
@[simp] theorem State.logErr_written (p code : Nat) (info : Word) : (s.logErr p code info).written = s.written := by unfold State.logErr; dsimp only; split <;> rfl
@[simp] theorem State.logErr_movers (p code : Nat) (info : Word) : (s.logErr p code info).movers = s.movers := by unfold State.logErr; dsimp only; split <;> rfl
@[simp] theorem State.logErr_descs (p code : Nat) (info : Word) : (s.logErr p code info).descs = s.descs := by unfold State.logErr; dsimp only; split <;> rfl
@[simp] theorem State.logErr_ringTurn (p code : Nat) (info : Word) : (s.logErr p code info).ringTurn = s.ringTurn := by unfold State.logErr; dsimp only; split <;> rfl
@[simp] theorem State.logErr_tlb (p code : Nat) (info : Word) : (s.logErr p code info).tlb = s.tlb := by unfold State.logErr; dsimp only; split <;> rfl
@[simp] theorem State.logErr_retire (p code : Nat) (info : Word) : (s.logErr p code info).retire = s.retire := by unfold State.logErr; dsimp only; split <;> rfl
@[simp] theorem State.logErr_retMark (p code : Nat) (info : Word) : (s.logErr p code info).retMark = s.retMark := by unfold State.logErr; dsimp only; split <;> rfl
@[simp] theorem State.logErr_migr (p code : Nat) (info : Word) : (s.logErr p code info).migr = s.migr := by unfold State.logErr; dsimp only; split <;> rfl
@[simp] theorem State.logErr_invAt (p code : Nat) (info : Word) : (s.logErr p code info).invAt = s.invAt := by unfold State.logErr; dsimp only; split <;> rfl
@[simp] theorem State.logErr_regionW (p code : Nat) (info : Word) : (s.logErr p code info).regionW = s.regionW := by unfold State.logErr; dsimp only; split <;> rfl
@[simp] theorem State.logErr_events (p code : Nat) (info : Word) : (s.logErr p code info).events = s.events := by unfold State.logErr; dsimp only; split <;> rfl
@[simp] theorem State.logErr_lineDead (p code : Nat) (info : Word) : (s.logErr p code info).lineDead = s.lineDead := by unfold State.logErr; dsimp only; split <;> rfl
@[simp] theorem State.logErr_ownFall (p code : Nat) (info : Word) : (s.logErr p code info).ownFall = s.ownFall := by unfold State.logErr; dsimp only; split <;> rfl
@[simp] theorem State.logErr_rst (p code : Nat) (info : Word) : (s.logErr p code info).rst = s.rst := by unfold State.logErr; dsimp only; split <;> rfl
@[simp] theorem State.logErr_boot (p code : Nat) (info : Word) : (s.logErr p code info).boot = s.boot := by unfold State.logErr; dsimp only; split <;> rfl
@[simp] theorem State.logErr_net (p code : Nat) (info : Word) : (s.logErr p code info).net = s.net := by unfold State.logErr; dsimp only; split <;> rfl
@[simp] theorem State.logErr_pair (p code : Nat) (info : Word) : (s.logErr p code info).pair = s.pair := by unfold State.logErr; dsimp only; split <;> rfl
@[simp] theorem State.logErr_sdPend (p code : Nat) (info : Word) : (s.logErr p code info).sdPend = s.sdPend := by unfold State.logErr; dsimp only; split <;> rfl
@[simp] theorem State.logErr_wedged (p code : Nat) (info : Word) : (s.logErr p code info).wedged = s.wedged := by unfold State.logErr; dsimp only; split <;> rfl
@[simp] theorem State.logErr_rcd (p code : Nat) (info : Word) : (s.logErr p code info).rcd = s.rcd := by unfold State.logErr; dsimp only; split <;> rfl
@[simp] theorem State.logErr_upd (p code : Nat) (info : Word) : (s.logErr p code info).upd = s.upd := by unfold State.logErr; dsimp only; split <;> rfl
@[simp] theorem State.logErr_host (p code : Nat) (info : Word) : (s.logErr p code info).host = s.host := by unfold State.logErr; dsimp only; split <;> rfl
@[simp] theorem State.logErr_can (p code : Nat) (info : Word) : (s.logErr p code info).can = s.can := by unfold State.logErr; dsimp only; split <;> rfl
@[simp] theorem State.logErr_fio (p code : Nat) (info : Word) : (s.logErr p code info).fio = s.fio := by unfold State.logErr; dsimp only; split <;> rfl
@[simp] theorem State.logErr_jtag (p code : Nat) (info : Word) : (s.logErr p code info).jtag = s.jtag := by unfold State.logErr; dsimp only; split <;> rfl
@[simp] theorem State.logErr_out (p code : Nat) (info : Word) : (s.logErr p code info).out = s.out := by unfold State.logErr; dsimp only; split <;> rfl
@[simp] theorem State.logErr_free (p code : Nat) (info : Word) : (s.logErr p code info).free = s.free := by unfold State.logErr; dsimp only; split <;> rfl

@[simp] theorem State.refuse_pending (k : Nat) : (s.refuse k).pending = s.pending := State.logErr_pending _ _ _
@[simp] theorem State.refuse_mem (k : Nat) : (s.refuse k).mem = s.mem := State.logErr_mem _ _ _
@[simp] theorem State.refuse_poison (k : Nat) : (s.refuse k).poison = s.poison := State.logErr_poison _ _ _
@[simp] theorem State.refuse_state (k : Nat) : (s.refuse k).state = s.state := State.logErr_state _ _ _
@[simp] theorem State.refuse_option (k : Nat) : (s.refuse k).option = s.option := State.logErr_option _ _ _
@[simp] theorem State.refuse_opTime (k : Nat) : (s.refuse k).opTime = s.opTime := State.logErr_opTime _ _ _
@[simp] theorem State.refuse_opFrac (k : Nat) : (s.refuse k).opFrac = s.opFrac := State.logErr_opFrac _ _ _
@[simp] theorem State.refuse_opSaved (k : Nat) : (s.refuse k).opSaved = s.opSaved := State.logErr_opSaved _ _ _
@[simp] theorem State.refuse_time (k : Nat) : (s.refuse k).time = s.time := State.logErr_time _ _ _
@[simp] theorem State.refuse_boards (k : Nat) : (s.refuse k).boards = s.boards := State.logErr_boards _ _ _
@[simp] theorem State.refuse_seqr (k : Nat) : (s.refuse k).seqr = s.seqr := State.logErr_seqr _ _ _
@[simp] theorem State.refuse_lanes (k : Nat) : (s.refuse k).lanes = s.lanes := State.logErr_lanes _ _ _
@[simp] theorem State.refuse_gmb (k : Nat) : (s.refuse k).gmb = s.gmb := State.logErr_gmb _ _ _
@[simp] theorem State.refuse_tasks (k : Nat) : (s.refuse k).tasks = s.tasks := State.logErr_tasks _ _ _
@[simp] theorem State.refuse_written (k : Nat) : (s.refuse k).written = s.written := State.logErr_written _ _ _
@[simp] theorem State.refuse_movers (k : Nat) : (s.refuse k).movers = s.movers := State.logErr_movers _ _ _
@[simp] theorem State.refuse_descs (k : Nat) : (s.refuse k).descs = s.descs := State.logErr_descs _ _ _
@[simp] theorem State.refuse_ringTurn (k : Nat) : (s.refuse k).ringTurn = s.ringTurn := State.logErr_ringTurn _ _ _
@[simp] theorem State.refuse_tlb (k : Nat) : (s.refuse k).tlb = s.tlb := State.logErr_tlb _ _ _
@[simp] theorem State.refuse_retire (k : Nat) : (s.refuse k).retire = s.retire := State.logErr_retire _ _ _
@[simp] theorem State.refuse_retMark (k : Nat) : (s.refuse k).retMark = s.retMark := State.logErr_retMark _ _ _
@[simp] theorem State.refuse_migr (k : Nat) : (s.refuse k).migr = s.migr := State.logErr_migr _ _ _
@[simp] theorem State.refuse_invAt (k : Nat) : (s.refuse k).invAt = s.invAt := State.logErr_invAt _ _ _
@[simp] theorem State.refuse_regionW (k : Nat) : (s.refuse k).regionW = s.regionW := State.logErr_regionW _ _ _
@[simp] theorem State.refuse_events (k : Nat) : (s.refuse k).events = s.events := State.logErr_events _ _ _
@[simp] theorem State.refuse_lineDead (k : Nat) : (s.refuse k).lineDead = s.lineDead := State.logErr_lineDead _ _ _
@[simp] theorem State.refuse_ownFall (k : Nat) : (s.refuse k).ownFall = s.ownFall := State.logErr_ownFall _ _ _
@[simp] theorem State.refuse_rst (k : Nat) : (s.refuse k).rst = s.rst := State.logErr_rst _ _ _
@[simp] theorem State.refuse_boot (k : Nat) : (s.refuse k).boot = s.boot := State.logErr_boot _ _ _
@[simp] theorem State.refuse_net (k : Nat) : (s.refuse k).net = s.net := State.logErr_net _ _ _
@[simp] theorem State.refuse_pair (k : Nat) : (s.refuse k).pair = s.pair := State.logErr_pair _ _ _
@[simp] theorem State.refuse_sdPend (k : Nat) : (s.refuse k).sdPend = s.sdPend := State.logErr_sdPend _ _ _
@[simp] theorem State.refuse_wedged (k : Nat) : (s.refuse k).wedged = s.wedged := State.logErr_wedged _ _ _
@[simp] theorem State.refuse_rcd (k : Nat) : (s.refuse k).rcd = s.rcd := State.logErr_rcd _ _ _
@[simp] theorem State.refuse_upd (k : Nat) : (s.refuse k).upd = s.upd := State.logErr_upd _ _ _
@[simp] theorem State.refuse_host (k : Nat) : (s.refuse k).host = s.host := State.logErr_host _ _ _
@[simp] theorem State.refuse_can (k : Nat) : (s.refuse k).can = s.can := State.logErr_can _ _ _
@[simp] theorem State.refuse_fio (k : Nat) : (s.refuse k).fio = s.fio := State.logErr_fio _ _ _
@[simp] theorem State.refuse_jtag (k : Nat) : (s.refuse k).jtag = s.jtag := State.logErr_jtag _ _ _
@[simp] theorem State.refuse_out (k : Nat) : (s.refuse k).out = s.out := State.logErr_out _ _ _
@[simp] theorem State.refuse_free (k : Nat) : (s.refuse k).free = s.free := State.logErr_free _ _ _

@[simp] theorem State.incSat_pending (k hi lo : Nat) : (s.incSat k hi lo).pending = s.pending := rfl
@[simp] theorem State.incSat_mem (k hi lo : Nat) : (s.incSat k hi lo).mem = s.mem := rfl
@[simp] theorem State.incSat_poison (k hi lo : Nat) : (s.incSat k hi lo).poison = s.poison := rfl
@[simp] theorem State.incSat_state (k hi lo : Nat) : (s.incSat k hi lo).state = s.state := rfl
@[simp] theorem State.incSat_option (k hi lo : Nat) : (s.incSat k hi lo).option = s.option := rfl
@[simp] theorem State.incSat_opTime (k hi lo : Nat) : (s.incSat k hi lo).opTime = s.opTime := rfl
@[simp] theorem State.incSat_opFrac (k hi lo : Nat) : (s.incSat k hi lo).opFrac = s.opFrac := rfl
@[simp] theorem State.incSat_opSaved (k hi lo : Nat) : (s.incSat k hi lo).opSaved = s.opSaved := rfl
@[simp] theorem State.incSat_time (k hi lo : Nat) : (s.incSat k hi lo).time = s.time := rfl
@[simp] theorem State.incSat_boards (k hi lo : Nat) : (s.incSat k hi lo).boards = s.boards := rfl
@[simp] theorem State.incSat_seqr (k hi lo : Nat) : (s.incSat k hi lo).seqr = s.seqr := rfl
@[simp] theorem State.incSat_lanes (k hi lo : Nat) : (s.incSat k hi lo).lanes = s.lanes := rfl
@[simp] theorem State.incSat_gmb (k hi lo : Nat) : (s.incSat k hi lo).gmb = s.gmb := rfl
@[simp] theorem State.incSat_tasks (k hi lo : Nat) : (s.incSat k hi lo).tasks = s.tasks := rfl
@[simp] theorem State.incSat_written (k hi lo : Nat) : (s.incSat k hi lo).written = s.written := rfl
@[simp] theorem State.incSat_movers (k hi lo : Nat) : (s.incSat k hi lo).movers = s.movers := rfl
@[simp] theorem State.incSat_descs (k hi lo : Nat) : (s.incSat k hi lo).descs = s.descs := rfl
@[simp] theorem State.incSat_ringTurn (k hi lo : Nat) : (s.incSat k hi lo).ringTurn = s.ringTurn := rfl
@[simp] theorem State.incSat_tlb (k hi lo : Nat) : (s.incSat k hi lo).tlb = s.tlb := rfl
@[simp] theorem State.incSat_retire (k hi lo : Nat) : (s.incSat k hi lo).retire = s.retire := rfl
@[simp] theorem State.incSat_retMark (k hi lo : Nat) : (s.incSat k hi lo).retMark = s.retMark := rfl
@[simp] theorem State.incSat_migr (k hi lo : Nat) : (s.incSat k hi lo).migr = s.migr := rfl
@[simp] theorem State.incSat_invAt (k hi lo : Nat) : (s.incSat k hi lo).invAt = s.invAt := rfl
@[simp] theorem State.incSat_regionW (k hi lo : Nat) : (s.incSat k hi lo).regionW = s.regionW := rfl
@[simp] theorem State.incSat_events (k hi lo : Nat) : (s.incSat k hi lo).events = s.events := rfl
@[simp] theorem State.incSat_lineDead (k hi lo : Nat) : (s.incSat k hi lo).lineDead = s.lineDead := rfl
@[simp] theorem State.incSat_ownFall (k hi lo : Nat) : (s.incSat k hi lo).ownFall = s.ownFall := rfl
@[simp] theorem State.incSat_rst (k hi lo : Nat) : (s.incSat k hi lo).rst = s.rst := rfl
@[simp] theorem State.incSat_boot (k hi lo : Nat) : (s.incSat k hi lo).boot = s.boot := rfl
@[simp] theorem State.incSat_net (k hi lo : Nat) : (s.incSat k hi lo).net = s.net := rfl
@[simp] theorem State.incSat_pair (k hi lo : Nat) : (s.incSat k hi lo).pair = s.pair := rfl
@[simp] theorem State.incSat_sdPend (k hi lo : Nat) : (s.incSat k hi lo).sdPend = s.sdPend := rfl
@[simp] theorem State.incSat_wedged (k hi lo : Nat) : (s.incSat k hi lo).wedged = s.wedged := rfl
@[simp] theorem State.incSat_rcd (k hi lo : Nat) : (s.incSat k hi lo).rcd = s.rcd := rfl
@[simp] theorem State.incSat_upd (k hi lo : Nat) : (s.incSat k hi lo).upd = s.upd := rfl
@[simp] theorem State.incSat_host (k hi lo : Nat) : (s.incSat k hi lo).host = s.host := rfl
@[simp] theorem State.incSat_can (k hi lo : Nat) : (s.incSat k hi lo).can = s.can := rfl
@[simp] theorem State.incSat_fio (k hi lo : Nat) : (s.incSat k hi lo).fio = s.fio := rfl
@[simp] theorem State.incSat_jtag (k hi lo : Nat) : (s.incSat k hi lo).jtag = s.jtag := rfl
@[simp] theorem State.incSat_out (k hi lo : Nat) : (s.incSat k hi lo).out = s.out := rfl
@[simp] theorem State.incSat_free (k hi lo : Nat) : (s.incSat k hi lo).free = s.free := rfl

@[simp] theorem State.incWrap_pending (k hi lo : Nat) : (s.incWrap k hi lo).pending = s.pending := rfl
@[simp] theorem State.incWrap_mem (k hi lo : Nat) : (s.incWrap k hi lo).mem = s.mem := rfl
@[simp] theorem State.incWrap_poison (k hi lo : Nat) : (s.incWrap k hi lo).poison = s.poison := rfl
@[simp] theorem State.incWrap_state (k hi lo : Nat) : (s.incWrap k hi lo).state = s.state := rfl
@[simp] theorem State.incWrap_option (k hi lo : Nat) : (s.incWrap k hi lo).option = s.option := rfl
@[simp] theorem State.incWrap_opTime (k hi lo : Nat) : (s.incWrap k hi lo).opTime = s.opTime := rfl
@[simp] theorem State.incWrap_opFrac (k hi lo : Nat) : (s.incWrap k hi lo).opFrac = s.opFrac := rfl
@[simp] theorem State.incWrap_opSaved (k hi lo : Nat) : (s.incWrap k hi lo).opSaved = s.opSaved := rfl
@[simp] theorem State.incWrap_time (k hi lo : Nat) : (s.incWrap k hi lo).time = s.time := rfl
@[simp] theorem State.incWrap_boards (k hi lo : Nat) : (s.incWrap k hi lo).boards = s.boards := rfl
@[simp] theorem State.incWrap_seqr (k hi lo : Nat) : (s.incWrap k hi lo).seqr = s.seqr := rfl
@[simp] theorem State.incWrap_lanes (k hi lo : Nat) : (s.incWrap k hi lo).lanes = s.lanes := rfl
@[simp] theorem State.incWrap_gmb (k hi lo : Nat) : (s.incWrap k hi lo).gmb = s.gmb := rfl
@[simp] theorem State.incWrap_tasks (k hi lo : Nat) : (s.incWrap k hi lo).tasks = s.tasks := rfl
@[simp] theorem State.incWrap_written (k hi lo : Nat) : (s.incWrap k hi lo).written = s.written := rfl
@[simp] theorem State.incWrap_movers (k hi lo : Nat) : (s.incWrap k hi lo).movers = s.movers := rfl
@[simp] theorem State.incWrap_descs (k hi lo : Nat) : (s.incWrap k hi lo).descs = s.descs := rfl
@[simp] theorem State.incWrap_ringTurn (k hi lo : Nat) : (s.incWrap k hi lo).ringTurn = s.ringTurn := rfl
@[simp] theorem State.incWrap_tlb (k hi lo : Nat) : (s.incWrap k hi lo).tlb = s.tlb := rfl
@[simp] theorem State.incWrap_retire (k hi lo : Nat) : (s.incWrap k hi lo).retire = s.retire := rfl
@[simp] theorem State.incWrap_retMark (k hi lo : Nat) : (s.incWrap k hi lo).retMark = s.retMark := rfl
@[simp] theorem State.incWrap_migr (k hi lo : Nat) : (s.incWrap k hi lo).migr = s.migr := rfl
@[simp] theorem State.incWrap_invAt (k hi lo : Nat) : (s.incWrap k hi lo).invAt = s.invAt := rfl
@[simp] theorem State.incWrap_regionW (k hi lo : Nat) : (s.incWrap k hi lo).regionW = s.regionW := rfl
@[simp] theorem State.incWrap_events (k hi lo : Nat) : (s.incWrap k hi lo).events = s.events := rfl
@[simp] theorem State.incWrap_lineDead (k hi lo : Nat) : (s.incWrap k hi lo).lineDead = s.lineDead := rfl
@[simp] theorem State.incWrap_ownFall (k hi lo : Nat) : (s.incWrap k hi lo).ownFall = s.ownFall := rfl
@[simp] theorem State.incWrap_rst (k hi lo : Nat) : (s.incWrap k hi lo).rst = s.rst := rfl
@[simp] theorem State.incWrap_boot (k hi lo : Nat) : (s.incWrap k hi lo).boot = s.boot := rfl
@[simp] theorem State.incWrap_net (k hi lo : Nat) : (s.incWrap k hi lo).net = s.net := rfl
@[simp] theorem State.incWrap_pair (k hi lo : Nat) : (s.incWrap k hi lo).pair = s.pair := rfl
@[simp] theorem State.incWrap_sdPend (k hi lo : Nat) : (s.incWrap k hi lo).sdPend = s.sdPend := rfl
@[simp] theorem State.incWrap_wedged (k hi lo : Nat) : (s.incWrap k hi lo).wedged = s.wedged := rfl
@[simp] theorem State.incWrap_rcd (k hi lo : Nat) : (s.incWrap k hi lo).rcd = s.rcd := rfl
@[simp] theorem State.incWrap_upd (k hi lo : Nat) : (s.incWrap k hi lo).upd = s.upd := rfl
@[simp] theorem State.incWrap_host (k hi lo : Nat) : (s.incWrap k hi lo).host = s.host := rfl
@[simp] theorem State.incWrap_can (k hi lo : Nat) : (s.incWrap k hi lo).can = s.can := rfl
@[simp] theorem State.incWrap_fio (k hi lo : Nat) : (s.incWrap k hi lo).fio = s.fio := rfl
@[simp] theorem State.incWrap_jtag (k hi lo : Nat) : (s.incWrap k hi lo).jtag = s.jtag := rfl
@[simp] theorem State.incWrap_out (k hi lo : Nat) : (s.incWrap k hi lo).out = s.out := rfl
@[simp] theorem State.incWrap_free (k hi lo : Nat) : (s.incWrap k hi lo).free = s.free := rfl

@[simp] theorem State.peak_pending (k hi lo v : Nat) : (s.peak k hi lo v).pending = s.pending := by unfold State.peak; split <;> rfl
@[simp] theorem State.peak_mem (k hi lo v : Nat) : (s.peak k hi lo v).mem = s.mem := by unfold State.peak; split <;> rfl
@[simp] theorem State.peak_poison (k hi lo v : Nat) : (s.peak k hi lo v).poison = s.poison := by unfold State.peak; split <;> rfl
@[simp] theorem State.peak_state (k hi lo v : Nat) : (s.peak k hi lo v).state = s.state := by unfold State.peak; split <;> rfl
@[simp] theorem State.peak_option (k hi lo v : Nat) : (s.peak k hi lo v).option = s.option := by unfold State.peak; split <;> rfl
@[simp] theorem State.peak_opTime (k hi lo v : Nat) : (s.peak k hi lo v).opTime = s.opTime := by unfold State.peak; split <;> rfl
@[simp] theorem State.peak_opFrac (k hi lo v : Nat) : (s.peak k hi lo v).opFrac = s.opFrac := by unfold State.peak; split <;> rfl
@[simp] theorem State.peak_opSaved (k hi lo v : Nat) : (s.peak k hi lo v).opSaved = s.opSaved := by unfold State.peak; split <;> rfl
@[simp] theorem State.peak_time (k hi lo v : Nat) : (s.peak k hi lo v).time = s.time := by unfold State.peak; split <;> rfl
@[simp] theorem State.peak_boards (k hi lo v : Nat) : (s.peak k hi lo v).boards = s.boards := by unfold State.peak; split <;> rfl
@[simp] theorem State.peak_seqr (k hi lo v : Nat) : (s.peak k hi lo v).seqr = s.seqr := by unfold State.peak; split <;> rfl
@[simp] theorem State.peak_lanes (k hi lo v : Nat) : (s.peak k hi lo v).lanes = s.lanes := by unfold State.peak; split <;> rfl
@[simp] theorem State.peak_gmb (k hi lo v : Nat) : (s.peak k hi lo v).gmb = s.gmb := by unfold State.peak; split <;> rfl
@[simp] theorem State.peak_tasks (k hi lo v : Nat) : (s.peak k hi lo v).tasks = s.tasks := by unfold State.peak; split <;> rfl
@[simp] theorem State.peak_written (k hi lo v : Nat) : (s.peak k hi lo v).written = s.written := by unfold State.peak; split <;> rfl
@[simp] theorem State.peak_movers (k hi lo v : Nat) : (s.peak k hi lo v).movers = s.movers := by unfold State.peak; split <;> rfl
@[simp] theorem State.peak_descs (k hi lo v : Nat) : (s.peak k hi lo v).descs = s.descs := by unfold State.peak; split <;> rfl
@[simp] theorem State.peak_ringTurn (k hi lo v : Nat) : (s.peak k hi lo v).ringTurn = s.ringTurn := by unfold State.peak; split <;> rfl
@[simp] theorem State.peak_tlb (k hi lo v : Nat) : (s.peak k hi lo v).tlb = s.tlb := by unfold State.peak; split <;> rfl
@[simp] theorem State.peak_retire (k hi lo v : Nat) : (s.peak k hi lo v).retire = s.retire := by unfold State.peak; split <;> rfl
@[simp] theorem State.peak_retMark (k hi lo v : Nat) : (s.peak k hi lo v).retMark = s.retMark := by unfold State.peak; split <;> rfl
@[simp] theorem State.peak_migr (k hi lo v : Nat) : (s.peak k hi lo v).migr = s.migr := by unfold State.peak; split <;> rfl
@[simp] theorem State.peak_invAt (k hi lo v : Nat) : (s.peak k hi lo v).invAt = s.invAt := by unfold State.peak; split <;> rfl
@[simp] theorem State.peak_regionW (k hi lo v : Nat) : (s.peak k hi lo v).regionW = s.regionW := by unfold State.peak; split <;> rfl
@[simp] theorem State.peak_events (k hi lo v : Nat) : (s.peak k hi lo v).events = s.events := by unfold State.peak; split <;> rfl
@[simp] theorem State.peak_lineDead (k hi lo v : Nat) : (s.peak k hi lo v).lineDead = s.lineDead := by unfold State.peak; split <;> rfl
@[simp] theorem State.peak_ownFall (k hi lo v : Nat) : (s.peak k hi lo v).ownFall = s.ownFall := by unfold State.peak; split <;> rfl
@[simp] theorem State.peak_rst (k hi lo v : Nat) : (s.peak k hi lo v).rst = s.rst := by unfold State.peak; split <;> rfl
@[simp] theorem State.peak_boot (k hi lo v : Nat) : (s.peak k hi lo v).boot = s.boot := by unfold State.peak; split <;> rfl
@[simp] theorem State.peak_net (k hi lo v : Nat) : (s.peak k hi lo v).net = s.net := by unfold State.peak; split <;> rfl
@[simp] theorem State.peak_pair (k hi lo v : Nat) : (s.peak k hi lo v).pair = s.pair := by unfold State.peak; split <;> rfl
@[simp] theorem State.peak_sdPend (k hi lo v : Nat) : (s.peak k hi lo v).sdPend = s.sdPend := by unfold State.peak; split <;> rfl
@[simp] theorem State.peak_wedged (k hi lo v : Nat) : (s.peak k hi lo v).wedged = s.wedged := by unfold State.peak; split <;> rfl
@[simp] theorem State.peak_rcd (k hi lo v : Nat) : (s.peak k hi lo v).rcd = s.rcd := by unfold State.peak; split <;> rfl
@[simp] theorem State.peak_upd (k hi lo v : Nat) : (s.peak k hi lo v).upd = s.upd := by unfold State.peak; split <;> rfl
@[simp] theorem State.peak_host (k hi lo v : Nat) : (s.peak k hi lo v).host = s.host := by unfold State.peak; split <;> rfl
@[simp] theorem State.peak_can (k hi lo v : Nat) : (s.peak k hi lo v).can = s.can := by unfold State.peak; split <;> rfl
@[simp] theorem State.peak_fio (k hi lo v : Nat) : (s.peak k hi lo v).fio = s.fio := by unfold State.peak; split <;> rfl
@[simp] theorem State.peak_jtag (k hi lo v : Nat) : (s.peak k hi lo v).jtag = s.jtag := by unfold State.peak; split <;> rfl
@[simp] theorem State.peak_out (k hi lo v : Nat) : (s.peak k hi lo v).out = s.out := by unfold State.peak; split <;> rfl
@[simp] theorem State.peak_free (k hi lo v : Nat) : (s.peak k hi lo v).free = s.free := by unfold State.peak; split <;> rfl

@[simp] theorem State.event_reg (ty src : Nat) (pr : Prio) (b : Bytes) (k : Nat) : (s.event ty src pr b).reg k = s.reg k := rfl
@[simp] theorem State.event_fld (ty src : Nat) (pr : Prio) (b : Bytes) (k hi lo : Nat) : (s.event ty src pr b).fld k hi lo = s.fld k hi lo := rfl
@[simp] theorem State.takeFree_reg  (k : Nat) : (s.takeFree).reg k = s.reg k := rfl
@[simp] theorem State.takeFree_fld  (k hi lo : Nat) : (s.takeFree).fld k hi lo = s.fld k hi lo := rfl
@[simp] theorem State.writeMem_reg (a : Nat) (l : Bytes) (k : Nat) : (s.writeMem a l).reg k = s.reg k := rfl
@[simp] theorem State.writeMem_fld (a : Nat) (l : Bytes) (k hi lo : Nat) : (s.writeMem a l).fld k hi lo = s.fld k hi lo := rfl
@[simp] theorem State.modLane_reg (n : Fin 16) (f : Lane → Lane) (k : Nat) : (s.modLane n f).reg k = s.reg k := rfl
@[simp] theorem State.modLane_fld (n : Fin 16) (f : Lane → Lane) (k hi lo : Nat) : (s.modLane n f).fld k hi lo = s.fld k hi lo := rfl
@[simp] theorem State.modCtx_reg (n : Fin 16) (f : GmbCtx → GmbCtx) (k : Nat) : (s.modCtx n f).reg k = s.reg k := rfl
@[simp] theorem State.modCtx_fld (n : Fin 16) (f : GmbCtx → GmbCtx) (k hi lo : Nat) : (s.modCtx n f).fld k hi lo = s.fld k hi lo := rfl
@[simp] theorem State.modTask_reg (n : Fin 16) (f : TaskRun → TaskRun) (k : Nat) : (s.modTask n f).reg k = s.reg k := rfl
@[simp] theorem State.modTask_fld (n : Fin 16) (f : TaskRun → TaskRun) (k hi lo : Nat) : (s.modTask n f).fld k hi lo = s.fld k hi lo := rfl
@[simp] theorem State.modNet_reg (f : Net → Net) (k : Nat) : (s.modNet f).reg k = s.reg k := rfl
@[simp] theorem State.modNet_fld (f : Net → Net) (k hi lo : Nat) : (s.modNet f).fld k hi lo = s.fld k hi lo := rfl
@[simp] theorem State.modPair_reg (f : Pair → Pair) (k : Nat) : (s.modPair f).reg k = s.reg k := rfl
@[simp] theorem State.modPair_fld (f : Pair → Pair) (k hi lo : Nat) : (s.modPair f).fld k hi lo = s.fld k hi lo := rfl
@[simp] theorem State.modTime_reg (f : TimeBase → TimeBase) (k : Nat) : (s.modTime f).reg k = s.reg k := rfl
@[simp] theorem State.modTime_fld (f : TimeBase → TimeBase) (k hi lo : Nat) : (s.modTime f).fld k hi lo = s.fld k hi lo := rfl
@[simp] theorem State.modSeqr_reg (f : Seqr → Seqr) (k : Nat) : (s.modSeqr f).reg k = s.reg k := rfl
@[simp] theorem State.modSeqr_fld (f : Seqr → Seqr) (k hi lo : Nat) : (s.modSeqr f).fld k hi lo = s.fld k hi lo := rfl

end Sys2Proof.Machine
end

