-- ==== Sys2Proof/Certificates/Slice0/Obligations.lean ====
section
/-! DEFINITION. The statements about the block, for the provers. -/

open Sys2Proof Sys2Proof.Machine

/-- For every command c and state s, a step of s with c at the front of its queue is the execution of c on s with the queue's rest. -/
def Obligations.StepTakesFront : Prop :=
  ∀ (c : Instr) (q : List Instr) (s : State), step { s with pending := c :: q } = exec c { s with pending := q }

/-- On an empty queue, while SEQ is released and no WEDGE waits for its reset, global time advances by 2.5 ns, the trim and the slew of the cycle (R38, R50, R546), operating time by 2.5 ns, and memory, the lanes and the queue stay; while SEQ is in reset and AON released only operating time advances; while AON is in reset the step changes nothing. 10 ms after a WEDGE the edge also brings the steward's System reset (R384). (That an empty queue lets one BCLK edge pass is the model's choice, assumption 1; that operating time advances 2.5 ns with each edge, and while AON alone is released, is assumption 5; when the reset of a WEDGE comes is assumption 107.) -/
def Obligations.EmptyQueueTick : Prop :=
  (∀ (s : State), s.pending = [] → bit (s.reg Reg.rstDom) 2 = true → s.host.wedgeAt = none → ∃ t, step s = .next t ∧
    t.time.gt = s.time.gt + BitVec.ofInt 96 (0x280000000 + s.time.trim.toInt + (if s.time.slewCycle < 100000 then (if
    s.time.slewTotal < 0 then -1 else 1) * ((s.time.slewTotal.natAbs / 100000 + b2n (decide (s.time.slewCycle <
    s.time.slewTotal.natAbs % 100000)) : Nat) : Int) else 0)) ∧ t.time.slewCycle = s.time.slewCycle + 1 ∧ t.opTime =
    s.opTime + BitVec.ofNat 48 ((s.opFrac + 5) / 2000000) ∧ t.opFrac = (s.opFrac + 5) % 2000000 ∧ t.mem = s.mem ∧ t.lanes =
    s.lanes ∧ t.pending = []) ∧
  (∀ (s : State), s.pending = [] → bit (s.reg Reg.rstDom) 2 = false → bit (s.reg Reg.rstDom) 0 = true → s.host.wedgeAt =
    none → step s = .next
    { s with opTime := s.opTime + BitVec.ofNat 48 ((s.opFrac + 5) / 2000000), opFrac := (s.opFrac + 5) % 2000000 }) ∧
  (∀ (s : State), s.pending = [] → bit (s.reg Reg.rstDom) 2 = false → bit (s.reg Reg.rstDom) 0 = false → s.host.wedgeAt =
    none → step s = .next s) ∧
  (∀ (w : Nat) (s : State), s.pending = [] → bit (s.reg Reg.rstDom) 2 = true → s.host.wedgeAt = some w → (s.edge.opNs < w +
    10000000 → ∃ t, step s = .next t ∧ t.time.gt = s.time.gt + BitVec.ofInt 96 (s.time.gain 1) ∧ t.mem = s.mem ∧ t.lanes =
    s.lanes ∧ t.host = s.host ∧ t.pending = []) ∧ (w + 10000000 ≤ s.edge.opNs → s.stewardUp = true → ∃ t, step s = .next t
    ∧ t.rst.running = true ∧ t.rst.sources.getLsbD 10 = true ∧ t.rst.reach ≤ 1 ∧ t.host.wedgeAt = none ∧ t.pending = []))

/-- For every command and every state the execution answers a next state: no command is refused and none faults (what a command does where the specification lets it do nothing is nothing, assumption 8). -/
def Obligations.EveryCommandCompletes : Prop :=
  ∀ (c : Instr) (s : State), Does c s fun _ => True

/-- At reset the module is in BOOT, global time is 0 with the nominal rate and no trim, the time base is UNSYNC, the sequencer is OFF, no lane has work, HAP listens on port 20551 and the log and interrupt registers of every page are 0. -/
def Obligations.ResetValues : Prop :=
  State.reset.state = .boot ∧ State.reset.now = 0 ∧ State.reset.time.rate = 0x280000000 ∧ State.reset.time.state = .unsync
    ∧ State.reset.seqr.state = .off ∧ (∀ n : Fin 16, State.reset.lanes[n].act = .none) ∧ State.reset.fld Reg.hapCtrl 15 0 =
    20551 ∧ ∀ p, p < 128 → State.reset.reg (Reg.pgErr p) = 0 ∧ State.reset.reg (Reg.pgErrInfo p) = 0 ∧ State.reset.reg
    (Reg.pgIrq p) = 0 ∧ State.reset.reg (Reg.pgIrqEn p) = 0

/-- At reset memory is in its canonical form and both copies of every lane hold the same registers. (The model's choices: every register of a lane is 0 at reset, assumption 2; memory that nothing has written reads as 0, assumption 3; the copies agree in every state, assumption 56.) -/
def Obligations.InvAtReset : Prop :=
  Inv State.reset

/-- From every state whose memory is canonical and whose lanes hold the same registers in both copies, a step leads to such a state. (The model's choices: a comparison that differs is a command of its own and not a state, assumption 56; canonical memory lists no byte that reads as 0, assumption 3.) -/
def Obligations.StepKeepsInv : Prop :=
  ∀ (s t : State), Inv s → step s = .next t → Inv t

/-- Every one of the block's commands, executed in a state whose memory is canonical and whose lane copies agree, leaves the queue of waiting commands as it is and leads to a state with the same two properties. (That the copies agree in every state is the model's choice, assumption 56; that canonical memory lists no zero byte is assumption 3.) -/
def Obligations.ExecKeepsQueueAndInv : Prop :=
  ∀ (c : Instr) (s t : State), Inv s → exec c s = .next t → t.pending = s.pending ∧ Inv t

/-- ADD, SUB, AND, OR, XOR, SLL, SRL, SRA, CMPLT, CMPLTU, MIN, MAX, MINU, MAXU on a lane that issues: rd takes the operation of R153 on ra and rb, a write to g0 is discarded, every other register and QA are unchanged, the PC goes on by 4, nothing outside the lane changes. ADDK, ANDK, ORK, XORK, CMPLTK, SHK and KCAT on a lane that issues: rd takes the operation of R154 with the immediate extended as its row says; SHK with its unused bits 0 and a shift kind below 3; KCAT with ra 0. -/
def Obligations.LaneIntegerAndConstant : Prop :=
  (∀ (n : Fin 16) (rd ra rb : BitVec 5) (s : State), s.issues n → Does (.add n rd ra rb) s (Writes n rd (s.g n ra + s.g n
    rb) (s.qa n) s) ∧ Does (.sub n rd ra rb) s (Writes n rd (s.g n ra - s.g n rb) (s.qa n) s) ∧ Does (.and n rd ra rb) s
    (Writes n rd (s.g n ra &&& s.g n rb) (s.qa n) s) ∧ Does (.or n rd ra rb) s (Writes n rd (s.g n ra ||| s.g n rb) (s.qa
    n) s) ∧ Does (.xor n rd ra rb) s (Writes n rd (s.g n ra ^^^ s.g n rb) (s.qa n) s) ∧ Does (.sll n rd ra rb) s (Writes n
    rd (s.g n ra <<< ((s.g n rb).toNat % 32)) (s.qa n) s) ∧ Does (.srl n rd ra rb) s (Writes n rd (s.g n ra >>> ((s.g n
    rb).toNat % 32)) (s.qa n) s) ∧ Does (.sra n rd ra rb) s (Writes n rd ((s.g n ra).sshiftRight ((s.g n rb).toNat % 32))
    (s.qa n) s) ∧ Does (.cmplt n rd ra rb) s (Writes n rd (if (s.g n ra).toInt < (s.g n rb).toInt then 1 else 0) (s.qa n)
    s) ∧ Does (.cmpltu n rd ra rb) s (Writes n rd (if (s.g n ra).toNat < (s.g n rb).toNat then 1 else 0) (s.qa n) s) ∧ Does
    (.min n rd ra rb) s (Writes n rd (if (s.g n ra).toInt < (s.g n rb).toInt then s.g n ra else s.g n rb) (s.qa n) s) ∧
    Does (.max n rd ra rb) s (Writes n rd (if (s.g n rb).toInt < (s.g n ra).toInt then s.g n ra else s.g n rb) (s.qa n) s)
    ∧ Does (.minu n rd ra rb) s (Writes n rd (if (s.g n ra).toNat < (s.g n rb).toNat then s.g n ra else s.g n rb) (s.qa n)
    s) ∧ Does (.maxu n rd ra rb) s (Writes n rd (if (s.g n rb).toNat < (s.g n ra).toNat then s.g n ra else s.g n rb) (s.qa
    n) s)) ∧
  (∀ (n : Fin 16) (rd ra : BitVec 5) (imm : BitVec 16) (s : State), s.issues n → Does (.addk n rd ra imm) s (Writes n rd
    (s.g n ra + imm.signExtend 32) (s.qa n) s) ∧ Does (.andk n rd ra imm) s (Writes n rd (s.g n ra &&& imm.setWidth 32)
    (s.qa n) s) ∧ Does (.ork n rd ra imm) s (Writes n rd (s.g n ra ||| imm.setWidth 32) (s.qa n) s) ∧ Does (.xork n rd ra
    imm) s (Writes n rd (s.g n ra ^^^ imm.setWidth 32) (s.qa n) s) ∧ Does (.cmpltk n rd ra imm) s (Writes n rd (if (s.g n
    ra).toInt < imm.toInt then 1 else 0) (s.qa n) s)) ∧
  (∀ (n : Fin 16) (rd ra : BitVec 5) (imm : BitVec 16) (s : State), s.issues n → imm.toNat < 96 → Does (.shk n rd ra imm) s
    (Writes n rd (if imm.toNat < 32 then s.g n ra <<< imm.toNat else if imm.toNat < 64 then s.g n ra >>> (imm.toNat - 32)
    else (s.g n ra).sshiftRight (imm.toNat - 64)) (s.qa n) s)) ∧
  (∀ (n : Fin 16) (rd : BitVec 5) (imm : BitVec 16) (s : State), s.issues n → Does (.kcat n rd 0 imm) s (Writes n rd ((s.g
    n rd <<< 16) ||| imm.setWidth 32) (s.qa n) s))

/-- MUL, MULL, MULLU and, with a divisor that is not 0, DIV, DIVU, REM, REMU on a lane that issues: rd, or the pair rd + 1 and rd for an even rd other than 0, takes the exact product or the quotient or remainder of a division rounded towards zero; a DIV that leaves the range is clamped and sets SAT. ADDS, SUBS, ADDSU, SUBSU, ADDSK and MULS on a lane that issues: the exact integer result is clamped to the signed or the unsigned range, rd takes it, and QA gains SAT exactly if the clamp changed the value; nothing else changes. -/
def Obligations.LaneMultiplyAndSaturate : Prop :=
  (∀ (n : Fin 16) (rd ra rb : BitVec 5) (s : State), s.issues n → Does (.mul n rd ra rb) s (Writes n rd (s.g n ra * s.g n
    rb) (s.qa n) s)) ∧
  (∀ (n : Fin 16) (rd ra rb : BitVec 5) (s : State), s.issues n → rd ≠ 0 → rd.toNat % 2 = 0 → Does (.mull n rd ra rb) s
    (WritesPair n rd (BitVec.ofInt 64 ((s.g n ra).toInt * (s.g n rb).toInt)) s) ∧ Does (.mullu n rd ra rb) s (WritesPair n
    rd (BitVec.ofNat 64 ((s.g n ra).toNat * (s.g n rb).toNat)) s)) ∧
  (∀ (n : Fin 16) (rd ra rb : BitVec 5) (s : State), s.issues n → s.g n rb ≠ 0 → Does (.div n rd ra rb) s (fun t => ∃ w q,
    Writes n rd w q s t ∧ w.toInt = min 2147483647 ((s.g n ra).toInt.tdiv (s.g n rb).toInt) ∧ q = (if w.toInt = (s.g n
    ra).toInt.tdiv (s.g n rb).toInt then s.qa n else s.qa n ||| 0x10)) ∧ Does (.divu n rd ra rb) s (fun t => ∃ w, Writes n
    rd w (s.qa n) s t ∧ w.toNat = (s.g n ra).toNat / (s.g n rb).toNat) ∧ Does (.rem n rd ra rb) s (fun t => ∃ w, Writes n
    rd w (s.qa n) s t ∧ w.toInt = (s.g n ra).toInt.tmod (s.g n rb).toInt) ∧ Does (.remu n rd ra rb) s (fun t => ∃ w, Writes
    n rd w (s.qa n) s t ∧ w.toNat = (s.g n ra).toNat % (s.g n rb).toNat)) ∧
  (∀ (n : Fin 16) (rd ra rb : BitVec 5) (s : State), s.issues n → Does (.adds n rd ra rb) s (fun t => ∃ w q, Writes n rd w
    q s t ∧ w.toInt = max (-2147483648) (min 2147483647 ((s.g n ra).toInt + (s.g n rb).toInt)) ∧ q = (if w.toInt = (s.g n
    ra).toInt + (s.g n rb).toInt then s.qa n else s.qa n ||| 0x10)) ∧ Does (.subs n rd ra rb) s (fun t => ∃ w q, Writes n
    rd w q s t ∧ w.toInt = max (-2147483648) (min 2147483647 ((s.g n ra).toInt - (s.g n rb).toInt)) ∧ q = (if w.toInt =
    (s.g n ra).toInt - (s.g n rb).toInt then s.qa n else s.qa n ||| 0x10)) ∧ Does (.muls n rd ra rb) s (fun t => ∃ w q,
    Writes n rd w q s t ∧ w.toInt = max (-2147483648) (min 2147483647 ((s.g n ra).toInt * (s.g n rb).toInt)) ∧ q = (if
    w.toInt = (s.g n ra).toInt * (s.g n rb).toInt then s.qa n else s.qa n ||| 0x10)) ∧ Does (.addsu n rd ra rb) s (fun t =>
    ∃ w q, Writes n rd w q s t ∧ (w.toNat : Int) = max 0 (min 4294967295 (((s.g n ra).toNat : Int) + ((s.g n rb).toNat :
    Int))) ∧ q = (if (w.toNat : Int) = ((s.g n ra).toNat : Int) + ((s.g n rb).toNat : Int) then s.qa n else s.qa n |||
    0x10)) ∧ Does (.subsu n rd ra rb) s (fun t => ∃ w q, Writes n rd w q s t ∧ (w.toNat : Int) = max 0 (min 4294967295
    (((s.g n ra).toNat : Int) - ((s.g n rb).toNat : Int))) ∧ q = (if (w.toNat : Int) = ((s.g n ra).toNat : Int) - ((s.g n
    rb).toNat : Int) then s.qa n else s.qa n ||| 0x10))) ∧
  (∀ (n : Fin 16) (rd ra : BitVec 5) (imm : BitVec 16) (s : State), s.issues n → Does (.addsk n rd ra imm) s (fun t => ∃ w
    q, Writes n rd w q s t ∧ w.toInt = max (-2147483648) (min 2147483647 ((s.g n ra).toInt + imm.toInt)) ∧ q = (if w.toInt
    = (s.g n ra).toInt + imm.toInt then s.qa n else s.qa n ||| 0x10)))

/-- The 13 operations of opcode 0x03 on a lane that issues, the unary ones with rb 0: rd takes the value of the named single-precision operation on ra and rb, QA gains FINV, FOVF and FCVT as that operation reports them, nothing else changes; FABS and FNEG change bit 31 alone and record nothing. Of NaN operands FADD, FSUB, FMUL, FDIV make 0x7FC0_0000, FMIN and FMAX the other operand or 0x7FC0_0000, the comparisons 0; QA[5] is set for a signalling NaN, by FLT and FLE for any. An invalid operation on numbers makes 0x7FC0_0000 and sets QA[5]; a finite non-zero number divided by zero is an infinity and sets QA[6]; other operations on infinities are exact. FCVTWS of a NaN is 0, of an infinity the limit of its sign, with QA[7] alone. -/
def Obligations.LaneFloat : Prop :=
  (∀ (n : Fin 16) (rd ra rb : BitVec 5) (s : State), s.issues n → Does (.fadd n rd ra rb) s (Writes n rd (fAdd (s.g n ra)
    (s.g n rb)).val (qaFloat (s.qa n) (fAdd (s.g n ra) (s.g n rb))) s) ∧ Does (.fsub n rd ra rb) s (Writes n rd (fSub (s.g
    n ra) (s.g n rb)).val (qaFloat (s.qa n) (fSub (s.g n ra) (s.g n rb))) s) ∧ Does (.fmul n rd ra rb) s (Writes n rd (fMul
    (s.g n ra) (s.g n rb)).val (qaFloat (s.qa n) (fMul (s.g n ra) (s.g n rb))) s) ∧ Does (.fdiv n rd ra rb) s (Writes n rd
    (fDiv (s.g n ra) (s.g n rb)).val (qaFloat (s.qa n) (fDiv (s.g n ra) (s.g n rb))) s) ∧ Does (.fmin n rd ra rb) s (Writes
    n rd (fMinMax false (s.g n ra) (s.g n rb)).val (qaFloat (s.qa n) (fMinMax false (s.g n ra) (s.g n rb))) s) ∧ Does
    (.fmax n rd ra rb) s (Writes n rd (fMinMax true (s.g n ra) (s.g n rb)).val (qaFloat (s.qa n) (fMinMax true (s.g n ra)
    (s.g n rb))) s) ∧ Does (.feq n rd ra rb) s (Writes n rd (fEq (s.g n ra) (s.g n rb)).val (qaFloat (s.qa n) (fEq (s.g n
    ra) (s.g n rb))) s) ∧ Does (.flt n rd ra rb) s (Writes n rd (fLess false (s.g n ra) (s.g n rb)).val (qaFloat (s.qa n)
    (fLess false (s.g n ra) (s.g n rb))) s) ∧ Does (.fle n rd ra rb) s (Writes n rd (fLess true (s.g n ra) (s.g n rb)).val
    (qaFloat (s.qa n) (fLess true (s.g n ra) (s.g n rb))) s) ∧ Does (.fcvtws n rd ra 0) s (Writes n rd (fToInt (s.g n
    ra)).val (qaFloat (s.qa n) (fToInt (s.g n ra))) s) ∧ Does (.fcvtsw n rd ra 0) s (Writes n rd (fOfInt (s.g n ra)).val
    (qaFloat (s.qa n) (fOfInt (s.g n ra))) s) ∧ Does (.fabs n rd ra 0) s (Writes n rd (s.g n ra &&& 0x7FFFFFFF) (s.qa n) s)
    ∧ Does (.fneg n rd ra 0) s (Writes n rd (s.g n ra ^^^ 0x80000000) (s.qa n) s)) ∧
  (∀ (n : Fin 16) (rd ra rb : BitVec 5) (x y : Word) (s : State), s.issues n → x = s.g n ra → y = s.g n rb → fIsNan x =
    true ∨ fIsNan y = true → Does (.fadd n rd ra rb) s (Writes n rd (0x7FC00000) (if (fIsSig x || fIsSig y) then s.qa n |||
    0x20 else s.qa n) s) ∧ Does (.fsub n rd ra rb) s (Writes n rd (0x7FC00000) (if (fIsSig x || fIsSig y) then s.qa n |||
    0x20 else s.qa n) s) ∧ Does (.fmul n rd ra rb) s (Writes n rd (0x7FC00000) (if (fIsSig x || fIsSig y) then s.qa n |||
    0x20 else s.qa n) s) ∧ Does (.fdiv n rd ra rb) s (Writes n rd (0x7FC00000) (if (fIsSig x || fIsSig y) then s.qa n |||
    0x20 else s.qa n) s) ∧ Does (.fmin n rd ra rb) s (Writes n rd (if !fIsNan x then x else if !fIsNan y then y else
    0x7FC00000) (if (fIsSig x || fIsSig y) then s.qa n ||| 0x20 else s.qa n) s) ∧ Does (.fmax n rd ra rb) s (Writes n rd
    (if !fIsNan x then x else if !fIsNan y then y else 0x7FC00000) (if (fIsSig x || fIsSig y) then s.qa n ||| 0x20 else
    s.qa n) s) ∧ Does (.feq n rd ra rb) s (Writes n rd (0) (if (fIsSig x || fIsSig y) then s.qa n ||| 0x20 else s.qa n) s)
    ∧ Does (.flt n rd ra rb) s (Writes n rd (0) (s.qa n ||| 0x20) s) ∧ Does (.fle n rd ra rb) s (Writes n rd (0) (s.qa n
    ||| 0x20) s)) ∧
  (∀ (n : Fin 16) (rd ra rb : BitVec 5) (x y : Word) (s : State), s.issues n → x = s.g n ra → y = s.g n rb → fIsInf x =
    true → fIsInf y = true → Does (.fadd n rd ra rb) s (Writes n rd (if bit x 31 = bit y 31 then x else 0x7FC00000) (if bit
    x 31 ≠ bit y 31 then s.qa n ||| 0x20 else s.qa n) s) ∧ Does (.fsub n rd ra rb) s (Writes n rd (if bit x 31 = bit y 31
    then 0x7FC00000 else x) (if bit x 31 = bit y 31 then s.qa n ||| 0x20 else s.qa n) s) ∧ Does (.fmul n rd ra rb) s
    (Writes n rd (if bit x 31 = bit y 31 then 0x7F800000 else 0xFF800000) (s.qa n) s) ∧ Does (.fdiv n rd ra rb) s (Writes n
    rd (0x7FC00000) (s.qa n ||| 0x20) s)) ∧
  (∀ (n : Fin 16) (rd ra rb : BitVec 5) (x y : Word) (s : State), s.issues n → x = s.g n ra → y = s.g n rb → fIsInf x =
    true → fIsFin y = true → Does (.fadd n rd ra rb) s (Writes n rd (x) (s.qa n) s) ∧ Does (.fsub n rd ra rb) s (Writes n
    rd (x) (s.qa n) s) ∧ Does (.fmul n rd ra rb) s (Writes n rd (if fIsZero y then 0x7FC00000 else if bit x 31 = bit y 31
    then 0x7F800000 else 0xFF800000) (if fIsZero y then s.qa n ||| 0x20 else s.qa n) s) ∧ Does (.fdiv n rd ra rb) s (Writes
    n rd (if bit x 31 = bit y 31 then 0x7F800000 else 0xFF800000) (s.qa n) s)) ∧
  (∀ (n : Fin 16) (rd ra rb : BitVec 5) (x y : Word) (s : State), s.issues n → x = s.g n ra → y = s.g n rb → fIsFin x =
    true → fIsInf y = true → Does (.fadd n rd ra rb) s (Writes n rd (y) (s.qa n) s) ∧ Does (.fsub n rd ra rb) s (Writes n
    rd (y ^^^ 0x80000000) (s.qa n) s) ∧ Does (.fmul n rd ra rb) s (Writes n rd (if fIsZero x then 0x7FC00000 else if bit x
    31 = bit y 31 then 0x7F800000 else 0xFF800000) (if fIsZero x then s.qa n ||| 0x20 else s.qa n) s) ∧ Does (.fdiv n rd ra
    rb) s (Writes n rd (if bit x 31 = bit y 31 then 0 else 0x80000000) (s.qa n) s)) ∧
  (∀ (n : Fin 16) (rd ra rb : BitVec 5) (x y : Word) (s : State), s.issues n → x = s.g n ra → y = s.g n rb → fIsFin x =
    true → fIsZero y = true → Does (.fdiv n rd ra rb) s (Writes n rd (if fIsZero x then 0x7FC00000 else if bit x 31 = bit y
    31 then 0x7F800000 else 0xFF800000) (if fIsZero x then s.qa n ||| 0x20 else s.qa n ||| 0x40) s)) ∧
  (∀ (n : Fin 16) (rd ra : BitVec 5) (x : Word) (s : State), s.issues n → x = s.g n ra → fIsNan x = true ∨ fIsInf x = true
    → Does (.fcvtws n rd ra 0) s (Writes n rd (if fIsNan x then 0 else if bit x 31 then 0x80000000 else 0x7FFFFFFF) (s.qa n
    ||| 0x80) s))

/-- On a lane that issues, with finite operands: FADD, FSUB, FMUL, FDIV (of a divisor that is not 0) and FCVTSW write the binary32 number nearest to the exact sum, difference, product, quotient or integer, ties to even, subnormal results in full, and beyond the range an infinity with QA[6]; a zero result has the sign of IEEE 754. FCVTWS writes the operand without its fraction, or the nearest limit with QA[7] alone. FEQ, FLT, FLE, FMIN and FMAX of operands that are no NaN compare the numbers; of two zeros FMIN gives −0 if there is one, FMAX +0. -/
def Obligations.LaneFloatExact : Prop :=
  (∀ (n : Fin 16) (rd ra rb : BitVec 5) (x y : Word) (s : State), s.issues n → x = s.g n ra → y = s.g n rb → fIsFin x =
    true → fIsFin y = true → Does (.fadd n rd ra rb) s (fun t => ∃ v o, Writes n rd v (if o then s.qa n ||| 0x40 else s.qa
    n) s t ∧ FRounded (fRat x + fRat y) v o ∧ (fRat x + fRat y = 0 → bit v 31 = (bit x 31 && bit y 31))) ∧ Does (.fsub n rd
    ra rb) s (fun t => ∃ v o, Writes n rd v (if o then s.qa n ||| 0x40 else s.qa n) s t ∧ FRounded (fRat x - fRat y) v o ∧
    (fRat x - fRat y = 0 → bit v 31 = (bit x 31 && !bit y 31))) ∧ Does (.fmul n rd ra rb) s (fun t => ∃ v o, Writes n rd v
    (if o then s.qa n ||| 0x40 else s.qa n) s t ∧ FRounded (fRat x * fRat y) v o ∧ bit v 31 = (bit x 31 != bit y 31)) ∧
    (fIsZero y = false → Does (.fdiv n rd ra rb) s (fun t => ∃ v o, Writes n rd v (if o then s.qa n ||| 0x40 else s.qa n) s
    t ∧ FRounded (fRat x / fRat y) v o ∧ bit v 31 = (bit x 31 != bit y 31)))) ∧
  (∀ (n : Fin 16) (rd ra : BitVec 5) (x : Word) (s : State), s.issues n → x = s.g n ra → Does (.fcvtsw n rd ra 0) s (fun t
    => ∃ v, Writes n rd v (s.qa n) s t ∧ FRounded x.toInt v false ∧ (x = 0 → v = 0))) ∧
  (∀ (n : Fin 16) (rd ra : BitVec 5) (x : Word) (s : State), s.issues n → x = s.g n ra → fIsFin x = true → Does (.fcvtws n
    rd ra 0) s (fun t => ∃ v q, Writes n rd v q s t ∧ v.toInt = max (-2147483648) (min 2147483647 ((fRat x).num.tdiv (fRat
    x).den)) ∧ q = (if v.toInt = (fRat x).num.tdiv (fRat x).den then s.qa n else s.qa n ||| 0x80))) ∧
  (∀ (n : Fin 16) (rd ra rb : BitVec 5) (x y : Word) (s : State), s.issues n → x = s.g n ra → y = s.g n rb → fIsNan x =
    false → fIsNan y = false → Does (.feq n rd ra rb) s (Writes n rd (if fKey x = fKey y then 1 else 0) (s.qa n) s) ∧ Does
    (.flt n rd ra rb) s (Writes n rd (if fKey x < fKey y then 1 else 0) (s.qa n) s) ∧ Does (.fle n rd ra rb) s (Writes n rd
    (if fKey x ≤ fKey y then 1 else 0) (s.qa n) s) ∧ Does (.fmin n rd ra rb) s (Writes n rd (if fKey x < fKey y then x else
    if fKey y < fKey x then y else x ||| y) (s.qa n) s) ∧ Does (.fmax n rd ra rb) s (Writes n rd (if fKey x < fKey y then y
    else if fKey y < fKey x then x else x &&& y) (s.qa n) s))

/-- LDW, LDH, LDHU, LDB, LDBU and QLD at an aligned address that the regions allow and that holds no poisoned word: rd takes the little-endian value as the lane sees it, zero- or sign-extended; QLD brings the quality code of an image word and merges it into QA; a load of a GAMBIT ply enters the read set; nothing else changes. STW, STH and STB to DTCM and STW and STQ to an image word, at an aligned address that the regions allow: the bytes go where storeDtcm and storeImem put them (the write log of a ply, memory of a background job), an image word takes the quality QA[3:0] or, for STQ, the low 4 bits of rs; no register but the PC changes. -/
def Obligations.LaneLoadsAndStores : Prop :=
  (∀ (n : Fin 16) (rd ra : BitVec 5) (imm : BitVec 16) (a : Word) (s : State), s.issues n → a = s.g n ra + imm.signExtend
    32 → a.toNat % 4 = 0 → s.loadProt n a.toNat 4 false = none → s.loadPoisoned n a.toNat = false → Does (.ldw n rd ra imm)
    s (Writes n rd (BitVec.ofNat 32 (s.loadValue n a.toNat 4)) (s.qa n) (s.noteRead n a.toNat))) ∧
  (∀ (n : Fin 16) (rd ra : BitVec 5) (imm : BitVec 16) (a : Word) (s : State), s.issues n → a = s.g n ra + imm.signExtend
    32 → a.toNat % 2 = 0 → s.loadProt n a.toNat 2 false = none → s.loadPoisoned n a.toNat = false → Does (.ldh n rd ra imm)
    s (Writes n rd ((BitVec.ofNat 16 (s.loadValue n a.toNat 2)).signExtend 32) (s.qa n) (s.noteRead n a.toNat)) ∧ Does
    (.ldhu n rd ra imm) s (Writes n rd ((BitVec.ofNat 16 (s.loadValue n a.toNat 2)).setWidth 32) (s.qa n) (s.noteRead n
    a.toNat))) ∧
  (∀ (n : Fin 16) (rd ra : BitVec 5) (imm : BitVec 16) (a : Word) (s : State), s.issues n → a = s.g n ra + imm.signExtend
    32 → s.loadProt n a.toNat 1 false = none → s.loadPoisoned n a.toNat = false → Does (.ldb n rd ra imm) s (Writes n rd
    ((BitVec.ofNat 8 (s.loadValue n a.toNat 1)).signExtend 32) (s.qa n) (s.noteRead n a.toNat)) ∧ Does (.ldbu n rd ra imm)
    s (Writes n rd ((BitVec.ofNat 8 (s.loadValue n a.toNat 1)).setWidth 32) (s.qa n) (s.noteRead n a.toNat))) ∧
  (∀ (n : Fin 16) (rd ra : BitVec 5) (imm : BitVec 16) (a : Word) (s : State), s.issues n → a = s.g n ra + imm.signExtend
    32 → a.toNat % 4 = 0 → s.loadProt n a.toNat 4 true = none → s.loadPoisoned n a.toNat = false → Does (.qld n rd ra imm)
    s (Writes n rd ((s.plyImemQual n (a.toNat - 0x10000000)).setWidth 32) (qaMerge (s.qa n) (s.plyImemQual n (a.toNat -
    0x10000000))) (s.noteRead n a.toNat))) ∧
  (∀ (n : Fin 16) (rs ra : BitVec 5) (imm : BitVec 16) (a : Word) (s : State), s.issues n → a = s.g n ra + imm.signExtend
    32 → a.toNat % 4 = 0 → s.storeProt n a.toNat false false = none → (laneRange a.toNat = .dtcm → Does (.stw n rs ra imm)
    s (Stores n (s.storeDtcm n a.toNat ((toLe 4 (s.g n rs).toNat).take 4)))) ∧ (laneRange a.toNat = .imem → Does (.stw n rs
    ra imm) s (Stores n (s.storeImem n a.toNat (some (s.g n rs)) ((s.qa n).extractLsb' 0 4))))) ∧
  (∀ (n : Fin 16) (rs ra : BitVec 5) (imm : BitVec 16) (a : Word) (s : State), s.issues n → a = s.g n ra + imm.signExtend
    32 → a.toNat % 2 = 0 → s.storeProt n a.toNat true false = none → (laneRange a.toNat = .dtcm → Does (.sth n rs ra imm) s
    (Stores n (s.storeDtcm n a.toNat ((toLe 4 (s.g n rs).toNat).take 2))))) ∧
  (∀ (n : Fin 16) (rs ra : BitVec 5) (imm : BitVec 16) (a : Word) (s : State), s.issues n → a = s.g n ra + imm.signExtend
    32 → s.storeProt n a.toNat true false = none → (laneRange a.toNat = .dtcm → Does (.stb n rs ra imm) s (Stores n
    (s.storeDtcm n a.toNat ((toLe 4 (s.g n rs).toNat).take 1))))) ∧
  (∀ (n : Fin 16) (rs ra : BitVec 5) (imm : BitVec 16) (a : Word) (s : State), s.issues n → a = s.g n ra + imm.signExtend
    32 → a.toNat % 4 = 0 → s.storeProt n a.toNat false true = none → Does (.stq n rs ra imm) s (Stores n (s.storeImem n
    a.toNat none ((s.g n rs).setWidth 4))))

/-- JC with a condition from 0 to 9 (rb 0 for 6 to 9) goes to PC + 4 + 4 × offset if the condition holds and on in sequence if not; CALL and, for an aligned target, CALLR write the address of the next instruction to rd and jump, also to a routine of the standard library; no other register changes. PLYEND on a lane that issues: a ply becomes ready and LANE_CYC_LAST takes its cycles; a background job is saved with STATE 2, done; a BENCH lane halts (the model's choice, assumption 12). -/
def Obligations.LaneJumpsAndPlyend : Prop :=
  (∀ (n : Fin 16) (cond : BitVec 4) (ra rb : BitVec 5) (off : BitVec 12) (h : Bool) (s : State), s.issues n → jcHolds cond
    (s.g n ra) (s.g n rb) = some h → cond.toNat < 6 ∨ rb = 0 → Does (.jc n cond ra rb off) s (Leaves n 0 0 (s.qa n) (if h
    then s.pc n + 4 + off.signExtend 32 * 4 else s.pc n + 4) s)) ∧
  (∀ (n : Fin 16) (rd : BitVec 5) (off : BitVec 21) (s : State), s.issues n → Does (.call n rd off) s (Leaves n rd (s.pc n
    + 4) (s.qa n) (s.pc n + 4 + off.signExtend 32 * 4) s)) ∧
  (∀ (n : Fin 16) (rd ra : BitVec 5) (imm : BitVec 16) (s : State), s.issues n → (s.g n ra + imm.signExtend 32).toNat % 4 =
    0 → Does (.callr n rd ra imm) s (Leaves n rd (s.pc n + 4) (s.qa n) (s.g n ra + imm.signExtend 32) s)) ∧
  (∀ (n : Fin 16) (p : Ply) (s : State), s.issues n → s.lanes[n].ply = some p → Does (.plyend n 0 0 0) s (fun t =>
    t.lanes[n].ply = some { p with phase := .ready } ∧ t.reg (Reg.laneCycLast n) = BitVec.ofNat 32 (s.lanes[n].cyc + 1) ∧
    t.mem = s.mem)) ∧
  (∀ (n : Fin 16) (s : State), s.issues n → s.lanes[n].ply = none → s.lanes[n].state ≠ .bench → Does (.plyend n 0 0 0) s
    (fun t => t.lanes[n].act = .none ∧ bits t.lanes[n].jobStat 1 0 = 2)) ∧
  (∀ (n : Fin 16) (s : State), s.issues n → s.lanes[n].ply = none → s.lanes[n].state = .bench → Does (.plyend n 0 0 0) s
    (fun t => t.lanes[n].halted = true))

/-- For a field of w = wm1 + 1 bits at pos with pos + w at most 32, on a lane that issues: bit i of the result of EXT is bit pos + i of ra for i below w and 0 above; EXTS repeats the field's top bit; INS replaces bits pos to pos + w - 1 of rd by the low w bits of ra. On a lane that issues: QMRG merges ra[3:0] into QA, QGET brings QA into rd, QTAKE does and clears QA, TIME writes the scheduled start of the ply to the pair rd + 1 and rd. -/
def Obligations.LaneFieldsAndQuality : Prop :=
  (∀ (n : Fin 16) (rd ra pos wm1 : BitVec 5) (s : State), s.issues n → pos.toNat + wm1.toNat < 32 → Does (.ext n rd ra pos
    wm1 0) s (fun t => ∃ w, Writes n rd w (s.qa n) s t ∧ ∀ i, i < 32 → w.getLsbD i = (decide (i ≤ wm1.toNat) && (s.g n
    ra).getLsbD (pos.toNat + i))) ∧ Does (.exts n rd ra pos wm1 0) s (fun t => ∃ w, Writes n rd w (s.qa n) s t ∧ ∀ i, i <
    32 → w.getLsbD i = ((s.g n ra).getLsbD (pos.toNat + min i wm1.toNat))) ∧ Does (.ins n rd ra pos wm1 0) s (fun t => ∃ w,
    Writes n rd w (s.qa n) s t ∧ ∀ i, i < 32 → w.getLsbD i = (if pos.toNat ≤ i ∧ i ≤ pos.toNat + wm1.toNat then (s.g n
    ra).getLsbD (i - pos.toNat) else (s.g n rd).getLsbD i))) ∧
  (∀ (n : Fin 16) (ra : BitVec 5) (s : State), s.issues n → Does (.qmrg n 0 ra 0) s (Writes n 0 0 (qaMerge (s.qa n) ((s.g n
    ra).setWidth 4)) s)) ∧
  (∀ (n : Fin 16) (rd : BitVec 5) (s : State), s.issues n → Does (.qget n rd 0 0) s (Writes n rd ((s.qa n).setWidth 32)
    (s.qa n) s) ∧ Does (.qtake n rd 0 0) s (Writes n rd ((s.qa n).setWidth 32) 0 s)) ∧
  (∀ (n : Fin 16) (rd : BitVec 5) (s : State), s.issues n → rd ≠ 0 → rd.toNat % 2 = 0 → Does (.time n rd 0 0) s (WritesPair
    n rd s.lanes[n].start s))

/-- While a ply runs on a lane that issues: a misaligned LDW, STW or CALLR target traps MISALIGN with detail 1 or 2 and the address; an access outside the ranges traps PROT detail 1; a division by 0 traps DIVZERO; an odd or zero rd of MULL, a SHK of kind 3, a JC condition above 9 trap ILLEGAL detail 3; a non-zero unused field traps ILLEGAL detail 2. TC and LANE_TRAP take the trap word, LANE_TRAP_ADDR the address, the ply is trapped, its write log is empty, memory and all general registers are unchanged. -/
def Obligations.LaneTraps : Prop :=
  (∀ (n : Fin 16) (rd ra : BitVec 5) (imm : BitVec 16) (p : Ply) (a : Word) (s : State), s.issues n → s.lanes[n].ply = some
    p → a = s.g n ra + imm.signExtend 32 → a.toNat % 4 ≠ 0 → Does (.ldw n rd ra imm) s (Traps n (BitVec.ofNat 32 (1 + 1 *
    16 + (s.pc n).toNat / 4 % 2 ^ 20 * 256)) (a) s) ∧ Does (.stw n rd ra imm) s (Traps n (BitVec.ofNat 32 (1 + 1 * 16 +
    (s.pc n).toNat / 4 % 2 ^ 20 * 256)) (a) s) ∧ Does (.callr n rd ra imm) s (Traps n (BitVec.ofNat 32 (1 + 2 * 16 + (s.pc
    n).toNat / 4 % 2 ^ 20 * 256)) (a) s)) ∧
  (∀ (n : Fin 16) (rd ra : BitVec 5) (imm : BitVec 16) (p : Ply) (a : Word) (s : State), s.issues n → s.lanes[n].ply = some
    p → a = s.g n ra + imm.signExtend 32 → a.toNat % 4 = 0 → laneRange a.toNat = .outside → Does (.ldw n rd ra imm) s
    (Traps n (BitVec.ofNat 32 (2 + 1 * 16 + (s.pc n).toNat / 4 % 2 ^ 20 * 256)) (a) s) ∧ Does (.stw n rd ra imm) s (Traps n
    (BitVec.ofNat 32 (2 + 1 * 16 + (s.pc n).toNat / 4 % 2 ^ 20 * 256)) (a) s)) ∧
  (∀ (n : Fin 16) (rd ra rb : BitVec 5) (p : Ply) (s : State), s.issues n → s.lanes[n].ply = some p → s.g n rb = 0 → Does
    (.div n rd ra rb) s (Traps n (BitVec.ofNat 32 (4 + 0 * 16 + (s.pc n).toNat / 4 % 2 ^ 20 * 256)) (0) s) ∧ Does (.divu n
    rd ra rb) s (Traps n (BitVec.ofNat 32 (4 + 0 * 16 + (s.pc n).toNat / 4 % 2 ^ 20 * 256)) (0) s) ∧ Does (.rem n rd ra rb)
    s (Traps n (BitVec.ofNat 32 (4 + 0 * 16 + (s.pc n).toNat / 4 % 2 ^ 20 * 256)) (0) s) ∧ Does (.remu n rd ra rb) s (Traps
    n (BitVec.ofNat 32 (4 + 0 * 16 + (s.pc n).toNat / 4 % 2 ^ 20 * 256)) (0) s)) ∧
  (∀ (n : Fin 16) (rd ra rb : BitVec 5) (p : Ply) (s : State), s.issues n → s.lanes[n].ply = some p → rd = 0 ∨ rd.toNat % 2
    = 1 → Does (.mull n rd ra rb) s (Traps n (BitVec.ofNat 32 (3 + 3 * 16 + (s.pc n).toNat / 4 % 2 ^ 20 * 256)) (0) s) ∧
    Does (.mullu n rd ra rb) s (Traps n (BitVec.ofNat 32 (3 + 3 * 16 + (s.pc n).toNat / 4 % 2 ^ 20 * 256)) (0) s)) ∧
  (∀ (n : Fin 16) (rd ra rb : BitVec 5) (imm : BitVec 16) (p : Ply) (s : State), s.issues n → s.lanes[n].ply = some p → ra
    ≠ 0 → Does (.kcat n rd ra imm) s (Traps n (BitVec.ofNat 32 (3 + 2 * 16 + (s.pc n).toNat / 4 % 2 ^ 20 * 256)) (0) s) ∧
    Does (.qget n rd ra rb) s (Traps n (BitVec.ofNat 32 (3 + 2 * 16 + (s.pc n).toNat / 4 % 2 ^ 20 * 256)) (0) s) ∧ Does
    (.qtake n rd ra rb) s (Traps n (BitVec.ofNat 32 (3 + 2 * 16 + (s.pc n).toNat / 4 % 2 ^ 20 * 256)) (0) s) ∧ Does
    (.plyend n rd ra rb) s (Traps n (BitVec.ofNat 32 (3 + 2 * 16 + (s.pc n).toNat / 4 % 2 ^ 20 * 256)) (0) s)) ∧
  (∀ (n : Fin 16) (rd ra : BitVec 5) (imm : BitVec 16) (p : Ply) (s : State), s.issues n → s.lanes[n].ply = some p → 96 ≤
    imm.toNat → Does (.shk n rd ra imm) s (Traps n (BitVec.ofNat 32 (3 + (if imm.toNat < 128 then 3 else 2) * 16 + (s.pc
    n).toNat / 4 % 2 ^ 20 * 256)) 0 s)) ∧
  (∀ (n : Fin 16) (cond : BitVec 4) (ra rb : BitVec 5) (off : BitVec 12) (p : Ply) (s : State), s.issues n → s.lanes[n].ply
    = some p → 10 ≤ cond.toNat → Does (.jc n cond ra rb off) s (Traps n (BitVec.ofNat 32 (3 + 3 * 16 + (s.pc n).toNat / 4 %
    2 ^ 20 * 256)) (0) s))

/-- A lane at the entry of a standard routine passes through it before its next instruction, which then acts on the state the routine leaves; the entry of an unassigned number traps I. Its instance accessible: ON_DELAY, OFF_DELAY and PULSE store START, ET, PT and the flags and return Q and ET as R273 says; COUNT stores CV and the flags and returns QU, QD and CV, and a stop without WRAP sets QA[4]; EDGE_RISE and EDGE_FALL return the edge and keep the input; the lane is at the return address after the cycles of R271, registers other than g5 to g15 and g30 are unchanged, and so is all else. (That a routine is passed in one step, before the next instruction commanded on its lane, is the model's choice, assumption 61.) -/
def Obligations.LibraryRoutines : Prop :=
  (∀ (n : Fin 16) (rd ra rb : BitVec 5) (s : State), (s.libraryStep n).issues n → Passes n s fun t => Does (.add n rd ra
    rb) s (Writes n rd (t.g n ra + t.g n rb) (t.qa n) t)) ∧
  (∀ (n : Fin 16) (rd ra rb : BitVec 5) (p : Ply) (s : State), s.executes n false = true → s.libAt n = .illegal →
    s.lanes[n].ply = some p → Does (.add n rd ra rb) s (fun t => ∃ d, 1 ≤ d ∧ d ≤ 3 ∧ Traps n (BitVec.ofNat 32 (3 + d * 16
    + (s.pc n).toNat / 4 % 2 ^ 20 * 256)) 0 s t)) ∧
  (∀ (n : Fin 16) (c : Core) (rise : Bool) (f : Word) (s u : State), s.enters n (if rise then 4 else 5) c → f = s.instWord
    n (c.get 5).toNat 0 → s.storeWords n (c.get 5).toNat [BitVec.ofNat 32 (b2n (bit (c.get 6) 0) + 2)] = some u → Passes n
    s fun t => Returns n c u t ∧ t.qa n = s.qa n ∧ bit (t.g n 10) 0 = (bit f 1 && (if rise then bit (c.get 6) 0 && !bit f 0
    else !bit (c.get 6) 0 && bit f 0)) ∧ t.lanes[n].cyc = s.lanes[n].cyc + 12) ∧
  (∀ (n : Fin 16) (c : Core) (f cv v : Word) (up dn stop : Bool) (s u : State), s.enters n 3 c → cv = s.instWord n (c.get
    5).toNat 0 → f = s.instWord n (c.get 5).toNat 1 → up = (bit (c.get 6) 0 && !bit f 1 && bit f 3) → dn = (bit (c.get 6) 1
    && !bit f 2 && bit f 3) → stop = (!bit (c.get 6) 2 && !bit (c.get 6) 3 && !bit f 0 && ((up && !dn && cv == 0x7FFFFFFF)
    || (dn && !up && cv == 0x80000000))) → v = (if bit (c.get 6) 2 then 0 else if bit (c.get 6) 3 then c.get 8 else if stop
    then cv else if up && !dn then cv + 1 else if dn && !up then cv - 1 else cv) → s.storeWords n (c.get 5).toNat [v,
    BitVec.ofNat 32 (b2n (bit f 0) + 2 * b2n (bit (c.get 6) 0) + 4 * b2n (bit (c.get 6) 1) + 8)] = some u → Passes n s fun
    t => Returns n c u t ∧ t.qa n = (if stop then s.qa n ||| 0x10 else s.qa n) ∧ t.g n 11 = v ∧ bit (t.g n 10) 0 = decide
    ((c.get 8).toInt ≤ v.toInt) ∧ bit (t.g n 10) 1 = decide (v.toInt ≤ 0) ∧ t.lanes[n].cyc = s.lanes[n].cyc + 36) ∧
  (∀ (n : Fin 16) (c : Core) (f : Word) (st0 st et pt : BitVec 64) (d : Nat) (s u : State), s.enters n 0 c → f = s.instWord
    n (c.get 5).toNat 6 → bit (c.get 6) 0 = false → st0 = (s.instWord n (c.get 5).toNat 1) ++ (s.instWord n (c.get 5).toNat
    0) → pt = (c.get 9) ++ (c.get 8) → st = (st0) → d = (s.lanes[n].start - st).toInt.toNat → et = 0 → s.storeWords n
    (c.get 5).toNat [st.setWidth 32, st.extractLsb' 32 32, et.setWidth 32, et.extractLsb' 32 32, c.get 8, c.get 9,
    BitVec.ofNat 32 (b2n (false) + 2 * b2n (false) + 8)] = some u → Passes n s fun t => Returns n c u t ∧ t.qa n = s.qa n ∧
    (t.g n 13) ++ (t.g n 12) = et ∧ bit (t.g n 10) 0 = false ∧ t.lanes[n].cyc = s.lanes[n].cyc + 52) ∧
  (∀ (n : Fin 16) (c : Core) (f : Word) (st0 st et pt : BitVec 64) (d : Nat) (s u : State), s.enters n 0 c → f = s.instWord
    n (c.get 5).toNat 6 → bit (c.get 6) 0 = true → st0 = (s.instWord n (c.get 5).toNat 1) ++ (s.instWord n (c.get 5).toNat
    0) → pt = (c.get 9) ++ (c.get 8) → st = (if bit f 1 then st0 else s.lanes[n].start) → d = (s.lanes[n].start -
    st).toInt.toNat → et = BitVec.ofNat 64 (min d pt.toNat) → s.storeWords n (c.get 5).toNat [st.setWidth 32,
    st.extractLsb' 32 32, et.setWidth 32, et.extractLsb' 32 32, c.get 8, c.get 9, BitVec.ofNat 32 (b2n (decide (pt.toNat ≤
    d)) + 2 * b2n (true) + 12)] = some u → Passes n s fun t => Returns n c u t ∧ t.qa n = s.qa n ∧ (t.g n 13) ++ (t.g n 12)
    = et ∧ bit (t.g n 10) 0 = decide (pt.toNat ≤ d) ∧ t.lanes[n].cyc = s.lanes[n].cyc + 52) ∧
  (∀ (n : Fin 16) (c : Core) (f : Word) (st0 st et pt : BitVec 64) (d : Nat) (s u : State), s.enters n 1 c → f = s.instWord
    n (c.get 5).toNat 6 → bit (c.get 6) 0 = true → st0 = (s.instWord n (c.get 5).toNat 1) ++ (s.instWord n (c.get 5).toNat
    0) → pt = (c.get 9) ++ (c.get 8) → st = (st0) → d = (s.lanes[n].start - st).toInt.toNat → et = 0 → s.storeWords n
    (c.get 5).toNat [st.setWidth 32, st.extractLsb' 32 32, et.setWidth 32, et.extractLsb' 32 32, c.get 8, c.get 9,
    BitVec.ofNat 32 (b2n (true) + 2 * b2n (false) + 12)] = some u → Passes n s fun t => Returns n c u t ∧ t.qa n = s.qa n ∧
    (t.g n 13) ++ (t.g n 12) = et ∧ bit (t.g n 10) 0 = true ∧ t.lanes[n].cyc = s.lanes[n].cyc + 56) ∧
  (∀ (n : Fin 16) (c : Core) (f : Word) (st0 st et pt : BitVec 64) (d : Nat) (s u : State), s.enters n 1 c → f = s.instWord
    n (c.get 5).toNat 6 → bit (c.get 6) 0 = false → st0 = (s.instWord n (c.get 5).toNat 1) ++ (s.instWord n (c.get 5).toNat
    0) → pt = (c.get 9) ++ (c.get 8) → bit f 1 = true ∨ (bit f 2 = true ∧ bit f 3 = true) → st = (if bit f 2 && bit f 3
    then s.lanes[n].start else st0) → d = (s.lanes[n].start - st).toInt.toNat → et = BitVec.ofNat 64 (min d pt.toNat) →
    s.storeWords n (c.get 5).toNat [st.setWidth 32, st.extractLsb' 32 32, et.setWidth 32, et.extractLsb' 32 32, c.get 8,
    c.get 9, BitVec.ofNat 32 (b2n (decide (d < pt.toNat)) + 2 * b2n (decide (d < pt.toNat)) + 8)] = some u → Passes n s fun
    t => Returns n c u t ∧ t.qa n = s.qa n ∧ (t.g n 13) ++ (t.g n 12) = et ∧ bit (t.g n 10) 0 = decide (d < pt.toNat) ∧
    t.lanes[n].cyc = s.lanes[n].cyc + 56) ∧
  (∀ (n : Fin 16) (c : Core) (f : Word) (st0 st et pt : BitVec 64) (d : Nat) (s u : State), s.enters n 1 c → f = s.instWord
    n (c.get 5).toNat 6 → bit (c.get 6) 0 = false → st0 = (s.instWord n (c.get 5).toNat 1) ++ (s.instWord n (c.get 5).toNat
    0) → pt = (c.get 9) ++ (c.get 8) → bit f 1 = false ∧ (bit f 2 = false ∨ bit f 3 = false) → st = (st0) → d =
    (s.lanes[n].start - st).toInt.toNat → et = (s.instWord n (c.get 5).toNat 3) ++ (s.instWord n (c.get 5).toNat 2) →
    s.storeWords n (c.get 5).toNat [st.setWidth 32, st.extractLsb' 32 32, et.setWidth 32, et.extractLsb' 32 32, c.get 8,
    c.get 9, BitVec.ofNat 32 (b2n (false) + 2 * b2n (false) + 8)] = some u → Passes n s fun t => Returns n c u t ∧ t.qa n =
    s.qa n ∧ (t.g n 13) ++ (t.g n 12) = et ∧ bit (t.g n 10) 0 = false ∧ t.lanes[n].cyc = s.lanes[n].cyc + 56) ∧
  (∀ (n : Fin 16) (c : Core) (f : Word) (st0 st et pt : BitVec 64) (d : Nat) (s u : State), s.enters n 2 c → f = s.instWord
    n (c.get 5).toNat 6 → bit (c.get 6) 0 = true → st0 = (s.instWord n (c.get 5).toNat 1) ++ (s.instWord n (c.get 5).toNat
    0) → pt = (c.get 9) ++ (c.get 8) → bit f 1 = true ∨ (bit f 2 = false ∧ bit f 3 = true) → st = (if bit f 1 then st0 else
    s.lanes[n].start) → d = (s.lanes[n].start - st).toInt.toNat → et = BitVec.ofNat 64 (min d pt.toNat) → s.storeWords n
    (c.get 5).toNat [st.setWidth 32, st.extractLsb' 32 32, et.setWidth 32, et.extractLsb' 32 32, c.get 8, c.get 9,
    BitVec.ofNat 32 (b2n (decide (d < pt.toNat)) + 2 * b2n (decide (d < pt.toNat)) + 12)] = some u → Passes n s fun t =>
    Returns n c u t ∧ t.qa n = s.qa n ∧ (t.g n 13) ++ (t.g n 12) = et ∧ bit (t.g n 10) 0 = decide (d < pt.toNat) ∧
    t.lanes[n].cyc = s.lanes[n].cyc + 58) ∧
  (∀ (n : Fin 16) (c : Core) (f : Word) (st0 st et pt : BitVec 64) (d : Nat) (s u : State), s.enters n 2 c → f = s.instWord
    n (c.get 5).toNat 6 → bit (c.get 6) 0 = true → st0 = (s.instWord n (c.get 5).toNat 1) ++ (s.instWord n (c.get 5).toNat
    0) → pt = (c.get 9) ++ (c.get 8) → bit f 1 = false ∧ (bit f 2 = true ∨ bit f 3 = false) → st = (st0) → d =
    (s.lanes[n].start - st).toInt.toNat → et = (s.instWord n (c.get 5).toNat 3) ++ (s.instWord n (c.get 5).toNat 2) →
    s.storeWords n (c.get 5).toNat [st.setWidth 32, st.extractLsb' 32 32, et.setWidth 32, et.extractLsb' 32 32, c.get 8,
    c.get 9, BitVec.ofNat 32 (b2n (false) + 2 * b2n (false) + 12)] = some u → Passes n s fun t => Returns n c u t ∧ t.qa n
    = s.qa n ∧ (t.g n 13) ++ (t.g n 12) = et ∧ bit (t.g n 10) 0 = false ∧ t.lanes[n].cyc = s.lanes[n].cyc + 58) ∧
  (∀ (n : Fin 16) (c : Core) (f : Word) (st0 st et pt : BitVec 64) (d : Nat) (s u : State), s.enters n 2 c → f = s.instWord
    n (c.get 5).toNat 6 → bit (c.get 6) 0 = false → st0 = (s.instWord n (c.get 5).toNat 1) ++ (s.instWord n (c.get 5).toNat
    0) → pt = (c.get 9) ++ (c.get 8) → bit f 1 = true → st = (st0) → d = (s.lanes[n].start - st).toInt.toNat → et =
    BitVec.ofNat 64 (min d pt.toNat) → s.storeWords n (c.get 5).toNat [st.setWidth 32, st.extractLsb' 32 32, et.setWidth
    32, et.extractLsb' 32 32, c.get 8, c.get 9, BitVec.ofNat 32 (b2n (decide (d < pt.toNat)) + 2 * b2n (decide (d <
    pt.toNat)) + 8)] = some u → Passes n s fun t => Returns n c u t ∧ t.qa n = s.qa n ∧ (t.g n 13) ++ (t.g n 12) = et ∧ bit
    (t.g n 10) 0 = decide (d < pt.toNat) ∧ t.lanes[n].cyc = s.lanes[n].cyc + 58) ∧
  (∀ (n : Fin 16) (c : Core) (f : Word) (st0 st et pt : BitVec 64) (d : Nat) (s u : State), s.enters n 2 c → f = s.instWord
    n (c.get 5).toNat 6 → bit (c.get 6) 0 = false → st0 = (s.instWord n (c.get 5).toNat 1) ++ (s.instWord n (c.get 5).toNat
    0) → pt = (c.get 9) ++ (c.get 8) → bit f 1 = false → st = (st0) → d = (s.lanes[n].start - st).toInt.toNat → et = 0 →
    s.storeWords n (c.get 5).toNat [st.setWidth 32, st.extractLsb' 32 32, et.setWidth 32, et.extractLsb' 32 32, c.get 8,
    c.get 9, BitVec.ofNat 32 (b2n (false) + 2 * b2n (false) + 8)] = some u → Passes n s fun t => Returns n c u t ∧ t.qa n =
    s.qa n ∧ (t.g n 13) ++ (t.g n 12) = et ∧ bit (t.g n 10) 0 = false ∧ t.lanes[n].cyc = s.lanes[n].cyc + 58)

/-- Logging an error in a page keeps the code and detail of the first error since the last clear and raises the count up to 0xFFFF. On an accessible page a write to PG_ERR with a one in [15:0] clears code, detail and count; with ones in [31:16] alone it clears the count only. -/
def Obligations.ErrorRegisters : Prop :=
  (∀ (p code : Nat) (info : Word) (s : State), code < 0x10000 → bits ((s.logErr p code info).reg (Reg.pgErr p)) 31 16 = min
    0xFFFF (bits (s.reg (Reg.pgErr p)) 31 16 + 1) ∧ bits ((s.logErr p code info).reg (Reg.pgErr p)) 15 0 = (if bits (s.reg
    (Reg.pgErr p)) 15 0 = 0 then code else bits (s.reg (Reg.pgErr p)) 15 0) ∧ (s.logErr p code info).reg (Reg.pgErrInfo p)
    = (if bits (s.reg (Reg.pgErr p)) 15 0 = 0 then info else s.reg (Reg.pgErrInfo p))) ∧
  (∀ (page : BitVec 8) (v : Word) (s : State), s.accessError (page.toNat * 0x1000 + 0x01C) 4 = none → bits v 15 0 ≠ 0 →
    Does (.pgErrClear page v none) s fun t => t.reg (Reg.pgErr page.toNat) = 0 ∧ t.reg (Reg.pgErrInfo page.toNat) = 0) ∧
  (∀ (page : BitVec 8) (v : Word) (s : State), s.accessError (page.toNat * 0x1000 + 0x01C) 4 = none → bits v 15 0 = 0 →
    bits v 31 16 ≠ 0 → Does (.pgErrClear page v none) s fun t => bits (t.reg (Reg.pgErr page.toNat)) 31 16 = 0 ∧ bits
    (t.reg (Reg.pgErr page.toNat)) 15 0 = bits (s.reg (Reg.pgErr page.toNat)) 15 0 ∧ t.reg (Reg.pgErrInfo page.toNat) =
    s.reg (Reg.pgErrInfo page.toNat))

/-- On an accessible page, a write that clears PG_ERR in the cycle in which an error with code c and detail i is logged leaves code c, a count of 1 and detail i. -/
def Obligations.ErrorWithClear : Prop :=
  ∀ (page : BitVec 8) (v : Word) (c : BitVec 16) (i : Word) (s : State), s.accessError (page.toNat * 0x1000 + 0x01C) 4 =
    none → bits v 15 0 ≠ 0 → c ≠ 0 → Does (.pgErrClear page v (some (c, i))) s fun t => bits (t.reg (Reg.pgErr page.toNat))
    15 0 = c.toNat ∧ bits (t.reg (Reg.pgErr page.toNat)) 31 16 = 1 ∧ t.reg (Reg.pgErrInfo page.toNat) = i

/-- A register write with a width other than 4 bytes or an address that is not a multiple of 4, to a page that does not exist, or to a page whose domain is down changes nothing but PG_ERR of SYS, which logs 0x0001, 0x0003 or 0x0105 with its detail; so does every command that is an access to a register of such a page. On an accessible page, 0x0000_B10C written to PG_BRST while PG_STATUS IDLE is 1 makes the Block reset of that page: PG_ERR, PG_ERR_INFO, PG_IRQ and PG_IRQ_EN are 0, the sequencer, the gambit contexts or the CAN queues of the block are as at reset, memory, time base, network and lanes stay but for the lost-job mark of a LANE page; while IDLE is 0 it logs 0x0004 with PG_STATUS and does nothing else; another value changes nothing. (What a Block reset covers and which pages show IDLE is assumption 27.) On an accessible page 0x0000_A5A5 written to PG_LOCK sets LOCKED and any other value changes nothing. A 4-byte write by the steward to a plain register writes its RW fields, its RWL fields only while the page is not locked, clears W1C bits written 1, and leaves every other bit, register and piece of state alone; while the page is locked and the register has an RWL field, PG_ERR of the page logs 0x0002 with its offset. A write at an offset that holds no register changes nothing. On every accessible page, a write of v to PG_IRQ while the conditions `rising` rise leaves a bit of the page set if it was set and is not cleared, if it rises and is enabled, or if it is enabled and its level source is 1; a rising bit that was set is not cleared, and no other register changes. (That a rising bit that was set stays even while it is not enabled is assumption 28.) -/
def Obligations.RegisterPages : Prop :=
  (∀ (a : BitVec 20) (w : BitVec 4) (v : Word) (s : State), s.domainUp 0 = true → a.toNat % 4 ≠ 0 ∨ w ≠ 4 → Gives
    (.registerWrite a w v) s (s.logErr pSYS 0x0001 (BitVec.ofNat 32 (a.toNat + w.toNat * 2 ^ 20)))) ∧
  (∀ (a : BitVec 20) (v : Word) (s : State), s.domainUp 0 = true → a.toNat % 4 = 0 → (pageClass (a.toNat / 0x1000)).isNone
    = true → Gives (.registerWrite a 4 v) s (s.logErr pSYS 0x0003 (BitVec.ofNat 32 (a.toNat / 0x1000)))) ∧
  (∀ (a : BitVec 20) (v : Word) (s : State), s.domainUp 0 = true → a.toNat % 4 = 0 → (pageClass (a.toNat / 0x1000)).isSome
    = true → s.domainUp (pageDomain (a.toNat / 0x1000)) = false → Gives (.registerWrite a 4 v) s (s.logErr pSYS 0x0105
    (BitVec.ofNat 32 (a.toNat / 0x1000)))) ∧
  (∀ (x : Nat × Instr) (r : Fin 64) (c : Fin 2) (b : BitVec 3) (m : BitVec 16) (o : BitVec 12) (v : Word) (s : State),
    s.domainUp 0 = true → x ∈ [(pTIM, Instr.timStepCmd v), (pTIM, .timExtOfsWrite v), (pTIM, .timNowLoRead), (pBSQ,
    .bsqStart), (pBSQ, .bsqStop), (pMMU, .regionWrite o v), (pMMU, .mmuInv v), (pBRD, .brdCmdVerify), (pBRD, .brdCmdStore),
    (pBRD, .brdCmdArm), (pBRD, .brdCmdDisarm), (pBRD, .brdCmdDiscard), (pBRD, .brdCmdActivate), (pRING r, .ringHeadWrite r
    v), (pRING r, .ringCmdResume r), (pRING r, .ringCmdSkip r), (pMBS, .mbsClrSlot), (pMBS, .mbsClrAll), (pPAIR,
    .pairCmdChange), (pPAIR, .pairCmdLead), (pPAIR, .pairCmdJoin), (pPAIR, .pairCmdCastle), (pPAIR, .pairCmdStandDown),
    (pPAIR, .pairCmdBench), (pPAIR, .pairCmdAbortJoin), (pPAIR, .pairCmdResetPartner), (pSEC, .secKeyStore v), (pSEC,
    .secKeyEnable v), (pSEC, .secKeyDisable v), (pSEC, .secKeyRevoke v), (pUPD, .updCmdVerify), (pUPD, .updCmdStore),
    (pUPD, .updCmdDiscard), (pUPD, .updCmdHandover), (pUPD, .updCmdCancel), (pHAP, .hapCtrLoRead), (pSTW, .stwWdtKick false
    v), (pHST, .hstTsPop), (pCAN c, .canRxPop c), (pCAN c, .canTxAbort c b), (pCAN c, .canCmdRecover c), (pFIO,
    .fioCmdClear v m), (pLOOP, .loopTestWrite v)] → s.domainUp (pageDomain x.1) = false → Gives x.2 s (s.logErr pSYS 0x0105
    (BitVec.ofNat 32 x.1))) ∧
  (∀ (page : BitVec 8) (s : State), s.accessError (page.toNat * 0x1000 + 0x024) 4 = none → bit (pgStatus s page.toNat) 1 =
    true → Gives (.pgBrstWrite page 0xB10C) s (s.blockReset page.toNat) ∧ Does (.pgBrstWrite page 0xB10C) s fun t => t.reg
    (Reg.pgErr page.toNat) = 0 ∧ t.reg (Reg.pgErrInfo page.toNat) = 0 ∧ t.reg (Reg.pgIrq page.toNat) = 0 ∧ t.reg
    (Reg.pgIrqEn page.toNat) = 0 ∧ (page.toNat = pBSQ → t.seqr = .reset) ∧ (page.toNat = pGMB → ∀ k : Fin 16, t.gmb[k] =
    .reset) ∧ (∀ c : Fin 2, page.toNat = pCAN c → t.can[c].q0 = [] ∧ t.can[c].q1 = [] ∧ t.can[c].onBus = none) ∧ t.mem =
    s.mem ∧ t.time = s.time ∧ t.net = s.net ∧ t.boards = s.boards ∧ ∀ n : Fin 16, t.lanes[n] =
    { s.lanes[n] with bgLost := t.lanes[n].bgLost }) ∧
  (∀ (page : BitVec 8) (s : State), s.accessError (page.toNat * 0x1000 + 0x024) 4 = none → bit (pgStatus s page.toNat) 1 =
    false → Gives (.pgBrstWrite page 0xB10C) s (s.logErr page.toNat 0x0004 (pgStatus s page.toNat))) ∧
  (∀ (page : BitVec 8) (v : Word) (s : State), s.accessError (page.toNat * 0x1000 + 0x024) 4 = none → v ≠ 0xB10C → Gives
    (.pgBrstWrite page v) s s) ∧
  (∀ (page : BitVec 8) (v : Word) (s : State), s.accessError (page.toNat * 0x1000 + 0x018) 4 = none → Does (.pgLockWrite
    page v) s fun t => t = (if v = 0xA5A5 then s.setReg (Reg.pgLock page.toNat) 1 else s)) ∧
  (∀ (a : BitVec 20) (p ofs : Nat) (r : RegSpec) (v : Word) (s : State), p = a.toNat / 0x1000 → ofs = a.toNat % 0x1000 →
    s.accessError a.toNat 4 = none → 0x040 ≤ ofs → regSpec p ofs = some r → (writeSeq p ofs r v).isNone ∧ (writeNet p ofs r
    v).isNone ∧ (writeRst p ofs r v false).isNone ∧ (writeHost p ofs r v none).isNone → Does (.registerWrite a 4 v) s fun t
    => ∃ w : Word, (∀ i, i < 32 → w.getLsbD i = ((if r.rw.getLsbD i || (r.rwl.getLsbD i && !s.locked p) then v.getLsbD i
    else (s.reg (s.keyOf p r.ofs)).getLsbD i) && !(v.getLsbD i && r.w1c.getLsbD i))) ∧ t = (if s.locked p && r.rwl != 0
    then (s.setReg (s.keyOf p r.ofs) w).logErr p 0x0002 (BitVec.ofNat 32 r.ofs) else s.setReg (s.keyOf p r.ofs) w)) ∧
  (∀ (a : BitVec 20) (v : Word) (s : State), s.accessError a.toNat 4 = none → 0x040 ≤ a.toNat % 0x1000 → regSpec (a.toNat /
    0x1000) (a.toNat % 0x1000) = none → Gives (.registerWrite a 4 v) s s) ∧
  (∀ (page : BitVec 8) (v rising : Word) (s : State), s.accessError (page.toNat * 0x1000 + 0x014) 4 = none → Does
    (.pgIrqClear page v rising) s fun t => t = s.setReg (Reg.pgIrq page.toNat) (t.reg (Reg.pgIrq page.toNat)) ∧ ∀ i, i < 32
    → (t.reg (Reg.pgIrq page.toNat)).getLsbD i = (((s.reg (Reg.pgIrq page.toNat)).getLsbD i && !(v.getLsbD i &&
    !(rising.getLsbD i && (irqMask page.toNat).getLsbD i))) || (rising.getLsbD i && (irqMask page.toNat).getLsbD i &&
    (s.reg (Reg.pgIrqEn page.toNat)).getLsbD i) || ((irqLevels s page.toNat).getLsbD i && (s.reg (Reg.pgIrqEn
    page.toNat)).getLsbD i)))

/-- A window whose count lies within the limits, of a clock that a monitor counts, shows the clock locked and good, and of a NET transmit PLL makes it good (the model's choice, assumption 18); a clock that was not good stays so. A good clock whose count lies below LOW or above HIGH at the end of a window, or whose PLL loses lock, is no longer good: CLK_GOOD falls and CLK_FAIL is set, an NCLK's port or the Dunly link loses its link, an essential domain's clock raises the clock-failure source, ACLK the AON brown-out source, LG and FLD clocks reset their domain. A stop of the crystal clears XTAL_OK, freezes the trim and makes one record an episode, its restart sets XTAL_OK. With SEQ released: a block whose operation has run past its limit is reported, once an episode; a temperature reading is kept in HLT_ENV, and one that reaches the limit of HLT_CTRL from below makes one record. -/
def Obligations.ClocksAndBlockHealth : Prop :=
  (∀ (i : Fin 20) (c : BitVec 16) (s : State), s.domainUp 2 = true → i.val < 18 → bits (s.reg (Reg.bank i Reg.clkLim)) 15 0
    ≤ c.toNat → c.toNat ≤ bits (s.reg (Reg.bank i Reg.clkLim)) 31 16 → Does (.clockMonitorWindowEnd i c) s fun t => t.fld
    Reg.clkGood i i = 1 ∧ t.fld Reg.clkLocked i i = 1 ∧ t.clockGood i = true ∧ t.reg (Reg.bank i Reg.clkCount) = c.setWidth
    32 ∧ t.lanes = s.lanes) ∧
  (∀ (i : Fin 20) (c : BitVec 16) (s : State), 18 ≤ i.val → Does (.clockMonitorWindowEnd i c) s fun t => t.clockGood i =
    true ∧ t.regs = s.regs) ∧
  (∀ (i : Fin 20) (c : BitVec 16) (s : State), s.domainUp 2 = true → i.val < 18 → (c.toNat < bits (s.reg (Reg.bank i
    Reg.clkLim)) 15 0 ∨ bits (s.reg (Reg.bank i Reg.clkLim)) 31 16 < c.toNat) → s.clockGood i = false → Does
    (.clockMonitorWindowEnd i c) s fun t => t.fld Reg.clkGood i i = 0 ∧ t.clockGood i = false ∧ t.reg (Reg.bank i
    Reg.clkCount) = c.setWidth 32 ∧ t.lanes = s.lanes) ∧
  (∀ (i : Fin 20) (s : State), s.domainUp 2 = true → i.val < 18 → s.clockGood i = false → Does (.pllLossOfLock i) s fun t
    => t.fld Reg.clkGood i i = 0 ∧ t.fld Reg.clkLocked i i = 0 ∧ t.lanes = s.lanes) ∧
  (∀ (i : Fin 20) (c : BitVec 16) (s : State), s.domainUp 2 = true → s.clockGood i = true → 10 ≤ i.val ∧ i.val < 18 →
    ((c.toNat < bits (s.reg (Reg.bank i Reg.clkLim)) 15 0 ∨ bits (s.reg (Reg.bank i Reg.clkLim)) 31 16 < c.toNat) → i.val <
    18 → Does (.clockMonitorWindowEnd i c) s fun t => t.clockGood i = false ∧ t.fld Reg.clkGood i i = 0 ∧ t.fld Reg.clkFail
    i i = 1 ∧ (s.domainUp 3 = true → t.fld (portKey ((i.val - 10) / 4) ((i.val - 10) % 4)) 1 0 ≠ 2) ∧ t.lanes = s.lanes ∧
    t.mem = s.mem) ∧ Does (.pllLossOfLock i) s fun t => t.clockGood i = false ∧ t.fld Reg.clkGood i i = 0 ∧ t.fld
    Reg.clkFail i i = 1 ∧ (s.domainUp 3 = true → t.fld (portKey ((i.val - 10) / 4) ((i.val - 10) % 4)) 1 0 ≠ 2) ∧ t.lanes =
    s.lanes ∧ t.mem = s.mem) ∧
  (∀ (i : Fin 20) (c : BitVec 16) (s : State), s.domainUp 2 = true → s.clockGood i = true → i.val = 5 → ((c.toNat < bits
    (s.reg (Reg.bank i Reg.clkLim)) 15 0 ∨ bits (s.reg (Reg.bank i Reg.clkLim)) 31 16 < c.toNat) → i.val < 18 → Does
    (.clockMonitorWindowEnd i c) s fun t => t.clockGood i = false ∧ t.fld Reg.clkGood 5 5 = 0 ∧ t.fld Reg.clkFail 5 5 = 1 ∧
    t.linkUp = false) ∧ Does (.pllLossOfLock i) s fun t => t.clockGood i = false ∧ t.fld Reg.clkGood 5 5 = 0 ∧ t.fld
    Reg.clkFail 5 5 = 1 ∧ t.linkUp = false) ∧
  (∀ (i : Fin 20) (c : BitVec 16) (s : State), s.domainUp 2 = true → s.clockGood i = true → (clockDomain i.val).any (fun d
    => d == 1 || d == 2 || d == 3 || d == 8) = true → (clockDomain i.val).all s.domainUp = true → ((c.toNat < bits (s.reg
    (Reg.bank i Reg.clkLim)) 15 0 ∨ bits (s.reg (Reg.bank i Reg.clkLim)) 31 16 < c.toNat) → i.val < 18 → Does
    (.clockMonitorWindowEnd i c) s fun t => t.clockGood i = false ∧ t.rst.running = true ∧ t.rst.sources.getLsbD 8 = true ∧
    t.rst.reach ≤ 1) ∧ Does (.pllLossOfLock i) s fun t => t.clockGood i = false ∧ t.rst.running = true ∧
    t.rst.sources.getLsbD 8 = true ∧ t.rst.reach ≤ 1) ∧
  (∀ (i : Fin 20) (c : BitVec 16) (s : State), s.domainUp 2 = true → s.clockGood i = true → i.val = 0 → ((c.toNat < bits
    (s.reg (Reg.bank i Reg.clkLim)) 15 0 ∨ bits (s.reg (Reg.bank i Reg.clkLim)) 31 16 < c.toNat) → i.val < 18 → Does
    (.clockMonitorWindowEnd i c) s fun t => t.clockGood i = false ∧ t.rst.running = true ∧ t.rst.sources.getLsbD 1 = true ∧
    t.rst.reach = 0) ∧ Does (.pllLossOfLock i) s fun t => t.clockGood i = false ∧ t.rst.running = true ∧
    t.rst.sources.getLsbD 1 = true ∧ t.rst.reach = 0) ∧
  (∀ (i : Fin 20) (c : BitVec 16) (s : State), s.domainUp 2 = true → s.clockGood i = true → i.val = 4 ∨ (6 ≤ i.val ∧ i.val
    ≤ 9) → (clockDomain i.val).all s.domainUp = true → ((c.toNat < bits (s.reg (Reg.bank i Reg.clkLim)) 15 0 ∨ bits (s.reg
    (Reg.bank i Reg.clkLim)) 31 16 < c.toNat) → i.val < 18 → Does (.clockMonitorWindowEnd i c) s fun t => t.clockGood i =
    false ∧ ∀ d, clockDomain i.val = some d → t.domainUp d = false ∧ t.domainFailed d = true ∧ ∀ n : Fin 16, 4 + n.val / 4
    = d → t.lanes[n].state = .borneOff) ∧ Does (.pllLossOfLock i) s fun t => t.clockGood i = false ∧ ∀ d, clockDomain i.val
    = some d → t.domainUp d = false ∧ t.domainFailed d = true ∧ ∀ n : Fin 16, 4 + n.val / 4 = d → t.lanes[n].state =
    .borneOff) ∧
  (∀ (i : Fin 20) (s : State), s.domainUp 2 = true → i.val < 18 → Gives (.pllLossOfLock i) s ((s.setFld Reg.clkLocked i i
    0).clockBad i)) ∧
  (∀ (s : State), s.domainUp 2 = true → s.rst.xtal = true → Does .xtalStop s fun t => t.rst.xtal = false ∧ bit (t.reg
    Reg.clkAclkTrim) 16 = false ∧ bits (t.reg Reg.clkAclkTrim) 15 0 = bits (s.reg Reg.clkAclkTrim) 15 0 ∧ t.events.length =
    s.events.length + 1) ∧
  (∀ (s : State), s.rst.xtal = false → Gives .xtalStop s s) ∧
  (∀ (s : State), s.domainUp 2 = true → Does .xtalRestart s fun t => t.rst.xtal = true ∧ bit (t.reg Reg.clkAclkTrim) 16 =
    true ∧ bits (t.reg Reg.clkAclkTrim) 15 0 = bits (s.reg Reg.clkAclkTrim) 15 0) ∧
  (∀ (p : BitVec 8) (w : Nat) (s : State), s.domainUp 2 = true → s.wedgeAt p.toNat = some w → s.wedged.contains p.toNat =
    false → Does (.blockWedged p) s fun t => t.wedged.contains p.toNat = true ∧ t.fld Reg.hltWedge 7 0 = p.toNat ∧ t.fld
    Reg.hltWedge 31 16 = min 0xFFFF (s.fld Reg.hltWedge 31 16 + 1)) ∧
  (∀ (p : BitVec 8) (s : State), s.wedgeAt p.toNat = none → Gives (.blockWedged p) s s) ∧
  (∀ (p : BitVec 8) (s : State), s.wedged.contains p.toNat = true → Gives (.blockWedged p) s s) ∧
  (∀ (v : BitVec 16) (s : State), s.domainUp 2 = true → Does (.tempWarn v) s fun t => t.fld Reg.hltEnv 15 0 = v.toNat ∧
    t.fld Reg.hltEnv 31 16 = s.fld Reg.hltEnv 31 16 ∧ t.events.length = s.events.length + b2n (decide ((10 * s.fld
    Reg.hltCtrl 15 8 : Int) ≤ v.toInt ∧ (BitVec.ofNat 16 (s.fld Reg.hltEnv 15 0)).toInt < 10 * s.fld Reg.hltCtrl 15 8)))

/-- While SEQ is released, TIM_NOW_LO reads as global time [31:0], and its read copies global time [63:32] to TIM_NOW_HI and changes nothing else. While SEQ is released: a write of TIM_EXT_OFS keeps the value and marks it fresh; 0x0000_57E9 to TIM_STEP_CMD in UNSYNC keeps TIM_STEP_HI:TIM_STEP_LO, as they are at that write (assumption 45), for the next round boundary, in any other state it logs 0x0005. A step that is due is made at the next boundary, by the search of the round into INTEGRATING or to the value of the command: no ply is in flight, the round is not begun, no slot is open and a sequencer in RUN is held. Without a step the boundary begins the round. SYNC_CORRECT at the START of the board's entry, in RUN or outside it. In UNSYNC it corrects nothing. A round without a value, or with one alone on a node that is no sync node, has no correction: the trim stays, SYNCED becomes HOLDOVER, more than HOLD_ROUNDS such rounds lead to UNSYNC. Else d is the mean of the values between the k lowest and the k highest, rounded to 2^-8 ns, half to even, and TIM_DEV shows it in ns. Beyond 500 ns the time base is UNSYNC, SYNC_LOSS counts, neither slew nor trim is made. Within it, with SRC other than 2, the coming slew is −d in total, with what R50 has kept of the one before, the trim falls by d × 2^32 × 2.5 / 4,000,000, rounded half to even, and is clamped; INTEGRATING becomes SYNCED after INTEG_ROUNDS rounds of at most 2 pips, HOLDOVER becomes SYNCED. Global time does not step. (The values are those of State.corrValues: R47, R48, R60.) -/
def Obligations.TimeCommands : Prop :=
  (∀ (s : State), s.domainUp 2 = true → readReg s pTIM (Reg.timNowLo % 0x1000) = s.now.setWidth 32 ∧ Gives .timNowLoRead s
    (s.setReg Reg.timNowHi (s.now.extractLsb' 32 32))) ∧
  (∀ (v : Word) (s : State), s.domainUp 2 = true → Does (.timExtOfsWrite v) s fun t => t.reg Reg.timExtOfs = v ∧
    t.time.extFresh = true ∧ t.time.extNew = true ∧ t.time.gt = s.time.gt) ∧
  (∀ (s : State), s.domainUp 2 = true → s.time.state = .unsync → Does (.timStepCmd 0x57E9) s fun t => t.time.stepPend =
    some (BitVec.ofNat 64 ((s.reg Reg.timStepLo).toNat + (s.reg Reg.timStepHi).toNat * 2 ^ 32)) ∧ t.time.gt = s.time.gt) ∧
  (∀ (s : State), s.domainUp 2 = true → s.time.state ≠ .unsync → Gives (.timStepCmd 0x57E9) s (s.refuse Reg.timStepCmd)) ∧
  (∀ (w : State) (s : State), s.domainUp 2 = true → s.stepDue = true → w = (s.advanceTo s.nextBoundary).endRound → (∀ v,
    searchStep w.time.search = none → w.time.stepPend = some v → Does .timeStep s fun t => t.time.gt = BitVec.ofNat 96
    (v.toNat * 2 ^ 32) ∧ t.time.state = w.time.state ∧ t.time.epoch = w.time.epoch ∧ t.time.stepPend = none ∧ t.time.begun
    = false ∧ t.net.slots = [] ∧ (w.seqr.state = .run → t.time.hold.isSome = true) ∧ ∀ n : Fin 16, t.lanes[n].ply = none) ∧
    (∀ x, searchStep w.time.search = some x → Does .timeStep s fun t => t.time.gt = (w.advanceTo w.nextBoundary).time.gt +
    BitVec.ofInt 96 (-(x.1 * 2 ^ 24)) ∧ t.time.state = .integrating ∧ t.time.epoch = x.2 ∧ t.time.stepPend = none ∧
    t.time.begun = false ∧ t.net.slots = [] ∧ (w.seqr.state = .run → t.time.hold.isSome = true) ∧ ∀ n : Fin 16,
    t.lanes[n].ply = none) ∧ Gives .roundBoundary s w.makeStep) ∧
  (∀ (s : State), s.domainUp 2 = true → s.stepDue = false → Gives .roundBoundary s ((s.advanceTo
    s.nextBoundary).endRound).beginRound ∧ Does .roundBoundary s fun t => t.time.begun = true ∧ t.time.meas = []) ∧
  (∀ (i : Nat) (e : Entry) (u s : State), s.correctsAt i e u → u.time.state = .unsync → Does .syncCorrect s fun t =>
    t.time.corrected = true ∧ t.time.state = .unsync ∧ t.time.trim = u.time.trim ∧ t.time.slewTotal = 0 ∧ t.time.gt =
    u.time.gt ∧ t.time.meas = []) ∧
  (∀ (i : Nat) (e : Entry) (u s : State), s.correctsAt i e u → u.time.state ≠ .unsync → (u.corrValues.2.vals = [] ∨
    (u.corrValues.2.vals.length = 1 ∧ u.ownSync = none ∧ u.corrValues.2.ext = false)) → Does .syncCorrect s fun t =>
    t.time.corrected = true ∧ t.time.trim = u.time.trim ∧ t.time.slewTotal = 0 ∧ t.time.gt = u.time.gt ∧ t.time.good = 0 ∧
    t.time.state = (if u.fld Reg.timCtrl 15 8 ≤ u.time.noCorr then .unsync else if u.time.state = .synced then .holdover
    else u.time.state) ∧ (u.time.noCorr < u.fld Reg.timCtrl 15 8 → t.time.noCorr = u.time.noCorr + 1)) ∧
  (∀ (i : Nat) (e : Entry) (u s : State), s.correctsAt i e u → u.time.state ≠ .unsync → ¬ (u.corrValues.2.vals = [] ∨
    (u.corrValues.2.vals.length = 1 ∧ u.ownSync = none ∧ u.corrValues.2.ext = false)) → Does .syncCorrect s fun t => ∃ d r
    : Int, Selected u.corrValues.2.vals d ∧ HalfEven d 256 r ∧ t.reg Reg.timDev = BitVec.ofInt 32 r ∧ t.time.gt = u.time.gt
    ∧ t.time.corrected = true ∧ (128000 < |d| → t.time.state = .unsync ∧ t.time.trim = u.time.trim ∧ t.time.slewTotal = 0 ∧
    t.fld Reg.timEvtCnt 15 0 = min 0xFFFF (u.fld Reg.timEvtCnt 15 0 + 1) ∧ u.events.length < t.events.length) ∧ (|d| ≤
    128000 → t.time.noCorr = 0 ∧ (u.fld Reg.timCtrl 1 0 = 2 → t.time.trim = u.time.trim ∧ t.time.slewTotal = 0) ∧ (u.fld
    Reg.timCtrl 1 0 ≠ 2 → t.time.slewTotal = -(d * 2 ^ 24) + (u.time.slewRest + (if u.time.slewMoved then u.time.slewLeft
    else 0)) ∧ t.time.slewCycle = 0 ∧ t.time.slewRest = 0 ∧ ∃ x, HalfEven (d * 2 ^ 24) 1600000 x ∧ t.time.trim.toInt = max
    (-2147483) (min 2147483 (u.time.trim.toInt - x))) ∧ (let g := if |d| ≤ 25600 then u.time.good + 1 else 0; t.time.state
    = (if u.time.state = .integrating then (if max 1 (u.fld Reg.timCtrl 7 4) ≤ g then .synced else .integrating) else
    .synced))))

/-- While SEQ is released: START is accepted only in OFF with a LOADED board and leads to WAIT, else it logs 0x0005; STOP is accepted only in BOOT, STOOD_DOWN or BENCH; WAIT leads to RUN at the next turn boundary, with ACTIVE RUNNING; an accepted STOP leads to OFF at the next round boundary. (That STOP is accepted in FAULT is assumption 74; that a command takes effect at the first boundary after it is assumption 38.) In RUN, TRACK_WALK_BEGIN adds the corrected entries to BSQ_ECC and buffers the walk of the next round; an entry that cannot be corrected leads to FAULT at pip 4,936; the watchdog of a sequencer in RUN or FAULT requests a System reset once no kick has come for WDT_ROUNDS rounds of ACLK. -/
def Obligations.Sequencer : Prop :=
  (∀ (s : State), s.domainUp 2 = true → s.seqr.state = .off → s.boards.active = .loaded → Does .bsqStart s fun t =>
    t.seqr.state = .wait ∧ t.boards = s.boards ∧ t.regs = s.regs) ∧
  (∀ (s : State), s.domainUp 2 = true → ¬ (s.seqr.state = .off ∧ s.boards.active = .loaded) → Gives .bsqStart s (s.refuse
    Reg.bsqCmd)) ∧
  (∀ (s : State), s.domainUp 2 = true → s.state = .boot ∨ s.state = .stoodDown ∨ s.state = .bench → s.seqr.state ≠ .off →
    Does .bsqStop s fun t => t.seqr.stopPend = true ∧ t.seqr.state = s.seqr.state ∧ t.regs = s.regs) ∧
  (∀ (s : State), s.domainUp 2 = true → s.state = .joining ∨ s.state = .follower ∨ s.state = .leader ∨ s.state = .mute →
    Gives .bsqStop s (s.refuse Reg.bsqCmd)) ∧
  (∀ (s : State), s.seqr.state = .wait → s.nextAfterCmd.rsn.toNat % s.nextAfterCmd.turnLen = 0 → Does .seqEnterRun s fun t
    => t = s.nextAfterCmd.enterRun ∧ t.seqr.state = .run ∧ t.boards.active = .running) ∧
  (∀ (s : State), s.seqr.stopPend = true → s.seqr.state = .wait ∨ s.seqr.state = .run → Gives .seqStopTakesEffect s
    s.nextAfterCmd.enterOff ∧ Does .seqStopTakesEffect s fun t => t.seqr.state = .off) ∧
  (∀ (k : Nat) (s : State), s.seqr.state = .run → s.time.hold = none → s.time.begun = true → s.seqr.walkNext = none → Does
    (.trackWalkBegin k none) s fun t => (t.seqr.walkNext.map (fun w => w.rsn)) = some (s.roundRsn + 1) ∧ t.fld Reg.bsqEcc
    15 0 = min 0xFFFF (s.fld Reg.bsqEcc 15 0 + k)) ∧
  (∀ (k : Nat) (tr : Fin 4) (i : Nat) (s : State), s.seqr.state = .run → s.time.hold = none → s.time.begun = true →
    s.seqr.walkNext = none → i < (s.track (trackOf tr)).length → Gives (.trackWalkBegin k (some (tr, i))) s (((s.toPip
    4936).setFld Reg.bsqEcc 15 0 (min 0xFFFF ((s.toPip 4936).fld Reg.bsqEcc 15 0 + k))).tableError (trackOf tr) i)) ∧
  (∀ (s : State), s.domainUp 0 = true → s.seqr.state = .run ∨ s.seqr.state = .fault → Gives .seqWatchdogExpiry s ((s.waitOp
    (s.seqr.kick + max 1 (s.fld Reg.bsqCtrl 7 0) * roundNs)).assertSource 6 1 false) ∧ Does .seqWatchdogExpiry s fun t =>
    t.rst.running = true ∧ t.rst.sources.getLsbD 6 = true)

/-- A ply that is ready before its deadline is committed and one that is not is aborted at the deadline: no ply is in flight on the lane, its write log is empty, and an abort leaves memory alone. A trap seen in time shows the ply as ended and leaves it in flight. An enabled PLY entry that is no background window is dispatched when it comes up: on a running lane, of its own task's context for a GAMBIT ply, the lane runs it with the registers of R143; on a lane that is not RUNNING it is dropped. An entry that is not enabled leaves the buffer and issues nothing. -/
def Obligations.Plies : Prop :=
  (∀ (n : Fin 16) (p : Ply) (s : State), s.lanes[n].ply = some p → p.phase = .ready → s.pastDeadline n p = false → Gives
    (.plyReadyCommit n) s (s.commitPly n) ∧ Does (.plyReadyCommit n) s fun t => t.lanes[n].ply = none ∧ t.lanes[n].log =
    .empty ∧ (s.lanes[n].log = .empty → t.mem = s.mem)) ∧
  (∀ (n : Fin 16) (p : Ply) (s : State), s.lanes[n].ply = some p → Gives (.plyDeadlineAbort n) s ((s.advanceTo
    (s.lanes[n].deadline p)).abortPly n) ∧ (Does (.plyDeadlineAbort n) s fun t => t.lanes[n].ply = none ∧ t.lanes[n].log =
    .empty ∧ t.mem = s.mem) ∧ (p.phase = .ready → s.pastDeadline n p = true → Does (.plyReadyCommit n) s fun t => t =
    s.abortPly n ∧ t.lanes[n].ply = none ∧ t.lanes[n].log = .empty ∧ t.mem = s.mem)) ∧
  (∀ (n : Fin 16) (p : Ply) (s : State), s.lanes[n].ply = some p → p.phase = .trapped → s.pastDeadline n p = false → Gives
    (.plyTrapSeen n) s (s.trapSeen n) ∧ Does (.plyTrapSeen n) s fun t => t.lanes[n].ply = some { p with phase := .seen } ∧
    t.mem = s.mem ∧ (∀ m : Fin 16, m ≠ n → t.lanes[m] = s.lanes[m])) ∧
  (∀ (i : Nat) (seg : SegResult) (e : Entry) (s : State), s.due .l i e → e.etype = 1 → s.isWindow e = false → s.kindRuns e
    = true → Gives (.plyDispatch i seg) s ((s.atEntry .l i e).issuePly i e seg)) ∧
  (∀ (i : Nat) (seg : SegResult) (e : Entry) (s : State), s.due .l i e → e.etype = 1 → s.isWindow e = false → s.kindRuns e
    = true → e.kind ≠ 1 → s.lanes[e.lane].state = .running ∧ s.lanes[e.lane].ply = none ∧ s.lanes[e.lane].act = .none →
    e.isGambit = true → (s.atEntry .l i e).lanes[e.lane].owner = some e.task.val → Does (.plyDispatch i seg) s fun t =>
    t.lanes[e.lane].ply = some ⟨i, e, (s.atEntry .l i e).roundRsn, .running⟩ ∧ t.lanes[e.lane].main = dispatchCore e
    (s.atEntry .l i e).roundRsn ∧ t.lanes[e.lane].act = .ply ∧ t.lanes[e.lane].log = .empty ∧ t.mem = s.mem ∧ (∀ m : Fin
    16, m ≠ e.lane → t.lanes[m] = (s.atEntry .l i e).lanes[m])) ∧
  (∀ (i : Nat) (seg : SegResult) (e : Entry) (s : State), s.due .l i e → e.etype = 1 → s.isWindow e = false → s.kindRuns e
    = true → e.isGambit = false → s.lanes[e.lane].state ≠ .running ∧ s.lanes[e.lane].ply = none ∧ s.lanes[e.lane].act =
    .none → Does (.plyDispatch i seg) s fun t => t = (s.atEntry .l i e).dropPly e.lane e ∧ t.fld (Reg.bank e.lane
    Reg.bsqLaneCnt) 31 16 = min 0xFFFF (s.fld (Reg.bank e.lane Reg.bsqLaneCnt) 31 16 + 1) ∧ t.lanes = (s.atEntry .l i
    e).lanes ∧ t.mem = s.mem) ∧
  (∀ (i : Nat) (seg : SegResult) (e : Entry) (s : State), s.comesUp .l i e → (s.atEntry .l i e).enabled .l e = false →
    e.etype = 1 → s.isWindow e = false → s.kindRuns e = true → (s.atEntry .l i e).unpaired i e = false → Does (.plyDispatch
    i seg) s fun t => t = s.atEntry .l i e ∧ t.mem = s.mem ∧ ∀ n : Fin 16, t.lanes[n].ply = s.lanes[n].ply ∧
    t.lanes[n].main = s.lanes[n].main)

/-- An enabled MOVE entry that comes up starts its mover; a LOAD_OUT whose words can be read fills the transmit buffer of its slot and is done; at its deadline a transfer that is complete ends and one that is not overruns; a fault of cause 1 stops the mover, cause 2 also marks what the transfer brings as bad, cause 3 is an overrun. (That a LOAD_OUT has filled the buffer and is done when it starts is assumption 37.) -/
def Obligations.BoardMovers : Prop :=
  (∀ (i : Nat) (limit : Option Nat) (e : Entry) (s : State), s.due .m i e → Gives (.moveStart i limit) s ((s.atEntry .m i
    e).startMover i e limit)) ∧
  (∀ (i : Nat) (e : Entry) (b : Tables) (r : SlotRec) (ws : List (Word × BitVec 4)) (s : State), s.due .m i e → e.mkind = 3
    → s.movers.find? (fun y => y.entry.mover == e.mover && !y.isDone) = none → s.boards.act = some b → b.slotRec (e.ref %
    0x10000) = some r → (s.atEntry .m i e).outWords (b.iomapOf (e.ref % 0x10000)) (List.range (valueWords r.payload)) = .ok
    ws → Does (.moveStart i none) s fun t => t.net.txBuf = tput s.net.txBuf (e.ref % 0x10000) (outPayload r.payload ws) ∧
    t.movers = s.movers.filter (fun x => x.entry.mover != e.mover) ++ [⟨i, e, (s.atEntry .m i e).startOf e + BitVec.ofNat
    64 (e.dur * 50), true, 0⟩] ∧ t.mem = s.mem ∧ t.lanes = (s.atEntry .m i e).lanes) ∧
  (∀ (m : Fin 8) (x : MoverXfer) (s : State), s.movers.find? (fun y => y.entry.mover == m.val) = some x → (x.isDone = true
    → Does (.moveDeadline m) s fun t => t.movers.all (fun y => y.entry.mover != m.val) = true) ∧ (x.isDone = false → Gives
    (.moveDeadline m) s ((s.advanceTo x.ends).moverOverrun x))) ∧
  (∀ (m : Fin 8) (x : MoverXfer) (a : BitVec 40) (s : State), s.movers.find? (fun y => y.entry.mover == m.val && !y.isDone)
    = some x → (Does (.boardMoverFault m 1 a) s fun t => t = s.moverFault x 1 a.toNat ∧ t.movers.all (fun y =>
    y.entry.mover != m.val) = true ∧ t.reg Reg.movBmLast = BitVec.ofNat 32 (x.idx % 2 ^ 17 + m.val * 2 ^ 17 + 2 ^ 20)) ∧
    Gives (.boardMoverFault m 2 a) s ((s.moverFault x 2 a.toNat).moverBad (x.entry.mkind == 1) a.toNat) ∧ Gives
    (.boardMoverFault m 3 a) s ((s.advanceTo x.ends).moverOverrun x))

/-- A FIELD entry that comes up enabled and in time does what its FEVT names: 1 begins the task, 2 closes agreement on the task's slots, 3 ends the task, 4 makes a digest record of the task for the round, 6 takes a sample (kept as one of its own, or expected from the Leader by a Follower or joiner), 7 refreshes the outputs it names while FIO is released, 8 marks the health of the round. -/
def Obligations.FieldEvents : Prop :=
  (∀ (i : Nat) (e : Entry) (s : State), s.due .f i e → e.etype = 5 → e.fevt = 1 → Gives (.taskStart i) s ((s.atEntry .f i
    e).startTask e) ∧ Does (.taskStart i) s fun t => t.tasks[e.task] = { TaskRun.reset with pub := t.tasks[e.task].pub } ∧
    t.pair.digAcc[e.task] = 0 ∧ t.written.all (fun w => !t.inOutput e.task (4 * w)) = true) ∧
  (∀ (i : Nat) (e : Entry) (s : State), s.due .f i e → e.etype = 5 → e.fevt = 2 → s.boards.act.isSome = true → Does
    (.agreeClose i) s fun t => t.tasks[e.task].agreed = true) ∧
  (∀ (i : Nat) (e : Entry) (s : State), s.due .f i e → e.etype = 5 → e.fevt = 3 → Gives (.taskEnd i) s ((s.atEntry .f i
    e).endTask e)) ∧
  (∀ (i : Nat) (e : Entry) (s : State), s.due .f i e → e.etype = 5 → e.fevt = 3 → (s.taskRec e.task).isSome = true → Does
    (.taskEnd i) s fun t => t.tasks[e.task].pub = some (s.atEntry .f i e).roundRsn ∧ t.tasks[e.task].late = false ∧
    t.tasks[e.task].trapped = false ∧ t.tasks[e.task].moverEv = false ∧ t.gmb[e.task].result = none ∧ t.seqr.rerun.getLsbD
    e.task.val = false) ∧
  (∀ (i : Nat) (e : Entry) (s : State), s.due .f i e → e.etype = 5 → e.fevt = 4 → Does (.digest i) s fun t =>
    t.pair.digOwn.any (fun x => x.task == e.task.val && x.rsn == (s.atEntry .f i e).roundRsn) = true) ∧
  (∀ (i : Nat) (e : Entry) (s : State), s.due .f i e → e.etype = 5 → e.fevt = 6 → s.takesLatches = true →
    s.pair.latches.any (fun x => x.entry == i) = false → Does (.fioSample i) s fun t => t.pair.expect = s.pair.expect ++
    [(i, (s.atEntry .f i e).startOf e + 400)] ∧ t.fio.lowSeen = false) ∧
  (∀ (i : Nat) (e : Entry) (s : State), s.due .f i e → e.etype = 5 → e.fevt = 6 → s.takesLatches = false → Does (.fioSample
    i) s fun t => t.pair.latches.head? = some ((s.atEntry .f i e).ownLatch i e.channels ((s.atEntry .f i e).startOf e +
    400)) ∧ t.fio.lowSeen = false) ∧
  (∀ (i : Nat) (e : Entry) (s : State), s.due .f i e → e.etype = 5 → e.fevt = 7 → s.domainUp 9 = true → Gives (.fioRefresh
    i) s (over16 (fun t c => if e.channels.getLsbD c && t.isOutput c then t.refreshChannel c else t) (s.atEntry .f i e)) ∧
    Does (.fioRefresh i) s fun t => ∀ c : Fin 16, e.channels.getLsbD c = true → s.isOutput c = true → (s.outputOf c).isSome
    = true → t.fio.ch[c].refAt = (s.atEntry .f i e).opNs) ∧
  (∀ (i : Nat) (e : Entry) (s : State), s.due .f i e → e.etype = 5 → e.fevt = 8 → Does (.healthXchg i) s fun t =>
    t.fio.healthy = true)

/-- A SLOT entry that comes up enabled opens its slot. A station slot that closes is closed with what landed in it; the module's own slot only ends. A guardian window that opens or closes does so at its time. -/
def Obligations.SlotsAndGuardian : Prop :=
  (∀ (i : Nat) (e : Entry) (t : Tables) (s : State), s.due .n i e → s.domainUp 3 = true → s.boards.act = some t → Gives
    (.slotOpen i) s ((s.atEntry .n i e).openSlot t e false)) ∧
  (∀ (i : Nat) (e : Entry) (t : Tables) (r : SlotRec) (s : State), s.due .n i e → s.domainUp 3 = true → s.boards.act = some
    t → t.slotRec e.slot = some r → (s.atEntry .n i e).ownSlot r = false → (s.atEntry .n i e).runOf r.slot (s.atEntry .n i
    e).rsn = none → Does (.slotOpen i) s fun u => u.net.slots = s.net.slots ++ [newRun e (s.atEntry .n i e).rsn
    s.time.roundStart] ∧ u.mem = s.mem ∧ u.lanes = (s.atEntry .n i e).lanes) ∧
  (∀ (slot : BitVec 16) (t : Tables) (run : SlotRun) (r : SlotRec) (s : State), s.boards.act = some t → s.net.slots.find?
    (fun x => x.slot == slot.toNat && x.isOpen) = some run → t.slotRec slot.toNat = some r → (run.own = true → Does
    (.slotClose slot) s fun u => u = s.slotEnds run r ∧ u.mem = s.mem ∧ u.lanes = s.lanes) ∧ (run.own = false → outcomeOf
    run run.a ≠ 0 → outcomeOf run run.b ≠ 0 → Does (.slotClose slot) s fun u => bits (u.reg (Reg.bank r.slot Reg.mbsInfo))
    7 6 = outcomeOf run run.a ∧ bits (u.reg (Reg.bank r.slot Reg.mbsInfo)) 9 8 = outcomeOf run run.b ∧ u.mem = s.mem) ∧
    (run.own = false → Gives (.slotClose slot) s ((s.slotEnds run r).closeRun t r run))) ∧
  (∀ (i : Nat) (t : Tables) (g : GuardRec) (s : State), s.boards.act = some t → t.guards[i]? = some g → s.inRound = true →
    (s.toPip g.start).guardOn g = true → Does (.guardianWindowOpen i) s fun u => u.net.windows.contains (i, g.slot) = true
    ∧ u.mem = s.mem) ∧
  (∀ (i : Nat) (t : Tables) (g : GuardRec) (s : State), s.boards.act = some t → t.guards[i]? = some g → s.net.windows.any
    (fun w => w.1 == i) = true → Does (.guardianWindowClose i) s fun u => u.net.windows.any (fun w => w.1 == i) = false)

/-- A COMMIT entry that comes up enabled first decides the plies whose deadline has come. A spoiled context squashes with the cause and lane that spoiled it, one with ENABLE 0 or FORCE latched with cause 8; otherwise a line that a running lane of the context has read and that has its mask bit set squashes with cause 1, a copy that does not fit DUR with cause 7, and all else commits. A commit copies the staged lines with their quality codes to the output image, where they take their written marks; a squash writes the shadow lines of the running lanes back. Every lane of the context leaves it, the context closes, and the result registers show result, cause, lane, RSN and the interrupts. With no open context the result is a squash with cause 10; a wedged context gets none. RERUN_SELECT enables the RERUN entries of the task unless the result was a commit. A BACKGROUND entry that comes up enabled on a running lane with BG_EN resumes the job with the entry's window; a job that was saved runs on from its saved registers, after a restore during which ACT is 3; a preempted job is saved in the last pip of its window, during which ACT is 3: its status word, registers, PC, QA and TC stand in the save area and no other byte changes; a fault sets BG_FAULT and defers a trap; a save that cannot complete leaves the lane with BG_EN 0 and BG_FAULT 1. (That a restore takes as long as a save is assumption 95; the status of a job whose save cannot complete is assumption 40.) -/
def Obligations.GambitAndBackground : Prop :=
  (∀ (i : Nat) (e : Entry) (u : State) (s : State), s.due .l i e → e.etype = 2 → u = (s.atEntry .l i e).decideDue →
    u.gmb[e.task].isOpen = true → u.gmb[e.task].overdue = false → Does (.commitEntry i) s fun t => let r := (u.commitTest
    e.task e.dur); t.gmb[e.task] = { GmbCtx.reset with result := some r.commit } ∧ bits (t.reg (Reg.bank e.task
    Reg.gmbResult)) 1 0 = (if r.commit then 1 else 2) ∧ bits (t.reg (Reg.bank e.task Reg.gmbResult)) 7 4 = r.cause % 16 ∧
    t.reg (Reg.bank e.task Reg.gmbResultRsn) = u.rsn ∧ ∀ n : Fin 16, (u.lanes[n].owner = some e.task.val → t.lanes[n].owner
    = none ∧ t.lanes[n].readSet = [] ∧ t.lanes[n].shadowBuf = [] ∧ t.lanes[n].main = u.lanes[n].main) ∧ (u.lanes[n].owner ≠
    some e.task.val → t.lanes[n] = u.lanes[n])) ∧
  (∀ (i : Nat) (e : Entry) (u : State) (s : State) (cause : Nat) (n : Fin 16), s.due .l i e → e.etype = 2 → u = (s.atEntry
    .l i e).decideDue → u.gmb[e.task].isOpen = true → u.gmb[e.task].overdue = false → u.gmb[e.task].spoiled = some (cause,
    n.val) → 2 ≤ cause ∧ cause ≤ 6 → Does (.commitEntry i) s fun t => t.gmb[e.task].result = some false ∧ bits (t.reg
    (Reg.bank e.task Reg.gmbResult)) 7 4 = cause ∧ bits (t.reg (Reg.bank e.task Reg.gmbResult)) 11 8 = n.val ∧ t.fld
    (Reg.bank e.task Reg.gmbTest) 31 16 = 9) ∧
  (∀ (i : Nat) (e : Entry) (u : State) (s : State), s.due .l i e → e.etype = 2 → u = (s.atEntry .l i e).decideDue →
    u.gmb[e.task].isOpen = true → u.gmb[e.task].overdue = false → u.gmb[e.task].spoiled = none → bit (u.reg (Reg.pgCtrl
    pGMB)) 0 = false ∨ u.gmb[e.task].forced = true → Does (.commitEntry i) s fun t => t.gmb[e.task].result = some false ∧
    bits (t.reg (Reg.bank e.task Reg.gmbResult)) 7 4 = 8) ∧
  (∀ (i : Nat) (e : Entry) (u : State) (s : State) (b : Nat), s.due .l i e → e.etype = 2 → u = (s.atEntry .l i e).decideDue
    → u.gmb[e.task].isOpen = true → u.gmb[e.task].overdue = false → u.gmb[e.task].spoiled = none → bit (u.reg (Reg.pgCtrl
    pGMB)) 0 = true ∧ u.gmb[e.task].forced = false → b = (((u.ctxReads e.task).map (· / 1024)).dedup.filter (fun k =>
    (u.gmb[e.task].mask.map (· / 1024)).contains k)).length → Does (.commitEntry i) s fun t => if (u.ctxReads e.task).any
    (fun l => u.gmb[e.task].mask.contains l) then t.gmb[e.task].result = some false ∧ bits (t.reg (Reg.bank e.task
    Reg.gmbResult)) 7 4 = 1 ∧ bit (t.reg (Reg.bank e.task Reg.gmbHit)) 24 = true else if 19 * (e.dur - 1) < 9 + b +
    (u.gmb[e.task].staged.length + 3) / 4 then t.gmb[e.task].result = some false ∧ bits (t.reg (Reg.bank e.task
    Reg.gmbResult)) 7 4 = 7 ∧ (u.fld (Reg.pgErr pGMB) 15 0 = 0 → t.fld (Reg.pgErr pGMB) 15 0 = 0x0101 ∧ t.reg
    (Reg.pgErrInfo pGMB) = BitVec.ofNat 32 e.task.val) else t.gmb[e.task].result = some true ∧ bits (t.reg (Reg.bank e.task
    Reg.gmbResult)) 7 4 = 0) ∧
  (∀ (i : Nat) (e : Entry) (u : State) (s : State), s.due .l i e → e.etype = 2 → u = (s.atEntry .l i e).decideDue →
    u.gmb[e.task].isOpen = true → u.gmb[e.task].overdue = false → Does (.commitEntry i) s fun t => let r := (u.commitTest
    e.task e.dur); (r.commit = true → bit (u.reg (Reg.pgIrqEn pGMB)) 0 = true → bit (t.reg (Reg.pgIrq pGMB)) 0 = true) ∧
    (r.commit = false → bit (u.reg (Reg.pgIrqEn pGMB)) 1 = true → bit (t.reg (Reg.pgIrq pGMB)) 1 = true)) ∧
  (∀ (i : Nat) (e : Entry) (k : TaskRec) (u : State) (s : State), s.due .l i e → e.etype = 2 → u = (s.atEntry .l i
    e).decideDue → u.gmb[e.task].isOpen = true → u.gmb[e.task].overdue = false → (u.commitTest e.task e.dur).commit = true
    → u.taskRec e.task = some k → u.mem.wf = true → k.outBase + k.outLen ≤ 0x4000000 ∧ k.stageBase + k.outLen ≤ 0x4000000 ∧
    k.outBase % 64 = 0 ∧ k.stageBase % 64 = 0 → k.outBase + k.outLen ≤ k.stageBase ∨ k.stageBase + k.outLen ≤ k.outBase → ∀
    l ∈ u.gmb[e.task].staged, k.outBase ≤ 64 * l ∧ 64 * l + 64 ≤ k.outBase + k.outLen → Does (.commitEntry i) s fun t => (∀
    l ∈ u.gmb[e.task].staged, ∀ j : Fin 16, t.imemWord (64 * l + 4 * j) = u.imemWord (k.stageBase + (64 * l + 4 * j -
    k.outBase)) ∧ t.imemQual (64 * l + 4 * j) = u.imemQual (k.stageBase + (64 * l + 4 * j - k.outBase)) ∧
    t.written.contains (16 * l + j) = true) ∧ ∀ o, o < 0x4000000 → o / 64 ∉ u.gmb[e.task].staged → t.mem.byte (imemBase +
    o) = u.mem.byte (imemBase + o)) ∧
  (∀ (i : Nat) (e : Entry) (u : State) (s : State), s.due .l i e → e.etype = 2 → u = (s.atEntry .l i e).decideDue →
    u.gmb[e.task].isOpen = true → u.gmb[e.task].overdue = false → (u.commitTest e.task e.dur).commit = false → u.mem.wf =
    true → ∀ n : Fin 16, (u.lanes[n].shadowBuf.map (fun x => x.addr)).Nodup ∧ ∀ x ∈ u.lanes[n].shadowBuf, x.addr % 64 = 0 ∧
    x.bytes.length = 64 ∧ x.addr + 64 ≤ 0x1000000 → Does (.commitEntry i) s fun t => (∀ n : Fin 16, u.lanes[n].owner = some
    e.task.val → u.lanes[n].state = .running → t.lanes[n].actAt t.opNs = .busy ∧ t.fld (Reg.bank n Reg.gmbRestore) 11 0 =
    u.lanes[n].shadowBuf.length % 4096 ∧ ∀ x ∈ u.lanes[n].shadowBuf, t.mem.read (laneBase n + x.addr) 64 = x.bytes) ∧ ∀ a,
    (∀ n : Fin 16, u.lanes[n].owner = some e.task.val → u.lanes[n].state = .running → ∀ x ∈ u.lanes[n].shadowBuf, a <
    laneBase n + x.addr ∨ laneBase n + x.addr + 64 ≤ a) → t.mem.byte a = u.mem.byte a) ∧
  (∀ (i : Nat) (e : Entry) (u : State) (s : State), s.due .l i e → e.etype = 2 → u = (s.atEntry .l i e).decideDue →
    u.gmb[e.task].isOpen = false → Does (.commitEntry i) s fun t => t.gmb[e.task].result = some false ∧ t.reg (Reg.bank
    e.task Reg.gmbResult) = 0xA2 ∧ t.fld (Reg.bank e.task Reg.gmbTest) 31 16 = 9 ∧ t.reg (Reg.bank e.task Reg.gmbResultRsn)
    = u.rsn ∧ t.mem = u.mem ∧ t.lanes = u.lanes) ∧
  (∀ (i : Nat) (e : Entry) (u : State) (s : State), s.due .l i e → e.etype = 2 → u = (s.atEntry .l i e).decideDue →
    u.gmb[e.task].isOpen = true → u.gmb[e.task].overdue = true → Gives (.commitEntry i) s u) ∧
  (∀ (i : Nat) (e : Entry) (s : State), (s.track .l)[i]? = some e → e.etype = 2 → s.seqr.state = .run → s.time.hold = none
    → s.time.begun = true → e.active s.roundRsn = true → s.enabled .l e = true → Does (.rerunSelect i) s fun t =>
    t.seqr.rerun.getLsbD e.task.val = (s.gmb[e.task].result != some true) ∧ (∀ k : Fin 16, k ≠ e.task →
    t.seqr.rerun.getLsbD k.val = s.seqr.rerun.getLsbD k.val) ∧ t.mem = s.mem ∧ t.lanes = s.lanes ∧ t.gmb = s.gmb) ∧
  (∀ (i : Nat) (e : Entry) (s : State), s.due .l i e → s.isWindow e = true → ((s.atEntry .l i e).freeLane
    e.lane).lanes[e.lane].state = .running → bit (((s.atEntry .l i e).freeLane e.lane).reg Reg.bsqBgEn) e.lane = true →
    Gives (.bgResume i) s (((s.atEntry .l i e).freeLane e.lane).resumeJob e.lane (((s.atEntry .l i e).freeLane
    e.lane).startOf e) (((s.atEntry .l i e).freeLane e.lane).startOf e + BitVec.ofNat 64 (e.dur * 50)))) ∧
  (∀ (i : Nat) (e : Entry) (s : State), s.due .l i e → s.isWindow e = true → s.lanes[e.lane].state = .running ∧
    s.lanes[e.lane].ply = none ∧ s.lanes[e.lane].act = .none ∧ s.lanes[e.lane].deferred = false → s.poison = [] → bits
    (s.jobWord e.lane) 1 0 = 1 → bit (s.reg Reg.bsqBgEn) e.lane = true → Does (.bgResume i) s fun t => t.lanes[e.lane].act
    = .job ∧ t.lanes[e.lane].main = s.savedCore e.lane ∧ t.lanes[e.lane].window = s.startOf e + BitVec.ofNat 64 (e.dur *
    50) ∧ t.mem = s.mem ∧ t.lanes[e.lane].actAt t.opNs = .busy ∧ (∀ m : Fin 16, m ≠ e.lane → t.lanes[m] = (s.atEntry .l i
    e).lanes[m])) ∧
  (∀ (n : Fin 16) (s : State), s.lanes[n].act = .job → Does (.bgPreempt n false) s fun t => t.lanes[n].act = .none ∧
    t.lanes[n].saving t.opNs = true ∧ t.lanes[n].actAt t.opNs = .busy ∧ (∀ m : Fin 16, m ≠ n → t.lanes[m] = s.lanes[m])) ∧
  (∀ (n : Fin 16) (a : Nat) (s : State), s.lanes[n].act = .job → a = laneBase n + s.saveArea → s.mem.wf = true → Does
    (.bgPreempt n false) s fun t => t.mem.word a = s.lanes[n].jobStat ∧ (∀ i : Fin 32, i ≠ 0 → t.mem.word (a + 4 * i) =
    s.lanes[n].main.get (BitVec.ofFin i)) ∧ t.mem.word (a + 128) = s.lanes[n].main.pc ∧ t.mem.word (a + 132) =
    s.lanes[n].main.qa.setWidth 32 ∧ t.mem.word (a + 136) = s.lanes[n].main.tc ∧ ∀ b, b < a ∨ a + 256 ≤ b → t.mem.byte b =
    s.mem.byte b) ∧
  (∀ (n : Fin 16) (s : State), s.lanes[n].act = .job → Does (.bgPreempt n true) s fun t => t.lanes[n].act = .none ∧
    t.lanes[n].saving t.opNs = true ∧ t.lanes[n].deferred = true ∧ t.fld Reg.bsqBgFault n n = 1) ∧
  (∀ (n : Fin 16) (s : State), s.lanes[n].act = .job → Does (.bgSaveAbort n) s fun t => t.lanes[n].act = .none ∧ bit (t.reg
    Reg.bsqBgEn) n = false ∧ bit (t.reg Reg.bsqBgFault) n = true)

/-- A comparison line that differs while lane n compares it, in a module state other than BENCH: the lane is BARRED and waits for its bar sequence, its work is stopped, the other lanes are as before, its bit of the pending BSQ_MASK is set, and CMP_LAST names the point of the line. In BENCH a lane in state BENCH is halted and keeps that state. A dual-rail disagreement bears a lane off, with CMP_BORNE and CMP_BAR RAIL set. The bar sequence of a barred lane begins with LBIST (PHASE 1, 20,000 pips); a pass goes on with the roll segment (PHASE 2, 1,300 pips), a failure bears the lane off with bit 2; a roll that passes ends the bar, one that fails bears the lane off with bit 3. The power-on test ends the same way, a pass leaving the lane's state. (Details of the bar sequence and of the power-on test are assumption 41, CMP_LAST at a dual-rail disagreement is assumption 96.) -/
def Obligations.Lockstep : Prop :=
  (∀ (n : Fin 16) (line : Fin 216) (pc : BitVec 20) (s : State), s.comparing n line = true → s.state ≠ .bench → Does
    (.lockstepMismatch n line pc) s fun t => t.lanes[n].state = .barred ∧ t.lanes[n].test = .awaiting ∧ t.lanes[n].act =
    .none ∧ (∀ m : Fin 16, m ≠ n → t.lanes[m] = s.lanes[m]) ∧ t.fld (Reg.bank n Reg.cmpLast) 3 0 = linePoint line ∧
    t.seqr.pending.getLsbD n.val = true) ∧
  (∀ (n : Fin 16) (line : Fin 216) (pc : BitVec 20) (s : State), s.comparing n line = true → s.state = .bench →
    s.lanes[n].state = .bench → Does (.lockstepMismatch n line pc) s fun t => t.lanes[n].state = .bench ∧ t.lanes[n].halted
    = true ∧ t.lanes[n].act = .none ∧ (∀ m : Fin 16, m ≠ n → t.lanes[m] = s.lanes[m]) ∧ t.fld (Reg.bank n Reg.cmpLast) 3 0
    = linePoint line) ∧
  (∀ (n : Fin 16) (b : Bool) (s : State), s.lanes[n].state ≠ .borneOff → s.domainUp (4 + n.val / 4) = true → Does
    (.dualRailDisagree n b) s fun t => t.lanes[n].state = .borneOff ∧ t.lanes[n].test = .none ∧ bit (t.reg (Reg.bank n
    Reg.cmpBar)) 5 = true ∧ bit (t.reg Reg.cmpBorne) n = true) ∧
  (∀ (n : Fin 16) (s : State), s.lanes[n].test = .awaiting → s.lanes[n].state = .barred → s.lanes[n].ply = none → Does
    (.barSequenceStart n) s fun t => t.lanes[n].test = .lbist ∧ t.fld (Reg.bank n Reg.cmpBar) 1 0 = 1 ∧ t.lanes[n].testEnd
    = t.opNs + 1000000 ∧ t.fld (Reg.bank n Reg.cmpHist) 31 16 = min 0xFFFF (s.fld (Reg.bank n Reg.cmpHist) 31 16 + 1)) ∧
  (∀ (n : Fin 16) (s : State), s.lanes[n].test = .lbist → (Does (.barLbistDone n true) s fun t => t.lanes[n].test = .roll ∧
    t.fld (Reg.bank n Reg.cmpBar) 1 0 = 2 ∧ t.lanes[n].testEnd = s.lanes[n].testEnd + 65000) ∧ (Does (.barLbistDone n
    false) s fun t => t.lanes[n].state = .borneOff ∧ t.lanes[n].test = .none ∧ bit (t.reg (Reg.bank n Reg.cmpBar)) 2 =
    true)) ∧
  (∀ (n : Fin 16) (line : BitVec 8) (s : State), s.lanes[n].test = .roll → Gives (.barRollDone n .pass) s ((s.waitOp
    s.lanes[n].testEnd).barPassed n) ∧ Does (.barRollDone n (.silent line)) s fun t => t.lanes[n].state = .borneOff ∧ bit
    (t.reg (Reg.bank n Reg.cmpBar)) 3 = true) ∧
  (∀ (n : Fin 16) (line : BitVec 8) (s : State), s.lanes[n].test = .powerOn → (Does (.powerOnTestDone n true .pass) s fun t
    => t.lanes[n].test = .none ∧ t.lanes[n].state = s.lanes[n].state) ∧ (Does (.powerOnTestDone n false .pass) s fun t =>
    t.lanes[n].state = .borneOff ∧ bit (t.reg (Reg.bank n Reg.cmpBar)) 2 = true) ∧ (Does (.powerOnTestDone n true (.silent
    line)) s fun t => t.lanes[n].state = .borneOff ∧ bit (t.reg (Reg.bank n Reg.cmpBar)) 3 = true))

/-- With SEQ released, in module state BENCH and on a lane neither barred nor borne off: CLAIM and RELEASE wait for the next boundary, where the lane enters BENCH, or leaves it for RUNNING or IDLE; HALT sets the debug halt and raises DBG_HALT, RESUME clears the halt, and neither changes another lane or memory; STEP issues one instruction of a lane that has work and leaves it halted. (That HALT is taken on any such lane, that RELEASE clears the halt, and that CLAIM of a claimed lane, RELEASE of another and STEP without work change nothing, are the model's readings, assumption 42.) In another state, or on a lane barred or borne off, they log 0x0005. A write of CMP_DBG_REG_DATA writes the selected register of both copies of a halted lane, else it logs 0x0005. -/
def Obligations.DebugAccess : Prop :=
  (∀ (n : Fin 16) (s : State), s.domainUp 2 = true → s.state = .bench → s.lanes[n].state ≠ .barred ∧ s.lanes[n].state ≠
    .borneOff → s.lanes[n].state ≠ .bench → Does (.claim n) s fun t => t.lanes[n].benchReq = .claim ∧ t.lanes[n].state =
    s.lanes[n].state) ∧
  (∀ (n : Fin 16) (s : State), s.domainUp 2 = true → s.state = .bench → s.lanes[n].state ≠ .barred ∧ s.lanes[n].state ≠
    .borneOff → s.lanes[n].state = .bench → Does (.release n) s fun t => t.lanes[n].benchReq = .release ∧ t.lanes[n].state
    = .bench) ∧
  (∀ (n : Fin 16) (s : State), s.lanes[n].benchReq = .claim → s.lanes[n].state = .idle ∨ s.lanes[n].state = .running → Does
    (.laneBenchChangeApply n) s fun t => t.lanes[n].state = .bench ∧ t.lanes[n].benchReq = .none) ∧
  (∀ (n : Fin 16) (s : State), s.lanes[n].benchReq = .release → s.lanes[n].state = .bench → Does (.laneBenchChangeApply n)
    s fun t => t.lanes[n].state = (if s.seqr.state = .run then .running else .idle) ∧ t.lanes[n].benchReq = .none ∧
    t.lanes[n].halted = false) ∧
  (∀ (n : Fin 16) (s : State), s.domainUp 2 = true → s.state = .bench → s.lanes[n].state ≠ .barred ∧ s.lanes[n].state ≠
    .borneOff → (Does (.halt n) s fun t => t.lanes[n].halted = true ∧ t.mem = s.mem ∧ (∀ m : Fin 16, m ≠ n → t.lanes[m] =
    s.lanes[m]) ∧ (bit (s.reg (Reg.pgIrqEn pCMP)) 5 = true → s.lanes[n].halted = false → bit (t.reg (Reg.pgIrq pCMP)) 5 =
    true)) ∧ Gives (.resume n) s (s.modLane n fun l => { l with halted := false })) ∧
  (∀ (n : Fin 16) (s : State), s.domainUp 2 = true → s.state = .bench → s.lanes[n].state ≠ .barred ∧ s.lanes[n].state ≠
    .borneOff → (s.executes n true = true → Does (.step n) s fun t => t = (s.issueAs n true (fetchBody n)).dbgHalt n ∧
    t.lanes[n].halted = true) ∧ (s.executes n true = false → Gives (.step n) s s)) ∧
  (∀ (n : Fin 16) (s : State), s.domainUp 2 = true → s.state = .bench → s.lanes[n].state ≠ .barred ∧ s.lanes[n].state ≠
    .borneOff → (s.lanes[n].state = .bench → Gives (.claim n) s s) ∧ (s.lanes[n].state ≠ .bench → Gives (.release n) s s)) ∧
  (∀ (n : Fin 16) (s : State), s.domainUp 2 = true → s.state ≠ .bench ∨ s.lanes[n].state = .barred ∨ s.lanes[n].state =
    .borneOff → ∀ c ∈ [Instr.claim n, .release n, .halt n, .resume n, .step n], Gives c s (s.refuse Reg.cmpDbgCmd)) ∧
  (∀ (n : Fin 16) (v : Word) (s : State), s.domainUp 2 = true → n.val = s.fld Reg.cmpDbgRegSel 3 0 → (s.lanes[n].halted =
    true → Does (.cmpDbgRegDataWrite v) s fun t => t.lanes[n].main = s.lanes[n].main.dbgSet (s.fld Reg.cmpDbgRegSel 9 4) v
    ∧ t.lanes[n].shadow = s.lanes[n].shadow.dbgSet (s.fld Reg.cmpDbgRegSel 9 4) v ∧ (∀ m : Fin 16, m ≠ n → t.lanes[m] =
    s.lanes[m])) ∧ (s.lanes[n].halted = false → Gives (.cmpDbgRegDataWrite v) s (s.refuse Reg.cmpDbgRegData)))

/-- With MEM released: an uncorrectable error in a lane memory or MRAM poisons its word, in instance memory it leaves value 0 with quality 0xC; one in DRAM poisons both words of its 64 bits (a reading, assumption 35) and counts; a corrected one counts in its page, in SRAM in IMG_SRAM_ECC and in the lane that read it (that the command also carries corrected words of SRAM is the model's choice, assumption 78); a repaired code word is written from its board or firmware and counts; a sweep that ends is counted. -/
def Obligations.MemoryErrors : Prop :=
  (∀ (a : BitVec 40) (s : State), s.domainUp 1 = true → memKind a.toNat = .mram → Gives (.sramUncorr a) s ((s.sramError
    a.toNat).poisonAt a.toNat) ∧ Does (.sramUncorr a) s fun t => t.poison.contains (a.toNat / 4 * 4) = true ∧ t.reg
    Reg.imgSramAddr = BitVec.ofNat 32 a.toNat ∧ t.mem = s.mem) ∧
  (∀ (a : BitVec 40) (n : Fin 16) (o : Nat) (s : State), s.domainUp 1 = true → memKind a.toNat = .itcm n o ∨ memKind
    a.toNat = .dtcm n o → Does (.sramUncorr a) s fun t => t.poison.contains (a.toNat / 4 * 4) = true ∧ t.mem = s.mem) ∧
  (∀ (a : BitVec 40) (o : Nat) (s : State), s.domainUp 1 = true → memKind a.toNat = .imem o → Gives (.sramUncorr a) s
    ((s.sramError a.toNat).imemPut o 0 0xC)) ∧
  (∀ (a : BitVec 40) (s : State), s.domainUp 1 = true → memKind (a.toNat / 8 * 8) = .dram → Does (.dramUncorr a) s fun t =>
    t.poison.contains (a.toNat / 8 * 8) = true ∧ t.poison.contains (a.toNat / 8 * 8 + 4) = true ∧ t.fld Reg.imgDramEcc 31
    16 = min 0xFFFF (s.fld Reg.imgDramEcc 31 16 + 1) ∧ t.mem = s.mem) ∧
  (∀ (a : BitVec 40) (l : Option (Fin 16)) (s : State), s.domainUp 1 = true → memKind a.toNat = .dram → s.fld Reg.imgCtrl
    27 24 = 0 → Does (.dramCorrectedError ⟨a, l⟩) s fun t => tget 0 t.retire.counts (a.toNat / 0x1000) = tget 0
    s.retire.counts (a.toNat / 0x1000) + 1 ∧ t.fld Reg.imgDramEcc 15 0 = min 0xFFFF (s.fld Reg.imgDramEcc 15 0 + 1) ∧ t.mem
    = s.mem) ∧
  (∀ (a : BitVec 40) (o : Nat) (n : Fin 16) (s : State), s.domainUp 1 = true → memKind a.toNat = .imem o → s.domainUp (4 +
    n.val / 4) = true → Does (.dramCorrectedError ⟨a, some n⟩) s fun t => t.fld Reg.imgSramEcc 15 0 = min 0xFFFF (s.fld
    Reg.imgSramEcc 15 0 + 1) ∧ t.fld (Reg.laneEcc n) 15 0 = min 0xFFFF (s.fld (Reg.laneEcc n) 15 0 + 1) ∧ t.mem = s.mem) ∧
  (∀ (a : BitVec 40) (n : Fin 16) (o : Nat) (b : Bytes) (s : State), memKind a.toNat = .itcm n o → s.poison.contains
    (laneBase n.val + o) = true → s.repairWord n o = some b → Gives (.codeRepairDone a) s (((s.writeMem (laneBase n.val +
    o) b).incSat Reg.imgRepair 15 0).raise pIMG 4) ∧ Does (.codeRepairDone a) s fun t => t.fld Reg.imgRepair 15 0 = min
    0xFFFF (s.fld Reg.imgRepair 15 0 + 1) ∧ t.mem = s.mem.write (laneBase n.val + o) b) ∧
  (∀ (s : State), s.domainUp 1 = true → Gives (.sramSweepEnd false) s (s.incWrap Reg.imgSweep 15 0) ∧ Does (.sramSweepEnd
    true) s fun t => t.retire.counts = [] ∧ t.fld Reg.imgSweep 31 16 = (s.fld Reg.imgSweep 31 16 + 1) % 0x10000) ∧
  (∀ (p : Nat) (r : List Nat) (s : State), s.retire.copying = p :: r → s.fld Reg.imgRetire 14 0 + 1 < sparePages → Does
    .pageRetireDone s fun t => t.retire.copying = r ∧ tget 0 t.retire.table p = s.fld Reg.imgRetire 14 0 ∧ t.fld
    Reg.imgRetire 14 0 = s.fld Reg.imgRetire 14 0 + 1)

/-- With MEM released: a write to a region register of regions 0 to 12, or of a lane whose background work is enabled, is refused with 0x0005; else it waits. At the next boundary no write waits any longer; one that waited alone and leads to no overlap has been made. MMU_INV drops the TLB entries it names and shows BUSY until it is done. -/
def Obligations.Regions : Prop :=
  (∀ (o : BitVec 12) (v : Word) (s : State), s.domainUp 1 = true → o = 0x044 ∨ o = 0x048 ∨ o = 0x04C → s.fld Reg.mmuRsel 7
    4 < 13 ∨ bit (s.reg Reg.bsqBgEn) (s.fld Reg.mmuRsel 3 0) = true → Gives (.regionWrite o v) s (s.refuse (pMMU * 0x1000 +
    o.toNat))) ∧
  (∀ (o : BitVec 12) (v : Word) (s : State), s.domainUp 1 = true → o = 0x044 ∨ o = 0x048 ∨ o = 0x04C → 13 ≤ s.fld
    Reg.mmuRsel 7 4 → bit (s.reg Reg.bsqBgEn) (s.fld Reg.mmuRsel 3 0) = false → Does (.regionWrite o v) s fun t =>
    t.regionW.contains (s.keyOf pMMU o.toNat, v &&& regionMask o.toNat) = true ∧ t.regs = s.regs) ∧
  (∀ (s : State), s.regionW ≠ [] → Does .regionTakeEffect s fun t => t.regionW = [] ∧ t.mem = s.mem ∧ t.lanes = s.lanes) ∧
  (∀ (k : Nat) (v : Word) (s : State), s.regionW = [(k, v)] → (s.atBoundary.setReg k v).regionClash (k / 0x100000) = false
    → Does .regionTakeEffect s fun t => t = { (s.atBoundary.setReg k v) with regionW := [] }) ∧
  (∀ (v : Word) (s : State), s.domainUp 1 = true → Does (.mmuInv v) s fun t => t.tlb = s.tlb.filter (fun e => !(bit v 4 ||
    e.ctx == bits v 3 0)) ∧ t.fld Reg.mmuInvStat 0 0 = 1 ∧ t.mem = s.mem) ∧
  (∀ (s : State), s.fld Reg.mmuInvStat 0 0 = 1 → Does .mmuInvDone s fun t => t.fld Reg.mmuInvStat 0 0 = 0 ∧ t.tlb = s.tlb)

/-- With MEM released: a head within the ring's size of the tail is taken, any other logs 0x0101; a new configuration with SIZE 0, or a power of two from 16 to 65,536 in page-aligned background memory with an allowed CTX, clears head and tail and marks a halted descriptor ABORTED; any other SIZE leaves the registers and logs 0x0102; a ring with a running descriptor refuses it. A mover takes the next ready ring, a descriptor that was resumed goes on. The descriptor ends with its status and length, the tail moves on; a page fault halts the ring with its code; RESUME goes on, SKIP ends it with its code; both log 0x0005 when the ring is idle or runs a descriptor that is not halted. (When RESUME and SKIP find a descriptor, and the INFO of 0x0102, are assumption 36.) -/
def Obligations.Rings : Prop :=
  (∀ (r : Fin 64) (v : Word) (s : State), s.domainUp 1 = true → 0 ≤ (v - s.reg (Reg.ringTail r)).toInt → (v - s.reg
    (Reg.ringTail r)).toInt ≤ s.ringSize r → Gives (.ringHeadWrite r v) s (s.setReg (Reg.ringHead r) v)) ∧
  (∀ (r : Fin 64) (v : Word) (s : State), s.domainUp 1 = true → (v - s.reg (Reg.ringTail r)).toInt < 0 ∨ (s.ringSize r :
    Int) < (v - s.reg (Reg.ringTail r)).toInt → Gives (.ringHeadWrite r v) s (s.logErr (pRING r) 0x0101 v)) ∧
  (∀ (r : Fin 64) (o : BitVec 12) (v : Word) (u : State) (s : State), s.domainUp 1 = true → o = 0x040 ∨ o = 0x044 ∨ o =
    0x048 → u = s.setReg (pRING r * 0x1000 + o.toNat) (v &&& ringCfgMask o.toNat) → s.descOf r.val = none → u.ringSize r =
    0 ∨ (u.ringSize r ∈ (List.range 13).map (fun k => 16 * 2 ^ k) ∧ u.ringBase r % 0x1000 = 0 ∧ bgMem ≤ u.ringBase r ∧
    u.ringBase r + 32 * u.ringSize r ≤ sparePool ∧ u.ringCtx r ≠ 0 ∧ (bit (u.reg (Reg.ringCfg r)) 23 = true → u.ringCtx r ≠
    15)) → Does (.ringCfgWrite r o v) s fun t => t.reg (Reg.ringHead r) = 0 ∧ t.reg (Reg.ringTail r) = 0 ∧ t.reg (pRING r *
    0x1000 + o.toNat) = v &&& ringCfgMask o.toNat ∧ t.mem = s.mem ∧ t.descs = s.descs) ∧
  (∀ (r : Fin 64) (o : BitVec 12) (v : Word) (u : State) (s : State), s.domainUp 1 = true → o = 0x040 ∨ o = 0x044 ∨ o =
    0x048 → u = s.setReg (pRING r * 0x1000 + o.toNat) (v &&& ringCfgMask o.toNat) → (s.descOf r.val).all (fun d =>
    d.halt.isSome) = true → u.ringSize r ≠ 0 → ¬ (u.ringSize r ∈ (List.range 13).map (fun k => 16 * 2 ^ k) ∧ u.ringBase r %
    0x1000 = 0 ∧ bgMem ≤ u.ringBase r ∧ u.ringBase r + 32 * u.ringSize r ≤ sparePool ∧ u.ringCtx r ≠ 0 ∧ (bit (u.reg
    (Reg.ringCfg r)) 23 = true → u.ringCtx r ≠ 15)) → Gives (.ringCfgWrite r o v) s ((s.logErr (pRING r) 0x0102 0).logErr
    pMMU 0x0102 0) ∧ Does (.ringCfgWrite r o v) s fun t => t.reg (Reg.ringHead r) = s.reg (Reg.ringHead r) ∧ t.reg
    (Reg.ringTail r) = s.reg (Reg.ringTail r) ∧ t.reg (pRING r * 0x1000 + o.toNat) = s.reg (pRING r * 0x1000 + o.toNat)) ∧
  (∀ (r : Fin 64) (o : BitVec 12) (v : Word) (d : DescRun) (code : Nat) (u : State) (s : State), s.domainUp 1 = true → o =
    0x040 ∨ o = 0x044 ∨ o = 0x048 → u = s.setReg (pRING r * 0x1000 + o.toNat) (v &&& ringCfgMask o.toNat) → s.descOf r.val
    = some d → d.halt = some code → s.mem.wf = true → u.ringSize r = 0 ∨ (u.ringSize r ∈ (List.range 13).map (fun k => 16 *
    2 ^ k) ∧ u.ringBase r % 0x1000 = 0 ∧ bgMem ≤ u.ringBase r ∧ u.ringBase r + 32 * u.ringSize r ≤ sparePool ∧ u.ringCtx r
    ≠ 0 ∧ (bit (u.reg (Reg.ringCfg r)) 23 = true → u.ringCtx r ≠ 15)) → Does (.ringCfgWrite r o v) s fun t => t.mem.word
    (s.descAddr r (s.reg (Reg.ringTail r)).toNat + 0x18) = 5 ∧ t.descOf r = none ∧ t.reg (Reg.ringHead r) = 0 ∧ t.reg
    (Reg.ringTail r) = 0 ∧ t.reg (pRING r * 0x1000 + o.toNat) = v &&& ringCfgMask o.toNat) ∧
  (∀ (r : Fin 64) (o : BitVec 12) (v : Word) (d : DescRun) (s : State), s.domainUp 1 = true → o = 0x040 ∨ o = 0x044 ∨ o =
    0x048 → s.descOf r.val = some d → d.halt = none → Gives (.ringCfgWrite r o v) s (s.refuse (pRING r * 0x1000 +
    o.toNat))) ∧
  (∀ (m : Fin 4) (r : Nat) (s : State), s.domainUp 1 = true → s.descs.any (fun d => d.mover == some m.val) = false →
    s.nextRing = some r → Does (.descriptorStart m) s fun t => (s.descOf r = none → t.descOf r = some ⟨r, some m.val, 0,
    s.opNs, none, 0⟩) ∧ (∀ d, s.descOf r = some d → t.descOf r = some { d with mover := some m.val, doneAt := s.opNs }) ∧
    t.regs = s.regs ∧ t.mem = s.mem) ∧
  (∀ (r : Fin 64) (x : DescRun) (d : Desc) (s : State), s.activeDesc r.val = some (x, d) → d.bad = true → Gives
    (.descriptorComplete r) s ((s.endDesc r 4 4 0 d.irq).raise (pRING r) 2) ∧ Does (.descriptorComplete r) s fun t => t.reg
    (Reg.ringTail r) = s.reg (Reg.ringTail r) + 1 ∧ t.fld (Reg.ringStat r) 3 0 = 4 ∧ t.descOf r = none) ∧
  (∀ (r : Fin 64) (x : DescRun) (d : Desc) (s : State), s.activeDesc r.val = some (x, d) → d.bad = false → d.len = 0 →
    Gives (.descriptorComplete r) s (s.endDesc r 1 1 0 d.irq) ∧ Does (.descriptorComplete r) s fun t => t.reg (Reg.ringTail
    r) = s.reg (Reg.ringTail r) + 1 ∧ t.fld (Reg.ringStat r) 3 0 = 1 ∧ t.descOf r = none) ∧
  (∀ (r : Fin 64) (x : DescRun) (d : Desc) (t : State) (k : Nat) (s : State), s.activeDesc r.val = some (x, d) → d.bad =
    false → d.len ≠ 0 → s.workDesc x = (t, k, .ok) → Gives (.descriptorComplete r) s (t.endDesc r 1 1 k d.irq) ∧ Does
    (.descriptorComplete r) s fun u => u.reg (Reg.ringTail r) = t.reg (Reg.ringTail r) + 1 ∧ u.fld (Reg.ringStat r) 3 0 = 1
    ∧ u.descOf r = none) ∧
  (∀ (r : Fin 64) (x : DescRun) (d : Desc) (t : State) (k code va : Nat) (side : Bool) (s : State), s.activeDesc r.val =
    some (x, d) → d.bad = false → d.len ≠ 0 → s.workDesc x = (t, k, .fault code side va) → Does (.ringPageFault r) s fun u
    => (u.descOf r).map (fun y => (y.mover, y.done, y.halt)) = some (none, k, some code) ∧ u.reg Reg.mmuFaultVa =
    BitVec.ofNat 32 va ∧ u.fld (Reg.ringStat r) 4 4 = 1 ∧ u.reg (Reg.ringTail r) = t.reg (Reg.ringTail r)) ∧
  (∀ (r : Fin 64) (d : DescRun) (code : Nat) (s : State), s.domainUp 1 = true → s.descOf r.val = some d → d.halt = some
    code → (Does (.ringCmdResume r) s fun t => t.descOf r = some { d with halt := none, status := 0, doneAt := s.opNs } ∧
    t.fld (Reg.ringStat r) 4 4 = 0) ∧ Does (.ringCmdSkip r) s fun t => t.descOf r = none ∧ t.reg (Reg.ringTail r) = s.reg
    (Reg.ringTail r) + 1 ∧ t.fld (Reg.ringStat r) 3 0 = code % 16) ∧
  (∀ (r : Fin 64) (s : State), s.domainUp 1 = true → (s.descOf r.val).all (fun d => d.halt.isNone) = true → Gives
    (.ringCmdResume r) s (s.refuse (Reg.ringCmd r)) ∧ Gives (.ringCmdSkip r) s (s.refuse (Reg.ringCmd r)))

/-- With no board command running, VERIFY starts, STORE starts unless STANDBY is ARMED, ARM and DISCARD when it is STORED (ARM with no migration running), DISARM when it is ARMED, ACTIVATE in BOOT when it is STORED, ARM and ACTIVATE unless an essential domain has failed; a STORE of a board that passes its check leaves the standby area EMPTY from its start (the check and the first flash write at the command are the model's choice, assumption 72); otherwise the command logs 0x0005 and its result is 0x0005. While a command runs every other logs 0x0005 only. VERIFY leaves what the check of the staged board finds; STORE of a board that passes makes it the standby board, STORED, or EMPTY when the flash fails; ARM and ACTIVATE take effect when the standby board passes; DISARM leaves STORED, DISCARD EMPTY (with CODE 0 also when the flash write fails: the model's choice, assumption 70). A check that fails is counted, logged with its code and given as the result. The load at reset installs a board that passes; one that fails leaves no board, and BRD_RESULT as it was (the model's choice, assumption 31). An engine that is wedged ends nothing. -/
def Obligations.BoardCommands : Prop :=
  (∀ (s : State), s.domainUp 2 = true → s.boards.running = none → Does .brdCmdVerify s fun t => t = s.boardRuns .verify ∧
    t.boards.running = some .verify ∧ t.boards.writing = [] ∧ t.boards.standby = s.boards.standby ∧ t.regs = s.regs) ∧
  (∀ (s : State), s.domainUp 2 = true → s.boards.running = none → s.boards.standby ≠ .armed → s.stagedCheck.isSome = true →
    Does .brdCmdStore s fun t => t = s.boardRuns .store ∧ t.boards.running = some .store ∧ t.boards.writing = [] ∧
    t.boards.standby = s.boards.standby ∧ t.regs = s.regs) ∧
  (∀ (s : State), s.domainUp 2 = true → s.boards.running = none → s.boards.standby = .stored → s.migr = none →
    s.essentialFailed = false → Does .brdCmdArm s fun t => t = s.boardRuns .arm ∧ t.boards.running = some .arm ∧
    t.boards.writing = [] ∧ t.boards.standby = s.boards.standby ∧ t.regs = s.regs) ∧
  (∀ (s : State), s.domainUp 2 = true → s.boards.running = none → s.boards.standby = .armed → Does .brdCmdDisarm s fun t =>
    t = s.boardRuns .disarm ∧ t.boards.running = some .disarm ∧ t.boards.writing = [] ∧ t.boards.standby = s.boards.standby
    ∧ t.regs = s.regs) ∧
  (∀ (s : State), s.domainUp 2 = true → s.boards.running = none → s.boards.standby = .stored → Does .brdCmdDiscard s fun t
    => t = s.boardRuns .discard ∧ t.boards.running = some .discard ∧ t.boards.writing = [] ∧ t.boards.standby =
    s.boards.standby ∧ t.regs = s.regs) ∧
  (∀ (s : State), s.domainUp 2 = true → s.boards.running = none → s.state = .boot → s.boards.standby = .stored →
    s.essentialFailed = false → Does .brdCmdActivate s fun t => t = s.boardRuns .activate ∧ t.boards.running = some
    .activate ∧ t.boards.writing = [] ∧ t.boards.standby = s.boards.standby ∧ t.regs = s.regs) ∧
  (∀ (s : State), s.domainUp 2 = true → s.boards.running = none → s.boards.standby ≠ .armed → s.stagedCheck = none → Does
    .brdCmdStore s fun t => t.boards.running = some .store ∧ t.boards.writing = s.stagedBoard ∧ t.boards.standby = .empty ∧
    t.boards.standbyArea = [] ∧ t.boards.stb = none ∧ t.regs = s.regs ∧ t.mem = s.mem) ∧
  (∀ (s : State), s.domainUp 2 = true → s.boards.running = none → s.boards.standby = .armed → Gives .brdCmdStore s
    ((s.refuse Reg.brdCmd).boardResult 0x0005 0x040)) ∧
  (∀ (s : State), s.domainUp 2 = true → s.boards.running = none → s.boards.standby ≠ .stored ∨ s.migr.isSome = true ∨
    s.essentialFailed = true → Gives .brdCmdArm s ((s.refuse Reg.brdCmd).boardResult 0x0005 0x040)) ∧
  (∀ (s : State), s.domainUp 2 = true → s.boards.running = none → s.boards.standby ≠ .armed → Gives .brdCmdDisarm s
    ((s.refuse Reg.brdCmd).boardResult 0x0005 0x040)) ∧
  (∀ (s : State), s.domainUp 2 = true → s.boards.running = none → s.boards.standby ≠ .stored → Gives .brdCmdDiscard s
    ((s.refuse Reg.brdCmd).boardResult 0x0005 0x040)) ∧
  (∀ (s : State), s.domainUp 2 = true → s.boards.running = none → s.state ≠ .boot ∨ s.boards.standby ≠ .stored ∨
    s.essentialFailed = true → Gives .brdCmdActivate s ((s.refuse Reg.brdCmd).boardResult 0x0005 0x040)) ∧
  (∀ (op : BrdOp) (c : Instr) (s : State), s.domainUp 2 = true → s.boards.running = some op → c ∈ [Instr.brdCmdVerify,
    .brdCmdStore, .brdCmdArm, .brdCmdDisarm, .brdCmdDiscard, .brdCmdActivate] → Gives c s (s.refuse Reg.brdCmd)) ∧
  (∀ (r w : Bool) (s : State), s.boards.running = some .verify → s.wedged.contains pBRD = false → Gives (.brdCmdDone r w) s
    ((s.boardIdle.finishCheck (s.boardIdle.commandCheck s.stagedBoard (s.reg Reg.brdStgLen).toNat false false)
    id).endBoardClaim)) ∧
  (∀ (r w : Bool) (f : Nat × Nat) (s : State), s.boards.running = some .store → s.wedged.contains pBRD = false →
    s.boards.writing = [] → s.boardIdle.commandCheck s.stagedBoard (s.reg Reg.brdStgLen).toNat false false = some f → Gives
    (.brdCmdDone r w) s ((s.boardIdle.finishCheck (some f) id).endBoardClaim)) ∧
  (∀ (r : Bool) (b : Bytes) (s : State), s.boards.running = some .store → s.wedged.contains pBRD = false → b ≠ [] →
    s.boards.writing = b → (Does (.brdCmdDone r false) s fun t => t.boards.standby = .stored ∧ t.boards.standbyArea = b ∧
    t.fld Reg.brdResult 15 0 = 0 ∧ t.boards.running = none) ∧ Does (.brdCmdDone r true) s fun t => t.boards.standby =
    .empty ∧ t.boards.standbyArea = [] ∧ t.boards.running = none) ∧
  (∀ (r : Bool) (s : State), s.boards.running = some .store → s.wedged.contains pBRD = false → s.boards.writing = [] →
    s.boardIdle.commandCheck s.stagedBoard (s.reg Reg.brdStgLen).toNat false false = none → (Does (.brdCmdDone r false) s
    fun t => t.boards.standby = .stored ∧ t.boards.standbyArea = s.stagedBoard ∧ t.fld Reg.brdResult 15 0 = 0 ∧
    t.boards.running = none) ∧ Does (.brdCmdDone r true) s fun t => t.boards.standby = .empty ∧ t.boards.standbyArea = [] ∧
    t.boards.running = none) ∧
  (∀ (r w : Bool) (s : State), s.boards.running = some .arm → s.wedged.contains pBRD = false → Gives (.brdCmdDone r w) s
    (s.boardIdle.finishCheck (s.boardIdle.commandCheck s.boards.standbyArea s.boards.standbyArea.length true r)
    State.armBoard)) ∧
  (∀ (r w : Bool) (s : State), s.boards.running = some .activate → s.wedged.contains pBRD = false → Gives (.brdCmdDone r w)
    s (s.boardIdle.finishCheck (s.boardIdle.commandCheck s.boards.standbyArea s.boards.standbyArea.length false r)
    State.activateBoard)) ∧
  (∀ (r w : Bool) (s : State), s.boards.running = some .disarm → s.wedged.contains pBRD = false → Does (.brdCmdDone r w) s
    fun t => t.boards.standby = .stored ∧ t.boards.stb = none ∧ t.boards.standbyArea = s.boards.standbyArea ∧ t.fld
    Reg.brdResult 15 0 = 0 ∧ t.mem = s.mem) ∧
  (∀ (r w : Bool) (s : State), s.boards.running = some .discard → s.wedged.contains pBRD = false → Does (.brdCmdDone r w) s
    fun t => t.boards.standby = .empty ∧ t.boards.standbyArea = [] ∧ t.fld Reg.brdResult 15 0 = 0 ∧ t.mem = s.mem) ∧
  (∀ (op : BrdOp) (r w : Bool) (s : State), s.boards.running = some op → s.wedged.contains pBRD = true → Gives (.brdCmdDone
    r w) s s) ∧
  (∀ (r : Bool) (s : State), s.state = .boot → s.domainUp 1 = true ∧ s.domainUp 2 = true → s.essentialFailed = false →
    s.boards.loadDue = true → s.boards.activeArea ≠ [] → s.boards.running = none → s.commandCheck s.boards.activeArea
    s.boards.activeArea.length false r = none → Gives (.boardLoadAtReset r) s (s.installBoard s.boards.activeArea) ∧ Does
    (.boardLoadAtReset r) s fun t => t.boards.active = .loaded ∧ t.boards.act = some (parseBoard s.boards.activeArea) ∧
    t.boards.activeArea = s.boards.activeArea ∧ t.boards.loadDue = false) ∧
  (∀ (r : Bool) (f : Nat × Nat) (s : State), s.state = .boot → s.domainUp 1 = true ∧ s.domainUp 2 = true →
    s.essentialFailed = false → s.boards.loadDue = true → s.boards.activeArea ≠ [] → s.boards.running = none →
    s.commandCheck s.boards.activeArea s.boards.activeArea.length false r = some f → Does (.boardLoadAtReset r) s fun t =>
    t.boards.active = .none ∧ t.boards.act = none ∧ t.boards.loadDue = false ∧ t.reg Reg.brdInfo = BitVec.ofNat 32 f.2 ∧
    t.reg Reg.brdResult = s.reg Reg.brdResult ∧ t.mem = s.mem) ∧
  (∀ (r : Bool) (s : State), s.state = .boot → s.domainUp 1 = true ∧ s.domainUp 2 = true → s.essentialFailed = false →
    s.boards.loadDue = true → s.boards.activeArea = [] → s.boards.running = none → Does (.boardLoadAtReset r) s fun t =>
    t.boards.active = .none ∧ t.boards.act = none ∧ t.boards.loadDue = false ∧ t.regs = s.regs)

/-- With SEQ released CHANGE is taken when nothing refuses it, with the switch round and the standby board's identity; otherwise it logs 0x0005. Until 4 rounds before S it stays undecided; then a leader takes it when the partner accepted or it runs alone, else drops it, and a Follower takes the one that the leader has committed. At S the standby board becomes the active one, the translations of the host contexts are dropped and their invalidation begins, and SWITCHED is raised. CONVERT lines end in the round after the switch, and the migration ends once they have. A PROPOSE to a Follower with the same active board and the armed board of the same identity is accepted, any other is refused; ACCEPT and REFUSE mark the leader's undecided change of that round, COMMIT a Follower's; CANCEL drops a change that is not decided. (What counts as agreed, and the reasons and records of a change, are assumptions 15, 16 and 105.) -/
def Obligations.OnlineChange : Prop :=
  (∀ (s : State), s.domainUp 2 = true → s.changeRefusal = 0 → Does .pairCmdChange s fun t => t.pair.change = some
    ⟨s.switchRound, s.standbyId, false, false, s.partnerOut, false, none⟩ ∧ t.regs = s.regs) ∧
  (∀ (s : State), s.domainUp 2 = true → s.changeRefusal ≠ 0 → Does .pairCmdChange s fun t => t.pair.change = s.pair.change
    ∧ t.regs = (s.refuse Reg.pairCmd).regs) ∧
  (∀ (x : ChangeRun) (s : State), s.pair.change = some x → x.decided = none → later (x.s - 4) s.atBoundary.rsn = false →
    s.state = .leader → (x.accepted = true ∨ s.atBoundary.changeAlone x = true → Does .changeDecision s fun t =>
    t.pair.change = some { x with decided := some true }) ∧ (x.accepted = false → s.atBoundary.changeAlone x = false → Does
    .changeDecision s fun t => t.pair.change = none)) ∧
  (∀ (x : ChangeRun) (old new : Tables) (s : State), s.pair.change = some x → x.decided = some true → s.atBoundary.rsn =
    x.s → s.boards.standby = .armed → s.boards.act = some old → s.boards.stb = some new → Does .onlineChangeSwitch s fun t
    => t.boards.act = some new ∧ t.boards.stb = none ∧ t.boards.activeArea = s.boards.standbyArea ∧ t.boards.standbyArea =
    s.boards.activeArea ∧ t.pair.change = none ∧ t.fld Reg.movInst 0 0 = 1 - s.fld Reg.movInst 0 0 ∧ t.fld Reg.mmuInvStat 0
    0 = 1 ∧ t.tlb = s.tlb.filter (fun x => x.ctx == 0 || decide (8 < x.ctx)) ∧ (bit (s.reg (Reg.pgIrqEn pBRD)) 2 = true →
    bit (t.reg (Reg.pgIrq pBRD)) 2 = true)) ∧
  (∀ (m : Migration) (r : Word) (s : State), s.migr = some m → s.seqr.switched = some r → m.convDone = false → later
    s.atBoundary.rsn r = true → Does .convertRoundEnd s fun t => t.migr.map (fun n => n.convDone) = some true) ∧
  (∀ (m : Migration) (s : State), s.migr = some m → m.convDone = true → Does .migrationDone s fun t => t.migr = none) ∧
  (∀ (x : ChangeRun) (s : State), s.pair.change = some x → x.decided = none → (later (x.s - 4) s.atBoundary.rsn = true →
    Gives .changeDecision s s) ∧ (later (x.s - 4) s.atBoundary.rsn = false → s.state = .follower → x.commit = true → Does
    .changeDecision s fun t => t.pair.change = some { x with decided := some true }) ∧ (later (x.s - 4) s.atBoundary.rsn =
    false → s.state = .follower → x.commit = false → Does .changeDecision s fun t => t.pair.change = none)) ∧
  (∀ (lane : Fin 4) (msg : Bytes) (s : State), s.gets 3 msg → leAt (dunlyBody msg) 0 1 = 1 → s.state = .follower → blockId
    s.pair.partner = s.activeId.take 8 → s.boards.standby = .armed → s.standbyId = slice (dunlyBody msg) 8 48 → Does
    (.chgProposeRx lane msg) s fun t => t.pair.change = some ⟨BitVec.ofNat 32 (leAt (dunlyBody msg) 4 4), slice (dunlyBody
    msg) 8 48, true, false, false, false, none⟩) ∧
  (∀ (lane : Fin 4) (msg : Bytes) (s : State), s.gets 3 msg → leAt (dunlyBody msg) 0 1 = 1 → s.state = .follower → blockId
    s.pair.partner = s.activeId.take 8 → s.boards.standby ≠ .armed ∨ s.standbyId ≠ slice (dunlyBody msg) 8 48 → Gives
    (.chgProposeRx lane msg) s ((s.taken lane msg).sendChg 3 4 (BitVec.ofNat 32 (leAt (dunlyBody msg) 4 4)) (slice
    (dunlyBody msg) 8 48))) ∧
  (∀ (lane : Fin 4) (msg : Bytes) (s : State), s.gets 3 msg → leAt (dunlyBody msg) 0 1 = 1 → s.state = .follower → blockId
    s.pair.partner ≠ s.activeId.take 8 → Gives (.chgProposeRx lane msg) s ((s.taken lane msg).sendChg 3 1 (BitVec.ofNat 32
    (leAt (dunlyBody msg) 4 4)) (slice (dunlyBody msg) 8 48))) ∧
  (∀ (x : ChangeRun) (lane : Fin 4) (msg : Bytes) (s : State), s.gets 3 msg → s.state = .leader → s.pair.change = some x →
    x.decided = none → leAt (dunlyBody msg) 4 4 = x.s.toNat → (leAt (dunlyBody msg) 0 1 = 2 → Does (.chgAcceptRx lane msg)
    s fun t => t.pair.change = some { x with accepted := true }) ∧ (leAt (dunlyBody msg) 0 1 = 3 → Does (.chgRefuseRx lane
    msg) s fun t => t.pair.change = some { x with refused := true })) ∧
  (∀ (x : ChangeRun) (lane : Fin 4) (msg : Bytes) (s : State), s.gets 3 msg → s.state ≠ .leader → s.pair.change = some x →
    x.decided = none → leAt (dunlyBody msg) 4 4 = x.s.toNat → (leAt (dunlyBody msg) 0 1 = 4 → Does (.chgCommitRx lane msg)
    s fun t => t.pair.change = some { x with commit := true }) ∧ (leAt (dunlyBody msg) 0 1 = 5 → Does (.chgCancelRx lane
    msg) s fun t => t.pair.change = none))

/-- Every receive command takes the frame at its timestamp by its own bytes: a pause frame is a stray frame; one of an EtherType other than 0x88B5 or a length outside 64 to 1,518 bytes counts as malformed; any other is heard, taken for synchronisation, and kept for every slot in whose span it starts. On a port that is not up a frame has no effect. (Which copy of a frame counts, and the layout of a pause frame, are assumption 46.) -/
def Obligations.MebaridFrames : Prop :=
  (∀ (c : Instr) (ch : Chan) (port : Fin 4) (ts : BitVec 64) (f : Bytes) (s : State), c ∈ [Instr.syncRx ch port ts f,
    .coldstartRx ch port ts f, .dataInRx ch port ts f, .peerRx ch port ts f, .joinReqRx ch port ts f, .grantRx ch port ts
    f, .announceRx ch port ts f, .dataOutRx ch port ts f, .strayFrameRx ch port ts f] → s.portIsUp (chanNum ch) port = true
    → isPause f = false → mbMalformed f = false → Gives c s ((((s.advanceTo ts).hearFrame f).syncFrame ch ts f).takeFrame
    (chanNum ch) port ts f)) ∧
  (∀ (c : Instr) (ch : Chan) (port : Fin 4) (ts : BitVec 64) (f : Bytes) (s : State), c ∈ [Instr.syncRx ch port ts f,
    .coldstartRx ch port ts f, .dataInRx ch port ts f, .peerRx ch port ts f, .joinReqRx ch port ts f, .grantRx ch port ts
    f, .announceRx ch port ts f, .dataOutRx ch port ts f, .strayFrameRx ch port ts f] → s.portIsUp (chanNum ch) port = true
    → isPause f = true → Gives c s ((s.advanceTo ts).strayFrame (chanNum ch))) ∧
  (∀ (c : Instr) (ch : Chan) (port : Fin 4) (ts : BitVec 64) (f : Bytes) (s : State), c ∈ [Instr.syncRx ch port ts f,
    .coldstartRx ch port ts f, .dataInRx ch port ts f, .peerRx ch port ts f, .joinReqRx ch port ts f, .grantRx ch port ts
    f, .announceRx ch port ts f, .dataOutRx ch port ts f, .strayFrameRx ch port ts f] → s.portIsUp (chanNum ch) port = true
    → isPause f = false → mbMalformed f = true → Does c s fun t => t.fld (Reg.mbStray (chanNum ch)) 31 16 = min 0xFFFF
    (s.fld (Reg.mbStray (chanNum ch)) 31 16 + 1) ∧ t.net = s.net) ∧
  (∀ (c : Instr) (ch : Chan) (port : Fin 4) (ts : BitVec 64) (f : Bytes) (s : State), c ∈ [Instr.syncRx ch port ts f,
    .coldstartRx ch port ts f, .dataInRx ch port ts f, .peerRx ch port ts f, .joinReqRx ch port ts f, .grantRx ch port ts
    f, .announceRx ch port ts f, .dataOutRx ch port ts f, .strayFrameRx ch port ts f] → s.portIsUp (chanNum ch) port = true
    → isPause f = false → mbMalformed f = false → s.boards.act = none → Does c s fun t => t.fld (Reg.mbStray (chanNum ch))
    15 0 = min 0xFFFF (s.fld (Reg.mbStray (chanNum ch)) 15 0 + 1) ∧ ((mbHeader f).sender ≠ s.nodeAddr → t.net =
    { s.net with heard := true } ∧ t.fld Reg.mbCold 7 4 = 0) ∧ t.mem = s.mem) ∧
  (∀ (c : Instr) (ch : Chan) (port : Fin 4) (ts : BitVec 64) (f : Bytes) (b : Tables) (r : SlotRec) (x : SlotRun) (u s :
    State), c ∈ [Instr.syncRx ch port ts f, .coldstartRx ch port ts f, .dataInRx ch port ts f, .peerRx ch port ts f,
    .joinReqRx ch port ts f, .grantRx ch port ts f, .announceRx ch port ts f, .dataOutRx ch port ts f, .strayFrameRx ch
    port ts f] → s.portIsUp (chanNum ch) port = true → isPause f = false → mbMalformed f = false → u = ((s.advanceTo
    ts).hearFrame f).syncFrame ch ts f → u.boards.act = some b → (u.spans b port).filter (fun y => inSpan y.2 y.1.len (ts -
    BitVec.ofNat 64 (u.rxDelay b y.1 (chanNum ch)))) = [(r, x)] → Does c s fun t => t.net.slots = putRun u.net.slots (let y
    : RxCopy := ⟨ts - BitVec.ofNat 64 (u.rxDelay b r (chanNum ch)), fcsGood f && u.headerFits r x (chanNum ch) (mbHeader
    f), (mbHeader f).seq, slice f 14 24, mbPayload f⟩; if chanNum ch = 0 then { x with a := x.a ++ [y] } else
    { x with b := x.b ++ [y] }) ∧ t.mem = s.mem) ∧
  (∀ (c : Instr) (ch : Chan) (port : Fin 4) (ts : BitVec 64) (f : Bytes) (s : State), c ∈ [Instr.syncRx ch port ts f,
    .coldstartRx ch port ts f, .dataInRx ch port ts f, .peerRx ch port ts f, .joinReqRx ch port ts f, .grantRx ch port ts
    f, .announceRx ch port ts f, .dataOutRx ch port ts f, .strayFrameRx ch port ts f] → s.portIsUp (chanNum ch) port =
    false → Gives c s s)

/-- With NET released: a port whose link is lost shows DOWN and counts a retrain unless it was training, and is borne off at the fourth loss within an hour; a port whose recovered clock is good comes up and shows UP unless it is UP or borne off, one whose clock is not good does not; RETRAIN puts the named ports that are not borne off into training. MBS_CLR clears the counts of the selected slot, or of every slot. An eligible sync node that finds no frames listens, with 4 + 2 × CSIDX rounds to wait; when they have passed it begins an attempt, at an epoch of its own or at the external time; an attempt that the COLDSTART of another node ends without a usable frame returns to listening with the time base in UNSYNC and the unanswered attempts uncounted; one that has seen a usable frame for a round is done. (The window of the hour and the steps of the engine are assumption 47.) -/
def Obligations.MebaridPortsAndColdStart : Prop :=
  (∀ (ch : Chan) (p : Fin 4) (s : State), s.domainUp 3 = true → s.fld (portKey (chanNum ch) p) 1 0 = 2 → s.portHour
    (chanNum ch) p < 3 → Does (.portDown ch p) s fun t => t.fld (portKey (chanNum ch) p) 1 0 = 0 ∧ t.fld (portKey (chanNum
    ch) p) 31 16 = min 0xFFFF (s.fld (portKey (chanNum ch) p) 31 16 + 1) ∧ t.net.portHist = s.net.portHist ++ [(4 * chanNum
    ch + p, s.opTime.toNat)]) ∧
  (∀ (ch : Chan) (p : Fin 4) (s : State), s.domainUp 3 = true → s.fld (portKey (chanNum ch) p) 1 0 = 2 → 3 ≤ s.portHour
    (chanNum ch) p → Does (.portDown ch p) s fun t => t.fld (portKey (chanNum ch) p) 1 0 = 3) ∧
  (∀ (ch : Chan) (p : Fin 4) (s : State), s.domainUp 3 = true → s.fld (portKey (chanNum ch) p) 1 0 = 1 → Does (.portDown ch
    p) s fun t => t.fld (portKey (chanNum ch) p) 1 0 = 0 ∧ t.fld (portKey (chanNum ch) p) 31 16 = s.fld (portKey (chanNum
    ch) p) 31 16) ∧
  (∀ (ch : Chan) (p : Fin 4) (s : State), s.domainUp 3 = true → s.fld (portKey (chanNum ch) p) 1 0 < 2 → s.clockGood (10 +
    4 * chanNum ch + p) = true → Does (.portUp ch p) s fun t => t.fld (portKey (chanNum ch) p) 1 0 = 2 ∧ t.net = s.net) ∧
  (∀ (ch : Chan) (p : Fin 4) (s : State), s.domainUp 3 = true → s.clockGood (10 + 4 * chanNum ch + p) = false ∨ 2 ≤ s.fld
    (portKey (chanNum ch) p) 1 0 → Gives (.portUp ch p) s s) ∧
  (∀ (ch : Chan) (ports : BitVec 4) (p : Fin 4) (s : State), s.domainUp 3 = true → ports.getLsbD p = true → (s.portBorne
    (chanNum ch) p = false → Does (.retrain ch ports) s fun t => t.fld (portKey (chanNum ch) p) 1 0 = 1) ∧ (s.portBorne
    (chanNum ch) p = true → Does (.retrain ch ports) s fun t => t.fld (portKey (chanNum ch) p) 1 0 = 3)) ∧
  (∀ (s : State), s.domainUp 3 = true → (Does .mbsClrSlot s fun t => ∀ k, k = s.fld Reg.mbsSel 15 0 → t.reg (Reg.bank k
    Reg.mbsCntA) = 0 ∧ t.reg (Reg.bank k Reg.mbsCntB) = 0 ∧ t.reg (Reg.bank k Reg.mbsWin) = 0 ∧ t.fld (Reg.bank k
    Reg.mbsInfo) 31 16 = 0 ∧ t.fld (Reg.bank k Reg.mbsInfo) 15 0 = s.fld (Reg.bank k Reg.mbsInfo) 15 0) ∧ Does .mbsClrAll s
    fun t => ∀ k, t.reg (Reg.bank k Reg.mbsCntA) = 0 ∧ t.reg (Reg.bank k Reg.mbsCntB) = 0 ∧ t.reg (Reg.bank k Reg.mbsWin) =
    0 ∧ t.fld (Reg.bank k Reg.mbsInfo) 31 16 = 0) ∧
  (∀ (s : State), s.domainUp 3 = true → s.coldEligible = true → s.cold ≠ 1 ∧ s.cold ≠ 2 → searchStep s.time.search = none →
    Does .coldListen s fun t => t.cold = 1 ∧ t.fld Reg.mbCold 15 8 = (4 + 2 * s.ownCsidx) % 256) ∧
  (∀ (s : State), s.domainUp 3 = true → s.coldEligible = true → s.cold = 1 → s.coldEdge.1.fld Reg.mbCold 15 8 ≤
    s.coldEdge.1.coldEnded s.coldEdge.2 → s.fld Reg.timCtrl 1 0 ≠ 1 → Gives .coldAttempt s
    (s.coldEdge.1.epochHere.beginAttempt s.coldEdge.2) ∧ Does .coldAttempt s fun t => t.cold = 2) ∧
  (∀ (s : State), s.domainUp 3 = true → s.coldEligible = true → s.cold = 1 → s.coldEdge.1.fld Reg.mbCold 15 8 ≤
    s.coldEdge.1.coldEnded s.coldEdge.2 → s.fld Reg.timCtrl 1 0 = 1 → s.time.extFresh = true → Gives .coldAttempt s
    (s.coldEdge.1.epochStepped.beginAttempt true)) ∧
  (∀ (s : State), s.domainUp 3 = true → s.cold = 2 → s.net.usable = false → s.net.ending = true → s.coldEdge.2 = true →
    s.net.fresh = false → Does .coldAbandon s fun t => t.cold = 1 ∧ t.time.state = .unsync ∧ t.fld Reg.mbCold 7 4 = s.fld
    Reg.mbCold 7 4) ∧
  (∀ (s : State), s.domainUp 3 = true → s.cold = 2 → s.net.usable = true → 1 ≤ s.net.rounds + s.coldEdge.1.coldEnded
    s.coldEdge.2 → Does .coldDone s fun t => t.cold = 3 ∧ t.net = s.net)

/-- With SEQ released: LEAD and JOIN release a module in BOOT; CASTLE of a leader that may castle fixes the turn at RSN + 8 and offers it; STAND_DOWN stands the module down with cause 4; BENCH in a BOOT that the module may leave, with the option and the service key, leads to BENCH; ABORT_JOIN returns a joiner to BOOT; RESET_PARTNER sends a leader's stood-down partner a request. In any other state each logs 0x0005. (That LEAD and JOIN in BOOT are kept as releases is assumption 49, which change bars a CASTLE assumption 105.) -/
def Obligations.PairCommands : Prop :=
  (∀ (s : State), s.domainUp 2 = true → s.state = .boot → (Does .pairCmdLead s fun t => t.pair.leadRel = true ∧ t.regs =
    s.regs) ∧ Does .pairCmdJoin s fun t => t.pair.joinRel = true ∧ t.regs = s.regs) ∧
  (∀ (s : State), s.domainUp 2 = true → s.state ≠ .boot → Gives .pairCmdLead s (s.refuse Reg.pairCmd) ∧ Gives .pairCmdJoin
    s (s.refuse Reg.pairCmd) ∧ Gives .pairCmdBench s (s.refuse Reg.pairCmd)) ∧
  (∀ (s : State), s.domainUp 2 = true → s.mayCastle = true → Does .pairCmdCastle s fun t => t.pair.castle = some ⟨s.rsn +
    8, false⟩ ∧ t.regs = s.regs) ∧
  (∀ (s : State), s.domainUp 2 = true → s.mayCastle = false → Gives .pairCmdCastle s (s.refuse Reg.pairCmd)) ∧
  (∀ (s : State), s.domainUp 2 = true → s.mayStandDown = true → Gives .pairCmdStandDown s (s.standDown 4) ∧ Does
    .pairCmdStandDown s fun t => t.state = .stoodDown) ∧
  (∀ (s : State), s.domainUp 2 = true → s.mayStandDown = false → Gives .pairCmdStandDown s (s.refuse Reg.pairCmd)) ∧
  (∀ (s : State), s.domainUp 2 = true → s.state = .boot → s.heldInBoot = false → (leAt s.option 0x0D 1).testBit 0 = true →
    s.svcKey = true → Does .pairCmdBench s fun t => t.state = .bench) ∧
  (∀ (s : State), s.domainUp 2 = true → s.heldInBoot = true ∨ (leAt s.option 0x0D 1).testBit 0 = false ∨ s.svcKey = false →
    Gives .pairCmdBench s (s.refuse Reg.pairCmd)) ∧
  (∀ (s : State), s.domainUp 2 = true → s.state = .joining → Does .pairCmdAbortJoin s fun t => t.state = .boot ∧ t.fld
    Reg.pairJoin 2 0 = 0) ∧
  (∀ (s : State), s.domainUp 2 = true → s.state ≠ .joining → Gives .pairCmdAbortJoin s (s.refuse Reg.pairCmd)) ∧
  (∀ (s : State), s.domainUp 2 = true → s.state = .leader → s.linkUp = true → s.partnerState = 5 → Gives
    .pairCmdResetPartner s (s.dunlySend 0 10 (zeros 4)) ∧ (s.domainUp 3 = true → Does .pairCmdResetPartner s fun t =>
    t.out.length = s.out.length + 1 ∧ t.regs = s.regs ∧ t.state = .leader)) ∧
  (∀ (s : State), s.domainUp 2 = true → ¬ (s.state = .leader ∧ s.linkUp = true ∧ s.partnerState = 5) → Gives
    .pairCmdResetPartner s (s.refuse Reg.pairCmd))

/-- A module that is ready drives the line and becomes LEADER after its latch time; one that is ready to join becomes JOINING with JOIN_PHASE 1; a Follower or MUTE module takes the lead when the partner's line is dead, a joiner returns to BOOT; LEAD_PULSE is a low pulse of 50 µs on the line that it drives; a change of the partner's line shows in ILK_STAT, and a Follower without link whose leader's line becomes live is MUTE; B gives way when both drive; a line that does not follow is dropped; a cause to stand down takes effect at the first round boundary at which the partner carries on, and shows as pending at one at which it does not. (How the falling edges of the own line are counted is assumption 45.) -/
def Obligations.LeadAndJoin : Prop :=
  (∀ (s : State), s.leadReady = true → Gives .leadTake s (s.waitOp s.latchAt).takeLead ∧ Does .leadTake s fun t => t.state
    = .leader) ∧
  (∀ (s : State), s.joinReady = true → Does .joinEnter s fun t => t.state = .joining ∧ t.fld Reg.pairJoin 2 0 = 1) ∧
  (∀ (s : State), bit (s.reg Reg.ilkStat) 0 = true → s.handingOff = false → Does .leadPulse s fun t => t.out = s.out ++
    [.leadLow 1000] ∧ t.ownFall.head? = some t.opNs ∧ t.pair.pulseRsn = none ∧ t.state = s.state) ∧
  (∀ (s : State), s.partnerLive = false → s.domainUp 2 = true → s.state = .follower ∨ s.state = .mute → Does
    .partnerLineDead2ms s fun t => t.state = .leader ∧ bit (t.reg Reg.ilkStat) 0 = true) ∧
  (∀ (s : State), s.partnerLive = false → s.domainUp 2 = true → s.state = .joining → Does .partnerLineDead2ms s fun t =>
    t.state = .boot) ∧
  (∀ (v : Bool) (s : State), s.partnerLive = !v → s.domainUp 0 = true → Does (.partnerLineChange v) s fun t =>
    t.partnerLive = v ∧ (v = false → t.lineDead = s.opNs) ∧ (v = true → s.domainUp 2 = true → s.state = .follower →
    s.linkUp = false → t.state = .mute)) ∧
  (∀ (s : State), bit (s.reg Reg.ilkStat) 0 = true → s.state = .leader → (s.isB = true → s.partnerLive = true → Does .yield
    s fun t => t.state = (if s.linkUp then .follower else .mute) ∧ bit (t.reg Reg.ilkStat) 0 = false) ∧ Does .readback s
    fun t => t.state = (if s.linkUp then .follower else .mute) ∧ bit (t.reg Reg.ilkStat) 0 = false) ∧
  (∀ (s : State), bit (s.reg Reg.ilkStat) 0 = true → s.isB = true → s.partnerLive = true → Does .yield s fun t => t.fld
    Reg.ilkCnt 23 16 = min 0xFF (s.fld Reg.ilkCnt 23 16 + 1)) ∧
  (∀ (c : Nat) (b : Bool) (l : List (Nat × Bool)) (s : State), s.sdPend = (c, b) :: l → s.mayStandDown = true →
    s.atBoundary.partnerCarries = true → Does .standDownTakeEffect s fun t => t.state = .stoodDown ∧ t.sdPend = [] ∧ t.reg
    Reg.hltSd = BitVec.ofNat 32 (c + 16)) ∧
  (∀ (c : Nat) (s : State), s.sdPend = [(c, false)] → s.mayStandDown = true → s.atBoundary.partnerCarries = false → Does
    .standDownTakeEffect s fun t => t.state = s.state ∧ t.sdPend = [(c, true)] ∧ t.reg Reg.hltSd = BitVec.ofNat 32 (c + 8))

/-- With NET released a message that fails a check counts in DXL_ERR and does nothing else; one of another kind than the command's has no effect. A good message takes its SEQ; then DIGEST is kept as the partner's record of the task, a HEALTH block with a good CRC is kept as the partner's, GRANT ends or enters a grant on a module that is not LEADER, HOSTW waits in a Follower or joiner, FIOL is kept as a latch, RESET_REQ resets a stood-down module whose partner lives, FWD enters its copies. With NET released the link comes up once XCLK is good, its four lanes hold lock and two rounds have brought a HEALTH message: sequence numbers begin at 0, a MUTE module becomes JOINING. It goes down when a lane loses lock, XCLK is lost or the HEALTH messages stay out: the state of castling, check, transfer and join request is gone; a Follower whose partner's line lives becomes MUTE; a joiner whose transfer is complete begins again. While it is down LOCK follows the lanes, and the time of full lock is kept. (That SEQ begins at 0 is assumption 48, how the lanes show block lock assumption 84.) -/
def Obligations.Dunly : Prop :=
  (∀ (c : Instr) (lane : Fin 4) (msg : Bytes) (s : State), s.domainUp 3 = true → dunlyOk msg = false → c ∈
    [Instr.healthMsgRx lane msg, .digestMsgRx lane msg, .checkMsgRx lane msg, .chgProposeRx lane msg, .chgAcceptRx lane
    msg, .chgRefuseRx lane msg, .chgCommitRx lane msg, .chgCancelRx lane msg, .castleOfferRx lane msg, .castleTakeRx lane
    msg, .castleCancelRx lane msg, .grantMsgRx lane msg, .hostwRx lane msg, .fiolRx lane msg, .resetReqRx lane msg, .fwdRx
    lane msg, .joincRequestRx lane msg, .joincWaitRx lane msg, .joincStartRx lane msg, .joincCloseRx lane msg, .joincDoneRx
    lane msg, .joincAbortRx lane msg, .joincRefuseRx lane msg, .xferRx lane msg] → Does c s fun t => t.fld Reg.dxlErr 15 0
    = min 0xFFFF (s.fld Reg.dxlErr 15 0 + 1) ∧ t.pair = s.pair ∧ t.state = s.state ∧ t.mem = s.mem) ∧
  (∀ (lane : Fin 4) (msg : Bytes) (s : State), s.gets 1 msg → leAt (dunlyBody msg) 0xFC 4 = (crc32c ((dunlyBody msg).take
    0xFC)).toNat → s.state ≠ .follower ∧ s.state ≠ .joining → Does (.healthMsgRx lane msg) s fun t => t.pair.partner =
    dunlyBody msg ∧ t.state = s.state ∧ (s.pair.partner = [] → t.pair.goodRun = 1)) ∧
  (∀ (lane : Fin 4) (msg : Bytes) (s : State), s.gets 2 msg → Does (.digestMsgRx lane msg) s fun t =>
    t.pair.digPart.getLast? = some ⟨leAt (dunlyBody msg) 0 1, BitVec.ofNat 32 (leAt (dunlyBody msg) 4 4), BitVec.ofNat 64
    (leAt (dunlyBody msg) 8 8)⟩ ∧ t.pair.seqIn[lane] = BitVec.ofNat 32 (beAt msg 22 4) + 1 ∧ t.mem = s.mem) ∧
  (∀ (lane : Fin 4) (msg : Bytes) (s : State), s.gets 5 msg → s.state ≠ .leader → (parseGrant (dunlyBody msg)).node ≠ 0 →
    Does (.grantMsgRx lane msg) s fun t => (t.grantOf (parseGrant (dunlyBody msg)).slot).map (fun x => (x.node, x.start,
    x.eff)) = some ((parseGrant (dunlyBody msg)).node, (parseGrant (dunlyBody msg)).start, (parseGrant (dunlyBody
    msg)).eff) ∧ t.state = s.state) ∧
  (∀ (lane : Fin 4) (msg : Bytes) (s : State), s.gets 5 msg → s.state ≠ .leader → (parseGrant (dunlyBody msg)).node = 0 →
    Does (.grantMsgRx lane msg) s fun t => t.grantOf (parseGrant (dunlyBody msg)).slot = none ∧ t.state = s.state) ∧
  (∀ (lane : Fin 4) (msg : Bytes) (s : State), s.gets 6 msg → s.state = .follower ∨ s.state = .joining → Does (.hostwRx
    lane msg) s fun t => t.pair.plant.length = s.pair.plant.length + 1 ∧ (t.pair.plant.getLast?).map (fun w => (w.eff,
    w.ofs)) = some (BitVec.ofNat 32 (leAt (dunlyBody msg) 0 4), leAt (dunlyBody msg) 4 4) ∧ t.mem = s.mem) ∧
  (∀ (e : Entry) (lane : Fin 4) (msg : Bytes) (s : State), s.gets 7 msg → (s.track .f)[leAt (dunlyBody msg) 0 4]? = some e
    → s.takesLatches = true → e.channels ≠ 0 → Does (.fiolRx lane msg) s fun t => (t.pair.latches.head?).map (fun l =>
    (l.entry, l.levels)) = some (leAt (dunlyBody msg) 0 4, BitVec.ofNat 16 (leAt (dunlyBody msg) 4 2))) ∧
  (∀ (lane : Fin 4) (msg : Bytes) (s : State), s.gets 10 msg → s.state = .stoodDown → s.partnerLive = true → Gives
    (.resetReqRx lane msg) s ((s.taken lane msg).assertSource 5 1 false) ∧ Does (.resetReqRx lane msg) s fun t =>
    t.rst.running = true ∧ t.rst.sources.getLsbD 5 = true) ∧
  (∀ (lane : Fin 4) (msg : Bytes) (s : State), s.gets 10 msg → s.state ≠ .stoodDown → Does (.resetReqRx lane msg) s fun t
    => t.rst = s.rst ∧ t.events.length = s.events.length + 1) ∧
  (∀ (tb : Tables) (r : SlotRec) (y : SlotRun) (lane : Fin 4) (msg : Bytes) (s : State), s.gets 11 msg → (dunlyBody
    msg).length / 32 = 1 → s.boards.act = some tb → tb.slotRec (splitForward (dunlyBody msg)).1 = some r →
    s.net.slots.find? (fun y => y.slot == (splitForward (dunlyBody msg)).1 && y.pip == BitVec.ofNat 32 (beAt (splitForward
    (dunlyBody msg)).2.2.1.header 16 4)) = some y → s.landable r y.rsn = true → Does (.fwdRx lane msg) s fun t =>
    (t.net.slots.find? (fun z => z.slot == y.slot && z.pip == y.pip)).map (·.fwd) = some (y.fwd ++ [((splitForward
    (dunlyBody msg)).2.1, (splitForward (dunlyBody msg)).2.2.1)])) ∧
  (∀ (x : Nat × Instr) (lane : Fin 4) (msg : Bytes) (s : State), s.domainUp 3 = true → dunlyOk msg = true → x ∈ [((1 :
    Nat), Instr.healthMsgRx lane msg), (2, .digestMsgRx lane msg), (8, .checkMsgRx lane msg), (3, .chgProposeRx lane msg),
    (3, .chgAcceptRx lane msg), (3, .chgRefuseRx lane msg), (3, .chgCommitRx lane msg), (3, .chgCancelRx lane msg), (4,
    .castleOfferRx lane msg), (4, .castleTakeRx lane msg), (4, .castleCancelRx lane msg), (5, .grantMsgRx lane msg), (6,
    .hostwRx lane msg), (7, .fiolRx lane msg), (10, .resetReqRx lane msg), (11, .fwdRx lane msg), (9, .joincRequestRx lane
    msg), (9, .joincWaitRx lane msg), (9, .joincStartRx lane msg), (9, .joincCloseRx lane msg), (9, .joincDoneRx lane msg),
    (9, .joincAbortRx lane msg), (9, .joincRefuseRx lane msg), (12, .xferRx lane msg)] → beAt msg 15 1 ≠ x.1 → Gives x.2 s
    s) ∧
  (∀ (s : State), s.domainUp 3 = true → s.linkUp = false → 2 ≤ s.pair.goodRun → s.clockGood 5 = true → s.fld Reg.dxlState 4
    1 = 15 → Does .dxlLinkUp s fun t => t.fld Reg.dxlState 4 0 = 31 ∧ t.linkUp = true ∧ (s.state = .mute → t.state =
    .joining ∧ t.fld Reg.pairJoin 2 0 = 1) ∧ (s.state = .leader → t.state = .leader ∧ t.pair.seqOut = Vector.replicate 4 0
    ∧ t.pair.seqIn = Vector.replicate 4 0)) ∧
  (∀ (s : State), s.domainUp 3 = true → s.linkUp = true ∨ s.pair.goodRun < 2 ∨ s.clockGood 5 = false ∨ s.fld Reg.dxlState 4
    1 ≠ 15 → Gives .dxlLinkUp s s) ∧
  (∀ (m : BitVec 4) (h : Bool) (s : State), s.linkUp = true → h = true ∨ m ≠ 0 ∨ s.clockGood 5 = false → Does (.dxlLinkDown
    m h) s fun t => t.linkUp = false ∧ t.pair.castle = none ∧ t.pair.check = none ∧ t.pair.xfer = none ∧ t.pair.reqId = []
    ∧ t.pair.goodRun = 0 ∧ (s.state = .follower → t.state = if s.partnerLive then .mute else .follower) ∧ (s.state =
    .leader → t.state = .leader) ∧ (s.state = .joining → s.fld Reg.pairJoin 2 0 = 6 → t.state = .joining ∧ t.pair.joinDone
    = false ∧ t.fld Reg.pairJoin 2 0 = 0)) ∧
  (∀ (m : BitVec 4) (h : Bool) (s : State), s.linkUp = true → h = false → m = 0 → s.clockGood 5 = true → Gives
    (.dxlLinkDown m h) s s) ∧
  (∀ (m : BitVec 4) (h : Bool) (s : State), s.linkUp = false → s.domainUp 3 = true → Does (.dxlLinkDown m h) s fun t =>
    t.fld Reg.dxlState 4 1 = 15 - m.toNat ∧ t.linkUp = false ∧ t.state = s.state ∧ (s.fld Reg.dxlState 4 1 ≠ 15 → m = 0 →
    t.pair.lockAt = s.opNs))

/-- A Follower in SYNCED answers an OFFER with TAKE and shows TAKEOVER; the leader keeps the TAKE of its castling; CANCEL ends it. Two rounds before C a leader without TAKE cancels. At C + 1 the leader that has the TAKE becomes FOLLOWER, the Follower, which has driven the line since the partner's was low for 200 µs, becomes LEADER; both count it. (That taking the lead is one command is assumption 83.) -/
def Obligations.Castling : Prop :=
  (∀ (lane : Fin 4) (msg : Bytes) (s : State), s.gets 4 msg → leAt (dunlyBody msg) 0 1 = 1 → s.state = .follower →
    s.time.state = .synced → Does (.castleOfferRx lane msg) s fun t => t.pair.castle = some ⟨BitVec.ofNat 32 (leAt
    (dunlyBody msg) 4 4), true⟩ ∧ t.fld Reg.ilkStat 3 3 = 1 ∧ (s.linkUp = true → t.out.length = s.out.length + 1)) ∧
  (∀ (x : CastleRun) (lane : Fin 4) (msg : Bytes) (s : State), s.gets 4 msg → leAt (dunlyBody msg) 0 1 = 2 → s.state =
    .leader → s.pair.castle = some x → leAt (dunlyBody msg) 4 4 = x.c.toNat → Does (.castleTakeRx lane msg) s fun t =>
    t.pair.castle = some { x with take := true }) ∧
  (∀ (lane : Fin 4) (msg : Bytes) (s : State), s.gets 4 msg → leAt (dunlyBody msg) 0 1 = 3 → Does (.castleCancelRx lane
    msg) s fun t => t.pair.castle = none ∧ t.fld Reg.ilkStat 3 3 = 0) ∧
  (∀ (x : CastleRun) (s : State), s.pair.castle = some x → s.state = .leader → x.take = false → later (x.c - 2)
    s.atBoundary.rsn = false → Does .castleDeadline s fun t => t.pair.castle = none ∧ t.state = .leader) ∧
  (∀ (x : CastleRun) (s : State), s.pair.castle = some x → s.state = .leader → x.take = true → s.atBoundary.rsn = x.c + 1 →
    Does .castleHandOff s fun t => t.state = .follower ∧ t.pair.castle = none ∧ bit (t.reg Reg.ilkStat) 0 = false ∧ t.fld
    Reg.ilkCnt 15 8 = min 0xFF (s.fld Reg.ilkCnt 15 8 + 1)) ∧
  (∀ (x : CastleRun) (u s : State), s.pair.castle = some x → s.state = .follower → bit (s.reg Reg.ilkStat) 3 = true →
    s.partnerLive = false → u = (if s.rsn = x.c ∧ s.pipInRound < 4000 then s.toPip 4000 else s) →
    u.endCastle.driveLine.atBoundary.rsn = x.c + 1 → Does .castleTakeLead s fun t => t.state = .leader ∧ t.pair.castle =
    none ∧ bit (t.reg Reg.ilkStat) 0 = true ∧ bit (t.reg Reg.mbgStat) 8 = true ∧ t.fld Reg.ilkCnt 15 8 = min 0xFF (s.fld
    Reg.ilkCnt 15 8 + 1) ∧ t.pair.pulseRsn = some (x.c + 1))

/-- A digest of the round is compared 8 pips after its entry: equal digests count as agreed, unequal ones are recorded, a missing one counts as missing. A pair check ends with the first part that fails (1 the working copy, 2 the digest engine, 3 evidence of a fault); once both results are there they decide: both pass, it counts and the follower joins anew; a follower whose check fails stands down, as does a leader whose check fails while the follower's passes; else the leader goes on. Plant writes that are due leave the queue at the boundary, and a Leader or Follower makes them. (When part 4 of a check ends is assumption 49.) -/
def Obligations.PairChecks : Prop :=
  (∀ (i : Nat) (e : Entry) (own d : DigRec) (s : State), (s.track .f)[i]? = some e → s.pair.digOwn.find? (fun d => d.task
    == e.task.val && d.rsn == (if 5000 ≤ e.start + 8 then s.roundRsn - 1 else s.roundRsn)) = some own →
    s.pair.digPart.find? (fun d => d.task == e.task.val && d.rsn == own.rsn) = some d → s.coExecuting = true → s.linkUp =
    true → d.dig = own.dig → Does (.digestCompare i) s fun t => t.fld Reg.pairDigCnt 15 0 = (s.fld Reg.pairDigCnt 15 0 + 1)
    % 0x10000 ∧ t.pair.check = s.pair.check) ∧
  (∀ (i : Nat) (e : Entry) (own d : DigRec) (s : State), (s.track .f)[i]? = some e → s.pair.digOwn.find? (fun d => d.task
    == e.task.val && d.rsn == (if 5000 ≤ e.start + 8 then s.roundRsn - 1 else s.roundRsn)) = some own →
    s.pair.digPart.find? (fun d => d.task == e.task.val && d.rsn == own.rsn) = some d → s.coExecuting = true → s.linkUp =
    true → d.dig ≠ own.dig → Does (.digestCompare i) s fun t => t.fld Reg.pairDigCnt 23 16 = min 0xFF (s.fld Reg.pairDigCnt
    23 16 + 1) ∧ t.pair.check.isSome = true) ∧
  (∀ (i : Nat) (e : Entry) (own : DigRec) (s : State), (s.track .f)[i]? = some e → s.pair.digOwn.find? (fun d => d.task ==
    e.task.val && d.rsn == (if 5000 ≤ e.start + 8 then s.roundRsn - 1 else s.roundRsn)) = some own → s.pair.digPart.find?
    (fun d => d.task == e.task.val && d.rsn == own.rsn) = none → s.coExecuting = true → s.linkUp = true → Does
    (.digestCompare i) s fun t => t.fld Reg.pairDigCnt 31 28 = min 0xF (s.fld Reg.pairDigCnt 31 28 + 1) ∧ t.pair.check =
    s.pair.check) ∧
  (∀ (c : CheckRun) (g : Bool) (u s : State), s.pair.check = some c → c.own = none → c.partner = none → u = s.atBoundary →
    (List.finRange 16).all (fun n => u.lanes[n].rolls == 0) = true ∨ 1280 ≤ (u.rsn - c.start).toInt → Does (.pairCheckEnd
    g) s fun t => t.pair.check = some { c with own := some (u.checkResult c g) } ∧ t.fld Reg.pairState 9 8 = (if
    u.checkResult c g = 0 then 1 else 2)) ∧
  (∀ (c : CheckRun) (lane : Fin 4) (msg : Bytes) (s : State), s.gets 8 msg → s.pair.check = some c → c.own = none → leAt
    (dunlyBody msg) 4 4 = c.start.toNat → Does (.checkMsgRx lane msg) s fun t => t.pair.check = some
    { c with partner := some (leAt (dunlyBody msg) 0 1 == 1) } ∧ t.state = s.state) ∧
  (∀ (c : CheckRun) (g p : Bool) (u s : State), s.pair.check = some c → c.own = none → c.partner = some p → u =
    s.atBoundary → (List.finRange 16).all (fun n => u.lanes[n].rolls == 0) = true ∨ 1280 ≤ (u.rsn - c.start).toInt → Does
    (.pairCheckEnd g) s fun t => t.pair.check = none ∧ t.state = (if u.checkResult c g = 0 ∧ s.state = .follower then (if p
    = true then .joining else .follower) else if u.checkResult c g = 0 then s.state else if s.state = .follower ∨ (s.state
    = .leader ∧ p = true) then .stoodDown else s.state) ∧ (u.checkResult c g = 0 → p = true → s.state = .leader ∨ s.state =
    .follower → t.fld Reg.pairDigCnt 27 24 = min 0xF (s.fld Reg.pairDigCnt 27 24 + 1)) ∧ (t.state = .stoodDown → s.state ≠
    .stoodDown → t.reg Reg.hltSd = 21)) ∧
  (∀ (c : CheckRun) (k : Nat) (p : Bool) (lane : Fin 4) (msg : Bytes) (s : State), s.gets 8 msg → s.pair.check = some c →
    c.own = some k → leAt (dunlyBody msg) 4 4 = c.start.toNat → p = (leAt (dunlyBody msg) 0 1 == 1) → Does (.checkMsgRx
    lane msg) s fun t => t.pair.check = none ∧ t.state = (if k = 0 ∧ s.state = .follower then (if p = true then .joining
    else .follower) else if k = 0 then s.state else if s.state = .follower ∨ (s.state = .leader ∧ p = true) then .stoodDown
    else s.state) ∧ (k = 0 → p = true → s.state = .leader ∨ s.state = .follower → t.fld Reg.pairDigCnt 27 24 = min 0xF
    (s.fld Reg.pairDigCnt 27 24 + 1)) ∧ (t.state = .stoodDown → s.state ≠ .stoodDown → t.reg Reg.hltSd = 21)) ∧
  (∀ (s : State), s.pair.plant.any (fun w => !later w.eff s.atBoundary.rsn) = true → Does .plantWriteApply s fun t =>
    t.pair.plant = s.pair.plant.filter (fun w => later w.eff s.atBoundary.rsn) ∧ (s.state = .boot → t.mem = s.mem)) ∧
  (∀ (w : PlantWrite) (s : State), s.pair.plant = [w] → later w.eff s.atBoundary.rsn = false → s.state = .leader ∨ s.state
    = .follower → Gives .plantWriteApply s ((s.atBoundary.modPair fun p => { p with plant := [] }).storeWrite w.ofs
    ((w.words.map wordBytes).flatten))) ∧
  (∀ (c : CheckRun) (g : Bool) (s : State), (s.copyIntact = false → s.checkResult c g = 1) ∧ (s.copyIntact = true → g =
    false → s.checkResult c g = 2) ∧ (s.copyIntact = true → g = true → s.pair.faultAt.any (fun r => decide (c.since ≤ r)) =
    true → s.checkResult c g = 3) ∧ (s.copyIntact = true → g = true → s.pair.faultAt.all (fun r => decide (r < c.since)) =
    true → s.checkResult c g = 0))

/-- A leader answers REQUEST with WAIT, a refusal of another board, or START. A joiner shows the reason of WAIT, begins the transfer at START (JOIN_PHASE 4, pass 1), closes at CLOSE (5), is complete at DONE (6); ABORT ends the transfer and returns to phase 4, REFUSE (reason 1) leads to phase 3. Transferred units are taken in phases 4 and 5. In the last round of a turn the leader closes when what is left fits, and aborts with reason 2 when the pair tables no longer fit beside it. At the turn boundary a joiner whose transfer is complete or closing becomes FOLLOWER; a transfer that falls silent begins again. (The turn boundary of a joiner is assumption 49, the frames of a transfer assumption 14, what WAIT takes for an agreed change assumption 105.) -/
def Obligations.Joining : Prop :=
  (∀ (lane : Fin 4) (msg : Bytes) (s : State), s.gets 9 msg → leAt (dunlyBody msg) 0 1 = 1 → s.state = .leader →
    (s.joinWait ≠ 0 → Does (.joincRequestRx lane msg) s fun t => t.fld Reg.pairJoin 2 0 = 2 ∧ t.fld Reg.pairJoin 23 16 =
    s.joinWait ∧ t.pair.reqId = slice (dunlyBody msg) 8 48) ∧ (s.joinWait = 0 → slice (dunlyBody msg) 8 48 ≠ s.activeId →
    Does (.joincRequestRx lane msg) s fun t => t.fld Reg.pairJoin 2 0 = 3 ∧ t.fld Reg.pairJoin 23 16 = 1 ∧ t.pair.xfer =
    none) ∧ (s.joinWait = 0 → slice (dunlyBody msg) 8 48 = s.activeId → Does (.joincRequestRx lane msg) s fun t => t.fld
    Reg.pairJoin 2 0 = 4 ∧ t.fld Reg.pairJoin 15 8 = 1 ∧ t.pair.xfer = some ⟨s.rsn + 1, 1, s.allUnits, [], 0, 0, 0, false,
    true⟩)) ∧
  (∀ (lane : Fin 4) (msg : Bytes) (s : State), s.gets 9 msg → leAt (dunlyBody msg) 0 1 = 2 → s.state = .joining → Does
    (.joincWaitRx lane msg) s fun t => t.fld Reg.pairJoin 2 0 = 2 ∧ t.fld Reg.pairJoin 23 16 = leAt (dunlyBody msg) 1 1 %
    256) ∧
  (∀ (lane : Fin 4) (msg : Bytes) (s : State), s.gets 9 msg → leAt (dunlyBody msg) 0 1 = 3 → s.state = .joining → Does
    (.joincStartRx lane msg) s fun t => t.fld Reg.pairJoin 2 0 = 4 ∧ t.fld Reg.pairJoin 15 8 = 1 ∧ t.pair.joinDone = false) ∧
  (∀ (lane : Fin 4) (msg : Bytes) (s : State), s.gets 9 msg → leAt (dunlyBody msg) 0 1 = 4 → s.state = .joining → Does
    (.joincCloseRx lane msg) s fun t => t.fld Reg.pairJoin 2 0 = 5 ∧ t.mem = s.mem) ∧
  (∀ (lane : Fin 4) (msg : Bytes) (s : State), s.gets 9 msg → leAt (dunlyBody msg) 0 1 = 5 → s.state = .joining →
    (s.pair.joinDone = false → Does (.joincDoneRx lane msg) s fun t => t.fld Reg.pairJoin 2 0 = 6 ∧ t.pair.joinDone = true)
    ∧ (s.pair.joinDone = true → Does (.joincDoneRx lane msg) s fun t => t.regs = (s.taken lane msg).regs)) ∧
  (∀ (lane : Fin 4) (msg : Bytes) (s : State), s.gets 9 msg → leAt (dunlyBody msg) 0 1 = 6 → s.state = .joining → leAt
    (dunlyBody msg) 1 1 ≠ 1 → Does (.joincAbortRx lane msg) s fun t => t.fld Reg.pairJoin 2 0 = 4 ∧ t.fld Reg.pairJoin 23
    16 = leAt (dunlyBody msg) 1 1 % 256) ∧
  (∀ (lane : Fin 4) (msg : Bytes) (s : State), s.gets 9 msg → leAt (dunlyBody msg) 0 1 = 6 → s.state = .joining → leAt
    (dunlyBody msg) 1 1 = 1 → Does (.joincRefuseRx lane msg) s fun t => t.fld Reg.pairJoin 2 0 = 3 ∧ t.fld Reg.pairJoin 23
    16 = 1 ∧ t.pair.episode = true) ∧
  (∀ (lane : Fin 4) (msg : Bytes) (s : State), s.gets 12 msg → s.state = .joining → s.fld Reg.pairJoin 2 0 = 4 ∨ s.fld
    Reg.pairJoin 2 0 = 5 → Gives (.xferRx lane msg) s ((s.taken lane msg).xferHeard.takeUnits ((dunlyBody msg).length / 8)
    (dunlyBody msg))) ∧
  (∀ (lane : Fin 4) (msg : Bytes) (s : State), s.gets 12 msg → s.state = .joining → s.fld Reg.pairJoin 2 0 = 4 ∨ s.fld
    Reg.pairJoin 2 0 = 5 → leAt (dunlyBody msg) 0 1 = 2 → 16384 ≤ leAt (dunlyBody msg) 4 4 → (dunlyBody msg).length = 8 +
    leAt (dunlyBody msg) 2 2 → Does (.xferRx lane msg) s fun t => t.net.grants = (List.range (leAt (dunlyBody msg) 2 2 /
    16)).foldl (fun l i => putGrant (parseGrant (slice (slice (dunlyBody msg) 8 (leAt (dunlyBody msg) 2 2)) (16 * i) 16))
    l) [] ∧ t.mem = s.mem) ∧
  (∀ (x : XferRun) (s : State), s.pair.xfer = some x → x.tested = false → s.lastRound = true → unitsSize x.dirtyUnits +
    x.last ≤ s.budget → unitsSize x.dirtyUnits + s.tablesSize ≤ s.budget → Does .joinClosingTest s fun t => t.fld
    Reg.pairJoin 2 0 = 5 ∧ t.pair.xfer.map (fun y => (y.closing, y.tested, y.todo, y.dirty)) = some (true, true, [], [])) ∧
  (∀ (x : XferRun) (s : State), s.pair.xfer = some x → x.tested = false → s.lastRound = true → unitsSize x.dirtyUnits +
    x.last ≤ s.budget → s.budget < unitsSize x.dirtyUnits + s.tablesSize → Does .joinClosingTest s fun t => t.fld
    Reg.pairJoin 2 0 = 4 ∧ t.fld Reg.pairJoin 23 16 = 2 ∧ t.pair.xfer.map (fun y => (y.closing, y.tested)) = some (false,
    true)) ∧
  (∀ (x : XferRun) (s : State), s.pair.xfer = some x → x.tested = false → s.lastRound = true → s.budget < unitsSize
    x.dirtyUnits + x.last → Gives .joinClosingTest s ((s.modPair fun p =>
    { p with xfer := some { x with tested := true } }).xferWork)) ∧
  (∀ (s : State), s.state = .joining → s.pair.joinDone = true ∨ s.fld Reg.pairJoin 2 0 = 5 → s.atBoundary.rsn.toNat %
    s.atBoundary.turnLen = 0 → Does .joinerToFollower s fun t => t.state = .follower ∧ t.pair.joinDone = false ∧
    t.pair.joinLand = 0) ∧
  (∀ (s : State), s.state = .joining → s.fld Reg.pairJoin 2 0 = 4 ∨ s.fld Reg.pairJoin 2 0 = 5 → Does .joinTransferSilence
    s fun t => t.fld Reg.pairJoin 2 0 = (if s.linkUp then 1 else 0) ∧ t.fld Reg.pairJoin 23 16 = 3 ∧ t.state = .joining)

/-- A source that asserts starts an episode or joins the one that runs and shows in RST_CAUSE; a level source stays on until it is released. Power-on, AON brown-out and a RESET_N of 2 s reach Cold; core brown-out, RESET_N and an open presence pin reach System; a failed clock of MEM, SEQ or HOST and a steward lockstep fault reach System without a level; RST_SW takes its key and a reach of 1 or 2, refuses HAP, and logs 0x0101 else. Power-on loses every memory but MRAM. A presence command carries the slot code and service key pins as well (the model's choice, assumption 93); with AON in reset RST_SW does nothing. (When CORE_GOOD and VIN_GOOD show is assumption 79.) -/
def Obligations.ResetSources : Prop :=
  (∀ (b reach : Nat) (level : Bool) (s : State), b < 13 → (s.assertSource b reach level).rst.running = true ∧
    (s.assertSource b reach level).rst.sources.getLsbD b = true ∧ bit ((s.assertSource b reach level).reg Reg.rstCause) b =
    true ∧ (level = true → (s.assertSource b reach level).rst.on.getLsbD b = true)) ∧
  (∀ (s : State), (Does (.powerOnReset true) s fun t => t.rst.running = true ∧ bit (t.reg Reg.rstCause) 0 = true ∧ t.fld
    Reg.rstPwr 2 0 = 0 ∧ t.mem = s.mem.filter (fun c => decide (mramBase ≤ c.1 ∧ c.1 < mramBase + 0x01000000))) ∧ Does
    (.powerOnReset false) s fun t => t.fld Reg.rstPwr 1 1 = 1 ∧ t.fld Reg.rstPwr 2 2 = b2n (!s.rst.on.getLsbD 2) ∧ bit
    (t.reg Reg.sysSlot) 5 = true ∧ t.rst.on.getLsbD 0 = false ∧ t.mem = s.mem) ∧
  (∀ (s : State), (Does (.aonBrownOut true) s fun t => t.rst.running = true ∧ t.rst.sources.getLsbD 1 = true ∧
    t.rst.on.getLsbD 1 = true ∧ t.rst.reach = 0) ∧ (Does (.aonBrownOut false) s fun t => t.rst.on.getLsbD 1 = false ∧ t.mem
    = s.mem) ∧ (Does (.coreBrownOut true) s fun t => t.rst.running = true ∧ t.rst.sources.getLsbD 2 = true ∧
    t.rst.on.getLsbD 2 = true ∧ t.rst.reach ≤ 1 ∧ t.fld Reg.rstPwr 2 2 = 0) ∧ Does (.coreBrownOut false) s fun t =>
    t.rst.on.getLsbD 2 = false ∧ t.fld Reg.rstPwr 2 2 = 1 ∧ t.mem = s.mem) ∧
  (∀ (s : State), s.stretching = false → (Does (.resetNAssert true) s fun t => t.rst.running = true ∧ t.rst.sources.getLsbD
    3 = true ∧ t.rst.on.getLsbD 3 = true ∧ t.rst.reach ≤ 1) ∧ Does (.resetNAssert false) s fun t => t.rst.on.getLsbD 3 =
    false ∧ t.rst.on.getLsbD 12 = false) ∧
  (∀ (s : State), s.stretching = true → bit (s.reg Reg.rstDom) 0 = false → ∀ b, Gives (.resetNAssert b) s s) ∧
  (∀ (b : Nat) (s : State), b < 13 → (s.releaseSource b).rst.on.getLsbD b = false ∧ (s.releaseSource b).rst.running =
    s.rst.running ∧ (s.releaseSource b).mem = s.mem) ∧
  (∀ (s : State), s.rst.on.getLsbD 3 = true → Does .resetNLong s fun t => t.rst.running = true ∧ t.rst.sources.getLsbD 12 =
    true ∧ t.rst.reach = 0) ∧
  (∀ (i : Fin 20) (d : Nat) (s : State), clockDomain i.val = some d → d = 1 ∨ d = 2 ∨ d = 3 ∨ d = 8 → s.domainUp d = true →
    Does (.clockFailureReset i) s fun t => t.rst.running = true ∧ t.rst.sources.getLsbD 8 = true ∧ t.rst.reach ≤ 1 ∧
    t.clockGood i = false ∧ t.domainUp d = false) ∧
  (∀ (s : State), s.domainUp 8 = true → Does .stewardLockstepFault s fun t => t.rst.running = true ∧ t.rst.sources.getLsbD
    9 = true ∧ t.rst.reach ≤ 1 ∧ t.fld Reg.stwLs 15 0 = min 0xFFFF (s.fld Reg.stwLs 15 0 + 1)) ∧
  (∀ (v : Word) (s : State), s.domainUp 0 = true → bits v 31 16 = 0xD1CE → bits v 1 0 = 1 ∨ bits v 1 0 = 2 → (Does (.rstSw
    false v) s fun t => t.rst.running = true ∧ t.rst.sources.getLsbD 10 = true ∧ t.rst.reach ≤ bits v 1 0) ∧ Gives (.rstSw
    true v) s (s.refuse Reg.rstSw)) ∧
  (∀ (v : Word) (s : State), s.domainUp 0 = true → bits v 31 16 ≠ 0xD1CE ∨ bits v 1 0 = 0 ∨ bits v 1 0 = 3 → Gives (.rstSw
    false v) s (s.logErr pRST 0x0101 v)) ∧
  (∀ (p : SlotPins) (s : State), p.isOpen = true → s.rst.on.getLsbD 11 = false → Does (.presenceLost p) s fun t =>
    t.rst.running = true ∧ t.rst.on.getLsbD 11 = true ∧ bit (t.reg Reg.rstCause) 11 = true ∧ t.rst.reach ≤ 1 ∧ t.rst.code =
    p.code ∧ bit (t.reg Reg.sysSlot) 4 = p.svcKey ∧ bit (t.reg Reg.sysSlot) 5 = false) ∧
  (∀ (p : SlotPins) (s : State), p.isOpen = false → Does (.presenceLost p) s fun t => t.rst.on.getLsbD 11 = false ∧
    t.rst.code = p.code ∧ bit (t.reg Reg.sysSlot) 4 = p.svcKey ∧ bit (t.reg Reg.sysSlot) 5 = true ∧ t.mem = s.mem) ∧
  (∀ (v : Word) (b : Bool) (s : State), s.domainUp 0 = false → Gives (.rstSw b v) s s)

/-- While an episode runs, the next domain is released once its gating clocks have qualified, SEQ only after the option loader; one whose clock is not good is not released and fails after the limit; a failed domain is passed over, and the episode ends after the last. The loader takes copy 1, else copy 2, else the default option record. Operating time is saved; VIN_GOOD and HLT_ENV follow the supply; a read of RST_OPTIME_LO copies the upper half. (From when a stretch counts is assumption 79, when a clock has qualified assumption 18.) -/
def Obligations.ResetSequence : Prop :=
  (∀ (d c : Nat) (s : State), s.dueDomain = some d → s.clockReady d = some c → c ≤ s.readyAt d + 10000000 → Does
    .domainRelease s fun t => bit (t.reg Reg.rstDom) d = true ∧ t.rst.next = s.skipFailed (d + 1) ∧ t.rst.lastRel = t.opNs
    ∧ (s.skipFailed (d + 1) = 10 → t.rst.running = false)) ∧
  (∀ (d : Nat) (s : State), s.dueDomain = some d → s.clockReady d = none → Gives .domainRelease s s ∧ (d ≠ 0 → Does
    .domainClockTimeout s fun t => bit (t.reg Reg.rstDom) (16 + d) = true ∧ t.rst.next = s.skipFailed (d + 1))) ∧
  (∀ (s : State), s.rst.optBusy = true → optReason s.boot.opt1 = none → ∀ e, Does (.optionLoaderDone false e) s fun t =>
    t.option = optUse s.boot.opt1 ∧ t.rst.optDone = true ∧ t.rst.optBusy = false ∧ bits (t.reg Reg.sysOptStat) 1 0 = 0) ∧
  (∀ (e : Bool) (s : State), s.rst.optBusy = true → e = true ∨ (optReason s.boot.opt1).isSome = true → optReason
    s.boot.opt2 = none → Does (.optionLoaderDone e false) s fun t => t.option = optUse s.boot.opt2 ∧ t.rst.optDone = true ∧
    bits (t.reg Reg.sysOptStat) 1 0 = 1) ∧
  (∀ (e f : Bool) (s : State), s.rst.optBusy = true → e = true ∨ (optReason s.boot.opt1).isSome = true → f = true ∨
    (optReason s.boot.opt2).isSome = true → Does (.optionLoaderDone e f) s fun t => t.option = s.optDefault ∧ t.rst.optDone
    = true ∧ bits (t.reg Reg.sysOptStat) 1 0 = 2) ∧
  (∀ (s : State), bit (s.reg Reg.rstDom) 0 = true → Does .operatingTimeSave s fun t => t.opSaved = t.opTime ∧ t.mem =
    s.mem) ∧
  (∀ (v : BitVec 16) (s : State), s.domainUp 2 = true → Does (.vinLow v) s fun t => bit (t.reg Reg.rstPwr) 0 = decide (1920
    ≤ v.toNat) ∧ t.fld Reg.hltEnv 31 16 = v.toNat) ∧
  (∀ (s : State), s.domainUp 0 = true → Gives .rstOptimeLoRead s (s.setReg Reg.rstOptimeHi (BitVec.ofNat 32 (s.opTime.toNat
    / 2 ^ 32)))) ∧
  (∀ (s : State), s.dueDomain = none → Gives .domainRelease s s ∧ Gives .domainClockTimeout s s) ∧
  (∀ (d : Nat) (s : State), (s.rst.next = 2 → s.rst.optDone = false → s.dueDomain = none) ∧ (s.dueDomain = some d →
    s.rst.running = true ∧ d = s.rst.next ∧ d < 10 ∧ s.heldBy d = false))

/-- In BOOT or STOOD_DOWN with no write under way, SYS_OPT_CMD writes a staged record that passes its checks, copy 2 first, else it shows result 2 and logs 0x0102; elsewhere it logs 0x0005. When the write ends copy 1 is the same and the result is 1; a failure empties copy 2, with result 3. The fuse burn with its key in BOOT with the service key and an unlocked block adds the staged bits and the lock; otherwise it logs 0x0103, and any other value has no effect. (What a failed write leaves is assumption 4.) -/
def Obligations.OptionsAndFuses : Prop :=
  (∀ (s : State), s.domainUp 0 = true → s.state = .boot ∨ s.state = .stoodDown → s.fld Reg.sysOptRes 2 2 = 0 → optReason
    (s.staged Reg.sysOptData 32 32) = none → Does .sysOptCmdWrite s fun t => t.boot.opt2 = s.staged Reg.sysOptData 32 32 ∧
    t.fld Reg.sysOptRes 2 2 = 1 ∧ t.boot.opt1 = s.boot.opt1) ∧
  (∀ (r : Nat) (s : State), s.domainUp 0 = true → s.state = .boot ∨ s.state = .stoodDown → s.fld Reg.sysOptRes 2 2 = 0 →
    optReason (s.staged Reg.sysOptData 32 32) = some r → Gives .sysOptCmdWrite s ((s.setFld Reg.sysOptRes 1 0 2).logErr
    pSYS 0x0102 (BitVec.ofNat 32 r))) ∧
  (∀ (s : State), s.domainUp 0 = true → s.state ≠ .boot ∧ s.state ≠ .stoodDown ∨ s.fld Reg.sysOptRes 2 2 = 1 → Gives
    .sysOptCmdWrite s (s.refuse Reg.sysOptCmd)) ∧
  (∀ (s : State), s.fld Reg.sysOptRes 2 2 = 1 → (Does (.optionWriteDone true) s fun t => t.boot.opt1 = s.boot.opt2 ∧
    t.boot.opt2 = s.boot.opt2 ∧ t.fld Reg.sysOptRes 1 0 = 1 ∧ t.fld Reg.sysOptRes 2 2 = 0) ∧ Does (.optionWriteDone false)
    s fun t => t.boot.opt2 = [] ∧ t.boot.opt1 = s.boot.opt1 ∧ t.fld Reg.sysOptRes 1 0 = 3 ∧ t.fld Reg.sysOptRes 2 2 = 0) ∧
  (∀ (s : State), s.domainUp 0 = true → s.state = .boot → s.svcKey = true → s.boot.fuse.getLsbD 255 = false →
    s.boot.fuseBlk.getLsbD 255 = false → (Does (.sysFuseCmdBurn 0xF05E true) s fun t => t.boot.fuseBlk = s.boot.fuseBlk |||
    BitVec.ofNat 256 (leNat (s.staged Reg.sysFuseData 8 8)) ||| BitVec.ofNat 256 (2 ^ 255) ∧ t.boot.fuse = s.boot.fuse) ∧
    Gives (.sysFuseCmdBurn 0xF05E false) s ((s.logErr pSYS 0x0103 0).raise pSYS 1)) ∧
  (∀ (s : State), s.domainUp 0 = true → s.state ≠ .boot ∨ s.svcKey = false ∨ s.boot.fuse.getLsbD 255 = true → ∀ ok, Gives
    (.sysFuseCmdBurn 0xF05E ok) s (s.logErr pSYS 0x0103 0)) ∧
  (∀ (v : Word) (ok : Bool) (s : State), v ≠ 0xF05E → Gives (.sysFuseCmdBurn v ok) s s)

/-- At STAGE 0 with HOST released the ROM starts copy 1 of the extension when it passes, else copy 2, each failure shown in SEC_FAIL; with neither STAGE is ROM_FAIL (8). At STAGE 1 the extension starts the CONFIRMED bank when its image passes, else the other one if that is STAGED or PREVIOUS and passes; with neither STAGE is RECOVERY (9); each failure shows in SEC_FAIL. A bank that was under trial has been judged before. (What boot makes of a trial bank and of the bank choice record are assumptions 32 and 88, its library half assumption 89.) -/
def Obligations.BootChain : Prop :=
  (∀ (f : Bool) (s : State), s.domainUp 8 = true → s.fld Reg.secStat 3 0 = 0 → s.extReason s.boot.ext1 = none → Gives
    (.romBoot false f) s (s.extStart 1 s.boot.ext1) ∧ Does (.romBoot false f) s fun t => t.fld Reg.secStat 3 0 = 1) ∧
  (∀ (r : Nat) (s : State), s.domainUp 8 = true → s.fld Reg.secStat 3 0 = 0 → s.extReason s.boot.ext1 = some r → (s.secFail
    1 r).extReason s.boot.ext2 = none → Gives (.romBoot false false) s ((s.secFail 1 r).extStart 2 s.boot.ext2)) ∧
  (∀ (e f : Bool) (s : State), s.domainUp 8 = true → s.fld Reg.secStat 3 0 = 0 → e = true ∨ (s.extReason
    s.boot.ext1).isSome = true → f = true ∨ (∀ r, ((s.secFail 1 r).extReason s.boot.ext2).isSome = true) → Does (.romBoot e
    f) s fun t => t.fld Reg.secStat 3 0 = 8 ∧ t.boot = s.boot) ∧
  (∀ (x ea eb : Bool) (u s : State), s.domainUp 8 = true → s.fld Reg.secStat 3 0 = 1 → u =
    ({ s with upd := s.upd.readChoice }.judgeTrial false).judgeTrial true → u.bankState x = .confirmed → x = true →
    u.bankState false ≠ .confirmed → (if x then eb else ea) = false ∧ u.bankReason x false = none → Gives
    (.firmwareBankVerify ea eb) s (u.firmwareStart x) ∧ Does (.firmwareBankVerify ea eb) s fun t => t.fld Reg.secStat 3 0 =
    2 ∧ t.upd.runB = x ∧ t.reg Reg.brdFmt = imgBrdFmt (u.bankImg x)) ∧
  (∀ (x ea eb : Bool) (r : Nat) (u w s : State), s.domainUp 8 = true → s.fld Reg.secStat 3 0 = 1 → u =
    ({ s with upd := s.upd.readChoice }.judgeTrial false).judgeTrial true → u.bankState x = .confirmed → x = true →
    u.bankState false ≠ .confirmed → u.bankReason x (if x then eb else ea) = some r → u.bankState (!x) = .staged ∨
    u.bankState (!x) = .previous → w = (u.secFail (if x then 4 else 3) r).recErr pSEC 0x0101 (BitVec.ofNat 32 ((if x then 4
    else 3) + r * 16)) .normal [] → w.bankReason (!x) (if x then ea else eb) = none → Gives (.firmwareBankVerify ea eb) s
    (w.firmwareStart !x) ∧ Does (.firmwareBankVerify ea eb) s fun t => t.fld Reg.secStat 3 0 = 2 ∧ t.upd.runB = !x ∧ t.fld
    Reg.secFail 7 0 = (if x then 4 else 3) + 16 * (r % 16)) ∧
  (∀ (x ea eb : Bool) (r q : Nat) (u w s : State), s.domainUp 8 = true → s.fld Reg.secStat 3 0 = 1 → u =
    ({ s with upd := s.upd.readChoice }.judgeTrial false).judgeTrial true → u.bankState x = .confirmed → x = true →
    u.bankState false ≠ .confirmed → u.bankReason x (if x then eb else ea) = some r → u.bankState (!x) = .staged ∨
    u.bankState (!x) = .previous → w = (u.secFail (if x then 4 else 3) r).recErr pSEC 0x0101 (BitVec.ofNat 32 ((if x then 4
    else 3) + r * 16)) .normal [] → w.bankReason (!x) (if x then ea else eb) = some q → Does (.firmwareBankVerify ea eb) s
    fun t => t.fld Reg.secStat 3 0 = 9 ∧ t.fld Reg.secFail 7 0 = (if x then 3 else 4) + 16 * (q % 16) ∧ t.mem = u.mem) ∧
  (∀ (x ea eb : Bool) (r : Nat) (u s : State), s.domainUp 8 = true → s.fld Reg.secStat 3 0 = 1 → u =
    ({ s with upd := s.upd.readChoice }.judgeTrial false).judgeTrial true → u.bankState x = .confirmed → x = true →
    u.bankState false ≠ .confirmed → u.bankReason x (if x then eb else ea) = some r → u.bankState (!x) ≠ .staged ∧
    u.bankState (!x) ≠ .previous → Does (.firmwareBankVerify ea eb) s fun t => t.fld Reg.secStat 3 0 = 9 ∧ t.fld
    Reg.secFail 7 0 = (if x then 4 else 3) + 16 * (r % 16) ∧ t.mem = u.mem)

/-- In BOOT, with HOST released: STORE puts the staged key into a slot that is not revoked if it is a point of the curve, present and not enabled; ENABLE enables a present key that is not revoked; DISABLE disables; REVOKE, with the service key, marks the slot revoked and not enabled. What is not allowed logs 0x0102, and so does any command outside BOOT. -/
def Obligations.BoardKeys : Prop :=
  (∀ (v : Word) (n : Fin 8) (s : State), s.domainUp 8 = true → bits v 31 16 = 0x5A5A → bits v 7 4 = 1 → s.state = .boot →
    n.val = bits v 2 0 → s.keyBit (8 + n) = false → keyOnCurve s.secStaged = true → Does (.secKeyStore v) s fun t =>
    t.boot.keys[n] = s.secStaged ∧ t.keyBit (16 + n) = true ∧ t.keyBit n = false ∧ (∀ m : Fin 8, m ≠ n → t.boot.keys[m] =
    s.boot.keys[m])) ∧
  (∀ (v : Word) (n : Fin 8) (s : State), s.domainUp 8 = true → bits v 31 16 = 0x5A5A → bits v 7 4 = 1 → s.state = .boot →
    n.val = bits v 2 0 → s.keyBit (8 + n) = true ∨ keyOnCurve s.secStaged = false → Gives (.secKeyStore v) s (s.keyRefused
    v)) ∧
  (∀ (v : Word) (n : Fin 8) (s : State), s.domainUp 8 = true → bits v 31 16 = 0x5A5A → bits v 7 4 = 2 → s.state = .boot →
    n.val = bits v 2 0 → (s.keyBit (8 + n) = false → s.keyBit (16 + n) = true → Does (.secKeyEnable v) s fun t => t.keyBit
    n = true ∧ t.boot = s.boot) ∧ (s.keyBit (8 + n) = true ∨ s.keyBit (16 + n) = false → Gives (.secKeyEnable v) s
    (s.keyRefused v))) ∧
  (∀ (v : Word) (n : Fin 8) (s : State), s.domainUp 8 = true → bits v 31 16 = 0x5A5A → bits v 7 4 = 3 → s.state = .boot →
    n.val = bits v 2 0 → Does (.secKeyDisable v) s fun t => t.keyBit n = false ∧ t.boot = s.boot) ∧
  (∀ (v : Word) (n : Fin 8) (s : State), s.domainUp 8 = true → bits v 31 16 = 0x5A5A → bits v 7 4 = 4 → s.state = .boot →
    n.val = bits v 2 0 → s.svcKey = true → Does (.secKeyRevoke v) s fun t => t.keyBit (8 + n) = true ∧ t.keyBit n = false ∧
    t.boot = s.boot) ∧
  (∀ (v : Word) (n : Fin 8) (s : State), s.domainUp 8 = true → bits v 31 16 = 0x5A5A → bits v 7 4 = 4 → s.state = .boot →
    n.val = bits v 2 0 → s.svcKey = false → Gives (.secKeyRevoke v) s (s.keyRefused v)) ∧
  (∀ (v : Word) (s : State), s.domainUp 8 = true → bits v 31 16 = 0x5A5A → s.state ≠ .boot → (bits v 7 4 = 1 → Gives
    (.secKeyStore v) s (s.keyRefused v)) ∧ (bits v 7 4 = 2 → Gives (.secKeyEnable v) s (s.keyRefused v)) ∧ (bits v 7 4 = 3
    → Gives (.secKeyDisable v) s (s.keyRefused v)) ∧ (bits v 7 4 = 4 → Gives (.secKeyRevoke v) s (s.keyRefused v)))

/-- While the recorder runs, the oldest event raised is stamped and admitted, or dropped and counted where the queue is full; a record the engine owes is written before any in the queue, at the write pointer with the next SEQ; drop counts are reported when their time has come. When the steward's record of a WEDGE is written it requests the System reset. A segment that is erased is free again, one that fails is removed and logged. With HOST released a recorder in state 0 takes the events raised as records asked for, and without an index waits in state 2; with one it starts, as a rebuilt index does, with a START record. With HOST released: a submitted event of TYPE 1 to 0x101F or 0xE000 to 0xEFFF, priority 0 to 2 and at most 4,059 bytes is admitted or dropped, with status 1 or 2; any other gives status 3 and logs 0x0102; a read begins unless one runs, and when it is done its bytes stand at the given address, with the count, the first SEQ and the cursor after it. HAP may use neither command. (The first records of a run are assumption 86, their types assumption 30, the steward's request assumption 107.) -/
def Obligations.RecorderPage : Prop :=
  (∀ (e : Event) (l : List Event) (s : State), s.recRuns = true → s.events = e :: l → (s.rcd.queue.filter (fun x => x.prio
    != .critical)).length < 7936 → s.rcd.queue.length < 8192 → Does .recordEventAdmit s fun t => t.events = l ∧ t.rcd.queue
    = s.rcd.queue ++ [s.stamp e] ∧ t.rcd.lastOp = (s.stamp e).op) ∧
  (∀ (e : Event) (l : List Event) (s : State), s.recRuns = true → s.events = e :: l → e.prio = .bulk → 8192 ≤
    s.rcd.queue.length → Does .recordEventAdmit s fun t => t.events = l ∧ t.rcd.queue = s.rcd.queue ∧ t.fld (Reg.bank e.src
    Reg.recDrop) 15 0 = min 0xFFFF (s.fld (Reg.bank e.src Reg.recDrop) 15 0 + 1)) ∧
  (∀ (q : QEntry) (l : List (QEntry × Option Word)) (s : State), s.recRuns = true → s.fld Reg.recStat 1 0 ≠ 2 → s.rcd.due =
    (q, none) :: l → q.src ≠ pSTW ∨ q.type ≠ 0xE007 → (s.rcd.segs[s.rcd.wseg]?).map (fun g => g.state) = some .inUse → 0x40
    ≤ (s.reg Reg.recWptr).toNat → (s.reg Reg.recWptr).toNat + (q.record (s.reg Reg.recNextSeq)).length ≤ segBytes → Does
    (.recordWrite .ok) s fun t => t.rcd.due = l ∧ t.rcd.queue = s.rcd.queue ∧ t.reg Reg.recNextSeq = s.reg Reg.recNextSeq +
    1 ∧ t.reg Reg.recWptr = s.reg Reg.recWptr + BitVec.ofNat 32 (q.record (s.reg Reg.recNextSeq)).length ∧
    (t.rcd.segs[s.rcd.wseg]?).map (fun g => g.bytes) = (s.rcd.segs[s.rcd.wseg]?).map (fun g => flashAt g.bytes 0 (s.reg
    Reg.recWptr).toNat ++ q.record (s.reg Reg.recNextSeq))) ∧
  (∀ (q : QEntry) (k : Option Word) (l : List (QEntry × Option Word)) (r : ProgRes) (s : State), s.recRuns = true → s.fld
    Reg.recStat 1 0 ≠ 2 → s.rcd.due = (q, k) :: l → Gives (.recordWrite r) s
    ((({ s with rcd := { s.rcd with due := l } }.writeRec q k r).recShow).wedgeRecorded q r)) ∧
  (∀ (q : QEntry) (l : List QEntry) (s : State), s.recRuns = true → s.fld Reg.recStat 1 0 ≠ 2 → s.rcd.due = [] → nextQueued
    s.rcd.queue = some (q, l) → q.src ≠ pSTW ∨ q.type ≠ 0xE007 → (s.rcd.segs[s.rcd.wseg]?).map (fun g => g.state) = some
    .inUse → 0x40 ≤ (s.reg Reg.recWptr).toNat → (s.reg Reg.recWptr).toNat + (q.record (s.reg Reg.recNextSeq)).length ≤
    segBytes → Does (.recordWrite .ok) s fun t => t.rcd.queue = l ∧ (l = [] → t.rcd.drops = []) ∧ t.reg Reg.recNextSeq =
    s.reg Reg.recNextSeq + 1 ∧ t.reg Reg.recWptr = s.reg Reg.recWptr + BitVec.ofNat 32 (q.record (s.reg
    Reg.recNextSeq)).length ∧ (t.rcd.segs[s.rcd.wseg]?).map (fun g => g.bytes) = (s.rcd.segs[s.rcd.wseg]?).map (fun g =>
    flashAt g.bytes 0 (s.reg Reg.recWptr).toNat ++ q.record (s.reg Reg.recNextSeq))) ∧
  (∀ (q : QEntry) (l : List QEntry) (s : State), s.recRuns = true → s.fld Reg.recStat 1 0 ≠ 2 → s.rcd.due = [] → nextQueued
    s.rcd.queue = some (q, l) → q.src = pSTW ∧ q.type = 0xE007 → s.host.wedgeAt.isSome = true ∧ s.stewardUp = true →
    (s.rcd.segs[s.rcd.wseg]?).map (fun g => g.state) = some .inUse → 0x40 ≤ (s.reg Reg.recWptr).toNat → (s.reg
    Reg.recWptr).toNat + (q.record (s.reg Reg.recNextSeq)).length ≤ segBytes → Does (.recordWrite .ok) s fun t =>
    t.rst.running = true ∧ t.rst.sources.getLsbD 10 = true ∧ t.rst.reach ≤ 1 ∧ t.host.wedgeAt = none) ∧
  (∀ (i : Nat) (s : State), s.eraseRuns = some i → (Does (.segmentEraseDone true) s fun t => t.rcd.segs[i]? = some
    ⟨.erased, []⟩ ∧ t.rcd.queue = s.rcd.queue) ∧ Does (.segmentEraseDone false) s fun t => (t.rcd.segs[i]?).map (fun g =>
    g.state) = some .removed ∧ s.rcd.due.length + 1 ≤ t.rcd.due.length) ∧
  (∀ (s : State), s.recRuns = true → Does .suppressTimeout s fun t => t.rcd.drops = s.rcd.drops.filter (fun d => decide
    (s.opTime.toNat < d.since.toNat + 60000)) ∧ t.rcd.due.length = s.rcd.due.length + (s.rcd.drops.filter (fun d => decide
    (d.since.toNat + 60000 ≤ s.opTime.toNat))).length) ∧
  (∀ (s : State), s.domainUp 8 = true → s.fld Reg.recStat 1 0 = 0 → (Does (.recorderStart false) s fun t => t.fld
    Reg.recStat 1 0 = 2 ∧ t.events = [] ∧ t.rcd.due.length = s.rcd.due.length + s.events.length ∧ t.rcd.queue =
    s.rcd.queue) ∧ Does (.recorderStart true) s fun t => t.fld Reg.recStat 1 0 = 1 ∧ t.events = [] ∧ s.rcd.due.length +
    s.events.length + 1 ≤ t.rcd.due.length ∧ t.rcd.queue = s.rcd.queue) ∧
  (∀ (ms : Word) (s : State), s.domainUp 8 = true → s.fld Reg.recStat 1 0 = 2 → Does (.indexRebuilt ms) s fun t => t.fld
    Reg.recStat 1 0 = 1 ∧ s.rcd.due.length + 2 ≤ t.rcd.due.length ∧ t.rcd.queue = s.rcd.queue ∧ (s.rcd.valid = [] → t.reg
    Reg.recNextSeq = s.reg Reg.recNextSeq)) ∧
  (∀ (s : State), s.domainUp 8 = true → Gives (.recSubCmd true) s (s.refuse Reg.recSubCmd) ∧ Gives (.recRdCmdRead true) s
    (s.refuse Reg.recRdCmd)) ∧
  (∀ (a : Nat) (p : Prio) (s : State), s.domainUp 8 = true → a = s.addrOf Reg.recSubLo Reg.recSubHi → (1 ≤ leNat
    (s.mem.read a 2) ∧ leNat (s.mem.read a 2) ≤ 0x101F) ∨ (0xE000 ≤ leNat (s.mem.read a 2) ∧ leNat (s.mem.read a 2) ≤
    0xEFFF) → (s.mem.byte (a + 3)).toNat ≤ 2 → p = (if (s.mem.byte (a + 3)).toNat = 0 then .critical else if (s.mem.byte (a
    + 3)).toNat = 1 then .normal else .bulk) → leNat (s.mem.read (a + 4) 2) ≤ 4059 → Gives (.recSubCmd false) s
    (((s.recAdmit ⟨leNat (s.mem.read a 2), (s.mem.byte (a + 2)).toNat, p, s.mem.read (a + 8) (leNat (s.mem.read (a + 4)
    2))⟩).1.setFld Reg.recSubStat 1 0 (if (s.recAdmit ⟨leNat (s.mem.read a 2), (s.mem.byte (a + 2)).toNat, p, s.mem.read (a
    + 8) (leNat (s.mem.read (a + 4) 2))⟩).2 then 1 else 2)).recShow)) ∧
  (∀ (a : Nat) (s : State), s.domainUp 8 = true → a = s.addrOf Reg.recSubLo Reg.recSubHi → 3 ≤ (s.mem.byte (a + 3)).toNat ∨
    4059 < leNat (s.mem.read (a + 4) 2) ∨ leNat (s.mem.read a 2) = 0 ∨ (0x1020 ≤ leNat (s.mem.read a 2) ∧ leNat (s.mem.read
    a 2) ≤ 0xDFFF) ∨ 0xF000 ≤ leNat (s.mem.read a 2) → Gives (.recSubCmd false) s ((s.setFld Reg.recSubStat 1 0 3).logErr
    pREC 0x0102 (s.reg Reg.recSubLo)) ∧ Does (.recSubCmd false) s fun t => t.fld Reg.recSubStat 1 0 = 3 ∧ t.rcd = s.rcd ∧
    t.mem = s.mem) ∧
  (∀ (s : State), s.domainUp 8 = true → s.rcd.reading = none → Does (.recRdCmdRead false) s fun t => t.rcd.reading = some
    (s.readBatch (s.reg Reg.recRdCursor)) ∧ t.mem = s.mem) ∧
  (∀ (s : State), s.domainUp 8 = true → s.rcd.reading.isSome = true → Gives (.recRdCmdRead false) s (s.refuse
    Reg.recRdCmd)) ∧
  (∀ (r : ReadRun) (s : State), s.rcd.reading = some r → Does .recReadDone s fun t => t.rcd.reading = none ∧ t.mem =
    s.mem.write (s.addrOf Reg.recRdBaseLo Reg.recRdBaseHi) r.bytes ∧ t.reg Reg.recRdCursor = r.cursor ∧ t.reg
    Reg.recRdFirst = r.first ∧ t.fld Reg.recRdStat 15 0 = r.count % 0x10000)

/-- With HOST released: VERIFY and STORE start when the engine is IDLE with no command running and the library half of the spare bank is free, DISCARD empties the spare bank at once; from the acceptance of a HANDOVER until the trial has ended STORE and DISCARD log 0x0005, while a VERIFY may start in TRIAL and FALLBACK; HANDOVER of a spare bank that may run makes the handover PENDING and verifies it again, behind a VERIFY that runs, CANCEL returns a PENDING one to IDLE and leaves such a VERIFY. Otherwise each logs 0x0005. VERIFY gives result 0 for an image that passes and 0x0101, with the reason logged, for one that fails; STORE of one that passes makes it the spare bank's image, STAGED, and writes its library part into the free half of every lane that is not borne off and into its DRAM copy; a STORE whose flash fails (reason 6) leaves the bank EMPTY, one that fails another check leaves it as it was; the re-verification of a handover marks it ready, or returns the engine to IDLE. (The order of a HANDOVER and a VERIFY that runs is assumption 32.) -/
def Obligations.UpdateCommands : Prop :=
  (∀ (s : State), s.domainUp 8 = true → s.upd.running = none → s.upd.state = .idle → s.upd.libPend = false → (Does
    .updCmdVerify s fun t => t.upd.running = some .verify ∧ t.upd.state = .busy ∧ t.regs = s.regs) ∧ (Does .updCmdStore s
    fun t => t.upd.running = some .store ∧ t.upd.state = .busy ∧ t.regs = s.regs) ∧ Does .updCmdDiscard s fun t =>
    t.bankImg s.spare = [] ∧ t.bankState s.spare = .empty ∧ t.bankImg s.upd.runB = s.bankImg s.upd.runB ∧ t.fld
    Reg.updResult 15 0 = 0) ∧
  (∀ (s : State), s.domainUp 8 = true → s.upd.state ≠ .idle ∨ s.upd.libPend = true → Gives .updCmdStore s (s.refuse
    Reg.updCmd) ∧ Gives .updCmdDiscard s (s.refuse Reg.updCmd)) ∧
  (∀ (s : State), s.domainUp 8 = true → s.upd.running.isSome = true ∨ s.upd.state = .pending ∨ s.upd.state = .serialising ∨
    s.upd.state = .starting → Gives .updCmdVerify s (s.refuse Reg.updCmd) ∧ Gives .updCmdStore s (s.refuse Reg.updCmd) ∧
    Gives .updCmdDiscard s (s.refuse Reg.updCmd)) ∧
  (∀ (s : State), s.domainUp 8 = true → s.upd.running = none → s.upd.state = .trial ∨ s.upd.state = .fallback → Does
    .updCmdVerify s fun t => t.upd.running = some .verify ∧ t.upd.state = s.upd.state ∧ t.regs = s.regs) ∧
  (∀ (s : State), s.domainUp 8 = true → s.mayHandOver = true → Does .updCmdHandover s fun t => t.upd.state = .pending ∧
    t.upd.running = (if s.upd.running = some .verify then some .verify else some .reverify) ∧ t.upd.ready = false) ∧
  (∀ (s : State), s.domainUp 8 = true → s.mayHandOver = false → Gives .updCmdHandover s (s.refuse Reg.updCmd)) ∧
  (∀ (s : State), s.domainUp 8 = true → s.upd.state = .pending → Does .updCmdCancel s fun t => t.upd.state = (if
    s.upd.running = some .verify then .busy else .idle) ∧ t.upd.running = (if s.upd.running = some .verify then some
    .verify else none) ∧ t.fld Reg.updResult 15 0 = 0) ∧
  (∀ (s : State), s.domainUp 8 = true → s.upd.state ≠ .pending → Gives .updCmdCancel s (s.refuse Reg.updCmd)) ∧
  (∀ (f : Bool) (u s : State), s.upd.running = some .verify → u = s.updEnd.endImageClaim.reverifyNext → u.imageReason
    s.stagedImage (u.reg Reg.updStgLen).toNat true = none → Does (.updCmdDone f) s fun t => t.fld Reg.updResult 15 0 = 0 ∧
    t.upd.running = (if s.upd.state = .pending then some .reverify else none) ∧ t.bankImg s.spare = s.bankImg s.spare) ∧
  (∀ (f : Bool) (r : Nat) (u s : State), s.upd.running = some .verify → u = s.updEnd.endImageClaim.reverifyNext →
    u.imageReason s.stagedImage (u.reg Reg.updStgLen).toNat true = some r → Gives (.updCmdDone f) s (u.imageBad r) ∧ Does
    (.updCmdDone f) s fun t => t.fld Reg.updResult 15 0 = 0x0101 ∧ (s.fld (Reg.pgErr pUPD) 15 0 = 0 → bits (t.reg
    (Reg.pgErrInfo pUPD)) 3 0 = r % 16) ∧ t.bankImg s.spare = s.bankImg s.spare) ∧
  (∀ (s : State), s.upd.running = some .store → (s.updEnd.endImageClaim).imageReason s.updEnd.endImageClaim.stagedImage
    (s.updEnd.endImageClaim.reg Reg.updStgLen).toNat true = none → Does (.updCmdDone true) s fun t => t.bankImg s.spare =
    s.updEnd.endImageClaim.stagedImage ∧ t.bankState s.spare = .staged ∧ t.fld Reg.updResult 15 0 = 0 ∧ t.upd.running =
    none) ∧
  (∀ (n : Fin 16) (l : Bytes) (s : State), s.upd.running = some .store → (s.updEnd.endImageClaim).imageReason
    s.updEnd.endImageClaim.stagedImage (s.updEnd.endImageClaim.reg Reg.updStgLen).toNat true = none → l = imgLib
    s.updEnd.endImageClaim.stagedImage → l.length ≤ 0x100000 → s.mem.wf = true → s.lanes[n].state ≠ .borneOff → Does
    (.updCmdDone true) s fun t => t.mem.read (laneBase n + 0x200000 + (1 - b2n s.upd.half) * 0x100000) l.length = l ∧
    t.mem.read (fwStaging + 0x4000000 + (1 - b2n s.upd.half) * 0x100000) l.length = l) ∧
  (∀ (s : State), s.upd.running = some .store → (s.updEnd.endImageClaim).imageReason s.updEnd.endImageClaim.stagedImage
    (s.updEnd.endImageClaim.reg Reg.updStgLen).toNat false = some 6 → Does (.updCmdDone false) s fun t => t.bankImg s.spare
    = [] ∧ t.bankState s.spare = .empty ∧ t.bankImg s.upd.runB = s.bankImg s.upd.runB ∧ t.fld Reg.updResult 15 0 = 0x0101 ∧
    t.mem = s.mem) ∧
  (∀ (f : Bool) (r : Nat) (s : State), s.upd.running = some .store → (s.updEnd.endImageClaim).imageReason
    s.updEnd.endImageClaim.stagedImage (s.updEnd.endImageClaim.reg Reg.updStgLen).toNat f = some r → r ≠ 6 → Gives
    (.updCmdDone f) s (s.updEnd.endImageClaim.imageBad r) ∧ Does (.updCmdDone f) s fun t => t.bankImg s.spare = s.bankImg
    s.spare ∧ t.bankState s.spare = s.bankState s.spare) ∧
  (∀ (s : State), s.upd.running = some .reverify → Gives (.updCmdDone true) s (match ((s.writeMem fwStaging (s.bankImg
    s.spare)).modUpd fun u => { u with running := none }).imageReason (s.bankImg s.spare) (s.bankImg s.spare).length true
    with | some r => (((s.writeMem fwStaging (s.bankImg s.spare)).modUpd fun u => { u with running := none }).modUpd fun u
    => { u with state := .idle }).imageBad r | none => (((s.writeMem fwStaging (s.bankImg s.spare)).modUpd fun u =>
    { u with running := none }).modUpd fun u => { u with ready := true, verified := s.rsn }).updDone 0))

/-- A ready handover begins at the first turn edge that is at least 16 rounds after its verification. SERIALISED within its limit puts the block in its area, leads to STARTING with the spare bank's steward and gives its time; HANDED within its limit makes the spare bank run as TRIAL with the limit for its confirmation and the count of frames without a timestamp; of a return, it makes the former bank run again. Past its limit serialising fails with step 1 (a return goes on with the forward block), starting with step 2. At the next boundary the lanes that are released use the other library half, and a return ends: its trial bank is FAILED. In a trial CONFIRM with its key makes the running bank CONFIRMED and the other PREVIOUS, also where the bank choice record is not written; FAIL and the end of CONF_LIMIT lead to FALLBACK with their cause, and at the next turn edge the return begins with 0x0103. A confirmation after CONF_LIMIT finds the trial failed. HAP may not confirm; outside a trial the key and FAIL log 0x0005. (Details of a return are assumption 32, a choice record that is not written assumption 88, the handover blocks assumption 89.) -/
def Obligations.HandoverAndTrial : Prop :=
  (∀ (s : State), s.upd.state = .pending → s.upd.ready = true → s.atBoundary.turnEdge = true → later (s.upd.verified + 16)
    s.atBoundary.rsn = false → Does .handoverSwitchPoint s fun t => t.upd.state = .serialising ∧ t.upd.ret = false ∧
    t.upd.hoStart = t.opNs) ∧
  (∀ (ms : BitVec 16) (l : Bytes) (s : State), s.domainUp 8 = true → s.upd.state = .serialising → ms.toNat * 1000000 ≤
    s.serLimit → Does (.updHoSerialised false ⟨ms, l⟩) s fun t => t.upd.state = .starting ∧ t.fld Reg.updHoTime 15 0 =
    ms.toNat ∧ t.upd.stw.bankB = s.spare ∧ t.mem = s.mem.write (if s.upd.ret then HoBlock.back else HoBlock.forward).base
    (l.take 0x04000000)) ∧
  (∀ (ms : BitVec 16) (l : Bytes) (s : State), s.domainUp 8 = true → s.upd.state = .serialising → s.serLimit < ms.toNat *
    1000000 → Gives (.updHoSerialised false ⟨ms, l⟩) s (serLimitExpiry s)) ∧
  (∀ (ms : BitVec 16) (len : Word) (w : HandedWrites) (s : State), s.domainUp 8 = true → s.upd.state = .starting →
    s.startLimit < (s.fld Reg.updHoTime 15 0 + ms.toNat) * 1000000 → Gives (.updHoHanded false ms len w) s
    (startLimitExpiry s)) ∧
  (∀ (ms : BitVec 16) (len : Word) (w : HandedWrites) (s : State), s.domainUp 8 = true → s.upd.state = .starting →
    s.upd.ret = false → (s.fld Reg.updHoTime 15 0 + ms.toNat) * 1000000 ≤ s.startLimit → Does (.updHoHanded false ms len w)
    s fun t => t.upd.state = .trial ∧ t.upd.runB = !s.upd.runB ∧ t.bankState s.spare = .trial ∧ t.upd.libPend = true ∧
    t.upd.hoLate = BitVec.ofNat 32 s.lateFrames ∧ t.upd.deadline = t.opTime + BitVec.ofNat 48 s.confLimit ∧ t.fld
    Reg.updResult 15 0 = 0) ∧
  (∀ (ms : BitVec 16) (len : Word) (w : HandedWrites) (s : State), s.domainUp 8 = true → s.upd.state = .starting →
    s.upd.ret = true → (s.fld Reg.updHoTime 15 0 + ms.toNat) * 1000000 ≤ s.startLimit → Does (.updHoHanded false ms len w)
    s fun t => t.upd.state = .fallback ∧ t.upd.runB = !s.upd.runB ∧ t.upd.libPend = true ∧ t.fld Reg.updResult 15 0 =
    0x0103) ∧
  (∀ (ms : BitVec 16) (l : Bytes) (len : Word) (w : HandedWrites) (s : State), s.domainUp 8 = true → Gives
    (.updHoSerialised true ⟨ms, l⟩) s (s.refuse Reg.updHoCmd) ∧ Gives (.updHoHanded true ms len w) s (s.refuse
    Reg.updHoCmd)) ∧
  (∀ (s : State), s.upd.state = .serialising → s.upd.ret = false → Gives .serLimitExpiry s ((s.waitOp (s.upd.hoStart +
    s.serLimit)).hoFail 1) ∧ Does .serLimitExpiry s fun t => t.upd.state = .idle ∧ t.fld Reg.updResult 15 0 = 0x0102) ∧
  (∀ (s : State), s.upd.state = .serialising → s.upd.ret = true → Does .serLimitExpiry s fun t => t.upd.state = .starting ∧
    t.upd.useForward = true) ∧
  (∀ (s : State), s.upd.state = .starting → Gives .startLimitExpiry s ((s.waitOp (s.upd.hoStart + s.startLimit)).hoFail 2)
    ∧ Does .startLimitExpiry s fun t => t.upd.state = (if s.upd.ret then .fallback else .idle)) ∧
  (∀ (n : Fin 16) (s : State), s.upd.libPend = true → s.domainUp (4 + n.val / 4) = true → Does .librarySwitch s fun t =>
    t.upd.libPend = false ∧ t.upd.half = !s.upd.half ∧ t.fld (Reg.laneLib n) 0 0 = 1 - s.fld (Reg.laneLib n) 0 0 ∧
    (s.upd.ret = true → s.upd.state = .fallback → t.upd.state = .idle ∧ t.upd.ret = false ∧ t.bankState s.spare = .failed)) ∧
  (∀ (s : State), s.domainUp 8 = true → s.upd.state = .trial → s.opTime.toNat ≤ s.upd.deadline.toNat → (Does (.updConfirmOk
    false ⟨0xC0F1, true⟩) s fun t => t.upd.state = .idle ∧ t.bankState s.upd.runB = .confirmed ∧ t.bankState s.spare =
    .previous) ∧ (Does (.updConfirmOk false ⟨0xC0F1, false⟩) s fun t => t.upd.state = .idle ∧ t.bankState s.upd.runB =
    .confirmed ∧ t.upd.copy1 = s.upd.copy1 ∧ t.upd.copy2 = none) ∧ (∀ c, Does (.updConfirmFail false c) s fun t =>
    t.upd.state = .fallback ∧ t.upd.failCause = 2 ∧ t.upd.failCode = c.toNat) ∧ Does .confLimitExpiry s fun t =>
    t.upd.state = .fallback ∧ t.upd.failCause = 1) ∧
  (∀ (c : Byte) (w : Bool) (s : State), s.domainUp 8 = true → s.upd.state = .trial → s.upd.deadline.toNat < s.opTime.toNat
    → Gives (.updConfirmOk false ⟨0xC0F1, w⟩) s ((confLimitExpiry s).refuse Reg.updConfirm) ∧ Gives (.updConfirmFail false
    c) s ((confLimitExpiry s).refuse Reg.updConfirm) ∧ Does (.updConfirmOk false ⟨0xC0F1, w⟩) s fun t => t.upd.state =
    .fallback ∧ t.upd.failCause = 1) ∧
  (∀ (k : BitVec 16) (c : Byte) (w : Bool) (s : State), s.domainUp 8 = true → Gives (.updConfirmOk true ⟨k, w⟩) s (s.refuse
    Reg.updConfirm) ∧ Gives (.updConfirmFail true c) s (s.refuse Reg.updConfirm) ∧ (s.upd.state ≠ .trial → Gives
    (.updConfirmOk false ⟨0xC0F1, w⟩) s (s.refuse Reg.updConfirm) ∧ Gives (.updConfirmFail false c) s (s.refuse
    Reg.updConfirm))) ∧
  (∀ (s : State), s.upd.state = .fallback → s.upd.libPend = false → s.atBoundary.turnEdge = true → Does .fallbackReturn s
    fun t => t.upd.state = .serialising ∧ t.upd.ret = true ∧ bits (t.reg (Reg.pgErr pUPD)) 31 16 = min 0xFFFF (bits (s.reg
    (Reg.pgErr pUPD)) 31 16 + 1))

/-- With HOST down, or over an IP version, to a port or in a fragment for which HAP is not served, a datagram does nothing. Where it is served: one that fails a check of R466 is counted in HAP_CNT by the check and leaves key slots, memory and the output alone. An accepted counter does not pass again. A request for the steward is answered BUSY during a handover, while no steward runs, and when it was not taken within 20 ms; with the commissioning key every request but READ and WRITE is answered REFUSED. An accepted message of TYPE 5 is dropped and counted as malformed. Every response carries the raised send counter of its slot. (That BUSY is also the answer while no steward runs is the model's choice: assumption 24.) -/
def Obligations.HapIntake : Prop :=
  (∀ (n : Nat) (c : Instr) (src : HapSrc) (msg : Bytes) (s : State), s.domainUp 8 = true → s.hapServed src = true →
    s.hapCheck msg = some n → c ∈ [Instr.hapRead src msg, Instr.hapWrite src msg, Instr.hapPlantWrite src msg,
    Instr.ringPush src msg, Instr.ringPull src msg, Instr.boardChunk src msg, Instr.updateChunk src msg, Instr.recRead src
    msg, Instr.resetArm src msg, Instr.resetFire src msg, .hapBusyTimeout src msg] → Does c s fun t => t.fld Reg.hapCnt 31
    16 = (if n = 4 then min 0xFFFF (s.fld Reg.hapCnt 31 16 + 1) else s.fld Reg.hapCnt 31 16) ∧ t.fld Reg.hapCnt 15 0 = (if
    n = 4 then s.fld Reg.hapCnt 15 0 else min 0xFFFF (s.fld Reg.hapCnt 15 0 + 1)) ∧ t.host.slots = s.host.slots ∧ t.out =
    s.out ∧ t.mem = s.mem) ∧
  (∀ (c : Instr) (src : HapSrc) (msg : Bytes) (s : State), s.domainUp 8 = false ∨ s.hapServed src = false → c ∈
    [Instr.hapRead src msg, Instr.hapWrite src msg, Instr.hapPlantWrite src msg, Instr.ringPush src msg, Instr.ringPull src
    msg, Instr.boardChunk src msg, Instr.updateChunk src msg, Instr.recRead src msg, Instr.resetArm src msg,
    Instr.resetFire src msg, .hapBusyTimeout src msg] → Gives c s s) ∧
  (∀ (c : Instr) (src : HapSrc) (msg : Bytes) (s : State), s.domainUp 8 = true → s.hapServed src = true → s.hapCheck msg =
    none → (hapParse src msg).type = 5 → c ∈ [Instr.hapRead src msg, Instr.hapWrite src msg, Instr.hapPlantWrite src msg,
    Instr.ringPush src msg, Instr.ringPull src msg, Instr.boardChunk src msg, Instr.updateChunk src msg, Instr.recRead src
    msg, Instr.resetArm src msg, Instr.resetFire src msg, .hapBusyTimeout src msg] → Gives c s
    { (s.hapAccept msg) with host := { (s.hapAccept msg).host with malformed := s.host.malformed + 1 } }) ∧
  (∀ (k : KeySlot) (c : BitVec 64), k.passes c = true → (k.take c).passes c = false ∧ k.high ≤ (k.take c).high ∧ c ≤
    (k.take c).high ∧ (k.take c).key = k.key) ∧
  (∀ (x : Nat × Instr) (src : HapSrc) (msg : Bytes) (s : State), s.domainUp 8 = true → s.hapServed src = true → s.hapCheck
    msg = none → x ∈ [((1 : Nat), Instr.hapRead src msg), ((3 : Nat), Instr.ringPush src msg), ((4 : Nat), Instr.ringPull
    src msg), ((8 : Nat), Instr.recRead src msg)] → (hapParse src msg).type = x.1 → s.handingOver = true ∨ s.stewardUp =
    false → Gives x.2 s ((s.hapAccept msg).hapReply (hapParse src msg) 2 0 [])) ∧
  (∀ (src : HapSrc) (msg : Bytes) (s : State), s.domainUp 8 = true → s.hapServed src = true → s.hapCheck msg = none → 1 ≤
    (hapParse src msg).type ∧ (hapParse src msg).type ≤ 8 → (hapParse src msg).type ≠ 5 ∧ (hapParse src msg).type ≠ 6 ∧
    (hapParse src msg).type ≠ 7 → (hapParse src msg).key ≠ 0xFF → (hapParse src msg).segs = 1 → s.inRecovery = false →
    Gives (.hapBusyTimeout src msg) s ((s.hapAccept msg).hapReply (hapParse src msg) 2 0 []) ∧ Does (.hapBusyTimeout src
    msg) s fun t => t.out.length = s.out.length + 1 ∧ t.regs = s.regs ∧ t.mem = s.mem) ∧
  (∀ (x : Nat × Instr) (src : HapSrc) (msg : Bytes) (s : State), s.domainUp 8 = true → s.hapServed src = true → s.hapCheck
    msg = none → x ∈ [((3 : Nat), Instr.ringPush src msg), ((4 : Nat), Instr.ringPull src msg), ((6 : Nat),
    Instr.boardChunk src msg), ((7 : Nat), Instr.updateChunk src msg), ((8 : Nat), Instr.recRead src msg), ((9 : Nat),
    Instr.resetArm src msg), ((10 : Nat), Instr.resetFire src msg)] → (hapParse src msg).type = x.1 → (hapParse src
    msg).key = 0xFF → s.handingOver = false ∧ s.stewardUp = true ∧ s.inRecovery = false → Gives x.2 s ((s.hapAccept
    msg).hapReply (hapParse src msg) 3 0 [])) ∧
  (∀ (k : Fin 8) (m : HapMsg) (st : Nat) (b : Bytes) (s : State), m.key = k.val → (s.hapReply m st 0 b).host.slots[k].send
    = s.host.slots[k].send + 1 ∧ (s.hapReply m st 0 b).out.length = s.out.length + 1 ∧ (s.hapReply m st 0 b).regs = s.regs)

/-- A well-formed request that is served: READ and WRITE of registers act on each item in turn; READ and WRITE of the host window read and write memory at the window of the key slot; a plant write of a leader is kept for the fourth round from now, any other state refuses it; RING_PUSH on a ring of the key slot with room writes its descriptors into memory at the places from the head on and moves the head, with no room it answers NO_ROOM; RING_PULL reads descriptors. -/
def Obligations.HapData : Prop :=
  (∀ (src : HapSrc) (msg : Bytes) (s : State), s.hears src msg 1 true → (hapParse src msg).space = 0 → 1 ≤ (hapParse src
    msg).count ∧ (hapParse src msg).count ≤ 320 → (hapParse src msg).body.length = 4 + 4 * (hapParse src msg).count →
    (hapParse src msg).allowed 4 = true → Gives (.hapRead src msg) s ((((hapParse src msg).offsets 4).foldl (fun (r :
    ItemRun) a => r.read a) (.start (s.hapAccept msg))).reply (hapParse src msg))) ∧
  (∀ (vals : List Word) (src : HapSrc) (msg : Bytes) (s : State), s.hears src msg 2 true → (hapParse src msg).space = 0 → 1
    ≤ (hapParse src msg).count ∧ (hapParse src msg).count ≤ 160 → (hapParse src msg).body.length = 4 + 8 * (hapParse src
    msg).count → (hapParse src msg).allowed 8 = true → vals = (List.range (hapParse src msg).count).map (fun i => bytesWord
    (slice (hapParse src msg).body (8 + 8 * i) 4)) → Gives (.hapWrite src msg) s (((((hapParse src msg).offsets 8).zip
    vals).foldl (fun (r : ItemRun) x => r.write (BitVec.ofNat 8 (hapParse src msg).key) x.1 x.2) (.start (s.hapAccept
    msg))).reply (hapParse src msg))) ∧
  (∀ (src : HapSrc) (msg : Bytes) (s : State), s.hears src msg 1 false → (hapParse src msg).space = 2 → (hapParse src
    msg).count = 0 ∧ (hapParse src msg).body.length = 12 → 1 ≤ leAt (hapParse src msg).body 8 4 ∧ leAt (hapParse src
    msg).body 8 4 ≤ 1280 → leAt (hapParse src msg).body 4 4 + leAt (hapParse src msg).body 8 4 ≤ 0x01000000 → Gives
    (.hapRead src msg) s ((s.hapAccept msg).hapReply (hapParse src msg) 0 0 (s.mem.read (windowBase (hapParse src msg).key
    + leAt (hapParse src msg).body 4 4) (leAt (hapParse src msg).body 8 4))) ∧ Does (.hapRead src msg) s fun t =>
    t.out.length = s.out.length + 1 ∧ t.regs = s.regs ∧ t.mem = s.mem) ∧
  (∀ (src : HapSrc) (msg : Bytes) (s : State), s.hears src msg 2 false → (hapParse src msg).space = 2 → 1 ≤ (hapParse src
    msg).count ∧ (hapParse src msg).count ≤ 1280 → (hapParse src msg).body.length = 8 + (hapParse src msg).count → leAt
    (hapParse src msg).body 4 4 + (hapParse src msg).count ≤ 0x01000000 → Does (.hapWrite src msg) s fun t => t.mem =
    s.mem.write (windowBase (hapParse src msg).key + leAt (hapParse src msg).body 4 4) ((hapParse src msg).body.drop 8) ∧
    t.regs = s.regs ∧ t.lanes = s.lanes) ∧
  (∀ (src : HapSrc) (msg : Bytes) (s : State), s.hears src msg 2 false → (hapParse src msg).space = 1 → 1 ≤ (hapParse src
    msg).count ∧ (hapParse src msg).count ≤ 320 → (hapParse src msg).body.length = 8 + 4 * (hapParse src msg).count →
    (s.state ≠ .leader → Gives (.hapPlantWrite src msg) s ((s.hapAccept msg).hapReply (hapParse src msg) 3 0 [])) ∧
    (s.state = .leader → leAt (hapParse src msg).body 4 4 % 4 = 0 → leAt (hapParse src msg).body 4 4 + 4 * (hapParse src
    msg).count ≤ s.instLen → s.changeBy (s.rsn + 4) = false → Does (.hapPlantWrite src msg) s fun t => t.pair.plant =
    s.pair.plant ++ [⟨s.rsn + 4, leAt (hapParse src msg).body 4 4, (List.range (hapParse src msg).count).map fun i =>
    bytesWord (slice ((hapParse src msg).body.drop 8) (4 * i) 4)⟩] ∧ t.mem = s.mem)) ∧
  (∀ (r n : Nat) (src : HapSrc) (msg : Bytes) (s : State), s.hears src msg 3 false → r = leAt (hapParse src msg).body 0 1 →
    n = (hapParse src msg).count → 1 ≤ n ∧ n ≤ 40 → (hapParse src msg).body.length = 4 + 32 * n → s.ownsRing (hapParse src
    msg) r = true → (s.ringSize r < (s.reg (Reg.ringHead r) - s.reg (Reg.ringTail r)).toNat + n → Gives (.ringPush src msg)
    s ((s.hapAccept msg).hapReply (hapParse src msg) 6 0 [])) ∧ ((s.reg (Reg.ringHead r) - s.reg (Reg.ringTail r)).toNat +
    n ≤ s.ringSize r → Does (.ringPush src msg) s fun t => t.reg (Reg.ringHead r) = s.reg (Reg.ringHead r) + BitVec.ofNat
    32 n ∧ t.reg (Reg.ringTail r) = s.reg (Reg.ringTail r) ∧ t.mem = (List.range n).foldl (fun m i => m.write (s.descAddr r
    (s.reg (Reg.ringHead r) + BitVec.ofNat 32 i).toNat) (slice (hapParse src msg).body (4 + 32 * i) 32)) s.mem)) ∧
  (∀ (r n : Nat) (src : HapSrc) (msg : Bytes) (s : State), s.hears src msg 4 false → r = leAt (hapParse src msg).body 0 1 →
    n = (hapParse src msg).count → n ≤ 40 → (hapParse src msg).body.length = 8 → s.ownsRing (hapParse src msg) r = true →
    Gives (.ringPull src msg) s ((s.hapAccept msg).hapReply (hapParse src msg) 0 0 (wordBytes (s.reg (Reg.ringHead r)) ++
    wordBytes (s.reg (Reg.ringTail r)) ++ wordBytes (s.reg (Reg.ringStat r)) ++ (List.range n).flatMap fun i => s.mem.read
    (s.descAddr r (BitVec.ofNat 32 (leAt (hapParse src msg).body 4 4) + BitVec.ofNat 32 i).toNat) 32)) ∧ Does (.ringPull
    src msg) s fun t => t.out.length = s.out.length + 1 ∧ t.regs = s.regs ∧ t.mem = s.mem) ∧
  (∀ (src : HapSrc) (msg : Bytes) (s : State), s.hears src msg 3 false → 1 ≤ (hapParse src msg).count ∧ (hapParse src
    msg).count ≤ 40 → (hapParse src msg).body.length = 4 + 32 * (hapParse src msg).count → s.ownsRing (hapParse src msg)
    (leAt (hapParse src msg).body 0 1) = false → Gives (.ringPush src msg) s ((s.hapAccept msg).hapReply (hapParse src msg)
    8 0 []))

/-- A segment that is served and new writes its bytes to the staging area and claims the area with the largest end so far; the first of a transaction opens a context, a later one joins it, the last ends it with the length of the staged data and an OK. A duplicate does no more than touch the claim. Answered without effect: a bad length or a SEG outside the transaction (MALFORMED), bytes beyond the area (RANGE), an area that is read or that another key claims (REFUSED), a 17th context (NO_ROOM). A late segment of a discarded transaction is counted, the first answered STALE. A transaction is discarded 50 ms after its last segment, counted, and answered with the round of that segment; a claim is dropped after its 60 s. (How those instants are reached is the model's choice: assumption 58.) -/
def Obligations.HapChunks : Prop :=
  (∀ (src : HapSrc) (msg : Bytes) (s : State), s.hears src msg 6 false → 1 ≤ leAt (hapParse src msg).body 4 2 ∧ leAt
    (hapParse src msg).body 4 2 ≤ 1376 → (hapParse src msg).body.length = 8 + leAt (hapParse src msg).body 4 2 → s.orphanOf
    (hapParse src msg) = none → s.stagingBusy false = false → s.host.boardClaim.all (fun k => k.key == (hapParse src
    msg).key) = true → leAt (hapParse src msg).body 0 4 + leAt (hapParse src msg).body 4 2 ≤ 0x10000000 → s.reasmOf
    (hapParse src msg) = none → s.host.reasm.length < 16 → (1 < (hapParse src msg).segs → Does (.boardChunk src msg) s fun
    t => t.mem = s.mem.write (boardStaging + leAt (hapParse src msg).body 0 4) (slice (hapParse src msg).body 8 (leAt
    (hapParse src msg).body 4 2)) ∧ t.host.boardClaim = some ⟨(hapParse src msg).key, max ((s.host.boardClaim.map fun k =>
    k.top).getD 0) (leAt (hapParse src msg).body 0 4 + leAt (hapParse src msg).body 4 2), s.opNs⟩ ∧ t.host.reasm =
    s.host.reasm ++ [⟨(hapParse src msg).key, (hapParse src msg).xid, 6, (hapParse src msg).segs, [(hapParse src msg).seg],
    leAt (hapParse src msg).body 4 2, src.addr, s.opNs, s.rsn⟩] ∧ t.regs = s.regs ∧ t.out = s.out) ∧ ((hapParse src
    msg).segs = 1 → Does (.boardChunk src msg) s fun t => t.mem = s.mem.write (boardStaging + leAt (hapParse src msg).body
    0 4) (slice (hapParse src msg).body 8 (leAt (hapParse src msg).body 4 2)) ∧ t.host.boardClaim = some ⟨(hapParse src
    msg).key, max ((s.host.boardClaim.map fun k => k.top).getD 0) (leAt (hapParse src msg).body 0 4 + leAt (hapParse src
    msg).body 4 2), s.opNs⟩ ∧ t.reg Reg.brdStgLen = BitVec.ofNat 32 (max ((s.host.boardClaim.map fun k => k.top).getD 0)
    (leAt (hapParse src msg).body 0 4 + leAt (hapParse src msg).body 4 2)) ∧ t.host.reasm = s.host.reasm ∧ t.out.length =
    s.out.length + 1)) ∧
  (∀ (c : Reasm) (src : HapSrc) (msg : Bytes) (s : State), s.hears src msg 6 false → 1 ≤ leAt (hapParse src msg).body 4 2 ∧
    leAt (hapParse src msg).body 4 2 ≤ 1376 → (hapParse src msg).body.length = 8 + leAt (hapParse src msg).body 4 2 →
    s.orphanOf (hapParse src msg) = none → s.stagingBusy false = false → s.host.boardClaim.all (fun k => k.key == (hapParse
    src msg).key) = true → leAt (hapParse src msg).body 0 4 + leAt (hapParse src msg).body 4 2 ≤ 0x10000000 → s.reasmOf
    (hapParse src msg) = some c → (hapParse src msg).seg < c.segs → c.got.contains (hapParse src msg).seg = false → ((sins
    c.got (hapParse src msg).seg).length ≠ c.segs → Does (.boardChunk src msg) s fun t => t.mem = s.mem.write (boardStaging
    + leAt (hapParse src msg).body 0 4) (slice (hapParse src msg).body 8 (leAt (hapParse src msg).body 4 2)) ∧
    t.host.boardClaim = some ⟨(hapParse src msg).key, max ((s.host.boardClaim.map fun k => k.top).getD 0) (leAt (hapParse
    src msg).body 0 4 + leAt (hapParse src msg).body 4 2), s.opNs⟩ ∧ t.host.reasm = s.otherReasm (hapParse src msg) ++
    [⟨c.key, c.xid, c.type, c.segs, sins c.got (hapParse src msg).seg, c.bytes + leAt (hapParse src msg).body 4 2, c.addr,
    s.opNs, s.rsn⟩] ∧ t.regs = s.regs ∧ t.out = s.out) ∧ ((sins c.got (hapParse src msg).seg).length = c.segs → Does
    (.boardChunk src msg) s fun t => t.mem = s.mem.write (boardStaging + leAt (hapParse src msg).body 0 4) (slice (hapParse
    src msg).body 8 (leAt (hapParse src msg).body 4 2)) ∧ t.host.boardClaim = some ⟨(hapParse src msg).key, max
    ((s.host.boardClaim.map fun k => k.top).getD 0) (leAt (hapParse src msg).body 0 4 + leAt (hapParse src msg).body 4 2),
    s.opNs⟩ ∧ t.reg Reg.brdStgLen = BitVec.ofNat 32 (max ((s.host.boardClaim.map fun k => k.top).getD 0) (leAt (hapParse
    src msg).body 0 4 + leAt (hapParse src msg).body 4 2)) ∧ t.host.reasm = s.otherReasm (hapParse src msg) ∧ t.out.length
    = s.out.length + 1)) ∧
  (∀ (src : HapSrc) (msg : Bytes) (s : State), s.hears src msg 7 false → 1 ≤ leAt (hapParse src msg).body 4 2 ∧ leAt
    (hapParse src msg).body 4 2 ≤ 1376 → (hapParse src msg).body.length = 8 + leAt (hapParse src msg).body 4 2 → s.orphanOf
    (hapParse src msg) = none → s.stagingBusy true = false → s.host.imageClaim.all (fun k => k.key == (hapParse src
    msg).key) = true → leAt (hapParse src msg).body 0 4 + leAt (hapParse src msg).body 4 2 ≤ 0x4000000 → s.reasmOf
    (hapParse src msg) = none → s.host.reasm.length < 16 → (1 < (hapParse src msg).segs → Does (.updateChunk src msg) s fun
    t => t.mem = s.mem.write (fwStaging + leAt (hapParse src msg).body 0 4) (slice (hapParse src msg).body 8 (leAt
    (hapParse src msg).body 4 2)) ∧ t.host.imageClaim = some ⟨(hapParse src msg).key, max ((s.host.imageClaim.map fun k =>
    k.top).getD 0) (leAt (hapParse src msg).body 0 4 + leAt (hapParse src msg).body 4 2), s.opNs⟩ ∧ t.host.reasm =
    s.host.reasm ++ [⟨(hapParse src msg).key, (hapParse src msg).xid, 7, (hapParse src msg).segs, [(hapParse src msg).seg],
    leAt (hapParse src msg).body 4 2, src.addr, s.opNs, s.rsn⟩] ∧ t.regs = s.regs ∧ t.out = s.out) ∧ ((hapParse src
    msg).segs = 1 → Does (.updateChunk src msg) s fun t => t.mem = s.mem.write (fwStaging + leAt (hapParse src msg).body 0
    4) (slice (hapParse src msg).body 8 (leAt (hapParse src msg).body 4 2)) ∧ t.host.imageClaim = some ⟨(hapParse src
    msg).key, max ((s.host.imageClaim.map fun k => k.top).getD 0) (leAt (hapParse src msg).body 0 4 + leAt (hapParse src
    msg).body 4 2), s.opNs⟩ ∧ t.reg Reg.updStgLen = BitVec.ofNat 32 (max ((s.host.imageClaim.map fun k => k.top).getD 0)
    (leAt (hapParse src msg).body 0 4 + leAt (hapParse src msg).body 4 2)) ∧ t.host.reasm = s.host.reasm ∧ t.out.length =
    s.out.length + 1)) ∧
  (∀ (c : Reasm) (src : HapSrc) (msg : Bytes) (s : State), s.hears src msg 7 false → 1 ≤ leAt (hapParse src msg).body 4 2 ∧
    leAt (hapParse src msg).body 4 2 ≤ 1376 → (hapParse src msg).body.length = 8 + leAt (hapParse src msg).body 4 2 →
    s.orphanOf (hapParse src msg) = none → s.stagingBusy true = false → s.host.imageClaim.all (fun k => k.key == (hapParse
    src msg).key) = true → leAt (hapParse src msg).body 0 4 + leAt (hapParse src msg).body 4 2 ≤ 0x4000000 → s.reasmOf
    (hapParse src msg) = some c → (hapParse src msg).seg < c.segs → c.got.contains (hapParse src msg).seg = false → ((sins
    c.got (hapParse src msg).seg).length ≠ c.segs → Does (.updateChunk src msg) s fun t => t.mem = s.mem.write (fwStaging +
    leAt (hapParse src msg).body 0 4) (slice (hapParse src msg).body 8 (leAt (hapParse src msg).body 4 2)) ∧
    t.host.imageClaim = some ⟨(hapParse src msg).key, max ((s.host.imageClaim.map fun k => k.top).getD 0) (leAt (hapParse
    src msg).body 0 4 + leAt (hapParse src msg).body 4 2), s.opNs⟩ ∧ t.host.reasm = s.otherReasm (hapParse src msg) ++
    [⟨c.key, c.xid, c.type, c.segs, sins c.got (hapParse src msg).seg, c.bytes + leAt (hapParse src msg).body 4 2, c.addr,
    s.opNs, s.rsn⟩] ∧ t.regs = s.regs ∧ t.out = s.out) ∧ ((sins c.got (hapParse src msg).seg).length = c.segs → Does
    (.updateChunk src msg) s fun t => t.mem = s.mem.write (fwStaging + leAt (hapParse src msg).body 0 4) (slice (hapParse
    src msg).body 8 (leAt (hapParse src msg).body 4 2)) ∧ t.host.imageClaim = some ⟨(hapParse src msg).key, max
    ((s.host.imageClaim.map fun k => k.top).getD 0) (leAt (hapParse src msg).body 0 4 + leAt (hapParse src msg).body 4 2),
    s.opNs⟩ ∧ t.reg Reg.updStgLen = BitVec.ofNat 32 (max ((s.host.imageClaim.map fun k => k.top).getD 0) (leAt (hapParse
    src msg).body 0 4 + leAt (hapParse src msg).body 4 2)) ∧ t.host.reasm = s.otherReasm (hapParse src msg) ∧ t.out.length
    = s.out.length + 1)) ∧
  (∀ (x : Nat × Bool × Instr) (src : HapSrc) (msg : Bytes) (s : State), x ∈ [((6 : Nat), false, Instr.boardChunk src msg),
    (7, true, .updateChunk src msg)] → s.hears src msg x.1 false → leAt (hapParse src msg).body 4 2 = 0 ∨ 1376 < leAt
    (hapParse src msg).body 4 2 ∨ (hapParse src msg).body.length ≠ 8 + leAt (hapParse src msg).body 4 2 → Gives x.2.2 s
    (((s.hapAccept msg).touchClaim x.2.1 (hapParse src msg)).hapReply (hapParse src msg) 5 0 [])) ∧
  (∀ (x : Nat × Bool × Instr) (o : Orphan) (src : HapSrc) (msg : Bytes) (s : State), x ∈ [((6 : Nat), false,
    Instr.boardChunk src msg), (7, true, .updateChunk src msg)] → s.hears src msg x.1 false → 1 ≤ leAt (hapParse src
    msg).body 4 2 ∧ leAt (hapParse src msg).body 4 2 ≤ 1376 → (hapParse src msg).body.length = 8 + leAt (hapParse src
    msg).body 4 2 → s.orphanOf (hapParse src msg) = some o → (o.answered = true → Gives x.2.2 s (((s.hapAccept
    msg).touchClaim x.2.1 (hapParse src msg)).incSat Reg.hapCnt2 15 0)) ∧ (o.answered = false → Does x.2.2 s fun t => t.fld
    Reg.hapCnt2 15 0 = min 0xFFFF (s.fld Reg.hapCnt2 15 0 + 1) ∧ t.host.orphans = s.host.orphans.map (fun y => if y = o
    then { y with answered := true } else y) ∧ t.out.length = s.out.length + 1 ∧ t.mem = s.mem)) ∧
  (∀ (x : Nat × Bool × Instr) (src : HapSrc) (msg : Bytes) (s : State), x ∈ [((6 : Nat), false, Instr.boardChunk src msg),
    (7, true, .updateChunk src msg)] → s.hears src msg x.1 false → 1 ≤ leAt (hapParse src msg).body 4 2 ∧ leAt (hapParse
    src msg).body 4 2 ≤ 1376 → (hapParse src msg).body.length = 8 + leAt (hapParse src msg).body 4 2 → s.orphanOf (hapParse
    src msg) = none → s.stagingBusy x.2.1 = true ∨ (s.claim x.2.1).any (fun k => k.key != (hapParse src msg).key) = true →
    Gives x.2.2 s (((s.hapAccept msg).touchClaim x.2.1 (hapParse src msg)).hapReply (hapParse src msg) 3 0 [])) ∧
  (∀ (x : Nat × Bool × Instr) (src : HapSrc) (msg : Bytes) (s : State), x ∈ [((6 : Nat), false, Instr.boardChunk src msg),
    (7, true, .updateChunk src msg)] → s.hears src msg x.1 false → 1 ≤ leAt (hapParse src msg).body 4 2 ∧ leAt (hapParse
    src msg).body 4 2 ≤ 1376 → (hapParse src msg).body.length = 8 + leAt (hapParse src msg).body 4 2 → s.orphanOf (hapParse
    src msg) = none → s.stagingBusy x.2.1 = false → (s.claim x.2.1).all (fun k => k.key == (hapParse src msg).key) = true →
    (if x.2.1 then 0x4000000 else 0x10000000) < leAt (hapParse src msg).body 0 4 + leAt (hapParse src msg).body 4 2 → Gives
    x.2.2 s (((s.hapAccept msg).touchClaim x.2.1 (hapParse src msg)).hapReply (hapParse src msg) 8 0 [])) ∧
  (∀ (x : Nat × Bool × Instr) (src : HapSrc) (msg : Bytes) (s : State), x ∈ [((6 : Nat), false, Instr.boardChunk src msg),
    (7, true, .updateChunk src msg)] → s.hears src msg x.1 false → 1 ≤ leAt (hapParse src msg).body 4 2 ∧ leAt (hapParse
    src msg).body 4 2 ≤ 1376 → (hapParse src msg).body.length = 8 + leAt (hapParse src msg).body 4 2 → s.orphanOf (hapParse
    src msg) = none → s.stagingBusy x.2.1 = false → (s.claim x.2.1).all (fun k => k.key == (hapParse src msg).key) = true →
    leAt (hapParse src msg).body 0 4 + leAt (hapParse src msg).body 4 2 ≤ (if x.2.1 then 0x4000000 else 0x10000000) →
    s.reasmOf (hapParse src msg) = none → 16 ≤ s.host.reasm.length → Gives x.2.2 s (((s.hapAccept msg).touchClaim x.2.1
    (hapParse src msg)).hapReply (hapParse src msg) 6 0 [])) ∧
  (∀ (x : Nat × Bool × Instr) (c : Reasm) (src : HapSrc) (msg : Bytes) (s : State), x ∈ [((6 : Nat), false,
    Instr.boardChunk src msg), (7, true, .updateChunk src msg)] → s.hears src msg x.1 false → 1 ≤ leAt (hapParse src
    msg).body 4 2 ∧ leAt (hapParse src msg).body 4 2 ≤ 1376 → (hapParse src msg).body.length = 8 + leAt (hapParse src
    msg).body 4 2 → s.orphanOf (hapParse src msg) = none → s.stagingBusy x.2.1 = false → (s.claim x.2.1).all (fun k =>
    k.key == (hapParse src msg).key) = true → leAt (hapParse src msg).body 0 4 + leAt (hapParse src msg).body 4 2 ≤ (if
    x.2.1 then 0x4000000 else 0x10000000) → s.reasmOf (hapParse src msg) = some c → (c.segs ≤ (hapParse src msg).seg →
    Gives x.2.2 s (((s.hapAccept msg).touchClaim x.2.1 (hapParse src msg)).hapReply (hapParse src msg) 5 0 [])) ∧
    ((hapParse src msg).seg < c.segs → c.got.contains (hapParse src msg).seg = true → Gives x.2.2 s ((s.hapAccept
    msg).touchClaim x.2.1 (hapParse src msg)))) ∧
  (∀ (k : BitVec 8) (x : Word) (c : Reasm) (s : State), s.host.reasm.find? (fun r => r.key == k.toNat && r.xid == x) = some
    c → Does (.reassemblyTimeout k x) s fun t => t.host.reasm = s.host.reasm.filter (fun r => !(r.key == c.key && r.xid ==
    x && r.type == c.type)) ∧ t.fld Reg.hapCnt2 31 16 = min 0xFFFF (s.fld Reg.hapCnt2 31 16 + 1) ∧ t.host.orphans.getLast?
    = some ⟨c.key, x, t.opTime + 10000, false⟩ ∧ t.out = (s.hapSend c.addr c.key c.type 1 7 x 0 1 (s.hapCommon c.rsn 0 ++
    toLe 2 c.got.length ++ zeros 2 ++ toLe 4 c.bytes)).out ∧ t.mem = s.mem) ∧
  (∀ (k : BitVec 8) (x : Word) (s : State), s.host.reasm.find? (fun r => r.key == k.toNat && r.xid == x) = none → Gives
    (.reassemblyTimeout k x) s s) ∧
  (∀ (i : Bool) (s : State), (s.claim i = none → Gives (.stagingClaimTimeout i) s s) ∧ ∀ k : Claim, s.claim i = some k →
    Gives (.stagingClaimTimeout i) s ((s.waitOp (k.at_ + 60000000000)).setClaim i none))

/-- RESET_ARM arms the pair for its key slot and reach for one second; RESET_FIRE always disarms it, and when it matches an arm that has not lapsed the reset asserts 5 ms later, otherwise it answers NOT_ARMED. An arm lapses after its second. REC_READ reads a batch of records into the read registers, or answers MALFORMED when its limit is out of range. (From when the second of an arm counts is assumption 90.) -/
def Obligations.HapResetPair : Prop :=
  (∀ (r : Nat) (src : HapSrc) (msg : Bytes) (s : State), s.hears src msg 9 false → (hapParse src msg).reach = some r → Does
    (.resetArm src msg) s fun t => t.reg Reg.hapArm = BitVec.ofNat 32 (1 + r * 2 + (hapParse src msg).key * 16) ∧
    t.host.armEnd = s.opNs + 1000000000 ∧ t.out.length = s.out.length + 1) ∧
  (∀ (r : Nat) (src : HapSrc) (msg : Bytes) (s : State), s.hears src msg 10 false → (hapParse src msg).reach = some r →
    s.reg Reg.hapArm = BitVec.ofNat 32 (1 + r * 2 + (hapParse src msg).key * 16) → s.opNs ≤ s.host.armEnd → Does
    (.resetFire src msg) s fun t => t.reg Reg.hapArm = 0 ∧ t.host.fire = some (r, s.opNs + 5000000) ∧ t.out.length =
    s.out.length + 1) ∧
  (∀ (r : Nat) (src : HapSrc) (msg : Bytes) (s : State), s.hears src msg 10 false → (hapParse src msg).reach = some r →
    s.reg Reg.hapArm ≠ BitVec.ofNat 32 (1 + r * 2 + (hapParse src msg).key * 16) ∨ s.host.armEnd < s.opNs → Gives
    (.resetFire src msg) s (((s.hapAccept msg).setReg Reg.hapArm 0).hapReply (hapParse src msg) 10 0 [])) ∧
  (∀ (r e : Nat) (s : State), s.host.fire = some (r, e) → Does .hapResetAssert s fun t => t.rst.running = true ∧
    t.rst.sources.getLsbD 4 = true ∧ t.host.fire = none) ∧
  (∀ (s : State), s.host.fire = none → Gives .hapResetAssert s s) ∧
  (∀ (s : State), bit (s.reg Reg.hapArm) 0 = true → Does .resetArmLapse s fun t => t.reg Reg.hapArm = 0 ∧ t.host = s.host ∧
    t.rst = s.rst) ∧
  (∀ (r : ReadRun) (src : HapSrc) (msg : Bytes) (s : State), s.hears src msg 8 false → (hapParse src msg).body.length = 8 →
    4100 ≤ leAt (hapParse src msg).body 4 4 ∧ leAt (hapParse src msg).body 4 4 ≤ 262144 → r = ((s.hapAccept msg).setReg
    Reg.recRdLen (BitVec.ofNat 32 (leAt (hapParse src msg).body 4 4))).readBatch (BitVec.ofNat 32 (leAt (hapParse src
    msg).body 0 4)) → Does (.recRead src msg) s fun t => t.fld Reg.recRdStat 15 0 = r.count % 0x10000 ∧ t.reg
    Reg.recRdCursor = r.cursor ∧ t.reg Reg.recRdFirst = r.first ∧ t.rcd = s.rcd ∧ t.mem = s.mem) ∧
  (∀ (src : HapSrc) (msg : Bytes) (s : State), s.hears src msg 8 false → (hapParse src msg).body.length = 8 → leAt
    (hapParse src msg).body 4 4 < 4100 ∨ 262144 < leAt (hapParse src msg).body 4 4 → Gives (.recRead src msg) s
    ((s.hapAccept msg).hapReply (hapParse src msg) 5 0 []))

/-- With HOST released, a key command with its key and OP that does not come on the slot it names: STORE puts the staged key there, disabled, with H and the send counter 0, and clears the staging; ENABLE of a slot with a key enables it (of an empty one it logs 0x0005: the model's choice, assumption 19); DISABLE disables it; ERASE drops the key. On the slot's own key it logs 0x0102. A read of HAP_CTR_LO copies the upper half of the selected H. -/
def Obligations.HostKeys : Prop :=
  (∀ (v : Word) (n : Fin 8) (k : Option (BitVec 8)) (s : State), s.domainUp 8 = true → bits v 31 16 = 0x4B59 → bits v 7 4 =
    1 → n.val = bits v 2 0 → k.map (fun x => x.toNat) ≠ some n.val → Does (.hapKeyStore v k) s fun t => t.host.slots[n] =
    ⟨s.hapStaged, 0, [], 0⟩ ∧ (∀ m : Fin 8, m ≠ n → t.host.slots[m] = s.host.slots[m]) ∧ t.host.stage = Vector.replicate 8
    0 ∧ bit (t.reg Reg.hapKeyStat) n = false ∧ bit (t.reg Reg.hapKeyStat) (8 + n) = true ∧ t.events.length =
    s.events.length + 1) ∧
  (∀ (v : Word) (n : Fin 8) (k : Option (BitVec 8)) (s : State), s.domainUp 8 = true → bits v 31 16 = 0x4B59 → bits v 7 4 =
    2 → n.val = bits v 2 0 → k.map (fun x => x.toNat) ≠ some n.val → bit (s.reg Reg.hapKeyStat) (8 + n) = true → Does
    (.hapKeyEnable v k) s fun t => t.host.slots = s.host.slots ∧ bit (t.reg Reg.hapKeyStat) n = true ∧ t.events.length =
    s.events.length + 1) ∧
  (∀ (v : Word) (n : Fin 8) (k : Option (BitVec 8)) (s : State), s.domainUp 8 = true → bits v 31 16 = 0x4B59 → bits v 7 4 =
    2 → n.val = bits v 2 0 → k.map (fun x => x.toNat) ≠ some n.val → bit (s.reg Reg.hapKeyStat) (8 + n) = false → Gives
    (.hapKeyEnable v k) s (s.refuse Reg.hapKeyCmd)) ∧
  (∀ (v : Word) (n : Fin 8) (k : Option (BitVec 8)) (s : State), s.domainUp 8 = true → bits v 31 16 = 0x4B59 → bits v 7 4 =
    3 → n.val = bits v 2 0 → k.map (fun x => x.toNat) ≠ some n.val → Does (.hapKeyDisable v k) s fun t => t.host.slots =
    s.host.slots ∧ bit (t.reg Reg.hapKeyStat) n = false ∧ t.events.length = s.events.length + 1) ∧
  (∀ (v : Word) (n : Fin 8) (k : Option (BitVec 8)) (s : State), s.domainUp 8 = true → bits v 31 16 = 0x4B59 → bits v 7 4 =
    4 → n.val = bits v 2 0 → k.map (fun x => x.toNat) ≠ some n.val → Does (.hapKeyErase v k) s fun t => t.host.slots[n].key
    = [] ∧ (∀ m : Fin 8, m ≠ n → t.host.slots[m] = s.host.slots[m]) ∧ bit (t.reg Reg.hapKeyStat) n = false ∧ bit (t.reg
    Reg.hapKeyStat) (8 + n) = false ∧ t.events.length = s.events.length + 1) ∧
  (∀ (v : Word) (k : BitVec 8) (x : Nat × Instr) (s : State), s.domainUp 8 = true → bits v 31 16 = 0x4B59 → k.toNat = bits
    v 2 0 → x ∈ [((1 : Nat), Instr.hapKeyStore v (some k)), (2, .hapKeyEnable v (some k)), (3, .hapKeyDisable v (some k)),
    (4, .hapKeyErase v (some k))] → bits v 7 4 = x.1 → Gives x.2 s (s.logErr pHAP 0x0102 v)) ∧
  (∀ (s : State), s.domainUp 8 = true → Gives .hapCtrLoRead s (s.setReg Reg.hapCtrHi (s.hapHigh.extractLsb' 32 32)))

/-- With HOST released: a frame to an address learned at another port leaves by that port alone; its source is learned. A link change is kept, counted when the link is lost, and ignored on a disabled port. Event messages of PTP are timestamped at both ports; a Sync or Delay_Req that crosses gets its residence time added, which HST_TC counts, and any other message passes unchanged. A slave measures its offset at a Sync, less the path delay, into TIM_EXT_OFS, keeps the UTC offset and asks for the delay; the answer gives the mean path delay (assumption 67). The oldest timestamp can be popped. ARP, neighbour and echo requests for the module are answered. A kick restarts the steward's watchdog (HAP may not kick), its end resets, and drops are summarised in one record each 60 s, with none when there were no drops. -/
def Obligations.HostPorts : Prop :=
  (∀ (p : Fin 3) (q : Nat) (d : Bytes) (x : Bytes × Nat) (f : Bytes) (s : State), s.domainUp 8 = true → s.portCarries p =
    true → d = slice f 0 6 → (leAt d 0 1).testBit 0 = false → d ≠ s.hostMac ∧ d ≠ slice f 6 6 → s.host.table.find? (fun y
    => y.1 == d) = some x → x.2 = q → q ≠ p.val ∧ q ≠ 2 → s.portCarries q = true → ptpEvent f = none → Does
    (.switchFrameForward p f) s fun t => t.out = s.out ++ [.host q f] ∧ t.regs = s.regs ∧ t.mem = s.mem) ∧
  (∀ (p : Fin 3) (a f : Bytes) (s : State), s.domainUp 8 = true → s.portCarries p = true → a = slice f 6 6 → (leAt a 0
    1).testBit 0 = false → s.host.table.length < 1024 → Does (.switchFrameForward p f) s fun t => t.host.table.find? (fun y
    => y.1 == a) = some (a, p.val)) ∧
  (∀ (p : Fin 3) (f : Bytes) (ty : BitVec 4) (q : BitVec 16) (s : State), s.domainUp 8 = true → s.portCarries p = true →
    p.val ≠ 2 → ptpEvent f = some (ty, q) → (s.host.stamps.filter (fun y => y.port.val == p.val)).length < 16 → Does
    (.switchFrameForward p f) s fun t => ∃ l, t.host.stamps = s.host.stamps ++ (⟨q, ty, Fin.ofNat 2 p, false, s.now⟩ :: l)) ∧
  (∀ (p : Fin 2) (l : BitVec 2) (s : State), s.domainUp 8 = true → bit (s.reg (hstPort p)) 8 = false → l ≠ 3 ∧ l.toNat ≠
    s.fld (hstPort p) 1 0 → Does (.hostLinkChange p l) s fun t => t.fld (hstPort p) 1 0 = l.toNat ∧ t.fld (hstPort p) 31 16
    = (if l = 0 then min 0xFFFF (s.fld (hstPort p) 31 16 + 1) else s.fld (hstPort p) 31 16)) ∧
  (∀ (p : Fin 2) (l : BitVec 2) (s : State), s.domainUp 8 = true → bit (s.reg (hstPort p)) 8 = true → s.fld (hstPort p) 1 0
    = 0 → Gives (.hostLinkChange p l) s s) ∧
  (∀ (p : Fin 2) (a b : BitVec 64) (f : Bytes) (m : Nat) (ip : Option (Nat × Nat)) (s : State), s.domainUp 8 = true →
    s.portCarries p = true → ptpAt f = some (m, ip) → beAt f (m + 1) 1 % 16 = 2 → (3 < beAt f m 1 % 16 → beAt f m 1 % 16 ≠
    9 → Gives (.ptpTcCorrect p a b f) s (s.switchFrame p.val f fun _ => f)) ∧ (beAt f m 1 % 16 ≤ 3 → (s.host.stamps.filter
    (fun y => y.port == p)).length < 16 → Does (.ptpTcCorrect p a b f) s fun t => ∃ l, t.host.stamps = s.host.stamps ++
    (⟨BitVec.ofNat 16 (beAt f (m + 30) 2), BitVec.ofNat 4 (beAt f m 1 % 16), p, false, a⟩ :: l))) ∧
  (∀ (p : Fin 2) (a b : BitVec 64) (f : Bytes) (m ty : Nat) (ip : Option (Nat × Nat)) (s : State), s.domainUp 8 = true →
    s.portCarries p = true → s.portCarries (1 - p.val) = true → ptpAt f = some (m, ip) → beAt f (m + 1) 1 % 16 = 2 → ty =
    beAt f m 1 % 16 → ty < 4 → (s.learn p.val f).forwardTo p.val f = [1 - p.val] → ∀ q : Fin 2, (s.host.stamps.filter fun y
    => y.port == q).length < 16 → Does (.ptpTcCorrect p a b f) s fun t => t.out = s.out ++ [.host (1 - p.val) (if ty < 2
    then correctFrame f m ip (b - a) else f)] ∧ t.reg Reg.hstTc = (if ty < 2 then s.reg Reg.hstTc + 1 else s.reg Reg.hstTc)
    ∧ t.host.stamps = s.host.stamps ++ [⟨BitVec.ofNat 16 (beAt f (m + 30) 2), BitVec.ofNat 4 ty, p, false, a⟩,
    ⟨BitVec.ofNat 16 (beAt f (m + 30) 2), BitVec.ofNat 4 ty, 1 - p, true, b⟩]) ∧
  (∀ (f g : Bytes) (m : Nat) (ip : Option (Nat × Nat)) (d : BitVec 64), ptpAt f = some (m, ip) → m + 20 ≤ f.length → g =
    correctFrame f m ip d → g.length = f.length ∧ beAt g (m + 8) 8 = (beAt f (m + 8) 8 + d.toNat * 65536) % 2 ^ 64 ∧ (∀ u :
    Nat, ip = some (u, 4) → beAt g (u + 6) 2 = 0) ∧ g.drop (g.length - 4) = toLe 4 (crcEth (g.take (g.length - 4))).toNat) ∧
  (∀ (p : Fin 2) (q : BitVec 16) (ts : BitVec 64) (m : SyncMsg) (u : BitVec 16) (d : Int) (s : State), s.domainUp 8 = true
    → s.portCarries p = true → s.ptpSlave p.val = true → m.domain = s.host.domain → d = nsBetween (m.origin + m.corr) ts →
    Does (.ptpSyncRx p q ts m u) s fun t => (-2147483648 ≤ d - s.host.ptpDelay ∧ d - s.host.ptpDelay ≤ 2147483647 → t.reg
    Reg.timExtOfs = BitVec.ofInt 32 (d - s.host.ptpDelay)) ∧ t.reg Reg.timUtc = BitVec.ofNat 32 (u.toNat + 0x10000) ∧
    t.time.extFresh = true ∧ t.host.ptpSync = some d ∧ t.host.ptpReq = some (s.host.ptpSeq, s.now) ∧ t.out = s.out ++
    [.ptpDelayReq s.host.ptpPort.val s.host.ptpSeq]) ∧
  (∀ (p : Fin 2) (q : BitVec 16) (ts : BitVec 64) (m : SyncMsg) (u : BitVec 16) (s : State), s.domainUp 8 = true →
    s.portCarries p = true → s.ptpSlave p.val = false ∨ m.domain ≠ s.host.domain → Gives (.ptpSyncRx p q ts m u) s
    (s.stamp_ ⟨q, 0, p, false, ts⟩)) ∧
  (∀ (p : Fin 3) (f : Bytes) (m : Nat) (q : BitVec 16) (t3 : BitVec 64) (d : Int) (s : State), s.domainUp 8 = true →
    s.portCarries p = true → (s.learn p.val f).forwardTo p.val f = [2] → s.ptpSlave p.val = true → s.host.ptpReq = some (q,
    t3) → s.host.ptpSync = some d → ptpMessage f = some m → beAt f m 1 % 16 = 9 → beAt f (m + 1) 1 % 16 = 2 → beAt f (m +
    4) 1 = s.host.domain.toNat → beAt f (m + 30) 2 = q.toNat → slice f (m + 44) 10 = s.ptpIdentity → Does
    (.switchFrameForward p f) s fun t => t.host.ptpDelay = (d + nsBetween t3 (BitVec.ofNat 64 (beAt f (m + 34) 6 *
    1000000000 + beAt f (m + 40) 4)) - (BitVec.ofNat 64 (beAt f (m + 8) 8)).toInt / 65536) / 2 ∧ t.host.ptpReq = none ∧
    t.out = s.out ∧ t.regs = s.regs) ∧
  (∀ (p : Fin 2) (x : PtpState) (c : BitVec 64) (s : State), s.domainUp 8 = true → s.host.ptp ≠ x → Does (.ptpStateChange p
    x c) s fun t => t.host.ptp = x ∧ t.host.ptpPort = p ∧ t.host.ptpSync = none ∧ t.host.ptpReq = none ∧ t.events.length =
    s.events.length + 1) ∧
  (∀ (s : State), s.domainUp 8 = true → Does .hstTsPop s fun t => t.host.stamps = s.host.stamps.drop 1 ∧ t.regs = s.regs) ∧
  (∀ (p : Fin 2) (f : Bytes) (r : Option Bytes) (s : State), s.domainUp 8 = true → s.portCarries p = true → r = (if beAt f
    12 2 = 0x0806 then s.arpReply f else if beAt f 12 2 = 0x0800 then s.echo4 f else if beAt f 12 2 = 0x86DD then s.answer6
    f else none) → (∀ b : Bytes, r = some b → Does (.arpNdIcmpRx p f) s fun t => t.out = s.out ++ [.host p.val (withFcs b)]
    ∧ t.regs = s.regs) ∧ (r = none → Gives (.arpNdIcmpRx p f) s (s.learn p.val f))) ∧
  (∀ (v : Word) (s : State), s.domainUp 8 = true → Gives (.stwWdtKick true v) s (s.refuse Reg.stwWdt) ∧ (v ≠ 0x00005A17 →
    Gives (.stwWdtKick false v) s s) ∧ Does (.stwWdtKick false 0x00005A17) s fun t => t.host.wdtEnd = (if s.host.wdtPaused
    then s.wdtNs else s.opNs + s.wdtNs) ∧ t.host.wdtWarned = false ∧ t.regs = s.regs) ∧
  (∀ (s : State), s.domainUp 8 = true → (s.host.wdtPaused = true → Gives .stewardWatchdogExpiry s s) ∧ (s.host.wdtPaused =
    false → Does .stewardWatchdogExpiry s fun t => t.rst.running = true ∧ t.rst.sources.getLsbD 7 = true)) ∧
  (∀ (k : Fin 8) (s : State), s.domainUp 8 = true → s.host.drops[k] ≠ 0 → Does .authSummary s fun t => t.host.drops =
    Vector.replicate 8 0 ∧ t.events.length = s.events.length + 1 ∧ t.host.sumAt = t.opNs) ∧
  (∀ (s : State), s.domainUp 8 = true → s.host.drops = Vector.replicate 8 0 → Does .authSummary s fun t => t.host.drops =
    s.host.drops ∧ t.events = s.events ∧ t.host.sumAt = t.opNs)

/-- With HOST released: a request makes a buffer PENDING, or logs 0x0005 if it is; a request of a channel that may send, with no frame on the bus, puts the frame that wins arbitration, or the lowest buffer with PRIO_MODE 1, on the bus; it waits for a frame of another node. ABORT of a pending frame that is not on the bus makes it ABORTED, else waits for the frame's end. A frame sent makes its buffer SENT, counts and clears the unacknowledged count; one lost, in error or taken off with the channel stays PENDING, or becomes FAILED with one-shot, ABORTED after an ABORT. A remote frame has no data, a classical frame neither BRS nor ESI. (TEC follows ISO 11898-1: assumption 10; when a frame of another node is on the bus is assumption 60.) -/
def Obligations.CanTransmit : Prop :=
  (∀ (c : Fin 2) (b : Fin 3) (k : Bool) (s : State), s.domainUp 8 = true → s.txState c b ≠ 1 → Does (.canTxReq c
    ⟨BitVec.ofNat 3 (2 ^ b.val), k⟩) s fun t => t.txState c b = 1 ∧ (∀ a : Fin 3, a ≠ b → t.txState c a = s.txState c a) ∧
    t.out = s.out) ∧
  (∀ (c : Fin 2) (b : Fin 3) (s : State), s.domainUp 8 = true → s.txState c b = 1 → Gives (.canTxReq c ⟨BitVec.ofNat 3 (2 ^
    b.val), false⟩) s ((s.refuse (Reg.canTxCmd c)).canStart c)) ∧
  (∀ (c : Fin 2) (b : Fin 3) (s : State), s.domainUp 8 = true → s.txState c b ≠ 1 → s.canMode c = 1 ∨ s.canMode c = 3 →
    s.canErr c ≠ 2 → s.can[c].onBus = none → s.can[c].foreign = false → s.can[c].first = none → ∀ a : Fin 3, a ≠ b →
    s.txState c a ≠ 1 → Does (.canTxReq c ⟨BitVec.ofNat 3 (2 ^ b.val), false⟩) s fun t => t.can[c].onBus = some b.val) ∧
  (∀ (a b : Fin 3) (c : Fin 2) (s : State), s.txState c a = 1 → s.txState c b = 1 → a ≠ b → ∀ d : Fin 3, s.txState c d = 1
    → d = a ∨ d = b → s.can[c].first = none → (bit (s.reg (Reg.canCtrl c)) 3 = true → s.canChoose c = some (min a.val
    b.val)) ∧ (bit (s.reg (Reg.canCtrl c)) 3 = false → arbKey (s.txHdr c a 0) < arbKey (s.txHdr c b 0) → s.canChoose c =
    some a.val)) ∧
  (∀ (c : Fin 2) (b : Fin 3) (s : State), s.domainUp 8 = true → s.txState c b = 1 → (s.can[c].onBus = some b.val → Does
    (.canTxAbort c (BitVec.ofNat 3 (2 ^ b.val))) s fun t => t.can[c].abort = true ∧ t.regs = s.regs) ∧ (s.can[c].onBus ≠
    some b.val → Does (.canTxAbort c (BitVec.ofNat 3 (2 ^ b.val))) s fun t => t.txState c b = 3 ∧ t.can[c].onBus =
    s.can[c].onBus)) ∧
  (∀ (c : Fin 2) (b : Fin 3) (s : State), s.can[c].onBus = some b.val → s.canMode c = 1 → Does (.canFrameTxEnd c .ok) s fun
    t => t.txState c b = 2 ∧ t.fld (Reg.canCnt c) 15 0 = (s.fld (Reg.canCnt c) 15 0 + 1) % 0x10000 ∧ t.fld (Reg.canNoack c)
    15 0 = 0 ∧ t.out = s.out ++ [.can c (s.canSent c b).1 (s.canSent c b).2.1 (s.canSent c b).2.2]) ∧
  (∀ (c : Fin 2) (b : Fin 3) (s : State), s.can[c].onBus = some b.val → s.txState c b = 1 → Does (.canFrameTxEnd c .lost) s
    fun t => t.txState c b = (if s.can[c].abort then 3 else if bit (s.txHdr c b 1) 5 then 4 else 1) ∧ t.can[c].onBus = none
    ∧ t.can[c].foreign = true ∧ t.fld (Reg.canErr c) 31 0 = s.fld (Reg.canErr c) 31 0 ∧ t.out = s.out) ∧
  (∀ (c : Fin 2) (b : Fin 3) (l : BitVec 4) (k e : Bool) (n : Nat) (s : State), s.can[c].onBus = some b.val → s.txState c b
    = 1 → l ≠ 3 → n = s.fld (Reg.canErr c) 8 0 + (if l = 1 ∧ e = true then 0 else 8) → Does (.canFrameTxEnd c (.err l k e))
    s fun t => t.txState c b = (if s.can[c].abort then 3 else if bit (s.txHdr c b 1) 5 then 4 else 1) ∧ t.fld (Reg.canErr
    c) 31 28 = l.toNat ∧ t.fld (Reg.canNoack c) 15 0 = (if k = true then 0 else s.fld (Reg.canNoack c) 15 0) ∧ (n ≤ 255 →
    t.fld (Reg.canErr c) 8 0 = n) ∧ (255 < n → t.canErr c = 2) ∧ t.out = s.out) ∧
  (∀ (c : Fin 2) (b : Fin 3) (k e : Bool) (s : State), s.can[c].onBus = some b.val → s.canErr c ≠ 2 → Does (.canFrameTxEnd
    c (.err 3 k e)) s fun t => t.fld (Reg.canNoack c) 15 0 = min 0xFFFF (s.fld (Reg.canNoack c) 15 0 + 1) ∧ t.fld
    (Reg.canErr c) 31 28 = 3 ∧ (s.canErr c = 1 → s.fld (Reg.canErr c) 8 0 ≤ 255 → t.fld (Reg.canErr c) 8 0 = s.fld
    (Reg.canErr c) 8 0)) ∧
  (∀ (c : Fin 2) (b : Fin 3) (s : State), s.domainUp 8 = true → s.canMode c = 1 → s.can[c].onBus = none → s.txState c b ≠ 1
    → Does (.canTxReq c ⟨BitVec.ofNat 3 (2 ^ b.val), true⟩) s fun t => t.can[c].onBus = none ∧ t.can[c].foreign = true ∧
    t.txState c b = 1) ∧
  (∀ (c : Fin 2) (b : Fin 3) (v : Word) (k : Bool) (s : State), s.domainUp 8 = true → s.canMode c = 1 ∨ s.canMode c = 3 →
    s.can[c].onBus = some b.val → s.txState c b = 1 → bits v 1 0 = 0 ∨ bits v 1 0 = 2 → Does (.canCtrlWrite c v k) s fun t
    => t.canMode c = bits v 1 0 ∧ t.can[c].onBus = none ∧ t.txState c b = (if s.can[c].abort then 3 else if bit (s.txHdr c
    b 1) 5 then 4 else 1)) ∧
  (∀ (c : Fin 2) (b : Fin 3) (s : State), (bit (s.canSent c b).1 30 = true → (s.canSent c b).2.2 = []) ∧ (bit (s.txHdr c b
    0) 31 = false ∨ bit (s.reg (Reg.canCtrl c)) 2 = false → (s.canSent c b).2.1.toNat < 16 ∧ bit (s.canSent c b).1 31 =
    false) ∧ (bit (s.canSent c b).1 29 = false → bits (s.canSent c b).1 17 0 = 0))

/-- With HOST released a frame that a filter accepts goes to the end of its queue with the filter and a SEQ, where a running steward gives it the global time, or is lost and counted when the queue is full; one that none accepts is counted; in NORMAL it is acknowledged. A pop drops the oldest. An error while receiving raises REC and gives the error state, in LISTEN it shows its code only. RECOVER is accepted in bus-off only, and a running steward issues it after its delay, if that is not 0; recovery leaves TEC and REC 0. A dominant timeout releases the driver, and a second in an hour retires the channel; a channel leaves OFF with valid timing and a passed check only. (REC and the error states follow ISO 11898-1: assumption 10; what bus-off and retirement stop is assumption 60.) -/
def Obligations.CanReceiveAndErrors : Prop :=
  (∀ (f : Nat) (c : Fin 2) (h0 h1 : Word) (d : Bytes) (s : State), s.domainUp 8 = true → s.canMode c = 1 ∨ s.canMode c = 2
    → s.canErr c ≠ 2 → bit h0 31 = false ∨ bit (s.reg (Reg.canCtrl c)) 2 = true → (List.range 16).find? (s.canMatch c
    (canHdr0 h0)) = some f → s.fld (Reg.bank f (Reg.canFmatch c)) 30 30 = 0 → s.can[c].q0.length < 32 → Does (.canFrameRx c
    h0 h1 d) s fun t => t.can[c].q0.map (fun e => (e.hdr0, e.hdr1, e.data)) = s.can[c].q0.map (fun e => (e.hdr0, e.hdr1,
    e.data)) ++ [(canHdr0 h0, BitVec.ofNat 32 (bits (canHdr1 (bit h0 31) h1) 5 0 + f * 0x100 + (s.can[c].seq + 1).toNat *
    0x10000), if bit (canHdr0 h0) 30 then [] else d.take (canLen (bit h0 31) (bits h1 3 0)))] ∧ t.can[c].q1.length =
    s.can[c].q1.length ∧ t.can[c].seq = s.can[c].seq + 1 ∧ t.can[c].foreign = false ∧ t.out = (if s.canMode c = 1 then
    s.out ++ [.canAck c] else s.out) ∧ (s.stewardUp = true → s.inRecovery = false → s.handingOver = false → s.domainUp 2 =
    true → t.can[c].q0.getLast?.bind (fun e => e.stamp) = some s.now ∧ t.reg Reg.timNowHi = s.now.extractLsb' 32 32)) ∧
  (∀ (f : Nat) (c : Fin 2) (h0 h1 : Word) (d : Bytes) (s : State), s.domainUp 8 = true → s.canMode c = 1 ∨ s.canMode c = 2
    → s.canErr c ≠ 2 → bit h0 31 = false ∨ bit (s.reg (Reg.canCtrl c)) 2 = true → (List.range 16).find? (s.canMatch c
    (canHdr0 h0)) = some f → s.fld (Reg.bank f (Reg.canFmatch c)) 30 30 = 0 → 32 ≤ s.can[c].q0.length → Does (.canFrameRx c
    h0 h1 d) s fun t => t.can[c].q0 = s.can[c].q0 ∧ t.can[c].q1 = s.can[c].q1 ∧ t.fld (Reg.canRxCnt c) 15 0 = min 0xFFFF
    (s.fld (Reg.canRxCnt c) 15 0 + 1)) ∧
  (∀ (c : Fin 2) (h0 h1 : Word) (d : Bytes) (s : State), s.domainUp 8 = true → s.canMode c = 1 ∨ s.canMode c = 2 → s.canErr
    c ≠ 2 → bit h0 31 = false ∨ bit (s.reg (Reg.canCtrl c)) 2 = true → (List.range 16).find? (s.canMatch c (canHdr0 h0)) =
    none → Does (.canFrameRx c h0 h1 d) s fun t => t.can[c].q0 = s.can[c].q0 ∧ t.can[c].q1 = s.can[c].q1 ∧ t.fld
    (Reg.canRxCnt c) 31 16 = min 0xFFFF (s.fld (Reg.canRxCnt c) 31 16 + 1) ∧ t.out = (if s.canMode c = 1 then s.out ++
    [.canAck c] else s.out)) ∧
  (∀ (c : Fin 2) (s : State), s.domainUp 8 = true → (bit (s.reg (Reg.canRxSel c)) 0 = false → Does (.canRxPop c) s fun t =>
    t.can[c].q0 = s.can[c].q0.drop 1 ∧ t.can[c].q1 = s.can[c].q1) ∧ (bit (s.reg (Reg.canRxSel c)) 0 = true → Does
    (.canRxPop c) s fun t => t.can[c].q1 = s.can[c].q1.drop 1 ∧ t.can[c].q0 = s.can[c].q0)) ∧
  (∀ (c : Fin 2) (l : BitVec 4) (dom : Bool) (r : Nat) (s : State), s.canMode c = 1 → s.canErr c ≠ 2 → s.fld (Reg.canErr c)
    8 0 ≤ 255 → r = s.fld (Reg.canErr c) 23 16 + (if dom then 8 else 1) → Does (.canBusError c l dom) s fun t => t.fld
    (Reg.canErr c) 31 28 = l.toNat ∧ t.fld (Reg.canErr c) 23 16 = min r 255 ∧ t.fld (Reg.canErr c) 8 0 = s.fld (Reg.canErr
    c) 8 0 ∧ t.canErr c = (if 127 < s.fld (Reg.canErr c) 8 0 ∨ 127 < r then 1 else 0) ∧ t.can[c].foreign = false) ∧
  (∀ (c : Fin 2) (l : BitVec 4) (dom : Bool) (s : State), s.canMode c = 2 → s.canErr c ≠ 2 → Gives (.canBusError c l dom) s
    ((s.setFld (Reg.canErr c) 31 28 l.toNat).canFree c)) ∧
  (∀ (c : Fin 2) (s : State), s.domainUp 8 = true → s.canErr c = 2 → (Does (.canCmdRecover c) s fun t => bit (t.reg
    (Reg.canErr c)) 26 = true ∧ t.canErr c = 2 ∧ t.can = s.can) ∧ (bit (s.reg (Reg.canErr c)) 26 = false → s.can[c].delayMs
    ≠ 0 → s.stewardUp = true → Does (.canRecoveryDelay c) s fun t => bit (t.reg (Reg.canErr c)) 26 = true ∧ t.canErr c = 2
    ∧ t.can = s.can ∧ t.opNs = (s.waitOp (s.can[c].offAt + s.can[c].delayMs * 1000000)).opNs) ∧ (s.can[c].delayMs = 0 →
    Gives (.canRecoveryDelay c) s s) ∧ (bit (s.reg (Reg.canErr c)) 26 = true → Does (.canRecoveryDone c) s fun t => t.fld
    (Reg.canErr c) 27 0 = 0 ∧ t.fld (Reg.canErr c) 31 28 = s.fld (Reg.canErr c) 31 28)) ∧
  (∀ (c : Fin 2) (s : State), s.domainUp 8 = true → s.canErr c ≠ 2 → Gives (.canCmdRecover c) s (s.refuse (Reg.canCmd c))) ∧
  (∀ (c : Fin 2) (s : State), s.domainUp 8 = true → s.canMode c = 1 ∨ s.canMode c = 2 → (s.can[c].hist.all (fun h => decide
    (h + 3600000 < s.opTime.toNat)) = true → Does (.canDominantTimeout c) s fun t => t.can[c].hist = [s.opTime.toNat] ∧
    t.can[c].released = true ∧ t.out = s.out ++ [.canRelease c] ∧ t.regs = s.regs) ∧ (s.can[c].hist.any (fun h => decide
    (s.opTime.toNat ≤ h + 3600000)) = true → Does (.canDominantTimeout c) s fun t => t.canRetired c = true ∧ t.canMode c =
    0 ∧ t.fld (Reg.canCtrl c) 1 0 = 0 ∧ t.can[c].onBus = none)) ∧
  (∀ (c : Fin 2) (v : Word) (k : Bool) (s : State), s.domainUp 8 = true → s.canRetired c = false → s.canMode c = 0 → bits v
    1 0 ≠ 0 → (canTimingOk (s.reg (Reg.canNbt c)) (s.reg (Reg.canDbt c)) (bit v 2) = false → Does (.canCtrlWrite c v k) s
    fun t => t.canMode c = 0 ∧ bits (t.reg (Reg.pgErr (pCAN c))) 31 16 = min 0xFFFF (bits (s.reg (Reg.pgErr (pCAN c))) 31
    16 + 1)) ∧ (canTimingOk (s.reg (Reg.canNbt c)) (s.reg (Reg.canDbt c)) (bit v 2) = true → (Does (.canCtrlWrite c v true)
    s fun t => t.canMode c = bits v 1 0 ∧ t.canRetired c = false) ∧ Does (.canCtrlWrite c v false) s fun t => t.canRetired
    c = true))

/-- With FLD released: an input takes a level seen in DEB + 1 samples running. A trip switches its channel off to retry, the fourth latches it; external drive latches a channel that is off. Outputs not refreshed show the safe state. L+ below 15 V switches every output off until it is restored. CLEAR needs its key and leaves channels that trip latched. A configuration may ask for SAFE = ON only where the fuses allow it. (The instants from which the times of the block count are assumption 91.) -/
def Obligations.FieldBlock : Prop :=
  (∀ (c : Fin 16) (lv br : BitVec 16) (s : State), s.domainUp 9 = true → s.isOutput c = false → bit (s.fioCfg c) 6 = false
    → bit (s.reg Reg.fioIn) (16 + c) = false → s.fio.ch[c].brk = false → (s.fio.ch[c].cand = lv.getLsbD c → bits (s.fioCfg
    c) 5 2 ≤ s.fio.ch[c].candN → Does (.fioInputSample lv br) s fun t => bit (t.reg Reg.fioIn) c = lv.getLsbD c) ∧
    (s.fio.ch[c].cand ≠ lv.getLsbD c → bits (s.fioCfg c) 5 2 ≠ 0 → Does (.fioInputSample lv br) s fun t => bit (t.reg
    Reg.fioIn) c = bit (s.reg Reg.fioIn) c)) ∧
  (∀ (c : Fin 16) (s : State), s.domainUp 9 = true → bit (s.reg Reg.fioOut) (16 + c) = true → s.fio.ch[c].warm = false →
    (s.fld (Reg.bank c Reg.fioCnt) 2 0 < 3 → Does (.fioTrip c) s fun t => bit (t.reg Reg.fioSafe) (16 + c) = true ∧ bit
    (t.reg Reg.fioOut) (16 + c) = false ∧ t.fld (Reg.bank c Reg.fioCnt) 2 0 = s.fld (Reg.bank c Reg.fioCnt) 2 0 + 1 ∧ t.reg
    Reg.fioFault = s.reg Reg.fioFault) ∧ (3 ≤ s.fld (Reg.bank c Reg.fioCnt) 2 0 → Does (.fioTrip c) s fun t => bit (t.reg
    Reg.fioFault) c = true ∧ bit (t.reg Reg.fioOut) (16 + c) = false ∧ t.events.length = s.events.length + 1)) ∧
  (∀ (c : Fin 16) (s : State), bit (s.reg Reg.fioSafe) (16 + c) = true → (s.fld Reg.fioLplus 13 12 ≠ 2 → Does (.fioRetry c)
    s fun t => bit (t.reg Reg.fioSafe) (16 + c) = false ∧ t.reg Reg.fioFault = s.reg Reg.fioFault) ∧ (s.fld Reg.fioLplus 13
    12 = 2 → Gives (.fioRetry c) s s)) ∧
  (∀ (c : Fin 16) (s : State), bit (s.reg Reg.fioOut) (16 + c) = true → Does (.fioRetryCountReset c) s fun t => t.fld
    (Reg.bank c Reg.fioCnt) 2 0 = 0 ∧ t.fld (Reg.bank c Reg.fioCnt) 31 16 = s.fld (Reg.bank c Reg.fioCnt) 31 16) ∧
  (∀ (c : Fin 16) (s : State), s.domainUp 9 = true → s.isOutput c = true → bit (s.reg Reg.fioOut) (16 + c) = false →
    (s.shared c = false → Does (.fioExtDrive c) s fun t => bit (t.reg Reg.fioFault) c = true ∧ bit (t.reg Reg.fioFault) (16
    + c) = true ∧ t.events.length = s.events.length + 1) ∧ (s.shared c = true → Does (.fioExtDrive c) s fun t => bit (t.reg
    Reg.fioRb) (16 + c) = true ∧ t.reg Reg.fioFault = s.reg Reg.fioFault)) ∧
  (∀ (m : BitVec 16) (c : Fin 16) (s : State), s.domainUp 9 = true → s.isOutput c = true → m.getLsbD c = true → bit (s.reg
    Reg.fioSafe) c = false → Does (.fioRefreshTimeout m) s fun t => bit (t.reg Reg.fioSafe) c = true ∧ (bits (s.fioCfg c) 8
    7 = 0 → bit (t.reg Reg.fioOut) (16 + c) = false) ∧ t.reg Reg.fioFault = s.reg Reg.fioFault) ∧
  (∀ (v : BitVec 12) (s : State), s.domainUp 9 = true → s.fld Reg.fioLplus 13 12 ≠ 2 → Does (.fioLplusMeasure v) s fun t =>
    t.fld Reg.fioLplus 11 0 = v.toNat ∧ t.fld Reg.fioLplus 13 12 = (if v.toNat < 1500 then 2 else if v.toNat < 1920 then 1
    else 0) ∧ (v.toNat < 1500 → ∀ c : Fin 16, bit (t.reg Reg.fioOut) (16 + c) = false)) ∧
  (∀ (g : Nat) (s : State), s.fld Reg.fioLplus 13 12 = 2 → s.fio.lpGood = some g → Does .fioLplusRestored s fun t => t.fld
    Reg.fioLplus 13 12 = (if s.fld Reg.fioLplus 11 0 < 1920 then 1 else 0) ∧ t.fld Reg.fioLplus 31 16 = min 0xFFFF (s.fld
    Reg.fioLplus 31 16 + 1) ∧ t.fio.lpGood = none) ∧
  (∀ (v : Word) (tr : BitVec 16) (s : State), s.domainUp 9 = true → bits v 31 16 ≠ 0xF10C → Gives (.fioCmdClear v tr) s
    (s.refuse Reg.fioCmd)) ∧
  (∀ (v : Word) (tr : BitVec 16) (c : Fin 16) (s : State), s.domainUp 9 = true → bits v 31 16 = 0xF10C → Does (.fioCmdClear
    v tr) s fun t => bit (t.reg Reg.fioFault) c = (bit (s.reg Reg.fioFault) c && !(bit v c && !tr.getLsbD c)) ∧ bit (t.reg
    Reg.fioFault) (16 + c) = (bit (s.reg Reg.fioFault) (16 + c) && !(bit v c && !tr.getLsbD c))) ∧
  (∀ (v : Word) (c : Fin 16) (s : State), s.domainUp 9 = true → s.locked pFIO = false → c.val = s.fld Reg.fioSel 3 0 →
    (bits v 8 7 = 1 → s.safeOn c = false → Gives (.fioCfgWrite v) s (s.logErr pFIO 0x0102 0)) ∧ (bits v 8 7 ≠ 1 ∨ s.safeOn
    c = true → Does (.fioCfgWrite v) s fun t => bits (t.fioCfg c) 8 7 = (if bits v 8 7 = 3 then bits (s.fioCfg c) 8 7 else
    bits v 8 7) ∧ bits (t.fioCfg c) 1 0 = bits (s.fioCfg c) 1 0 ∧ bits (t.fioCfg c) 6 2 = bits v 6 2))

/-- Without a health exchange the loop shows 3,600 µA. Compliance lost sets its bit, is counted and logged once an episode; a test shows 21,000 µA where the fuses enable the loop, and ends at its time; LOOP_MEAS shows the set current. The active test port: SAMPLE/PRELOAD takes the pins, EXTEST drives them only with SEQ in reset and the service key active; REGREAD gives the register, or counts a refusal while DBG_CTRL forbids it, IDCODE gives the identity, and every code but those of R533's other instructions BYPASS. -/
def Obligations.LoopAndJtag : Prop :=
  (∀ (s : State), s.fld Reg.loopTest 15 0 = 0 → s.fio.healthy = true → Does .loopHealthTimeout s fun t => t.fio.healthy =
    false ∧ t.fld Reg.loopStat 14 0 = 3600 ∧ t.fld Reg.loopStat 17 16 = 0 ∧ (bit (s.reg Reg.loopStat) 15 = false → t.fld
    Reg.loopMeas 14 0 = 3600)) ∧
  (∀ (m : BitVec 15) (v : BitVec 16) (s : State), s.domainUp 9 = true → (Does (.loopCompl m v) s fun t => t.reg
    Reg.loopMeas = BitVec.ofNat 32 (m.toNat + v.toNat * 0x10000) ∧ bit (t.reg Reg.loopStat) 15 = true ∧ t.fld Reg.loopCnt
    15 0 = (if bit (s.reg Reg.loopStat) 15 then s.fld Reg.loopCnt 15 0 else min 0xFFFF (s.fld Reg.loopCnt 15 0 + 1)) ∧
    t.events.length = (if bit (s.reg Reg.loopStat) 15 then s.events.length else s.events.length + 1)) ∧ Does (.loopComplEnd
    m v) s fun t => t.reg Reg.loopMeas = BitVec.ofNat 32 (m.toNat + v.toNat * 0x10000) ∧ bit (t.reg Reg.loopStat) 15 =
    false ∧ t.reg Reg.loopCnt = s.reg Reg.loopCnt) ∧
  (∀ (v : Word) (s : State), bits v 15 0 ≠ 0 → (s.domainUp 9 = true → s.fuseBit 65 = true → Does (.loopTestWrite v) s fun t
    => t.fld Reg.loopTest 15 0 = min (bits v 15 0) 60000 ∧ t.fld Reg.loopStat 14 0 = 21000 ∧ t.fld Reg.loopStat 17 16 = 2 ∧
    t.fio.testEnd = s.opNs + min (bits v 15 0) 60000 * 1000000) ∧ (s.domainUp 9 = false → Gives (.loopTestWrite v) s
    (s.downError pLOOP)) ∧ (s.domainUp 9 = true → s.fuseBit 65 = false → Gives (.loopTestWrite v) s s)) ∧
  (∀ (s : State), s.fld Reg.loopTest 15 0 ≠ 0 → Does .loopTestEnd s fun t => t.fld Reg.loopTest 15 0 = 0 ∧ t.fld
    Reg.loopStat 17 16 ≠ 2) ∧
  (∀ (p : Bytes) (s : State), s.tapActive = true → (Does (.jtagSamplePreload p) s fun t => t.jtag.boundary = p ∧
    t.jtag.code = 1 ∧ t.out = s.out) ∧ (s.mayExtest = true → Does (.jtagExtest p) s fun t => t.jtag.boundary = p ∧ t.out =
    s.out ++ [.pins p] ∧ t.extestDrives = true) ∧ (s.mayExtest = false → Does (.jtagExtest p) s fun t => t.jtag.boundary =
    p ∧ t.out = s.out ∧ t.extestDrives = false)) ∧
  (∀ (b : Bypass) (s : State), s.tapActive = true → (Does .jtagIdcode s fun t => t.jtag.data = s.jtag.ident.setWidth 52 ∧
    t.jtag.code = 2) ∧ (selectsBypass b.code = true → Does (.jtagBypass b) s fun t => t.jtag.bypass = b.bit ∧ t.jtag.code =
    b.code.toNat ∧ t.jtag.data = s.jtag.data) ∧ (selectsBypass b.code = false → Gives (.jtagBypass b) s s)) ∧
  (∀ (a : BitVec 20) (s : State), s.tapActive = true → (bit (s.reg Reg.dbgCtrl) 0 = true → Does (.jtagRegread a) s fun t =>
    t.fld Reg.dbgReads 15 0 = (s.fld Reg.dbgReads 15 0 + 1) % 0x10000 ∧ t.jtag.data = BitVec.ofNat 52 (a.toNat +
    ((s.tapLoad 0x10).jtagValue a).toNat * 2 ^ 20) ∧ t.mem = s.mem) ∧ (bit (s.reg Reg.dbgCtrl) 0 = false → Does
    (.jtagRegread a) s fun t => t.fld Reg.dbgReads 31 16 = min 0xFFFF (s.fld Reg.dbgReads 31 16 + 1) ∧ t.jtag.data =
    a.setWidth 52 ∧ bits (t.reg (Reg.pgErr pDBG)) 31 16 = min 0xFFFF (bits (s.reg (Reg.pgErr pDBG)) 31 16 + 1))) ∧
  (∀ (s : State), s.domainUp 0 = true → (bit (s.reg Reg.dbgStat) 0 = false → Does (.jtagAct true) s fun t => bit (t.reg
    Reg.dbgStat) 0 = true ∧ t.fld Reg.dbgStat 31 16 = min 0xFFFF (s.fld Reg.dbgStat 31 16 + 1)) ∧ (bit (s.reg Reg.dbgStat)
    0 = true → Does (.jtagAct false) s fun t => bit (t.reg Reg.dbgStat) 0 = false ∧ t.jtag.code = 2))
end

