-- ==== Sys2Proof/Laws/Entries.lean ====
section
/-! SUPPORT. What the passing of time leaves alone, and the issue of a track entry that comes up in time. -/

namespace Sys2Proof.Machine

variable (s : State)

@[simp] theorem State.opAdvance_pending (h : Nat) : (s.opAdvance h).pending = s.pending := rfl
@[simp] theorem State.opAdvance_mem (h : Nat) : (s.opAdvance h).mem = s.mem := rfl
@[simp] theorem State.opAdvance_poison (h : Nat) : (s.opAdvance h).poison = s.poison := rfl
@[simp] theorem State.opAdvance_state (h : Nat) : (s.opAdvance h).state = s.state := rfl
@[simp] theorem State.opAdvance_option (h : Nat) : (s.opAdvance h).option = s.option := rfl
@[simp] theorem State.opAdvance_opSaved (h : Nat) : (s.opAdvance h).opSaved = s.opSaved := rfl
@[simp] theorem State.opAdvance_boards (h : Nat) : (s.opAdvance h).boards = s.boards := rfl
@[simp] theorem State.opAdvance_seqr (h : Nat) : (s.opAdvance h).seqr = s.seqr := rfl
@[simp] theorem State.opAdvance_lanes (h : Nat) : (s.opAdvance h).lanes = s.lanes := rfl
@[simp] theorem State.opAdvance_gmb (h : Nat) : (s.opAdvance h).gmb = s.gmb := rfl
@[simp] theorem State.opAdvance_tasks (h : Nat) : (s.opAdvance h).tasks = s.tasks := rfl
@[simp] theorem State.opAdvance_written (h : Nat) : (s.opAdvance h).written = s.written := rfl
@[simp] theorem State.opAdvance_movers (h : Nat) : (s.opAdvance h).movers = s.movers := rfl
@[simp] theorem State.opAdvance_descs (h : Nat) : (s.opAdvance h).descs = s.descs := rfl
@[simp] theorem State.opAdvance_ringTurn (h : Nat) : (s.opAdvance h).ringTurn = s.ringTurn := rfl
@[simp] theorem State.opAdvance_tlb (h : Nat) : (s.opAdvance h).tlb = s.tlb := rfl
@[simp] theorem State.opAdvance_retire (h : Nat) : (s.opAdvance h).retire = s.retire := rfl
@[simp] theorem State.opAdvance_retMark (h : Nat) : (s.opAdvance h).retMark = s.retMark := rfl
@[simp] theorem State.opAdvance_migr (h : Nat) : (s.opAdvance h).migr = s.migr := rfl
@[simp] theorem State.opAdvance_invAt (h : Nat) : (s.opAdvance h).invAt = s.invAt := rfl
@[simp] theorem State.opAdvance_regionW (h : Nat) : (s.opAdvance h).regionW = s.regionW := rfl
@[simp] theorem State.opAdvance_events (h : Nat) : (s.opAdvance h).events = s.events := rfl
@[simp] theorem State.opAdvance_lineDead (h : Nat) : (s.opAdvance h).lineDead = s.lineDead := rfl
@[simp] theorem State.opAdvance_ownFall (h : Nat) : (s.opAdvance h).ownFall = s.ownFall := rfl
@[simp] theorem State.opAdvance_rst (h : Nat) : (s.opAdvance h).rst = s.rst := rfl
@[simp] theorem State.opAdvance_boot (h : Nat) : (s.opAdvance h).boot = s.boot := rfl
@[simp] theorem State.opAdvance_net (h : Nat) : (s.opAdvance h).net = s.net := rfl
@[simp] theorem State.opAdvance_pair (h : Nat) : (s.opAdvance h).pair = s.pair := rfl
@[simp] theorem State.opAdvance_sdPend (h : Nat) : (s.opAdvance h).sdPend = s.sdPend := rfl
@[simp] theorem State.opAdvance_wedged (h : Nat) : (s.opAdvance h).wedged = s.wedged := rfl
@[simp] theorem State.opAdvance_rcd (h : Nat) : (s.opAdvance h).rcd = s.rcd := rfl
@[simp] theorem State.opAdvance_upd (h : Nat) : (s.opAdvance h).upd = s.upd := rfl
@[simp] theorem State.opAdvance_host (h : Nat) : (s.opAdvance h).host = s.host := rfl
@[simp] theorem State.opAdvance_can (h : Nat) : (s.opAdvance h).can = s.can := rfl
@[simp] theorem State.opAdvance_fio (h : Nat) : (s.opAdvance h).fio = s.fio := rfl
@[simp] theorem State.opAdvance_jtag (h : Nat) : (s.opAdvance h).jtag = s.jtag := rfl
@[simp] theorem State.opAdvance_out (h : Nat) : (s.opAdvance h).out = s.out := rfl
@[simp] theorem State.opAdvance_free (h : Nat) : (s.opAdvance h).free = s.free := rfl
theorem State.opAdvance_reg (h k : Nat) : (s.opAdvance h).reg k = s.reg k := rfl
@[simp] theorem State.pipWrap_pending (t : BitVec 64) : (s.pipWrap t).pending = s.pending := by
  unfold State.pipWrap; split <;> simp
@[simp] theorem State.pipWrap_mem (t : BitVec 64) : (s.pipWrap t).mem = s.mem := by
  unfold State.pipWrap; split <;> simp
@[simp] theorem State.pipWrap_poison (t : BitVec 64) : (s.pipWrap t).poison = s.poison := by
  unfold State.pipWrap; split <;> simp
@[simp] theorem State.pipWrap_state (t : BitVec 64) : (s.pipWrap t).state = s.state := by
  unfold State.pipWrap; split <;> simp
@[simp] theorem State.pipWrap_option (t : BitVec 64) : (s.pipWrap t).option = s.option := by
  unfold State.pipWrap; split <;> simp
@[simp] theorem State.pipWrap_opSaved (t : BitVec 64) : (s.pipWrap t).opSaved = s.opSaved := by
  unfold State.pipWrap; split <;> simp
@[simp] theorem State.pipWrap_boards (t : BitVec 64) : (s.pipWrap t).boards = s.boards := by
  unfold State.pipWrap; split <;> simp
@[simp] theorem State.pipWrap_seqr (t : BitVec 64) : (s.pipWrap t).seqr = s.seqr := by
  unfold State.pipWrap; split <;> simp
@[simp] theorem State.pipWrap_lanes (t : BitVec 64) : (s.pipWrap t).lanes = s.lanes := by
  unfold State.pipWrap; split <;> simp
@[simp] theorem State.pipWrap_gmb (t : BitVec 64) : (s.pipWrap t).gmb = s.gmb := by
  unfold State.pipWrap; split <;> simp
@[simp] theorem State.pipWrap_tasks (t : BitVec 64) : (s.pipWrap t).tasks = s.tasks := by
  unfold State.pipWrap; split <;> simp
@[simp] theorem State.pipWrap_written (t : BitVec 64) : (s.pipWrap t).written = s.written := by
  unfold State.pipWrap; split <;> simp
@[simp] theorem State.pipWrap_movers (t : BitVec 64) : (s.pipWrap t).movers = s.movers := by
  unfold State.pipWrap; split <;> simp
@[simp] theorem State.pipWrap_descs (t : BitVec 64) : (s.pipWrap t).descs = s.descs := by
  unfold State.pipWrap; split <;> simp
@[simp] theorem State.pipWrap_ringTurn (t : BitVec 64) : (s.pipWrap t).ringTurn = s.ringTurn := by
  unfold State.pipWrap; split <;> simp
@[simp] theorem State.pipWrap_tlb (t : BitVec 64) : (s.pipWrap t).tlb = s.tlb := by
  unfold State.pipWrap; split <;> simp
@[simp] theorem State.pipWrap_retire (t : BitVec 64) : (s.pipWrap t).retire = s.retire := by
  unfold State.pipWrap; split <;> simp
@[simp] theorem State.pipWrap_retMark (t : BitVec 64) : (s.pipWrap t).retMark = s.retMark := by
  unfold State.pipWrap; split <;> simp
@[simp] theorem State.pipWrap_migr (t : BitVec 64) : (s.pipWrap t).migr = s.migr := by
  unfold State.pipWrap; split <;> simp
@[simp] theorem State.pipWrap_invAt (t : BitVec 64) : (s.pipWrap t).invAt = s.invAt := by
  unfold State.pipWrap; split <;> simp
@[simp] theorem State.pipWrap_regionW (t : BitVec 64) : (s.pipWrap t).regionW = s.regionW := by
  unfold State.pipWrap; split <;> simp
@[simp] theorem State.pipWrap_events (t : BitVec 64) : (s.pipWrap t).events = s.events := by
  unfold State.pipWrap; split <;> simp
@[simp] theorem State.pipWrap_lineDead (t : BitVec 64) : (s.pipWrap t).lineDead = s.lineDead := by
  unfold State.pipWrap; split <;> simp
@[simp] theorem State.pipWrap_ownFall (t : BitVec 64) : (s.pipWrap t).ownFall = s.ownFall := by
  unfold State.pipWrap; split <;> simp
@[simp] theorem State.pipWrap_rst (t : BitVec 64) : (s.pipWrap t).rst = s.rst := by
  unfold State.pipWrap; split <;> simp
@[simp] theorem State.pipWrap_boot (t : BitVec 64) : (s.pipWrap t).boot = s.boot := by
  unfold State.pipWrap; split <;> simp
@[simp] theorem State.pipWrap_net (t : BitVec 64) : (s.pipWrap t).net = s.net := by
  unfold State.pipWrap; split <;> simp
@[simp] theorem State.pipWrap_pair (t : BitVec 64) : (s.pipWrap t).pair = s.pair := by
  unfold State.pipWrap; split <;> simp
@[simp] theorem State.pipWrap_sdPend (t : BitVec 64) : (s.pipWrap t).sdPend = s.sdPend := by
  unfold State.pipWrap; split <;> simp
@[simp] theorem State.pipWrap_wedged (t : BitVec 64) : (s.pipWrap t).wedged = s.wedged := by
  unfold State.pipWrap; split <;> simp
@[simp] theorem State.pipWrap_rcd (t : BitVec 64) : (s.pipWrap t).rcd = s.rcd := by
  unfold State.pipWrap; split <;> simp
@[simp] theorem State.pipWrap_upd (t : BitVec 64) : (s.pipWrap t).upd = s.upd := by
  unfold State.pipWrap; split <;> simp
@[simp] theorem State.pipWrap_host (t : BitVec 64) : (s.pipWrap t).host = s.host := by
  unfold State.pipWrap; split <;> simp
@[simp] theorem State.pipWrap_can (t : BitVec 64) : (s.pipWrap t).can = s.can := by
  unfold State.pipWrap; split <;> simp
@[simp] theorem State.pipWrap_fio (t : BitVec 64) : (s.pipWrap t).fio = s.fio := by
  unfold State.pipWrap; split <;> simp
@[simp] theorem State.pipWrap_jtag (t : BitVec 64) : (s.pipWrap t).jtag = s.jtag := by
  unfold State.pipWrap; split <;> simp
@[simp] theorem State.pipWrap_out (t : BitVec 64) : (s.pipWrap t).out = s.out := by
  unfold State.pipWrap; split <;> simp
@[simp] theorem State.pipWrap_free (t : BitVec 64) : (s.pipWrap t).free = s.free := by
  unfold State.pipWrap; split <;> simp
theorem State.pipWrap_reg_ne (t : BitVec 64) {k : Nat} (h : k ≠ Reg.pgIrq pTIM) : (s.pipWrap t).reg k = s.reg k := by
  unfold State.pipWrap; split
  · exact State.reg_raise_ne h
  · rfl
@[simp] theorem State.edges_pending (n : Nat) : (s.edges n).pending = s.pending := State.pipWrap_pending _ _
@[simp] theorem State.edges_mem (n : Nat) : (s.edges n).mem = s.mem := State.pipWrap_mem _ _
@[simp] theorem State.edges_poison (n : Nat) : (s.edges n).poison = s.poison := State.pipWrap_poison _ _
@[simp] theorem State.edges_state (n : Nat) : (s.edges n).state = s.state := State.pipWrap_state _ _
@[simp] theorem State.edges_option (n : Nat) : (s.edges n).option = s.option := State.pipWrap_option _ _
@[simp] theorem State.edges_opSaved (n : Nat) : (s.edges n).opSaved = s.opSaved := State.pipWrap_opSaved _ _
@[simp] theorem State.edges_boards (n : Nat) : (s.edges n).boards = s.boards := State.pipWrap_boards _ _
@[simp] theorem State.edges_seqr (n : Nat) : (s.edges n).seqr = s.seqr := State.pipWrap_seqr _ _
@[simp] theorem State.edges_lanes (n : Nat) : (s.edges n).lanes = s.lanes := State.pipWrap_lanes _ _
@[simp] theorem State.edges_gmb (n : Nat) : (s.edges n).gmb = s.gmb := State.pipWrap_gmb _ _
@[simp] theorem State.edges_tasks (n : Nat) : (s.edges n).tasks = s.tasks := State.pipWrap_tasks _ _
@[simp] theorem State.edges_written (n : Nat) : (s.edges n).written = s.written := State.pipWrap_written _ _
@[simp] theorem State.edges_movers (n : Nat) : (s.edges n).movers = s.movers := State.pipWrap_movers _ _
@[simp] theorem State.edges_descs (n : Nat) : (s.edges n).descs = s.descs := State.pipWrap_descs _ _
@[simp] theorem State.edges_ringTurn (n : Nat) : (s.edges n).ringTurn = s.ringTurn := State.pipWrap_ringTurn _ _
@[simp] theorem State.edges_tlb (n : Nat) : (s.edges n).tlb = s.tlb := State.pipWrap_tlb _ _
@[simp] theorem State.edges_retire (n : Nat) : (s.edges n).retire = s.retire := State.pipWrap_retire _ _
@[simp] theorem State.edges_retMark (n : Nat) : (s.edges n).retMark = s.retMark := State.pipWrap_retMark _ _
@[simp] theorem State.edges_migr (n : Nat) : (s.edges n).migr = s.migr := State.pipWrap_migr _ _
@[simp] theorem State.edges_invAt (n : Nat) : (s.edges n).invAt = s.invAt := State.pipWrap_invAt _ _
@[simp] theorem State.edges_regionW (n : Nat) : (s.edges n).regionW = s.regionW := State.pipWrap_regionW _ _
@[simp] theorem State.edges_events (n : Nat) : (s.edges n).events = s.events := State.pipWrap_events _ _
@[simp] theorem State.edges_lineDead (n : Nat) : (s.edges n).lineDead = s.lineDead := State.pipWrap_lineDead _ _
@[simp] theorem State.edges_ownFall (n : Nat) : (s.edges n).ownFall = s.ownFall := State.pipWrap_ownFall _ _
@[simp] theorem State.edges_rst (n : Nat) : (s.edges n).rst = s.rst := State.pipWrap_rst _ _
@[simp] theorem State.edges_boot (n : Nat) : (s.edges n).boot = s.boot := State.pipWrap_boot _ _
@[simp] theorem State.edges_net (n : Nat) : (s.edges n).net = s.net := State.pipWrap_net _ _
@[simp] theorem State.edges_pair (n : Nat) : (s.edges n).pair = s.pair := State.pipWrap_pair _ _
@[simp] theorem State.edges_sdPend (n : Nat) : (s.edges n).sdPend = s.sdPend := State.pipWrap_sdPend _ _
@[simp] theorem State.edges_wedged (n : Nat) : (s.edges n).wedged = s.wedged := State.pipWrap_wedged _ _
@[simp] theorem State.edges_rcd (n : Nat) : (s.edges n).rcd = s.rcd := State.pipWrap_rcd _ _
@[simp] theorem State.edges_upd (n : Nat) : (s.edges n).upd = s.upd := State.pipWrap_upd _ _
@[simp] theorem State.edges_host (n : Nat) : (s.edges n).host = s.host := State.pipWrap_host _ _
@[simp] theorem State.edges_can (n : Nat) : (s.edges n).can = s.can := State.pipWrap_can _ _
@[simp] theorem State.edges_fio (n : Nat) : (s.edges n).fio = s.fio := State.pipWrap_fio _ _
@[simp] theorem State.edges_jtag (n : Nat) : (s.edges n).jtag = s.jtag := State.pipWrap_jtag _ _
@[simp] theorem State.edges_out (n : Nat) : (s.edges n).out = s.out := State.pipWrap_out _ _
@[simp] theorem State.edges_free (n : Nat) : (s.edges n).free = s.free := State.pipWrap_free _ _
theorem State.edges_reg_ne (n : Nat) {k : Nat} (h : k ≠ Reg.pgIrq pTIM) : (s.edges n).reg k = s.reg k := by
  exact State.pipWrap_reg_ne _ _ h
@[simp] theorem State.advanceTo_pending (t : BitVec 64) : (s.advanceTo t).pending = s.pending := by
  unfold State.advanceTo; split <;> simp
@[simp] theorem State.advanceTo_mem (t : BitVec 64) : (s.advanceTo t).mem = s.mem := by
  unfold State.advanceTo; split <;> simp
@[simp] theorem State.advanceTo_poison (t : BitVec 64) : (s.advanceTo t).poison = s.poison := by
  unfold State.advanceTo; split <;> simp
@[simp] theorem State.advanceTo_state (t : BitVec 64) : (s.advanceTo t).state = s.state := by
  unfold State.advanceTo; split <;> simp
@[simp] theorem State.advanceTo_option (t : BitVec 64) : (s.advanceTo t).option = s.option := by
  unfold State.advanceTo; split <;> simp
@[simp] theorem State.advanceTo_opSaved (t : BitVec 64) : (s.advanceTo t).opSaved = s.opSaved := by
  unfold State.advanceTo; split <;> simp
@[simp] theorem State.advanceTo_boards (t : BitVec 64) : (s.advanceTo t).boards = s.boards := by
  unfold State.advanceTo; split <;> simp
@[simp] theorem State.advanceTo_seqr (t : BitVec 64) : (s.advanceTo t).seqr = s.seqr := by
  unfold State.advanceTo; split <;> simp
@[simp] theorem State.advanceTo_lanes (t : BitVec 64) : (s.advanceTo t).lanes = s.lanes := by
  unfold State.advanceTo; split <;> simp
@[simp] theorem State.advanceTo_gmb (t : BitVec 64) : (s.advanceTo t).gmb = s.gmb := by
  unfold State.advanceTo; split <;> simp
@[simp] theorem State.advanceTo_tasks (t : BitVec 64) : (s.advanceTo t).tasks = s.tasks := by
  unfold State.advanceTo; split <;> simp
@[simp] theorem State.advanceTo_written (t : BitVec 64) : (s.advanceTo t).written = s.written := by
  unfold State.advanceTo; split <;> simp
@[simp] theorem State.advanceTo_movers (t : BitVec 64) : (s.advanceTo t).movers = s.movers := by
  unfold State.advanceTo; split <;> simp
@[simp] theorem State.advanceTo_descs (t : BitVec 64) : (s.advanceTo t).descs = s.descs := by
  unfold State.advanceTo; split <;> simp
@[simp] theorem State.advanceTo_ringTurn (t : BitVec 64) : (s.advanceTo t).ringTurn = s.ringTurn := by
  unfold State.advanceTo; split <;> simp
@[simp] theorem State.advanceTo_tlb (t : BitVec 64) : (s.advanceTo t).tlb = s.tlb := by
  unfold State.advanceTo; split <;> simp
@[simp] theorem State.advanceTo_retire (t : BitVec 64) : (s.advanceTo t).retire = s.retire := by
  unfold State.advanceTo; split <;> simp
@[simp] theorem State.advanceTo_retMark (t : BitVec 64) : (s.advanceTo t).retMark = s.retMark := by
  unfold State.advanceTo; split <;> simp
@[simp] theorem State.advanceTo_migr (t : BitVec 64) : (s.advanceTo t).migr = s.migr := by
  unfold State.advanceTo; split <;> simp
@[simp] theorem State.advanceTo_invAt (t : BitVec 64) : (s.advanceTo t).invAt = s.invAt := by
  unfold State.advanceTo; split <;> simp
@[simp] theorem State.advanceTo_regionW (t : BitVec 64) : (s.advanceTo t).regionW = s.regionW := by
  unfold State.advanceTo; split <;> simp
@[simp] theorem State.advanceTo_events (t : BitVec 64) : (s.advanceTo t).events = s.events := by
  unfold State.advanceTo; split <;> simp
@[simp] theorem State.advanceTo_lineDead (t : BitVec 64) : (s.advanceTo t).lineDead = s.lineDead := by
  unfold State.advanceTo; split <;> simp
@[simp] theorem State.advanceTo_ownFall (t : BitVec 64) : (s.advanceTo t).ownFall = s.ownFall := by
  unfold State.advanceTo; split <;> simp
@[simp] theorem State.advanceTo_rst (t : BitVec 64) : (s.advanceTo t).rst = s.rst := by
  unfold State.advanceTo; split <;> simp
@[simp] theorem State.advanceTo_boot (t : BitVec 64) : (s.advanceTo t).boot = s.boot := by
  unfold State.advanceTo; split <;> simp
@[simp] theorem State.advanceTo_net (t : BitVec 64) : (s.advanceTo t).net = s.net := by
  unfold State.advanceTo; split <;> simp
@[simp] theorem State.advanceTo_pair (t : BitVec 64) : (s.advanceTo t).pair = s.pair := by
  unfold State.advanceTo; split <;> simp
@[simp] theorem State.advanceTo_sdPend (t : BitVec 64) : (s.advanceTo t).sdPend = s.sdPend := by
  unfold State.advanceTo; split <;> simp
@[simp] theorem State.advanceTo_wedged (t : BitVec 64) : (s.advanceTo t).wedged = s.wedged := by
  unfold State.advanceTo; split <;> simp
@[simp] theorem State.advanceTo_rcd (t : BitVec 64) : (s.advanceTo t).rcd = s.rcd := by
  unfold State.advanceTo; split <;> simp
@[simp] theorem State.advanceTo_upd (t : BitVec 64) : (s.advanceTo t).upd = s.upd := by
  unfold State.advanceTo; split <;> simp
@[simp] theorem State.advanceTo_host (t : BitVec 64) : (s.advanceTo t).host = s.host := by
  unfold State.advanceTo; split <;> simp
@[simp] theorem State.advanceTo_can (t : BitVec 64) : (s.advanceTo t).can = s.can := by
  unfold State.advanceTo; split <;> simp
@[simp] theorem State.advanceTo_fio (t : BitVec 64) : (s.advanceTo t).fio = s.fio := by
  unfold State.advanceTo; split <;> simp
@[simp] theorem State.advanceTo_jtag (t : BitVec 64) : (s.advanceTo t).jtag = s.jtag := by
  unfold State.advanceTo; split <;> simp
@[simp] theorem State.advanceTo_out (t : BitVec 64) : (s.advanceTo t).out = s.out := by
  unfold State.advanceTo; split <;> simp
@[simp] theorem State.advanceTo_free (t : BitVec 64) : (s.advanceTo t).free = s.free := by
  unfold State.advanceTo; split <;> simp
theorem State.advanceTo_reg_ne (t : BitVec 64) {k : Nat} (h : k ≠ Reg.pgIrq pTIM) : (s.advanceTo t).reg k = s.reg k := by
  unfold State.advanceTo; split
  · exact s.edges_reg_ne _ h
  · rfl
@[simp] theorem State.waitOp_pending (t : Nat) : (s.waitOp t).pending = s.pending := by
  unfold State.waitOp; split <;> simp
@[simp] theorem State.waitOp_mem (t : Nat) : (s.waitOp t).mem = s.mem := by
  unfold State.waitOp; split <;> simp
@[simp] theorem State.waitOp_poison (t : Nat) : (s.waitOp t).poison = s.poison := by
  unfold State.waitOp; split <;> simp
@[simp] theorem State.waitOp_state (t : Nat) : (s.waitOp t).state = s.state := by
  unfold State.waitOp; split <;> simp
@[simp] theorem State.waitOp_option (t : Nat) : (s.waitOp t).option = s.option := by
  unfold State.waitOp; split <;> simp
@[simp] theorem State.waitOp_opSaved (t : Nat) : (s.waitOp t).opSaved = s.opSaved := by
  unfold State.waitOp; split <;> simp
@[simp] theorem State.waitOp_boards (t : Nat) : (s.waitOp t).boards = s.boards := by
  unfold State.waitOp; split <;> simp
@[simp] theorem State.waitOp_seqr (t : Nat) : (s.waitOp t).seqr = s.seqr := by
  unfold State.waitOp; split <;> simp
@[simp] theorem State.waitOp_lanes (t : Nat) : (s.waitOp t).lanes = s.lanes := by
  unfold State.waitOp; split <;> simp
@[simp] theorem State.waitOp_gmb (t : Nat) : (s.waitOp t).gmb = s.gmb := by
  unfold State.waitOp; split <;> simp
@[simp] theorem State.waitOp_tasks (t : Nat) : (s.waitOp t).tasks = s.tasks := by
  unfold State.waitOp; split <;> simp
@[simp] theorem State.waitOp_written (t : Nat) : (s.waitOp t).written = s.written := by
  unfold State.waitOp; split <;> simp
@[simp] theorem State.waitOp_movers (t : Nat) : (s.waitOp t).movers = s.movers := by
  unfold State.waitOp; split <;> simp
@[simp] theorem State.waitOp_descs (t : Nat) : (s.waitOp t).descs = s.descs := by
  unfold State.waitOp; split <;> simp
@[simp] theorem State.waitOp_ringTurn (t : Nat) : (s.waitOp t).ringTurn = s.ringTurn := by
  unfold State.waitOp; split <;> simp
@[simp] theorem State.waitOp_tlb (t : Nat) : (s.waitOp t).tlb = s.tlb := by
  unfold State.waitOp; split <;> simp
@[simp] theorem State.waitOp_retire (t : Nat) : (s.waitOp t).retire = s.retire := by
  unfold State.waitOp; split <;> simp
@[simp] theorem State.waitOp_retMark (t : Nat) : (s.waitOp t).retMark = s.retMark := by
  unfold State.waitOp; split <;> simp
@[simp] theorem State.waitOp_migr (t : Nat) : (s.waitOp t).migr = s.migr := by
  unfold State.waitOp; split <;> simp
@[simp] theorem State.waitOp_invAt (t : Nat) : (s.waitOp t).invAt = s.invAt := by
  unfold State.waitOp; split <;> simp
@[simp] theorem State.waitOp_regionW (t : Nat) : (s.waitOp t).regionW = s.regionW := by
  unfold State.waitOp; split <;> simp
@[simp] theorem State.waitOp_events (t : Nat) : (s.waitOp t).events = s.events := by
  unfold State.waitOp; split <;> simp
@[simp] theorem State.waitOp_lineDead (t : Nat) : (s.waitOp t).lineDead = s.lineDead := by
  unfold State.waitOp; split <;> simp
@[simp] theorem State.waitOp_ownFall (t : Nat) : (s.waitOp t).ownFall = s.ownFall := by
  unfold State.waitOp; split <;> simp
@[simp] theorem State.waitOp_rst (t : Nat) : (s.waitOp t).rst = s.rst := by
  unfold State.waitOp; split <;> simp
@[simp] theorem State.waitOp_boot (t : Nat) : (s.waitOp t).boot = s.boot := by
  unfold State.waitOp; split <;> simp
@[simp] theorem State.waitOp_net (t : Nat) : (s.waitOp t).net = s.net := by
  unfold State.waitOp; split <;> simp
@[simp] theorem State.waitOp_pair (t : Nat) : (s.waitOp t).pair = s.pair := by
  unfold State.waitOp; split <;> simp
@[simp] theorem State.waitOp_sdPend (t : Nat) : (s.waitOp t).sdPend = s.sdPend := by
  unfold State.waitOp; split <;> simp
@[simp] theorem State.waitOp_wedged (t : Nat) : (s.waitOp t).wedged = s.wedged := by
  unfold State.waitOp; split <;> simp
@[simp] theorem State.waitOp_rcd (t : Nat) : (s.waitOp t).rcd = s.rcd := by
  unfold State.waitOp; split <;> simp
@[simp] theorem State.waitOp_upd (t : Nat) : (s.waitOp t).upd = s.upd := by
  unfold State.waitOp; split <;> simp
@[simp] theorem State.waitOp_host (t : Nat) : (s.waitOp t).host = s.host := by
  unfold State.waitOp; split <;> simp
@[simp] theorem State.waitOp_can (t : Nat) : (s.waitOp t).can = s.can := by
  unfold State.waitOp; split <;> simp
@[simp] theorem State.waitOp_fio (t : Nat) : (s.waitOp t).fio = s.fio := by
  unfold State.waitOp; split <;> simp
@[simp] theorem State.waitOp_jtag (t : Nat) : (s.waitOp t).jtag = s.jtag := by
  unfold State.waitOp; split <;> simp
@[simp] theorem State.waitOp_out (t : Nat) : (s.waitOp t).out = s.out := by
  unfold State.waitOp; split <;> simp
@[simp] theorem State.waitOp_free (t : Nat) : (s.waitOp t).free = s.free := by
  unfold State.waitOp; split <;> simp
theorem State.waitOp_reg_ne (t : Nat) {k : Nat} (h : k ≠ Reg.pgIrq pTIM) : (s.waitOp t).reg k = s.reg k := by
  unfold State.waitOp; split
  · exact s.edges_reg_ne _ h
  · exact s.opAdvance_reg _ _
@[simp] theorem State.toPip_pending (p : Nat) : (s.toPip p).pending = s.pending := s.advanceTo_pending _
@[simp] theorem State.toPip_mem (p : Nat) : (s.toPip p).mem = s.mem := s.advanceTo_mem _
@[simp] theorem State.toPip_poison (p : Nat) : (s.toPip p).poison = s.poison := s.advanceTo_poison _
@[simp] theorem State.toPip_state (p : Nat) : (s.toPip p).state = s.state := s.advanceTo_state _
@[simp] theorem State.toPip_option (p : Nat) : (s.toPip p).option = s.option := s.advanceTo_option _
@[simp] theorem State.toPip_opSaved (p : Nat) : (s.toPip p).opSaved = s.opSaved := s.advanceTo_opSaved _
@[simp] theorem State.toPip_boards (p : Nat) : (s.toPip p).boards = s.boards := s.advanceTo_boards _
@[simp] theorem State.toPip_seqr (p : Nat) : (s.toPip p).seqr = s.seqr := s.advanceTo_seqr _
@[simp] theorem State.toPip_lanes (p : Nat) : (s.toPip p).lanes = s.lanes := s.advanceTo_lanes _
@[simp] theorem State.toPip_gmb (p : Nat) : (s.toPip p).gmb = s.gmb := s.advanceTo_gmb _
@[simp] theorem State.toPip_tasks (p : Nat) : (s.toPip p).tasks = s.tasks := s.advanceTo_tasks _
@[simp] theorem State.toPip_written (p : Nat) : (s.toPip p).written = s.written := s.advanceTo_written _
@[simp] theorem State.toPip_movers (p : Nat) : (s.toPip p).movers = s.movers := s.advanceTo_movers _
@[simp] theorem State.toPip_descs (p : Nat) : (s.toPip p).descs = s.descs := s.advanceTo_descs _
@[simp] theorem State.toPip_ringTurn (p : Nat) : (s.toPip p).ringTurn = s.ringTurn := s.advanceTo_ringTurn _
@[simp] theorem State.toPip_tlb (p : Nat) : (s.toPip p).tlb = s.tlb := s.advanceTo_tlb _
@[simp] theorem State.toPip_retire (p : Nat) : (s.toPip p).retire = s.retire := s.advanceTo_retire _
@[simp] theorem State.toPip_retMark (p : Nat) : (s.toPip p).retMark = s.retMark := s.advanceTo_retMark _
@[simp] theorem State.toPip_migr (p : Nat) : (s.toPip p).migr = s.migr := s.advanceTo_migr _
@[simp] theorem State.toPip_invAt (p : Nat) : (s.toPip p).invAt = s.invAt := s.advanceTo_invAt _
@[simp] theorem State.toPip_regionW (p : Nat) : (s.toPip p).regionW = s.regionW := s.advanceTo_regionW _
@[simp] theorem State.toPip_events (p : Nat) : (s.toPip p).events = s.events := s.advanceTo_events _
@[simp] theorem State.toPip_lineDead (p : Nat) : (s.toPip p).lineDead = s.lineDead := s.advanceTo_lineDead _
@[simp] theorem State.toPip_ownFall (p : Nat) : (s.toPip p).ownFall = s.ownFall := s.advanceTo_ownFall _
@[simp] theorem State.toPip_rst (p : Nat) : (s.toPip p).rst = s.rst := s.advanceTo_rst _
@[simp] theorem State.toPip_boot (p : Nat) : (s.toPip p).boot = s.boot := s.advanceTo_boot _
@[simp] theorem State.toPip_net (p : Nat) : (s.toPip p).net = s.net := s.advanceTo_net _
@[simp] theorem State.toPip_pair (p : Nat) : (s.toPip p).pair = s.pair := s.advanceTo_pair _
@[simp] theorem State.toPip_sdPend (p : Nat) : (s.toPip p).sdPend = s.sdPend := s.advanceTo_sdPend _
@[simp] theorem State.toPip_wedged (p : Nat) : (s.toPip p).wedged = s.wedged := s.advanceTo_wedged _
@[simp] theorem State.toPip_rcd (p : Nat) : (s.toPip p).rcd = s.rcd := s.advanceTo_rcd _
@[simp] theorem State.toPip_upd (p : Nat) : (s.toPip p).upd = s.upd := s.advanceTo_upd _
@[simp] theorem State.toPip_host (p : Nat) : (s.toPip p).host = s.host := s.advanceTo_host _
@[simp] theorem State.toPip_can (p : Nat) : (s.toPip p).can = s.can := s.advanceTo_can _
@[simp] theorem State.toPip_fio (p : Nat) : (s.toPip p).fio = s.fio := s.advanceTo_fio _
@[simp] theorem State.toPip_jtag (p : Nat) : (s.toPip p).jtag = s.jtag := s.advanceTo_jtag _
@[simp] theorem State.toPip_out (p : Nat) : (s.toPip p).out = s.out := s.advanceTo_out _
@[simp] theorem State.toPip_free (p : Nat) : (s.toPip p).free = s.free := s.advanceTo_free _
theorem State.toPip_reg_ne (p : Nat) {k : Nat} (h : k ≠ Reg.pgIrq pTIM) : (s.toPip p).reg k = s.reg k := s.advanceTo_reg_ne _ h
@[simp] theorem State.toIssue_pending (k : Track) (i : Nat) (e : Entry) : (s.toIssue k i e).pending = s.pending := by
  unfold State.toIssue; dsimp only; split <;> simp
@[simp] theorem State.toIssue_mem (k : Track) (i : Nat) (e : Entry) : (s.toIssue k i e).mem = s.mem := by
  unfold State.toIssue; dsimp only; split <;> simp
@[simp] theorem State.toIssue_poison (k : Track) (i : Nat) (e : Entry) : (s.toIssue k i e).poison = s.poison := by
  unfold State.toIssue; dsimp only; split <;> simp
@[simp] theorem State.toIssue_state (k : Track) (i : Nat) (e : Entry) : (s.toIssue k i e).state = s.state := by
  unfold State.toIssue; dsimp only; split <;> simp
@[simp] theorem State.toIssue_option (k : Track) (i : Nat) (e : Entry) : (s.toIssue k i e).option = s.option := by
  unfold State.toIssue; dsimp only; split <;> simp
@[simp] theorem State.toIssue_opSaved (k : Track) (i : Nat) (e : Entry) : (s.toIssue k i e).opSaved = s.opSaved := by
  unfold State.toIssue; dsimp only; split <;> simp
@[simp] theorem State.toIssue_boards (k : Track) (i : Nat) (e : Entry) : (s.toIssue k i e).boards = s.boards := by
  unfold State.toIssue; dsimp only; split <;> simp
@[simp] theorem State.toIssue_seqr (k : Track) (i : Nat) (e : Entry) : (s.toIssue k i e).seqr = s.seqr := by
  unfold State.toIssue; dsimp only; split <;> simp
@[simp] theorem State.toIssue_lanes (k : Track) (i : Nat) (e : Entry) : (s.toIssue k i e).lanes = s.lanes := by
  unfold State.toIssue; dsimp only; split <;> simp
@[simp] theorem State.toIssue_gmb (k : Track) (i : Nat) (e : Entry) : (s.toIssue k i e).gmb = s.gmb := by
  unfold State.toIssue; dsimp only; split <;> simp
@[simp] theorem State.toIssue_tasks (k : Track) (i : Nat) (e : Entry) : (s.toIssue k i e).tasks = s.tasks := by
  unfold State.toIssue; dsimp only; split <;> simp
@[simp] theorem State.toIssue_written (k : Track) (i : Nat) (e : Entry) : (s.toIssue k i e).written = s.written := by
  unfold State.toIssue; dsimp only; split <;> simp
@[simp] theorem State.toIssue_movers (k : Track) (i : Nat) (e : Entry) : (s.toIssue k i e).movers = s.movers := by
  unfold State.toIssue; dsimp only; split <;> simp
@[simp] theorem State.toIssue_descs (k : Track) (i : Nat) (e : Entry) : (s.toIssue k i e).descs = s.descs := by
  unfold State.toIssue; dsimp only; split <;> simp
@[simp] theorem State.toIssue_ringTurn (k : Track) (i : Nat) (e : Entry) : (s.toIssue k i e).ringTurn = s.ringTurn := by
  unfold State.toIssue; dsimp only; split <;> simp
@[simp] theorem State.toIssue_tlb (k : Track) (i : Nat) (e : Entry) : (s.toIssue k i e).tlb = s.tlb := by
  unfold State.toIssue; dsimp only; split <;> simp
@[simp] theorem State.toIssue_retire (k : Track) (i : Nat) (e : Entry) : (s.toIssue k i e).retire = s.retire := by
  unfold State.toIssue; dsimp only; split <;> simp
@[simp] theorem State.toIssue_retMark (k : Track) (i : Nat) (e : Entry) : (s.toIssue k i e).retMark = s.retMark := by
  unfold State.toIssue; dsimp only; split <;> simp
@[simp] theorem State.toIssue_migr (k : Track) (i : Nat) (e : Entry) : (s.toIssue k i e).migr = s.migr := by
  unfold State.toIssue; dsimp only; split <;> simp
@[simp] theorem State.toIssue_invAt (k : Track) (i : Nat) (e : Entry) : (s.toIssue k i e).invAt = s.invAt := by
  unfold State.toIssue; dsimp only; split <;> simp
@[simp] theorem State.toIssue_regionW (k : Track) (i : Nat) (e : Entry) : (s.toIssue k i e).regionW = s.regionW := by
  unfold State.toIssue; dsimp only; split <;> simp
@[simp] theorem State.toIssue_events (k : Track) (i : Nat) (e : Entry) : (s.toIssue k i e).events = s.events := by
  unfold State.toIssue; dsimp only; split <;> simp
@[simp] theorem State.toIssue_lineDead (k : Track) (i : Nat) (e : Entry) : (s.toIssue k i e).lineDead = s.lineDead := by
  unfold State.toIssue; dsimp only; split <;> simp
@[simp] theorem State.toIssue_ownFall (k : Track) (i : Nat) (e : Entry) : (s.toIssue k i e).ownFall = s.ownFall := by
  unfold State.toIssue; dsimp only; split <;> simp
@[simp] theorem State.toIssue_rst (k : Track) (i : Nat) (e : Entry) : (s.toIssue k i e).rst = s.rst := by
  unfold State.toIssue; dsimp only; split <;> simp
@[simp] theorem State.toIssue_boot (k : Track) (i : Nat) (e : Entry) : (s.toIssue k i e).boot = s.boot := by
  unfold State.toIssue; dsimp only; split <;> simp
@[simp] theorem State.toIssue_net (k : Track) (i : Nat) (e : Entry) : (s.toIssue k i e).net = s.net := by
  unfold State.toIssue; dsimp only; split <;> simp
@[simp] theorem State.toIssue_pair (k : Track) (i : Nat) (e : Entry) : (s.toIssue k i e).pair = s.pair := by
  unfold State.toIssue; dsimp only; split <;> simp
@[simp] theorem State.toIssue_sdPend (k : Track) (i : Nat) (e : Entry) : (s.toIssue k i e).sdPend = s.sdPend := by
  unfold State.toIssue; dsimp only; split <;> simp
@[simp] theorem State.toIssue_wedged (k : Track) (i : Nat) (e : Entry) : (s.toIssue k i e).wedged = s.wedged := by
  unfold State.toIssue; dsimp only; split <;> simp
@[simp] theorem State.toIssue_rcd (k : Track) (i : Nat) (e : Entry) : (s.toIssue k i e).rcd = s.rcd := by
  unfold State.toIssue; dsimp only; split <;> simp
@[simp] theorem State.toIssue_upd (k : Track) (i : Nat) (e : Entry) : (s.toIssue k i e).upd = s.upd := by
  unfold State.toIssue; dsimp only; split <;> simp
@[simp] theorem State.toIssue_host (k : Track) (i : Nat) (e : Entry) : (s.toIssue k i e).host = s.host := by
  unfold State.toIssue; dsimp only; split <;> simp
@[simp] theorem State.toIssue_can (k : Track) (i : Nat) (e : Entry) : (s.toIssue k i e).can = s.can := by
  unfold State.toIssue; dsimp only; split <;> simp
@[simp] theorem State.toIssue_fio (k : Track) (i : Nat) (e : Entry) : (s.toIssue k i e).fio = s.fio := by
  unfold State.toIssue; dsimp only; split <;> simp
@[simp] theorem State.toIssue_jtag (k : Track) (i : Nat) (e : Entry) : (s.toIssue k i e).jtag = s.jtag := by
  unfold State.toIssue; dsimp only; split <;> simp
@[simp] theorem State.toIssue_out (k : Track) (i : Nat) (e : Entry) : (s.toIssue k i e).out = s.out := by
  unfold State.toIssue; dsimp only; split <;> simp
@[simp] theorem State.toIssue_free (k : Track) (i : Nat) (e : Entry) : (s.toIssue k i e).free = s.free := by
  unfold State.toIssue; dsimp only; split <;> simp
theorem State.toIssue_reg_ne (k : Track) (i : Nat) (e : Entry) {j : Nat} (h : j ≠ Reg.pgIrq pTIM) :
    (s.toIssue k i e).reg j = s.reg j := by
  unfold State.toIssue; dsimp only; split
  · rw [State.edges_reg_ne _ _ h, State.edges_reg_ne _ _ h, State.advanceTo_reg_ne _ _ h]
  · rw [State.edges_reg_ne _ _ h, State.advanceTo_reg_ne _ _ h]

/-- What neither the walker, a context nor a lane's membership of one has a part in is as it was when contexts open
(R202). -/
theorem State.openDue_keeps {α : Type} (g : State → α) (hq : ∀ s f, g (State.modSeqr s f) = g s)
    (hc : ∀ s t f, g (State.modCtx s t f) = g s)
    (hl : ∀ s n o r, g (State.modLane s n fun l => { l with owner := o, readSet := r }) = g s) : g s.openDue = g s := by
  have fold : ∀ {β : Type} (f : State → β → State), (∀ s b, g (f s b) = g s) → ∀ (l : List β) s, g (l.foldl f s) = g s := by
    intro β f hf l
    induction l with
    | nil => intro s; rfl
    | cons b l ih => intro s; rw [List.foldl_cons, ih, hf]
  have open' : ∀ s t m, g (State.openCtx s t m) = g s := by
    intro s t m; unfold State.openCtx; dsimp only; split
    · exact hc ..
    · unfold over16; rw [fold _ ?_, hc]
      intro s n; split
      · exact hl ..
      · rfl
  have task : ∀ s e, g (State.openTask s e) = g s := by
    intro s e; unfold State.openTask; split
    · rfl
    · split
      · rfl
      · split
        · exact open' ..
        · rfl
  unfold State.openDue; split
  · rfl
  · apply fold; intro s i; split
    · split
      · rw [task, hq]
      · rfl
    · rfl
@[simp] theorem State.openDue_pending : s.openDue.pending = s.pending := s.openDue_keeps (·.pending) (fun _ _ => rfl) (fun _ _ _ => rfl) (fun _ _ _ _ => rfl)
@[simp] theorem State.openDue_mem : s.openDue.mem = s.mem := s.openDue_keeps (·.mem) (fun _ _ => rfl) (fun _ _ _ => rfl) (fun _ _ _ _ => rfl)
@[simp] theorem State.openDue_poison : s.openDue.poison = s.poison := s.openDue_keeps (·.poison) (fun _ _ => rfl) (fun _ _ _ => rfl) (fun _ _ _ _ => rfl)
@[simp] theorem State.openDue_state : s.openDue.state = s.state := s.openDue_keeps (·.state) (fun _ _ => rfl) (fun _ _ _ => rfl) (fun _ _ _ _ => rfl)
@[simp] theorem State.openDue_option : s.openDue.option = s.option := s.openDue_keeps (·.option) (fun _ _ => rfl) (fun _ _ _ => rfl) (fun _ _ _ _ => rfl)
@[simp] theorem State.openDue_opSaved : s.openDue.opSaved = s.opSaved := s.openDue_keeps (·.opSaved) (fun _ _ => rfl) (fun _ _ _ => rfl) (fun _ _ _ _ => rfl)
@[simp] theorem State.openDue_boards : s.openDue.boards = s.boards := s.openDue_keeps (·.boards) (fun _ _ => rfl) (fun _ _ _ => rfl) (fun _ _ _ _ => rfl)
@[simp] theorem State.openDue_tasks : s.openDue.tasks = s.tasks := s.openDue_keeps (·.tasks) (fun _ _ => rfl) (fun _ _ _ => rfl) (fun _ _ _ _ => rfl)
@[simp] theorem State.openDue_written : s.openDue.written = s.written := s.openDue_keeps (·.written) (fun _ _ => rfl) (fun _ _ _ => rfl) (fun _ _ _ _ => rfl)
@[simp] theorem State.openDue_movers : s.openDue.movers = s.movers := s.openDue_keeps (·.movers) (fun _ _ => rfl) (fun _ _ _ => rfl) (fun _ _ _ _ => rfl)
@[simp] theorem State.openDue_descs : s.openDue.descs = s.descs := s.openDue_keeps (·.descs) (fun _ _ => rfl) (fun _ _ _ => rfl) (fun _ _ _ _ => rfl)
@[simp] theorem State.openDue_ringTurn : s.openDue.ringTurn = s.ringTurn := s.openDue_keeps (·.ringTurn) (fun _ _ => rfl) (fun _ _ _ => rfl) (fun _ _ _ _ => rfl)
@[simp] theorem State.openDue_tlb : s.openDue.tlb = s.tlb := s.openDue_keeps (·.tlb) (fun _ _ => rfl) (fun _ _ _ => rfl) (fun _ _ _ _ => rfl)
@[simp] theorem State.openDue_retire : s.openDue.retire = s.retire := s.openDue_keeps (·.retire) (fun _ _ => rfl) (fun _ _ _ => rfl) (fun _ _ _ _ => rfl)
@[simp] theorem State.openDue_retMark : s.openDue.retMark = s.retMark := s.openDue_keeps (·.retMark) (fun _ _ => rfl) (fun _ _ _ => rfl) (fun _ _ _ _ => rfl)
@[simp] theorem State.openDue_migr : s.openDue.migr = s.migr := s.openDue_keeps (·.migr) (fun _ _ => rfl) (fun _ _ _ => rfl) (fun _ _ _ _ => rfl)
@[simp] theorem State.openDue_invAt : s.openDue.invAt = s.invAt := s.openDue_keeps (·.invAt) (fun _ _ => rfl) (fun _ _ _ => rfl) (fun _ _ _ _ => rfl)
@[simp] theorem State.openDue_regionW : s.openDue.regionW = s.regionW := s.openDue_keeps (·.regionW) (fun _ _ => rfl) (fun _ _ _ => rfl) (fun _ _ _ _ => rfl)
@[simp] theorem State.openDue_events : s.openDue.events = s.events := s.openDue_keeps (·.events) (fun _ _ => rfl) (fun _ _ _ => rfl) (fun _ _ _ _ => rfl)
@[simp] theorem State.openDue_lineDead : s.openDue.lineDead = s.lineDead := s.openDue_keeps (·.lineDead) (fun _ _ => rfl) (fun _ _ _ => rfl) (fun _ _ _ _ => rfl)
@[simp] theorem State.openDue_ownFall : s.openDue.ownFall = s.ownFall := s.openDue_keeps (·.ownFall) (fun _ _ => rfl) (fun _ _ _ => rfl) (fun _ _ _ _ => rfl)
@[simp] theorem State.openDue_rst : s.openDue.rst = s.rst := s.openDue_keeps (·.rst) (fun _ _ => rfl) (fun _ _ _ => rfl) (fun _ _ _ _ => rfl)
@[simp] theorem State.openDue_boot : s.openDue.boot = s.boot := s.openDue_keeps (·.boot) (fun _ _ => rfl) (fun _ _ _ => rfl) (fun _ _ _ _ => rfl)
@[simp] theorem State.openDue_net : s.openDue.net = s.net := s.openDue_keeps (·.net) (fun _ _ => rfl) (fun _ _ _ => rfl) (fun _ _ _ _ => rfl)
@[simp] theorem State.openDue_pair : s.openDue.pair = s.pair := s.openDue_keeps (·.pair) (fun _ _ => rfl) (fun _ _ _ => rfl) (fun _ _ _ _ => rfl)
@[simp] theorem State.openDue_sdPend : s.openDue.sdPend = s.sdPend := s.openDue_keeps (·.sdPend) (fun _ _ => rfl) (fun _ _ _ => rfl) (fun _ _ _ _ => rfl)
@[simp] theorem State.openDue_wedged : s.openDue.wedged = s.wedged := s.openDue_keeps (·.wedged) (fun _ _ => rfl) (fun _ _ _ => rfl) (fun _ _ _ _ => rfl)
@[simp] theorem State.openDue_rcd : s.openDue.rcd = s.rcd := s.openDue_keeps (·.rcd) (fun _ _ => rfl) (fun _ _ _ => rfl) (fun _ _ _ _ => rfl)
@[simp] theorem State.openDue_upd : s.openDue.upd = s.upd := s.openDue_keeps (·.upd) (fun _ _ => rfl) (fun _ _ _ => rfl) (fun _ _ _ _ => rfl)
@[simp] theorem State.openDue_host : s.openDue.host = s.host := s.openDue_keeps (·.host) (fun _ _ => rfl) (fun _ _ _ => rfl) (fun _ _ _ _ => rfl)
@[simp] theorem State.openDue_can : s.openDue.can = s.can := s.openDue_keeps (·.can) (fun _ _ => rfl) (fun _ _ _ => rfl) (fun _ _ _ _ => rfl)
@[simp] theorem State.openDue_fio : s.openDue.fio = s.fio := s.openDue_keeps (·.fio) (fun _ _ => rfl) (fun _ _ _ => rfl) (fun _ _ _ _ => rfl)
@[simp] theorem State.openDue_jtag : s.openDue.jtag = s.jtag := s.openDue_keeps (·.jtag) (fun _ _ => rfl) (fun _ _ _ => rfl) (fun _ _ _ _ => rfl)
@[simp] theorem State.openDue_out : s.openDue.out = s.out := s.openDue_keeps (·.out) (fun _ _ => rfl) (fun _ _ _ => rfl) (fun _ _ _ _ => rfl)
@[simp] theorem State.openDue_free : s.openDue.free = s.free := s.openDue_keeps (·.free) (fun _ _ => rfl) (fun _ _ _ => rfl) (fun _ _ _ _ => rfl)
@[simp] theorem State.openDue_time : s.openDue.time = s.time := s.openDue_keeps (·.time) (fun _ _ => rfl) (fun _ _ _ => rfl) (fun _ _ _ _ => rfl)
@[simp] theorem State.openDue_reg (k : Nat) : s.openDue.reg k = s.reg k := s.openDue_keeps (·.reg k) (fun _ _ => rfl) (fun _ _ _ => rfl) (fun _ _ _ _ => rfl)
@[simp] theorem State.openDue_lane_main (n : Fin 16) : s.openDue.lanes[n].main = s.lanes[n].main := by
  refine s.openDue_keeps (fun s => s.lanes[n].main) (fun _ _ => rfl) (fun _ _ _ => rfl) (fun s m o r => ?_)
  by_cases h : m = n
  · subst h; simp [State.modLane]
  · simp [State.modLane, Vector.getElem_set_ne _ _ (fun e => h (Fin.ext e))]
@[simp] theorem State.openDue_lane_shadow (n : Fin 16) : s.openDue.lanes[n].shadow = s.lanes[n].shadow := by
  refine s.openDue_keeps (fun s => s.lanes[n].shadow) (fun _ _ => rfl) (fun _ _ _ => rfl) (fun s m o r => ?_)
  by_cases h : m = n
  · subst h; simp [State.modLane]
  · simp [State.modLane, Vector.getElem_set_ne _ _ (fun e => h (Fin.ext e))]
@[simp] theorem State.openDue_lane_state (n : Fin 16) : s.openDue.lanes[n].state = s.lanes[n].state := by
  refine s.openDue_keeps (fun s => s.lanes[n].state) (fun _ _ => rfl) (fun _ _ _ => rfl) (fun s m o r => ?_)
  by_cases h : m = n
  · subst h; simp [State.modLane]
  · simp [State.modLane, Vector.getElem_set_ne _ _ (fun e => h (Fin.ext e))]
@[simp] theorem State.openDue_lane_act (n : Fin 16) : s.openDue.lanes[n].act = s.lanes[n].act := by
  refine s.openDue_keeps (fun s => s.lanes[n].act) (fun _ _ => rfl) (fun _ _ _ => rfl) (fun s m o r => ?_)
  by_cases h : m = n
  · subst h; simp [State.modLane]
  · simp [State.modLane, Vector.getElem_set_ne _ _ (fun e => h (Fin.ext e))]
@[simp] theorem State.openDue_lane_ply (n : Fin 16) : s.openDue.lanes[n].ply = s.lanes[n].ply := by
  refine s.openDue_keeps (fun s => s.lanes[n].ply) (fun _ _ => rfl) (fun _ _ _ => rfl) (fun s m o r => ?_)
  by_cases h : m = n
  · subst h; simp [State.modLane]
  · simp [State.modLane, Vector.getElem_set_ne _ _ (fun e => h (Fin.ext e))]
@[simp] theorem State.openDue_lane_work (n : Fin 16) : s.openDue.lanes[n].work = s.lanes[n].work := by
  refine s.openDue_keeps (fun s => s.lanes[n].work) (fun _ _ => rfl) (fun _ _ _ => rfl) (fun s m o r => ?_)
  by_cases h : m = n
  · subst h; simp [State.modLane]; rfl
  · simp [State.modLane, Vector.getElem_set_ne _ _ (fun e => h (Fin.ext e))]
@[simp] theorem State.openDue_lane_log (n : Fin 16) : s.openDue.lanes[n].log = s.lanes[n].log := by
  refine s.openDue_keeps (fun s => s.lanes[n].log) (fun _ _ => rfl) (fun _ _ _ => rfl) (fun s m o r => ?_)
  by_cases h : m = n
  · subst h; simp [State.modLane]
  · simp [State.modLane, Vector.getElem_set_ne _ _ (fun e => h (Fin.ext e))]
@[simp] theorem State.atEntry_pending (k : Track) (i : Nat) (e : Entry) : (s.atEntry k i e).pending = s.pending := by simp [State.atEntry]
@[simp] theorem State.atEntry_mem (k : Track) (i : Nat) (e : Entry) : (s.atEntry k i e).mem = s.mem := by simp [State.atEntry]
@[simp] theorem State.atEntry_poison (k : Track) (i : Nat) (e : Entry) : (s.atEntry k i e).poison = s.poison := by simp [State.atEntry]
@[simp] theorem State.atEntry_state (k : Track) (i : Nat) (e : Entry) : (s.atEntry k i e).state = s.state := by simp [State.atEntry]
@[simp] theorem State.atEntry_option (k : Track) (i : Nat) (e : Entry) : (s.atEntry k i e).option = s.option := by simp [State.atEntry]
@[simp] theorem State.atEntry_opSaved (k : Track) (i : Nat) (e : Entry) : (s.atEntry k i e).opSaved = s.opSaved := by simp [State.atEntry]
@[simp] theorem State.atEntry_boards (k : Track) (i : Nat) (e : Entry) : (s.atEntry k i e).boards = s.boards := by simp [State.atEntry]
@[simp] theorem State.atEntry_tasks (k : Track) (i : Nat) (e : Entry) : (s.atEntry k i e).tasks = s.tasks := by simp [State.atEntry]
@[simp] theorem State.atEntry_written (k : Track) (i : Nat) (e : Entry) : (s.atEntry k i e).written = s.written := by simp [State.atEntry]
@[simp] theorem State.atEntry_movers (k : Track) (i : Nat) (e : Entry) : (s.atEntry k i e).movers = s.movers := by simp [State.atEntry]
@[simp] theorem State.atEntry_descs (k : Track) (i : Nat) (e : Entry) : (s.atEntry k i e).descs = s.descs := by simp [State.atEntry]
@[simp] theorem State.atEntry_ringTurn (k : Track) (i : Nat) (e : Entry) : (s.atEntry k i e).ringTurn = s.ringTurn := by simp [State.atEntry]
@[simp] theorem State.atEntry_tlb (k : Track) (i : Nat) (e : Entry) : (s.atEntry k i e).tlb = s.tlb := by simp [State.atEntry]
@[simp] theorem State.atEntry_retire (k : Track) (i : Nat) (e : Entry) : (s.atEntry k i e).retire = s.retire := by simp [State.atEntry]
@[simp] theorem State.atEntry_retMark (k : Track) (i : Nat) (e : Entry) : (s.atEntry k i e).retMark = s.retMark := by simp [State.atEntry]
@[simp] theorem State.atEntry_migr (k : Track) (i : Nat) (e : Entry) : (s.atEntry k i e).migr = s.migr := by simp [State.atEntry]
@[simp] theorem State.atEntry_invAt (k : Track) (i : Nat) (e : Entry) : (s.atEntry k i e).invAt = s.invAt := by simp [State.atEntry]
@[simp] theorem State.atEntry_regionW (k : Track) (i : Nat) (e : Entry) : (s.atEntry k i e).regionW = s.regionW := by simp [State.atEntry]
@[simp] theorem State.atEntry_events (k : Track) (i : Nat) (e : Entry) : (s.atEntry k i e).events = s.events := by simp [State.atEntry]
@[simp] theorem State.atEntry_lineDead (k : Track) (i : Nat) (e : Entry) : (s.atEntry k i e).lineDead = s.lineDead := by simp [State.atEntry]
@[simp] theorem State.atEntry_ownFall (k : Track) (i : Nat) (e : Entry) : (s.atEntry k i e).ownFall = s.ownFall := by simp [State.atEntry]
@[simp] theorem State.atEntry_rst (k : Track) (i : Nat) (e : Entry) : (s.atEntry k i e).rst = s.rst := by simp [State.atEntry]
@[simp] theorem State.atEntry_boot (k : Track) (i : Nat) (e : Entry) : (s.atEntry k i e).boot = s.boot := by simp [State.atEntry]
@[simp] theorem State.atEntry_net (k : Track) (i : Nat) (e : Entry) : (s.atEntry k i e).net = s.net := by simp [State.atEntry]
@[simp] theorem State.atEntry_pair (k : Track) (i : Nat) (e : Entry) : (s.atEntry k i e).pair = s.pair := by simp [State.atEntry]
@[simp] theorem State.atEntry_sdPend (k : Track) (i : Nat) (e : Entry) : (s.atEntry k i e).sdPend = s.sdPend := by simp [State.atEntry]
@[simp] theorem State.atEntry_wedged (k : Track) (i : Nat) (e : Entry) : (s.atEntry k i e).wedged = s.wedged := by simp [State.atEntry]
@[simp] theorem State.atEntry_rcd (k : Track) (i : Nat) (e : Entry) : (s.atEntry k i e).rcd = s.rcd := by simp [State.atEntry]
@[simp] theorem State.atEntry_upd (k : Track) (i : Nat) (e : Entry) : (s.atEntry k i e).upd = s.upd := by simp [State.atEntry]
@[simp] theorem State.atEntry_host (k : Track) (i : Nat) (e : Entry) : (s.atEntry k i e).host = s.host := by simp [State.atEntry]
@[simp] theorem State.atEntry_can (k : Track) (i : Nat) (e : Entry) : (s.atEntry k i e).can = s.can := by simp [State.atEntry]
@[simp] theorem State.atEntry_fio (k : Track) (i : Nat) (e : Entry) : (s.atEntry k i e).fio = s.fio := by simp [State.atEntry]
@[simp] theorem State.atEntry_jtag (k : Track) (i : Nat) (e : Entry) : (s.atEntry k i e).jtag = s.jtag := by simp [State.atEntry]
@[simp] theorem State.atEntry_out (k : Track) (i : Nat) (e : Entry) : (s.atEntry k i e).out = s.out := by simp [State.atEntry]
@[simp] theorem State.atEntry_free (k : Track) (i : Nat) (e : Entry) : (s.atEntry k i e).free = s.free := by simp [State.atEntry]
@[simp] theorem State.atEntry_lane_main (k : Track) (i : Nat) (e : Entry) (n : Fin 16) : (s.atEntry k i e).lanes[n].main = s.lanes[n].main := by
  rw [← s.toIssue_lanes k i e]; exact State.openDue_lane_main _ n
@[simp] theorem State.atEntry_lane_shadow (k : Track) (i : Nat) (e : Entry) (n : Fin 16) : (s.atEntry k i e).lanes[n].shadow = s.lanes[n].shadow := by
  rw [← s.toIssue_lanes k i e]; exact State.openDue_lane_shadow _ n
@[simp] theorem State.atEntry_lane_state (k : Track) (i : Nat) (e : Entry) (n : Fin 16) : (s.atEntry k i e).lanes[n].state = s.lanes[n].state := by
  rw [← s.toIssue_lanes k i e]; exact State.openDue_lane_state _ n
@[simp] theorem State.atEntry_lane_act (k : Track) (i : Nat) (e : Entry) (n : Fin 16) : (s.atEntry k i e).lanes[n].act = s.lanes[n].act := by
  rw [← s.toIssue_lanes k i e]; exact State.openDue_lane_act _ n
@[simp] theorem State.atEntry_lane_ply (k : Track) (i : Nat) (e : Entry) (n : Fin 16) : (s.atEntry k i e).lanes[n].ply = s.lanes[n].ply := by
  rw [← s.toIssue_lanes k i e]; exact State.openDue_lane_ply _ n
@[simp] theorem State.atEntry_lane_work (k : Track) (i : Nat) (e : Entry) (n : Fin 16) : (s.atEntry k i e).lanes[n].work = s.lanes[n].work := by
  rw [← s.toIssue_lanes k i e]; exact State.openDue_lane_work _ n
@[simp] theorem State.atEntry_lane_log (k : Track) (i : Nat) (e : Entry) (n : Fin 16) : (s.atEntry k i e).lanes[n].log = s.lanes[n].log := by
  rw [← s.toIssue_lanes k i e]; exact State.openDue_lane_log _ n
theorem State.atEntry_reg_ne (k : Track) (i : Nat) (e : Entry) {j : Nat} (h : j ≠ Reg.pgIrq pTIM) :
    (s.atEntry k i e).reg j = s.reg j := ((s.toIssue k i e).openDue_reg j).trans (s.toIssue_reg_ne k i e h)

/-- An entry that comes up in time and enabled has its effect at its START. -/
theorem State.onEntry_due {k : Track} {i : Nat} {e : Entry} (h : s.due k i e) (f : State → Entry → Bool → State) :
    s.onEntry k i f = f (s.atEntry k i e) e false := by
  obtain ⟨⟨hr, hh, he, hw⟩, hp, hen⟩ := h
  unfold State.onEntry State.issueEntry
  cases hwk : s.seqr.walk with
  | none => simp [hwk] at hw
  | some w =>
    have hc : ((w.buf k).contains i && !s.waitsBefore k w i e) = true := by simpa [hwk] using hw
    have ha : { (s.toIssue k i e).openDue with seqr := { (s.toIssue k i e).openDue.seqr with
        walk := (s.toIssue k i e).openDue.seqr.walk.map (fun w => w.drop k i)
        fDone := if k = .f ∧ (s.toIssue k i e).openDue.enabled k e then some (s.toIssue k i e).openDue.time.gt
          else (s.toIssue k i e).openDue.seqr.fDone } } = s.atEntry k i e := rfl
    simp only [hr, hh, he, hc, hp, ne_eq, not_true, Option.isSome_none, Bool.false_eq_true, or_false, if_false, if_true,
      Bool.false_and, ha, hen]

/-- The same of a FIELD entry. -/
theorem State.onField_due {i k : Nat} {e : Entry} (h : s.due .f i e) (ht : e.etype = 5) (hk : e.fevt = k)
    (f : State → Entry → State) : s.onField i k f = f (s.atEntry .f i e) e := by
  have he : (s.track .f)[i]? = some e := h.1.2.2.1
  unfold State.onField
  simp only [he, ht, hk, and_self, if_true]
  exact s.onEntry_due h _

end Sys2Proof.Machine
end

