-- ==== Sys2Proof/Laws/Issue.lean ====
section
/-! SUPPORT. What the issue of an instruction does, once for every lane instruction: a result, a trap. -/

open Sys2Proof
namespace Sys2Proof.Machine

variable {n : Fin 16} {s t : State}

/-- The state after an instruction that is done: both copies take `c`, the cycles are counted. -/
def State.laneDone (s : State) (n : Fin 16) (c : Core) (pc : Word) (lat : Nat) : State :=
  (s.setCore n c).modLane n fun l => { l with lastPc := pc, cyc := l.cyc + lat }

/-- A lane that stands at no routine of the library takes its instruction at once. -/
theorem command_eq (h : s.issues n) (body : State → Core → State × CoreRes) : s.command n body = s.issue n body := by
  unfold State.command State.libraryStep
  simp only [h.1, h.2.1, Bool.not_true, Bool.false_eq_true, if_false]

/-- A lane that executes waits for nothing. -/
theorem awaitLane_eq {step : Bool} (h : s.executes n step = true) : s.awaitLane n = s := by
  unfold State.executes Lane.busy3 at h
  simp only [Bool.and_eq_true, Bool.not_eq_true', Bool.or_eq_false_iff] at h
  obtain ⟨⟨-, -, hb⟩, hp⟩ := h
  unfold State.awaitLane
  dsimp only
  rw [if_neg]
  simp only [Bool.and_eq_true, decide_eq_true_eq, not_and, Nat.not_lt, Nat.max_le]
  refine fun _ => ⟨?_, ?_⟩
  · cases hq : s.lanes[n].busy with
    | none => exact Nat.zero_le _
    | some b => rw [hq] at hb; simpa using hb
  · cases hq : s.lanes[n].ply with
    | none => exact Nat.zero_le _
    | some p => rw [hq] at hp; exact of_decide_eq_true (Bool.and_eq_true_iff.mp hp).2

/-- An instruction that is done. -/
theorem issue_done {body : State → Core → State × CoreRes} {c : Core} {lat : Nat} (h : s.issues n)
    (hb : body s s.lanes[n].main = (t, .done c lat)) : s.issue n body = t.laneDone n c (s.pc n) lat := by
  obtain ⟨h1, -, h2, h3⟩ := h
  simp only [State.pc] at h2 h3
  unfold State.issue State.issueAs
  simp only [awaitLane_eq h1, h1, h2, h3, hb]
  rfl

/-- An instruction that traps. -/
theorem issue_trap {body : State → Core → State × CoreRes} {cause detail : Nat} {addr : Word} (h : s.issues n)
    (hb : body s s.lanes[n].main = (t, .trap cause detail addr)) :
    s.issue n body = s.takeTrap n cause detail ((s.pc n).toNat / 4) addr := by
  obtain ⟨h1, -, h2, h3⟩ := h
  simp only [State.pc] at h2 h3
  unfold State.issue State.issueAs
  simp only [awaitLane_eq h1, h1, h2, h3, hb]
  rfl

theorem get_put (c : Core) (rd r : BitVec 5) (v : Word) : (c.put rd v).get r = if r = rd ∧ rd ≠ 0 then v else c.get r := by
  unfold Core.put Core.get
  by_cases h3 : r = 0
  · rw [if_pos h3, if_pos h3]
    split
    · rename_i e; exact absurd (e.1.symm.trans h3) e.2
    · rfl
  · rw [if_neg h3, if_neg h3]
    by_cases h : rd = 0
    · simp only [if_pos h, if_neg (show ¬ (r = rd ∧ rd ≠ 0) from fun x => x.2 h)]
    · simp only [if_neg h]
      by_cases h2 : r = rd
      · simp only [if_pos (show r = rd ∧ rd ≠ 0 from ⟨h2, h⟩)]; subst h2; exact Vector.getElem_set_self _
      · have : rd.toNat ≠ r.toNat := fun e => h2 (BitVec.eq_of_toNat_eq e.symm)
        simp only [if_neg (show ¬ (r = rd ∧ rd ≠ 0) from fun x => h2 x.1)]
        exact Vector.getElem_set_ne _ _ this

@[simp] theorem put_pc (c : Core) (rd : BitVec 5) (v : Word) : (c.put rd v).pc = c.pc := by unfold Core.put; split <;> rfl
@[simp] theorem put_qa (c : Core) (rd : BitVec 5) (v : Word) : (c.put rd v).qa = c.qa := by unfold Core.put; split <;> rfl
@[simp] theorem put_tc (c : Core) (rd : BitVec 5) (v : Word) : (c.put rd v).tc = c.tc := by unfold Core.put; split <;> rfl

theorem laneDone_lane (c : Core) (pc : Word) (lat : Nat) :
    (s.laneDone n c pc lat).lanes[n] = { s.lanes[n] with main := c, shadow := c, lastPc := pc, cyc := s.lanes[n].cyc + lat } := by
  simp [State.laneDone, State.setCore, State.modLane]

theorem laneDone_frame (c : Core) (pc : Word) (lat : Nat) : LaneFrame n s (s.laneDone n c pc lat) := by
  refine ⟨rfl, fun m hm => ?_, ?_, ?_, ?_, ?_, ?_, ?_, ?_⟩
  · have : n.val ≠ m.val := fun e => hm (Fin.ext e.symm)
    simp [State.laneDone, State.setCore, State.modLane, this]
  all_goals simp only [laneDone_lane]

/-- A result on registers: one register, QA and the PC. -/
theorem laneDone_leaves {c : Core} {rd : BitVec 5} {v : Word} {qa : BitVec 8} {pc pc' : Word} {lat : Nat}
    (hg : ∀ r, c.get r = if r = rd ∧ rd ≠ 0 then v else s.lanes[n].main.get r) (hq : c.qa = qa) (hp : c.pc = pc)
    (ht : c.tc = s.lanes[n].main.tc) : Leaves n rd v qa pc s (s.laneDone n c pc' lat) := by
  refine ⟨fun r => ?_, ?_, ?_, ?_, laneDone_frame c pc' lat⟩
  · simp only [State.g, laneDone_lane]; exact hg r
  · simp only [State.qa, laneDone_lane]; exact hq
  · simp only [State.pc, laneDone_lane]; exact hp
  · simp only [laneDone_lane]; exact ht

/-- A result in sequence, with QA as it may have become. -/
theorem issue_writes {body : State → Core → State × CoreRes} {rd : BitVec 5} {v : Word} {qa : BitVec 8} {lat : Nat}
    (h : s.issues n) (hb : body s s.lanes[n].main = (t, .write { s.lanes[n].main with qa := qa } rd v lat))
    (hl : t.lanes[n].main = s.lanes[n].main) : Writes n rd v qa t (s.issue n body) := by
  rw [issue_done h hb]
  refine laneDone_leaves (fun r => ?_) ?_ ?_ ?_
  · rw [hl]; show (Core.put _ rd v).get r = _; rw [get_put]; rfl
  · show (Core.put _ rd v).qa = qa; simp
  · show (Core.put _ rd v).pc + 4 = t.pc n + 4; simp only [put_pc, State.pc]; rw [hl]
  · show (Core.put _ rd v).tc = _; rw [hl]; exact put_tc _ _ _

end Sys2Proof.Machine
end

