-- ==== Sys2Proof/Laws/Memory.lean ====
section
/-! SUPPORT. Reading memory after a write: the bytes written, and every other byte as before. -/

namespace Sys2Proof.Machine

theorem Memory.byte_below {m : Memory} {lo a : Nat} (h : m.wfFrom lo = true) (ha : a < lo) : m.byte a = Memory.unlisted := by
  cases m with
  | nil => rfl
  | cons c r =>
    obtain ⟨b, x⟩ := c
    simp only [Memory.wfFrom, Bool.and_eq_true, decide_eq_true_eq] at h
    unfold Memory.byte tget
    rw [if_pos (by omega)]

theorem Memory.byte_setByte_from (a k : Nat) (v : Byte) : ∀ {m : Memory} {lo : Nat}, m.wfFrom lo = true →
    (m.setByte a v).byte k = if k = a then v else m.byte k
  | [], _, _ => by
    unfold Memory.setByte Memory.byte
    by_cases hv : v = Memory.unlisted
    · rw [if_pos hv]; split <;> simp [tget, hv]
    · rw [if_neg hv]; simp only [tget]; split <;> [(rw [if_neg (by omega)]); (split <;> rfl)]
  | (b, x) :: r, lo, h => by
    simp only [Memory.wfFrom, Bool.and_eq_true, decide_eq_true_eq] at h
    have ih := Memory.byte_setByte_from a k v h.2
    have hr : ∀ j, j ≤ b → Memory.byte r j = Memory.unlisted := fun j hj => Memory.byte_below h.2 (by omega)
    unfold Memory.setByte
    unfold Memory.byte at ih hr ⊢
    by_cases h1 : a < b
    · rw [if_pos h1]
      by_cases hv : v = Memory.unlisted
      · rw [if_pos hv]; simp only [tget]
        by_cases hk : k = a
        · rw [if_pos hk, if_pos (by omega), hv]
        · rw [if_neg hk]
      · rw [if_neg hv]; simp only [tget]
        by_cases hk : k = a
        · rw [if_pos hk, if_neg (by omega)]
        · rw [if_neg hk]
          by_cases hlt : k < a
          · rw [if_pos hlt, if_pos (by omega)]
          · rw [if_neg hlt]
    · rw [if_neg h1]
      by_cases h2 : a = b
      · subst h2
        rw [if_pos rfl]
        by_cases hv : v = Memory.unlisted
        · rw [if_pos hv]; simp only [tget]
          by_cases hk : k = a
          · rw [if_pos hk, hr k (by omega), hv]
          · rw [if_neg hk, if_neg hk]
            by_cases hlt : k < a
            · rw [if_pos hlt, hr k (by omega)]
            · rw [if_neg hlt]
        · rw [if_neg hv]; simp only [tget]
          by_cases hk : k = a
          · rw [if_pos hk, if_neg (by omega), if_pos hk]
          · rw [if_neg hk, if_neg hk, if_neg hk]
      · rw [if_neg h2]; simp only [tget]
        by_cases hk : k < b
        · rw [if_pos hk, if_neg (by omega), if_pos hk]
        · rw [if_neg hk]
          by_cases he : k = b
          · rw [if_pos he, if_neg (by omega), if_neg hk, if_pos he]
          · rw [if_neg he, ih, if_neg hk, if_neg he]

theorem Memory.byte_setByte {m : Memory} (h : m.wf = true) (a k : Nat) (v : Byte) :
    (m.setByte a v).byte k = if k = a then v else m.byte k := Memory.byte_setByte_from a k v h

theorem Memory.byte_write_ne : ∀ {l : Bytes} {m : Memory} {a k : Nat}, m.wf = true → k < a ∨ a + l.length ≤ k →
    (m.write a l).byte k = m.byte k
  | [], _, _, _, _, _ => rfl
  | b :: r, m, a, k, h, hk => by
    simp only [List.length_cons] at hk
    unfold Memory.write
    rw [Memory.byte_write_ne (Memory.setByte_wf h) (by omega), Memory.byte_setByte h, if_neg (by omega)]

theorem Memory.read_write : ∀ {l : Bytes} {m : Memory} {a : Nat}, m.wf = true → (m.write a l).read a l.length = l
  | [], _, _, _ => rfl
  | b :: r, m, a, h => by
    unfold Memory.write
    simp only [List.length_cons, Memory.read]
    rw [Memory.read_write (Memory.setByte_wf h), Memory.byte_write_ne (Memory.setByte_wf h) (by omega), Memory.byte_setByte h,
      if_pos rfl]

end Sys2Proof.Machine
end

