-- ==== Sys2Proof/Tests/Slice0.lean ====
section
/-! SUPPORT. Tests: the checks of WellFormed refuse an ill-formed term each, a few commands on small states with results
worked out from the specification by hand, and for every statement states and operands that meet its hypotheses. -/

open Sys2Proof Sys2Proof.Machine

namespace Sys2Proof.Tests

set_option Elab.async false

/-- A state with nothing but the register values of `l`. -/
def withRegs (l : List (Nat × Word)) : State := l.foldl (fun s x => s.setReg x.1 x.2) { State.reset with regs := [] }

/-- Every domain is released. -/
def up : State := withRegs [(Reg.rstDom, 0x3FF)]

/-- `up` with further register values. -/
def upWith (l : List (Nat × Word)) : State := l.foldl (fun s x => s.setReg x.1 x.2) up

/-- A block has been reported as wedged at time 0; operating time is `ms`. -/
def wedgeUp (ms : Nat) : State :=
  { upWith [(Reg.secStat, 2)] with opTime := BitVec.ofNat 48 ms, host := { up.host with wedgeAt := some 0 } }

/-- `up` with every clock good. -/
def clocked (l : List (Nat × Word)) : State :=
  { upWith l with rst := { up.rst with clkAt := Vector.replicate 20 (some 0) } }

/-- A ply of entry 2 that runs. -/
def thePly : Ply := ⟨2, ⟨1, 0x00130000, 0x64, 0x40⟩, 0, .running⟩

/-- Regions of lane 3: ITCM to fetch and load, DTCM and image memory to load and store. -/
def lanes3 : State := upWith [(Reg.bank 3 Reg.mmuRbase, 0), (Reg.bank 3 Reg.mmuRlimit, 0x2FFFC0), (Reg.bank 3 Reg.mmuRattr, 7),
  (Reg.bank 19 Reg.mmuRbase, 0x400000), (Reg.bank 19 Reg.mmuRlimit, 0x7FFFC0), (Reg.bank 19 Reg.mmuRattr, 13),
  (Reg.bank 51 Reg.mmuRbase, 0x10000000), (Reg.bank 51 Reg.mmuRlimit, 0x13FFFFC0), (Reg.bank 51 Reg.mmuRattr, 13)]

/-- The core of the lane: registers 6 and 7 and the PC. -/
def core3 (x y : Word) : Core := { Core.reset with g := (Core.reset.g.set 6 x).set 7 y, pc := 0x100 }

/-- Lane 3 runs a ply. -/
def laneUp (x y : Word) : State :=
  lanes3.modLane 3 fun l => { l with state := .running, act := .ply, ply := some thePly, main := core3 x y, shadow := core3 x y }

/-- The core of lane 3 at a routine at 0x200400, called from 0x100: g31 the return address, g5 the instance, g6 the inputs,
g8 and g9 the parameters. -/
def callCore (inp p q : Word) : Core :=
  { Core.reset with
    g := ((((Core.reset.g.set 31 0x104).set 5 0x400100).set 6 inp).set 8 p).set 9 q
    pc := 0x200400 }

/-- Lane 3 runs a ply that has come to routine `k` with the given inputs, parameter and instance. -/
def callUp (k : Nat) (inp p : Word) (inst : List Word) : State :=
  let s := laneUp 0 0
  let s := s.writeMem (s.lanePhys 3 (0x200000 + 4 * k)) [0, 4, 0x20, 0]
  let s := s.writeMem (s.lanePhys 3 0x400100) (inst.flatMap wordBytes)
  s.modLane 3 fun l => { l with main := callCore inp p 0, shadow := callCore inp p 0, start := 100 }

/-- The same with the words of the instance stored. -/
def callDone (k : Nat) (inp p : Word) (inst ws : List Word) : State :=
  ((callUp k inp p inst).storeWords 3 0x400100 ws).getD State.reset

/-- Lane 3 runs a background job. -/
def jobUp : State := lanes3.modLane 3 fun l => { l with state := .running, act := .job, window := 1000, main := core3 0 0, shadow := core3 0 0 }

/-- Lane 3 is claimed for debugging. -/
def benchUp : State := lanes3.modLane 3 fun l => { l with state := .bench, main := core3 0 0, shadow := core3 0 0 }

/-- It executes, in module state BENCH. -/
def benchRun : State := { benchUp with state := .bench }

/-- A board with one entry of every kind that a command issues. -/
def tab : Tables :=
  { identity := List.replicate 48 7, hdr := ⟨0, 0x0200, 0, 0, 0, 1, 0, 1, 1, 0, 0, 0, 0, 0, 0, 0, 0, []⟩
    tasks := [⟨0, 0, 0, 0, 0x100, 64, 0x200, 64, 0x400⟩], trackN := [⟨0x644, 0x50000, 0, 0⟩]
    trackL := [⟨0x321, 0x30000, 100, 0x40⟩, ⟨0x3C2, 0, 10, 0⟩, ⟨0x501, 0x530000, 100, 0⟩]
    trackM := [⟨0x413, 0, 50, 0⟩]
    trackF := (List.range 9).map fun k => ⟨BitVec.ofNat 32 (5 + (100 + k) * 16), BitVec.ofNat 32 (k * 0x10000), 1, 0⟩
    slots := [⟨5, 10, 5, 1, 0, 0, 8, 0⟩], guards := [⟨90, 20, 5, 0, 0, 0, 0⟩], iomap := [], quals := [], xfers := [], syncs := []
    code := [], init := [], migr := [] }

/-- A board is loaded and a round has begun. -/
def boardUp : State :=
  { up with boards := { up.boards with active := .loaded, act := some tab }, time := { up.time with begun := true } }

/-- The sequencer runs and every entry of the round waits in a walker's buffer. -/
def walkUp : State :=
  { boardUp with seqr := { boardUp.seqr with state := .run, walk := some ⟨0, [0], [0, 1, 2], [0], [0, 1, 2, 3, 4, 5, 6, 7, 8], []⟩ } }

/-- A context of task 0 is open, with one staged line, and the unit is enabled. -/
def gambitUp : State :=
  { walkUp.setReg (Reg.pgCtrl pGMB) 1 with gmb := walkUp.gmb.set 0 { GmbCtx.reset with isOpen := true, staged := [8] } }

/-- Lane 3 belongs to it with one line in its shadow buffer, and a trap has spoiled it. -/
def squashUp : State :=
  { walkUp with gmb := walkUp.gmb.set 0 { GmbCtx.reset with isOpen := true, spoiled := some (2, 3) } }.modLane 3 fun l =>
    { l with state := .running, owner := some 0, shadowBuf := [⟨0x400000, List.replicate 64 7, []⟩] }

/-- A context of task 0 that is wedged. -/
def overdueUp : State := { walkUp with gmb := walkUp.gmb.set 0 { GmbCtx.reset with isOpen := true, overdue := true } }

/-- The same in a joiner. -/
def landUp : State := { walkUp with state := .joining }

/-- The same in a follower. -/
def upFollow : State := { walkUp with state := .follower }

/-- A step to a written time is due. -/
def stepUp : State := { up with time := { up.time with stepPend := some 0x12345678 } }

/-- The SYNC_CORRECT entry of the board. -/
def corrEnt : Entry := ⟨0x695, 0x50000, 1, 0⟩

/-- The sequencer runs, the time base is SYNCED and has measured `l` in the round. -/
def servoRun (l : List SyncMeas) : State :=
  { walkUp with time := { walkUp.time with state := .synced, meas := l } }

/-- A transfer of mover 0 that has not come to its end. -/
def theMove : MoverXfer := ⟨0, ⟨0x413, 0, 50, 0⟩, 5000, false, 0⟩


/-- An open occurrence of slot 5. -/
def theRun : SlotRun := ⟨5, 5000, 0, 100, false, true, [], [], []⟩

/-- Slot 5 is open. -/
def slotUp : State := { boardUp with net := { boardUp.net with slots := [theRun] } }

/-- Lane 3 is barred and stands at a step of its test. -/
def barUp (p : TestPhase) : State := up.modLane 3 fun l => { l with state := .barred, test := p }

/-- The module is in BENCH; lane 3 is in the given state with a request that waits. -/
def dbgUp (st : LaneState) (r : BenchReq) : State :=
  { up with state := .bench }.modLane 3 fun l => { l with state := st, benchReq := r }

/-- A descriptor of ring 5 that mover 0 works on. -/
def theDesc : DescRun := ⟨5, some 0, 0, 0, none, 0⟩

/-- Ring 5 has a descriptor at work or halted. -/
def ringUp (d : DescRun) : State := { up with descs := [d] }

/-- Ring 5 is ready. -/
def ringReady5 : State := upWith [(Reg.ringCfg 5, 4), (Reg.ringHead 5, 1)]

/-- Ring 5 of context `c` stands at 0x240000000, its first descriptor begins with the words `l`. -/
def ringMem (c : Nat) (l : List Word) : State :=
  { upWith [(Reg.ringCfg 5, BitVec.ofNat 32 (4 + c * 2 ^ 17)), (Reg.ringBaseLo 5, 0x40000000), (Reg.ringBaseHi 5, 2)] with descs := [theDesc] }.writeMem
    0x240000000 (l.flatMap wordBytes)

/-- The standby board is in the given state. -/
def sbUp (x : StandbyState) : State := { up with boards := { up.boards with standby := x } }

/-- A board command runs. -/
def runUp (op : BrdOp) : State := { up with boards := { up.boards with running := some op } }

/-- A migration, before or after its CONVERT lines are done. -/
def theMigr (d : Bool) : Migration := ⟨[], 0, 0, 0, 0, [], [], 0, 0, d⟩

/-- It runs since a switch in round 0. -/
def migUp (d : Bool) : State :=
  { up with time := { up.time with gt := 0x3E800000000 }, migr := some (theMigr d), seqr := { up.seqr with switched := some 0 } }

/-- The round before the switch of an online change that has been decided. -/
def switchUp : State :=
  { up with
    time := { up.time with gt := 0x3E800000000 }
    boards := { boardUp.boards with standby := .armed, stb := some tab }
    pair := { up.pair with change := some ⟨1, zeros 48, true, false, false, false, some true⟩ } }

/-- Every port is up. -/
def portsUp : State := upWith ((List.range 8).map fun p => (portKey (p / 4) (p % 4), 2))

/-- A frame with good lengths. -/
def aFrame : Bytes := zeros 12 ++ [0x88, 0xB5] ++ zeros 50

/-- A board on which slot 5 is received on port 0. -/
def hearTab : Tables := { tab with slots := [⟨5, 10, 5, 1, 0, 0, 8, 0⟩], hdr := { tab.hdr with syncCount := 1 } }

/-- It runs, with its ports up. -/
def hearUp : State :=
  { portsUp with boards := { up.boards with act := some hearTab }, seqr := { up.seqr with state := .run }, time := { up.time with begun := true } }

/-- A sync node with a board and a port that is up; the cold-start engine is in a state. -/
def coldUp (c : Word) : State :=
  { upWith [(portKey 0 0, 2), (Reg.mbNetCfg, 0x100000), (Reg.mbCold, c)] with
    boards := { up.boards with active := .loaded, act := some { tab with syncs := [⟨0, 5, 0, 0, 0, 0, 0⟩] } } }

/-- A Dunly message of kind `k`. -/
def dmsg (k : Nat) (body : Bytes) : Bytes :=
  let f := dunlyMac 0 ++ dunlyMac 1 ++ dunlyHeader k body.length 0 0 0 ++ body
  f ++ toLe 4 (crcEth f).toNat

/-- A leader whose partner's health block shows state `p`. -/
def leadUp (p : Byte) : State :=
  { upWith [(Reg.dxlState, 31)] with state := .leader, pair := { up.pair with partner := zeros 4 ++ [p] ++ zeros 251 } }

/-- Ready to lead. -/
def readyUp : State :=
  { up with boards := { up.boards with active := .loaded }, time := { up.time with state := .synced }
            pair := { up.pair with leadRel := true } }

/-- Ready to join. -/
def readyJoin : State :=
  { upWith [(Reg.ilkStat, 4), (Reg.dxlState, 31)] with
    boards := { up.boards with active := .loaded }, time := { up.time with state := .synced }
    pair := { up.pair with joinRel := true } }

/-- The link may come up: its lanes hold lock, XCLK has been good since 0, two rounds have brought a HEALTH message. -/
def linkReady (m : ModState) : State :=
  { upWith [(Reg.dxlState, 30)] with
    state := m, pair := { up.pair with goodRun := 2 }
    rst := { up.rst with clkAt := up.rst.clkAt.set 5 (some 0) } }

/-- A change that is not decided. -/
def theChange : ChangeRun := ⟨0, zeros 48, false, false, false, false, none⟩

/-- The module has it in a state. -/
def changeUp (m : ModState) : State := { up with state := m, pair := { up.pair with change := some theChange } }

/-- A castling of turn 0; the next boundary begins round 1. -/
def castleUp (m : ModState) (take : Bool) : State :=
  { up with state := m, time := { up.time with gt := 0x3E800000000 }, pair := { up.pair with castle := some ⟨0, take⟩ } }

/-- A leader and its Follower have digests of task 0 for the round. -/
def digUp (a b : BitVec 64) : State :=
  { leadUp 2 with
    boards := boardUp.boards
    pair := { (leadUp 2).pair with digOwn := [⟨0, 0, a⟩], digPart := [⟨0, 0, b⟩] } }

/-- A joiner in a phase. -/
def joinUp (p : Word) : State := { upWith [(Reg.pairJoin, p)] with state := .joining }

/-- A leader with fifteen units left to transfer in the last round of a turn. -/
def closeUp : State :=
  { leadUp 1 with
    boards := boardUp.boards
    pair := { (leadUp 1).pair with xfer := some ⟨0, 1, [], (List.range 15).map (fun k => (0, k)), 0, 0, 0, false, false⟩ } }

/-- A pair check of a module with the given results. -/
def checkUp (m : ModState) (own : Option Nat) (p : Option Bool) : State :=
  { up with state := m, pair := { up.pair with check := some ⟨0xFFFF0000, 0, own, p⟩ } }

/-- A boot extension of slot 0 with 16 bytes of code. -/
def extension : Bytes :=
  toLe 48 0xB95DEDC336CD4EA4E8FB08460F24666C1F19E51B07EFC1704C796011DBE1E97A00000000000000100000020058455641
    ++ toLe 48 0x140FDB71A561D099940BB05CEB3636EE0D9A394B03D83815240DD84C4421ACD82B3003436FFD5058B43F4ED8E4F20075
    ++ toLe 48 0xD333C4FD6424862EDFA89AFA8616F063FF6488D00AF6D7CC99C33FDD20D060654FE7F6BBCCA6F363ED48394579ED47BB
    ++ toLe 48 0x5AAA0A24306E9AE2B2BD4C13F5BB48A153DE7800920D0B8E63117756EBF149058982520E24632C2FEDA1FDB6D3D184E9
    ++ toLe 16 0xD1E312EECC045AF360E10E6DFC286226 ++ zeros 64

/-- A firmware image of 512 bytes signed with the root key. -/
def firmware : Bytes :=
  toLe 41 0x1000000110000000100000010000000000010001000000000000000180000002000000010057465641 ++ zeros 231
    ++ toLe 16 0x7070707070707070707070707070707 ++ zeros 96
    ++ toLe 48 0x7CFDA128B326909A8B2245EECBF4D08266F93482C4B25E5EB4114704861712E000000000000000010000000046474953
    ++ toLe 48 0xA59F04A433ADF090EF127EE187D59789AA620F084BF902B49D98CBBA87CB1A4C927682CE6937EA764D823819FC70A94B
    ++ toLe 16 0xD7C60ACE6CDC98C47AD7EA8FD1DCDA0E ++ zeros 16

/-- The root key. -/
def rootKey : Bytes :=
  toLe 48 0x2B3003436FFD5058B43F4ED8E4F20075B95DEDC336CD4EA4E8FB08460F24666C1F19E51B07EFC1704C796011DBE1E97A
    ++ toLe 48 0x4FE7F6BBCCA6F363ED48394579ED47BB140FDB71A561D099940BB05CEB3636EE0D9A394B03D83815240DD84C4421ACD8

/-- Its digest. -/
def rootDigest : Bytes :=
  toLe 48 0x7002639514331F46F45B3C35292C795006D9194E7A2A82AB903616C06A675A5C049D84AB49F9B9CA500ECAEF09B33849

/-- Both copies of the extension. -/
def romUp (a b : Bytes) : State :=
  { upWith [(Reg.secRoot, 1), (Reg.secStat, 0)] with boot := { up.boot with ext1 := a, ext2 := b, root0 := rootDigest } }

/-- The extension runs and bank A holds an image. -/
def fwUp : State :=
  { upWith [(Reg.secStat, 1)] with boot := { up.boot with extKey := rootKey }, upd := { up.upd with imgA := firmware } }

/-- Bank A is CONFIRMED, bank B is PREVIOUS and holds the image. -/
def fwOther : State :=
  { fwUp with upd := { fwUp.upd with
    imgA := [], imgB := firmware, bankB := .previous, copy1 := some (.confirmed, .previous)
    copy2 := some (.confirmed, .previous) } }

/-- The choice record has been read and a trial judged. -/
def fwJudged (s : State) : State := ({ s with upd := s.upd.readChoice }.judgeTrial false).judgeTrial true

/-- The root key is staged as a board key. -/
def keyStaged : State :=
  upWith ((List.range 24).map fun i => (Reg.bank i Reg.secKeyData, BitVec.ofNat 32 (beAt rootKey (4 * i) 4)))

/-- An option record of pair domain 3. -/
def optRec : Bytes :=
  let l := toLe 4 0x504F5641 ++ toLe 2 0x0200 ++ toLe 2 128 ++ zeros 4 ++ [3, 0, 16] ++ zeros 109
  l ++ toLe 4 (crc32c l).toNat

/-- The option loader runs. -/
def optUp (a b : Bytes) : State :=
  { up with boot := { up.boot with opt1 := a, opt2 := b }, rst := { up.rst with optBusy := true } }

/-- An option record is staged. -/
def stagedOpt : State :=
  upWith ((List.range 32).map fun i => (Reg.bank (32 + i) Reg.sysOptData, BitVec.ofNat 32 (leAt optRec (4 * i) 4)))

/-- A release sequence has come to FLD; the clocks have been good since the given times. -/
def relUp (l : Vector (Option Nat) 20) : State :=
  { upWith [(Reg.rstDom, 0x1FF)] with rst := { up.rst with running := true, next := 9, on := 0, clkAt := l } }

/-- The recorder is in a state. -/
def recUp (x : Word) : State := upWith [(Reg.recStat, x)]

/-- The recorder runs with segment 0 open at 0x40, and the given records owed and queued. -/
def recAt (d : List (QEntry × Option Word)) (q : List QEntry) : State :=
  let s := (recUp 1).setReg Reg.recWptr 64
  { s with rcd := { up.rcd with due := d, queue := q, segs := up.rcd.segs.set 0 ⟨.inUse, zeros 64⟩, wseg := 0 } }

/-- The steward's record of a WEDGE is queued. -/
def wedgeWrite : State :=
  let s := (recAt [] [⟨0xE007, pSTW, .critical, 0, 0, none, []⟩]).setReg Reg.secStat 2
  { s with host := { s.host with wedgeAt := some 0 } }

/-- The firmware is staged; an update command runs. -/
def imageUp (op : UpdOp) : State :=
  { upWith [(Reg.updStgLen, 512), (Reg.secStat, 0)] with
    mem := Memory.write [] fwStaging firmware, boot := { up.boot with extKey := rootKey }
    upd := { up.upd with running := some op, state := .busy, imgA := firmware } }

set_option maxRecDepth 100000 in
theorem test_image_reason (op : UpdOp) : (imageUp op).updEnd.endImageClaim.imageReason firmware 512 true = none := by
  cases op <;> decide +kernel
theorem test_image_length : firmware.length = 512 := by decide +kernel
set_option maxRecDepth 100000 in
theorem test_image_good (op : UpdOp) : (imageUp op).updEnd.endImageClaim.imageReason
    (imageUp op).updEnd.endImageClaim.stagedImage ((imageUp op).updEnd.endImageClaim.reg Reg.updStgLen).toNat true = none := by
  have h : (Memory.write [] fwStaging firmware).read fwStaging firmware.length = firmware := Memory.read_write rfl
  have e : (imageUp op).updEnd.endImageClaim.mem = Memory.write [] fwStaging firmware := rfl
  have n : ((imageUp op).updEnd.endImageClaim.reg Reg.updStgLen).toNat = 512 := by cases op <;> decide
  have g : (imageUp op).updEnd.endImageClaim.stagedImage = firmware := by
    unfold State.stagedImage
    rw [e, n, show min 512 0x4000000 = firmware.length by rw [test_image_length]; rfl]
    exact h
  rw [g, n]; exact test_image_reason op

set_option maxRecDepth 100000 in
theorem test_image_staged (op : UpdOp) : (imageUp op).updEnd.endImageClaim.stagedImage = firmware := by
  have h : (Memory.write [] fwStaging firmware).read fwStaging firmware.length = firmware := Memory.read_write rfl
  have e : (imageUp op).updEnd.endImageClaim.mem = Memory.write [] fwStaging firmware := rfl
  have n : ((imageUp op).updEnd.endImageClaim.reg Reg.updStgLen).toNat = 512 := by cases op <;> decide
  unfold State.stagedImage
  rw [e, n, show min 512 0x4000000 = firmware.length by rw [test_image_length]; rfl]
  exact h
set_option maxRecDepth 100000 in
theorem test_image_verify : (imageUp .verify).updEnd.endImageClaim.reverifyNext.imageReason (imageUp .verify).stagedImage
    ((imageUp .verify).updEnd.endImageClaim.reverifyNext.reg Reg.updStgLen).toNat true = none := test_image_good .verify
set_option maxRecDepth 100000 in
theorem test_image_fails : (imageUp .store).updEnd.endImageClaim.imageReason
    (imageUp .store).updEnd.endImageClaim.stagedImage ((imageUp .store).updEnd.endImageClaim.reg Reg.updStgLen).toNat false = some 6 := by
  rw [test_image_staged]; decide +kernel
set_option maxRecDepth 100000 in
theorem test_image_lib : (imgLib (imageUp .store).updEnd.endImageClaim.stagedImage).length ≤ 0x100000 := by
  rw [test_image_staged]; decide +kernel
set_option maxRecDepth 100000 in
theorem test_image_wf : (imageUp .store).mem.wf = true := Memory.write_wf rfl

/-- A handover has come to a state. -/
def hoUp (st : UpdState) (ret : Bool) : State := { up with upd := { up.upd with state := st, ret := ret } }


/-- The steward runs; key slot 1 is enabled. -/
def hostUp (l : List (Nat × Word)) : State :=
  let s := upWith ([(Reg.hapCtrl, 0x35047), (Reg.hapKeyStat, 0x0202), (Reg.secStat, 2)] ++ l)
  { s with host := { s.host with slots := s.host.slots.set 1 ⟨List.replicate 32 7, 4, [4], 0⟩ } }

/-- A host. -/
def aHost : HostAddr := ⟨[10, 0, 0, 1], 20551⟩

/-- It sends to the port of HAP_CTRL. -/
def aSrc : HapSrc := ⟨aHost, 20551, false⟩

/-- A request on key slot 1. -/
def hmsg (type seg segs : Nat) (body : Bytes) : Bytes :=
  let f := hapHeader type 0 0 1 5 9 seg segs body.length ++ body
  f ++ hmacSha256 (List.replicate 32 7) f

/-- A request with the commissioning key. -/
def cmsg (type : Nat) (body : Bytes) : Bytes := hapHeader type 0 0 0xFF 0 9 0 1 body.length ++ body ++ zeros 32

/-- No key is enabled and the service key is turned. -/
def commUp : State := upWith [(Reg.hapCtrl, 0x35047), (Reg.secStat, 2), (Reg.sysSlot, 16)]

/-- A transaction of key slot 1 in progress. -/
def theReasm : Reasm := ⟨1, 9, 6, 3, [0], 1, aHost, 0, 0⟩

/-- A transaction is open. -/
def openUp (c : Reasm) : State := { hostUp [] with host := { (hostUp []).host with reasm := [c] } }

/-- The steward's clock is a slave on H1. -/
def syncUp : State :=
  let s := upWith [(Reg.hstPort1, 2), (Reg.secStat, 2)]
  { s with host := { s.host with ptp := .slave } }

/-- A Delay_Resp to the module. -/
def delayFrame : Bytes :=
  syncUp.hostMac ++ zeros 6 ++ [0x88, 0xF7] ++ [9, 2] ++ zeros 28 ++ [0, 1] ++ zeros 2 ++ zeros 9 ++ [200] ++ syncUp.ptpIdentity
    ++ zeros 4

/-- Bus channel 0 in a mode, with buffers in the given states. -/
def canUp (l : List (Nat × Word)) : State := upWith ([(Reg.canCtrl 0, 1)] ++ l)

/-- Buffer 1 is on the bus. -/
def canSends (l : List (Nat × Word)) : State :=
  (canUp ([(Reg.canTxStat 0, 0x10)] ++ l)).modCan 0 fun x => { x with onBus := some 1 }

/-- Channel 3 is an output that is switched on. -/
def fioUp (l : List (Nat × Word)) : State := upWith ([(Reg.bank 3 Reg.fioCfg, 1), (Reg.fioOut, 0x80008), (Reg.fioCtrl, 100)] ++ l)

/-- A fuse map with the given bits. -/
def fused (n : Nat) (s : State) : State := { s with boot := { s.boot with fuse := BitVec.ofNat 256 (2 ^ 255 + n) } }

/-- The test access port is active. -/
def tapUp (l : List (Nat × Word)) : State := upWith ([(Reg.dbgStat, 1)] ++ l)

/-- A leader whose board has instances. -/
def plantUp : State :=
  { hostUp [] with state := .leader, boards := { up.boards with active := .loaded, act := some { tab with hdr := { tab.hdr with instLen := 4096 } } } }
/-- A small board of pair domain 3, signed with key 2. -/
def goodBoard : Bytes :=
  toLe 37 0x20000000000001000000B00030001100300000069000003A0000004200100010044425641 ++ zeros 219
    ++ toLe 48 0x10000001F0001000030000000000000002000001D0001000020000000000000001000001B000200001
    ++ toLe 6 0x2F000100004 ++ zeros 10
    ++ toLe 48 0x10000037000100007000000000000000200000350001000060000000000000006000002F000100005
    ++ toLe 6 0x38000100008 ++ zeros 10 ++ toLe 6 0x3800020000A ++ zeros 10 ++ toLe 6 0x3800010000B ++ zeros 10
    ++ toLe 9 0x1000003800000000C ++ zeros 8 ++ toLe 1 0x3 ++ zeros 10 ++ toLe 9 0x400000004000000040 ++ zeros 11
    ++ toLe 7 0x1000000000644 ++ zeros 9 ++ toLe 7 0x2000000000C84 ++ zeros 9
    ++ toLe 48 0xC80012000000012B6100000000000000C80011000000012B6100000000000000C80010000000012B61
    ++ toLe 48 0xC80015000000012B6100000000000000C80014000000012B6100000000000000C80013000000012B61
    ++ toLe 48 0xC80018000000012B6100000000000000C80017000000012B6100000000000000C80016000000012B61
    ++ toLe 48 0xC8001B000000012B6100000000000000C8001A000000012B6100000000000000C80019000000012B61
    ++ toLe 48 0xC8001E000000012B6100000000000000C8001D000000012B6100000000000000C8001C000000012B61
    ++ toLe 23 0x100030000014500000000000000C8001F000000012B61 ++ zeros 9 ++ toLe 7 0x50000000003C5 ++ zeros 9
    ++ toLe 7 0x20003000012C5 ++ zeros 9 ++ toLe 7 0x3000300001905 ++ zeros 9 ++ toLe 7 0x40003000019A5 ++ zeros 9
    ++ toLe 7 0x8000000012C05 ++ zeros 9
    ++ toLe 39 0x20002000A00C8000000400000FF05FFFFFFFF000A0002000000100000FF03FFFFFFFF000A0001 ++ zeros 13
    ++ toLe 16 0x1000000400000000000000040000FFFF ++ zeros 12
    ++ toLe 48 0x2B9A44AA59D5415B3B5D81CEE76D8B53F1C53BD0B9F3625BDD9CB9DF87080BCC00000000000000010000000242474953
    ++ toLe 48 0x4BDE642EED48042CCC308F72CE1FCFCBD010E646FBE68B35576AC004AF05D30C30B60CE70C04355C21F3AA020EF90BBE
    ++ toLe 16 0x79839B75E0510957F845345D63A78227 ++ zeros 16

/-- The public key of key 2. -/
def boardKey : Bytes :=
  toLe 48 0x1B8BA8FD899A173BCB3CB0516904908DC35A2ACB1D2E976CCDA10088582F68B4CDCDD8D5B7A6952A314D0E355E996BE8
    ++ toLe 48 0x486104F043226125161A8C3DC174CF43BDEC9B62A6DD1F46B2EF4AFFE1C1BEAABF0B693A3C6ECE41DDB0441F2C9F5B48

/-- The key is in slot 2, the domain is 3, and the board is in staging; STORE runs. -/
def storing : State :=
  { upWith [(Reg.secKeyEn, 4), (Reg.brdFmt, 0x01000100), (Reg.brdStgLen, 1056)] with
    mem := Memory.write [] boardStaging goodBoard
    option := up.option.set 0x0C 3
    boot := { up.boot with keys := up.boot.keys.set 2 boardKey, fuse := BitVec.allOnes 256 }
    boards := { up.boards with running := some .store, activeArea := goodBoard, loadDue := true } }

/-- The board is in the active area, to be loaded. -/
def loading : State := storing.boardIdle

/-- What is in the active area is no board. -/
def notLoading : State := { up with boards := { up.boards with activeArea := [0], loadDue := true } }

/-- What is checked of the board. -/
def goodJob : CheckJob := ⟨goodBoard, parseBoard goodBoard, 1056, false⟩

theorem test_checks_append {a b : List (Nat × (Unit → Option Nat))} (h : firstFailure a = none) (k : firstFailure b = none) :
    firstFailure (a ++ b) = none := by
  induction a with
  | nil => exact k
  | cons x r ih =>
    unfold firstFailure at h
    rw [List.cons_append]; unfold firstFailure
    cases hx : x.2 () with
    | none => rw [hx] at h; exact ih h
    | some y => rw [hx] at h; simp at h
theorem test_board_early : firstFailure ((boardChecks loading goodJob).take 13) = none := by decide +kernel
theorem test_board_overlaps : chk10E goodJob = none := by decide +kernel
theorem test_board_budgets : chk10F goodJob = none := by decide +kernel
theorem test_board_late : firstFailure ((boardChecks loading goodJob).drop 15) = none := by decide +kernel
theorem test_board_check {s : State} {raw : Bytes} {n : Nat} {j : CheckJob} (hj : j = ⟨raw, parseBoard raw, n, false⟩)
    (h1 : firstFailure ((boardChecks s j).take 13) = none) (h2 : chk10E j = none) (h3 : chk10F j = none)
    (h4 : firstFailure ((boardChecks s j).drop 15) = none) : s.commandCheck raw n false false = none := by
  have hm : firstFailure [(0x010E, fun _ => chk10E j), (0x010F, fun _ => chk10F j)] = none := by
    unfold firstFailure firstFailure; rw [h2, h3]; rfl
  have h : firstFailure (boardChecks s j) = none := by
    rw [← List.take_append_drop 13 (boardChecks s j)]
    refine test_checks_append h1 ?_
    rw [show (boardChecks s j).drop 13 = [(0x010E, fun _ => chk10E j), (0x010F, fun _ => chk10F j)]
      ++ (boardChecks s j).drop 15 from rfl]
    exact test_checks_append hm h4
  subst hj
  unfold State.commandCheck State.checkBoard
  rw [h]; rfl
theorem test_board_passes : loading.commandCheck goodBoard 1056 false false = none :=
  test_board_check (j := goodJob) rfl test_board_early test_board_overlaps test_board_budgets test_board_late
theorem test_board_length : goodBoard.length = 1056 := by decide +kernel
theorem test_board_staged : storing.stagedBoard = goodBoard := by
  have h : (Memory.write [] boardStaging goodBoard).read boardStaging goodBoard.length = goodBoard := Memory.read_write rfl
  have e : storing.mem = Memory.write [] boardStaging goodBoard := by unfold storing; dsimp only
  unfold State.stagedBoard
  rw [e, show min (storing.reg Reg.brdStgLen).toNat 0x10000000 = goodBoard.length by rw [test_board_length]; decide +kernel]
  exact h
theorem test_board_given : loading.boards.activeArea ≠ [] := fun h =>
  absurd test_board_length (by rw [show goodBoard = [] from h]; decide)
theorem test_board_loads :
    loading.commandCheck loading.boards.activeArea loading.boards.activeArea.length false false = none := by
  rw [show loading.boards.activeArea = goodBoard from rfl, test_board_length]; exact test_board_passes
theorem test_board_stores :
    storing.boardIdle.commandCheck storing.stagedBoard (storing.reg Reg.brdStgLen).toNat false false = none := by
  rw [test_board_staged]; exact test_board_passes

theorem test_board_first : loading.stagedCheck = none := by
  have r : loading.reg Reg.brdStgLen = storing.reg Reg.brdStgLen := by
    unfold State.reg; rw [show loading.regs = storing.regs by unfold loading State.boardIdle; dsimp only]
  have m : loading.stagedBoard = storing.stagedBoard := by
    unfold State.stagedBoard; rw [r, show loading.mem = storing.mem by unfold loading State.boardIdle; dsimp only]
  unfold State.stagedCheck
  rw [m, r]; exact test_board_stores


/-! ### Well-formed commands (R69, R463, R488) -/

theorem test_wf_track_n : (Instr.slotOpen 131071).wellFormed = true ∧ (Instr.slotOpen 131072).wellFormed = false := by decide
theorem test_wf_track_l : (Instr.commitEntry 65535).wellFormed = true ∧ (Instr.commitEntry 65536).wellFormed = false := by decide
theorem test_wf_track_m : (Instr.moveStart 131071 none).wellFormed = true ∧ (Instr.moveStart 131072 none).wellFormed = false := by
  decide
theorem test_wf_track_f : (Instr.taskStart 16383).wellFormed = true ∧ (Instr.taskStart 16384).wellFormed = false := by decide
theorem test_wf_guard : (Instr.guardianWindowOpen 16383).wellFormed = true ∧ (Instr.guardianWindowOpen 16384).wellFormed = false := by
  decide
theorem test_wf_host : (Instr.resetArm aSrc []).wellFormed = true ∧ (Instr.resetArm { aSrc with addr := ⟨[1, 2, 3], 7⟩ } []).wellFormed = false := by decide
theorem test_wf_can : (Instr.canFrameRx 0 0 0 (zeros 64)).wellFormed = true ∧ (Instr.canFrameRx 0 0 0 (zeros 65)).wellFormed = false := by
  decide

/-! ### Single results -/

/-- No word spells a command. -/
theorem test_no_words : decodeTableWord 32 0 = none := rfl
/-- The check value of CRC-32C over the digits 1 to 9. -/
theorem test_crc32c : crc32c [0x31, 0x32, 0x33, 0x34, 0x35, 0x36, 0x37, 0x38, 0x39] = 0xE3069283 := by decide +kernel
/-- The digest of "abc" (FIPS 180-4). -/
theorem test_sha256 : natOfBytes (sha256 [0x61, 0x62, 0x63]) = 0xBA7816BF8F01CFEA414140DE5DAE2223B00361A396177A9CB410FF61F20015AD := by
  decide +kernel
/-- R153: ADD wraps modulo 2^32, R143: a write to g0 is discarded. -/
theorem test_add_wraps : Does (.add 3 5 6 7) (laneUp 0xFFFFFFFF 2) fun t => t.g 3 5 = 1 := ⟨_, rfl, by decide +kernel⟩
theorem test_g0_discards : Does (.add 3 0 6 7) (laneUp 0xFFFFFFFF 2) fun t => t.g 3 0 = 0 := ⟨_, rfl, by decide +kernel⟩
/-- R155: the most negative number divided by −1 is clamped. -/
theorem test_div_clamps : Does (.div 3 5 6 7) (laneUp 0x80000000 0xFFFFFFFF) fun t => t.g 3 5 = 0x7FFFFFFF := ⟨_, rfl, by decide +kernel⟩
/-- R77 and R39: a pip is 50 ns and a round 250 µs. -/
theorem test_round : roundNs = 250000 := by decide
/-- The worked example Halsmere, round n, of 02_time_base.md: the six deviations, in half ns, and the trim that their mean gives. -/
theorem test_halsmere : meanDev [0, 36, -68, 84, 24, 520] = 18 * 256 ∧ newTrim 0 (18 * 256) = -48318 := by decide
theorem test_wit_EmptyQueueTick_1 : ∃ (s : State), (s.pending = []) ∧ (bit (s.reg Reg.rstDom) 2 = true) ∧ (s.host.wedgeAt =
  none) :=
  ⟨up, by decide⟩

theorem test_wit_EmptyQueueTick_2 : ∃ (s : State), (s.pending = []) ∧ (bit (s.reg Reg.rstDom) 2 = false) ∧ (bit (s.reg
  Reg.rstDom) 0 = true) ∧ (s.host.wedgeAt = none) :=
  ⟨withRegs [(Reg.rstDom, 1)], by decide⟩

theorem test_wit_EmptyQueueTick_3 : ∃ (s : State), (s.pending = []) ∧ (bit (s.reg Reg.rstDom) 2 = false) ∧ (bit (s.reg
  Reg.rstDom) 0 = false) ∧ (s.host.wedgeAt = none) :=
  ⟨withRegs [], by decide⟩

set_option maxRecDepth 100000 in
theorem test_wit_EmptyQueueTick_4 : ∃ (w : Nat) (s : State), (s.pending = []) ∧ (bit (s.reg Reg.rstDom) 2 = true) ∧
  (s.host.wedgeAt = some w) ∧ (s.edge.opNs < w + 10000000) :=
  ⟨0, wedgeUp 0, by decide +kernel⟩

set_option maxRecDepth 100000 in
theorem test_wit_EmptyQueueTick_5 : ∃ (w : Nat) (s : State), (s.pending = []) ∧ (bit (s.reg Reg.rstDom) 2 = true) ∧
  (s.host.wedgeAt = some w) ∧ (w + 10000000 ≤ s.edge.opNs ∧ s.stewardUp = true) :=
  ⟨0, wedgeUp 10, by decide +kernel⟩

theorem test_wit_StepKeepsInv_1 : ∃ (s t : State), (Inv s) ∧ (step s = .next t) :=
  ⟨State.reset, State.reset, by decide, by rfl⟩

theorem test_wit_ExecKeepsQueueAndInv_1 : ∃ (c : Instr) (s t : State), (Inv s) ∧ (exec c s = .next t) :=
  ⟨.timNowLoRead, State.reset, timNowLoRead State.reset, by decide, rfl⟩

set_option maxRecDepth 100000 in
theorem test_wit_LaneIntegerAndConstant_1 : ∃ (n : Fin 16) (rd ra rb : BitVec 5) (s : State), (s.issues n) :=
  ⟨3, 5, 6, 7, laneUp 0 0, by decide +kernel⟩

set_option maxRecDepth 100000 in
theorem test_wit_LaneIntegerAndConstant_2 : ∃ (n : Fin 16) (rd ra : BitVec 5) (imm : BitVec 16) (s : State), (s.issues n)
  :=
  ⟨3, 5, 6, 0xFFFF, laneUp 0 0, by decide +kernel⟩

set_option maxRecDepth 100000 in
theorem test_wit_LaneIntegerAndConstant_3 : ∃ (n : Fin 16) (rd ra : BitVec 5) (imm : BitVec 16) (s : State), (s.issues n) ∧
  (imm.toNat < 96) :=
  ⟨3, 5, 6, 95, laneUp 0 0, by decide +kernel⟩

set_option maxRecDepth 100000 in
theorem test_wit_LaneIntegerAndConstant_4 : ∃ (n : Fin 16) (rd : BitVec 5) (imm : BitVec 16) (s : State), (s.issues n) :=
  ⟨3, 5, 0xFFFF, laneUp 0 0, by decide +kernel⟩

set_option maxRecDepth 100000 in
theorem test_wit_LaneMultiplyAndSaturate_1 : ∃ (n : Fin 16) (rd ra rb : BitVec 5) (s : State), (s.issues n) :=
  ⟨3, 5, 6, 7, laneUp 0 0, by decide +kernel⟩

set_option maxRecDepth 100000 in
theorem test_wit_LaneMultiplyAndSaturate_2 : ∃ (n : Fin 16) (rd ra rb : BitVec 5) (s : State), (s.issues n) ∧ (rd ≠ 0) ∧
  (rd.toNat % 2 = 0) :=
  ⟨3, 30, 6, 7, laneUp 0 0, by decide +kernel⟩

set_option maxRecDepth 100000 in
theorem test_wit_LaneMultiplyAndSaturate_3 : ∃ (n : Fin 16) (rd ra rb : BitVec 5) (s : State), (s.issues n) ∧ (s.g n rb ≠
  0) :=
  ⟨3, 5, 6, 7, laneUp 0 9, by decide +kernel⟩

set_option maxRecDepth 100000 in
theorem test_wit_LaneMultiplyAndSaturate_4 : ∃ (n : Fin 16) (rd ra rb : BitVec 5) (s : State), (s.issues n) :=
  ⟨3, 5, 6, 7, laneUp 0 0, by decide +kernel⟩

set_option maxRecDepth 100000 in
theorem test_wit_LaneMultiplyAndSaturate_5 : ∃ (n : Fin 16) (rd ra : BitVec 5) (imm : BitVec 16) (s : State), (s.issues n)
  :=
  ⟨3, 5, 6, 0xFFFF, laneUp 0 0, by decide +kernel⟩

set_option maxRecDepth 100000 in
theorem test_wit_LaneFloat_1 : ∃ (n : Fin 16) (rd ra rb : BitVec 5) (s : State), (s.issues n) :=
  ⟨3, 5, 6, 7, laneUp 0 0, by decide +kernel⟩

set_option maxRecDepth 100000 in
theorem test_wit_LaneFloat_2 : ∃ (n : Fin 16) (rd ra rb : BitVec 5) (x y : Word) (s : State), (s.issues n) ∧ (x = s.g n ra)
  ∧ (y = s.g n rb) ∧ (fIsNan x = true ∨ fIsNan y = true) :=
  ⟨3, 5, 6, 7, 0x7F800001, 0x7FC00000, laneUp 0x7F800001 0x7FC00000, by decide +kernel⟩

set_option maxRecDepth 100000 in
theorem test_wit_LaneFloat_3 : ∃ (n : Fin 16) (rd ra rb : BitVec 5) (x y : Word) (s : State), (s.issues n) ∧ (x = s.g n ra)
  ∧ (y = s.g n rb) ∧ (fIsInf x = true) ∧ (fIsInf y = true) :=
  ⟨3, 5, 6, 7, 0x7F800000, 0xFF800000, laneUp 0x7F800000 0xFF800000, by decide +kernel⟩

set_option maxRecDepth 100000 in
theorem test_wit_LaneFloat_4 : ∃ (n : Fin 16) (rd ra rb : BitVec 5) (x y : Word) (s : State), (s.issues n) ∧ (x = s.g n ra)
  ∧ (y = s.g n rb) ∧ (fIsInf x = true) ∧ (fIsFin y = true) :=
  ⟨3, 5, 6, 7, 0x7F800000, 0, laneUp 0x7F800000 0, by decide +kernel⟩

set_option maxRecDepth 100000 in
theorem test_wit_LaneFloat_5 : ∃ (n : Fin 16) (rd ra rb : BitVec 5) (x y : Word) (s : State), (s.issues n) ∧ (x = s.g n ra)
  ∧ (y = s.g n rb) ∧ (fIsFin x = true) ∧ (fIsInf y = true) :=
  ⟨3, 5, 6, 7, 0, 0xFF800000, laneUp 0 0xFF800000, by decide +kernel⟩

set_option maxRecDepth 100000 in
theorem test_wit_LaneFloat_6 : ∃ (n : Fin 16) (rd ra rb : BitVec 5) (x y : Word) (s : State), (s.issues n) ∧ (x = s.g n ra)
  ∧ (y = s.g n rb) ∧ (fIsFin x = true) ∧ (fIsZero y = true) :=
  ⟨3, 5, 6, 7, 0x3F800000, 0x80000000, laneUp 0x3F800000 0x80000000, by decide +kernel⟩

set_option maxRecDepth 100000 in
theorem test_wit_LaneFloat_7 : ∃ (n : Fin 16) (rd ra : BitVec 5) (x : Word) (s : State), (s.issues n) ∧ (x = s.g n ra) ∧
  (fIsNan x = true ∨ fIsInf x = true) :=
  ⟨3, 5, 6, 0xFF800000, laneUp 0xFF800000 0, by decide +kernel⟩

set_option maxRecDepth 100000 in
theorem test_wit_LaneFloatExact_1 : ∃ (n : Fin 16) (rd ra rb : BitVec 5) (x y : Word) (s : State), (s.issues n) ∧ (x = s.g
  n ra) ∧ (y = s.g n rb) ∧ (fIsFin x = true) ∧ (fIsFin y = true) :=
  ⟨3, 5, 6, 7, 0x3F800000, 0x40400000, laneUp 0x3F800000 0x40400000, by decide +kernel⟩

set_option maxRecDepth 100000 in
theorem test_wit_LaneFloatExact_2 : ∃ (n : Fin 16) (rd ra : BitVec 5) (x : Word) (s : State), (s.issues n) ∧ (x = s.g n ra)
  :=
  ⟨3, 5, 6, 0x80000001, laneUp 0x80000001 0, by decide +kernel⟩

set_option maxRecDepth 100000 in
theorem test_wit_LaneFloatExact_3 : ∃ (n : Fin 16) (rd ra : BitVec 5) (x : Word) (s : State), (s.issues n) ∧ (x = s.g n ra)
  ∧ (fIsFin x = true) :=
  ⟨3, 5, 6, 0xBFC00000, laneUp 0xBFC00000 0, by decide +kernel⟩

set_option maxRecDepth 100000 in
theorem test_wit_LaneFloatExact_4 : ∃ (n : Fin 16) (rd ra rb : BitVec 5) (x y : Word) (s : State), (s.issues n) ∧ (x = s.g
  n ra) ∧ (y = s.g n rb) ∧ (fIsNan x = false) ∧ (fIsNan y = false) :=
  ⟨3, 5, 6, 7, 0x80000000, 0, laneUp 0x80000000 0, by decide +kernel⟩

set_option maxRecDepth 100000 in
theorem test_wit_LaneLoadsAndStores_1 : ∃ (n : Fin 16) (rd ra : BitVec 5) (imm : BitVec 16) (a : Word) (s : State),
  (s.issues n) ∧ (a = s.g n ra + imm.signExtend 32) ∧ (a.toNat % 4 = 0) ∧ (s.loadProt n a.toNat 4 false = none) ∧
  (s.loadPoisoned n a.toNat = false) :=
  ⟨3, 5, 6, 4, 0x400104, laneUp 0x400100 0, by decide +kernel⟩

set_option maxRecDepth 100000 in
theorem test_wit_LaneLoadsAndStores_2 : ∃ (n : Fin 16) (rd ra : BitVec 5) (imm : BitVec 16) (a : Word) (s : State),
  (s.issues n) ∧ (a = s.g n ra + imm.signExtend 32) ∧ (a.toNat % 2 = 0) ∧ (s.loadProt n a.toNat 2 false = none) ∧
  (s.loadPoisoned n a.toNat = false) :=
  ⟨3, 5, 6, 2, 0x400102, laneUp 0x400100 0, by decide +kernel⟩

set_option maxRecDepth 100000 in
theorem test_wit_LaneLoadsAndStores_3 : ∃ (n : Fin 16) (rd ra : BitVec 5) (imm : BitVec 16) (a : Word) (s : State),
  (s.issues n) ∧ (a = s.g n ra + imm.signExtend 32) ∧ (s.loadProt n a.toNat 1 false = none) ∧ (s.loadPoisoned n a.toNat =
  false) :=
  ⟨3, 5, 6, 0xFFFF, 0x4000FF, laneUp 0x400100 0, by decide +kernel⟩

set_option maxRecDepth 100000 in
theorem test_wit_LaneLoadsAndStores_4 : ∃ (n : Fin 16) (rd ra : BitVec 5) (imm : BitVec 16) (a : Word) (s : State),
  (s.issues n) ∧ (a = s.g n ra + imm.signExtend 32) ∧ (a.toNat % 4 = 0) ∧ (s.loadProt n a.toNat 4 true = none) ∧
  (s.loadPoisoned n a.toNat = false) :=
  ⟨3, 5, 6, 4, 0x10000104, laneUp 0x10000100 0, by decide +kernel⟩

set_option maxRecDepth 100000 in
theorem test_wit_LaneLoadsAndStores_5 : ∃ (n : Fin 16) (rs ra : BitVec 5) (imm : BitVec 16) (a : Word) (s : State),
  (s.issues n) ∧ (a = s.g n ra + imm.signExtend 32) ∧ (a.toNat % 4 = 0) ∧ (s.storeProt n a.toNat false false = none) ∧
  (laneRange a.toNat = .dtcm) :=
  ⟨3, 5, 6, 4, 0x400104, laneUp 0x400100 0, by decide +kernel⟩

set_option maxRecDepth 100000 in
theorem test_wit_LaneLoadsAndStores_6 : ∃ (n : Fin 16) (rs ra : BitVec 5) (imm : BitVec 16) (a : Word) (s : State),
  (s.issues n) ∧ (a = s.g n ra + imm.signExtend 32) ∧ (a.toNat % 4 = 0) ∧ (s.storeProt n a.toNat false false = none) ∧
  (laneRange a.toNat = .imem) :=
  ⟨3, 5, 6, 0, 0x10000000, laneUp 0x10000000 0, by decide +kernel⟩

set_option maxRecDepth 100000 in
theorem test_wit_LaneLoadsAndStores_7 : ∃ (n : Fin 16) (rs ra : BitVec 5) (imm : BitVec 16) (a : Word) (s : State),
  (s.issues n) ∧ (a = s.g n ra + imm.signExtend 32) ∧ (a.toNat % 2 = 0) ∧ (s.storeProt n a.toNat true false = none) ∧
  (laneRange a.toNat = .dtcm) :=
  ⟨3, 5, 6, 2, 0x400102, laneUp 0x400100 0, by decide +kernel⟩

set_option maxRecDepth 100000 in
theorem test_wit_LaneLoadsAndStores_8 : ∃ (n : Fin 16) (rs ra : BitVec 5) (imm : BitVec 16) (a : Word) (s : State),
  (s.issues n) ∧ (a = s.g n ra + imm.signExtend 32) ∧ (s.storeProt n a.toNat true false = none) ∧ (laneRange a.toNat =
  .dtcm) :=
  ⟨3, 5, 6, 0xFFFF, 0x4000FF, laneUp 0x400100 0, by decide +kernel⟩

set_option maxRecDepth 100000 in
theorem test_wit_LaneLoadsAndStores_9 : ∃ (n : Fin 16) (rs ra : BitVec 5) (imm : BitVec 16) (a : Word) (s : State),
  (s.issues n) ∧ (a = s.g n ra + imm.signExtend 32) ∧ (a.toNat % 4 = 0) ∧ (s.storeProt n a.toNat false true = none) :=
  ⟨3, 5, 6, 4, 0x10000104, laneUp 0x10000100 0, by decide +kernel⟩

set_option maxRecDepth 100000 in
theorem test_wit_LaneJumpsAndPlyend_1 : ∃ (n : Fin 16) (cond : BitVec 4) (ra rb : BitVec 5) (off : BitVec 12) (h : Bool) (s
  : State), (s.issues n) ∧ (jcHolds cond (s.g n ra) (s.g n rb) = some h) ∧ (cond.toNat < 6 ∨ rb = 0) :=
  ⟨3, 9, 6, 0, 0xFFF, true, laneUp 0 0, by decide +kernel⟩

set_option maxRecDepth 100000 in
theorem test_wit_LaneJumpsAndPlyend_2 : ∃ (n : Fin 16) (rd : BitVec 5) (off : BitVec 21) (s : State), (s.issues n) :=
  ⟨3, 5, 0x1FFFFF, laneUp 0 0, by decide +kernel⟩

set_option maxRecDepth 100000 in
theorem test_wit_LaneJumpsAndPlyend_3 : ∃ (n : Fin 16) (rd ra : BitVec 5) (imm : BitVec 16) (s : State), (s.issues n) ∧
  ((s.g n ra + imm.signExtend 32).toNat % 4 = 0) :=
  ⟨3, 5, 6, 8, laneUp 0 0, by decide +kernel⟩

set_option maxRecDepth 100000 in
theorem test_wit_LaneJumpsAndPlyend_4 : ∃ (n : Fin 16) (p : Ply) (s : State), (s.issues n) ∧ (s.lanes[n].ply = some p) :=
  ⟨3, thePly, laneUp 0 0, by decide +kernel⟩

set_option maxRecDepth 100000 in
theorem test_wit_LaneJumpsAndPlyend_5 : ∃ (n : Fin 16) (s : State), (s.issues n) ∧ (s.lanes[n].ply = none) ∧
  (s.lanes[n].state ≠ .bench) :=
  ⟨3, jobUp, by decide +kernel⟩

set_option maxRecDepth 100000 in
theorem test_wit_LaneJumpsAndPlyend_6 : ∃ (n : Fin 16) (s : State), (s.issues n) ∧ (s.lanes[n].ply = none) ∧
  (s.lanes[n].state = .bench) :=
  ⟨3, benchUp, by decide +kernel⟩

set_option maxRecDepth 100000 in
theorem test_wit_LaneFieldsAndQuality_1 : ∃ (n : Fin 16) (rd ra pos wm1 : BitVec 5) (s : State), (s.issues n) ∧ (pos.toNat
  + wm1.toNat < 32) :=
  ⟨3, 5, 6, 28, 3, laneUp 0 0, by decide +kernel⟩

set_option maxRecDepth 100000 in
theorem test_wit_LaneFieldsAndQuality_2 : ∃ (n : Fin 16) (ra : BitVec 5) (s : State), (s.issues n) :=
  ⟨3, 5, laneUp 0 0, by decide +kernel⟩

set_option maxRecDepth 100000 in
theorem test_wit_LaneFieldsAndQuality_3 : ∃ (n : Fin 16) (rd : BitVec 5) (s : State), (s.issues n) :=
  ⟨3, 5, laneUp 0 0, by decide +kernel⟩

set_option maxRecDepth 100000 in
theorem test_wit_LaneFieldsAndQuality_4 : ∃ (n : Fin 16) (rd : BitVec 5) (s : State), (s.issues n) ∧ (rd ≠ 0) ∧ (rd.toNat %
  2 = 0) :=
  ⟨3, 30, laneUp 0 0, by decide +kernel⟩

set_option maxRecDepth 100000 in
theorem test_wit_LaneTraps_1 : ∃ (n : Fin 16) (rd ra : BitVec 5) (imm : BitVec 16) (p : Ply) (a : Word) (s : State),
  (s.issues n) ∧ (s.lanes[n].ply = some p) ∧ (a = s.g n ra + imm.signExtend 32) ∧ (a.toNat % 4 ≠ 0) :=
  ⟨3, 5, 6, 1, thePly, 1, laneUp 0 0, by decide +kernel⟩

set_option maxRecDepth 100000 in
theorem test_wit_LaneTraps_2 : ∃ (n : Fin 16) (rd ra : BitVec 5) (imm : BitVec 16) (p : Ply) (a : Word) (s : State),
  (s.issues n) ∧ (s.lanes[n].ply = some p) ∧ (a = s.g n ra + imm.signExtend 32) ∧ (a.toNat % 4 = 0) ∧ (laneRange a.toNat =
  .outside) :=
  ⟨3, 5, 6, 0, thePly, 0x300000, laneUp 0x300000 0, by decide +kernel⟩

set_option maxRecDepth 100000 in
theorem test_wit_LaneTraps_3 : ∃ (n : Fin 16) (rd ra rb : BitVec 5) (p : Ply) (s : State), (s.issues n) ∧ (s.lanes[n].ply =
  some p) ∧ (s.g n rb = 0) :=
  ⟨3, 5, 6, 7, thePly, laneUp 0 0, by decide +kernel⟩

set_option maxRecDepth 100000 in
theorem test_wit_LaneTraps_4 : ∃ (n : Fin 16) (rd ra rb : BitVec 5) (p : Ply) (s : State), (s.issues n) ∧ (s.lanes[n].ply =
  some p) ∧ (rd = 0 ∨ rd.toNat % 2 = 1) :=
  ⟨3, 31, 6, 7, thePly, laneUp 0 0, by decide +kernel⟩

set_option maxRecDepth 100000 in
theorem test_wit_LaneTraps_5 : ∃ (n : Fin 16) (rd ra rb : BitVec 5) (imm : BitVec 16) (p : Ply) (s : State), (s.issues n) ∧
  (s.lanes[n].ply = some p) ∧ (ra ≠ 0) :=
  ⟨3, 5, 6, 7, 0, thePly, laneUp 0 0, by decide +kernel⟩

set_option maxRecDepth 100000 in
theorem test_wit_LaneTraps_6 : ∃ (n : Fin 16) (rd ra : BitVec 5) (imm : BitVec 16) (p : Ply) (s : State), (s.issues n) ∧
  (s.lanes[n].ply = some p) ∧ (96 ≤ imm.toNat) :=
  ⟨3, 5, 6, 96, thePly, laneUp 0 0, by decide +kernel⟩

set_option maxRecDepth 100000 in
theorem test_wit_LaneTraps_7 : ∃ (n : Fin 16) (cond : BitVec 4) (ra rb : BitVec 5) (off : BitVec 12) (p : Ply) (s : State),
  (s.issues n) ∧ (s.lanes[n].ply = some p) ∧ (10 ≤ cond.toNat) :=
  ⟨3, 10, 6, 7, 0, thePly, laneUp 0 0, by decide +kernel⟩

set_option maxRecDepth 100000 in
theorem test_wit_LibraryRoutines_1 : ∃ (n : Fin 16) (rd ra rb : BitVec 5) (s : State), ((s.libraryStep n).issues n) :=
  ⟨3, 6, 7, 8, callUp 4 1 5 [2], by decide +kernel⟩

set_option maxRecDepth 100000 in
theorem test_wit_LibraryRoutines_2 : ∃ (n : Fin 16) (rd ra rb : BitVec 5) (p : Ply) (s : State), (s.executes n false =
  true) ∧ (s.libAt n = .illegal) ∧ (s.lanes[n].ply = some p) :=
  ⟨3, 6, 7, 8, thePly, callUp 6 1 5 [2], by decide +kernel⟩

set_option maxRecDepth 100000 in
theorem test_wit_LibraryRoutines_3 : ∃ (n : Fin 16) (c : Core) (rise : Bool) (f : Word) (s u : State), (s.enters n (if rise
  then 4 else 5) c) ∧ (f = s.instWord n (c.get 5).toNat 0) ∧ (s.storeWords n (c.get 5).toNat [BitVec.ofNat 32 (b2n (bit
  (c.get 6) 0) + 2)] = some u) ∧ (rise = true) :=
  ⟨3, callCore 1 5 0, true, 2, callUp 4 1 5 [2], callDone 4 1 5 [2] [3], by decide +kernel⟩

set_option maxRecDepth 100000 in
theorem test_wit_LibraryRoutines_4 : ∃ (n : Fin 16) (c : Core) (rise : Bool) (f : Word) (s u : State), (s.enters n (if rise
  then 4 else 5) c) ∧ (f = s.instWord n (c.get 5).toNat 0) ∧ (s.storeWords n (c.get 5).toNat [BitVec.ofNat 32 (b2n (bit
  (c.get 6) 0) + 2)] = some u) ∧ (rise = false) :=
  ⟨3, callCore 0 5 0, false, 3, callUp 5 0 5 [3], callDone 5 0 5 [3] [2], by decide +kernel⟩

set_option maxRecDepth 100000 in
theorem test_wit_LibraryRoutines_5 : ∃ (n : Fin 16) (c : Core) (f cv v : Word) (up dn stop : Bool) (s u : State), (s.enters
  n 3 c) ∧ (cv = s.instWord n (c.get 5).toNat 0) ∧ (f = s.instWord n (c.get 5).toNat 1) ∧ (up = (bit (c.get 6) 0 && !bit f
  1 && bit f 3)) ∧ (dn = (bit (c.get 6) 1 && !bit f 2 && bit f 3)) ∧ (stop = (!bit (c.get 6) 2 && !bit (c.get 6) 3 && !bit
  f 0 && ((up && !dn && cv == 0x7FFFFFFF) || (dn && !up && cv == 0x80000000)))) ∧ (v = (if bit (c.get 6) 2 then 0 else if
  bit (c.get 6) 3 then c.get 8 else if stop then cv else if up && !dn then cv + 1 else if dn && !up then cv - 1 else cv)) ∧
  (s.storeWords n (c.get 5).toNat [v, BitVec.ofNat 32 (b2n (bit f 0) + 2 * b2n (bit (c.get 6) 0) + 4 * b2n (bit (c.get 6)
  1) + 8)] = some u) :=
  ⟨3, callCore 1 5 0, 8, 0x7FFFFFFF, 0x7FFFFFFF, true, false, true, callUp 3 1 5 [0x7FFFFFFF, 8], callDone 3 1 5
    [0x7FFFFFFF, 8] [0x7FFFFFFF, 10], by decide +kernel⟩

set_option maxRecDepth 100000 in
theorem test_wit_LibraryRoutines_6 : ∃ (n : Fin 16) (c : Core) (f : Word) (st0 st et pt : BitVec 64) (d : Nat) (s u :
  State), (s.enters n 0 c) ∧ (f = s.instWord n (c.get 5).toNat 6) ∧ (bit (c.get 6) 0 = false) ∧ (st0 = (s.instWord n (c.get
  5).toNat 1) ++ (s.instWord n (c.get 5).toNat 0)) ∧ (pt = (c.get 9) ++ (c.get 8)) ∧ (st = (st0)) ∧ (d = (s.lanes[n].start
  - st).toInt.toNat) ∧ (et = 0) ∧ (s.storeWords n (c.get 5).toNat [st.setWidth 32, st.extractLsb' 32 32, et.setWidth 32,
  et.extractLsb' 32 32, c.get 8, c.get 9, BitVec.ofNat 32 (b2n (false) + 2 * b2n (false) + 8)] = some u) :=
  ⟨3, callCore 0 5 0, 15, 9, 9, 0, 5, 91, callUp 0 0 5 [9, 0, 4, 0, 5, 0, 15], callDone 0 0 5 [9, 0, 4, 0, 5, 0, 15] [9, 0,
    0, 0, 5, 0, 8], by decide +kernel⟩

set_option maxRecDepth 100000 in
theorem test_wit_LibraryRoutines_7 : ∃ (n : Fin 16) (c : Core) (f : Word) (st0 st et pt : BitVec 64) (d : Nat) (s u :
  State), (s.enters n 0 c) ∧ (f = s.instWord n (c.get 5).toNat 6) ∧ (bit (c.get 6) 0 = true) ∧ (st0 = (s.instWord n (c.get
  5).toNat 1) ++ (s.instWord n (c.get 5).toNat 0)) ∧ (pt = (c.get 9) ++ (c.get 8)) ∧ (st = (if bit f 1 then st0 else
  s.lanes[n].start)) ∧ (d = (s.lanes[n].start - st).toInt.toNat) ∧ (et = BitVec.ofNat 64 (min d pt.toNat)) ∧ (s.storeWords
  n (c.get 5).toNat [st.setWidth 32, st.extractLsb' 32 32, et.setWidth 32, et.extractLsb' 32 32, c.get 8, c.get 9,
  BitVec.ofNat 32 (b2n (decide (pt.toNat ≤ d)) + 2 * b2n (true) + 12)] = some u) :=
  ⟨3, callCore 1 5 0, 14, 98, 98, 2, 5, 2, callUp 0 1 5 [98, 0, 1, 0, 5, 0, 14], callDone 0 1 5 [98, 0, 1, 0, 5, 0, 14]
    [98, 0, 2, 0, 5, 0, 14], by decide +kernel⟩

set_option maxRecDepth 100000 in
theorem test_wit_LibraryRoutines_8 : ∃ (n : Fin 16) (c : Core) (f : Word) (st0 st et pt : BitVec 64) (d : Nat) (s u :
  State), (s.enters n 1 c) ∧ (f = s.instWord n (c.get 5).toNat 6) ∧ (bit (c.get 6) 0 = true) ∧ (st0 = (s.instWord n (c.get
  5).toNat 1) ++ (s.instWord n (c.get 5).toNat 0)) ∧ (pt = (c.get 9) ++ (c.get 8)) ∧ (st = (st0)) ∧ (d = (s.lanes[n].start
  - st).toInt.toNat) ∧ (et = 0) ∧ (s.storeWords n (c.get 5).toNat [st.setWidth 32, st.extractLsb' 32 32, et.setWidth 32,
  et.extractLsb' 32 32, c.get 8, c.get 9, BitVec.ofNat 32 (b2n (true) + 2 * b2n (false) + 12)] = some u) :=
  ⟨3, callCore 1 5 0, 15, 9, 9, 0, 5, 91, callUp 1 1 5 [9, 0, 4, 0, 5, 0, 15], callDone 1 1 5 [9, 0, 4, 0, 5, 0, 15] [9, 0,
    0, 0, 5, 0, 13], by decide +kernel⟩

set_option maxRecDepth 100000 in
theorem test_wit_LibraryRoutines_9 : ∃ (n : Fin 16) (c : Core) (f : Word) (st0 st et pt : BitVec 64) (d : Nat) (s u :
  State), (s.enters n 1 c) ∧ (f = s.instWord n (c.get 5).toNat 6) ∧ (bit (c.get 6) 0 = false) ∧ (st0 = (s.instWord n (c.get
  5).toNat 1) ++ (s.instWord n (c.get 5).toNat 0)) ∧ (pt = (c.get 9) ++ (c.get 8)) ∧ (bit f 1 = true ∨ (bit f 2 = true ∧
  bit f 3 = true)) ∧ (st = (if bit f 2 && bit f 3 then s.lanes[n].start else st0)) ∧ (d = (s.lanes[n].start -
  st).toInt.toNat) ∧ (et = BitVec.ofNat 64 (min d pt.toNat)) ∧ (s.storeWords n (c.get 5).toNat [st.setWidth 32,
  st.extractLsb' 32 32, et.setWidth 32, et.extractLsb' 32 32, c.get 8, c.get 9, BitVec.ofNat 32 (b2n (decide (d <
  pt.toNat)) + 2 * b2n (decide (d < pt.toNat)) + 8)] = some u) :=
  ⟨3, callCore 0 5 0, 13, 9, 100, 0, 5, 0, callUp 1 0 5 [9, 0, 4, 0, 5, 0, 13], callDone 1 0 5 [9, 0, 4, 0, 5, 0, 13] [100,
    0, 0, 0, 5, 0, 11], by decide +kernel⟩

set_option maxRecDepth 100000 in
theorem test_wit_LibraryRoutines_10 : ∃ (n : Fin 16) (c : Core) (f : Word) (st0 st et pt : BitVec 64) (d : Nat) (s u :
  State), (s.enters n 1 c) ∧ (f = s.instWord n (c.get 5).toNat 6) ∧ (bit (c.get 6) 0 = false) ∧ (st0 = (s.instWord n (c.get
  5).toNat 1) ++ (s.instWord n (c.get 5).toNat 0)) ∧ (pt = (c.get 9) ++ (c.get 8)) ∧ (bit f 1 = false ∧ (bit f 2 = false ∨
  bit f 3 = false)) ∧ (st = (st0)) ∧ (d = (s.lanes[n].start - st).toInt.toNat) ∧ (et = (s.instWord n (c.get 5).toNat 3) ++
  (s.instWord n (c.get 5).toNat 2)) ∧ (s.storeWords n (c.get 5).toNat [st.setWidth 32, st.extractLsb' 32 32, et.setWidth
  32, et.extractLsb' 32 32, c.get 8, c.get 9, BitVec.ofNat 32 (b2n (false) + 2 * b2n (false) + 8)] = some u) :=
  ⟨3, callCore 0 5 0, 8, 9, 9, 4, 5, 91, callUp 1 0 5 [9, 0, 4, 0, 5, 0, 8], callDone 1 0 5 [9, 0, 4, 0, 5, 0, 8] [9, 0, 4,
    0, 5, 0, 8], by decide +kernel⟩

set_option maxRecDepth 100000 in
theorem test_wit_LibraryRoutines_11 : ∃ (n : Fin 16) (c : Core) (f : Word) (st0 st et pt : BitVec 64) (d : Nat) (s u :
  State), (s.enters n 2 c) ∧ (f = s.instWord n (c.get 5).toNat 6) ∧ (bit (c.get 6) 0 = true) ∧ (st0 = (s.instWord n (c.get
  5).toNat 1) ++ (s.instWord n (c.get 5).toNat 0)) ∧ (pt = (c.get 9) ++ (c.get 8)) ∧ (bit f 1 = true ∨ (bit f 2 = false ∧
  bit f 3 = true)) ∧ (st = (if bit f 1 then st0 else s.lanes[n].start)) ∧ (d = (s.lanes[n].start - st).toInt.toNat) ∧ (et =
  BitVec.ofNat 64 (min d pt.toNat)) ∧ (s.storeWords n (c.get 5).toNat [st.setWidth 32, st.extractLsb' 32 32, et.setWidth
  32, et.extractLsb' 32 32, c.get 8, c.get 9, BitVec.ofNat 32 (b2n (decide (d < pt.toNat)) + 2 * b2n (decide (d <
  pt.toNat)) + 12)] = some u) :=
  ⟨3, callCore 1 5 0, 8, 9, 100, 0, 5, 0, callUp 2 1 5 [9, 0, 4, 0, 5, 0, 8], callDone 2 1 5 [9, 0, 4, 0, 5, 0, 8] [100, 0,
    0, 0, 5, 0, 15], by decide +kernel⟩

set_option maxRecDepth 100000 in
theorem test_wit_LibraryRoutines_12 : ∃ (n : Fin 16) (c : Core) (f : Word) (st0 st et pt : BitVec 64) (d : Nat) (s u :
  State), (s.enters n 2 c) ∧ (f = s.instWord n (c.get 5).toNat 6) ∧ (bit (c.get 6) 0 = true) ∧ (st0 = (s.instWord n (c.get
  5).toNat 1) ++ (s.instWord n (c.get 5).toNat 0)) ∧ (pt = (c.get 9) ++ (c.get 8)) ∧ (bit f 1 = false ∧ (bit f 2 = true ∨
  bit f 3 = false)) ∧ (st = (st0)) ∧ (d = (s.lanes[n].start - st).toInt.toNat) ∧ (et = (s.instWord n (c.get 5).toNat 3) ++
  (s.instWord n (c.get 5).toNat 2)) ∧ (s.storeWords n (c.get 5).toNat [st.setWidth 32, st.extractLsb' 32 32, et.setWidth
  32, et.extractLsb' 32 32, c.get 8, c.get 9, BitVec.ofNat 32 (b2n (false) + 2 * b2n (false) + 12)] = some u) :=
  ⟨3, callCore 1 5 0, 12, 9, 9, 4, 5, 91, callUp 2 1 5 [9, 0, 4, 0, 5, 0, 12], callDone 2 1 5 [9, 0, 4, 0, 5, 0, 12] [9, 0,
    4, 0, 5, 0, 12], by decide +kernel⟩

set_option maxRecDepth 100000 in
theorem test_wit_LibraryRoutines_13 : ∃ (n : Fin 16) (c : Core) (f : Word) (st0 st et pt : BitVec 64) (d : Nat) (s u :
  State), (s.enters n 2 c) ∧ (f = s.instWord n (c.get 5).toNat 6) ∧ (bit (c.get 6) 0 = false) ∧ (st0 = (s.instWord n (c.get
  5).toNat 1) ++ (s.instWord n (c.get 5).toNat 0)) ∧ (pt = (c.get 9) ++ (c.get 8)) ∧ (bit f 1 = true) ∧ (st = (st0)) ∧ (d =
  (s.lanes[n].start - st).toInt.toNat) ∧ (et = BitVec.ofNat 64 (min d pt.toNat)) ∧ (s.storeWords n (c.get 5).toNat
  [st.setWidth 32, st.extractLsb' 32 32, et.setWidth 32, et.extractLsb' 32 32, c.get 8, c.get 9, BitVec.ofNat 32 (b2n
  (decide (d < pt.toNat)) + 2 * b2n (decide (d < pt.toNat)) + 8)] = some u) :=
  ⟨3, callCore 0 5 0, 14, 9, 9, 5, 5, 91, callUp 2 0 5 [9, 0, 4, 0, 5, 0, 14], callDone 2 0 5 [9, 0, 4, 0, 5, 0, 14] [9, 0,
    5, 0, 5, 0, 8], by decide +kernel⟩

set_option maxRecDepth 100000 in
theorem test_wit_LibraryRoutines_14 : ∃ (n : Fin 16) (c : Core) (f : Word) (st0 st et pt : BitVec 64) (d : Nat) (s u :
  State), (s.enters n 2 c) ∧ (f = s.instWord n (c.get 5).toNat 6) ∧ (bit (c.get 6) 0 = false) ∧ (st0 = (s.instWord n (c.get
  5).toNat 1) ++ (s.instWord n (c.get 5).toNat 0)) ∧ (pt = (c.get 9) ++ (c.get 8)) ∧ (bit f 1 = false) ∧ (st = (st0)) ∧ (d
  = (s.lanes[n].start - st).toInt.toNat) ∧ (et = 0) ∧ (s.storeWords n (c.get 5).toNat [st.setWidth 32, st.extractLsb' 32
  32, et.setWidth 32, et.extractLsb' 32 32, c.get 8, c.get 9, BitVec.ofNat 32 (b2n (false) + 2 * b2n (false) + 8)] = some
  u) :=
  ⟨3, callCore 0 5 0, 12, 9, 9, 0, 5, 91, callUp 2 0 5 [9, 0, 4, 0, 5, 0, 12], callDone 2 0 5 [9, 0, 4, 0, 5, 0, 12] [9, 0,
    0, 0, 5, 0, 8], by decide +kernel⟩

theorem test_wit_ErrorRegisters_1 : ∃ (p code : Nat) (info : Word) (s : State), (code < 0x10000) :=
  ⟨5, 0xFFFF, 7, up, by decide⟩

theorem test_wit_ErrorRegisters_2 : ∃ (page : BitVec 8) (v : Word) (s : State), (s.accessError (page.toNat * 0x1000 +
  0x01C) 4 = none) ∧ (bits v 15 0 ≠ 0) :=
  ⟨5, 0x8000, up, by decide⟩

theorem test_wit_ErrorRegisters_3 : ∃ (page : BitVec 8) (v : Word) (s : State), (s.accessError (page.toNat * 0x1000 +
  0x01C) 4 = none) ∧ (bits v 15 0 = 0) ∧ (bits v 31 16 ≠ 0) :=
  ⟨5, 0x80000000, up, by decide⟩

theorem test_wit_ErrorWithClear_1 : ∃ (page : BitVec 8) (v : Word) (c : BitVec 16) (i : Word) (s : State), (s.accessError
  (page.toNat * 0x1000 + 0x01C) 4 = none) ∧ (bits v 15 0 ≠ 0) ∧ (c ≠ 0) :=
  ⟨5, 1, 0xFFFF, 7, up, by decide⟩

theorem test_wit_RegisterPages_1 : ∃ (a : BitVec 20) (w : BitVec 4) (v : Word) (s : State), (s.domainUp 0 = true) ∧
  (a.toNat % 4 ≠ 0 ∨ w ≠ 4) :=
  ⟨0x04042, 4, 7, up, by decide⟩

theorem test_wit_RegisterPages_2 : ∃ (a : BitVec 20) (v : Word) (s : State), (s.domainUp 0 = true) ∧ (a.toNat % 4 = 0) ∧
  ((pageClass (a.toNat / 0x1000)).isNone = true) :=
  ⟨0xFF000, 7, up, by decide⟩

theorem test_wit_RegisterPages_3 : ∃ (a : BitVec 20) (v : Word) (s : State), (s.domainUp 0 = true) ∧ (a.toNat % 4 = 0) ∧
  ((pageClass (a.toNat / 0x1000)).isSome = true) ∧ (s.domainUp (pageDomain (a.toNat / 0x1000)) = false) :=
  ⟨0x04040, 7, withRegs [(Reg.rstDom, 1)], by decide⟩

theorem test_wit_RegisterPages_4 : ∃ (x : Nat × Instr) (r : Fin 64) (c : Fin 2) (b : BitVec 3) (m : BitVec 16) (o : BitVec
  12) (v : Word) (s : State), (s.domainUp 0 = true) ∧ (x ∈ [(pTIM, Instr.timStepCmd v), (pTIM, .timExtOfsWrite v), (pTIM,
  .timNowLoRead), (pBSQ, .bsqStart), (pBSQ, .bsqStop), (pMMU, .regionWrite o v), (pMMU, .mmuInv v), (pBRD, .brdCmdVerify),
  (pBRD, .brdCmdStore), (pBRD, .brdCmdArm), (pBRD, .brdCmdDisarm), (pBRD, .brdCmdDiscard), (pBRD, .brdCmdActivate), (pRING
  r, .ringHeadWrite r v), (pRING r, .ringCmdResume r), (pRING r, .ringCmdSkip r), (pMBS, .mbsClrSlot), (pMBS, .mbsClrAll),
  (pPAIR, .pairCmdChange), (pPAIR, .pairCmdLead), (pPAIR, .pairCmdJoin), (pPAIR, .pairCmdCastle), (pPAIR,
  .pairCmdStandDown), (pPAIR, .pairCmdBench), (pPAIR, .pairCmdAbortJoin), (pPAIR, .pairCmdResetPartner), (pSEC,
  .secKeyStore v), (pSEC, .secKeyEnable v), (pSEC, .secKeyDisable v), (pSEC, .secKeyRevoke v), (pUPD, .updCmdVerify),
  (pUPD, .updCmdStore), (pUPD, .updCmdDiscard), (pUPD, .updCmdHandover), (pUPD, .updCmdCancel), (pHAP, .hapCtrLoRead),
  (pSTW, .stwWdtKick false v), (pHST, .hstTsPop), (pCAN c, .canRxPop c), (pCAN c, .canTxAbort c b), (pCAN c, .canCmdRecover
  c), (pFIO, .fioCmdClear v m), (pLOOP, .loopTestWrite v)]) ∧ (s.domainUp (pageDomain x.1) = false) :=
  ⟨(pTIM, .timNowLoRead), 0, 0, 0, 0, 0, 0, withRegs [(Reg.rstDom, 1)], by decide⟩

theorem test_wit_RegisterPages_5 : ∃ (page : BitVec 8) (s : State), (s.accessError (page.toNat * 0x1000 + 0x024) 4 = none)
  ∧ (bit (pgStatus s page.toNat) 1 = true) :=
  ⟨4, up, by decide⟩

theorem test_wit_RegisterPages_6 : ∃ (page : BitVec 8) (s : State), (s.accessError (page.toNat * 0x1000 + 0x024) 4 = none)
  ∧ (bit (pgStatus s page.toNat) 1 = false) :=
  ⟨5, up, by decide⟩

theorem test_wit_RegisterPages_7 : ∃ (page : BitVec 8) (v : Word) (s : State), (s.accessError (page.toNat * 0x1000 + 0x024)
  4 = none) ∧ (v ≠ 0xB10C) :=
  ⟨4, 0xB10D, up, by decide⟩

theorem test_wit_RegisterPages_8 : ∃ (page : BitVec 8) (v : Word) (s : State), (s.accessError (page.toNat * 0x1000 + 0x018)
  4 = none) :=
  ⟨5, 0xA5A5, up, by decide⟩

theorem test_wit_RegisterPages_9 : ∃ (a : BitVec 20) (p ofs : Nat) (r : RegSpec) (v : Word) (s : State), (p = a.toNat /
  0x1000) ∧ (ofs = a.toNat % 0x1000) ∧ (s.accessError a.toNat 4 = none) ∧ (0x040 ≤ ofs) ∧ (regSpec p ofs = some r) ∧
  ((writeSeq p ofs r v).isNone ∧ (writeNet p ofs r v).isNone ∧ (writeRst p ofs r v false).isNone ∧ (writeHost p ofs r v
  none).isNone) :=
  ⟨0x04040, 4, 0x040, (regSpec 4 0x040).getD ⟨0, 0, 0, 0, 0⟩, 7, up, by decide⟩

theorem test_wit_RegisterPages_10 : ∃ (a : BitVec 20) (v : Word) (s : State), (s.accessError a.toNat 4 = none) ∧ (0x040 ≤
  a.toNat % 0x1000) ∧ (regSpec (a.toNat / 0x1000) (a.toNat % 0x1000) = none) :=
  ⟨0x04FFC, 7, up, by decide⟩

theorem test_wit_RegisterPages_11 : ∃ (page : BitVec 8) (v rising : Word) (s : State), (s.accessError (page.toNat * 0x1000
  + 0x014) 4 = none) :=
  ⟨3, 1, 1, up, by decide⟩

theorem test_wit_ClocksAndBlockHealth_1 : ∃ (i : Fin 20) (c : BitVec 16) (s : State), (s.domainUp 2 = true) ∧ (i.val < 18)
  ∧ (bits (s.reg (Reg.bank i Reg.clkLim)) 15 0 ≤ c.toNat) ∧ (c.toNat ≤ bits (s.reg (Reg.bank i Reg.clkLim)) 31 16) :=
  ⟨1, 5, upWith [(Reg.bank 1 Reg.clkLim, 0x00090005)], by decide⟩

theorem test_wit_ClocksAndBlockHealth_2 : ∃ (i : Fin 20) (c : BitVec 16) (s : State), (18 ≤ i.val) :=
  ⟨18, 5, up, by decide⟩

theorem test_wit_ClocksAndBlockHealth_3 : ∃ (i : Fin 20) (c : BitVec 16) (s : State), (s.domainUp 2 = true) ∧ (i.val < 18)
  ∧ ((c.toNat < bits (s.reg (Reg.bank i Reg.clkLim)) 15 0 ∨ bits (s.reg (Reg.bank i Reg.clkLim)) 31 16 < c.toNat)) ∧
  (s.clockGood i = false) :=
  ⟨1, 10, upWith [(Reg.bank 1 Reg.clkLim, 0x00090005)], by decide⟩

theorem test_wit_ClocksAndBlockHealth_4 : ∃ (i : Fin 20) (s : State), (s.domainUp 2 = true) ∧ (i.val < 18) ∧ (s.clockGood i
  = false) :=
  ⟨1, up, by decide⟩

theorem test_wit_ClocksAndBlockHealth_5 : ∃ (i : Fin 20) (c : BitVec 16) (s : State), (s.domainUp 2 = true) ∧ (s.clockGood
  i = true) ∧ (10 ≤ i.val ∧ i.val < 18) :=
  ⟨10, 0, clocked [(Reg.bank 10 Reg.clkLim, 0x00090005), (portKey 0 0, 2)], by decide⟩

theorem test_wit_ClocksAndBlockHealth_6 : ∃ (i : Fin 20) (c : BitVec 16) (s : State), (s.domainUp 2 = true) ∧ (s.clockGood
  i = true) ∧ (i.val = 5) :=
  ⟨5, 0, clocked [(Reg.bank 5 Reg.clkLim, 0x00090005), (Reg.dxlState, 31)], by decide⟩

theorem test_wit_ClocksAndBlockHealth_7 : ∃ (i : Fin 20) (c : BitVec 16) (s : State), (s.domainUp 2 = true) ∧ (s.clockGood
  i = true) ∧ ((clockDomain i.val).any (fun d => d == 1 || d == 2 || d == 3 || d == 8) = true) ∧ ((clockDomain i.val).all
  s.domainUp = true) :=
  ⟨2, 0, clocked [(Reg.bank 2 Reg.clkLim, 0x00090005)], by decide⟩

theorem test_wit_ClocksAndBlockHealth_8 : ∃ (i : Fin 20) (c : BitVec 16) (s : State), (s.domainUp 2 = true) ∧ (s.clockGood
  i = true) ∧ (i.val = 0) :=
  ⟨0, 10, clocked [(Reg.bank 0 Reg.clkLim, 0x00090005)], by decide⟩

theorem test_wit_ClocksAndBlockHealth_9 : ∃ (i : Fin 20) (c : BitVec 16) (s : State), (s.domainUp 2 = true) ∧ (s.clockGood
  i = true) ∧ (i.val = 4 ∨ (6 ≤ i.val ∧ i.val ≤ 9)) ∧ ((clockDomain i.val).all s.domainUp = true) :=
  ⟨7, 0, clocked [(Reg.bank 7 Reg.clkLim, 0x00090005)], by decide⟩

theorem test_wit_ClocksAndBlockHealth_10 : ∃ (i : Fin 20) (s : State), (s.domainUp 2 = true) ∧ (i.val < 18) :=
  ⟨1, up, by decide⟩

theorem test_wit_ClocksAndBlockHealth_11 : ∃ (s : State), (s.domainUp 2 = true) ∧ (s.rst.xtal = true) :=
  ⟨{ upWith [(Reg.clkAclkTrim, 0x10007)] with rst := { up.rst with xtal := true } }, by decide⟩

theorem test_wit_ClocksAndBlockHealth_12 : ∃ (s : State), (s.rst.xtal = false) :=
  ⟨{ up with rst := { up.rst with xtal := false } }, by decide⟩

theorem test_wit_ClocksAndBlockHealth_13 : ∃ (s : State), (s.domainUp 2 = true) :=
  ⟨up, by decide⟩

theorem test_wit_ClocksAndBlockHealth_14 : ∃ (p : BitVec 8) (w : Nat) (s : State), (s.domainUp 2 = true) ∧ (s.wedgeAt
  p.toNat = some w) ∧ (s.wedged.contains p.toNat = false) :=
  ⟨27, 10000000, upWith [(Reg.mmuInvStat, 1)], by decide⟩

theorem test_wit_ClocksAndBlockHealth_15 : ∃ (p : BitVec 8) (s : State), (s.wedgeAt p.toNat = none) :=
  ⟨27, up, by decide⟩

theorem test_wit_ClocksAndBlockHealth_16 : ∃ (p : BitVec 8) (s : State), (s.wedged.contains p.toNat = true) :=
  ⟨0x18, { up with wedged := [0x18] }, by decide⟩

theorem test_wit_ClocksAndBlockHealth_17 : ∃ (v : BitVec 16) (s : State), (s.domainUp 2 = true) :=
  ⟨900, up, by decide⟩

theorem test_wit_TimeCommands_1 : ∃ (s : State), (s.domainUp 2 = true) :=
  ⟨up, by decide⟩

theorem test_wit_TimeCommands_2 : ∃ (v : Word) (s : State), (s.domainUp 2 = true) :=
  ⟨7, up, by decide⟩

theorem test_wit_TimeCommands_3 : ∃ (s : State), (s.domainUp 2 = true) ∧ (s.time.state = .unsync) :=
  ⟨up, by decide⟩

theorem test_wit_TimeCommands_4 : ∃ (s : State), (s.domainUp 2 = true) ∧ (s.time.state ≠ .unsync) :=
  ⟨{ up with time := { up.time with state := .synced } }, by decide⟩

set_option maxRecDepth 100000 in
theorem test_wit_TimeCommands_5 : ∃ (w : State) (s : State), (s.domainUp 2 = true) ∧ (s.stepDue = true) ∧ (w = (s.advanceTo
  s.nextBoundary).endRound) :=
  ⟨(stepUp.advanceTo stepUp.nextBoundary).endRound, stepUp, by decide +kernel⟩

theorem test_wit_TimeCommands_6 : ∃ (s : State), (s.domainUp 2 = true) ∧ (s.stepDue = false) :=
  ⟨up, by decide⟩

set_option maxRecDepth 100000 in
theorem test_wit_TimeCommands_7 : ∃ (i : Nat) (e : Entry) (u s : State), (s.correctsAt i e u) ∧ (u.time.state = .unsync) ∧
  (s.seqr.state ≠ .run) :=
  ⟨0, corrEnt, boardUp.toPip 105, boardUp, by decide +kernel⟩

set_option maxRecDepth 100000 in
theorem test_wit_TimeCommands_8 : ∃ (i : Nat) (e : Entry) (u s : State), (s.correctsAt i e u) ∧ (u.time.state ≠ .unsync) ∧
  ((u.corrValues.2.vals = [] ∨ (u.corrValues.2.vals.length = 1 ∧ u.ownSync = none ∧ u.corrValues.2.ext = false))) :=
  ⟨5, corrEnt, (servoRun []).atEntry .f 5 corrEnt, servoRun [], by decide +kernel⟩

set_option maxRecDepth 100000 in
theorem test_wit_TimeCommands_9 : ∃ (i : Nat) (e : Entry) (u s : State), (s.correctsAt i e u) ∧ (u.time.state ≠ .unsync) ∧
  (¬ (u.corrValues.2.vals = [] ∨ (u.corrValues.2.vals.length = 1 ∧ u.ownSync = none ∧ u.corrValues.2.ext = false))) :=
  ⟨5, corrEnt, (servoRun [⟨0, some ⟨true, 36, 0⟩, none⟩, ⟨1, some ⟨true, 18, 0⟩, none⟩]).atEntry .f 5 corrEnt, servoRun
    [⟨0, some ⟨true, 36, 0⟩, none⟩, ⟨1, some ⟨true, 18, 0⟩, none⟩], by decide +kernel⟩

theorem test_wit_Sequencer_1 : ∃ (s : State), (s.domainUp 2 = true) ∧ (s.seqr.state = .off) ∧ (s.boards.active = .loaded)
  :=
  ⟨{ up with boards := { up.boards with active := .loaded } }, by decide⟩

theorem test_wit_Sequencer_2 : ∃ (s : State), (s.domainUp 2 = true) ∧ (¬ (s.seqr.state = .off ∧ s.boards.active = .loaded))
  :=
  ⟨up, by decide⟩

theorem test_wit_Sequencer_3 : ∃ (s : State), (s.domainUp 2 = true) ∧ (s.state = .boot ∨ s.state = .stoodDown ∨ s.state =
  .bench) ∧ (s.seqr.state ≠ .off) :=
  ⟨{ up with seqr := { up.seqr with state := .wait } }, by decide⟩

theorem test_wit_Sequencer_4 : ∃ (s : State), (s.domainUp 2 = true) ∧ (s.state = .joining ∨ s.state = .follower ∨ s.state =
  .leader ∨ s.state = .mute) :=
  ⟨{ up with state := .leader }, by decide⟩

theorem test_wit_Sequencer_5 : ∃ (s : State), (s.seqr.state = .wait) ∧ (s.nextAfterCmd.rsn.toNat % s.nextAfterCmd.turnLen =
  0) :=
  ⟨{ up with seqr := { up.seqr with state := .wait, cmdAt := 0xFFFFFFFFFFFFFF00 } }, by decide⟩

theorem test_wit_Sequencer_6 : ∃ (s : State), (s.seqr.stopPend = true) ∧ (s.seqr.state = .wait ∨ s.seqr.state = .run) :=
  ⟨{ up with seqr := { up.seqr with state := .run, stopPend := true } }, by decide⟩

set_option maxRecDepth 100000 in
theorem test_wit_Sequencer_7 : ∃ (k : Nat) (s : State), (s.seqr.state = .run) ∧ (s.time.hold = none) ∧ (s.time.begun =
  true) ∧ (s.seqr.walkNext = none) :=
  ⟨3, { boardUp with seqr := { boardUp.seqr with state := .run } }, by decide +kernel⟩

set_option maxRecDepth 100000 in
theorem test_wit_Sequencer_8 : ∃ (k : Nat) (tr : Fin 4) (i : Nat) (s : State), (s.seqr.state = .run) ∧ (s.time.hold = none)
  ∧ (s.time.begun = true) ∧ (s.seqr.walkNext = none) ∧ (i < (s.track (trackOf tr)).length) :=
  ⟨3, 3, 0, { boardUp with seqr := { boardUp.seqr with state := .run } }, by decide +kernel⟩

theorem test_wit_Sequencer_9 : ∃ (s : State), (s.domainUp 0 = true) ∧ (s.seqr.state = .run ∨ s.seqr.state = .fault) :=
  ⟨{ up with seqr := { up.seqr with state := .fault } }, by decide⟩

set_option maxRecDepth 100000 in
theorem test_wit_Plies_1 : ∃ (n : Fin 16) (p : Ply) (s : State), (s.lanes[n].ply = some p) ∧ (p.phase = .ready) ∧
  (s.pastDeadline n p = false) ∧ (s.lanes[n].log = .empty) :=
  ⟨3, { thePly with phase := .ready }, (laneUp 0 0).modLane 3 (fun l =>
    { l with start := 1, ply := some { thePly with phase := .ready } }), by decide +kernel⟩

set_option maxRecDepth 100000 in
theorem test_wit_Plies_2 : ∃ (n : Fin 16) (p : Ply) (s : State), (s.lanes[n].ply = some p) ∧ (p.phase = .ready ∧
  s.pastDeadline n p = true) :=
  ⟨3, { thePly with phase := .ready },
    { (laneUp 0 0).modLane 3 fun l => { l with ply := some { thePly with phase := .ready } } with time := { up.time
    with gt := 0x1000000000000000 } }, by decide +kernel⟩

set_option maxRecDepth 100000 in
theorem test_wit_Plies_3 : ∃ (n : Fin 16) (p : Ply) (s : State), (s.lanes[n].ply = some p) ∧ (p.phase = .trapped) ∧
  (s.pastDeadline n p = false) :=
  ⟨3, { thePly with phase := .trapped }, (laneUp 0 0).modLane 3 (fun l =>
    { l with start := 1, ply := some { thePly with phase := .trapped } }), by decide +kernel⟩

set_option maxRecDepth 100000 in
theorem test_wit_Plies_4 : ∃ (i : Nat) (seg : SegResult) (e : Entry) (s : State), (s.due .l i e) ∧ (e.etype = 1) ∧
  (s.isWindow e = false) ∧ (s.kindRuns e = true) :=
  ⟨0, .pass, ⟨0x321, 0x30000, 100, 0x40⟩, walkUp, by decide +kernel⟩

set_option maxRecDepth 100000 in
theorem test_wit_Plies_5 : ∃ (i : Nat) (seg : SegResult) (e : Entry) (s : State), (s.due .l i e) ∧ (e.etype = 1) ∧
  (s.isWindow e = false) ∧ (s.kindRuns e = true) ∧ (e.kind ≠ 1) ∧ (s.lanes[e.lane].state = .running ∧ s.lanes[e.lane].ply =
  none ∧ s.lanes[e.lane].act = .none) ∧ (e.isGambit = true → (s.atEntry .l i e).lanes[e.lane].owner = some e.task.val) :=
  ⟨0, .pass, ⟨0x321, 0x30000, 100, 0x40⟩, walkUp.modLane 3 fun l => { l with state := .running }, by decide +kernel⟩

set_option maxRecDepth 100000 in
theorem test_wit_Plies_6 : ∃ (i : Nat) (seg : SegResult) (e : Entry) (s : State), (s.due .l i e) ∧ (e.etype = 1) ∧
  (s.isWindow e = false) ∧ (s.kindRuns e = true) ∧ (e.isGambit = false) ∧ (s.lanes[e.lane].state ≠ .running ∧
  s.lanes[e.lane].ply = none ∧ s.lanes[e.lane].act = .none) :=
  ⟨0, .pass, ⟨0x321, 0x30000, 100, 0x40⟩, walkUp, by decide +kernel⟩

set_option maxRecDepth 100000 in
theorem test_wit_Plies_7 : ∃ (i : Nat) (seg : SegResult) (e : Entry) (s : State), (s.comesUp .l i e) ∧ ((s.atEntry .l i
  e).enabled .l e = false) ∧ (e.etype = 1) ∧ (s.isWindow e = false) ∧ (s.kindRuns e = true) ∧ ((s.atEntry .l i e).unpaired
  i e = false) :=
  ⟨0, .pass, ⟨0x321, 0x30000, 100, 0x40⟩, landUp, by decide +kernel⟩

set_option maxRecDepth 100000 in
theorem test_wit_BoardMovers_1 : ∃ (i : Nat) (limit : Option Nat) (e : Entry) (s : State), (s.due .m i e) :=
  ⟨0, none, ⟨0x413, 0, 50, 0⟩, walkUp, by decide +kernel⟩

set_option maxRecDepth 100000 in
theorem test_wit_BoardMovers_2 : ∃ (i : Nat) (e : Entry) (b : Tables) (r : SlotRec) (ws : List (Word × BitVec 4)) (s :
  State), (s.due .m i e) ∧ (e.mkind = 3) ∧ (s.movers.find? (fun y => y.entry.mover == e.mover && !y.isDone) = none) ∧
  (s.boards.act = some b) ∧ (b.slotRec (e.ref % 0x10000) = some r) ∧ ((s.atEntry .m i e).outWords (b.iomapOf (e.ref %
  0x10000)) (List.range (valueWords r.payload)) = .ok ws) :=
  ⟨0, ⟨0x413, 0x300000, 50, 5⟩, { tab with trackM := [⟨0x413, 0x300000, 50, 5⟩] }, ⟨5, 10, 5, 1, 0, 0, 8, 0⟩, [(0, 12)],
    { walkUp with boards := { walkUp.boards with act := some { tab with trackM := [⟨0x413, 0x300000, 50, 5⟩] } } },
    by decide +kernel⟩

theorem test_wit_BoardMovers_3 : ∃ (m : Fin 8) (x : MoverXfer) (s : State), (s.movers.find? (fun y => y.entry.mover ==
  m.val) = some x) ∧ (x.isDone = true) :=
  ⟨0, { theMove with isDone := true }, { up with movers := [{ theMove with isDone := true }] }, by decide⟩

theorem test_wit_BoardMovers_4 : ∃ (m : Fin 8) (x : MoverXfer) (s : State), (s.movers.find? (fun y => y.entry.mover ==
  m.val) = some x) ∧ (x.isDone = false) :=
  ⟨0, theMove, { up with movers := [theMove] }, by decide⟩

theorem test_wit_BoardMovers_5 : ∃ (m : Fin 8) (x : MoverXfer) (a : BitVec 40) (s : State), (s.movers.find? (fun y =>
  y.entry.mover == m.val && !y.isDone) = some x) :=
  ⟨0, theMove, 0, { up with movers := [theMove] }, by decide⟩

set_option maxRecDepth 100000 in
theorem test_wit_FieldEvents_1 : ∃ (i : Nat) (e : Entry) (s : State), (s.due .f i e) ∧ (e.etype = 5) ∧ (e.fevt = 1) :=
  ⟨1, ⟨1621, 65536, 1, 0⟩, walkUp, by decide +kernel⟩

set_option maxRecDepth 100000 in
theorem test_wit_FieldEvents_2 : ∃ (i : Nat) (e : Entry) (s : State), (s.due .f i e) ∧ (e.etype = 5) ∧ (e.fevt = 2) ∧
  (s.boards.act.isSome = true) :=
  ⟨2, ⟨1637, 131072, 1, 0⟩, walkUp, by decide +kernel⟩

set_option maxRecDepth 100000 in
theorem test_wit_FieldEvents_3 : ∃ (i : Nat) (e : Entry) (s : State), (s.due .f i e) ∧ (e.etype = 5) ∧ (e.fevt = 3) :=
  ⟨3, ⟨1653, 196608, 1, 0⟩, walkUp, by decide +kernel⟩

set_option maxRecDepth 100000 in
theorem test_wit_FieldEvents_4 : ∃ (i : Nat) (e : Entry) (s : State), (s.due .f i e) ∧ (e.etype = 5) ∧ (e.fevt = 3) ∧
  ((s.taskRec e.task).isSome = true) :=
  ⟨3, ⟨1653, 196608, 1, 0⟩, walkUp, by decide +kernel⟩

set_option maxRecDepth 100000 in
theorem test_wit_FieldEvents_5 : ∃ (i : Nat) (e : Entry) (s : State), (s.due .f i e) ∧ (e.etype = 5) ∧ (e.fevt = 4) :=
  ⟨4, ⟨1669, 262144, 1, 0⟩, walkUp, by decide +kernel⟩

set_option maxRecDepth 100000 in
theorem test_wit_FieldEvents_6 : ∃ (i : Nat) (e : Entry) (s : State), (s.due .f i e) ∧ (e.etype = 5) ∧ (e.fevt = 6) ∧
  (s.takesLatches = true) ∧ (s.pair.latches.any (fun x => x.entry == i) = false) :=
  ⟨6, ⟨1701, 393216, 1, 0⟩, { upFollow with pair := { walkUp.pair with latches := [] } }, by decide +kernel⟩

set_option maxRecDepth 100000 in
theorem test_wit_FieldEvents_7 : ∃ (i : Nat) (e : Entry) (s : State), (s.due .f i e) ∧ (e.etype = 5) ∧ (e.fevt = 6) ∧
  (s.takesLatches = false) :=
  ⟨6, ⟨1701, 393216, 1, 0⟩, walkUp, by decide +kernel⟩

set_option maxRecDepth 100000 in
theorem test_wit_FieldEvents_8 : ∃ (i : Nat) (e : Entry) (s : State), (s.due .f i e) ∧ (e.etype = 5) ∧ (e.fevt = 7) ∧
  (s.domainUp 9 = true) :=
  ⟨7, ⟨1717, 458752, 1, 0⟩, walkUp, by decide +kernel⟩

set_option maxRecDepth 100000 in
theorem test_wit_FieldEvents_9 : ∃ (i : Nat) (e : Entry) (s : State), (s.due .f i e) ∧ (e.etype = 5) ∧ (e.fevt = 8) :=
  ⟨8, ⟨1733, 524288, 1, 0⟩, walkUp, by decide +kernel⟩

set_option maxRecDepth 100000 in
theorem test_wit_SlotsAndGuardian_1 : ∃ (i : Nat) (e : Entry) (t : Tables) (s : State), (s.due .n i e) ∧ (s.domainUp 3 =
  true) ∧ (s.boards.act = some t) :=
  ⟨0, ⟨0x644, 0x50000, 0, 0⟩, tab, walkUp, by decide +kernel⟩

set_option maxRecDepth 100000 in
theorem test_wit_SlotsAndGuardian_2 : ∃ (i : Nat) (e : Entry) (t : Tables) (r : SlotRec) (s : State), (s.due .n i e) ∧
  (s.domainUp 3 = true) ∧ (s.boards.act = some t) ∧ (t.slotRec e.slot = some r) ∧ ((s.atEntry .n i e).ownSlot r = false) ∧
  ((s.atEntry .n i e).runOf r.slot (s.atEntry .n i e).rsn = none) :=
  ⟨0, ⟨0x644, 0x50000, 0, 0⟩, tab, ⟨5, 10, 5, 1, 0, 0, 8, 0⟩, walkUp, by decide +kernel⟩

set_option maxRecDepth 100000 in
theorem test_wit_SlotsAndGuardian_3 : ∃ (slot : BitVec 16) (t : Tables) (run : SlotRun) (r : SlotRec) (s : State),
  (s.boards.act = some t) ∧ (s.net.slots.find? (fun x => x.slot == slot.toNat && x.isOpen) = some run) ∧ (t.slotRec
  slot.toNat = some r) ∧ (run.own = true) :=
  ⟨5, tab, { theRun with own := true }, ⟨5, 10, 5, 1, 0, 0, 8, 0⟩,
    { boardUp with net := { boardUp.net with slots := [{ theRun with own := true }] } }, by decide +kernel⟩

set_option maxRecDepth 100000 in
theorem test_wit_SlotsAndGuardian_4 : ∃ (slot : BitVec 16) (t : Tables) (run : SlotRun) (r : SlotRec) (s : State),
  (s.boards.act = some t) ∧ (s.net.slots.find? (fun x => x.slot == slot.toNat && x.isOpen) = some run) ∧ (t.slotRec
  slot.toNat = some r) ∧ (run.own = false) ∧ (outcomeOf run run.a ≠ 0) ∧ (outcomeOf run run.b ≠ 0) :=
  ⟨5, tab, theRun, ⟨5, 10, 5, 1, 0, 0, 8, 0⟩, slotUp, by decide +kernel⟩

set_option maxRecDepth 100000 in
theorem test_wit_SlotsAndGuardian_5 : ∃ (i : Nat) (t : Tables) (g : GuardRec) (s : State), (s.boards.act = some t) ∧
  (t.guards[i]? = some g) ∧ (s.inRound = true) ∧ ((s.toPip g.start).guardOn g = true) :=
  ⟨0, tab, ⟨90, 20, 5, 0, 0, 0, 0⟩, boardUp, by decide +kernel⟩

set_option maxRecDepth 100000 in
theorem test_wit_SlotsAndGuardian_6 : ∃ (i : Nat) (t : Tables) (g : GuardRec) (s : State), (s.boards.act = some t) ∧
  (t.guards[i]? = some g) ∧ (s.net.windows.any (fun w => w.1 == i) = true) :=
  ⟨0, tab, ⟨90, 20, 5, 0, 0, 0, 0⟩, { boardUp with net := { boardUp.net with windows := [(0, 5)] } }, by decide +kernel⟩

set_option maxRecDepth 100000 in
theorem test_wit_GambitAndBackground_1 : ∃ (i : Nat) (e : Entry) (u : State) (s : State), (s.due .l i e) ∧ (e.etype = 2) ∧
  (u = (s.atEntry .l i e).decideDue) ∧ (u.gmb[e.task].isOpen = true) ∧ (u.gmb[e.task].overdue = false) :=
  ⟨1, ⟨0x3C2, 0, 10, 0⟩, (gambitUp.atEntry .l 1 ⟨0x3C2, 0, 10, 0⟩).decideDue, gambitUp, by decide +kernel⟩

set_option maxRecDepth 100000 in
theorem test_wit_GambitAndBackground_2 : ∃ (i : Nat) (e : Entry) (u : State) (s : State) (cause : Nat) (n : Fin 16), (s.due
  .l i e) ∧ (e.etype = 2) ∧ (u = (s.atEntry .l i e).decideDue) ∧ (u.gmb[e.task].isOpen = true) ∧ (u.gmb[e.task].overdue =
  false) ∧ (u.gmb[e.task].spoiled = some (cause, n.val)) ∧ (2 ≤ cause ∧ cause ≤ 6) :=
  ⟨1, ⟨0x3C2, 0, 10, 0⟩, (squashUp.atEntry .l 1 ⟨0x3C2, 0, 10, 0⟩).decideDue, squashUp, 2, 3, by decide +kernel⟩

set_option maxRecDepth 100000 in
theorem test_wit_GambitAndBackground_3 : ∃ (i : Nat) (e : Entry) (u : State) (s : State), (s.due .l i e) ∧ (e.etype = 2) ∧
  (u = (s.atEntry .l i e).decideDue) ∧ (u.gmb[e.task].isOpen = true) ∧ (u.gmb[e.task].overdue = false) ∧
  (u.gmb[e.task].spoiled = none) ∧ (bit (u.reg (Reg.pgCtrl pGMB)) 0 = false ∨ u.gmb[e.task].forced = true) :=
  ⟨1, ⟨0x3C2, 0, 10, 0⟩, ((gambitUp.setReg (Reg.pgCtrl pGMB) 0).atEntry .l 1 ⟨0x3C2, 0, 10, 0⟩).decideDue, gambitUp.setReg
    (Reg.pgCtrl pGMB) 0, by decide +kernel⟩

set_option maxRecDepth 100000 in
theorem test_wit_GambitAndBackground_4 : ∃ (i : Nat) (e : Entry) (u : State) (s : State) (b : Nat), (s.due .l i e) ∧
  (e.etype = 2) ∧ (u = (s.atEntry .l i e).decideDue) ∧ (u.gmb[e.task].isOpen = true) ∧ (u.gmb[e.task].overdue = false) ∧
  (u.gmb[e.task].spoiled = none) ∧ (bit (u.reg (Reg.pgCtrl pGMB)) 0 = true ∧ u.gmb[e.task].forced = false) ∧ (b =
  (((u.ctxReads e.task).map (· / 1024)).dedup.filter (fun k => (u.gmb[e.task].mask.map (· / 1024)).contains k)).length) :=
  ⟨1, ⟨0x3C2, 0, 10, 0⟩, (gambitUp.atEntry .l 1 ⟨0x3C2, 0, 10, 0⟩).decideDue, gambitUp, 0, by decide +kernel⟩

set_option maxRecDepth 100000 in
theorem test_wit_GambitAndBackground_5 : ∃ (i : Nat) (e : Entry) (u : State) (s : State), (s.due .l i e) ∧ (e.etype = 2) ∧
  (u = (s.atEntry .l i e).decideDue) ∧ (u.gmb[e.task].isOpen = true) ∧ (u.gmb[e.task].overdue = false) :=
  ⟨1, ⟨0x3C2, 0, 10, 0⟩, (gambitUp.atEntry .l 1 ⟨0x3C2, 0, 10, 0⟩).decideDue, gambitUp, by decide +kernel⟩

set_option maxRecDepth 100000 in
theorem test_wit_GambitAndBackground_6 : ∃ (i : Nat) (e : Entry) (k : TaskRec) (u : State) (s : State), (s.due .l i e) ∧
  (e.etype = 2) ∧ (u = (s.atEntry .l i e).decideDue) ∧ (u.gmb[e.task].isOpen = true) ∧ (u.gmb[e.task].overdue = false) ∧
  ((u.commitTest e.task e.dur).commit = true) ∧ (u.taskRec e.task = some k) ∧ (u.mem.wf = true) ∧ (k.outBase + k.outLen ≤
  0x4000000 ∧ k.stageBase + k.outLen ≤ 0x4000000 ∧ k.outBase % 64 = 0 ∧ k.stageBase % 64 = 0) ∧ (k.outBase + k.outLen ≤
  k.stageBase ∨ k.stageBase + k.outLen ≤ k.outBase) ∧ (∀ l ∈ u.gmb[e.task].staged, k.outBase ≤ 64 * l ∧ 64 * l + 64 ≤
  k.outBase + k.outLen) :=
  ⟨1, ⟨0x3C2, 0, 10, 0⟩, ⟨0, 0, 0, 0, 0x100, 64, 0x200, 64, 0x400⟩, (gambitUp.atEntry .l 1 ⟨0x3C2, 0, 10, 0⟩).decideDue,
    gambitUp, by decide +kernel⟩

set_option maxRecDepth 100000 in
theorem test_wit_GambitAndBackground_7 : ∃ (i : Nat) (e : Entry) (u : State) (s : State), (s.due .l i e) ∧ (e.etype = 2) ∧
  (u = (s.atEntry .l i e).decideDue) ∧ (u.gmb[e.task].isOpen = true) ∧ (u.gmb[e.task].overdue = false) ∧ ((u.commitTest
  e.task e.dur).commit = false) ∧ (u.mem.wf = true) ∧ (∀ n : Fin 16, (u.lanes[n].shadowBuf.map (fun x => x.addr)).Nodup ∧ ∀
  x ∈ u.lanes[n].shadowBuf, x.addr % 64 = 0 ∧ x.bytes.length = 64 ∧ x.addr + 64 ≤ 0x1000000) :=
  ⟨1, ⟨0x3C2, 0, 10, 0⟩, (squashUp.atEntry .l 1 ⟨0x3C2, 0, 10, 0⟩).decideDue, squashUp, by decide +kernel⟩

set_option maxRecDepth 100000 in
theorem test_wit_GambitAndBackground_8 : ∃ (i : Nat) (e : Entry) (u : State) (s : State), (s.due .l i e) ∧ (e.etype = 2) ∧
  (u = (s.atEntry .l i e).decideDue) ∧ (u.gmb[e.task].isOpen = false) :=
  ⟨1, ⟨0x3C2, 0, 10, 0⟩, (walkUp.atEntry .l 1 ⟨0x3C2, 0, 10, 0⟩).decideDue, walkUp, by decide +kernel⟩

set_option maxRecDepth 100000 in
theorem test_wit_GambitAndBackground_9 : ∃ (i : Nat) (e : Entry) (u : State) (s : State), (s.due .l i e) ∧ (e.etype = 2) ∧
  (u = (s.atEntry .l i e).decideDue) ∧ (u.gmb[e.task].isOpen = true) ∧ (u.gmb[e.task].overdue = true) :=
  ⟨1, ⟨0x3C2, 0, 10, 0⟩, (overdueUp.atEntry .l 1 ⟨0x3C2, 0, 10, 0⟩).decideDue, overdueUp, by decide +kernel⟩

set_option maxRecDepth 100000 in
theorem test_wit_GambitAndBackground_10 : ∃ (i : Nat) (e : Entry) (s : State), ((s.track .l)[i]? = some e) ∧ (e.etype = 2)
  ∧ (s.seqr.state = .run) ∧ (s.time.hold = none) ∧ (s.time.begun = true) ∧ (e.active s.roundRsn = true) ∧ (s.enabled .l e =
  true) :=
  ⟨1, ⟨0x3C2, 0, 10, 0⟩, walkUp, by decide +kernel⟩

set_option maxRecDepth 100000 in
theorem test_wit_GambitAndBackground_11 : ∃ (i : Nat) (e : Entry) (s : State), (s.due .l i e) ∧ (s.isWindow e = true) ∧
  (((s.atEntry .l i e).freeLane e.lane).lanes[e.lane].state = .running) ∧ (bit (((s.atEntry .l i e).freeLane e.lane).reg
  Reg.bsqBgEn) e.lane = true) :=
  ⟨2, ⟨0x501, 0x530000, 100, 0⟩,
    { (walkUp.modLane 3 (fun l => { l with state := .running })).setReg Reg.bsqBgEn 8 with pending := [] },
    by decide +kernel⟩

set_option maxRecDepth 100000 in
theorem test_wit_GambitAndBackground_12 : ∃ (i : Nat) (e : Entry) (s : State), (s.due .l i e) ∧ (s.isWindow e = true) ∧
  (s.lanes[e.lane].state = .running ∧ s.lanes[e.lane].ply = none ∧ s.lanes[e.lane].act = .none ∧ s.lanes[e.lane].deferred =
  false) ∧ (s.poison = []) ∧ (bits (s.jobWord e.lane) 1 0 = 1) ∧ (bit (s.reg Reg.bsqBgEn) e.lane = true) :=
  ⟨2, ⟨0x501, 0x530000, 100, 0⟩, (((walkUp.modLane 3 (fun l => { l with state := .running })).setReg Reg.bsqBgEn
    8).setJobWord 3 1), by decide +kernel⟩

set_option maxRecDepth 100000 in
theorem test_wit_GambitAndBackground_13 : ∃ (n : Fin 16) (s : State), (s.lanes[n].act = .job) :=
  ⟨3, jobUp, by decide +kernel⟩

set_option maxRecDepth 100000 in
theorem test_wit_GambitAndBackground_14 : ∃ (n : Fin 16) (a : Nat) (s : State), (s.lanes[n].act = .job) ∧ (a = laneBase n +
  s.saveArea) ∧ (s.mem.wf = true) :=
  ⟨3, laneBase 3 + 0x400000, jobUp, by decide +kernel⟩

set_option maxRecDepth 100000 in
theorem test_wit_GambitAndBackground_15 : ∃ (n : Fin 16) (s : State), (s.lanes[n].act = .job) :=
  ⟨3, jobUp, by decide +kernel⟩

set_option maxRecDepth 100000 in
theorem test_wit_GambitAndBackground_16 : ∃ (n : Fin 16) (s : State), (s.lanes[n].act = .job) :=
  ⟨3, jobUp, by decide +kernel⟩

set_option maxRecDepth 100000 in
theorem test_wit_Lockstep_1 : ∃ (n : Fin 16) (line : Fin 216) (pc : BitVec 20) (s : State), (s.comparing n line = true) ∧
  (s.state ≠ .bench) :=
  ⟨3, 5, 0x100, laneUp 0 0, by decide +kernel⟩

theorem test_wit_Lockstep_2 : ∃ (n : Fin 16) (line : Fin 216) (pc : BitVec 20) (s : State), (s.comparing n line = true) ∧
  (s.state = .bench) ∧ (s.lanes[n].state = .bench) :=
  ⟨3, 5, 0x100, benchRun, by decide⟩

set_option maxRecDepth 100000 in
theorem test_wit_Lockstep_3 : ∃ (n : Fin 16) (b : Bool) (s : State), (s.lanes[n].state ≠ .borneOff) ∧ (s.domainUp (4 +
  n.val / 4) = true) :=
  ⟨3, true, laneUp 0 0, by decide +kernel⟩

set_option maxRecDepth 100000 in
theorem test_wit_Lockstep_4 : ∃ (n : Fin 16) (s : State), (s.lanes[n].test = .awaiting) ∧ (s.lanes[n].state = .barred) ∧
  (s.lanes[n].ply = none) :=
  ⟨3, barUp .awaiting, by decide +kernel⟩

set_option maxRecDepth 100000 in
theorem test_wit_Lockstep_5 : ∃ (n : Fin 16) (s : State), (s.lanes[n].test = .lbist) :=
  ⟨3, barUp .lbist, by decide +kernel⟩

set_option maxRecDepth 100000 in
theorem test_wit_Lockstep_6 : ∃ (n : Fin 16) (line : BitVec 8) (s : State), (s.lanes[n].test = .roll) :=
  ⟨3, 7, barUp .roll, by decide +kernel⟩

set_option maxRecDepth 100000 in
theorem test_wit_Lockstep_7 : ∃ (n : Fin 16) (line : BitVec 8) (s : State), (s.lanes[n].test = .powerOn) :=
  ⟨3, 7, barUp .powerOn, by decide +kernel⟩

set_option maxRecDepth 100000 in
theorem test_wit_DebugAccess_1 : ∃ (n : Fin 16) (s : State), (s.domainUp 2 = true) ∧ (s.state = .bench) ∧ (s.lanes[n].state
  ≠ .barred ∧ s.lanes[n].state ≠ .borneOff) ∧ (s.lanes[n].state ≠ .bench) :=
  ⟨3, dbgUp .idle .none, by decide +kernel⟩

set_option maxRecDepth 100000 in
theorem test_wit_DebugAccess_2 : ∃ (n : Fin 16) (s : State), (s.domainUp 2 = true) ∧ (s.state = .bench) ∧ (s.lanes[n].state
  ≠ .barred ∧ s.lanes[n].state ≠ .borneOff) ∧ (s.lanes[n].state = .bench) :=
  ⟨3, dbgUp .bench .none, by decide +kernel⟩

set_option maxRecDepth 100000 in
theorem test_wit_DebugAccess_3 : ∃ (n : Fin 16) (s : State), (s.lanes[n].benchReq = .claim) ∧ (s.lanes[n].state = .idle ∨
  s.lanes[n].state = .running) :=
  ⟨3, dbgUp .idle .claim, by decide +kernel⟩

set_option maxRecDepth 100000 in
theorem test_wit_DebugAccess_4 : ∃ (n : Fin 16) (s : State), (s.lanes[n].benchReq = .release) ∧ (s.lanes[n].state = .bench)
  :=
  ⟨3, dbgUp .bench .release, by decide +kernel⟩

set_option maxRecDepth 100000 in
theorem test_wit_DebugAccess_5 : ∃ (n : Fin 16) (s : State), (s.domainUp 2 = true) ∧ (s.state = .bench) ∧ (s.lanes[n].state
  ≠ .barred ∧ s.lanes[n].state ≠ .borneOff) :=
  ⟨3, dbgUp .bench .none, by decide +kernel⟩

set_option maxRecDepth 100000 in
theorem test_wit_DebugAccess_6 : ∃ (n : Fin 16) (s : State), (s.domainUp 2 = true) ∧ (s.state = .bench) ∧ (s.lanes[n].state
  ≠ .barred ∧ s.lanes[n].state ≠ .borneOff) ∧ (s.executes n true = true) :=
  ⟨3, dbgUp .bench .none, by decide +kernel⟩

set_option maxRecDepth 100000 in
theorem test_wit_DebugAccess_7 : ∃ (n : Fin 16) (s : State), (s.domainUp 2 = true) ∧ (s.state = .bench) ∧ (s.lanes[n].state
  ≠ .barred ∧ s.lanes[n].state ≠ .borneOff) ∧ (s.executes n true = false) :=
  ⟨3, dbgUp .idle .none, by decide +kernel⟩

set_option maxRecDepth 100000 in
theorem test_wit_DebugAccess_8 : ∃ (n : Fin 16) (s : State), (s.domainUp 2 = true) ∧ (s.state = .bench) ∧ (s.lanes[n].state
  ≠ .barred ∧ s.lanes[n].state ≠ .borneOff) ∧ (s.lanes[n].state = .bench) :=
  ⟨3, dbgUp .bench .none, by decide +kernel⟩

set_option maxRecDepth 100000 in
theorem test_wit_DebugAccess_9 : ∃ (n : Fin 16) (s : State), (s.domainUp 2 = true) ∧ (s.state = .bench) ∧ (s.lanes[n].state
  ≠ .barred ∧ s.lanes[n].state ≠ .borneOff) ∧ (s.lanes[n].state ≠ .bench) :=
  ⟨3, dbgUp .idle .none, by decide +kernel⟩

theorem test_wit_DebugAccess_10 : ∃ (n : Fin 16) (s : State), (s.domainUp 2 = true) ∧ (s.state ≠ .bench ∨ s.lanes[n].state
  = .barred ∨ s.lanes[n].state = .borneOff) :=
  ⟨3, up, by decide⟩

theorem test_wit_DebugAccess_11 : ∃ (n : Fin 16) (v : Word) (s : State), (s.domainUp 2 = true) ∧ (n.val = s.fld
  Reg.cmpDbgRegSel 3 0) ∧ (s.lanes[n].halted = true) :=
  ⟨0, 7, up.modLane 0 fun l => { l with halted := true }, by decide⟩

theorem test_wit_DebugAccess_12 : ∃ (n : Fin 16) (v : Word) (s : State), (s.domainUp 2 = true) ∧ (n.val = s.fld
  Reg.cmpDbgRegSel 3 0) ∧ (s.lanes[n].halted = false) :=
  ⟨0, 7, up, by decide⟩

theorem test_wit_MemoryErrors_1 : ∃ (a : BitVec 40) (s : State), (s.domainUp 1 = true) ∧ (memKind a.toNat = .mram) :=
  ⟨0x0040000000, up, by decide⟩

theorem test_wit_MemoryErrors_2 : ∃ (a : BitVec 40) (n : Fin 16) (o : Nat) (s : State), (s.domainUp 1 = true) ∧ (memKind
  a.toNat = .itcm n o ∨ memKind a.toNat = .dtcm n o) :=
  ⟨0x10000004, 0, 4, up, by decide⟩

theorem test_wit_MemoryErrors_3 : ∃ (a : BitVec 40) (o : Nat) (s : State), (s.domainUp 1 = true) ∧ (memKind a.toNat = .imem
  o) :=
  ⟨0x08000008, 8, up, by decide⟩

theorem test_wit_MemoryErrors_4 : ∃ (a : BitVec 40) (s : State), (s.domainUp 1 = true) ∧ (memKind (a.toNat / 8 * 8) =
  .dram) :=
  ⟨0x0100000004, up, by decide⟩

theorem test_wit_MemoryErrors_5 : ∃ (a : BitVec 40) (l : Option (Fin 16)) (s : State), (s.domainUp 1 = true) ∧ (memKind
  a.toNat = .dram) ∧ (s.fld Reg.imgCtrl 27 24 = 0) :=
  ⟨0x0100000004, none, up, by decide⟩

theorem test_wit_MemoryErrors_6 : ∃ (a : BitVec 40) (o : Nat) (n : Fin 16) (s : State), (s.domainUp 1 = true) ∧ (memKind
  a.toNat = .imem o) ∧ (s.domainUp (4 + n.val / 4) = true) :=
  ⟨0x08000008, 8, 3, up, by decide⟩

theorem test_wit_MemoryErrors_7 : ∃ (a : BitVec 40) (n : Fin 16) (o : Nat) (b : Bytes) (s : State), (memKind a.toNat =
  .itcm n o) ∧ (s.poison.contains (laneBase n.val + o) = true) ∧ (s.repairWord n o = some b) :=
  ⟨0x10200004, 0, 0x200004, [0, 0, 0, 0], { up with poison := [0x10200004] }, by decide⟩

theorem test_wit_MemoryErrors_8 : ∃ (s : State), (s.domainUp 1 = true) :=
  ⟨up, by decide⟩

theorem test_wit_MemoryErrors_9 : ∃ (p : Nat) (r : List Nat) (s : State), (s.retire.copying = p :: r) ∧ (s.fld
  Reg.imgRetire 14 0 + 1 < sparePages) :=
  ⟨0x100000, [], { up with retire := { up.retire with copying := [0x100000] } }, by decide⟩

theorem test_wit_Regions_1 : ∃ (o : BitVec 12) (v : Word) (s : State), (s.domainUp 1 = true) ∧ (o = 0x044 ∨ o = 0x048 ∨ o =
  0x04C) ∧ (s.fld Reg.mmuRsel 7 4 < 13 ∨ bit (s.reg Reg.bsqBgEn) (s.fld Reg.mmuRsel 3 0) = true) :=
  ⟨0x04C, 0x1000, upWith [(Reg.mmuRsel, 0xC0)], by decide⟩

theorem test_wit_Regions_2 : ∃ (o : BitVec 12) (v : Word) (s : State), (s.domainUp 1 = true) ∧ (o = 0x044 ∨ o = 0x048 ∨ o =
  0x04C) ∧ (13 ≤ s.fld Reg.mmuRsel 7 4) ∧ (bit (s.reg Reg.bsqBgEn) (s.fld Reg.mmuRsel 3 0) = false) :=
  ⟨0x044, 0x1000, upWith [(Reg.mmuRsel, 0xD0)], by decide⟩

theorem test_wit_Regions_3 : ∃ (s : State), (s.regionW ≠ []) :=
  ⟨{ up with regionW := [(Reg.bank 3 Reg.mmuRbase, 0x1000)] }, by decide⟩

theorem test_wit_Regions_4 : ∃ (k : Nat) (v : Word) (s : State), (s.regionW = [(k, v)]) ∧ ((s.atBoundary.setReg k
  v).regionClash (k / 0x100000) = false) :=
  ⟨Reg.bank 3 Reg.mmuRbase, 0x1000, { up with regionW := [(Reg.bank 3 Reg.mmuRbase, 0x1000)] }, by decide⟩

theorem test_wit_Regions_5 : ∃ (v : Word) (s : State), (s.domainUp 1 = true) :=
  ⟨3, up, by decide⟩

theorem test_wit_Regions_6 : ∃ (s : State), (s.fld Reg.mmuInvStat 0 0 = 1) :=
  ⟨upWith [(Reg.mmuInvStat, 1)], by decide⟩

theorem test_wit_Rings_1 : ∃ (r : Fin 64) (v : Word) (s : State), (s.domainUp 1 = true) ∧ (0 ≤ (v - s.reg (Reg.ringTail
  r)).toInt) ∧ ((v - s.reg (Reg.ringTail r)).toInt ≤ s.ringSize r) :=
  ⟨5, 4, upWith [(Reg.ringCfg 5, 4)], by decide⟩

theorem test_wit_Rings_2 : ∃ (r : Fin 64) (v : Word) (s : State), (s.domainUp 1 = true) ∧ ((v - s.reg (Reg.ringTail
  r)).toInt < 0 ∨ (s.ringSize r : Int) < (v - s.reg (Reg.ringTail r)).toInt) :=
  ⟨5, 5, upWith [(Reg.ringCfg 5, 4)], by decide⟩

theorem test_wit_Rings_3 : ∃ (r : Fin 64) (o : BitVec 12) (v : Word) (u : State) (s : State), (s.domainUp 1 = true) ∧ (o =
  0x040 ∨ o = 0x044 ∨ o = 0x048) ∧ (u = s.setReg (pRING r * 0x1000 + o.toNat) (v &&& ringCfgMask o.toNat)) ∧ (s.descOf
  r.val = none) ∧ (u.ringSize r = 0 ∨ (u.ringSize r ∈ (List.range 13).map (fun k => 16 * 2 ^ k) ∧ u.ringBase r % 0x1000 = 0
  ∧ bgMem ≤ u.ringBase r ∧ u.ringBase r + 32 * u.ringSize r ≤ sparePool ∧ u.ringCtx r ≠ 0 ∧ (bit (u.reg (Reg.ringCfg r)) 23
  = true → u.ringCtx r ≠ 15))) :=
  ⟨5, 0x040, 0x620010,
    { (upWith [(Reg.ringBaseLo 5, 0x40000000), (Reg.ringBaseHi 5, 2)]).setReg (Reg.ringCfg 5) 0x620010 with pending
    := [] }, upWith [(Reg.ringBaseLo 5, 0x40000000), (Reg.ringBaseHi 5, 2)], by decide⟩

theorem test_wit_Rings_4 : ∃ (r : Fin 64) (o : BitVec 12) (v : Word) (u : State) (s : State), (s.domainUp 1 = true) ∧ (o =
  0x040 ∨ o = 0x044 ∨ o = 0x048) ∧ (u = s.setReg (pRING r * 0x1000 + o.toNat) (v &&& ringCfgMask o.toNat)) ∧ ((s.descOf
  r.val).all (fun d => d.halt.isSome) = true) ∧ (u.ringSize r ≠ 0) ∧ (¬ (u.ringSize r ∈ (List.range 13).map (fun k => 16 *
  2 ^ k) ∧ u.ringBase r % 0x1000 = 0 ∧ bgMem ≤ u.ringBase r ∧ u.ringBase r + 32 * u.ringSize r ≤ sparePool ∧ u.ringCtx r ≠
  0 ∧ (bit (u.reg (Reg.ringCfg r)) 23 = true → u.ringCtx r ≠ 15))) :=
  ⟨5, 0x040, 0x620011,
    { (upWith [(Reg.ringBaseLo 5, 0x40000000), (Reg.ringBaseHi 5, 2)]).setReg (Reg.ringCfg 5) 0x620011 with pending
    := [] }, upWith [(Reg.ringBaseLo 5, 0x40000000), (Reg.ringBaseHi 5, 2)], by decide⟩

set_option maxRecDepth 100000 in
theorem test_wit_Rings_5 : ∃ (r : Fin 64) (o : BitVec 12) (v : Word) (d : DescRun) (code : Nat) (u : State) (s : State),
  (s.domainUp 1 = true) ∧ (o = 0x040 ∨ o = 0x044 ∨ o = 0x048) ∧ (u = s.setReg (pRING r * 0x1000 + o.toNat) (v &&&
  ringCfgMask o.toNat)) ∧ (s.descOf r.val = some d) ∧ (d.halt = some code) ∧ (s.mem.wf = true) ∧ (u.ringSize r = 0 ∨
  (u.ringSize r ∈ (List.range 13).map (fun k => 16 * 2 ^ k) ∧ u.ringBase r % 0x1000 = 0 ∧ bgMem ≤ u.ringBase r ∧ u.ringBase
  r + 32 * u.ringSize r ≤ sparePool ∧ u.ringCtx r ≠ 0 ∧ (bit (u.reg (Reg.ringCfg r)) 23 = true → u.ringCtx r ≠ 15))) :=
  ⟨5, 0x040, 0, { theDesc with halt := some 6 }, 6, (ringUp { theDesc with halt := some 6 }).setReg (Reg.ringCfg 5) 0,
    ringUp { theDesc with halt := some 6 }, by decide +kernel⟩

set_option maxRecDepth 100000 in
theorem test_wit_Rings_6 : ∃ (r : Fin 64) (o : BitVec 12) (v : Word) (d : DescRun) (s : State), (s.domainUp 1 = true) ∧ (o
  = 0x040 ∨ o = 0x044 ∨ o = 0x048) ∧ (s.descOf r.val = some d) ∧ (d.halt = none) :=
  ⟨5, 0x040, 0x1000, theDesc, ringUp theDesc, by decide +kernel⟩

theorem test_wit_Rings_7 : ∃ (m : Fin 4) (r : Nat) (s : State), (s.domainUp 1 = true) ∧ (s.descs.any (fun d => d.mover ==
  some m.val) = false) ∧ (s.nextRing = some r) :=
  ⟨0, 5, ringReady5, by decide⟩

theorem test_wit_Rings_8 : ∃ (r : Fin 64) (x : DescRun) (d : Desc) (s : State), (s.activeDesc r.val = some (x, d)) ∧ (d.bad
  = true) :=
  ⟨5, theDesc, (ringMem 15 [3]).readDesc 0x240000000 15, ringMem 15 [3], by decide⟩

theorem test_wit_Rings_9 : ∃ (r : Fin 64) (x : DescRun) (d : Desc) (s : State), (s.activeDesc r.val = some (x, d)) ∧ (d.bad
  = false) ∧ (d.len = 0) :=
  ⟨5, theDesc, (ringMem 15 [1]).readDesc 0x240000000 15, ringMem 15 [1], by decide⟩

theorem test_wit_Rings_10 : ∃ (r : Fin 64) (x : DescRun) (d : Desc) (t : State) (k : Nat) (s : State), (s.activeDesc r.val
  = some (x, d)) ∧ (d.bad = false) ∧ (d.len ≠ 0) ∧ (s.workDesc x = (t, k, .ok)) :=
  ⟨5, theDesc, (ringMem 15 [2, 4, 7, 0, 0x50000000, 2]).readDesc 0x240000000 15, ((ringMem 15 [2, 4, 7, 0, 0x50000000,
    2]).workDesc theDesc).1, 4, ringMem 15 [2, 4, 7, 0, 0x50000000, 2], by decide⟩

theorem test_wit_Rings_11 : ∃ (r : Fin 64) (x : DescRun) (d : Desc) (t : State) (k code va : Nat) (side : Bool) (s :
  State), (s.activeDesc r.val = some (x, d)) ∧ (d.bad = false) ∧ (d.len ≠ 0) ∧ (s.workDesc x = (t, k, .fault code side va))
  :=
  ⟨5, theDesc, (ringMem 9 [2, 4, 7, 0, 0x100]).readDesc 0x240000000 9, ((ringMem 9 [2, 4, 7, 0, 0x100]).workDesc
    theDesc).1, 0, 2, 0x100, true, ringMem 9 [2, 4, 7, 0, 0x100], by decide⟩

set_option maxRecDepth 100000 in
theorem test_wit_Rings_12 : ∃ (r : Fin 64) (d : DescRun) (code : Nat) (s : State), (s.domainUp 1 = true) ∧ (s.descOf r.val
  = some d) ∧ (d.halt = some code) :=
  ⟨5, { theDesc with halt := some 6 }, 6, ringUp { theDesc with halt := some 6 }, by decide +kernel⟩

theorem test_wit_Rings_13 : ∃ (r : Fin 64) (s : State), (s.domainUp 1 = true) ∧ ((s.descOf r.val).all (fun d =>
  d.halt.isNone) = true) :=
  ⟨5, up, by decide⟩

theorem test_wit_BoardCommands_1 : ∃ (s : State), (s.domainUp 2 = true) ∧ (s.boards.running = none) :=
  ⟨up, by decide⟩

theorem test_wit_BoardCommands_2 : ∃ (s : State), (s.domainUp 2 = true) ∧ (s.boards.running = none) ∧ (s.boards.standby ≠
  .armed) ∧ (s.stagedCheck.isSome = true) :=
  ⟨up, by decide⟩

set_option maxRecDepth 100000 in
theorem test_wit_BoardCommands_3 : ∃ (s : State), (s.domainUp 2 = true) ∧ (s.boards.running = none) ∧ (s.boards.standby =
  .stored) ∧ (s.migr = none) ∧ (s.essentialFailed = false) :=
  ⟨sbUp .stored, by decide +kernel⟩

set_option maxRecDepth 100000 in
theorem test_wit_BoardCommands_4 : ∃ (s : State), (s.domainUp 2 = true) ∧ (s.boards.running = none) ∧ (s.boards.standby =
  .armed) :=
  ⟨sbUp .armed, by decide +kernel⟩

set_option maxRecDepth 100000 in
theorem test_wit_BoardCommands_5 : ∃ (s : State), (s.domainUp 2 = true) ∧ (s.boards.running = none) ∧ (s.boards.standby =
  .stored) :=
  ⟨sbUp .stored, by decide +kernel⟩

set_option maxRecDepth 100000 in
theorem test_wit_BoardCommands_6 : ∃ (s : State), (s.domainUp 2 = true) ∧ (s.boards.running = none) ∧ (s.state = .boot) ∧
  (s.boards.standby = .stored) ∧ (s.essentialFailed = false) :=
  ⟨sbUp .stored, by decide +kernel⟩

theorem test_wit_BoardCommands_7 : ∃ (s : State), (s.domainUp 2 = true) ∧ (s.boards.running = none) ∧ (s.boards.standby ≠
  .armed) ∧ (s.stagedCheck = none) :=
  ⟨loading, by decide, rfl, by decide, test_board_first⟩

set_option maxRecDepth 100000 in
theorem test_wit_BoardCommands_8 : ∃ (s : State), (s.domainUp 2 = true) ∧ (s.boards.running = none) ∧ (s.boards.standby =
  .armed) :=
  ⟨sbUp .armed, by decide +kernel⟩

theorem test_wit_BoardCommands_9 : ∃ (s : State), (s.domainUp 2 = true) ∧ (s.boards.running = none) ∧ (s.boards.standby ≠
  .stored ∨ s.migr.isSome = true ∨ s.essentialFailed = true) :=
  ⟨up, by decide⟩

theorem test_wit_BoardCommands_10 : ∃ (s : State), (s.domainUp 2 = true) ∧ (s.boards.running = none) ∧ (s.boards.standby ≠
  .armed) :=
  ⟨up, by decide⟩

theorem test_wit_BoardCommands_11 : ∃ (s : State), (s.domainUp 2 = true) ∧ (s.boards.running = none) ∧ (s.boards.standby ≠
  .stored) :=
  ⟨up, by decide⟩

theorem test_wit_BoardCommands_12 : ∃ (s : State), (s.domainUp 2 = true) ∧ (s.boards.running = none) ∧ (s.state ≠ .boot ∨
  s.boards.standby ≠ .stored ∨ s.essentialFailed = true) :=
  ⟨up, by decide⟩

set_option maxRecDepth 100000 in
theorem test_wit_BoardCommands_13 : ∃ (op : BrdOp) (c : Instr) (s : State), (s.domainUp 2 = true) ∧ (s.boards.running =
  some op) ∧ (c ∈ [Instr.brdCmdVerify, .brdCmdStore, .brdCmdArm, .brdCmdDisarm, .brdCmdDiscard, .brdCmdActivate]) :=
  ⟨.verify, .brdCmdArm, runUp .verify, by decide +kernel⟩

set_option maxRecDepth 100000 in
theorem test_wit_BoardCommands_14 : ∃ (r w : Bool) (s : State), (s.boards.running = some .verify) ∧ (s.wedged.contains pBRD
  = false) :=
  ⟨false, false, runUp .verify, by decide +kernel⟩

set_option maxRecDepth 100000 in
theorem test_wit_BoardCommands_15 : ∃ (r w : Bool) (f : Nat × Nat) (s : State), (s.boards.running = some .store) ∧
  (s.wedged.contains pBRD = false) ∧ (s.boards.writing = []) ∧ (s.boardIdle.commandCheck s.stagedBoard (s.reg
  Reg.brdStgLen).toNat false false = some f) :=
  ⟨false, false, ((runUp .store).boardIdle.commandCheck (runUp .store).stagedBoard 0 false false).getD (0, 0), runUp
    .store, by decide +kernel⟩

set_option maxRecDepth 100000 in
theorem test_wit_BoardCommands_16 : ∃ (r : Bool) (b : Bytes) (s : State), (s.boards.running = some .store) ∧
  (s.wedged.contains pBRD = false) ∧ (b ≠ []) ∧ (s.boards.writing = b) :=
  ⟨false, [1], { runUp .store with boards := { (runUp .store).boards with writing := [1] } }, by decide +kernel⟩

theorem test_wit_BoardCommands_17 : ∃ (r : Bool) (s : State), (s.boards.running = some .store) ∧ (s.wedged.contains pBRD =
  false) ∧ (s.boards.writing = []) ∧ (s.boardIdle.commandCheck s.stagedBoard (s.reg Reg.brdStgLen).toNat false false =
  none) :=
  ⟨false, storing, rfl, rfl, rfl, test_board_stores⟩

set_option maxRecDepth 100000 in
theorem test_wit_BoardCommands_18 : ∃ (r w : Bool) (s : State), (s.boards.running = some .arm) ∧ (s.wedged.contains pBRD =
  false) :=
  ⟨false, false, runUp .arm, by decide +kernel⟩

set_option maxRecDepth 100000 in
theorem test_wit_BoardCommands_19 : ∃ (r w : Bool) (s : State), (s.boards.running = some .activate) ∧ (s.wedged.contains
  pBRD = false) :=
  ⟨false, false, runUp .activate, by decide +kernel⟩

set_option maxRecDepth 100000 in
theorem test_wit_BoardCommands_20 : ∃ (r w : Bool) (s : State), (s.boards.running = some .disarm) ∧ (s.wedged.contains pBRD
  = false) :=
  ⟨false, false, runUp .disarm, by decide +kernel⟩

set_option maxRecDepth 100000 in
theorem test_wit_BoardCommands_21 : ∃ (r w : Bool) (s : State), (s.boards.running = some .discard) ∧ (s.wedged.contains
  pBRD = false) :=
  ⟨false, false, runUp .discard, by decide +kernel⟩

set_option maxRecDepth 100000 in
theorem test_wit_BoardCommands_22 : ∃ (op : BrdOp) (r w : Bool) (s : State), (s.boards.running = some op) ∧
  (s.wedged.contains pBRD = true) :=
  ⟨.arm, false, false, { runUp .arm with wedged := [pBRD] }, by decide +kernel⟩

theorem test_wit_BoardCommands_23 : ∃ (r : Bool) (s : State), (s.state = .boot) ∧ (s.domainUp 1 = true ∧ s.domainUp 2 =
  true) ∧ (s.essentialFailed = false) ∧ (s.boards.loadDue = true) ∧ (s.boards.activeArea ≠ []) ∧ (s.boards.running = none)
  ∧ (s.commandCheck s.boards.activeArea s.boards.activeArea.length false r = none) :=
  ⟨false, loading, rfl, ⟨rfl, rfl⟩, by decide, rfl, test_board_given, rfl, test_board_loads⟩

theorem test_wit_BoardCommands_24 : ∃ (r : Bool) (f : Nat × Nat) (s : State), (s.state = .boot) ∧ (s.domainUp 1 = true ∧
  s.domainUp 2 = true) ∧ (s.essentialFailed = false) ∧ (s.boards.loadDue = true) ∧ (s.boards.activeArea ≠ []) ∧
  (s.boards.running = none) ∧ (s.commandCheck s.boards.activeArea s.boards.activeArea.length false r = some f) :=
  ⟨false, (notLoading.commandCheck [0] 1 false false).getD (0, 0), notLoading, by decide⟩

theorem test_wit_BoardCommands_25 : ∃ (r : Bool) (s : State), (s.state = .boot) ∧ (s.domainUp 1 = true ∧ s.domainUp 2 =
  true) ∧ (s.essentialFailed = false) ∧ (s.boards.loadDue = true) ∧ (s.boards.activeArea = []) ∧ (s.boards.running = none)
  :=
  ⟨false, { up with boards := { up.boards with loadDue := true } }, by decide⟩

set_option maxRecDepth 100000 in
theorem test_wit_OnlineChange_1 : ∃ (s : State), (s.domainUp 2 = true) ∧ (s.changeRefusal = 0) :=
  ⟨{ sbUp .armed with state := .leader }, by decide +kernel⟩

theorem test_wit_OnlineChange_2 : ∃ (s : State), (s.domainUp 2 = true) ∧ (s.changeRefusal ≠ 0) :=
  ⟨up, by decide⟩

set_option maxRecDepth 100000 in
theorem test_wit_OnlineChange_3 : ∃ (x : ChangeRun) (s : State), (s.pair.change = some x) ∧ (x.decided = none) ∧ (later
  (x.s - 4) s.atBoundary.rsn = false) ∧ (s.state = .leader) ∧ (x.accepted = false ∧ s.atBoundary.changeAlone x = false) :=
  ⟨theChange, { leadUp 2 with pair := { (leadUp 2).pair with change := some theChange } }, by decide +kernel⟩

set_option maxRecDepth 100000 in
theorem test_wit_OnlineChange_4 : ∃ (x : ChangeRun) (s : State), (s.pair.change = some x) ∧ (x.decided = none) ∧ (later
  (x.s - 4) s.atBoundary.rsn = false) ∧ (s.state = .leader) ∧ (x.accepted = true ∨ s.atBoundary.changeAlone x = true) :=
  ⟨theChange, changeUp .leader, by decide +kernel⟩

set_option maxRecDepth 100000 in
theorem test_wit_OnlineChange_5 : ∃ (x : ChangeRun) (old new : Tables) (s : State), (s.pair.change = some x) ∧ (x.decided =
  some true) ∧ (s.atBoundary.rsn = x.s) ∧ (s.boards.standby = .armed) ∧ (s.boards.act = some old) ∧ (s.boards.stb = some
  new) :=
  ⟨⟨1, zeros 48, true, false, false, false, some true⟩, tab, tab, switchUp, by decide +kernel⟩

set_option maxRecDepth 100000 in
theorem test_wit_OnlineChange_6 : ∃ (m : Migration) (r : Word) (s : State), (s.migr = some m) ∧ (s.seqr.switched = some r)
  ∧ (m.convDone = false) ∧ (later s.atBoundary.rsn r = true) :=
  ⟨theMigr false, 0, migUp false, by decide +kernel⟩

set_option maxRecDepth 100000 in
theorem test_wit_OnlineChange_7 : ∃ (m : Migration) (s : State), (s.migr = some m) ∧ (m.convDone = true) :=
  ⟨theMigr true, migUp true, by decide +kernel⟩

set_option maxRecDepth 100000 in
theorem test_wit_OnlineChange_8 : ∃ (x : ChangeRun) (s : State), (s.pair.change = some x) ∧ (x.decided = none) :=
  ⟨theChange, { leadUp 2 with pair := { (leadUp 2).pair with change := some theChange } }, by decide +kernel⟩

set_option maxRecDepth 100000 in
theorem test_wit_OnlineChange_9 : ∃ (lane : Fin 4) (msg : Bytes) (s : State), (s.gets 3 msg) ∧ (leAt (dunlyBody msg) 0 1 =
  1) ∧ (s.state = .follower) ∧ (blockId s.pair.partner = s.activeId.take 8) ∧ (s.boards.standby = .armed) ∧ (s.standbyId =
  slice (dunlyBody msg) 8 48) :=
  ⟨0, dmsg 3 ([1] ++ zeros 55), { sbUp .armed with state := .follower, pair := { up.pair with partner := zeros 256 } },
    by decide +kernel⟩

set_option maxRecDepth 100000 in
theorem test_wit_OnlineChange_10 : ∃ (lane : Fin 4) (msg : Bytes) (s : State), (s.gets 3 msg) ∧ (leAt (dunlyBody msg) 0 1 =
  1) ∧ (s.state = .follower) ∧ (blockId s.pair.partner = s.activeId.take 8) ∧ (s.boards.standby ≠ .armed ∨ s.standbyId ≠
  slice (dunlyBody msg) 8 48) :=
  ⟨0, dmsg 3 ([1] ++ zeros 54 ++ [7]),
    { sbUp .armed with state := .follower, pair := { up.pair with partner := zeros 256 } }, by decide +kernel⟩

set_option maxRecDepth 100000 in
theorem test_wit_OnlineChange_11 : ∃ (lane : Fin 4) (msg : Bytes) (s : State), (s.gets 3 msg) ∧ (leAt (dunlyBody msg) 0 1 =
  1) ∧ (s.state = .follower) ∧ (blockId s.pair.partner ≠ s.activeId.take 8) :=
  ⟨0, dmsg 3 ([1] ++ zeros 55),
    { sbUp .armed with state := .follower, pair := { up.pair with partner := List.replicate 256 7 } }, by decide +kernel⟩

set_option maxRecDepth 100000 in
theorem test_wit_OnlineChange_12 : ∃ (x : ChangeRun) (lane : Fin 4) (msg : Bytes) (s : State), (s.gets 3 msg) ∧ (s.state =
  .leader) ∧ (s.pair.change = some x) ∧ (x.decided = none) ∧ (leAt (dunlyBody msg) 4 4 = x.s.toNat) ∧ (leAt (dunlyBody msg)
  0 1 = 3) :=
  ⟨theChange, 0, dmsg 3 ([3] ++ zeros 55), changeUp .leader, by decide +kernel⟩

set_option maxRecDepth 100000 in
theorem test_wit_OnlineChange_13 : ∃ (x : ChangeRun) (lane : Fin 4) (msg : Bytes) (s : State), (s.gets 3 msg) ∧ (s.state ≠
  .leader) ∧ (s.pair.change = some x) ∧ (x.decided = none) ∧ (leAt (dunlyBody msg) 4 4 = x.s.toNat) ∧ (leAt (dunlyBody msg)
  0 1 = 5) :=
  ⟨theChange, 0, dmsg 3 ([5] ++ zeros 55), changeUp .follower, by decide +kernel⟩

set_option maxRecDepth 100000 in
theorem test_wit_MebaridFrames_1 : ∃ (c : Instr) (ch : Chan) (port : Fin 4) (ts : BitVec 64) (f : Bytes) (s : State), (c ∈
  [Instr.syncRx ch port ts f, .coldstartRx ch port ts f, .dataInRx ch port ts f, .peerRx ch port ts f, .joinReqRx ch port
  ts f, .grantRx ch port ts f, .announceRx ch port ts f, .dataOutRx ch port ts f, .strayFrameRx ch port ts f]) ∧
  (s.portIsUp (chanNum ch) port = true) ∧ (isPause f = false) ∧ (mbMalformed f = false) :=
  ⟨.dataInRx .a 0 5 aFrame, .a, 0, 5, aFrame, portsUp, by decide +kernel⟩

set_option maxRecDepth 100000 in
theorem test_wit_MebaridFrames_2 : ∃ (c : Instr) (ch : Chan) (port : Fin 4) (ts : BitVec 64) (f : Bytes) (s : State), (c ∈
  [Instr.syncRx ch port ts f, .coldstartRx ch port ts f, .dataInRx ch port ts f, .peerRx ch port ts f, .joinReqRx ch port
  ts f, .grantRx ch port ts f, .announceRx ch port ts f, .dataOutRx ch port ts f, .strayFrameRx ch port ts f]) ∧
  (s.portIsUp (chanNum ch) port = true) ∧ (isPause f = true) :=
  ⟨.strayFrameRx .b 3 5 (zeros 12 ++ [0x88, 0x08, 0, 1] ++ zeros 48), .b, 3, 5, zeros 12 ++ [0x88, 0x08, 0, 1] ++ zeros 48,
    portsUp, by decide +kernel⟩

set_option maxRecDepth 100000 in
theorem test_wit_MebaridFrames_3 : ∃ (c : Instr) (ch : Chan) (port : Fin 4) (ts : BitVec 64) (f : Bytes) (s : State), (c ∈
  [Instr.syncRx ch port ts f, .coldstartRx ch port ts f, .dataInRx ch port ts f, .peerRx ch port ts f, .joinReqRx ch port
  ts f, .grantRx ch port ts f, .announceRx ch port ts f, .dataOutRx ch port ts f, .strayFrameRx ch port ts f]) ∧
  (s.portIsUp (chanNum ch) port = true) ∧ (isPause f = false) ∧ (mbMalformed f = true) :=
  ⟨.syncRx .a 0 5 [], .a, 0, 5, [], portsUp, by decide +kernel⟩

set_option maxRecDepth 100000 in
theorem test_wit_MebaridFrames_4 : ∃ (c : Instr) (ch : Chan) (port : Fin 4) (ts : BitVec 64) (f : Bytes) (s : State), (c ∈
  [Instr.syncRx ch port ts f, .coldstartRx ch port ts f, .dataInRx ch port ts f, .peerRx ch port ts f, .joinReqRx ch port
  ts f, .grantRx ch port ts f, .announceRx ch port ts f, .dataOutRx ch port ts f, .strayFrameRx ch port ts f]) ∧
  (s.portIsUp (chanNum ch) port = true) ∧ (isPause f = false) ∧ (mbMalformed f = false) ∧ (s.boards.act = none) :=
  ⟨.dataInRx .a 0 5 aFrame, .a, 0, 5, aFrame, portsUp, by decide +kernel⟩

set_option maxRecDepth 100000 in
theorem test_wit_MebaridFrames_5 : ∃ (c : Instr) (ch : Chan) (port : Fin 4) (ts : BitVec 64) (f : Bytes) (b : Tables) (r :
  SlotRec) (x : SlotRun) (u s : State), (c ∈ [Instr.syncRx ch port ts f, .coldstartRx ch port ts f, .dataInRx ch port ts f,
  .peerRx ch port ts f, .joinReqRx ch port ts f, .grantRx ch port ts f, .announceRx ch port ts f, .dataOutRx ch port ts f,
  .strayFrameRx ch port ts f]) ∧ (s.portIsUp (chanNum ch) port = true) ∧ (isPause f = false) ∧ (mbMalformed f = false) ∧ (u
  = ((s.advanceTo ts).hearFrame f).syncFrame ch ts f) ∧ (u.boards.act = some b) ∧ ((u.spans b port).filter (fun y => inSpan
  y.2 y.1.len (ts - BitVec.ofNat 64 (u.rxDelay b y.1 (chanNum ch)))) = [(r, x)]) :=
  ⟨.dataInRx .a 0 5000 aFrame, .a, 0, 5000, aFrame, hearTab, ⟨5, 10, 5, 1, 0, 0, 8, 0⟩, newRun ⟨0x644, 0x50000, 0, 0⟩ 0 0,
    ((hearUp.advanceTo 5000).hearFrame aFrame).syncFrame .a 5000 aFrame, hearUp, by decide +kernel⟩

theorem test_wit_MebaridFrames_6 : ∃ (c : Instr) (ch : Chan) (port : Fin 4) (ts : BitVec 64) (f : Bytes) (s : State), (c ∈
  [Instr.syncRx ch port ts f, .coldstartRx ch port ts f, .dataInRx ch port ts f, .peerRx ch port ts f, .joinReqRx ch port
  ts f, .grantRx ch port ts f, .announceRx ch port ts f, .dataOutRx ch port ts f, .strayFrameRx ch port ts f]) ∧
  (s.portIsUp (chanNum ch) port = false) :=
  ⟨.syncRx .a 0 5 [], .a, 0, 5, [], up, by decide⟩

set_option maxRecDepth 100000 in
theorem test_wit_MebaridPortsAndColdStart_1 : ∃ (ch : Chan) (p : Fin 4) (s : State), (s.domainUp 3 = true) ∧ (s.fld
  (portKey (chanNum ch) p) 1 0 = 2) ∧ (s.portHour (chanNum ch) p < 3) :=
  ⟨.b, 3, portsUp, by decide +kernel⟩

set_option maxRecDepth 100000 in
theorem test_wit_MebaridPortsAndColdStart_2 : ∃ (ch : Chan) (p : Fin 4) (s : State), (s.domainUp 3 = true) ∧ (s.fld
  (portKey (chanNum ch) p) 1 0 = 2) ∧ (3 ≤ s.portHour (chanNum ch) p) :=
  ⟨.b, 3, { portsUp with net := { portsUp.net with portHist := [(7, 0), (7, 0), (7, 0)] } }, by decide +kernel⟩

theorem test_wit_MebaridPortsAndColdStart_3 : ∃ (ch : Chan) (p : Fin 4) (s : State), (s.domainUp 3 = true) ∧ (s.fld
  (portKey (chanNum ch) p) 1 0 = 1) :=
  ⟨.a, 0, upWith [(portKey 0 0, 1)], by decide⟩

theorem test_wit_MebaridPortsAndColdStart_4 : ∃ (ch : Chan) (p : Fin 4) (s : State), (s.domainUp 3 = true) ∧ (s.fld
  (portKey (chanNum ch) p) 1 0 < 2) ∧ (s.clockGood (10 + 4 * chanNum ch + p) = true) :=
  ⟨.a, 0, { up with rst := { up.rst with clkAt := up.rst.clkAt.set 10 (some 0) } }, by decide⟩

theorem test_wit_MebaridPortsAndColdStart_5 : ∃ (ch : Chan) (p : Fin 4) (s : State), (s.domainUp 3 = true) ∧ (s.clockGood
  (10 + 4 * chanNum ch + p) = false ∨ 2 ≤ s.fld (portKey (chanNum ch) p) 1 0) :=
  ⟨.a, 0, up, by decide⟩

set_option maxRecDepth 100000 in
theorem test_wit_MebaridPortsAndColdStart_6 : ∃ (ch : Chan) (ports : BitVec 4) (p : Fin 4) (s : State), (s.domainUp 3 =
  true) ∧ (ports.getLsbD p = true) ∧ (s.portBorne (chanNum ch) p = false) :=
  ⟨.a, 8, 3, portsUp, by decide +kernel⟩

theorem test_wit_MebaridPortsAndColdStart_7 : ∃ (ch : Chan) (ports : BitVec 4) (p : Fin 4) (s : State), (s.domainUp 3 =
  true) ∧ (ports.getLsbD p = true) ∧ (s.portBorne (chanNum ch) p = true) :=
  ⟨.a, 8, 3, withRegs [(Reg.rstDom, 0x3FF), (portKey 0 3, 3)], by decide⟩

theorem test_wit_MebaridPortsAndColdStart_8 : ∃ (s : State), (s.domainUp 3 = true) :=
  ⟨up, by decide⟩

set_option maxRecDepth 100000 in
theorem test_wit_MebaridPortsAndColdStart_9 : ∃ (s : State), (s.domainUp 3 = true) ∧ (s.coldEligible = true) ∧ (s.cold ≠ 1
  ∧ s.cold ≠ 2) ∧ (searchStep s.time.search = none) :=
  ⟨coldUp 0, by decide +kernel⟩

set_option maxRecDepth 100000 in
theorem test_wit_MebaridPortsAndColdStart_10 : ∃ (s : State), (s.domainUp 3 = true) ∧ (s.coldEligible = true) ∧ (s.cold =
  1) ∧ (s.coldEdge.1.fld Reg.mbCold 15 8 ≤ s.coldEdge.1.coldEnded s.coldEdge.2) ∧ (s.fld Reg.timCtrl 1 0 ≠ 1) :=
  ⟨coldUp 1, by decide +kernel⟩

set_option maxRecDepth 100000 in
theorem test_wit_MebaridPortsAndColdStart_11 : ∃ (s : State), (s.domainUp 3 = true) ∧ (s.coldEligible = true) ∧ (s.cold =
  1) ∧ (s.coldEdge.1.fld Reg.mbCold 15 8 ≤ s.coldEdge.1.coldEnded s.coldEdge.2) ∧ (s.fld Reg.timCtrl 1 0 = 1) ∧
  (s.time.extFresh = true) :=
  ⟨{ (coldUp 1).setReg Reg.timCtrl 1 with time := { (coldUp 1).time with extFresh := true } }, by decide +kernel⟩

set_option maxRecDepth 100000 in
theorem test_wit_MebaridPortsAndColdStart_12 : ∃ (s : State), (s.domainUp 3 = true) ∧ (s.cold = 2) ∧ (s.net.usable = false)
  ∧ (s.net.ending = true) ∧ (s.coldEdge.2 = true → s.net.fresh = false) :=
  ⟨{ coldUp 2 with net := { (coldUp 2).net with ending := true } }, by decide +kernel⟩

set_option maxRecDepth 100000 in
theorem test_wit_MebaridPortsAndColdStart_13 : ∃ (s : State), (s.domainUp 3 = true) ∧ (s.cold = 2) ∧ (s.net.usable = true)
  ∧ (1 ≤ s.net.rounds + s.coldEdge.1.coldEnded s.coldEdge.2) :=
  ⟨{ coldUp 2 with net := { (coldUp 2).net with usable := true, rounds := 1 } }, by decide +kernel⟩

theorem test_wit_PairCommands_1 : ∃ (s : State), (s.domainUp 2 = true) ∧ (s.state = .boot) :=
  ⟨up, by decide⟩

theorem test_wit_PairCommands_2 : ∃ (s : State), (s.domainUp 2 = true) ∧ (s.state ≠ .boot) :=
  ⟨{ up with state := .leader }, by decide⟩

set_option maxRecDepth 100000 in
theorem test_wit_PairCommands_3 : ∃ (s : State), (s.domainUp 2 = true) ∧ (s.mayCastle = true) :=
  ⟨leadUp 2, by decide +kernel⟩

theorem test_wit_PairCommands_4 : ∃ (s : State), (s.domainUp 2 = true) ∧ (s.mayCastle = false) :=
  ⟨up, by decide⟩

set_option maxRecDepth 100000 in
theorem test_wit_PairCommands_5 : ∃ (s : State), (s.domainUp 2 = true) ∧ (s.mayStandDown = true) :=
  ⟨leadUp 2, by decide +kernel⟩

theorem test_wit_PairCommands_6 : ∃ (s : State), (s.domainUp 2 = true) ∧ (s.mayStandDown = false) :=
  ⟨up, by decide⟩

theorem test_wit_PairCommands_7 : ∃ (s : State), (s.domainUp 2 = true) ∧ (s.state = .boot) ∧ (s.heldInBoot = false) ∧
  ((leAt s.option 0x0D 1).testBit 0 = true) ∧ (s.svcKey = true) :=
  ⟨{ upWith [(Reg.sysSlot, 0x10)] with option := up.option.set 0x0D 1 }, by decide⟩

theorem test_wit_PairCommands_8 : ∃ (s : State), (s.domainUp 2 = true) ∧ (s.heldInBoot = true ∨ (leAt s.option 0x0D
  1).testBit 0 = false ∨ s.svcKey = false) :=
  ⟨up, by decide⟩

theorem test_wit_PairCommands_9 : ∃ (s : State), (s.domainUp 2 = true) ∧ (s.state = .joining) :=
  ⟨{ up with state := .joining }, by decide⟩

theorem test_wit_PairCommands_10 : ∃ (s : State), (s.domainUp 2 = true) ∧ (s.state ≠ .joining) :=
  ⟨up, by decide⟩

set_option maxRecDepth 100000 in
theorem test_wit_PairCommands_11 : ∃ (s : State), (s.domainUp 2 = true) ∧ (s.state = .leader) ∧ (s.linkUp = true) ∧
  (s.partnerState = 5) :=
  ⟨leadUp 5, by decide +kernel⟩

theorem test_wit_PairCommands_12 : ∃ (s : State), (s.domainUp 2 = true) ∧ (¬ (s.state = .leader ∧ s.linkUp = true ∧
  s.partnerState = 5)) :=
  ⟨up, by decide⟩

set_option maxRecDepth 100000 in
theorem test_wit_LeadAndJoin_1 : ∃ (s : State), (s.leadReady = true) :=
  ⟨readyUp, by decide +kernel⟩

theorem test_wit_LeadAndJoin_2 : ∃ (s : State), (s.joinReady = true) :=
  ⟨readyJoin, by decide⟩

theorem test_wit_LeadAndJoin_3 : ∃ (s : State), (bit (s.reg Reg.ilkStat) 0 = true) ∧ (s.handingOff = false) :=
  ⟨upWith [(Reg.ilkStat, 1)], by decide⟩

theorem test_wit_LeadAndJoin_4 : ∃ (s : State), (s.partnerLive = false) ∧ (s.domainUp 2 = true) ∧ (s.state = .follower ∨
  s.state = .mute) :=
  ⟨{ up with state := .follower }, by decide⟩

theorem test_wit_LeadAndJoin_5 : ∃ (s : State), (s.partnerLive = false) ∧ (s.domainUp 2 = true) ∧ (s.state = .joining) :=
  ⟨{ up with state := .joining }, by decide⟩

theorem test_wit_LeadAndJoin_6 : ∃ (v : Bool) (s : State), (s.partnerLive = !v) ∧ (s.domainUp 0 = true) ∧ (v = false) :=
  ⟨false, upWith [(Reg.ilkStat, 4)], by decide⟩

theorem test_wit_LeadAndJoin_7 : ∃ (v : Bool) (s : State), (s.partnerLive = !v) ∧ (s.domainUp 0 = true) ∧ (v = true ∧
  s.domainUp 2 = true ∧ s.state = .follower ∧ s.linkUp = false) :=
  ⟨true, { up with state := .follower }, by decide⟩

theorem test_wit_LeadAndJoin_8 : ∃ (s : State), (bit (s.reg Reg.ilkStat) 0 = true) ∧ (s.state = .leader) ∧ (s.isB = true ∧
  s.partnerLive = true) :=
  ⟨{ upWith [(Reg.ilkStat, 5), (Reg.sysSlot, 1)] with state := .leader }, by decide⟩

theorem test_wit_LeadAndJoin_9 : ∃ (s : State), (bit (s.reg Reg.ilkStat) 0 = true) ∧ (s.isB = true) ∧ (s.partnerLive =
  true) :=
  ⟨{ upWith [(Reg.ilkStat, 5), (Reg.sysSlot, 1)] with state := .leader }, by decide⟩

set_option maxRecDepth 100000 in
theorem test_wit_LeadAndJoin_10 : ∃ (c : Nat) (b : Bool) (l : List (Nat × Bool)) (s : State), (s.sdPend = (c, b) :: l) ∧
  (s.mayStandDown = true) ∧ (s.atBoundary.partnerCarries = true) :=
  ⟨2, true, [], { leadUp 2 with sdPend := [(2, true)] }, by decide +kernel⟩

set_option maxRecDepth 100000 in
theorem test_wit_LeadAndJoin_11 : ∃ (c : Nat) (s : State), (s.sdPend = [(c, false)]) ∧ (s.mayStandDown = true) ∧
  (s.atBoundary.partnerCarries = false) :=
  ⟨2, { leadUp 3 with sdPend := [(2, false)] }, by decide +kernel⟩

theorem test_wit_Dunly_1 : ∃ (c : Instr) (lane : Fin 4) (msg : Bytes) (s : State), (s.domainUp 3 = true) ∧ (dunlyOk msg =
  false) ∧ (c ∈ [Instr.healthMsgRx lane msg, .digestMsgRx lane msg, .checkMsgRx lane msg, .chgProposeRx lane msg,
  .chgAcceptRx lane msg, .chgRefuseRx lane msg, .chgCommitRx lane msg, .chgCancelRx lane msg, .castleOfferRx lane msg,
  .castleTakeRx lane msg, .castleCancelRx lane msg, .grantMsgRx lane msg, .hostwRx lane msg, .fiolRx lane msg, .resetReqRx
  lane msg, .fwdRx lane msg, .joincRequestRx lane msg, .joincWaitRx lane msg, .joincStartRx lane msg, .joincCloseRx lane
  msg, .joincDoneRx lane msg, .joincAbortRx lane msg, .joincRefuseRx lane msg, .xferRx lane msg]) :=
  ⟨.fwdRx 0 [], 0, [], up, by decide⟩

set_option maxRecDepth 100000 in
theorem test_wit_Dunly_2 : ∃ (lane : Fin 4) (msg : Bytes) (s : State), (s.gets 1 msg) ∧ (leAt (dunlyBody msg) 0xFC 4 =
  (crc32c ((dunlyBody msg).take 0xFC)).toNat) ∧ (s.state ≠ .follower ∧ s.state ≠ .joining) :=
  ⟨0, dmsg 1 (zeros 252 ++ toLe 4 (crc32c (zeros 252)).toNat), up, by decide +kernel⟩

set_option maxRecDepth 100000 in
theorem test_wit_Dunly_3 : ∃ (lane : Fin 4) (msg : Bytes) (s : State), (s.gets 2 msg) :=
  ⟨1, dmsg 2 (zeros 16), up, by decide +kernel⟩

set_option maxRecDepth 100000 in
theorem test_wit_Dunly_4 : ∃ (lane : Fin 4) (msg : Bytes) (s : State), (s.gets 5 msg) ∧ (s.state ≠ .leader) ∧ ((parseGrant
  (dunlyBody msg)).node ≠ 0) :=
  ⟨0, dmsg 5 ([5, 0, 7] ++ zeros 13), up, by decide +kernel⟩

set_option maxRecDepth 100000 in
theorem test_wit_Dunly_5 : ∃ (lane : Fin 4) (msg : Bytes) (s : State), (s.gets 5 msg) ∧ (s.state ≠ .leader) ∧ ((parseGrant
  (dunlyBody msg)).node = 0) :=
  ⟨0, dmsg 5 (zeros 16), up, by decide +kernel⟩

set_option maxRecDepth 100000 in
theorem test_wit_Dunly_6 : ∃ (lane : Fin 4) (msg : Bytes) (s : State), (s.gets 6 msg) ∧ (s.state = .follower ∨ s.state =
  .joining) :=
  ⟨0, dmsg 6 (zeros 8 ++ [1] ++ zeros 11), { up with state := .follower }, by decide +kernel⟩

set_option maxRecDepth 100000 in
theorem test_wit_Dunly_7 : ∃ (e : Entry) (lane : Fin 4) (msg : Bytes) (s : State), (s.gets 7 msg) ∧ ((s.track .f)[leAt
  (dunlyBody msg) 0 4]? = some e) ∧ (s.takesLatches = true) ∧ (e.channels ≠ 0) :=
  ⟨⟨5 + 100 * 16, 0, 1, 0⟩, 0, dmsg 7 (zeros 12), { boardUp with state := .follower }, by decide +kernel⟩

set_option maxRecDepth 100000 in
theorem test_wit_Dunly_8 : ∃ (lane : Fin 4) (msg : Bytes) (s : State), (s.gets 10 msg) ∧ (s.state = .stoodDown) ∧
  (s.partnerLive = true) :=
  ⟨0, dmsg 10 (zeros 4), { upWith [(Reg.ilkStat, 4)] with state := .stoodDown }, by decide +kernel⟩

set_option maxRecDepth 100000 in
theorem test_wit_Dunly_9 : ∃ (lane : Fin 4) (msg : Bytes) (s : State), (s.gets 10 msg) ∧ (s.state ≠ .stoodDown) :=
  ⟨0, dmsg 10 (zeros 4), up, by decide +kernel⟩

set_option maxRecDepth 100000 in
theorem test_wit_Dunly_10 : ∃ (tb : Tables) (r : SlotRec) (y : SlotRun) (lane : Fin 4) (msg : Bytes) (s : State), (s.gets
  11 msg) ∧ ((dunlyBody msg).length / 32 = 1) ∧ (s.boards.act = some tb) ∧ (tb.slotRec (splitForward (dunlyBody msg)).1 =
  some r) ∧ (s.net.slots.find? (fun y => y.slot == (splitForward (dunlyBody msg)).1 && y.pip == BitVec.ofNat 32 (beAt
  (splitForward (dunlyBody msg)).2.2.1.header 16 4)) = some y) ∧ (s.landable r y.rsn = true) :=
  ⟨{ tab with slots := [⟨5, 10, 5, 0, 0, 0, 8, 0⟩] }, ⟨5, 10, 5, 0, 0, 0, 8, 0⟩, theRun, 2, dmsg 11 (toLe 2 5 ++ zeros 22
    ++ [0, 0, 0, 100] ++ zeros 4),
    { slotUp with boards := { slotUp.boards with act := some { tab with slots := [⟨5, 10, 5, 0, 0, 0, 8, 0⟩] } } },
    by decide +kernel⟩

set_option maxRecDepth 100000 in
theorem test_wit_Dunly_11 : ∃ (x : Nat × Instr) (lane : Fin 4) (msg : Bytes) (s : State), (s.domainUp 3 = true) ∧ (dunlyOk
  msg = true) ∧ (x ∈ [((1 : Nat), Instr.healthMsgRx lane msg), (2, .digestMsgRx lane msg), (8, .checkMsgRx lane msg), (3,
  .chgProposeRx lane msg), (3, .chgAcceptRx lane msg), (3, .chgRefuseRx lane msg), (3, .chgCommitRx lane msg), (3,
  .chgCancelRx lane msg), (4, .castleOfferRx lane msg), (4, .castleTakeRx lane msg), (4, .castleCancelRx lane msg), (5,
  .grantMsgRx lane msg), (6, .hostwRx lane msg), (7, .fiolRx lane msg), (10, .resetReqRx lane msg), (11, .fwdRx lane msg),
  (9, .joincRequestRx lane msg), (9, .joincWaitRx lane msg), (9, .joincStartRx lane msg), (9, .joincCloseRx lane msg), (9,
  .joincDoneRx lane msg), (9, .joincAbortRx lane msg), (9, .joincRefuseRx lane msg), (12, .xferRx lane msg)]) ∧ (beAt msg
  15 1 ≠ x.1) :=
  ⟨(12, .xferRx 0 (dmsg 1 (zeros 256))), 0, dmsg 1 (zeros 256), up, by decide +kernel⟩

theorem test_wit_Dunly_12 : ∃ (s : State), (s.domainUp 3 = true) ∧ (s.linkUp = false) ∧ (2 ≤ s.pair.goodRun) ∧ (s.clockGood
  5 = true) ∧ (s.fld Reg.dxlState 4 1 = 15) ∧ (s.state = .mute) :=
  ⟨linkReady .mute, by decide⟩

theorem test_wit_Dunly_13 : ∃ (s : State), (s.domainUp 3 = true) ∧ (s.linkUp = false) ∧ (2 ≤ s.pair.goodRun) ∧ (s.clockGood
  5 = true) ∧ (s.fld Reg.dxlState 4 1 = 15) ∧ (s.state = .leader) :=
  ⟨linkReady .leader, by decide⟩

theorem test_wit_Dunly_14 : ∃ (s : State), (s.domainUp 3 = true) ∧ (s.linkUp = true ∨ s.pair.goodRun < 2 ∨ s.clockGood 5 =
  false ∨ s.fld Reg.dxlState 4 1 ≠ 15) :=
  ⟨up, by decide⟩

theorem test_wit_Dunly_15 : ∃ (m : BitVec 4) (h : Bool) (s : State), (s.linkUp = true) ∧ (h = true ∨ m ≠ 0 ∨ s.clockGood 5
  = false) ∧ (s.state = .follower ∧ s.partnerLive = true) :=
  ⟨0, true, { upWith [(Reg.dxlState, 31), (Reg.ilkStat, 4)] with state := .follower }, by decide⟩

set_option maxRecDepth 100000 in
theorem test_wit_Dunly_16 : ∃ (m : BitVec 4) (h : Bool) (s : State), (s.linkUp = true) ∧ (h = true ∨ m ≠ 0 ∨ s.clockGood 5
  = false) ∧ (s.state = .leader) :=
  ⟨0, true, leadUp 2, by decide +kernel⟩

theorem test_wit_Dunly_17 : ∃ (m : BitVec 4) (h : Bool) (s : State), (s.linkUp = true) ∧ (h = false) ∧ (m = 0) ∧
  (s.clockGood 5 = true) :=
  ⟨0, false, { (linkReady .leader).setReg Reg.dxlState 31 with pending := [] }, by decide⟩

theorem test_wit_Dunly_18 : ∃ (m : BitVec 4) (h : Bool) (s : State), (s.linkUp = false) ∧ (s.domainUp 3 = true) :=
  ⟨3, true, up, by decide⟩

set_option maxRecDepth 100000 in
theorem test_wit_Castling_1 : ∃ (lane : Fin 4) (msg : Bytes) (s : State), (s.gets 4 msg) ∧ (leAt (dunlyBody msg) 0 1 = 1) ∧
  (s.state = .follower) ∧ (s.time.state = .synced) :=
  ⟨0, dmsg 4 ([1] ++ zeros 7), { up with state := .follower, time := { up.time with state := .synced } },
    by decide +kernel⟩

set_option maxRecDepth 100000 in
theorem test_wit_Castling_2 : ∃ (x : CastleRun) (lane : Fin 4) (msg : Bytes) (s : State), (s.gets 4 msg) ∧ (leAt (dunlyBody
  msg) 0 1 = 2) ∧ (s.state = .leader) ∧ (s.pair.castle = some x) ∧ (leAt (dunlyBody msg) 4 4 = x.c.toNat) :=
  ⟨⟨0, false⟩, 0, dmsg 4 ([2] ++ zeros 7), castleUp .leader false, by decide +kernel⟩

set_option maxRecDepth 100000 in
theorem test_wit_Castling_3 : ∃ (lane : Fin 4) (msg : Bytes) (s : State), (s.gets 4 msg) ∧ (leAt (dunlyBody msg) 0 1 = 3)
  :=
  ⟨0, dmsg 4 ([3] ++ zeros 7), castleUp .leader false, by decide +kernel⟩

set_option maxRecDepth 100000 in
theorem test_wit_Castling_4 : ∃ (x : CastleRun) (s : State), (s.pair.castle = some x) ∧ (s.state = .leader) ∧ (x.take =
  false) ∧ (later (x.c - 2) s.atBoundary.rsn = false) :=
  ⟨⟨0, false⟩, castleUp .leader false, by decide +kernel⟩

set_option maxRecDepth 100000 in
theorem test_wit_Castling_5 : ∃ (x : CastleRun) (s : State), (s.pair.castle = some x) ∧ (s.state = .leader) ∧ (x.take =
  true) ∧ (s.atBoundary.rsn = x.c + 1) :=
  ⟨⟨0, true⟩, castleUp .leader true, by decide +kernel⟩

set_option maxRecDepth 100000 in
theorem test_wit_Castling_6 : ∃ (x : CastleRun) (u s : State), (s.pair.castle = some x) ∧ (s.state = .follower) ∧ (bit
  (s.reg Reg.ilkStat) 3 = true) ∧ (s.partnerLive = false) ∧ (u = (if s.rsn = x.c ∧ s.pipInRound < 4000 then s.toPip 4000
  else s)) ∧ (u.endCastle.driveLine.atBoundary.rsn = x.c + 1) :=
  ⟨⟨0, true⟩, ((castleUp .follower true).setReg Reg.ilkStat 8).toPip 4000, (castleUp .follower true).setReg Reg.ilkStat 8,
    by decide +kernel⟩

set_option maxRecDepth 100000 in
theorem test_wit_PairChecks_1 : ∃ (i : Nat) (e : Entry) (own d : DigRec) (s : State), ((s.track .f)[i]? = some e) ∧
  (s.pair.digOwn.find? (fun d => d.task == e.task.val && d.rsn == (if 5000 ≤ e.start + 8 then s.roundRsn - 1 else
  s.roundRsn)) = some own) ∧ (s.pair.digPart.find? (fun d => d.task == e.task.val && d.rsn == own.rsn) = some d) ∧
  (s.coExecuting = true) ∧ (s.linkUp = true) ∧ (d.dig = own.dig) :=
  ⟨0, ⟨5 + 100 * 16, 0, 1, 0⟩, ⟨0, 0, 5⟩, ⟨0, 0, 5⟩, digUp 5 5, by decide +kernel⟩

set_option maxRecDepth 100000 in
theorem test_wit_PairChecks_2 : ∃ (i : Nat) (e : Entry) (own d : DigRec) (s : State), ((s.track .f)[i]? = some e) ∧
  (s.pair.digOwn.find? (fun d => d.task == e.task.val && d.rsn == (if 5000 ≤ e.start + 8 then s.roundRsn - 1 else
  s.roundRsn)) = some own) ∧ (s.pair.digPart.find? (fun d => d.task == e.task.val && d.rsn == own.rsn) = some d) ∧
  (s.coExecuting = true) ∧ (s.linkUp = true) ∧ (d.dig ≠ own.dig) :=
  ⟨0, ⟨5 + 100 * 16, 0, 1, 0⟩, ⟨0, 0, 5⟩, ⟨0, 0, 6⟩, digUp 5 6, by decide +kernel⟩

set_option maxRecDepth 100000 in
theorem test_wit_PairChecks_3 : ∃ (i : Nat) (e : Entry) (own : DigRec) (s : State), ((s.track .f)[i]? = some e) ∧
  (s.pair.digOwn.find? (fun d => d.task == e.task.val && d.rsn == (if 5000 ≤ e.start + 8 then s.roundRsn - 1 else
  s.roundRsn)) = some own) ∧ (s.pair.digPart.find? (fun d => d.task == e.task.val && d.rsn == own.rsn) = none) ∧
  (s.coExecuting = true) ∧ (s.linkUp = true) :=
  ⟨0, ⟨5 + 100 * 16, 0, 1, 0⟩, ⟨0, 0, 5⟩, { digUp 5 5 with pair := { (digUp 5 5).pair with digPart := [] } },
    by decide +kernel⟩

theorem test_wit_PairChecks_4 : ∃ (c : CheckRun) (g : Bool) (u s : State), (s.pair.check = some c) ∧ (c.own = none) ∧
  (c.partner = none) ∧ (u = s.atBoundary) ∧ ((List.finRange 16).all (fun n => u.lanes[n].rolls == 0) = true ∨ 1280 ≤ (u.rsn
  - c.start).toInt) :=
  ⟨⟨0xFFFF0000, 0, none, none⟩, true,
    { up with pair := { up.pair with check := some ⟨0xFFFF0000, 0, none, none⟩ } }.atBoundary,
    { up with pair := { up.pair with check := some ⟨0xFFFF0000, 0, none, none⟩ } }, by decide⟩

set_option maxRecDepth 100000 in
theorem test_wit_PairChecks_5 : ∃ (c : CheckRun) (lane : Fin 4) (msg : Bytes) (s : State), (s.gets 8 msg) ∧ (s.pair.check =
  some c) ∧ (c.own = none) ∧ (leAt (dunlyBody msg) 4 4 = c.start.toNat) :=
  ⟨⟨0, 0, none, none⟩, 0, dmsg 8 (zeros 8), { up with pair := { up.pair with check := some ⟨0, 0, none, none⟩ } },
    by decide +kernel⟩

set_option maxRecDepth 100000 in
theorem test_wit_PairChecks_6 : ∃ (c : CheckRun) (g p : Bool) (u s : State), (s.pair.check = some c) ∧ (c.own = none) ∧
  (c.partner = some p) ∧ (u = s.atBoundary) ∧ ((List.finRange 16).all (fun n => u.lanes[n].rolls == 0) = true ∨ 1280 ≤
  (u.rsn - c.start).toInt) ∧ (s.state = .leader) ∧ (g = true) ∧ (p = true) :=
  ⟨⟨0xFFFF0000, 0, none, some true⟩, true, true, (checkUp .leader none (some true)).atBoundary, checkUp .leader none (some
    true), by decide +kernel⟩

set_option maxRecDepth 100000 in
theorem test_wit_PairChecks_7 : ∃ (c : CheckRun) (g p : Bool) (u s : State), (s.pair.check = some c) ∧ (c.own = none) ∧
  (c.partner = some p) ∧ (u = s.atBoundary) ∧ ((List.finRange 16).all (fun n => u.lanes[n].rolls == 0) = true ∨ 1280 ≤
  (u.rsn - c.start).toInt) ∧ (s.state = .leader) ∧ (g = true) ∧ (p = false) :=
  ⟨⟨0xFFFF0000, 0, none, some false⟩, true, false, (checkUp .leader none (some false)).atBoundary, checkUp .leader none
    (some false), by decide +kernel⟩

set_option maxRecDepth 100000 in
theorem test_wit_PairChecks_8 : ∃ (c : CheckRun) (g p : Bool) (u s : State), (s.pair.check = some c) ∧ (c.own = none) ∧
  (c.partner = some p) ∧ (u = s.atBoundary) ∧ ((List.finRange 16).all (fun n => u.lanes[n].rolls == 0) = true ∨ 1280 ≤
  (u.rsn - c.start).toInt) ∧ (s.state = .leader) ∧ (g = false) ∧ (p = true) :=
  ⟨⟨0xFFFF0000, 0, none, some true⟩, false, true, (checkUp .leader none (some true)).atBoundary, checkUp .leader none (some
    true), by decide +kernel⟩

set_option maxRecDepth 100000 in
theorem test_wit_PairChecks_9 : ∃ (c : CheckRun) (g p : Bool) (u s : State), (s.pair.check = some c) ∧ (c.own = none) ∧
  (c.partner = some p) ∧ (u = s.atBoundary) ∧ ((List.finRange 16).all (fun n => u.lanes[n].rolls == 0) = true ∨ 1280 ≤
  (u.rsn - c.start).toInt) ∧ (s.state = .leader) ∧ (g = false) ∧ (p = false) :=
  ⟨⟨0xFFFF0000, 0, none, some false⟩, false, false, (checkUp .leader none (some false)).atBoundary, checkUp .leader none
    (some false), by decide +kernel⟩

set_option maxRecDepth 100000 in
theorem test_wit_PairChecks_10 : ∃ (c : CheckRun) (g p : Bool) (u s : State), (s.pair.check = some c) ∧ (c.own = none) ∧
  (c.partner = some p) ∧ (u = s.atBoundary) ∧ ((List.finRange 16).all (fun n => u.lanes[n].rolls == 0) = true ∨ 1280 ≤
  (u.rsn - c.start).toInt) ∧ (s.state = .follower) ∧ (g = true) ∧ (p = true) :=
  ⟨⟨0xFFFF0000, 0, none, some true⟩, true, true, (checkUp .follower none (some true)).atBoundary, checkUp .follower none
    (some true), by decide +kernel⟩

set_option maxRecDepth 100000 in
theorem test_wit_PairChecks_11 : ∃ (c : CheckRun) (g p : Bool) (u s : State), (s.pair.check = some c) ∧ (c.own = none) ∧
  (c.partner = some p) ∧ (u = s.atBoundary) ∧ ((List.finRange 16).all (fun n => u.lanes[n].rolls == 0) = true ∨ 1280 ≤
  (u.rsn - c.start).toInt) ∧ (s.state = .follower) ∧ (g = true) ∧ (p = false) :=
  ⟨⟨0xFFFF0000, 0, none, some false⟩, true, false, (checkUp .follower none (some false)).atBoundary, checkUp .follower none
    (some false), by decide +kernel⟩

set_option maxRecDepth 100000 in
theorem test_wit_PairChecks_12 : ∃ (c : CheckRun) (g p : Bool) (u s : State), (s.pair.check = some c) ∧ (c.own = none) ∧
  (c.partner = some p) ∧ (u = s.atBoundary) ∧ ((List.finRange 16).all (fun n => u.lanes[n].rolls == 0) = true ∨ 1280 ≤
  (u.rsn - c.start).toInt) ∧ (s.state = .follower) ∧ (g = false) ∧ (p = true) :=
  ⟨⟨0xFFFF0000, 0, none, some true⟩, false, true, (checkUp .follower none (some true)).atBoundary, checkUp .follower none
    (some true), by decide +kernel⟩

set_option maxRecDepth 100000 in
theorem test_wit_PairChecks_13 : ∃ (c : CheckRun) (g p : Bool) (u s : State), (s.pair.check = some c) ∧ (c.own = none) ∧
  (c.partner = some p) ∧ (u = s.atBoundary) ∧ ((List.finRange 16).all (fun n => u.lanes[n].rolls == 0) = true ∨ 1280 ≤
  (u.rsn - c.start).toInt) ∧ (s.state = .follower) ∧ (g = false) ∧ (p = false) :=
  ⟨⟨0xFFFF0000, 0, none, some false⟩, false, false, (checkUp .follower none (some false)).atBoundary, checkUp .follower
    none (some false), by decide +kernel⟩

set_option maxRecDepth 100000 in
theorem test_wit_PairChecks_14 : ∃ (c : CheckRun) (k : Nat) (p : Bool) (lane : Fin 4) (msg : Bytes) (s : State), (s.gets 8
  msg) ∧ (s.pair.check = some c) ∧ (c.own = some k) ∧ (leAt (dunlyBody msg) 4 4 = c.start.toNat) ∧ (p = (leAt (dunlyBody
  msg) 0 1 == 1)) ∧ (s.state = .leader) ∧ (k = 0) ∧ (p = true) :=
  ⟨⟨0xFFFF0000, 0, some 0, none⟩, 0, true, 0, dmsg 8 ([1, 0, 0, 0] ++ toLe 4 0xFFFF0000), checkUp .leader (some 0) none,
    by decide +kernel⟩

set_option maxRecDepth 100000 in
theorem test_wit_PairChecks_15 : ∃ (c : CheckRun) (k : Nat) (p : Bool) (lane : Fin 4) (msg : Bytes) (s : State), (s.gets 8
  msg) ∧ (s.pair.check = some c) ∧ (c.own = some k) ∧ (leAt (dunlyBody msg) 4 4 = c.start.toNat) ∧ (p = (leAt (dunlyBody
  msg) 0 1 == 1)) ∧ (s.state = .leader) ∧ (k = 0) ∧ (p = false) :=
  ⟨⟨0xFFFF0000, 0, some 0, none⟩, 0, false, 0, dmsg 8 ([2, 0, 0, 0] ++ toLe 4 0xFFFF0000), checkUp .leader (some 0) none,
    by decide +kernel⟩

set_option maxRecDepth 100000 in
theorem test_wit_PairChecks_16 : ∃ (c : CheckRun) (k : Nat) (p : Bool) (lane : Fin 4) (msg : Bytes) (s : State), (s.gets 8
  msg) ∧ (s.pair.check = some c) ∧ (c.own = some k) ∧ (leAt (dunlyBody msg) 4 4 = c.start.toNat) ∧ (p = (leAt (dunlyBody
  msg) 0 1 == 1)) ∧ (s.state = .leader) ∧ (k = 2) ∧ (p = true) :=
  ⟨⟨0xFFFF0000, 0, some 2, none⟩, 2, true, 0, dmsg 8 ([1, 0, 0, 0] ++ toLe 4 0xFFFF0000), checkUp .leader (some 2) none,
    by decide +kernel⟩

set_option maxRecDepth 100000 in
theorem test_wit_PairChecks_17 : ∃ (c : CheckRun) (k : Nat) (p : Bool) (lane : Fin 4) (msg : Bytes) (s : State), (s.gets 8
  msg) ∧ (s.pair.check = some c) ∧ (c.own = some k) ∧ (leAt (dunlyBody msg) 4 4 = c.start.toNat) ∧ (p = (leAt (dunlyBody
  msg) 0 1 == 1)) ∧ (s.state = .leader) ∧ (k = 2) ∧ (p = false) :=
  ⟨⟨0xFFFF0000, 0, some 2, none⟩, 2, false, 0, dmsg 8 ([2, 0, 0, 0] ++ toLe 4 0xFFFF0000), checkUp .leader (some 2) none,
    by decide +kernel⟩

set_option maxRecDepth 100000 in
theorem test_wit_PairChecks_18 : ∃ (c : CheckRun) (k : Nat) (p : Bool) (lane : Fin 4) (msg : Bytes) (s : State), (s.gets 8
  msg) ∧ (s.pair.check = some c) ∧ (c.own = some k) ∧ (leAt (dunlyBody msg) 4 4 = c.start.toNat) ∧ (p = (leAt (dunlyBody
  msg) 0 1 == 1)) ∧ (s.state = .follower) ∧ (k = 0) ∧ (p = true) :=
  ⟨⟨0xFFFF0000, 0, some 0, none⟩, 0, true, 0, dmsg 8 ([1, 0, 0, 0] ++ toLe 4 0xFFFF0000), checkUp .follower (some 0) none,
    by decide +kernel⟩

set_option maxRecDepth 100000 in
theorem test_wit_PairChecks_19 : ∃ (c : CheckRun) (k : Nat) (p : Bool) (lane : Fin 4) (msg : Bytes) (s : State), (s.gets 8
  msg) ∧ (s.pair.check = some c) ∧ (c.own = some k) ∧ (leAt (dunlyBody msg) 4 4 = c.start.toNat) ∧ (p = (leAt (dunlyBody
  msg) 0 1 == 1)) ∧ (s.state = .follower) ∧ (k = 0) ∧ (p = false) :=
  ⟨⟨0xFFFF0000, 0, some 0, none⟩, 0, false, 0, dmsg 8 ([2, 0, 0, 0] ++ toLe 4 0xFFFF0000), checkUp .follower (some 0) none,
    by decide +kernel⟩

set_option maxRecDepth 100000 in
theorem test_wit_PairChecks_20 : ∃ (c : CheckRun) (k : Nat) (p : Bool) (lane : Fin 4) (msg : Bytes) (s : State), (s.gets 8
  msg) ∧ (s.pair.check = some c) ∧ (c.own = some k) ∧ (leAt (dunlyBody msg) 4 4 = c.start.toNat) ∧ (p = (leAt (dunlyBody
  msg) 0 1 == 1)) ∧ (s.state = .follower) ∧ (k = 2) ∧ (p = true) :=
  ⟨⟨0xFFFF0000, 0, some 2, none⟩, 2, true, 0, dmsg 8 ([1, 0, 0, 0] ++ toLe 4 0xFFFF0000), checkUp .follower (some 2) none,
    by decide +kernel⟩

set_option maxRecDepth 100000 in
theorem test_wit_PairChecks_21 : ∃ (c : CheckRun) (k : Nat) (p : Bool) (lane : Fin 4) (msg : Bytes) (s : State), (s.gets 8
  msg) ∧ (s.pair.check = some c) ∧ (c.own = some k) ∧ (leAt (dunlyBody msg) 4 4 = c.start.toNat) ∧ (p = (leAt (dunlyBody
  msg) 0 1 == 1)) ∧ (s.state = .follower) ∧ (k = 2) ∧ (p = false) :=
  ⟨⟨0xFFFF0000, 0, some 2, none⟩, 2, false, 0, dmsg 8 ([2, 0, 0, 0] ++ toLe 4 0xFFFF0000), checkUp .follower (some 2) none,
    by decide +kernel⟩

theorem test_wit_PairChecks_22 : ∃ (s : State), (s.pair.plant.any (fun w => !later w.eff s.atBoundary.rsn) = true) :=
  ⟨{ up with pair := { up.pair with plant := [⟨0, 0, [7]⟩] } }, by decide⟩

theorem test_wit_PairChecks_23 : ∃ (w : PlantWrite) (s : State), (s.pair.plant = [w]) ∧ (later w.eff s.atBoundary.rsn =
  false) ∧ (s.state = .leader ∨ s.state = .follower) :=
  ⟨⟨0, 0, [7]⟩, { up with state := .leader, pair := { up.pair with plant := [⟨0, 0, [7]⟩] } }, by decide⟩

set_option maxRecDepth 100000 in
theorem test_wit_Joining_1 : ∃ (lane : Fin 4) (msg : Bytes) (s : State), (s.gets 9 msg) ∧ (leAt (dunlyBody msg) 0 1 = 1) ∧
  (s.state = .leader) ∧ (s.joinWait ≠ 0) :=
  ⟨0, dmsg 9 ([1] ++ zeros 55), { leadUp 1 with migr := some (theMigr false) }, by decide +kernel⟩

set_option maxRecDepth 100000 in
theorem test_wit_Joining_2 : ∃ (lane : Fin 4) (msg : Bytes) (s : State), (s.gets 9 msg) ∧ (leAt (dunlyBody msg) 0 1 = 1) ∧
  (s.state = .leader) ∧ (s.joinWait = 0 ∧ slice (dunlyBody msg) 8 48 ≠ s.activeId) :=
  ⟨0, dmsg 9 ([1] ++ zeros 54 ++ [9]), leadUp 1, by decide +kernel⟩

set_option maxRecDepth 100000 in
theorem test_wit_Joining_3 : ∃ (lane : Fin 4) (msg : Bytes) (s : State), (s.gets 9 msg) ∧ (leAt (dunlyBody msg) 0 1 = 1) ∧
  (s.state = .leader) ∧ (s.joinWait = 0 ∧ slice (dunlyBody msg) 8 48 = s.activeId) :=
  ⟨0, dmsg 9 ([1] ++ zeros 55), leadUp 1, by decide +kernel⟩

set_option maxRecDepth 100000 in
theorem test_wit_Joining_4 : ∃ (lane : Fin 4) (msg : Bytes) (s : State), (s.gets 9 msg) ∧ (leAt (dunlyBody msg) 0 1 = 2) ∧
  (s.state = .joining) :=
  ⟨0, dmsg 9 ([2, 4] ++ zeros 54), joinUp 1, by decide +kernel⟩

set_option maxRecDepth 100000 in
theorem test_wit_Joining_5 : ∃ (lane : Fin 4) (msg : Bytes) (s : State), (s.gets 9 msg) ∧ (leAt (dunlyBody msg) 0 1 = 3) ∧
  (s.state = .joining) :=
  ⟨0, dmsg 9 ([3] ++ zeros 55), joinUp 1, by decide +kernel⟩

set_option maxRecDepth 100000 in
theorem test_wit_Joining_6 : ∃ (lane : Fin 4) (msg : Bytes) (s : State), (s.gets 9 msg) ∧ (leAt (dunlyBody msg) 0 1 = 4) ∧
  (s.state = .joining) :=
  ⟨0, dmsg 9 ([4] ++ zeros 55), joinUp 4, by decide +kernel⟩

set_option maxRecDepth 100000 in
theorem test_wit_Joining_7 : ∃ (lane : Fin 4) (msg : Bytes) (s : State), (s.gets 9 msg) ∧ (leAt (dunlyBody msg) 0 1 = 5) ∧
  (s.state = .joining) ∧ (s.pair.joinDone = true) :=
  ⟨0, dmsg 9 ([5] ++ zeros 55), { joinUp 6 with pair := { up.pair with joinDone := true } }, by decide +kernel⟩

set_option maxRecDepth 100000 in
theorem test_wit_Joining_8 : ∃ (lane : Fin 4) (msg : Bytes) (s : State), (s.gets 9 msg) ∧ (leAt (dunlyBody msg) 0 1 = 6) ∧
  (s.state = .joining) ∧ (leAt (dunlyBody msg) 1 1 ≠ 1) :=
  ⟨0, dmsg 9 ([6, 3] ++ zeros 54), joinUp 5, by decide +kernel⟩

set_option maxRecDepth 100000 in
theorem test_wit_Joining_9 : ∃ (lane : Fin 4) (msg : Bytes) (s : State), (s.gets 9 msg) ∧ (leAt (dunlyBody msg) 0 1 = 6) ∧
  (s.state = .joining) ∧ (leAt (dunlyBody msg) 1 1 = 1) :=
  ⟨0, dmsg 9 ([6, 1] ++ zeros 54), joinUp 1, by decide +kernel⟩

set_option maxRecDepth 100000 in
theorem test_wit_Joining_10 : ∃ (lane : Fin 4) (msg : Bytes) (s : State), (s.gets 12 msg) ∧ (s.state = .joining) ∧ (s.fld
  Reg.pairJoin 2 0 = 4 ∨ s.fld Reg.pairJoin 2 0 = 5) :=
  ⟨1, dmsg 12 (zeros 8), joinUp 4, by decide +kernel⟩

set_option maxRecDepth 100000 in
theorem test_wit_Joining_11 : ∃ (lane : Fin 4) (msg : Bytes) (s : State), (s.gets 12 msg) ∧ (s.state = .joining) ∧ (s.fld
  Reg.pairJoin 2 0 = 4 ∨ s.fld Reg.pairJoin 2 0 = 5) ∧ (leAt (dunlyBody msg) 0 1 = 2) ∧ (16384 ≤ leAt (dunlyBody msg) 4 4)
  ∧ ((dunlyBody msg).length = 8 + leAt (dunlyBody msg) 2 2) :=
  ⟨1, dmsg 12 ([2, 0, 16, 0, 0, 64, 0, 0] ++ zeros 16), joinUp 4, by decide +kernel⟩

set_option maxRecDepth 100000 in
theorem test_wit_Joining_12 : ∃ (x : XferRun) (s : State), (s.pair.xfer = some x) ∧ (x.tested = false) ∧ (s.lastRound =
  true) ∧ (unitsSize x.dirtyUnits + x.last ≤ s.budget) ∧ (unitsSize x.dirtyUnits + s.tablesSize ≤ s.budget) :=
  ⟨⟨0, 1, [], [], 0, 0, 0, false, false⟩,
    { leadUp 1 with boards := boardUp.boards, pair := { (leadUp 1).pair with xfer := some ⟨0, 1, [], [], 0, 0, 0,
    false, false⟩ } }, by decide +kernel⟩

set_option maxRecDepth 100000 in
theorem test_wit_Joining_13 : ∃ (x : XferRun) (s : State), (s.pair.xfer = some x) ∧ (x.tested = false) ∧ (s.lastRound =
  true) ∧ (unitsSize x.dirtyUnits + x.last ≤ s.budget) ∧ (s.budget < unitsSize x.dirtyUnits + s.tablesSize) :=
  ⟨⟨0, 1, [], (List.range 15).map (fun k => (0, k)), 0, 0, 0, false, false⟩, closeUp, by decide +kernel⟩

set_option maxRecDepth 100000 in
theorem test_wit_Joining_14 : ∃ (x : XferRun) (s : State), (s.pair.xfer = some x) ∧ (x.tested = false) ∧ (s.lastRound =
  true) ∧ (s.budget < unitsSize x.dirtyUnits + x.last) :=
  ⟨⟨0, 1, [], [], 0, 0, 0x200000, false, false⟩,
    { leadUp 1 with boards := boardUp.boards, pair := { (leadUp 1).pair with xfer := some ⟨0, 1, [], [], 0, 0, 0x200000,
    false, false⟩ } }, by decide +kernel⟩

set_option maxRecDepth 100000 in
theorem test_wit_Joining_15 : ∃ (s : State), (s.state = .joining) ∧ (s.pair.joinDone = true ∨ s.fld Reg.pairJoin 2 0 = 5) ∧
  (s.atBoundary.rsn.toNat % s.atBoundary.turnLen = 0) :=
  ⟨{ joinUp 6 with pair := { up.pair with joinDone := true } }, by decide +kernel⟩

set_option maxRecDepth 100000 in
theorem test_wit_Joining_16 : ∃ (s : State), (s.state = .joining) ∧ (s.fld Reg.pairJoin 2 0 = 4 ∨ s.fld Reg.pairJoin 2 0 =
  5) :=
  ⟨joinUp 4, by decide +kernel⟩

theorem test_wit_ResetSources_1 : ∃ (b reach : Nat) (level : Bool) (s : State), (b < 13) :=
  ⟨12, 0, true, up, by decide⟩

theorem test_wit_ResetSources_2 : ∃ (s : State), (s.stretching = false) :=
  ⟨{ up with opTime := 9 }, by decide⟩

theorem test_wit_ResetSources_3 : ∃ (s : State), (s.stretching = true) ∧ (bit (s.reg Reg.rstDom) 0 = false) :=
  ⟨{ withRegs [] with rst := { up.rst with running := true, on := 0 } }, by decide⟩

theorem test_wit_ResetSources_4 : ∃ (b : Nat) (s : State), (b < 13) :=
  ⟨12, up, by decide⟩

theorem test_wit_ResetSources_5 : ∃ (s : State), (s.rst.on.getLsbD 3 = true) :=
  ⟨{ up with rst := { up.rst with on := 8 } }, by decide⟩

theorem test_wit_ResetSources_6 : ∃ (i : Fin 20) (d : Nat) (s : State), (clockDomain i.val = some d) ∧ (d = 1 ∨ d = 2 ∨ d =
  3 ∨ d = 8) ∧ (s.domainUp d = true) :=
  ⟨3, 8, up, by decide⟩

theorem test_wit_ResetSources_7 : ∃ (s : State), (s.domainUp 8 = true) :=
  ⟨up, by decide⟩

theorem test_wit_ResetSources_8 : ∃ (v : Word) (s : State), (s.domainUp 0 = true) ∧ (bits v 31 16 = 0xD1CE) ∧ (bits v 1 0 =
  1 ∨ bits v 1 0 = 2) :=
  ⟨0xD1CE0001, up, by decide⟩

theorem test_wit_ResetSources_9 : ∃ (v : Word) (s : State), (s.domainUp 0 = true) ∧ (bits v 31 16 ≠ 0xD1CE ∨ bits v 1 0 = 0
  ∨ bits v 1 0 = 3) :=
  ⟨0xD1CE0003, up, by decide⟩

theorem test_wit_ResetSources_10 : ∃ (p : SlotPins) (s : State), (p.isOpen = true) ∧ (s.rst.on.getLsbD 11 = false) :=
  ⟨⟨true, 1, true⟩, up, by decide⟩

theorem test_wit_ResetSources_11 : ∃ (p : SlotPins) (s : State), (p.isOpen = false) :=
  ⟨⟨false, 2, true⟩, up, by decide⟩

theorem test_wit_ResetSources_12 : ∃ (v : Word) (b : Bool) (s : State), (s.domainUp 0 = false) :=
  ⟨0xD1CE0001, false, withRegs [], by decide⟩

set_option maxRecDepth 100000 in
theorem test_wit_ResetSequence_1 : ∃ (d c : Nat) (s : State), (s.dueDomain = some d) ∧ (s.clockReady d = some c) ∧ (c ≤
  s.readyAt d + 10000000) ∧ (s.skipFailed (d + 1) = 10) :=
  ⟨9, 12800, relUp (up.rst.clkAt.set 4 (some 0)), by decide +kernel⟩

set_option maxRecDepth 100000 in
theorem test_wit_ResetSequence_2 : ∃ (d : Nat) (s : State), (s.dueDomain = some d) ∧ (s.clockReady d = none) ∧ (d ≠ 0) :=
  ⟨9, relUp (Vector.replicate 20 none), by decide +kernel⟩

set_option maxRecDepth 100000 in
theorem test_wit_ResetSequence_3 : ∃ (s : State), (s.rst.optBusy = true) ∧ (optReason s.boot.opt1 = none) :=
  ⟨optUp optRec [], by decide +kernel⟩

set_option maxRecDepth 100000 in
theorem test_wit_ResetSequence_4 : ∃ (e : Bool) (s : State), (s.rst.optBusy = true) ∧ (e = true ∨ (optReason
  s.boot.opt1).isSome = true) ∧ (optReason s.boot.opt2 = none) :=
  ⟨false, optUp [] optRec, by decide +kernel⟩

set_option maxRecDepth 100000 in
theorem test_wit_ResetSequence_5 : ∃ (e f : Bool) (s : State), (s.rst.optBusy = true) ∧ (e = true ∨ (optReason
  s.boot.opt1).isSome = true) ∧ (f = true ∨ (optReason s.boot.opt2).isSome = true) :=
  ⟨true, true, optUp [] [], by decide +kernel⟩

theorem test_wit_ResetSequence_6 : ∃ (s : State), (bit (s.reg Reg.rstDom) 0 = true) :=
  ⟨up, by decide⟩

theorem test_wit_ResetSequence_7 : ∃ (v : BitVec 16) (s : State), (s.domainUp 2 = true) :=
  ⟨1919, up, by decide⟩

theorem test_wit_ResetSequence_8 : ∃ (s : State), (s.domainUp 0 = true) :=
  ⟨up, by decide⟩

theorem test_wit_ResetSequence_9 : ∃ (s : State), (s.dueDomain = none) :=
  ⟨up, by decide⟩

set_option maxRecDepth 100000 in
theorem test_wit_OptionsAndFuses_1 : ∃ (s : State), (s.domainUp 0 = true) ∧ (s.state = .boot ∨ s.state = .stoodDown) ∧
  (s.fld Reg.sysOptRes 2 2 = 0) ∧ (optReason (s.staged Reg.sysOptData 32 32) = none) :=
  ⟨stagedOpt, by decide +kernel⟩

theorem test_wit_OptionsAndFuses_2 : ∃ (r : Nat) (s : State), (s.domainUp 0 = true) ∧ (s.state = .boot ∨ s.state =
  .stoodDown) ∧ (s.fld Reg.sysOptRes 2 2 = 0) ∧ (optReason (s.staged Reg.sysOptData 32 32) = some r) :=
  ⟨1, up, by decide⟩

theorem test_wit_OptionsAndFuses_3 : ∃ (s : State), (s.domainUp 0 = true) ∧ (s.state ≠ .boot ∧ s.state ≠ .stoodDown ∨ s.fld
  Reg.sysOptRes 2 2 = 1) :=
  ⟨{ up with state := .leader }, by decide⟩

theorem test_wit_OptionsAndFuses_4 : ∃ (s : State), (s.fld Reg.sysOptRes 2 2 = 1) :=
  ⟨upWith [(Reg.sysOptRes, 4)], by decide⟩

theorem test_wit_OptionsAndFuses_5 : ∃ (s : State), (s.domainUp 0 = true) ∧ (s.state = .boot) ∧ (s.svcKey = true) ∧
  (s.boot.fuse.getLsbD 255 = false) ∧ (s.boot.fuseBlk.getLsbD 255 = false) :=
  ⟨upWith [(Reg.sysSlot, 0x10)], by decide⟩

theorem test_wit_OptionsAndFuses_6 : ∃ (s : State), (s.domainUp 0 = true) ∧ (s.state ≠ .boot ∨ s.svcKey = false ∨
  s.boot.fuse.getLsbD 255 = true) :=
  ⟨up, by decide⟩

theorem test_wit_OptionsAndFuses_7 : ∃ (v : Word) (ok : Bool) (s : State), (v ≠ 0xF05E) :=
  ⟨0, true, up, by decide⟩

set_option maxRecDepth 100000 in
theorem test_wit_BootChain_1 : ∃ (f : Bool) (s : State), (s.domainUp 8 = true) ∧ (s.fld Reg.secStat 3 0 = 0) ∧ (s.extReason
  s.boot.ext1 = none) :=
  ⟨false, romUp extension [], by decide +kernel⟩

set_option maxRecDepth 100000 in
theorem test_wit_BootChain_2 : ∃ (r : Nat) (s : State), (s.domainUp 8 = true) ∧ (s.fld Reg.secStat 3 0 = 0) ∧ (s.extReason
  s.boot.ext1 = some r) ∧ ((s.secFail 1 r).extReason s.boot.ext2 = none) :=
  ⟨1, romUp [] extension, by decide +kernel⟩

theorem test_wit_BootChain_3 : ∃ (e f : Bool) (s : State), (s.domainUp 8 = true) ∧ (s.fld Reg.secStat 3 0 = 0) ∧ (e = true
  ∨ (s.extReason s.boot.ext1).isSome = true) ∧ (f = true ∨ (∀ r, ((s.secFail 1 r).extReason s.boot.ext2).isSome = true)) :=
  ⟨true, true, romUp [] [], rfl, by decide, Or.inl rfl, Or.inl rfl⟩

set_option maxRecDepth 100000 in
theorem test_wit_BootChain_4 : ∃ (x ea eb : Bool) (u s : State), (s.domainUp 8 = true) ∧ (s.fld Reg.secStat 3 0 = 1) ∧ (u =
  ({ s with upd := s.upd.readChoice }.judgeTrial false).judgeTrial true) ∧ (u.bankState x = .confirmed) ∧ (x = true →
  u.bankState false ≠ .confirmed) ∧ ((if x then eb else ea) = false ∧ u.bankReason x false = none) :=
  ⟨false, false, false, (fwJudged fwUp), fwUp, by decide +kernel⟩

set_option maxRecDepth 100000 in
theorem test_wit_BootChain_5 : ∃ (x ea eb : Bool) (r : Nat) (u w s : State), (s.domainUp 8 = true) ∧ (s.fld Reg.secStat 3 0
  = 1) ∧ (u = ({ s with upd := s.upd.readChoice }.judgeTrial false).judgeTrial true) ∧ (u.bankState x = .confirmed) ∧ (x =
  true → u.bankState false ≠ .confirmed) ∧ (u.bankReason x (if x then eb else ea) = some r) ∧ (u.bankState (!x) = .staged ∨
  u.bankState (!x) = .previous) ∧ (w = (u.secFail (if x then 4 else 3) r).recErr pSEC 0x0101 (BitVec.ofNat 32 ((if x then 4
  else 3) + r * 16)) .normal []) ∧ (w.bankReason (!x) (if x then ea else eb) = none) :=
  ⟨false, true, false, 5, (fwJudged fwOther), (((fwJudged fwOther).secFail 3 5).recErr pSEC 0x0101 (BitVec.ofNat 32 83)
    .normal []), fwOther, by decide +kernel⟩

set_option maxRecDepth 100000 in
theorem test_wit_BootChain_6 : ∃ (x ea eb : Bool) (r q : Nat) (u w s : State), (s.domainUp 8 = true) ∧ (s.fld Reg.secStat 3
  0 = 1) ∧ (u = ({ s with upd := s.upd.readChoice }.judgeTrial false).judgeTrial true) ∧ (u.bankState x = .confirmed) ∧ (x
  = true → u.bankState false ≠ .confirmed) ∧ (u.bankReason x (if x then eb else ea) = some r) ∧ (u.bankState (!x) = .staged
  ∨ u.bankState (!x) = .previous) ∧ (w = (u.secFail (if x then 4 else 3) r).recErr pSEC 0x0101 (BitVec.ofNat 32 ((if x then
  4 else 3) + r * 16)) .normal []) ∧ (w.bankReason (!x) (if x then ea else eb) = some q) :=
  ⟨false, true, true, 5, 5, (fwJudged fwOther), (((fwJudged fwOther).secFail 3 5).recErr pSEC 0x0101 (BitVec.ofNat 32 83)
    .normal []), fwOther, by decide +kernel⟩

theorem test_wit_BootChain_7 : ∃ (x ea eb : Bool) (r : Nat) (u s : State), (s.domainUp 8 = true) ∧ (s.fld Reg.secStat 3 0 =
  1) ∧ (u = ({ s with upd := s.upd.readChoice }.judgeTrial false).judgeTrial true) ∧ (u.bankState x = .confirmed) ∧ (x =
  true → u.bankState false ≠ .confirmed) ∧ (u.bankReason x (if x then eb else ea) = some r) ∧ (u.bankState (!x) ≠ .staged ∧
  u.bankState (!x) ≠ .previous) :=
  ⟨false, true, false, 5, fwJudged (upWith [(Reg.secStat, 1)]), upWith [(Reg.secStat, 1)], by decide⟩

set_option maxRecDepth 100000 in
theorem test_wit_BoardKeys_1 : ∃ (v : Word) (n : Fin 8) (s : State), (s.domainUp 8 = true) ∧ (bits v 31 16 = 0x5A5A) ∧
  (bits v 7 4 = 1) ∧ (s.state = .boot) ∧ (n.val = bits v 2 0) ∧ (s.keyBit (8 + n) = false) ∧ (keyOnCurve s.secStaged =
  true) :=
  ⟨0x5A5A0012, 2, keyStaged, by decide +kernel⟩

set_option maxRecDepth 100000 in
theorem test_wit_BoardKeys_2 : ∃ (v : Word) (n : Fin 8) (s : State), (s.domainUp 8 = true) ∧ (bits v 31 16 = 0x5A5A) ∧
  (bits v 7 4 = 1) ∧ (s.state = .boot) ∧ (n.val = bits v 2 0) ∧ (s.keyBit (8 + n) = true ∨ keyOnCurve s.secStaged = false)
  :=
  ⟨0x5A5A0017, 7, up, by decide +kernel⟩

theorem test_wit_BoardKeys_3 : ∃ (v : Word) (n : Fin 8) (s : State), (s.domainUp 8 = true) ∧ (bits v 31 16 = 0x5A5A) ∧
  (bits v 7 4 = 2) ∧ (s.state = .boot) ∧ (n.val = bits v 2 0) ∧ (s.keyBit (8 + n) = false ∧ s.keyBit (16 + n) = true) :=
  ⟨0x5A5A0022, 2, upWith [(Reg.secKeyEn, 0x40000)], by decide⟩

theorem test_wit_BoardKeys_4 : ∃ (v : Word) (n : Fin 8) (s : State), (s.domainUp 8 = true) ∧ (bits v 31 16 = 0x5A5A) ∧
  (bits v 7 4 = 2) ∧ (s.state = .boot) ∧ (n.val = bits v 2 0) ∧ (s.keyBit (8 + n) = true ∨ s.keyBit (16 + n) = false) :=
  ⟨0x5A5A0022, 2, up, by decide⟩

theorem test_wit_BoardKeys_5 : ∃ (v : Word) (n : Fin 8) (s : State), (s.domainUp 8 = true) ∧ (bits v 31 16 = 0x5A5A) ∧
  (bits v 7 4 = 3) ∧ (s.state = .boot) ∧ (n.val = bits v 2 0) :=
  ⟨0x5A5A0030, 0, up, by decide⟩

theorem test_wit_BoardKeys_6 : ∃ (v : Word) (n : Fin 8) (s : State), (s.domainUp 8 = true) ∧ (bits v 31 16 = 0x5A5A) ∧
  (bits v 7 4 = 4) ∧ (s.state = .boot) ∧ (n.val = bits v 2 0) ∧ (s.svcKey = true) :=
  ⟨0x5A5A0040, 0, upWith [(Reg.sysSlot, 0x10)], by decide⟩

theorem test_wit_BoardKeys_7 : ∃ (v : Word) (n : Fin 8) (s : State), (s.domainUp 8 = true) ∧ (bits v 31 16 = 0x5A5A) ∧
  (bits v 7 4 = 4) ∧ (s.state = .boot) ∧ (n.val = bits v 2 0) ∧ (s.svcKey = false) :=
  ⟨0x5A5A0040, 0, up, by decide⟩

theorem test_wit_BoardKeys_8 : ∃ (v : Word) (s : State), (s.domainUp 8 = true) ∧ (bits v 31 16 = 0x5A5A) ∧ (s.state ≠
  .boot) ∧ (bits v 7 4 = 1) :=
  ⟨0x5A5A0010, { up with state := .leader }, by decide⟩

theorem test_wit_BoardKeys_9 : ∃ (v : Word) (s : State), (s.domainUp 8 = true) ∧ (bits v 31 16 = 0x5A5A) ∧ (s.state ≠
  .boot) ∧ (bits v 7 4 = 2) :=
  ⟨0x5A5A0020, { up with state := .leader }, by decide⟩

theorem test_wit_BoardKeys_10 : ∃ (v : Word) (s : State), (s.domainUp 8 = true) ∧ (bits v 31 16 = 0x5A5A) ∧ (s.state ≠
  .boot) ∧ (bits v 7 4 = 3) :=
  ⟨0x5A5A0030, { up with state := .leader }, by decide⟩

theorem test_wit_BoardKeys_11 : ∃ (v : Word) (s : State), (s.domainUp 8 = true) ∧ (bits v 31 16 = 0x5A5A) ∧ (s.state ≠
  .boot) ∧ (bits v 7 4 = 4) :=
  ⟨0x5A5A0040, { up with state := .leader }, by decide⟩

set_option maxRecDepth 100000 in
theorem test_wit_RecorderPage_1 : ∃ (e : Event) (l : List Event) (s : State), (s.recRuns = true) ∧ (s.events = e :: l) ∧
  ((s.rcd.queue.filter (fun x => x.prio != .critical)).length < 7936) ∧ (s.rcd.queue.length < 8192) :=
  ⟨⟨0x1000, 4, .normal, []⟩, [], { recUp 1 with events := [⟨0x1000, 4, .normal, []⟩] }, by decide +kernel⟩

theorem test_wit_RecorderPage_2 : ∃ (e : Event) (l : List Event) (s : State), (s.recRuns = true) ∧ (s.events = e :: l) ∧
  (e.prio = .bulk) ∧ (8192 ≤ s.rcd.queue.length) :=
  ⟨⟨0x1000, 4, .bulk, []⟩, [],
    { recUp 1 with events := [⟨0x1000, 4, .bulk, []⟩], rcd := { up.rcd with queue := List.replicate 8192 ⟨1, 4, .critical,
    0, 0, none, []⟩ } }, rfl, rfl, rfl, Nat.le_of_eq List.length_replicate.symm⟩

set_option maxRecDepth 100000 in
theorem test_wit_RecorderPage_3 : ∃ (q : QEntry) (l : List (QEntry × Option Word)) (s : State), (s.recRuns = true) ∧ (s.fld
  Reg.recStat 1 0 ≠ 2) ∧ (s.rcd.due = (q, none) :: l) ∧ (q.src ≠ pSTW ∨ q.type ≠ 0xE007) ∧ ((s.rcd.segs[s.rcd.wseg]?).map
  (fun g => g.state) = some .inUse) ∧ (0x40 ≤ (s.reg Reg.recWptr).toNat) ∧ ((s.reg Reg.recWptr).toNat + (q.record (s.reg
  Reg.recNextSeq)).length ≤ segBytes) :=
  ⟨⟨0xF001, 0x70, .critical, 0, 0, none, []⟩, [], recAt [(⟨0xF001, 0x70, .critical, 0, 0, none, []⟩, none)] [],
    by decide +kernel⟩

set_option maxRecDepth 100000 in
theorem test_wit_RecorderPage_4 : ∃ (q : QEntry) (k : Option Word) (l : List (QEntry × Option Word)) (r : ProgRes) (s :
  State), (s.recRuns = true) ∧ (s.fld Reg.recStat 1 0 ≠ 2) ∧ (s.rcd.due = (q, k) :: l) :=
  ⟨⟨0xF001, 0x70, .critical, 0, 0, none, []⟩, none, [], .ok,
    { recUp 1 with rcd := { up.rcd with due := [(⟨0xF001, 0x70, .critical, 0, 0, none, []⟩, none)] } }, by decide +kernel⟩

set_option maxRecDepth 100000 in
theorem test_wit_RecorderPage_5 : ∃ (q : QEntry) (l : List QEntry) (s : State), (s.recRuns = true) ∧ (s.fld Reg.recStat 1 0
  ≠ 2) ∧ (s.rcd.due = []) ∧ (nextQueued s.rcd.queue = some (q, l)) ∧ (q.src ≠ pSTW ∨ q.type ≠ 0xE007) ∧
  ((s.rcd.segs[s.rcd.wseg]?).map (fun g => g.state) = some .inUse) ∧ (0x40 ≤ (s.reg Reg.recWptr).toNat) ∧ ((s.reg
  Reg.recWptr).toNat + (q.record (s.reg Reg.recNextSeq)).length ≤ segBytes) :=
  ⟨⟨1, 4, .bulk, 0, 0, none, []⟩, [], recAt [] [⟨1, 4, .bulk, 0, 0, none, []⟩], by decide +kernel⟩

set_option maxRecDepth 100000 in
theorem test_wit_RecorderPage_6 : ∃ (q : QEntry) (l : List QEntry) (s : State), (s.recRuns = true) ∧ (s.fld Reg.recStat 1 0
  ≠ 2) ∧ (s.rcd.due = []) ∧ (nextQueued s.rcd.queue = some (q, l)) ∧ (q.src = pSTW ∧ q.type = 0xE007) ∧
  (s.host.wedgeAt.isSome = true ∧ s.stewardUp = true) ∧ ((s.rcd.segs[s.rcd.wseg]?).map (fun g => g.state) = some .inUse) ∧
  (0x40 ≤ (s.reg Reg.recWptr).toNat) ∧ ((s.reg Reg.recWptr).toNat + (q.record (s.reg Reg.recNextSeq)).length ≤ segBytes) :=
  ⟨⟨0xE007, pSTW, .critical, 0, 0, none, []⟩, [], wedgeWrite, by decide +kernel⟩

set_option maxRecDepth 100000 in
theorem test_wit_RecorderPage_7 : ∃ (i : Nat) (s : State), (s.eraseRuns = some i) :=
  ⟨5, { recUp 1 with rcd := { up.rcd with segs := up.rcd.segs.set 5 ⟨.erasing, []⟩ } }, by decide +kernel⟩

set_option maxRecDepth 100000 in
theorem test_wit_RecorderPage_8 : ∃ (s : State), (s.recRuns = true) :=
  ⟨recUp 1, by decide +kernel⟩

set_option maxRecDepth 100000 in
theorem test_wit_RecorderPage_9 : ∃ (s : State), (s.domainUp 8 = true) ∧ (s.fld Reg.recStat 1 0 = 0) :=
  ⟨recUp 0, by decide +kernel⟩

set_option maxRecDepth 100000 in
theorem test_wit_RecorderPage_10 : ∃ (ms : Word) (s : State), (s.domainUp 8 = true) ∧ (s.fld Reg.recStat 1 0 = 2) :=
  ⟨7, recUp 2, by decide +kernel⟩

theorem test_wit_RecorderPage_11 : ∃ (s : State), (s.domainUp 8 = true) :=
  ⟨up, by decide⟩

theorem test_wit_RecorderPage_12 : ∃ (a : Nat) (p : Prio) (s : State), (s.domainUp 8 = true) ∧ (a = s.addrOf Reg.recSubLo
  Reg.recSubHi) ∧ ((1 ≤ leNat (s.mem.read a 2) ∧ leNat (s.mem.read a 2) ≤ 0x101F) ∨ (0xE000 ≤ leNat (s.mem.read a 2) ∧
  leNat (s.mem.read a 2) ≤ 0xEFFF)) ∧ ((s.mem.byte (a + 3)).toNat ≤ 2) ∧ (p = (if (s.mem.byte (a + 3)).toNat = 0 then
  .critical else if (s.mem.byte (a + 3)).toNat = 1 then .normal else .bulk)) ∧ (leNat (s.mem.read (a + 4) 2) ≤ 4059) :=
  ⟨0, .normal, { up with mem := [(0, 5), (3, 1)] }, by decide⟩

theorem test_wit_RecorderPage_13 : ∃ (a : Nat) (s : State), (s.domainUp 8 = true) ∧ (a = s.addrOf Reg.recSubLo
  Reg.recSubHi) ∧ (3 ≤ (s.mem.byte (a + 3)).toNat ∨ 4059 < leNat (s.mem.read (a + 4) 2) ∨ leNat (s.mem.read a 2) = 0 ∨
  (0x1020 ≤ leNat (s.mem.read a 2) ∧ leNat (s.mem.read a 2) ≤ 0xDFFF) ∨ 0xF000 ≤ leNat (s.mem.read a 2)) :=
  ⟨0, up, by decide⟩

theorem test_wit_RecorderPage_14 : ∃ (s : State), (s.domainUp 8 = true) ∧ (s.rcd.reading = none) :=
  ⟨up, by decide⟩

theorem test_wit_RecorderPage_15 : ∃ (s : State), (s.domainUp 8 = true) ∧ (s.rcd.reading.isSome = true) :=
  ⟨{ up with rcd := { up.rcd with reading := some ⟨[7], 1, 0, 1, false, false⟩ } }, by decide⟩

theorem test_wit_RecorderPage_16 : ∃ (r : ReadRun) (s : State), (s.rcd.reading = some r) :=
  ⟨⟨[7], 1, 0, 1, false, false⟩, { up with rcd := { up.rcd with reading := some ⟨[7], 1, 0, 1, false, false⟩ } },
    by decide⟩

theorem test_wit_UpdateCommands_1 : ∃ (s : State), (s.domainUp 8 = true) ∧ (s.upd.running = none) ∧ (s.upd.state = .idle) ∧
  (s.upd.libPend = false) :=
  ⟨up, by decide⟩

theorem test_wit_UpdateCommands_2 : ∃ (s : State), (s.domainUp 8 = true) ∧ (s.upd.state ≠ .idle ∨ s.upd.libPend = true) :=
  ⟨{ up with upd := { up.upd with state := .trial } }, by decide⟩

theorem test_wit_UpdateCommands_3 : ∃ (s : State), (s.domainUp 8 = true) ∧ (s.upd.running.isSome = true ∨ s.upd.state =
  .pending ∨ s.upd.state = .serialising ∨ s.upd.state = .starting) :=
  ⟨{ up with upd := { up.upd with state := .pending } }, by decide⟩

theorem test_wit_UpdateCommands_4 : ∃ (s : State), (s.domainUp 8 = true) ∧ (s.upd.running = none) ∧ (s.upd.state = .trial ∨
  s.upd.state = .fallback) :=
  ⟨{ up with upd := { up.upd with state := .trial } }, by decide⟩

theorem test_wit_UpdateCommands_5 : ∃ (s : State), (s.domainUp 8 = true) ∧ (s.mayHandOver = true) :=
  ⟨{ up with upd := { up.upd with bankB := .staged } }, by decide⟩

theorem test_wit_UpdateCommands_6 : ∃ (s : State), (s.domainUp 8 = true) ∧ (s.mayHandOver = false) :=
  ⟨up, by decide⟩

theorem test_wit_UpdateCommands_7 : ∃ (s : State), (s.domainUp 8 = true) ∧ (s.upd.state = .pending) :=
  ⟨{ up with upd := { up.upd with state := .pending } }, by decide⟩

theorem test_wit_UpdateCommands_8 : ∃ (s : State), (s.domainUp 8 = true) ∧ (s.upd.state ≠ .pending) :=
  ⟨up, by decide⟩

theorem test_wit_UpdateCommands_9 : ∃ (f : Bool) (u s : State), (s.upd.running = some .verify) ∧ (u =
  s.updEnd.endImageClaim.reverifyNext) ∧ (u.imageReason s.stagedImage (u.reg Reg.updStgLen).toNat true = none) :=
  ⟨true, (imageUp .verify).updEnd.endImageClaim.reverifyNext, imageUp .verify, rfl, rfl, test_image_verify⟩

theorem test_wit_UpdateCommands_10 : ∃ (f : Bool) (r : Nat) (u s : State), (s.upd.running = some .verify) ∧ (u =
  s.updEnd.endImageClaim.reverifyNext) ∧ (u.imageReason s.stagedImage (u.reg Reg.updStgLen).toNat true = some r) :=
  ⟨true, 1, { up with upd := { up.upd with running := some .verify } }.updEnd.endImageClaim.reverifyNext,
    { up with upd := { up.upd with running := some .verify } }, by decide⟩

theorem test_wit_UpdateCommands_11 : ∃ (s : State), (s.upd.running = some .store) ∧ ((s.updEnd.endImageClaim).imageReason
  s.updEnd.endImageClaim.stagedImage (s.updEnd.endImageClaim.reg Reg.updStgLen).toNat true = none) :=
  ⟨imageUp .store, rfl, test_image_good .store⟩

theorem test_wit_UpdateCommands_12 : ∃ (n : Fin 16) (l : Bytes) (s : State), (s.upd.running = some .store) ∧
  ((s.updEnd.endImageClaim).imageReason s.updEnd.endImageClaim.stagedImage (s.updEnd.endImageClaim.reg Reg.updStgLen).toNat
  true = none) ∧ (l = imgLib s.updEnd.endImageClaim.stagedImage) ∧ (l.length ≤ 0x100000) ∧ (s.mem.wf = true) ∧
  (s.lanes[n].state ≠ .borneOff) :=
  ⟨3, imgLib (imageUp .store).updEnd.endImageClaim.stagedImage, imageUp .store,
    rfl, test_image_good .store, rfl, test_image_lib, test_image_wf, by decide⟩

theorem test_wit_UpdateCommands_13 : ∃ (s : State), (s.upd.running = some .store) ∧ ((s.updEnd.endImageClaim).imageReason
  s.updEnd.endImageClaim.stagedImage (s.updEnd.endImageClaim.reg Reg.updStgLen).toNat false = some 6) :=
  ⟨imageUp .store, rfl, test_image_fails⟩

theorem test_wit_UpdateCommands_14 : ∃ (f : Bool) (r : Nat) (s : State), (s.upd.running = some .store) ∧
  ((s.updEnd.endImageClaim).imageReason s.updEnd.endImageClaim.stagedImage (s.updEnd.endImageClaim.reg Reg.updStgLen).toNat
  f = some r) ∧ (r ≠ 6) :=
  ⟨true, 1, { up with upd := { up.upd with running := some .store } }, by decide⟩

theorem test_wit_UpdateCommands_15 : ∃ (s : State), (s.upd.running = some .reverify) :=
  ⟨{ up with upd := { up.upd with running := some .reverify } }, by decide⟩

theorem test_wit_HandoverAndTrial_1 : ∃ (s : State), (s.upd.state = .pending) ∧ (s.upd.ready = true) ∧
  (s.atBoundary.turnEdge = true) ∧ (later (s.upd.verified + 16) s.atBoundary.rsn = false) :=
  ⟨{ up with upd := { up.upd with state := .pending, ready := true, verified := 0xFFFF0000 } }, by decide⟩

set_option maxRecDepth 100000 in
theorem test_wit_HandoverAndTrial_2 : ∃ (ms : BitVec 16) (l : Bytes) (s : State), (s.domainUp 8 = true) ∧ (s.upd.state =
  .serialising) ∧ (ms.toNat * 1000000 ≤ s.serLimit) :=
  ⟨7, [5], hoUp .serialising false, by decide +kernel⟩

set_option maxRecDepth 100000 in
theorem test_wit_HandoverAndTrial_3 : ∃ (ms : BitVec 16) (l : Bytes) (s : State), (s.domainUp 8 = true) ∧ (s.upd.state =
  .serialising) ∧ (s.serLimit < ms.toNat * 1000000) :=
  ⟨500, [5], hoUp .serialising false, by decide +kernel⟩

set_option maxRecDepth 100000 in
theorem test_wit_HandoverAndTrial_4 : ∃ (ms : BitVec 16) (len : Word) (w : HandedWrites) (s : State), (s.domainUp 8 = true)
  ∧ (s.upd.state = .starting) ∧ (s.startLimit < (s.fld Reg.updHoTime 15 0 + ms.toNat) * 1000000) :=
  ⟨5000, 8, ⟨true, true⟩, hoUp .starting false, by decide +kernel⟩

set_option maxRecDepth 100000 in
theorem test_wit_HandoverAndTrial_5 : ∃ (ms : BitVec 16) (len : Word) (w : HandedWrites) (s : State), (s.domainUp 8 = true)
  ∧ (s.upd.state = .starting) ∧ (s.upd.ret = false) ∧ ((s.fld Reg.updHoTime 15 0 + ms.toNat) * 1000000 ≤ s.startLimit) :=
  ⟨7, 8, ⟨true, true⟩, hoUp .starting false, by decide +kernel⟩

set_option maxRecDepth 100000 in
theorem test_wit_HandoverAndTrial_6 : ∃ (ms : BitVec 16) (len : Word) (w : HandedWrites) (s : State), (s.domainUp 8 = true)
  ∧ (s.upd.state = .starting) ∧ (s.upd.ret = true) ∧ ((s.fld Reg.updHoTime 15 0 + ms.toNat) * 1000000 ≤ s.startLimit) :=
  ⟨7, 8, ⟨true, true⟩, hoUp .starting true, by decide +kernel⟩

theorem test_wit_HandoverAndTrial_7 : ∃ (ms : BitVec 16) (l : Bytes) (len : Word) (w : HandedWrites) (s : State),
  (s.domainUp 8 = true) :=
  ⟨7, [], 8, ⟨true, true⟩, up, by decide⟩

set_option maxRecDepth 100000 in
theorem test_wit_HandoverAndTrial_8 : ∃ (s : State), (s.upd.state = .serialising) ∧ (s.upd.ret = false) :=
  ⟨hoUp .serialising false, by decide +kernel⟩

set_option maxRecDepth 100000 in
theorem test_wit_HandoverAndTrial_9 : ∃ (s : State), (s.upd.state = .serialising) ∧ (s.upd.ret = true) :=
  ⟨hoUp .serialising true, by decide +kernel⟩

set_option maxRecDepth 100000 in
theorem test_wit_HandoverAndTrial_10 : ∃ (s : State), (s.upd.state = .starting) :=
  ⟨hoUp .starting true, by decide +kernel⟩

theorem test_wit_HandoverAndTrial_11 : ∃ (n : Fin 16) (s : State), (s.upd.libPend = true) ∧ (s.domainUp (4 + n.val / 4) =
  true) :=
  ⟨5, { up with upd := { up.upd with libPend := true } }, by decide⟩

set_option maxRecDepth 100000 in
theorem test_wit_HandoverAndTrial_12 : ∃ (s : State), (s.domainUp 8 = true) ∧ (s.upd.state = .trial) ∧ (s.opTime.toNat ≤
  s.upd.deadline.toNat) :=
  ⟨hoUp .trial false, by decide +kernel⟩

set_option maxRecDepth 100000 in
theorem test_wit_HandoverAndTrial_13 : ∃ (c : Byte) (w : Bool) (s : State), (s.domainUp 8 = true) ∧ (s.upd.state = .trial)
  ∧ (s.upd.deadline.toNat < s.opTime.toNat) :=
  ⟨3, true, { hoUp .trial false with opTime := 9 }, by decide +kernel⟩

theorem test_wit_HandoverAndTrial_14 : ∃ (k : BitVec 16) (c : Byte) (w : Bool) (s : State), (s.domainUp 8 = true) ∧
  (s.upd.state ≠ .trial) :=
  ⟨0, 1, true, up, by decide⟩

set_option maxRecDepth 100000 in
theorem test_wit_HandoverAndTrial_15 : ∃ (s : State), (s.upd.state = .fallback) ∧ (s.upd.libPend = false) ∧
  (s.atBoundary.turnEdge = true) :=
  ⟨hoUp .fallback false, by decide +kernel⟩

set_option maxRecDepth 100000 in
theorem test_wit_HapIntake_1 : ∃ (n : Nat) (c : Instr) (src : HapSrc) (msg : Bytes) (s : State), (s.domainUp 8 = true) ∧
  (s.hapServed src = true) ∧ (s.hapCheck msg = some n) ∧ (c ∈ [Instr.hapRead src msg, Instr.hapWrite src msg,
  Instr.hapPlantWrite src msg, Instr.ringPush src msg, Instr.ringPull src msg, Instr.boardChunk src msg, Instr.updateChunk
  src msg, Instr.recRead src msg, Instr.resetArm src msg, Instr.resetFire src msg, .hapBusyTimeout src msg]) :=
  ⟨1, .ringPull aSrc [], aSrc, [], hostUp [], by decide +kernel⟩

set_option maxRecDepth 100000 in
theorem test_wit_HapIntake_2 : ∃ (c : Instr) (src : HapSrc) (msg : Bytes) (s : State), (s.domainUp 8 = false ∨ s.hapServed
  src = false) ∧ (c ∈ [Instr.hapRead src msg, Instr.hapWrite src msg, Instr.hapPlantWrite src msg, Instr.ringPush src msg,
  Instr.ringPull src msg, Instr.boardChunk src msg, Instr.updateChunk src msg, Instr.recRead src msg, Instr.resetArm src
  msg, Instr.resetFire src msg, .hapBusyTimeout src msg]) :=
  ⟨.ringPull { aSrc with port := 1 } [], { aSrc with port := 1 }, [], hostUp [], by decide +kernel⟩

set_option maxRecDepth 100000 in
theorem test_wit_HapIntake_3 : ∃ (c : Instr) (src : HapSrc) (msg : Bytes) (s : State), (s.domainUp 8 = true) ∧ (s.hapServed
  src = true) ∧ (s.hapCheck msg = none) ∧ ((hapParse src msg).type = 5) ∧ (c ∈ [Instr.hapRead src msg, Instr.hapWrite src
  msg, Instr.hapPlantWrite src msg, Instr.ringPush src msg, Instr.ringPull src msg, Instr.boardChunk src msg,
  Instr.updateChunk src msg, Instr.recRead src msg, Instr.resetArm src msg, Instr.resetFire src msg, .hapBusyTimeout src
  msg]) :=
  ⟨.ringPull aSrc (hmsg 5 0 1 []), aSrc, hmsg 5 0 1 [], hostUp [], by decide +kernel⟩

theorem test_wit_HapIntake_4 : ∃ (k : KeySlot) (c : BitVec 64), (k.passes c = true) :=
  ⟨⟨[], 4, [4], 0⟩, 3, by decide⟩

set_option maxRecDepth 100000 in
theorem test_wit_HapIntake_5 : ∃ (x : Nat × Instr) (src : HapSrc) (msg : Bytes) (s : State), (s.domainUp 8 = true) ∧
  (s.hapServed src = true) ∧ (s.hapCheck msg = none) ∧ (x ∈ [((1 : Nat), Instr.hapRead src msg), ((3 : Nat), Instr.ringPush
  src msg), ((4 : Nat), Instr.ringPull src msg), ((8 : Nat), Instr.recRead src msg)]) ∧ ((hapParse src msg).type = x.1) ∧
  (s.handingOver = true ∨ s.stewardUp = false) :=
  ⟨(4, .ringPull aSrc (hmsg 4 0 1 [])), aSrc, hmsg 4 0 1 [], { hostUp [] with upd := { up.upd with state := .starting } },
    by decide +kernel⟩

set_option maxRecDepth 100000 in
theorem test_wit_HapIntake_6 : ∃ (src : HapSrc) (msg : Bytes) (s : State), (s.domainUp 8 = true) ∧ (s.hapServed src = true)
  ∧ (s.hapCheck msg = none) ∧ (1 ≤ (hapParse src msg).type ∧ (hapParse src msg).type ≤ 8) ∧ ((hapParse src msg).type ≠ 5 ∧
  (hapParse src msg).type ≠ 6 ∧ (hapParse src msg).type ≠ 7) ∧ ((hapParse src msg).key ≠ 0xFF) ∧ ((hapParse src msg).segs =
  1) ∧ (s.inRecovery = false) :=
  ⟨aSrc, hmsg 4 0 1 [], hostUp [], by decide +kernel⟩

set_option maxRecDepth 100000 in
theorem test_wit_HapIntake_7 : ∃ (x : Nat × Instr) (src : HapSrc) (msg : Bytes) (s : State), (s.domainUp 8 = true) ∧
  (s.hapServed src = true) ∧ (s.hapCheck msg = none) ∧ (x ∈ [((3 : Nat), Instr.ringPush src msg), ((4 : Nat),
  Instr.ringPull src msg), ((6 : Nat), Instr.boardChunk src msg), ((7 : Nat), Instr.updateChunk src msg), ((8 : Nat),
  Instr.recRead src msg), ((9 : Nat), Instr.resetArm src msg), ((10 : Nat), Instr.resetFire src msg)]) ∧ ((hapParse src
  msg).type = x.1) ∧ ((hapParse src msg).key = 0xFF) ∧ (s.handingOver = false ∧ s.stewardUp = true ∧ s.inRecovery = false)
  :=
  ⟨(9, .resetArm aSrc (cmsg 9 [1, 0, 0, 0])), aSrc, cmsg 9 [1, 0, 0, 0], commUp, by decide +kernel⟩

theorem test_wit_HapIntake_8 : ∃ (k : Fin 8) (m : HapMsg) (st : Nat) (b : Bytes) (s : State), (m.key = k.val) :=
  ⟨1, ⟨1, 1, 9, 0, 1, aHost, []⟩, 0, [], up, by decide⟩

set_option maxRecDepth 100000 in
theorem test_wit_HapData_1 : ∃ (src : HapSrc) (msg : Bytes) (s : State), (s.hears src msg 1 true) ∧ ((hapParse src
  msg).space = 0) ∧ (1 ≤ (hapParse src msg).count ∧ (hapParse src msg).count ≤ 320) ∧ ((hapParse src msg).body.length = 4 +
  4 * (hapParse src msg).count) ∧ ((hapParse src msg).allowed 4 = true) :=
  ⟨aSrc, hmsg 1 0 1 [0, 0, 1, 0, 0x40, 0, 0, 0], hostUp [], by decide +kernel⟩

set_option maxRecDepth 100000 in
theorem test_wit_HapData_2 : ∃ (vals : List Word) (src : HapSrc) (msg : Bytes) (s : State), (s.hears src msg 2 true) ∧
  ((hapParse src msg).space = 0) ∧ (1 ≤ (hapParse src msg).count ∧ (hapParse src msg).count ≤ 160) ∧ ((hapParse src
  msg).body.length = 4 + 8 * (hapParse src msg).count) ∧ ((hapParse src msg).allowed 8 = true) ∧ (vals = (List.range
  (hapParse src msg).count).map (fun i => bytesWord (slice (hapParse src msg).body (8 + 8 * i) 4))) :=
  ⟨[7], aSrc, hmsg 2 0 1 [0, 0, 1, 0, 0x40, 0, 0, 0, 7, 0, 0, 0], hostUp [], by decide +kernel⟩

set_option maxRecDepth 100000 in
theorem test_wit_HapData_3 : ∃ (src : HapSrc) (msg : Bytes) (s : State), (s.hears src msg 1 false) ∧ ((hapParse src
  msg).space = 2) ∧ ((hapParse src msg).count = 0 ∧ (hapParse src msg).body.length = 12) ∧ (1 ≤ leAt (hapParse src
  msg).body 8 4 ∧ leAt (hapParse src msg).body 8 4 ≤ 1280) ∧ (leAt (hapParse src msg).body 4 4 + leAt (hapParse src
  msg).body 8 4 ≤ 0x01000000) :=
  ⟨aSrc, hmsg 1 0 1 [2, 0, 0, 0, 4, 0, 0, 0, 8, 0, 0, 0], hostUp [], by decide +kernel⟩

set_option maxRecDepth 100000 in
theorem test_wit_HapData_4 : ∃ (src : HapSrc) (msg : Bytes) (s : State), (s.hears src msg 2 false) ∧ ((hapParse src
  msg).space = 2) ∧ (1 ≤ (hapParse src msg).count ∧ (hapParse src msg).count ≤ 1280) ∧ ((hapParse src msg).body.length = 8
  + (hapParse src msg).count) ∧ (leAt (hapParse src msg).body 4 4 + (hapParse src msg).count ≤ 0x01000000) :=
  ⟨aSrc, hmsg 2 0 1 [2, 0, 1, 0, 4, 0, 0, 0, 9], hostUp [], by decide +kernel⟩

set_option maxRecDepth 100000 in
theorem test_wit_HapData_5 : ∃ (src : HapSrc) (msg : Bytes) (s : State), (s.hears src msg 2 false) ∧ ((hapParse src
  msg).space = 1) ∧ (1 ≤ (hapParse src msg).count ∧ (hapParse src msg).count ≤ 320) ∧ ((hapParse src msg).body.length = 8 +
  4 * (hapParse src msg).count) ∧ (s.state ≠ .leader) :=
  ⟨aSrc, hmsg 2 0 1 [1, 0, 1, 0, 4, 0, 0, 0, 9, 0, 0, 0], hostUp [], by decide +kernel⟩

set_option maxRecDepth 100000 in
theorem test_wit_HapData_6 : ∃ (src : HapSrc) (msg : Bytes) (s : State), (s.hears src msg 2 false) ∧ ((hapParse src
  msg).space = 1) ∧ (1 ≤ (hapParse src msg).count ∧ (hapParse src msg).count ≤ 320) ∧ ((hapParse src msg).body.length = 8 +
  4 * (hapParse src msg).count) ∧ (s.state = .leader) ∧ (leAt (hapParse src msg).body 4 4 % 4 = 0) ∧ (leAt (hapParse src
  msg).body 4 4 + 4 * (hapParse src msg).count ≤ s.instLen) ∧ (s.changeBy (s.rsn + 4) = false) :=
  ⟨aSrc, hmsg 2 0 1 [1, 0, 1, 0, 4, 0, 0, 0, 9, 0, 0, 0], plantUp, by decide +kernel⟩

set_option maxRecDepth 100000 in
theorem test_wit_HapData_7 : ∃ (r n : Nat) (src : HapSrc) (msg : Bytes) (s : State), (s.hears src msg 3 false) ∧ (r = leAt
  (hapParse src msg).body 0 1) ∧ (n = (hapParse src msg).count) ∧ (1 ≤ n ∧ n ≤ 40) ∧ ((hapParse src msg).body.length = 4 +
  32 * n) ∧ (s.ownsRing (hapParse src msg) r = true) ∧ (s.ringSize r < (s.reg (Reg.ringHead r) - s.reg (Reg.ringTail
  r)).toNat + n) :=
  ⟨5, 1, aSrc, hmsg 3 0 1 ([5, 0, 1, 0] ++ zeros 32), hostUp [(Reg.ringCfg 5, 0x840004), (Reg.ringHead 5, 0x10000)],
    by decide +kernel⟩

set_option maxRecDepth 100000 in
theorem test_wit_HapData_8 : ∃ (r n : Nat) (src : HapSrc) (msg : Bytes) (s : State), (s.hears src msg 3 false) ∧ (r = leAt
  (hapParse src msg).body 0 1) ∧ (n = (hapParse src msg).count) ∧ (1 ≤ n ∧ n ≤ 40) ∧ ((hapParse src msg).body.length = 4 +
  32 * n) ∧ (s.ownsRing (hapParse src msg) r = true) ∧ ((s.reg (Reg.ringHead r) - s.reg (Reg.ringTail r)).toNat + n ≤
  s.ringSize r) :=
  ⟨5, 1, aSrc, hmsg 3 0 1 ([5, 0, 1, 0] ++ zeros 32), hostUp [(Reg.ringCfg 5, 0x840004)], by decide +kernel⟩

set_option maxRecDepth 100000 in
theorem test_wit_HapData_9 : ∃ (r n : Nat) (src : HapSrc) (msg : Bytes) (s : State), (s.hears src msg 4 false) ∧ (r = leAt
  (hapParse src msg).body 0 1) ∧ (n = (hapParse src msg).count) ∧ (n ≤ 40) ∧ ((hapParse src msg).body.length = 8) ∧
  (s.ownsRing (hapParse src msg) r = true) :=
  ⟨5, 1, aSrc, hmsg 4 0 1 [5, 0, 1, 0, 0, 0, 0, 0], hostUp [(Reg.ringCfg 5, 0x840004)], by decide +kernel⟩

set_option maxRecDepth 100000 in
theorem test_wit_HapData_10 : ∃ (src : HapSrc) (msg : Bytes) (s : State), (s.hears src msg 3 false) ∧ (1 ≤ (hapParse src
  msg).count ∧ (hapParse src msg).count ≤ 40) ∧ ((hapParse src msg).body.length = 4 + 32 * (hapParse src msg).count) ∧
  (s.ownsRing (hapParse src msg) (leAt (hapParse src msg).body 0 1) = false) :=
  ⟨aSrc, hmsg 3 0 1 ([5, 0, 1, 0] ++ zeros 32), hostUp [], by decide +kernel⟩

set_option maxRecDepth 100000 in
theorem test_wit_HapChunks_1 : ∃ (src : HapSrc) (msg : Bytes) (s : State), (s.hears src msg 6 false) ∧ (1 ≤ leAt (hapParse
  src msg).body 4 2 ∧ leAt (hapParse src msg).body 4 2 ≤ 1376) ∧ ((hapParse src msg).body.length = 8 + leAt (hapParse src
  msg).body 4 2) ∧ (s.orphanOf (hapParse src msg) = none) ∧ (s.stagingBusy false = false) ∧ (s.host.boardClaim.all (fun k
  => k.key == (hapParse src msg).key) = true) ∧ (leAt (hapParse src msg).body 0 4 + leAt (hapParse src msg).body 4 2 ≤
  0x10000000) ∧ (s.reasmOf (hapParse src msg) = none) ∧ (s.host.reasm.length < 16) ∧ (1 < (hapParse src msg).segs) :=
  ⟨aSrc, hmsg 6 0 3 [1, 0, 0, 0, 1, 0, 0, 0, 9], hostUp [], by decide +kernel⟩

set_option maxRecDepth 100000 in
theorem test_wit_HapChunks_2 : ∃ (src : HapSrc) (msg : Bytes) (s : State), (s.hears src msg 6 false) ∧ (1 ≤ leAt (hapParse
  src msg).body 4 2 ∧ leAt (hapParse src msg).body 4 2 ≤ 1376) ∧ ((hapParse src msg).body.length = 8 + leAt (hapParse src
  msg).body 4 2) ∧ (s.orphanOf (hapParse src msg) = none) ∧ (s.stagingBusy false = false) ∧ (s.host.boardClaim.all (fun k
  => k.key == (hapParse src msg).key) = true) ∧ (leAt (hapParse src msg).body 0 4 + leAt (hapParse src msg).body 4 2 ≤
  0x10000000) ∧ (s.reasmOf (hapParse src msg) = none) ∧ (s.host.reasm.length < 16) ∧ ((hapParse src msg).segs = 1) :=
  ⟨aSrc, hmsg 6 0 1 [1, 0, 0, 0, 1, 0, 0, 0, 9], hostUp [], by decide +kernel⟩

set_option maxRecDepth 100000 in
theorem test_wit_HapChunks_3 : ∃ (c : Reasm) (src : HapSrc) (msg : Bytes) (s : State), (s.hears src msg 6 false) ∧ (1 ≤
  leAt (hapParse src msg).body 4 2 ∧ leAt (hapParse src msg).body 4 2 ≤ 1376) ∧ ((hapParse src msg).body.length = 8 + leAt
  (hapParse src msg).body 4 2) ∧ (s.orphanOf (hapParse src msg) = none) ∧ (s.stagingBusy false = false) ∧
  (s.host.boardClaim.all (fun k => k.key == (hapParse src msg).key) = true) ∧ (leAt (hapParse src msg).body 0 4 + leAt
  (hapParse src msg).body 4 2 ≤ 0x10000000) ∧ (s.reasmOf (hapParse src msg) = some c) ∧ ((hapParse src msg).seg < c.segs) ∧
  (c.got.contains (hapParse src msg).seg = false) ∧ ((sins c.got (hapParse src msg).seg).length ≠ c.segs) :=
  ⟨⟨1, 9, 6, 3, [0], 1, aHost, 0, 0⟩, aSrc, hmsg 6 1 3 [1, 0, 0, 0, 1, 0, 0, 0, 9], openUp ⟨1, 9, 6, 3, [0], 1, aHost, 0,
    0⟩, by decide +kernel⟩

set_option maxRecDepth 100000 in
theorem test_wit_HapChunks_4 : ∃ (c : Reasm) (src : HapSrc) (msg : Bytes) (s : State), (s.hears src msg 6 false) ∧ (1 ≤
  leAt (hapParse src msg).body 4 2 ∧ leAt (hapParse src msg).body 4 2 ≤ 1376) ∧ ((hapParse src msg).body.length = 8 + leAt
  (hapParse src msg).body 4 2) ∧ (s.orphanOf (hapParse src msg) = none) ∧ (s.stagingBusy false = false) ∧
  (s.host.boardClaim.all (fun k => k.key == (hapParse src msg).key) = true) ∧ (leAt (hapParse src msg).body 0 4 + leAt
  (hapParse src msg).body 4 2 ≤ 0x10000000) ∧ (s.reasmOf (hapParse src msg) = some c) ∧ ((hapParse src msg).seg < c.segs) ∧
  (c.got.contains (hapParse src msg).seg = false) ∧ ((sins c.got (hapParse src msg).seg).length = c.segs) :=
  ⟨⟨1, 9, 6, 3, [0, 1], 2, aHost, 0, 0⟩, aSrc, hmsg 6 2 3 [1, 0, 0, 0, 1, 0, 0, 0, 9], openUp ⟨1, 9, 6, 3, [0, 1], 2,
    aHost, 0, 0⟩, by decide +kernel⟩

set_option maxRecDepth 100000 in
theorem test_wit_HapChunks_5 : ∃ (src : HapSrc) (msg : Bytes) (s : State), (s.hears src msg 7 false) ∧ (1 ≤ leAt (hapParse
  src msg).body 4 2 ∧ leAt (hapParse src msg).body 4 2 ≤ 1376) ∧ ((hapParse src msg).body.length = 8 + leAt (hapParse src
  msg).body 4 2) ∧ (s.orphanOf (hapParse src msg) = none) ∧ (s.stagingBusy true = false) ∧ (s.host.imageClaim.all (fun k =>
  k.key == (hapParse src msg).key) = true) ∧ (leAt (hapParse src msg).body 0 4 + leAt (hapParse src msg).body 4 2 ≤
  0x4000000) ∧ (s.reasmOf (hapParse src msg) = none) ∧ (s.host.reasm.length < 16) ∧ (1 < (hapParse src msg).segs) :=
  ⟨aSrc, hmsg 7 0 3 [1, 0, 0, 0, 1, 0, 0, 0, 9], hostUp [], by decide +kernel⟩

set_option maxRecDepth 100000 in
theorem test_wit_HapChunks_6 : ∃ (src : HapSrc) (msg : Bytes) (s : State), (s.hears src msg 7 false) ∧ (1 ≤ leAt (hapParse
  src msg).body 4 2 ∧ leAt (hapParse src msg).body 4 2 ≤ 1376) ∧ ((hapParse src msg).body.length = 8 + leAt (hapParse src
  msg).body 4 2) ∧ (s.orphanOf (hapParse src msg) = none) ∧ (s.stagingBusy true = false) ∧ (s.host.imageClaim.all (fun k =>
  k.key == (hapParse src msg).key) = true) ∧ (leAt (hapParse src msg).body 0 4 + leAt (hapParse src msg).body 4 2 ≤
  0x4000000) ∧ (s.reasmOf (hapParse src msg) = none) ∧ (s.host.reasm.length < 16) ∧ ((hapParse src msg).segs = 1) :=
  ⟨aSrc, hmsg 7 0 1 [1, 0, 0, 0, 1, 0, 0, 0, 9], hostUp [], by decide +kernel⟩

set_option maxRecDepth 100000 in
theorem test_wit_HapChunks_7 : ∃ (c : Reasm) (src : HapSrc) (msg : Bytes) (s : State), (s.hears src msg 7 false) ∧ (1 ≤
  leAt (hapParse src msg).body 4 2 ∧ leAt (hapParse src msg).body 4 2 ≤ 1376) ∧ ((hapParse src msg).body.length = 8 + leAt
  (hapParse src msg).body 4 2) ∧ (s.orphanOf (hapParse src msg) = none) ∧ (s.stagingBusy true = false) ∧
  (s.host.imageClaim.all (fun k => k.key == (hapParse src msg).key) = true) ∧ (leAt (hapParse src msg).body 0 4 + leAt
  (hapParse src msg).body 4 2 ≤ 0x4000000) ∧ (s.reasmOf (hapParse src msg) = some c) ∧ ((hapParse src msg).seg < c.segs) ∧
  (c.got.contains (hapParse src msg).seg = false) ∧ ((sins c.got (hapParse src msg).seg).length ≠ c.segs) :=
  ⟨⟨1, 9, 7, 3, [0], 1, aHost, 0, 0⟩, aSrc, hmsg 7 1 3 [1, 0, 0, 0, 1, 0, 0, 0, 9], openUp ⟨1, 9, 7, 3, [0], 1, aHost, 0,
    0⟩, by decide +kernel⟩

set_option maxRecDepth 100000 in
theorem test_wit_HapChunks_8 : ∃ (c : Reasm) (src : HapSrc) (msg : Bytes) (s : State), (s.hears src msg 7 false) ∧ (1 ≤
  leAt (hapParse src msg).body 4 2 ∧ leAt (hapParse src msg).body 4 2 ≤ 1376) ∧ ((hapParse src msg).body.length = 8 + leAt
  (hapParse src msg).body 4 2) ∧ (s.orphanOf (hapParse src msg) = none) ∧ (s.stagingBusy true = false) ∧
  (s.host.imageClaim.all (fun k => k.key == (hapParse src msg).key) = true) ∧ (leAt (hapParse src msg).body 0 4 + leAt
  (hapParse src msg).body 4 2 ≤ 0x4000000) ∧ (s.reasmOf (hapParse src msg) = some c) ∧ ((hapParse src msg).seg < c.segs) ∧
  (c.got.contains (hapParse src msg).seg = false) ∧ ((sins c.got (hapParse src msg).seg).length = c.segs) :=
  ⟨⟨1, 9, 7, 3, [0, 1], 2, aHost, 0, 0⟩, aSrc, hmsg 7 2 3 [1, 0, 0, 0, 1, 0, 0, 0, 9], openUp ⟨1, 9, 7, 3, [0, 1], 2,
    aHost, 0, 0⟩, by decide +kernel⟩

set_option maxRecDepth 100000 in
theorem test_wit_HapChunks_9 : ∃ (x : Nat × Bool × Instr) (src : HapSrc) (msg : Bytes) (s : State), (x ∈ [((6 : Nat),
  false, Instr.boardChunk src msg), (7, true, .updateChunk src msg)]) ∧ (s.hears src msg x.1 false) ∧ (leAt (hapParse src
  msg).body 4 2 = 0 ∨ 1376 < leAt (hapParse src msg).body 4 2 ∨ (hapParse src msg).body.length ≠ 8 + leAt (hapParse src
  msg).body 4 2) :=
  ⟨(6, false, .boardChunk aSrc (hmsg 6 0 3 [1, 0, 0, 0, 0, 0, 0, 0, 9])), aSrc, hmsg 6 0 3 [1, 0, 0, 0, 0, 0, 0, 0, 9],
    hostUp [], by decide +kernel⟩

set_option maxRecDepth 100000 in
theorem test_wit_HapChunks_10 : ∃ (x : Nat × Bool × Instr) (o : Orphan) (src : HapSrc) (msg : Bytes) (s : State), (x ∈ [((6
  : Nat), false, Instr.boardChunk src msg), (7, true, .updateChunk src msg)]) ∧ (s.hears src msg x.1 false) ∧ (1 ≤ leAt
  (hapParse src msg).body 4 2 ∧ leAt (hapParse src msg).body 4 2 ≤ 1376) ∧ ((hapParse src msg).body.length = 8 + leAt
  (hapParse src msg).body 4 2) ∧ (s.orphanOf (hapParse src msg) = some o) ∧ (o.answered = true) :=
  ⟨(7, true, .updateChunk aSrc (hmsg 7 0 3 [1, 0, 0, 0, 1, 0, 0, 0, 9])), ⟨1, 9, 5, true⟩, aSrc, hmsg 7 0 3 [1, 0, 0, 0, 1,
    0, 0, 0, 9], { hostUp [] with host := { (hostUp []).host with orphans := [⟨1, 9, 5, true⟩] } }, by decide +kernel⟩

set_option maxRecDepth 100000 in
theorem test_wit_HapChunks_11 : ∃ (x : Nat × Bool × Instr) (o : Orphan) (src : HapSrc) (msg : Bytes) (s : State), (x ∈ [((6
  : Nat), false, Instr.boardChunk src msg), (7, true, .updateChunk src msg)]) ∧ (s.hears src msg x.1 false) ∧ (1 ≤ leAt
  (hapParse src msg).body 4 2 ∧ leAt (hapParse src msg).body 4 2 ≤ 1376) ∧ ((hapParse src msg).body.length = 8 + leAt
  (hapParse src msg).body 4 2) ∧ (s.orphanOf (hapParse src msg) = some o) ∧ (o.answered = false) :=
  ⟨(7, true, .updateChunk aSrc (hmsg 7 0 3 [1, 0, 0, 0, 1, 0, 0, 0, 9])), ⟨1, 9, 5, false⟩, aSrc, hmsg 7 0 3 [1, 0, 0, 0,
    1, 0, 0, 0, 9], { hostUp [] with host := { (hostUp []).host with orphans := [⟨1, 9, 5, false⟩] } }, by decide +kernel⟩

set_option maxRecDepth 100000 in
theorem test_wit_HapChunks_12 : ∃ (x : Nat × Bool × Instr) (src : HapSrc) (msg : Bytes) (s : State), (x ∈ [((6 : Nat),
  false, Instr.boardChunk src msg), (7, true, .updateChunk src msg)]) ∧ (s.hears src msg x.1 false) ∧ (1 ≤ leAt (hapParse
  src msg).body 4 2 ∧ leAt (hapParse src msg).body 4 2 ≤ 1376) ∧ ((hapParse src msg).body.length = 8 + leAt (hapParse src
  msg).body 4 2) ∧ (s.orphanOf (hapParse src msg) = none) ∧ (s.stagingBusy x.2.1 = true ∨ (s.claim x.2.1).any (fun k =>
  k.key != (hapParse src msg).key) = true) :=
  ⟨(6, false, .boardChunk aSrc (hmsg 6 0 3 [1, 0, 0, 0, 1, 0, 0, 0, 9])), aSrc, hmsg 6 0 3 [1, 0, 0, 0, 1, 0, 0, 0, 9],
    { hostUp [] with host := { (hostUp []).host with boardClaim := some ⟨2, 0, 0⟩ } }, by decide +kernel⟩

set_option maxRecDepth 100000 in
theorem test_wit_HapChunks_13 : ∃ (x : Nat × Bool × Instr) (src : HapSrc) (msg : Bytes) (s : State), (x ∈ [((6 : Nat),
  false, Instr.boardChunk src msg), (7, true, .updateChunk src msg)]) ∧ (s.hears src msg x.1 false) ∧ (1 ≤ leAt (hapParse
  src msg).body 4 2 ∧ leAt (hapParse src msg).body 4 2 ≤ 1376) ∧ ((hapParse src msg).body.length = 8 + leAt (hapParse src
  msg).body 4 2) ∧ (s.orphanOf (hapParse src msg) = none) ∧ (s.stagingBusy x.2.1 = false) ∧ ((s.claim x.2.1).all (fun k =>
  k.key == (hapParse src msg).key) = true) ∧ ((if x.2.1 then 0x4000000 else 0x10000000) < leAt (hapParse src msg).body 0 4
  + leAt (hapParse src msg).body 4 2) :=
  ⟨(6, false, .boardChunk aSrc (hmsg 6 0 3 [0, 0, 0, 0x10, 1, 0, 0, 0, 9])), aSrc, hmsg 6 0 3 [0, 0, 0, 0x10, 1, 0, 0, 0,
    9], hostUp [], by decide +kernel⟩

set_option maxRecDepth 100000 in
theorem test_wit_HapChunks_14 : ∃ (x : Nat × Bool × Instr) (src : HapSrc) (msg : Bytes) (s : State), (x ∈ [((6 : Nat),
  false, Instr.boardChunk src msg), (7, true, .updateChunk src msg)]) ∧ (s.hears src msg x.1 false) ∧ (1 ≤ leAt (hapParse
  src msg).body 4 2 ∧ leAt (hapParse src msg).body 4 2 ≤ 1376) ∧ ((hapParse src msg).body.length = 8 + leAt (hapParse src
  msg).body 4 2) ∧ (s.orphanOf (hapParse src msg) = none) ∧ (s.stagingBusy x.2.1 = false) ∧ ((s.claim x.2.1).all (fun k =>
  k.key == (hapParse src msg).key) = true) ∧ (leAt (hapParse src msg).body 0 4 + leAt (hapParse src msg).body 4 2 ≤ (if
  x.2.1 then 0x4000000 else 0x10000000)) ∧ (s.reasmOf (hapParse src msg) = none) ∧ (16 ≤ s.host.reasm.length) :=
  ⟨(7, true, .updateChunk aSrc (hmsg 7 0 3 [1, 0, 0, 0, 1, 0, 0, 0, 9])), aSrc, hmsg 7 0 3 [1, 0, 0, 0, 1, 0, 0, 0, 9],
    { hostUp [] with host := { (hostUp []).host with reasm := List.replicate 16 theReasm } }, by decide +kernel⟩

set_option maxRecDepth 100000 in
theorem test_wit_HapChunks_15 : ∃ (x : Nat × Bool × Instr) (c : Reasm) (src : HapSrc) (msg : Bytes) (s : State), (x ∈ [((6
  : Nat), false, Instr.boardChunk src msg), (7, true, .updateChunk src msg)]) ∧ (s.hears src msg x.1 false) ∧ (1 ≤ leAt
  (hapParse src msg).body 4 2 ∧ leAt (hapParse src msg).body 4 2 ≤ 1376) ∧ ((hapParse src msg).body.length = 8 + leAt
  (hapParse src msg).body 4 2) ∧ (s.orphanOf (hapParse src msg) = none) ∧ (s.stagingBusy x.2.1 = false) ∧ ((s.claim
  x.2.1).all (fun k => k.key == (hapParse src msg).key) = true) ∧ (leAt (hapParse src msg).body 0 4 + leAt (hapParse src
  msg).body 4 2 ≤ (if x.2.1 then 0x4000000 else 0x10000000)) ∧ (s.reasmOf (hapParse src msg) = some c) ∧ (c.segs ≤
  (hapParse src msg).seg) :=
  ⟨(6, false, .boardChunk aSrc (hmsg 6 4 5 [1, 0, 0, 0, 1, 0, 0, 0, 9])), theReasm, aSrc, hmsg 6 4 5 [1, 0, 0, 0, 1, 0, 0,
    0, 9], openUp theReasm, by decide +kernel⟩

set_option maxRecDepth 100000 in
theorem test_wit_HapChunks_16 : ∃ (x : Nat × Bool × Instr) (c : Reasm) (src : HapSrc) (msg : Bytes) (s : State), (x ∈ [((6
  : Nat), false, Instr.boardChunk src msg), (7, true, .updateChunk src msg)]) ∧ (s.hears src msg x.1 false) ∧ (1 ≤ leAt
  (hapParse src msg).body 4 2 ∧ leAt (hapParse src msg).body 4 2 ≤ 1376) ∧ ((hapParse src msg).body.length = 8 + leAt
  (hapParse src msg).body 4 2) ∧ (s.orphanOf (hapParse src msg) = none) ∧ (s.stagingBusy x.2.1 = false) ∧ ((s.claim
  x.2.1).all (fun k => k.key == (hapParse src msg).key) = true) ∧ (leAt (hapParse src msg).body 0 4 + leAt (hapParse src
  msg).body 4 2 ≤ (if x.2.1 then 0x4000000 else 0x10000000)) ∧ (s.reasmOf (hapParse src msg) = some c) ∧ ((hapParse src
  msg).seg < c.segs ∧ c.got.contains (hapParse src msg).seg = true) :=
  ⟨(6, false, .boardChunk aSrc (hmsg 6 0 3 [1, 0, 0, 0, 1, 0, 0, 0, 9])), theReasm, aSrc, hmsg 6 0 3 [1, 0, 0, 0, 1, 0, 0,
    0, 9], openUp theReasm, by decide +kernel⟩

set_option maxRecDepth 100000 in
theorem test_wit_HapChunks_17 : ∃ (k : BitVec 8) (x : Word) (c : Reasm) (s : State), (s.host.reasm.find? (fun r => r.key ==
  k.toNat && r.xid == x) = some c) :=
  ⟨1, 9, theReasm, { hostUp [] with host := { (hostUp []).host with reasm := [theReasm] } }, by decide +kernel⟩

theorem test_wit_HapChunks_18 : ∃ (k : BitVec 8) (x : Word) (s : State), (s.host.reasm.find? (fun r => r.key == k.toNat &&
  r.xid == x) = none) :=
  ⟨1, 9, up, by decide⟩

set_option maxRecDepth 100000 in
theorem test_wit_HapResetPair_1 : ∃ (r : Nat) (src : HapSrc) (msg : Bytes) (s : State), (s.hears src msg 9 false) ∧
  ((hapParse src msg).reach = some r) :=
  ⟨1, aSrc, hmsg 9 0 1 [1, 0, 0, 0], hostUp [], by decide +kernel⟩

set_option maxRecDepth 100000 in
theorem test_wit_HapResetPair_2 : ∃ (r : Nat) (src : HapSrc) (msg : Bytes) (s : State), (s.hears src msg 10 false) ∧
  ((hapParse src msg).reach = some r) ∧ (s.reg Reg.hapArm = BitVec.ofNat 32 (1 + r * 2 + (hapParse src msg).key * 16)) ∧
  (s.opNs ≤ s.host.armEnd) :=
  ⟨1, aSrc, hmsg 10 0 1 [1, 0, 0, 0], hostUp [(Reg.hapArm, 0x13)], by decide +kernel⟩

set_option maxRecDepth 100000 in
theorem test_wit_HapResetPair_3 : ∃ (r : Nat) (src : HapSrc) (msg : Bytes) (s : State), (s.hears src msg 10 false) ∧
  ((hapParse src msg).reach = some r) ∧ (s.reg Reg.hapArm ≠ BitVec.ofNat 32 (1 + r * 2 + (hapParse src msg).key * 16) ∨
  s.host.armEnd < s.opNs) :=
  ⟨1, aSrc, hmsg 10 0 1 [1, 0, 0, 0], hostUp [], by decide +kernel⟩

theorem test_wit_HapResetPair_4 : ∃ (r e : Nat) (s : State), (s.host.fire = some (r, e)) :=
  ⟨1, 7, { up with host := { up.host with fire := some (1, 7) } }, by decide⟩

theorem test_wit_HapResetPair_5 : ∃ (s : State), (s.host.fire = none) :=
  ⟨up, by decide⟩

theorem test_wit_HapResetPair_6 : ∃ (s : State), (bit (s.reg Reg.hapArm) 0 = true) :=
  ⟨upWith [(Reg.hapArm, 0x13)], by decide⟩

set_option maxRecDepth 100000 in
theorem test_wit_HapResetPair_7 : ∃ (r : ReadRun) (src : HapSrc) (msg : Bytes) (s : State), (s.hears src msg 8 false) ∧
  ((hapParse src msg).body.length = 8) ∧ (4100 ≤ leAt (hapParse src msg).body 4 4 ∧ leAt (hapParse src msg).body 4 4 ≤
  262144) ∧ (r = ((s.hapAccept msg).setReg Reg.recRdLen (BitVec.ofNat 32 (leAt (hapParse src msg).body 4 4))).readBatch
  (BitVec.ofNat 32 (leAt (hapParse src msg).body 0 4))) :=
  ⟨(((hostUp []).hapAccept (hmsg 8 0 1 [0, 0, 0, 0, 0, 0x20, 0, 0])).setReg Reg.recRdLen 0x2000).readBatch 0, aSrc, hmsg 8
    0 1 [0, 0, 0, 0, 0, 0x20, 0, 0], hostUp [], by decide +kernel⟩

set_option maxRecDepth 100000 in
theorem test_wit_HapResetPair_8 : ∃ (src : HapSrc) (msg : Bytes) (s : State), (s.hears src msg 8 false) ∧ ((hapParse src
  msg).body.length = 8) ∧ (leAt (hapParse src msg).body 4 4 < 4100 ∨ 262144 < leAt (hapParse src msg).body 4 4) :=
  ⟨aSrc, hmsg 8 0 1 (zeros 8), hostUp [], by decide +kernel⟩

theorem test_wit_HostKeys_1 : ∃ (v : Word) (n : Fin 8) (k : Option (BitVec 8)) (s : State), (s.domainUp 8 = true) ∧ (bits v
  31 16 = 0x4B59) ∧ (bits v 7 4 = 1) ∧ (n.val = bits v 2 0) ∧ (k.map (fun x => x.toNat) ≠ some n.val) :=
  ⟨0x4B590001 + 1 * 16, 1, some 2, up, by decide⟩

theorem test_wit_HostKeys_2 : ∃ (v : Word) (n : Fin 8) (k : Option (BitVec 8)) (s : State), (s.domainUp 8 = true) ∧ (bits v
  31 16 = 0x4B59) ∧ (bits v 7 4 = 2) ∧ (n.val = bits v 2 0) ∧ (k.map (fun x => x.toNat) ≠ some n.val) ∧ (bit (s.reg
  Reg.hapKeyStat) (8 + n) = true) :=
  ⟨0x4B590001 + 2 * 16, 1, some 2, upWith [(Reg.hapKeyStat, 0x200)], by decide⟩

theorem test_wit_HostKeys_3 : ∃ (v : Word) (n : Fin 8) (k : Option (BitVec 8)) (s : State), (s.domainUp 8 = true) ∧ (bits v
  31 16 = 0x4B59) ∧ (bits v 7 4 = 2) ∧ (n.val = bits v 2 0) ∧ (k.map (fun x => x.toNat) ≠ some n.val) ∧ (bit (s.reg
  Reg.hapKeyStat) (8 + n) = false) :=
  ⟨0x4B590001 + 2 * 16, 1, some 2, up, by decide⟩

theorem test_wit_HostKeys_4 : ∃ (v : Word) (n : Fin 8) (k : Option (BitVec 8)) (s : State), (s.domainUp 8 = true) ∧ (bits v
  31 16 = 0x4B59) ∧ (bits v 7 4 = 3) ∧ (n.val = bits v 2 0) ∧ (k.map (fun x => x.toNat) ≠ some n.val) :=
  ⟨0x4B590001 + 3 * 16, 1, some 2, up, by decide⟩

theorem test_wit_HostKeys_5 : ∃ (v : Word) (n : Fin 8) (k : Option (BitVec 8)) (s : State), (s.domainUp 8 = true) ∧ (bits v
  31 16 = 0x4B59) ∧ (bits v 7 4 = 4) ∧ (n.val = bits v 2 0) ∧ (k.map (fun x => x.toNat) ≠ some n.val) :=
  ⟨0x4B590001 + 4 * 16, 1, some 2, up, by decide⟩

theorem test_wit_HostKeys_6 : ∃ (v : Word) (k : BitVec 8) (x : Nat × Instr) (s : State), (s.domainUp 8 = true) ∧ (bits v 31
  16 = 0x4B59) ∧ (k.toNat = bits v 2 0) ∧ (x ∈ [((1 : Nat), Instr.hapKeyStore v (some k)), (2, .hapKeyEnable v (some k)),
  (3, .hapKeyDisable v (some k)), (4, .hapKeyErase v (some k))]) ∧ (bits v 7 4 = x.1) :=
  ⟨0x4B590021, 1, (2, .hapKeyEnable 0x4B590021 (some 1)), up, by decide⟩

theorem test_wit_HostKeys_7 : ∃ (s : State), (s.domainUp 8 = true) :=
  ⟨up, by decide⟩

set_option maxRecDepth 100000 in
theorem test_wit_HostPorts_1 : ∃ (p : Fin 3) (q : Nat) (d : Bytes) (x : Bytes × Nat) (f : Bytes) (s : State), (s.domainUp 8
  = true) ∧ (s.portCarries p = true) ∧ (d = slice f 0 6) ∧ ((leAt d 0 1).testBit 0 = false) ∧ (d ≠ s.hostMac ∧ d ≠ slice f
  6 6) ∧ (s.host.table.find? (fun y => y.1 == d) = some x) ∧ (x.2 = q) ∧ (q ≠ p.val ∧ q ≠ 2) ∧ (s.portCarries q = true) ∧
  (ptpEvent f = none) :=
  ⟨0, 1, [2, 0, 0, 0, 0, 0], ([2, 0, 0, 0, 0, 0], 1), [2, 0, 0, 0, 0, 0] ++ zeros 54,
    { upWith [(Reg.hstPort1, 2), (Reg.hstPort2, 2)] with host := { up.host with table := [([2, 0, 0, 0, 0, 0], 1)] } },
    by decide +kernel⟩

theorem test_wit_HostPorts_2 : ∃ (p : Fin 3) (a f : Bytes) (s : State), (s.domainUp 8 = true) ∧ (s.portCarries p = true) ∧
  (a = slice f 6 6) ∧ ((leAt a 0 1).testBit 0 = false) ∧ (s.host.table.length < 1024) :=
  ⟨2, zeros 6, zeros 60, up, by decide⟩

theorem test_wit_HostPorts_3 : ∃ (p : Fin 3) (f : Bytes) (ty : BitVec 4) (q : BitVec 16) (s : State), (s.domainUp 8 = true)
  ∧ (s.portCarries p = true) ∧ (p.val ≠ 2) ∧ (ptpEvent f = some (ty, q)) ∧ ((s.host.stamps.filter (fun y => y.port.val ==
  p.val)).length < 16) :=
  ⟨0, zeros 12 ++ [0x88, 0xF7, 0, 2] ++ zeros 46, 0, 0, upWith [(Reg.hstPort1, 2)], by decide⟩

theorem test_wit_HostPorts_4 : ∃ (p : Fin 2) (l : BitVec 2) (s : State), (s.domainUp 8 = true) ∧ (bit (s.reg (hstPort p)) 8
  = false) ∧ (l ≠ 3 ∧ l.toNat ≠ s.fld (hstPort p) 1 0) :=
  ⟨1, 0, upWith [(Reg.hstPort2, 2)], by decide⟩

theorem test_wit_HostPorts_5 : ∃ (p : Fin 2) (l : BitVec 2) (s : State), (s.domainUp 8 = true) ∧ (bit (s.reg (hstPort p)) 8
  = true) ∧ (s.fld (hstPort p) 1 0 = 0) :=
  ⟨1, 2, upWith [(Reg.hstPort2, 0x100)], by decide⟩

theorem test_wit_HostPorts_6 : ∃ (p : Fin 2) (a b : BitVec 64) (f : Bytes) (m : Nat) (ip : Option (Nat × Nat)) (s : State),
  (s.domainUp 8 = true) ∧ (s.portCarries p = true) ∧ (ptpAt f = some (m, ip)) ∧ (beAt f (m + 1) 1 % 16 = 2) ∧ (3 < beAt f m
  1 % 16 ∧ beAt f m 1 % 16 ≠ 9) :=
  ⟨0, 5, 9, zeros 12 ++ [0x88, 0xF7, 8, 2] ++ zeros 46, 14, none, upWith [(Reg.hstPort1, 2)], by decide⟩

theorem test_wit_HostPorts_7 : ∃ (p : Fin 2) (a b : BitVec 64) (f : Bytes) (m : Nat) (ip : Option (Nat × Nat)) (s : State),
  (s.domainUp 8 = true) ∧ (s.portCarries p = true) ∧ (ptpAt f = some (m, ip)) ∧ (beAt f (m + 1) 1 % 16 = 2) ∧ (beAt f m 1 %
  16 ≤ 3 ∧ (s.host.stamps.filter (fun y => y.port == p)).length < 16) :=
  ⟨0, 5, 9, zeros 12 ++ [0x88, 0xF7, 0, 2] ++ zeros 46, 14, none, upWith [(Reg.hstPort1, 2)], by decide⟩

set_option maxRecDepth 100000 in
theorem test_wit_HostPorts_8 : ∃ (p : Fin 2) (a b : BitVec 64) (f : Bytes) (m ty : Nat) (ip : Option (Nat × Nat)) (s :
  State), (s.domainUp 8 = true) ∧ (s.portCarries p = true) ∧ (s.portCarries (1 - p.val) = true) ∧ (ptpAt f = some (m, ip))
  ∧ (beAt f (m + 1) 1 % 16 = 2) ∧ (ty = beAt f m 1 % 16) ∧ (ty < 4) ∧ ((s.learn p.val f).forwardTo p.val f = [1 - p.val]) ∧
  (∀ q : Fin 2, (s.host.stamps.filter fun y => y.port == q).length < 16) ∧ (ty < 2) :=
  ⟨0, 5, 9, [2] ++ zeros 11 ++ [0x88, 0xF7, 0, 2] ++ zeros 46, 14, 0, none,
    { upWith [(Reg.hstPort1, 2), (Reg.hstPort2, 2)] with host := { up.host with table := [([2, 0, 0, 0, 0, 0], 1)] } },
    by decide +kernel⟩

set_option maxRecDepth 100000 in
theorem test_wit_HostPorts_9 : ∃ (p : Fin 2) (a b : BitVec 64) (f : Bytes) (m ty : Nat) (ip : Option (Nat × Nat)) (s :
  State), (s.domainUp 8 = true) ∧ (s.portCarries p = true) ∧ (s.portCarries (1 - p.val) = true) ∧ (ptpAt f = some (m, ip))
  ∧ (beAt f (m + 1) 1 % 16 = 2) ∧ (ty = beAt f m 1 % 16) ∧ (ty < 4) ∧ ((s.learn p.val f).forwardTo p.val f = [1 - p.val]) ∧
  (∀ q : Fin 2, (s.host.stamps.filter fun y => y.port == q).length < 16) ∧ (2 ≤ ty) :=
  ⟨0, 5, 9, [2] ++ zeros 11 ++ [0x88, 0xF7, 2, 2] ++ zeros 46, 14, 2, none,
    { upWith [(Reg.hstPort1, 2), (Reg.hstPort2, 2)] with host := { up.host with table := [([2, 0, 0, 0, 0, 0], 1)] } },
    by decide +kernel⟩

set_option maxRecDepth 100000 in
theorem test_wit_HostPorts_10 : ∃ (f g : Bytes) (m : Nat) (ip : Option (Nat × Nat)) (d : BitVec 64), (ptpAt f = some (m,
  ip)) ∧ (m + 20 ≤ f.length) ∧ (g = correctFrame f m ip d) :=
  ⟨zeros 12 ++ [0x88, 0xF7, 0, 2] ++ zeros 46, correctFrame (zeros 12 ++ [0x88, 0xF7, 0, 2] ++ zeros 46) 14 none 9, 14,
    none, 9, by decide +kernel⟩

set_option maxRecDepth 100000 in
theorem test_wit_HostPorts_11 : ∃ (p : Fin 2) (q : BitVec 16) (ts : BitVec 64) (m : SyncMsg) (u : BitVec 16) (d : Int) (s :
  State), (s.domainUp 8 = true) ∧ (s.portCarries p = true) ∧ (s.ptpSlave p.val = true) ∧ (m.domain = s.host.domain) ∧ (d =
  nsBetween (m.origin + m.corr) ts) ∧ (-2147483648 ≤ d - s.host.ptpDelay ∧ d - s.host.ptpDelay ≤ 2147483647) :=
  ⟨0, 1, 1200, ⟨0, 1000, 50⟩, 37, 150, syncUp, by decide +kernel⟩

theorem test_wit_HostPorts_12 : ∃ (p : Fin 2) (q : BitVec 16) (ts : BitVec 64) (m : SyncMsg) (u : BitVec 16) (s : State),
  (s.domainUp 8 = true) ∧ (s.portCarries p = true) ∧ (s.ptpSlave p.val = false ∨ m.domain ≠ s.host.domain) :=
  ⟨0, 1, 2, ⟨0, 3, 0⟩, 37, upWith [(Reg.hstPort1, 2)], by decide⟩

set_option maxRecDepth 100000 in
theorem test_wit_HostPorts_13 : ∃ (p : Fin 3) (f : Bytes) (m : Nat) (q : BitVec 16) (t3 : BitVec 64) (d : Int) (s : State),
  (s.domainUp 8 = true) ∧ (s.portCarries p = true) ∧ ((s.learn p.val f).forwardTo p.val f = [2]) ∧ (s.ptpSlave p.val =
  true) ∧ (s.host.ptpReq = some (q, t3)) ∧ (s.host.ptpSync = some d) ∧ (ptpMessage f = some m) ∧ (beAt f m 1 % 16 = 9) ∧
  (beAt f (m + 1) 1 % 16 = 2) ∧ (beAt f (m + 4) 1 = s.host.domain.toNat) ∧ (beAt f (m + 30) 2 = q.toNat) ∧ (slice f (m +
  44) 10 = s.ptpIdentity) :=
  ⟨0, delayFrame, 14, 1, 7, 5, { syncUp with host := { syncUp.host with ptpReq := some (1, 7), ptpSync := some 5 } },
    by decide +kernel⟩

theorem test_wit_HostPorts_14 : ∃ (p : Fin 2) (x : PtpState) (c : BitVec 64) (s : State), (s.domainUp 8 = true) ∧
  (s.host.ptp ≠ x) :=
  ⟨0, .slave, 7, up, by decide⟩

theorem test_wit_HostPorts_15 : ∃ (s : State), (s.domainUp 8 = true) :=
  ⟨up, by decide⟩

theorem test_wit_HostPorts_16 : ∃ (p : Fin 2) (f : Bytes) (r : Option Bytes) (s : State), (s.domainUp 8 = true) ∧
  (s.portCarries p = true) ∧ (r = (if beAt f 12 2 = 0x0806 then s.arpReply f else if beAt f 12 2 = 0x0800 then s.echo4 f
  else if beAt f 12 2 = 0x86DD then s.answer6 f else none)) ∧ (r.isSome = true) :=
  ⟨0, zeros 12 ++ [8, 6, 0, 1, 8, 0, 6, 4, 0, 1] ++ zeros 38, (upWith [(Reg.hstPort1, 2)]).arpReply (zeros 12 ++ [8, 6, 0,
    1, 8, 0, 6, 4, 0, 1] ++ zeros 38), upWith [(Reg.hstPort1, 2)], by decide⟩

theorem test_wit_HostPorts_17 : ∃ (p : Fin 2) (f : Bytes) (r : Option Bytes) (s : State), (s.domainUp 8 = true) ∧
  (s.portCarries p = true) ∧ (r = (if beAt f 12 2 = 0x0806 then s.arpReply f else if beAt f 12 2 = 0x0800 then s.echo4 f
  else if beAt f 12 2 = 0x86DD then s.answer6 f else none)) ∧ (r = none) :=
  ⟨0, zeros 60, none, upWith [(Reg.hstPort1, 2)], by decide⟩

theorem test_wit_HostPorts_18 : ∃ (v : Word) (s : State), (s.domainUp 8 = true) ∧ (v ≠ 0x00005A17) :=
  ⟨7, up, by decide⟩

theorem test_wit_HostPorts_19 : ∃ (s : State), (s.domainUp 8 = true) ∧ (s.host.wdtPaused = true) :=
  ⟨{ up with host := { up.host with wdtPaused := true } }, by decide⟩

theorem test_wit_HostPorts_20 : ∃ (s : State), (s.domainUp 8 = true) ∧ (s.host.wdtPaused = false) :=
  ⟨{ up with host := { up.host with wdtPaused := false } }, by decide⟩

theorem test_wit_HostPorts_21 : ∃ (k : Fin 8) (s : State), (s.domainUp 8 = true) ∧ (s.host.drops[k] ≠ 0) :=
  ⟨1, { up with host := { up.host with drops := up.host.drops.set 1 5 } }, by decide⟩

theorem test_wit_HostPorts_22 : ∃ (s : State), (s.domainUp 8 = true) ∧ (s.host.drops = Vector.replicate 8 0) :=
  ⟨{ up with host := { up.host with drops := Vector.replicate 8 0 } }, by decide⟩

set_option maxRecDepth 100000 in
theorem test_wit_CanTransmit_1 : ∃ (c : Fin 2) (b : Fin 3) (k : Bool) (s : State), (s.domainUp 8 = true) ∧ (s.txState c b ≠
  1) :=
  ⟨0, 1, true, canUp [], by decide +kernel⟩

set_option maxRecDepth 100000 in
theorem test_wit_CanTransmit_2 : ∃ (c : Fin 2) (b : Fin 3) (s : State), (s.domainUp 8 = true) ∧ (s.txState c b = 1) :=
  ⟨0, 1, canUp [(Reg.canTxStat 0, 0x10)], by decide +kernel⟩

set_option maxRecDepth 100000 in
theorem test_wit_CanTransmit_3 : ∃ (c : Fin 2) (b : Fin 3) (s : State), (s.domainUp 8 = true) ∧ (s.txState c b ≠ 1) ∧
  (s.canMode c = 1 ∨ s.canMode c = 3) ∧ (s.canErr c ≠ 2) ∧ (s.can[c].onBus = none) ∧ (s.can[c].foreign = false) ∧
  (s.can[c].first = none) ∧ (∀ a : Fin 3, a ≠ b → s.txState c a ≠ 1) :=
  ⟨0, 1, canUp [], by decide +kernel⟩

set_option maxRecDepth 100000 in
theorem test_wit_CanTransmit_4 : ∃ (a b : Fin 3) (c : Fin 2) (s : State), (s.txState c a = 1) ∧ (s.txState c b = 1) ∧ (a ≠
  b) ∧ (∀ d : Fin 3, s.txState c d = 1 → d = a ∨ d = b) ∧ (s.can[c].first = none) ∧ (bit (s.reg (Reg.canCtrl c)) 3 = true)
  :=
  ⟨1, 2, 0, canUp [(Reg.canTxStat 0, 0x110), (Reg.canCtrl 0, 9)], by decide +kernel⟩

set_option maxRecDepth 100000 in
theorem test_wit_CanTransmit_5 : ∃ (a b : Fin 3) (c : Fin 2) (s : State), (s.txState c a = 1) ∧ (s.txState c b = 1) ∧ (a ≠
  b) ∧ (∀ d : Fin 3, s.txState c d = 1 → d = a ∨ d = b) ∧ (s.can[c].first = none) ∧ (bit (s.reg (Reg.canCtrl c)) 3 = false
  ∧ arbKey (s.txHdr c a 0) < arbKey (s.txHdr c b 0)) :=
  ⟨2, 1, 0, canUp [(Reg.canTxStat 0, 0x110), (Reg.bank 1 (Reg.canTxHdr0 0), 0x40000)], by decide +kernel⟩

theorem test_wit_CanTransmit_6 : ∃ (c : Fin 2) (b : Fin 3) (s : State), (s.domainUp 8 = true) ∧ (s.txState c b = 1) ∧
  (s.can[c].onBus = some b.val) :=
  ⟨0, 1, canSends [], by decide⟩

set_option maxRecDepth 100000 in
theorem test_wit_CanTransmit_7 : ∃ (c : Fin 2) (b : Fin 3) (s : State), (s.domainUp 8 = true) ∧ (s.txState c b = 1) ∧
  (s.can[c].onBus ≠ some b.val) :=
  ⟨0, 1, canUp [(Reg.canTxStat 0, 0x10)], by decide +kernel⟩

theorem test_wit_CanTransmit_8 : ∃ (c : Fin 2) (b : Fin 3) (s : State), (s.can[c].onBus = some b.val) ∧ (s.canMode c = 1)
  :=
  ⟨0, 1, canSends [], by decide⟩

theorem test_wit_CanTransmit_9 : ∃ (c : Fin 2) (b : Fin 3) (s : State), (s.can[c].onBus = some b.val) ∧ (s.txState c b = 1)
  :=
  ⟨0, 1, canSends [], by decide⟩

theorem test_wit_CanTransmit_10 : ∃ (c : Fin 2) (b : Fin 3) (l : BitVec 4) (k e : Bool) (n : Nat) (s : State),
  (s.can[c].onBus = some b.val) ∧ (s.txState c b = 1) ∧ (l ≠ 3) ∧ (n = s.fld (Reg.canErr c) 8 0 + (if l = 1 ∧ e = true then
  0 else 8)) ∧ (n ≤ 255) :=
  ⟨0, 1, 2, true, false, 8, canSends [], by decide⟩

theorem test_wit_CanTransmit_11 : ∃ (c : Fin 2) (b : Fin 3) (l : BitVec 4) (k e : Bool) (n : Nat) (s : State),
  (s.can[c].onBus = some b.val) ∧ (s.txState c b = 1) ∧ (l ≠ 3) ∧ (n = s.fld (Reg.canErr c) 8 0 + (if l = 1 ∧ e = true then
  0 else 8)) ∧ (255 < n) :=
  ⟨0, 1, 2, false, false, 256, canSends [(Reg.canErr 0, 0x010000F8)], by decide⟩

theorem test_wit_CanTransmit_12 : ∃ (c : Fin 2) (b : Fin 3) (k e : Bool) (s : State), (s.can[c].onBus = some b.val) ∧
  (s.canErr c ≠ 2) ∧ (s.canErr c = 1 ∧ s.fld (Reg.canErr c) 8 0 ≤ 255) :=
  ⟨0, 1, false, false, canSends [(Reg.canErr 0, 0x010000F8)], by decide⟩

set_option maxRecDepth 100000 in
theorem test_wit_CanTransmit_13 : ∃ (c : Fin 2) (b : Fin 3) (s : State), (s.domainUp 8 = true) ∧ (s.canMode c = 1) ∧
  (s.can[c].onBus = none) ∧ (s.txState c b ≠ 1) :=
  ⟨0, 1, canUp [], by decide +kernel⟩

theorem test_wit_CanTransmit_14 : ∃ (c : Fin 2) (b : Fin 3) (v : Word) (k : Bool) (s : State), (s.domainUp 8 = true) ∧
  (s.canMode c = 1 ∨ s.canMode c = 3) ∧ (s.can[c].onBus = some b.val) ∧ (s.txState c b = 1) ∧ (bits v 1 0 = 0 ∨ bits v 1 0
  = 2) :=
  ⟨0, 1, 2, true, canSends [], by decide⟩

set_option maxRecDepth 100000 in
theorem test_wit_CanTransmit_15 : ∃ (c : Fin 2) (b : Fin 3) (s : State), (bit (s.canSent c b).1 30 = true) :=
  ⟨0, 1, canUp [(Reg.bank 1 (Reg.canTxHdr0 0), 0x40000000)], by decide +kernel⟩

set_option maxRecDepth 100000 in
theorem test_wit_CanTransmit_16 : ∃ (c : Fin 2) (b : Fin 3) (s : State), (bit (s.txHdr c b 0) 31 = false ∨ bit (s.reg
  (Reg.canCtrl c)) 2 = false) :=
  ⟨0, 1, canUp [], by decide +kernel⟩

set_option maxRecDepth 100000 in
theorem test_wit_CanTransmit_17 : ∃ (c : Fin 2) (b : Fin 3) (s : State), (bit (s.canSent c b).1 29 = false) :=
  ⟨0, 1, canUp [(Reg.bank 1 (Reg.canTxHdr0 0), 0x3FFFF)], by decide +kernel⟩

set_option maxRecDepth 100000 in
theorem test_wit_CanReceiveAndErrors_1 : ∃ (f : Nat) (c : Fin 2) (h0 h1 : Word) (d : Bytes) (s : State), (s.domainUp 8 =
  true) ∧ (s.canMode c = 1 ∨ s.canMode c = 2) ∧ (s.canErr c ≠ 2) ∧ (bit h0 31 = false ∨ bit (s.reg (Reg.canCtrl c)) 2 =
  true) ∧ ((List.range 16).find? (s.canMatch c (canHdr0 h0)) = some f) ∧ (s.fld (Reg.bank f (Reg.canFmatch c)) 30 30 = 0) ∧
  (s.can[c].q0.length < 32) ∧ (s.stewardUp = true ∧ s.inRecovery = false ∧ s.handingOver = false ∧ s.domainUp 2 = true) :=
  ⟨0, 0, 7, 1, [9], canUp [(Reg.bank 0 (Reg.canFmatch 0), 0x80000000), (Reg.secStat, 2)], by decide +kernel⟩

set_option maxRecDepth 100000 in
theorem test_wit_CanReceiveAndErrors_2 : ∃ (f : Nat) (c : Fin 2) (h0 h1 : Word) (d : Bytes) (s : State), (s.domainUp 8 =
  true) ∧ (s.canMode c = 1 ∨ s.canMode c = 2) ∧ (s.canErr c ≠ 2) ∧ (bit h0 31 = false ∨ bit (s.reg (Reg.canCtrl c)) 2 =
  true) ∧ ((List.range 16).find? (s.canMatch c (canHdr0 h0)) = some f) ∧ (s.fld (Reg.bank f (Reg.canFmatch c)) 30 30 = 0) ∧
  (32 ≤ s.can[c].q0.length) :=
  ⟨0, 0, 7, 1, [9], (canUp [(Reg.bank 0 (Reg.canFmatch 0), 0x80000000)]).modCan 0 fun x =>
    { x with q0 := List.replicate 32 ⟨0, 0, [], none⟩ }, by decide +kernel⟩

set_option maxRecDepth 100000 in
theorem test_wit_CanReceiveAndErrors_3 : ∃ (c : Fin 2) (h0 h1 : Word) (d : Bytes) (s : State), (s.domainUp 8 = true) ∧
  (s.canMode c = 1 ∨ s.canMode c = 2) ∧ (s.canErr c ≠ 2) ∧ (bit h0 31 = false ∨ bit (s.reg (Reg.canCtrl c)) 2 = true) ∧
  ((List.range 16).find? (s.canMatch c (canHdr0 h0)) = none) :=
  ⟨0, 7, 1, [9], canUp [], by decide +kernel⟩

theorem test_wit_CanReceiveAndErrors_4 : ∃ (c : Fin 2) (s : State), (s.domainUp 8 = true) ∧ (bit (s.reg (Reg.canRxSel c)) 0
  = false) :=
  ⟨0, up, by decide⟩

theorem test_wit_CanReceiveAndErrors_5 : ∃ (c : Fin 2) (s : State), (s.domainUp 8 = true) ∧ (bit (s.reg (Reg.canRxSel c)) 0
  = true) :=
  ⟨0, upWith [(Reg.canRxSel 0, 1)], by decide⟩

set_option maxRecDepth 100000 in
theorem test_wit_CanReceiveAndErrors_6 : ∃ (c : Fin 2) (l : BitVec 4) (dom : Bool) (r : Nat) (s : State), (s.canMode c = 1)
  ∧ (s.canErr c ≠ 2) ∧ (s.fld (Reg.canErr c) 8 0 ≤ 255) ∧ (r = s.fld (Reg.canErr c) 23 16 + (if dom then 8 else 1)) :=
  ⟨0, 4, true, 8, canUp [], by decide +kernel⟩

theorem test_wit_CanReceiveAndErrors_7 : ∃ (c : Fin 2) (l : BitVec 4) (dom : Bool) (s : State), (s.canMode c = 2) ∧
  (s.canErr c ≠ 2) :=
  ⟨0, 4, true, upWith [(Reg.canCtrl 0, 2)], by decide⟩

set_option maxRecDepth 100000 in
theorem test_wit_CanReceiveAndErrors_8 : ∃ (c : Fin 2) (s : State), (s.domainUp 8 = true) ∧ (s.canErr c = 2) ∧ (bit (s.reg
  (Reg.canErr c)) 26 = false ∧ s.can[c].delayMs ≠ 0 ∧ s.stewardUp = true) :=
  ⟨0, (canUp [(Reg.canErr 0, 0x02000000), (Reg.secStat, 2)]).modCan 0 fun x => { x with delayMs := 1000 },
    by decide +kernel⟩

set_option maxRecDepth 100000 in
theorem test_wit_CanReceiveAndErrors_9 : ∃ (c : Fin 2) (s : State), (s.domainUp 8 = true) ∧ (s.canErr c = 2) ∧
  (s.can[c].delayMs = 0) :=
  ⟨0, (canUp [(Reg.canErr 0, 0x02000000)]).modCan 0 fun x => { x with delayMs := 0 }, by decide +kernel⟩

set_option maxRecDepth 100000 in
theorem test_wit_CanReceiveAndErrors_10 : ∃ (c : Fin 2) (s : State), (s.domainUp 8 = true) ∧ (s.canErr c = 2) ∧ (bit (s.reg
  (Reg.canErr c)) 26 = true) :=
  ⟨0, canUp [(Reg.canErr 0, 0x06000000)], by decide +kernel⟩

set_option maxRecDepth 100000 in
theorem test_wit_CanReceiveAndErrors_11 : ∃ (c : Fin 2) (s : State), (s.domainUp 8 = true) ∧ (s.canErr c ≠ 2) :=
  ⟨0, canUp [], by decide +kernel⟩

set_option maxRecDepth 100000 in
theorem test_wit_CanReceiveAndErrors_12 : ∃ (c : Fin 2) (s : State), (s.domainUp 8 = true) ∧ (s.canMode c = 1 ∨ s.canMode c
  = 2) ∧ (s.can[c].hist.all (fun h => decide (h + 3600000 < s.opTime.toNat)) = true) :=
  ⟨0, canUp [], by decide +kernel⟩

set_option maxRecDepth 100000 in
theorem test_wit_CanReceiveAndErrors_13 : ∃ (c : Fin 2) (s : State), (s.domainUp 8 = true) ∧ (s.canMode c = 1 ∨ s.canMode c
  = 2) ∧ (s.can[c].hist.any (fun h => decide (s.opTime.toNat ≤ h + 3600000)) = true) :=
  ⟨0, (canUp []).modCan 0 fun x => { x with hist := [0] }, by decide +kernel⟩

theorem test_wit_CanReceiveAndErrors_14 : ∃ (c : Fin 2) (v : Word) (k : Bool) (s : State), (s.domainUp 8 = true) ∧
  (s.canRetired c = false) ∧ (s.canMode c = 0) ∧ (bits v 1 0 ≠ 0) ∧ (canTimingOk (s.reg (Reg.canNbt c)) (s.reg (Reg.canDbt
  c)) (bit v 2) = false) :=
  ⟨0, 1, true, up, by decide⟩

theorem test_wit_CanReceiveAndErrors_15 : ∃ (c : Fin 2) (v : Word) (k : Bool) (s : State), (s.domainUp 8 = true) ∧
  (s.canRetired c = false) ∧ (s.canMode c = 0) ∧ (bits v 1 0 ≠ 0) ∧ (canTimingOk (s.reg (Reg.canNbt c)) (s.reg (Reg.canDbt
  c)) (bit v 2) = true) :=
  ⟨0, 1, true, upWith [(Reg.canNbt 0, 0x04892604), (Reg.canDbt 0, 0x94441200)], by decide⟩

theorem test_wit_FieldBlock_1 : ∃ (c : Fin 16) (lv br : BitVec 16) (s : State), (s.domainUp 9 = true) ∧ (s.isOutput c =
  false) ∧ (bit (s.fioCfg c) 6 = false) ∧ (bit (s.reg Reg.fioIn) (16 + c) = false) ∧ (s.fio.ch[c].brk = false) ∧
  (s.fio.ch[c].cand = lv.getLsbD c ∧ bits (s.fioCfg c) 5 2 ≤ s.fio.ch[c].candN) :=
  ⟨3, 0, 0, up, by decide⟩

theorem test_wit_FieldBlock_2 : ∃ (c : Fin 16) (lv br : BitVec 16) (s : State), (s.domainUp 9 = true) ∧ (s.isOutput c =
  false) ∧ (bit (s.fioCfg c) 6 = false) ∧ (bit (s.reg Reg.fioIn) (16 + c) = false) ∧ (s.fio.ch[c].brk = false) ∧
  (s.fio.ch[c].cand ≠ lv.getLsbD c ∧ bits (s.fioCfg c) 5 2 ≠ 0) :=
  ⟨3, 8, 0, upWith [(Reg.bank 3 Reg.fioCfg, 0xC)], by decide⟩

set_option maxRecDepth 100000 in
theorem test_wit_FieldBlock_3 : ∃ (c : Fin 16) (s : State), (s.domainUp 9 = true) ∧ (bit (s.reg Reg.fioOut) (16 + c) =
  true) ∧ (s.fio.ch[c].warm = false) ∧ (s.fld (Reg.bank c Reg.fioCnt) 2 0 < 3) :=
  ⟨3, fioUp [(Reg.bank 3 Reg.fioCnt, 2)], by decide +kernel⟩

set_option maxRecDepth 100000 in
theorem test_wit_FieldBlock_4 : ∃ (c : Fin 16) (s : State), (s.domainUp 9 = true) ∧ (bit (s.reg Reg.fioOut) (16 + c) =
  true) ∧ (s.fio.ch[c].warm = false) ∧ (3 ≤ s.fld (Reg.bank c Reg.fioCnt) 2 0) :=
  ⟨3, fioUp [(Reg.bank 3 Reg.fioCnt, 3)], by decide +kernel⟩

set_option maxRecDepth 100000 in
theorem test_wit_FieldBlock_5 : ∃ (c : Fin 16) (s : State), (bit (s.reg Reg.fioSafe) (16 + c) = true) ∧ (s.fld Reg.fioLplus
  13 12 ≠ 2) :=
  ⟨3, fioUp [(Reg.fioSafe, 0x80000)], by decide +kernel⟩

set_option maxRecDepth 100000 in
theorem test_wit_FieldBlock_6 : ∃ (c : Fin 16) (s : State), (bit (s.reg Reg.fioSafe) (16 + c) = true) ∧ (s.fld Reg.fioLplus
  13 12 = 2) :=
  ⟨3, fioUp [(Reg.fioSafe, 0x80000), (Reg.fioLplus, 0x2000)], by decide +kernel⟩

set_option maxRecDepth 100000 in
theorem test_wit_FieldBlock_7 : ∃ (c : Fin 16) (s : State), (bit (s.reg Reg.fioOut) (16 + c) = true) :=
  ⟨3, fioUp [], by decide +kernel⟩

set_option maxRecDepth 100000 in
theorem test_wit_FieldBlock_8 : ∃ (c : Fin 16) (s : State), (s.domainUp 9 = true) ∧ (s.isOutput c = true) ∧ (bit (s.reg
  Reg.fioOut) (16 + c) = false) ∧ (s.shared c = false) :=
  ⟨3, fioUp [(Reg.fioOut, 0)], by decide +kernel⟩

set_option maxRecDepth 100000 in
theorem test_wit_FieldBlock_9 : ∃ (c : Fin 16) (s : State), (s.domainUp 9 = true) ∧ (s.isOutput c = true) ∧ (bit (s.reg
  Reg.fioOut) (16 + c) = false) ∧ (s.shared c = true) :=
  ⟨3, fused (2 ^ 35) (fioUp [(Reg.fioOut, 0)]), by decide +kernel⟩

set_option maxRecDepth 100000 in
theorem test_wit_FieldBlock_10 : ∃ (m : BitVec 16) (c : Fin 16) (s : State), (s.domainUp 9 = true) ∧ (s.isOutput c = true)
  ∧ (m.getLsbD c = true) ∧ (bit (s.reg Reg.fioSafe) c = false) ∧ (bits (s.fioCfg c) 8 7 = 0) :=
  ⟨8, 3, fioUp [], by decide +kernel⟩

set_option maxRecDepth 100000 in
theorem test_wit_FieldBlock_11 : ∃ (v : BitVec 12) (s : State), (s.domainUp 9 = true) ∧ (s.fld Reg.fioLplus 13 12 ≠ 2) ∧
  (v.toNat < 1500) :=
  ⟨1499, fioUp [], by decide +kernel⟩

set_option maxRecDepth 100000 in
theorem test_wit_FieldBlock_12 : ∃ (v : BitVec 12) (s : State), (s.domainUp 9 = true) ∧ (s.fld Reg.fioLplus 13 12 ≠ 2) ∧
  (1500 ≤ v.toNat ∧ v.toNat < 1920) :=
  ⟨1500, fioUp [], by decide +kernel⟩

set_option maxRecDepth 100000 in
theorem test_wit_FieldBlock_13 : ∃ (v : BitVec 12) (s : State), (s.domainUp 9 = true) ∧ (s.fld Reg.fioLplus 13 12 ≠ 2) ∧
  (1920 ≤ v.toNat) :=
  ⟨1920, fioUp [], by decide +kernel⟩

set_option maxRecDepth 100000 in
theorem test_wit_FieldBlock_14 : ∃ (g : Nat) (s : State), (s.fld Reg.fioLplus 13 12 = 2) ∧ (s.fio.lpGood = some g) :=
  ⟨5, { fioUp [(Reg.fioLplus, 0x2500)] with fio := { up.fio with lpGood := some 5 } }, by decide +kernel⟩

theorem test_wit_FieldBlock_15 : ∃ (v : Word) (tr : BitVec 16) (s : State), (s.domainUp 9 = true) ∧ (bits v 31 16 ≠ 0xF10C)
  :=
  ⟨8, 0, up, by decide⟩

set_option maxRecDepth 100000 in
theorem test_wit_FieldBlock_16 : ∃ (v : Word) (tr : BitVec 16) (c : Fin 16) (s : State), (s.domainUp 9 = true) ∧ (bits v 31
  16 = 0xF10C) :=
  ⟨0xF10C0008, 0, 3, fioUp [(Reg.fioFault, 0x80008)], by decide +kernel⟩

set_option maxRecDepth 100000 in
theorem test_wit_FieldBlock_17 : ∃ (v : Word) (c : Fin 16) (s : State), (s.domainUp 9 = true) ∧ (s.locked pFIO = false) ∧
  (c.val = s.fld Reg.fioSel 3 0) ∧ (bits v 8 7 = 1 ∧ s.safeOn c = false) :=
  ⟨0x80, 3, fioUp [(Reg.fioSel, 3)], by decide +kernel⟩

set_option maxRecDepth 100000 in
theorem test_wit_FieldBlock_18 : ∃ (v : Word) (c : Fin 16) (s : State), (s.domainUp 9 = true) ∧ (s.locked pFIO = false) ∧
  (c.val = s.fld Reg.fioSel 3 0) ∧ (bits v 8 7 ≠ 1 ∨ s.safeOn c = true) :=
  ⟨0x180, 3, fioUp [(Reg.fioSel, 3)], by decide +kernel⟩

theorem test_wit_LoopAndJtag_1 : ∃ (s : State), (s.fld Reg.loopTest 15 0 = 0) ∧ (s.fio.healthy = true) ∧ (bit (s.reg
  Reg.loopStat) 15 = false) :=
  ⟨{ up with fio := { up.fio with healthy := true } }, by decide⟩

theorem test_wit_LoopAndJtag_2 : ∃ (m : BitVec 15) (v : BitVec 16) (s : State), (s.domainUp 9 = true) :=
  ⟨3600, 7, up, by decide⟩

theorem test_wit_LoopAndJtag_3 : ∃ (v : Word) (s : State), (bits v 15 0 ≠ 0) ∧ (s.domainUp 9 = true ∧ s.fuseBit 65 = true)
  :=
  ⟨5, fused (2 ^ 65) up, by decide⟩

theorem test_wit_LoopAndJtag_4 : ∃ (v : Word) (s : State), (bits v 15 0 ≠ 0) ∧ (s.domainUp 9 = false) :=
  ⟨5, State.reset, by decide⟩

theorem test_wit_LoopAndJtag_5 : ∃ (v : Word) (s : State), (bits v 15 0 ≠ 0) ∧ (s.domainUp 9 = true ∧ s.fuseBit 65 = false)
  :=
  ⟨5, up, by decide⟩

theorem test_wit_LoopAndJtag_6 : ∃ (s : State), (s.fld Reg.loopTest 15 0 ≠ 0) :=
  ⟨upWith [(Reg.loopTest, 5)], by decide⟩

theorem test_wit_LoopAndJtag_7 : ∃ (p : Bytes) (s : State), (s.tapActive = true) ∧ (s.mayExtest = true) :=
  ⟨[7], withRegs [(Reg.rstDom, 1), (Reg.dbgStat, 1), (Reg.sysSlot, 16)], by decide⟩

set_option maxRecDepth 100000 in
theorem test_wit_LoopAndJtag_8 : ∃ (p : Bytes) (s : State), (s.tapActive = true) ∧ (s.mayExtest = false) :=
  ⟨[7], tapUp [], by decide +kernel⟩

set_option maxRecDepth 100000 in
theorem test_wit_LoopAndJtag_9 : ∃ (b : Bypass) (s : State), (s.tapActive = true) ∧ (selectsBypass b.code = true) :=
  ⟨⟨5, true⟩, tapUp [], by decide +kernel⟩

set_option maxRecDepth 100000 in
theorem test_wit_LoopAndJtag_10 : ∃ (b : Bypass) (s : State), (s.tapActive = true) ∧ (selectsBypass b.code = false) :=
  ⟨⟨2, true⟩, tapUp [], by decide +kernel⟩

set_option maxRecDepth 100000 in
theorem test_wit_LoopAndJtag_11 : ∃ (a : BitVec 20) (s : State), (s.tapActive = true) ∧ (bit (s.reg Reg.dbgCtrl) 0 = true)
  :=
  ⟨0x04040, tapUp [(Reg.dbgCtrl, 1)], by decide +kernel⟩

set_option maxRecDepth 100000 in
theorem test_wit_LoopAndJtag_12 : ∃ (a : BitVec 20) (s : State), (s.tapActive = true) ∧ (bit (s.reg Reg.dbgCtrl) 0 = false)
  :=
  ⟨0x04040, tapUp [], by decide +kernel⟩

theorem test_wit_LoopAndJtag_13 : ∃ (s : State), (s.domainUp 0 = true) ∧ (bit (s.reg Reg.dbgStat) 0 = false) :=
  ⟨up, by decide⟩

set_option maxRecDepth 100000 in
theorem test_wit_LoopAndJtag_14 : ∃ (s : State), (s.domainUp 0 = true) ∧ (bit (s.reg Reg.dbgStat) 0 = true) :=
  ⟨tapUp [], by decide +kernel⟩


end Sys2Proof.Tests
end

section
/-! PROOFS. The statements of 00_scope.md about the reset values and the error registers of a page (O4, O17, O18). -/

namespace Sys2Proof.Machine

/-! ### Tables and fields -/

theorem tget_of_unlisted {β : Type} {d : β} {k : Nat} : ∀ {l : List (Nat × β)}, (∀ e ∈ l, e.1 ≠ k) → tget d l k = d
  | [], _ => rfl
  | (a, x) :: r, h => by
    have hr : tget d r k = d := tget_of_unlisted fun e he => h e (List.mem_cons_of_mem _ he)
    have ha : ¬ k = a := fun e => h (a, x) List.mem_cons_self e.symm
    simp only [tget, hr, if_neg ha, ite_self]

theorem satInc_eq_min {lim n : Nat} (h : n ≤ lim) : satInc lim n = min lim (n + 1) := by
  unfold satInc; split <;> omega

theorem bits_lt (w : Word) (hi lo : Nat) : bits w hi lo < 2 ^ (hi + 1 - lo) := Nat.mod_lt _ (Nat.two_pow_pos _)

theorem bits_high_half {n c : Nat} (hn : n ≤ 0xFFFF) (hc : c < 0x10000) : bits (BitVec.ofNat 32 (n * 0x10000 + c)) 31 16 = n := by
  simp only [bits, BitVec.toNat_ofNat, Nat.shiftRight_eq_div_pow]; omega

theorem bits_low_half {n c : Nat} (hc : c < 0x10000) : bits (BitVec.ofNat 32 (n * 0x10000 + c)) 15 0 = c := by
  simp only [bits, BitVec.toNat_ofNat, Nat.shiftRight_zero]; omega

theorem bits_zero (hi lo : Nat) : bits 0 hi lo = 0 := by simp [bits]

theorem pgErr_ne_pgErrInfo (p : Nat) : Reg.pgErr p ≠ Reg.pgErrInfo p := by
  show p * 0x1000 + 0x01C ≠ p * 0x1000 + 0x020
  omega

/-! ### The reset state -/

theorem reset_regs_above_headers : ∀ e ∈ State.reset.regs, 0x40 ≤ e.1 % 0x1000 := by decide

/-- The header registers that are stored read 0 at reset (R13). -/
theorem reset_header {p ofs : Nat} (h : ofs < 0x40) : State.reset.reg (p * 0x1000 + ofs) = 0 :=
  tget_of_unlisted fun e he hk => by
    have := reset_regs_above_headers e he
    omega

/-- Settles O4: the structures are those of State.reset; no header register has a reset value of its own. -/
theorem resetValues : Obligations.ResetValues := by
  unfold Obligations.ResetValues
  refine ⟨rfl, by decide, by decide, rfl, rfl, by decide, by decide, fun p _ => ⟨?_, ?_, ?_, ?_⟩⟩ <;>
    exact reset_header (by decide)

/-! ### Logging an error (R18) -/

variable {s : State} {p c : Nat} {i : Word}

theorem reg_logErr_pgErr : (s.logErr p c i).reg (Reg.pgErr p)
    = if bits (s.reg (Reg.pgErr p)) 15 0 = 0
      then BitVec.ofNat 32 (satInc 0xFFFF (bits (s.reg (Reg.pgErr p)) 31 16) * 0x10000 + c)
      else withBits (s.reg (Reg.pgErr p)) 31 16 (satInc 0xFFFF (bits (s.reg (Reg.pgErr p)) 31 16)) := by
  unfold State.logErr
  dsimp only
  split
  · rw [State.reg_setReg_ne (pgErr_ne_pgErrInfo p), State.reg_setReg_self]
  · rw [State.reg_setReg_self]

theorem reg_logErr_pgErrInfo : (s.logErr p c i).reg (Reg.pgErrInfo p)
    = if bits (s.reg (Reg.pgErr p)) 15 0 = 0 then i else s.reg (Reg.pgErrInfo p) := by
  split
  case isTrue first => exact State.logErr_first first
  case isFalse later =>
    unfold State.logErr
    rw [if_neg later, State.reg_setReg_ne (pgErr_ne_pgErrInfo p).symm]

theorem satInc_errCount (w : Word) : satInc 0xFFFF (bits w 31 16) = min 0xFFFF (bits w 31 16 + 1) :=
  satInc_eq_min (Nat.le_of_lt_succ (bits_lt w 31 16))

theorem logErr_count (hc : c < 0x10000) :
    bits ((s.logErr p c i).reg (Reg.pgErr p)) 31 16 = min 0xFFFF (bits (s.reg (Reg.pgErr p)) 31 16 + 1) := by
  rw [reg_logErr_pgErr, satInc_errCount]
  split
  · exact bits_high_half (by omega) hc
  · rw [bits_withBits_self (by decide) (by decide)]
    omega

theorem logErr_code (hc : c < 0x10000) : bits ((s.logErr p c i).reg (Reg.pgErr p)) 15 0
    = if bits (s.reg (Reg.pgErr p)) 15 0 = 0 then c else bits (s.reg (Reg.pgErr p)) 15 0 := by
  rw [reg_logErr_pgErr]
  split
  · exact bits_low_half hc
  · exact bits_withBits_disjoint (by decide) (by decide)

/-! ### Clearing PG_ERR (R18, R19) -/

variable {v : Word}

theorem clearErr_all (h : bits v 15 0 ≠ 0) :
    (s.clearErr p v).reg (Reg.pgErr p) = 0 ∧ (s.clearErr p v).reg (Reg.pgErrInfo p) = 0 := by
  unfold State.clearErr
  rw [if_pos h]
  exact ⟨by rw [State.reg_setReg_ne (pgErr_ne_pgErrInfo p), State.reg_setReg_self], State.reg_setReg_self⟩

theorem clearErr_count (h : bits v 15 0 = 0) (hc : bits v 31 16 ≠ 0) :
    s.clearErr p v = s.setFld (Reg.pgErr p) 31 16 0 := by
  unfold State.clearErr
  rw [if_neg (not_not.mpr h), if_pos hc]

theorem headerWrite_accessible {page : BitVec 8} {ofs : Nat} {f : State → State}
    (h : s.accessError (page.toNat * 0x1000 + ofs) 4 = none) : s.headerWrite page ofs f = f s := by
  unfold State.headerWrite
  rw [h]

section
variable {page : BitVec 8} (h : s.accessError (page.toNat * 0x1000 + 0x01C) 4 = none)
include h

theorem pgErrClear_alone : pgErrClear page v none s = s.clearErr page.toNat v := headerWrite_accessible h

theorem pgErrClear_with_error {code : BitVec 16} (hc : code ≠ 0) :
    pgErrClear page v (some (code, i)) s = (s.clearErr page.toNat v).logErr page.toNat code.toNat i :=
  (headerWrite_accessible h).trans (if_neg hc)

end

/-- Settles O17: what a logged error leaves in PG_ERR and PG_ERR_INFO, and the two ways of clearing them. -/
theorem errorRegisters : Obligations.ErrorRegisters := by
  unfold Obligations.ErrorRegisters
  refine ⟨fun p code info s hc => ⟨logErr_count hc, logErr_code hc, reg_logErr_pgErrInfo⟩,
    fun page v s h all => ⟨_, rfl, ?_⟩, fun page v s h low high => ⟨_, rfl, ?_⟩⟩
  · rw [pgErrClear_alone h]
    exact clearErr_all all
  · rw [pgErrClear_alone h, clearErr_count low high]
    exact ⟨State.fld_setFld_self, State.fld_setFld_disjoint (by decide) (by decide), 
      State.reg_setFld_ne (pgErr_ne_pgErrInfo _).symm⟩

/-- Settles O18: the error is logged in the cleared registers, so it is a first error. -/
theorem errorWithClear : Obligations.ErrorWithClear := by
  unfold Obligations.ErrorWithClear
  intro page v c i s h all hc
  refine ⟨_, rfl, ?_⟩
  obtain ⟨cleared, -⟩ := clearErr_all (s := s) (p := page.toNat) all
  rw [pgErrClear_with_error h hc, logErr_code c.isLt, logErr_count c.isLt, reg_logErr_pgErrInfo, cleared, bits_zero,
    bits_zero]
  exact ⟨rfl, rfl, rfl⟩

end Sys2Proof.Machine
end

section
/-! PROOFS. The statement of 00_scope.md about the register window (O19) fails at one command: BRD_CMD_STORE written while
SEQ is not released is logged with 0x0105, yet its flash write begins (R105, R538). What follows builds a board that the
loader's checks pass, signed with the secret key 1, and a state that has it in staging. -/

namespace Sys2Proof.Machine

/-! ### A STORE written while SEQ is not released -/

theorem brdCmdStore_begins_unreleased {s : State} (down : s.domainUp 2 = false) (idle : s.boards.running = none)
    (unarmed : s.boards.standby ≠ .armed) (passes : s.stagedCheck = none) :
    (brdCmdStore s).boards.writing = s.stagedBoard := by
  simp [brdCmdStore, State.boardCmd, down, idle, unarmed, passes]

/-! ### A board that passes every check (R64 to R102) -/

namespace StagedBoard

/-- The bytes of 32-bit words (R5). -/
def ofWords (l : List Nat) : Bytes := l.flatMap (toLe 4)

/-- The header (R65): format 0x0100, pair domain 0, 16 lanes, one task, a turn of one round, 11 sections, key 0. -/
def header : Bytes :=
  ofWords ([0x44425641, 0x01000100, 1056, 928, 0, 0x00011000, 0x000B0000] ++ List.replicate 57 0)

/-- An entry of the directory (R68). -/
def dirEntry (type size ofs count : Nat) : List Nat := [type + size * 2 ^ 16, ofs, count, 0]

/-- The directory: the sections that every board has (R69). -/
def directory : Bytes := ofWords <|
  dirEntry 0x01 32 432 1 ++ dirEntry 0x02 16 464 2 ++ dirEntry 0x03 16 496 16 ++ dirEntry 0x04 16 752 0
    ++ dirEntry 0x05 16 752 6 ++ dirEntry 0x06 16 848 2 ++ dirEntry 0x07 16 880 1 ++ dirEntry 0x08 16 896 0
    ++ dirEntry 0x0A 32 896 0 ++ dirEntry 0x0B 16 896 0 ++ dirEntry 0x0C 0 896 1

/-- A track entry that is active in every round (R72, R73): its type, START, the type's own half of W1, DUR. -/
def entry (etype start own dur : Nat) : List Nat := [etype + start * 2 ^ 4, own * 2 ^ 16, dur, 0]

/-- The sections: the task, its slots, the power-on test of every lane (R78, R102), the events of a round (R86), a JOIN and
a SPARE slot with the guardian's record (R89 to R93), one word of code (R100). -/
def sections : Bytes := ofWords <|
  [0, 0, 0, 64, 64, 64, 0, 0]
    ++ entry 4 100 1 0 ++ entry 4 200 2 0
    ++ (List.range 16).flatMap (fun n => entry 1 4790 (0x10 + n) 200)
    ++ entry 5 20 1 0 ++ entry 5 60 5 0 ++ entry 5 300 2 0 ++ entry 5 400 3 0 ++ entry 5 410 4 0 ++ entry 5 4800 8 0
    ++ [0x000A0001, 0xFFFFFFFF, 0xFF03, 16] ++ [0x000A0002, 0xFFFFFFFF, 0xFF05, 64]
    ++ [0x000A00C8, 0x00020002, 0, 0]
    ++ [0, 0xFFFF, 4, 0] ++ [0x10000004, 0, 0, 0]

/-- What the signature covers (R66). -/
def body : Bytes := header ++ directory ++ sections

/-- The public key of the secret key 1: the base point of P-384. -/
def key : Bytes := toBe 48 p384G.1 ++ toBe 48 p384G.2

/-- The signature by the secret key 1 with the nonce 1 (FIPS 186-5): r is the base point's abscissa, s the digest plus r. -/
def signature : Bytes := toBe 48 p384G.1 ++ toBe 48 ((natOfBytes (sha384 body) + p384G.1) % p384N)

/-- The board, with its signature block (R67). -/
def bytes : Bytes := body ++ ofWords [0x42474953, 0, 1, 0] ++ signature ++ zeros 16

/-- AON is released and SEQ is not; the board is in staging, its key in slot 0 and enabled (R67, R105, R108). -/
def unreleased : State :=
  { (((State.reset.setReg Reg.rstDom 1).setReg Reg.secKeyEn 1).setReg Reg.brdFmt 0x01000100).setReg Reg.brdStgLen 1056 with
    mem := Memory.write [] boardStaging bytes
    boot := { BootMem.reset with keys := BootMem.reset.keys.set 0 key } }

theorem length_bytes : bytes.length = 1056 := by decide +kernel

theorem stagedBoard_unreleased : unreleased.stagedBoard = bytes := by
  have written : (Memory.write [] boardStaging bytes).read boardStaging bytes.length = bytes := Memory.read_write rfl
  have length : min (unreleased.reg Reg.brdStgLen).toNat 0x10000000 = bytes.length := by
    rw [length_bytes]
    decide
  have mem : unreleased.mem = Memory.write [] boardStaging bytes := by
    unfold unreleased
    dsimp only
  rw [State.stagedBoard, length, mem, written]

theorem checkBoard_unreleased : unreleased.checkBoard bytes 1056 false = none := by decide +kernel

theorem stagedCheck_unreleased : unreleased.stagedCheck = none := by
  have length : (unreleased.reg Reg.brdStgLen).toNat = 1056 := by decide
  rw [State.stagedCheck, stagedBoard_unreleased, length, State.commandCheck, checkBoard_unreleased]
  rfl

end StagedBoard

open StagedBoard in
/-- Refutes O19: the board page's domain is down, so R538 lets BRD_CMD_STORE change nothing but PG_ERR of SYS, but the
flash write of the staged board begins. -/
theorem not_registerPages : ¬ Obligations.RegisterPages := by
  unfold Obligations.RegisterPages
  intro holds
  obtain ⟨-, -, -, rejected, -⟩ := holds
  have gives : Gives .brdCmdStore unreleased (unreleased.logErr pSYS 0x0105 (BitVec.ofNat 32 pBRD)) :=
    rejected (pBRD, .brdCmdStore) 0 0 0 0 0 0 unreleased (by decide) (by simp) (by decide)
  have same : brdCmdStore unreleased = unreleased.logErr pSYS 0x0105 (BitVec.ofNat 32 pBRD) := Host.Outcome.next.inj gives
  have begun : (brdCmdStore unreleased).boards.writing = bytes :=
    (brdCmdStore_begins_unreleased (by decide) rfl (by decide) stagedCheck_unreleased).trans stagedBoard_unreleased
  have unchanged : bytes = [] := by
    rw [← begun, same, State.logErr_boards]
    rfl
  have := length_bytes
  rw [unchanged] at this
  exact absurd this (by decide)

end Sys2Proof.Machine
end

section
/-! PROOFS. Fields of registers that other updates leave alone, and counters that saturate: what the statements of
02_time_base.md share. -/

namespace Sys2Proof.Machine
variable {s t : State} {j k hi lo : Nat}

theorem fld_eq_of_reg (h : s.reg k = t.reg k) : s.fld k hi lo = t.fld k hi lo := congrArg (bits · hi lo) h

theorem fld_raise_ne {p b : Nat} (h : k ≠ Reg.pgIrq p) : (s.raise p b).fld k hi lo = s.fld k hi lo :=
  fld_eq_of_reg (State.reg_raise_ne h)

theorem fld_advanceTo (x : BitVec 64) (h : k ≠ Reg.pgIrq pTIM) : (s.advanceTo x).fld k hi lo = s.fld k hi lo :=
  fld_eq_of_reg (State.advanceTo_reg_ne s x h)

theorem fld_lt (s : State) (k hi lo : Nat) : s.fld k hi lo < 2 ^ (hi + 1 - lo) := bits_lt ..

/-- A count goes up to its limit and stays there. -/
theorem fld_incSat_self (h : lo ≤ hi) (hh : hi < 32) :
    (s.incSat k hi lo).fld k hi lo = min (2 ^ (hi + 1 - lo) - 1) (s.fld k hi lo + 1) := by
  have bound := fld_lt s k hi lo
  rw [State.incSat, State.fld_setFld_self h hh, satInc_eq_min (by omega)]
  exact Nat.mod_eq_of_lt (by omega)

end Sys2Proof.Machine
end

section
/-! PROOFS. The statement of 02_time_base.md about the frames of the Mebarid network (O35). -/

namespace Sys2Proof.Machine
variable {s : State} {ch : Chan} {port : Fin 4} {ts : BitVec 64} {f : Bytes}

/-! ### What a frame may change -/

/-- The commands by which a frame is received (R294). -/
def Receives (ch : Chan) (port : Fin 4) (ts : BitVec 64) (f : Bytes) (c : Instr) : Prop :=
  c ∈ [.syncRx ch port ts f, .coldstartRx ch port ts f, .dataInRx ch port ts f, .peerRx ch port ts f,
    .joinReqRx ch port ts f, .grantRx ch port ts f, .announceRx ch port ts f, .dataOutRx ch port ts f,
    .strayFrameRx ch port ts f]

/-- All of them are one reception. -/
theorem exec_receives {c : Instr} (h : Receives ch port ts f c) (s : State) :
    exec c s = .next (netRx ch port ts f s) := by
  simp only [Receives, List.mem_cons, List.not_mem_nil, or_false] at h
  rcases h with rfl | rfl | rfl | rfl | rfl | rfl | rfl | rfl | rfl <;> rfl

section
variable (up : s.portIsUp (chanNum ch) port = true)
include up

theorem netRx_pause (pause : isPause f = true) : netRx ch port ts f s = (s.advanceTo ts).strayFrame (chanNum ch) := by
  simp [netRx, up, pause]

theorem netRx_malformed (pause : isPause f = false) (bad : mbMalformed f = true) :
    netRx ch port ts f s = (s.advanceTo ts).incSat (Reg.mbStray (chanNum ch)) 31 16 := by
  simp [netRx, up, pause, bad]

theorem netRx_taken (pause : isPause f = false) (good : mbMalformed f = false) : netRx ch port ts f s
    = (((s.advanceTo ts).hearFrame f).syncFrame ch ts f).takeFrame (chanNum ch) port ts f := by
  simp [netRx, up, pause, good]

end

theorem netRx_down (down : s.portIsUp (chanNum ch) port = false) : netRx ch port ts f s = s := by simp [netRx, down]

theorem mbStray_ne (ch : Chan) : Reg.mbStray (chanNum ch) ≠ Reg.pgIrq pTIM
    ∧ Reg.mbStray (chanNum ch) ≠ Reg.pgIrq (pMB (chanNum ch)) ∧ Reg.mbStray (chanNum ch) ≠ Reg.mbCold := by
  cases ch <;> decide

/-! ### Hearing, synchronising, keeping -/

theorem hearFrame_other (h : (mbHeader f).sender ≠ s.nodeAddr) :
    s.hearFrame f = (s.setFld Reg.mbCold 7 4 0).modNet fun n => { n with heard := true } := if_neg h

theorem hearFrame_mem : (s.hearFrame f).mem = s.mem := by unfold State.hearFrame; split <;> rfl
theorem hearFrame_boards : (s.hearFrame f).boards = s.boards := by unfold State.hearFrame; split <;> rfl

theorem hearFrame_fld_ne {k hi lo : Nat} (h : k ≠ Reg.mbCold) : (s.hearFrame f).fld k hi lo = s.fld k hi lo := by
  unfold State.hearFrame
  split
  · rfl
  · exact State.fld_setFld_ne h

theorem hearFrame_advanceTo (h : (mbHeader f).sender ≠ s.nodeAddr) :
    ((s.advanceTo ts).hearFrame f).net = { s.net with heard := true }
    ∧ ((s.advanceTo ts).hearFrame f).fld Reg.mbCold 7 4 = 0 := by
  have slot : (s.advanceTo ts).fld Reg.sysSlot 0 0 = s.fld Reg.sysSlot 0 0 := fld_advanceTo ts (by decide)
  have addr : (s.advanceTo ts).nodeAddr = s.nodeAddr := by
    simp only [State.nodeAddr, State.pairDomain, slot, State.advanceTo_option]
  rw [hearFrame_other (by rwa [addr])]
  exact ⟨by rw [State.modNet_net, State.setFld_net, State.advanceTo_net],
    by rw [State.modNet_fld, State.fld_setFld_self]; rfl⟩

theorem toCold_mem (n : Nat) : (s.toCold n).mem = s.mem := by unfold State.toCold; split <;> simp

theorem attemptFrame_mem (x : SyncRec) (t : Tables) (j : Nat) : (s.attemptFrame x t j ch ts f).mem = s.mem := by
  unfold State.attemptFrame
  split
  · rfl
  · dsimp only; split <;> rfl

theorem syncFrame_mem : (s.syncFrame ch ts f).mem = s.mem := by
  unfold State.syncFrame
  split
  · rfl
  · dsimp only
    split
    · rfl
    · split
      · split <;> rfl
      · split
        · rfl
        · split
          · rfl
          · split
            · split
              · rw [toCold_mem]; rfl
              · rfl
            · split
              · rw [attemptFrame_mem]; rfl
              · rfl

theorem syncFrame_unloaded (h : s.boards.act = none) : s.syncFrame ch ts f = s := by rw [State.syncFrame, h]

theorem takeFrame_unloaded {c p : Nat} (h : s.boards.act = none) : s.takeFrame c p ts f = s.strayFrame c := by
  rw [State.takeFrame, h]

/-- The copy of a frame that an occurrence keeps (R304). -/
def State.rxCopy (s : State) (b : Tables) (r : SlotRec) (x : SlotRun) (c : Nat) (ts : BitVec 64) (f : Bytes) : RxCopy :=
  ⟨ts - BitVec.ofNat 64 (s.rxDelay b r c), fcsGood f && s.headerFits r x c (mbHeader f), (mbHeader f).seq, slice f 14 24,
    mbPayload f⟩

/-- The occurrence with one copy more on channel `c`. -/
def SlotRun.keep (x : SlotRun) (c : Nat) (y : RxCopy) : SlotRun :=
  if c = 0 then { x with a := x.a ++ [y] } else { x with b := x.b ++ [y] }

/-- A frame in the span of one slot joins the copies of that slot. -/
theorem takeFrame_one {c p : Nat} {b : Tables} {r : SlotRec} {x : SlotRun} (act : s.boards.act = some b)
    (one : (s.spans b p).filter (fun y => inSpan y.2 y.1.len (ts - BitVec.ofNat 64 (s.rxDelay b y.1 c))) = [(r, x)]) :
    s.takeFrame c p ts f = s.modNet fun n =>
      { n with slots := putRun n.slots (x.keep c (s.rxCopy b r x c ts f)) } := by
  rw [State.takeFrame, act]
  dsimp only
  rw [one]
  rfl

theorem strayFrame_count (ch : Chan) : (s.strayFrame (chanNum ch)).fld (Reg.mbStray (chanNum ch)) 15 0
    = min 0xFFFF (s.fld (Reg.mbStray (chanNum ch)) 15 0 + 1) :=
  (fld_raise_ne (mbStray_ne ch).2.1).trans (fld_incSat_self (by decide) (by decide))

theorem strayFrame_net (c : Nat) : (s.strayFrame c).net = s.net := State.raise_net ..
theorem strayFrame_mem (c : Nat) : (s.strayFrame c).mem = s.mem := State.raise_mem ..

theorem strayFrame_cold (ch : Chan) : (s.strayFrame (chanNum ch)).fld Reg.mbCold 7 4 = s.fld Reg.mbCold 7 4 :=
  (fld_raise_ne (by cases ch <;> decide)).trans (State.fld_setFld_ne (mbStray_ne ch).2.2.symm)

/-- Settles O35. -/
theorem mebaridFrames : Obligations.MebaridFrames := by
  unfold Obligations.MebaridFrames
  refine ⟨fun c ch port ts f s rx up pause good => ?_, fun c ch port ts f s rx up pause => ?_,
    fun c ch port ts f s rx up pause bad => ?_, fun c ch port ts f s rx up pause good unloaded => ?_,
    fun c ch port ts f b r x u s rx up pause good hu act one => ?_, fun c ch port ts f s rx down => ?_⟩
  · exact (exec_receives rx s).trans (congrArg _ (netRx_taken up pause good))
  · exact (exec_receives rx s).trans (congrArg _ (netRx_pause up pause))
  · obtain ⟨irq, -, -⟩ := mbStray_ne ch
    refine ⟨_, (exec_receives rx s).trans (congrArg _ (netRx_malformed up pause bad)), ?_, State.advanceTo_net s ts⟩
    rw [fld_incSat_self (by decide) (by decide), fld_advanceTo ts irq]
    rfl
  · have heard : ((s.advanceTo ts).hearFrame f).boards.act = none := by
      rw [hearFrame_boards, State.advanceTo_boards, unloaded]
    have taken := netRx_taken (ts := ts) up pause good
    rw [syncFrame_unloaded heard, takeFrame_unloaded heard] at taken
    obtain ⟨irq, -, cold⟩ := mbStray_ne ch
    refine ⟨_, (exec_receives rx s).trans (congrArg _ taken), ?_, fun other => ?_, ?_⟩
    · rw [strayFrame_count, hearFrame_fld_ne cold, fld_advanceTo ts irq]
    · rw [strayFrame_net, strayFrame_cold]
      exact hearFrame_advanceTo other
    · rw [strayFrame_mem, hearFrame_mem, State.advanceTo_mem]
  · have taken := netRx_taken (ts := ts) up pause good
    rw [← hu, takeFrame_one act one] at taken
    refine ⟨_, (exec_receives rx s).trans (congrArg _ taken), rfl, ?_⟩
    rw [State.modNet_mem, hu, syncFrame_mem, hearFrame_mem, State.advanceTo_mem]
  · exact (exec_receives rx s).trans (congrArg _ (netRx_down down))

end Sys2Proof.Machine
end

section
/-! PROOFS. The statement of 02_time_base.md about the chassis bus: filters, queues, errors, recovery, retirement (O58). -/

namespace Sys2Proof.Machine
variable {s t u : State} {c : Fin 2}

/-! ### What the end of a frame leaves of a channel -/

theorem modCan_can_self (s : State) (c : Fin 2) (f : CanCh → CanCh) : (s.modCan c f).can[c] = f s.can[c] := by
  simp [State.modCan]

/-- A start of frame puts a buffer on the bus, or changes nothing. -/
theorem canStart_cases (s : State) (c : Fin 2) : s.canStart c = s
    ∨ ∃ b, s.canStart c = s.modCan c fun x => { x with onBus := some b, abort := false, released := false } := by
  unfold State.canStart
  extract_lets m
  by_cases free : (m = 1 ∨ m = 3) ∧ s.canErr c ≠ 2 ∧ s.can[c].onBus = none ∧ (!s.can[c].foreign) = true
  · rw [if_pos free]
    cases s.canChoose c with
    | none => exact .inl rfl
    | some b => exact .inr ⟨b, rfl⟩
  · exact .inl (if_neg free)

/-- The register that counts lost frames, on either page, and the latched half of global time. -/
def CanKey (k : Nat) : Bool := k % 0x1000 == 0x068 || k == Reg.timNowHi

theorem canKey_page {o : Nat} (h : o < 0x1000 ∧ o ≠ 0x068) (c : Fin 2) : CanKey ((0x78 + c) * 0x1000 + o) = false := by
  have ofs : ¬ o % 0x1000 = 0x068 := by omega
  have page : ¬ (0x78 + c.val) * 0x1000 + o = Reg.timNowHi := by show ¬ _ = 0x03044; omega
  simp [CanKey, ofs, page]

/-- From `s` to `t` channel `c` keeps its queues, and the module its output. -/
structure CanKeeps (c : Fin 2) (s t : State) : Prop where
  q0 : t.can[c].q0 = s.can[c].q0
  q1 : t.can[c].q1 = s.can[c].q1
  seq : t.can[c].seq = s.can[c].seq
  out : t.out = s.out
  reg : ∀ k, CanKey k = true → t.reg k = s.reg k

namespace CanKeeps

theorem refl (c : Fin 2) (s : State) : CanKeeps c s s := ⟨rfl, rfl, rfl, rfl, fun _ _ => rfl⟩

theorem trans (h : CanKeeps c s t) (h' : CanKeeps c t u) : CanKeeps c s u where
  q0 := h'.q0.trans h.q0
  q1 := h'.q1.trans h.q1
  seq := h'.seq.trans h.seq
  out := h'.out.trans h.out
  reg k hk := (h'.reg k hk).trans (h.reg k hk)

theorem like (h : CanKeeps c s t) (same : (u.can, u.out, u.regs) = (t.can, t.out, t.regs)) : CanKeeps c s u := by
  simp only [Prod.mk.injEq] at same
  obtain ⟨can, out, regs⟩ := same
  exact h.trans ⟨by rw [can], by rw [can], by rw [can], out, fun k _ => by rw [State.reg, regs]; rfl⟩

theorem ite {p : Prop} [Decidable p] (ht : CanKeeps c s t) (hu : CanKeeps c s u) : CanKeeps c s (if p then t else u) := by
  split
  · exact ht
  · exact hu

theorem setReg (h : CanKeeps c s t) {k : Nat} (v : Word) (hk : CanKey k = false) : CanKeeps c s (t.setReg k v) :=
  { h with reg := fun j hj =>
      (State.reg_setReg_ne (by rintro rfl; exact Bool.noConfusion (hj.symm.trans hk))).trans (h.reg j hj) }

/-- A register of the channel's page, other than CAN_RX_CNT, takes a value. -/
theorem setPage (h : CanKeeps c s t) {o : Nat} (v : Word) (ho : o < 0x1000 ∧ o ≠ 0x068) :
    CanKeeps c s (t.setReg ((0x78 + c) * 0x1000 + o) v) := h.setReg v (canKey_page ho c)

theorem setFld (h : CanKeeps c s t) {o hi lo : Nat} (v : Nat) (ho : o < 0x1000 ∧ o ≠ 0x068) :
    CanKeeps c s (t.setFld ((0x78 + c) * 0x1000 + o) hi lo v) := h.setPage _ ho

theorem raise (h : CanKeeps c s t) (b : Nat) : CanKeeps c s (t.raise (pCAN c) b) := ite (h.setPage _ (by decide)) h

theorem logErr (h : CanKeeps c s t) (e : Nat) (i : Word) : CanKeeps c s (t.logErr (pCAN c) e i) :=
  ite ((h.setPage _ (by decide)).setPage _ (by decide)) (h.setPage _ (by decide))

theorem modCan (h : CanKeeps c s t) {f : CanCh → CanCh}
    (same : ∀ x, (f x).q0 = x.q0 ∧ (f x).q1 = x.q1 ∧ (f x).seq = x.seq) : CanKeeps c s (t.modCan c f) :=
  { h with
    q0 := by rw [modCan_can_self, (same _).1, h.q0]
    q1 := by rw [modCan_can_self, (same _).2.1, h.q1]
    seq := by rw [modCan_can_self, (same _).2.2, h.seq] }

theorem canStart (h : CanKeeps c s t) : CanKeeps c s (t.canStart c) := by
  rcases canStart_cases t c with e | ⟨b, e⟩ <;> rw [e]
  · exact h
  · exact h.modCan fun _ => ⟨rfl, rfl, rfl⟩

theorem canFree (h : CanKeeps c s t) : CanKeeps c s (t.canFree c) :=
  (h.modCan (by intro; exact ⟨rfl, rfl, rfl⟩)).canStart

theorem canCounters (h : CanKeeps c s t) (tec rec : Nat) : CanKeeps c s (t.canCounters c tec rec) := by
  unfold State.canCounters
  extract_lets was t₁ t₂ t₃ t₄ i u₁ u₂ st u₃
  have h₃ : CanKeeps c s t₃ :=
    ((h.setFld 256 (by decide)).setFld 2 (by decide)).setFld _ (by decide)
  have h₄ : CanKeeps c s t₄ := h₃.modCan fun _ => ⟨rfl, rfl, rfl⟩
  have h₅ : CanKeeps c s u₃ :=
    ((h.setFld tec (by decide)).setFld (min rec 255) (by decide)).setFld st (by decide)
  exact ite ((h₄.raise 4).logErr 0x0101 i |>.like (by rfl)) (ite (h₅.raise 3) h₅)

theorem canRecDown (h : CanKeeps c s t) (rec : Nat) : CanKeeps c s (t.canRecDown rec).1 := by
  unfold State.canRecDown
  split
  · exact h.like (by rfl)
  · exact h

theorem send (h : CanKeeps c s t) (o : Output) : CanKeeps c (s.send o) (t.send o) :=
  { h with out := congrArg (· ++ [o]) h.out }

end CanKeeps

/-! ### A frame is received -/

/-- A channel that takes frames of other nodes has mode NORMAL or LISTEN and is not in bus-off. -/
structure State.CanListens (s : State) (c : Fin 2) (h0 : Word) : Prop where
  up : s.domainUp 8 = true
  mode : s.canMode c = 1 ∨ s.canMode c = 2
  err : s.canErr c ≠ 2
  fits : bit h0 31 = false ∨ bit (s.reg (Reg.canCtrl c)) 2 = true

/-- The state with the frame filtered and queued, before the error counters follow. -/
def State.canQueued (s : State) (c : Fin 2) (h0 h1 : Word) (d : Bytes) : State :=
  (s.canAcked c).canQueue c (canHdr0 h0) (canHdr1 (bit h0 31) h1) d

variable {h0 h1 : Word} {d : Bytes}

theorem canServe_reg_ne {k : Nat} (h : k ≠ Reg.timNowHi) : s.canServe.reg k = s.reg k := by
  unfold State.canServe
  split
  · rfl
  · exact State.reg_setReg_ne h

theorem canQueue_reg_ne {k : Nat} (h : ∀ x ∈ [Reg.canRxCnt c, Reg.pgIrq (pCAN c), Reg.canCnt c, Reg.timNowHi], k ≠ x) :
    (s.canQueue c h0 h1 d).reg k = s.reg k := by
  simp only [List.forall_mem_cons, List.not_mem_nil, false_implies, implies_true, and_true] at h
  obtain ⟨hcnt, hirq, hseq, hnow⟩ := h
  unfold State.canQueue
  split
  · exact State.reg_setFld_ne hcnt
  · extract_lets q ch l seq e t
    split
    · exact (State.reg_raise_ne hirq).trans (State.reg_setFld_ne hcnt)
    · exact (canServe_reg_ne hnow).trans ((State.reg_raise_ne hirq).trans (State.reg_setFld_ne hseq))

theorem canCtrl_ne (c : Fin 2) :
    ∀ x ∈ [Reg.canRxCnt c, Reg.pgIrq (pCAN c), Reg.canCnt c, Reg.timNowHi], Reg.canCtrl c ≠ x := by
  revert c; decide

theorem canCtrl_ne_noack (c : Fin 2) : Reg.canCtrl c ≠ Reg.canNoack c := by revert c; decide

theorem canQueued_ctrl : (s.canQueued c h0 h1 d).reg (Reg.canCtrl c) = s.reg (Reg.canCtrl c) :=
  (canQueue_reg_ne (canCtrl_ne c)).trans (State.reg_setFld_ne (canCtrl_ne_noack c))

/-- The queues and the output after a frame are those after it was queued, but for its acknowledgement in NORMAL; then the
bus is free. -/
theorem canFrameRx_eq (h : s.CanListens c h0) : ∃ u, canFrameRx c h0 h1 d s = u.canFree c ∧
    CanKeeps c (if s.canMode c = 1 then (s.canQueued c h0 h1 d).send (.canAck c) else s.canQueued c h0 h1 d) u := by
  obtain ⟨up, mode, err, fits⟩ := h
  have fits : (bit h0 31 && !bit (s.reg (Reg.canCtrl c)) 2) = false := by
    rcases fits with h | h <;> simp [h]
  have received : s.canReceive c h0 h1 d = s.canQueued c h0 h1 d := by
    rw [State.canReceive, fits]
    rfl
  have open_ : ¬ (s.canMode c = 0 ∨ s.canMode c = 3 ∨ s.canErr c = 2 ∨ (!s.domainUp 8) = true) := by
    rw [up]
    rintro (h | h | h | h)
    · omega
    · omega
    · exact err h
    · exact Bool.noConfusion h
  refine ⟨_, if_neg open_, ?_⟩
  rw [received, canQueued_ctrl, fits]
  by_cases normal : s.canMode c = 1
  · rw [if_pos normal, if_pos ⟨normal, Bool.false_ne_true⟩]
    exact (((CanKeeps.refl c _).canRecDown _).canCounters ..).send _
  · rw [if_neg normal, if_neg fun h => normal h.1]
    exact .refl ..

theorem canFrameRx_keeps (h : s.CanListens c h0) :
    CanKeeps c (if s.canMode c = 1 then (s.canQueued c h0 h1 d).send (.canAck c) else s.canQueued c h0 h1 d)
      (canFrameRx c h0 h1 d s) := by
  obtain ⟨u, eq, keeps⟩ := canFrameRx_eq (h1 := h1) (d := d) h
  rw [eq]
  exact keeps.canFree

theorem canStart_foreign : (s.canStart c).can[c].foreign = s.can[c].foreign := by
  rcases canStart_cases s c with h | ⟨b, h⟩ <;> rw [h]
  rw [modCan_can_self]

theorem canFree_foreign : (s.canFree c).can[c].foreign = false := by
  rw [State.canFree, canStart_foreign, modCan_can_self]

theorem canFrameRx_foreign (h : s.CanListens c h0) : (canFrameRx c h0 h1 d s).can[c].foreign = false := by
  obtain ⟨u, eq, -⟩ := canFrameRx_eq (h1 := h1) (d := d) h
  rw [eq, canFree_foreign]

/-- In NORMAL the acknowledgement is the only output (R493). -/
theorem canFrameRx_out (h : s.CanListens c h0) (quiet : (s.canQueued c h0 h1 d).out = s.out) :
    (canFrameRx c h0 h1 d s).out = if s.canMode c = 1 then s.out ++ [.canAck c] else s.out := by
  rw [(canFrameRx_keeps h).out]
  split
  · rw [← quiet]; rfl
  · exact quiet

theorem canFrameRx_channel (h : s.CanListens c h0) :
    (canFrameRx c h0 h1 d s).can[c].q0 = (s.canQueued c h0 h1 d).can[c].q0
      ∧ (canFrameRx c h0 h1 d s).can[c].q1 = (s.canQueued c h0 h1 d).can[c].q1
      ∧ (canFrameRx c h0 h1 d s).can[c].seq = (s.canQueued c h0 h1 d).can[c].seq
      ∧ ∀ k, CanKey k = true → (canFrameRx c h0 h1 d s).reg k = (s.canQueued c h0 h1 d).reg k := by
  have keeps := canFrameRx_keeps (h1 := h1) (d := d) h
  split at keeps <;> exact ⟨keeps.q0, keeps.q1, keeps.seq, keeps.reg⟩

/-! ### The receive queues -/

theorem canAcked_reg_ne {k : Nat} (h : k ≠ Reg.canNoack c) : (s.canAcked c).reg k = s.reg k := State.reg_setFld_ne h

theorem canAcked_q0 : (s.canAcked c).can[c].q0 = s.can[c].q0 := by rw [State.canAcked, modCan_can_self]; rfl
theorem canAcked_q1 : (s.canAcked c).can[c].q1 = s.can[c].q1 := by rw [State.canAcked, modCan_can_self]; rfl
theorem canAcked_seq : (s.canAcked c).can[c].seq = s.can[c].seq := by rw [State.canAcked, modCan_can_self]; rfl

theorem canFilter_ne (c : Fin 2) (f : Nat) :
    Reg.bank f (Reg.canFmatch c) ≠ Reg.canNoack c ∧ Reg.bank f (Reg.canFmask c) ≠ Reg.canNoack c := by
  constructor
  · show f * 0x100000 + ((0x78 + c.val) * 0x1000 + 0x05C) ≠ (0x78 + c.val) * 0x1000 + 0x054; omega
  · show f * 0x100000 + ((0x78 + c.val) * 0x1000 + 0x060) ≠ (0x78 + c.val) * 0x1000 + 0x054; omega

theorem canAcked_match (w : Word) : (s.canAcked c).canMatch c w = s.canMatch c w := by
  funext f
  obtain ⟨hm, hk⟩ := canFilter_ne c f
  simp only [State.canMatch, canAcked_reg_ne hm, canAcked_reg_ne hk]

/-- The filters do not see that STREAK is 0 again. -/
theorem canQueued_unmatched (none : (List.range 16).find? (s.canMatch c (canHdr0 h0)) = none) :
    s.canQueued c h0 h1 d = (s.canAcked c).incSat (Reg.canRxCnt c) 31 16 := by
  rw [State.canQueued, State.canQueue, canAcked_match, none]

section
variable {f : Nat} (found : (List.range 16).find? (s.canMatch c (canHdr0 h0)) = some f)
  (first : s.fld (Reg.bank f (Reg.canFmatch c)) 30 30 = 0)

theorem bit_canHdr0 (h : Word) : bit (canHdr0 h) 31 = bit h 31 := by
  unfold canHdr0 bit
  dsimp only
  split <;> split <;> simp

theorem bits_canHdr1 (fd : Bool) (h : Word) : bits (canHdr1 fd h) 3 0 = bits h 3 0 := by
  have low (k : Nat) : h.toNat &&& (2 ^ k - 1) = h.toNat % 2 ^ k := Nat.and_two_pow_sub_one_eq_mod ..
  cases fd
  · show (h &&& 0x0F).toNat % 16 = h.toNat % 16
    rw [BitVec.toNat_and, show (0x0F : Word).toNat = 2 ^ 4 - 1 from rfl, low]
    omega
  · show (h &&& 0x3F).toNat % 16 = h.toNat % 16
    rw [BitVec.toNat_and, show (0x3F : Word).toNat = 2 ^ 6 - 1 from rfl, low]
    omega

/-- What the queue keeps of the frame, with its filter and SEQ (R494). -/
def canEntry (f : Nat) (seq : BitVec 16) (h0 h1 : Word) (d : Bytes) : CanRx :=
  ⟨canHdr0 h0, BitVec.ofNat 32 (bits (canHdr1 (bit h0 31) h1) 5 0 + f * 2 ^ 8 + seq.toNat * 2 ^ 16),
    if bit (canHdr0 h0) 30 then [] else d.take (canLen (bit h0 31) (bits h1 3 0)), none⟩

include found first

theorem canQueued_full (full : 32 ≤ s.can[c].q0.length) :
    s.canQueued c h0 h1 d = ((s.canAcked c).incSat (Reg.canRxCnt c) 15 0).raise (pCAN c) 6 := by
  have queue : (s.canAcked c).fld (Reg.bank f (Reg.canFmatch c)) 30 30 = 0 :=
    (fld_eq_of_reg (canAcked_reg_ne (canFilter_ne c f).1)).trans first
  rw [State.canQueued, State.canQueue, canAcked_match, found]
  dsimp only
  rw [queue, if_pos rfl, canAcked_q0, if_pos full]

/-- The channel's queue takes the frame, before the steward serves the interrupt. -/
def State.canTaken (s : State) (c : Fin 2) (e : CanRx) (seq : BitVec 16) : State :=
  (((s.canAcked c).modCan c fun x => { x with seq := seq, q0 := x.q0 ++ [e] }).incWrap (Reg.canCnt c) 31 16).raise
    (pCAN c) 0

theorem canQueued_room (room : s.can[c].q0.length < 32) : s.canQueued c h0 h1 d
    = (s.canTaken c (canEntry f (s.can[c].seq + 1) h0 h1 d) (s.can[c].seq + 1)).canServe := by
  have queue : (s.canAcked c).fld (Reg.bank f (Reg.canFmatch c)) 30 30 = 0 :=
    (fld_eq_of_reg (canAcked_reg_ne (canFilter_ne c f).1)).trans first
  rw [State.canQueued, State.canQueue, canAcked_match, found]
  dsimp only
  rw [queue, if_pos rfl, canAcked_q0, if_neg (Nat.not_le.mpr room), canAcked_seq, bit_canHdr0, bits_canHdr1]
  rfl

end

/-! ### The steward serves the receive interrupt -/

/-- What a queue entry holds beside the steward's timestamp. -/
def CanRx.frame (e : CanRx) : Word × Word × Bytes := (e.hdr0, e.hdr1, e.data)

/-- A frame without a timestamp takes one (R61). -/
def CanRx.served (now : BitVec 64) (e : CanRx) : CanRx := if e.stamp.isSome then e else { e with stamp := some now }

theorem frame_served (now : BitVec 64) (e : CanRx) : (e.served now).frame = e.frame := by
  unfold CanRx.served; split <;> rfl

/-- The steward takes a timestamp for each waiting frame, or nothing happens. -/
theorem canServe_cases (s : State) : s.canServe = s ∨ s.canServe = { s.setReg Reg.timNowHi (s.now.extractLsb' 32 32) with
    can := s.can.map fun c => { c with q0 := c.q0.map (CanRx.served s.now), q1 := c.q1.map (CanRx.served s.now) } } := by
  unfold State.canServe
  split
  · exact .inl rfl
  · exact .inr rfl

theorem canServe_frames : s.canServe.can[c].q0.map CanRx.frame = s.can[c].q0.map CanRx.frame := by
  rcases canServe_cases s with h | h <;> rw [h]
  simp [Function.comp_def, frame_served]

theorem canServe_q1_length : s.canServe.can[c].q1.length = s.can[c].q1.length := by
  rcases canServe_cases s with h | h <;> rw [h]
  simp

theorem canServe_seq : s.canServe.can[c].seq = s.can[c].seq := by
  rcases canServe_cases s with h | h <;> rw [h]
  simp

theorem canServe_out : s.canServe.out = s.out := by
  rcases canServe_cases s with h | h
  · rw [h]
  · rw [h]; rfl

/-- The steward serves the interrupt while it runs and does not hand over (R61, R454). -/
structure State.Serves (s : State) : Prop where
  up : s.stewardUp = true
  normal : s.inRecovery = false
  stays : s.handingOver = false
  time : s.domainUp 2 = true

theorem canServe_waiting (h : s.Serves) {e : CanRx} (he : e ∈ s.can[c].q0) (unstamped : e.stamp = none) :
    s.canServe.can[c].q0 = s.can[c].q0.map (CanRx.served s.now)
      ∧ s.canServe.reg Reg.timNowHi = s.now.extractLsb' 32 32 := by
  obtain ⟨up, normal, stays, time⟩ := h
  have waits : s.can.toList.all (fun c => (c.q0 ++ c.q1).all (fun e => e.stamp.isSome)) = false := by
    rw [List.all_eq_false]
    refine ⟨s.can[c], by simp, ?_⟩
    rw [Bool.not_eq_true, List.all_eq_false]
    exact ⟨e, List.mem_append_left _ he, by rw [unstamped]; decide⟩
  have serves : s.canServe = { s.setReg Reg.timNowHi (s.now.extractLsb' 32 32) with
      can := s.can.map fun c => { c with q0 := c.q0.map (CanRx.served s.now), q1 := c.q1.map (CanRx.served s.now) } } := by
    unfold State.canServe
    rw [up, normal, stays, time, waits]
    rfl
  rw [serves]
  exact ⟨by simp, State.reg_setReg_self⟩

section
variable {e : CanRx} {seq : BitVec 16}

theorem canTaken_q0 : (s.canTaken c e seq).can[c].q0 = s.can[c].q0 ++ [e] := by
  rw [State.canTaken, State.raise_can, State.incWrap_can, modCan_can_self, canAcked_q0]

theorem canTaken_q1 : (s.canTaken c e seq).can[c].q1 = s.can[c].q1 := by
  rw [State.canTaken, State.raise_can, State.incWrap_can, modCan_can_self, canAcked_q1]

theorem canTaken_seq : (s.canTaken c e seq).can[c].seq = seq := by
  rw [State.canTaken, State.raise_can, State.incWrap_can, modCan_can_self]

theorem canTaken_out : (s.canTaken c e seq).out = s.out := State.raise_out ..

theorem canTaken_reg_ne {k : Nat} (h : ∀ x ∈ [Reg.canNoack c, Reg.canCnt c, Reg.pgIrq (pCAN c)], k ≠ x) :
    (s.canTaken c e seq).reg k = s.reg k := by
  simp only [List.forall_mem_cons, List.not_mem_nil, false_implies, implies_true, and_true] at h
  obtain ⟨hack, hcnt, hirq⟩ := h
  exact (State.reg_raise_ne hirq).trans ((State.reg_setFld_ne hcnt).trans (canAcked_reg_ne hack))

theorem steward_ne (c : Fin 2) : (∀ x ∈ [Reg.canNoack c, Reg.canCnt c, Reg.pgIrq (pCAN c)], Reg.secStat ≠ x)
    ∧ ∀ x ∈ [Reg.canNoack c, Reg.canCnt c, Reg.pgIrq (pCAN c)], Reg.rstDom ≠ x := by
  revert c; decide

theorem canTaken_now : (s.canTaken c e seq).now = s.now := by
  rw [State.now, State.canTaken, State.raise_time]
  rfl

theorem canTaken_serves (h : s.Serves) : (s.canTaken c e seq).Serves := by
  obtain ⟨up, normal, stays, time⟩ := h
  obtain ⟨stat, dom⟩ := steward_ne c
  have upd : (s.canTaken c e seq).upd = s.upd := State.raise_upd ..
  constructor
  all_goals simpa only [State.stewardUp, State.inRecovery, State.handingOver, State.domainUp, State.fld,
    canTaken_reg_ne stat,
      canTaken_reg_ne dom, upd]

end

/-! ### The reception clauses -/

section
variable (h : s.CanListens c h0)

theorem canRxCnt_ne (c : Fin 2) : Reg.canRxCnt c ≠ Reg.canNoack c ∧ Reg.canRxCnt c ≠ Reg.pgIrq (pCAN c)
    ∧ CanKey (Reg.canRxCnt c) = true := by
  revert c; decide

theorem fld_canAcked_rxCnt (hi lo : Nat) : (s.canAcked c).fld (Reg.canRxCnt c) hi lo = s.fld (Reg.canRxCnt c) hi lo :=
  fld_eq_of_reg (canAcked_reg_ne (canRxCnt_ne c).1)

include h

/-- A frame that no filter accepts is counted (R494). -/
theorem canFrameRx_unmatched (none : (List.range 16).find? (s.canMatch c (canHdr0 h0)) = none) :
    (canFrameRx c h0 h1 d s).can[c].q0 = s.can[c].q0 ∧ (canFrameRx c h0 h1 d s).can[c].q1 = s.can[c].q1
      ∧ (canFrameRx c h0 h1 d s).fld (Reg.canRxCnt c) 31 16 = min 0xFFFF (s.fld (Reg.canRxCnt c) 31 16 + 1)
      ∧ (canFrameRx c h0 h1 d s).out = if s.canMode c = 1 then s.out ++ [.canAck c] else s.out := by
  have queued := canQueued_unmatched (h1 := h1) (d := d) none
  obtain ⟨q0, q1, -, reg⟩ := canFrameRx_channel (h1 := h1) (d := d) h
  obtain ⟨-, -, key⟩ := canRxCnt_ne c
  refine ⟨?_, ?_, ?_, canFrameRx_out h (by rw [queued]; rfl)⟩
  · rw [q0, queued, State.incSat_can, canAcked_q0]
  · rw [q1, queued, State.incSat_can, canAcked_q1]
  · rw [fld_eq_of_reg (reg _ key), queued, fld_incSat_self (by decide) (by decide), fld_canAcked_rxCnt]
    rfl

variable {f : Nat} (found : (List.range 16).find? (s.canMatch c (canHdr0 h0)) = some f)
  (first : s.fld (Reg.bank f (Reg.canFmatch c)) 30 30 = 0)
include found first

/-- A frame that finds its queue full is lost and counted (R494). -/
theorem canFrameRx_full (full : 32 ≤ s.can[c].q0.length) :
    (canFrameRx c h0 h1 d s).can[c].q0 = s.can[c].q0 ∧ (canFrameRx c h0 h1 d s).can[c].q1 = s.can[c].q1
      ∧ (canFrameRx c h0 h1 d s).fld (Reg.canRxCnt c) 15 0 = min 0xFFFF (s.fld (Reg.canRxCnt c) 15 0 + 1) := by
  have queued := canQueued_full (h1 := h1) (d := d) found first full
  obtain ⟨q0, q1, -, reg⟩ := canFrameRx_channel (h1 := h1) (d := d) h
  obtain ⟨-, irq, key⟩ := canRxCnt_ne c
  refine ⟨?_, ?_, ?_⟩
  · rw [q0, queued, State.raise_can, State.incSat_can, canAcked_q0]
  · rw [q1, queued, State.raise_can, State.incSat_can, canAcked_q1]
  · rw [fld_eq_of_reg (reg _ key), queued, fld_raise_ne irq, fld_incSat_self (by decide) (by decide), fld_canAcked_rxCnt]
    rfl

section
variable (room : s.can[c].q0.length < 32)
include room

/-- A frame goes to the end of its queue (R493, R494). -/
theorem canFrameRx_queued :
    (canFrameRx c h0 h1 d s).can[c].q0.map CanRx.frame
        = s.can[c].q0.map CanRx.frame ++ [(canEntry f (s.can[c].seq + 1) h0 h1 d).frame]
      ∧ (canFrameRx c h0 h1 d s).can[c].q1.length = s.can[c].q1.length
      ∧ (canFrameRx c h0 h1 d s).can[c].seq = s.can[c].seq + 1
      ∧ (canFrameRx c h0 h1 d s).out = if s.canMode c = 1 then s.out ++ [.canAck c] else s.out := by
  have queued := canQueued_room (h1 := h1) (d := d) found first room
  obtain ⟨q0, q1, seq, -⟩ := canFrameRx_channel (h1 := h1) (d := d) h
  refine ⟨?_, ?_, ?_, canFrameRx_out h (by rw [queued, canServe_out, canTaken_out])⟩
  · rw [q0, queued, canServe_frames, canTaken_q0, List.map_append]
    rfl
  · rw [q1, queued, canServe_q1_length, canTaken_q1]
  · rw [seq, queued, canServe_seq, canTaken_seq]

/-- A running steward stamps it with the global time (R43, R61). -/
theorem canFrameRx_stamped (serves : s.Serves) :
    (canFrameRx c h0 h1 d s).can[c].q0.getLast?.bind CanRx.stamp = some s.now
      ∧ (canFrameRx c h0 h1 d s).reg Reg.timNowHi = s.now.extractLsb' 32 32 := by
  have queued := canQueued_room (h1 := h1) (d := d) found first room
  obtain ⟨q0, -, -, reg⟩ := canFrameRx_channel (h1 := h1) (d := d) h
  obtain ⟨stamped, now⟩ := canServe_waiting (c := c) (canTaken_serves (c := c) (seq := s.can[c].seq + 1) serves)
    (e := canEntry f (s.can[c].seq + 1) h0 h1 d) (by rw [canTaken_q0]; exact List.mem_append_right _ List.mem_cons_self) rfl
  constructor
  · rw [q0, queued, stamped, canTaken_q0, List.map_append, canTaken_now]
    simp [CanRx.served, canEntry]
  · rw [reg _ (by decide), queued, now, canTaken_now]

end

end

/-! ### Errors and recovery -/

theorem onPage_can {f : State → State} (up : s.domainUp 8 = true) : s.onPage (pCAN c) f = f s := by
  have page : pageDomain (pCAN c) = 8 := by revert c; decide
  rw [State.onPage, page, if_pos up]

theorem canStart_regs : (s.canStart c).regs = s.regs := by
  rcases canStart_cases s c with h | ⟨b, h⟩ <;> rw [h]
  rfl

theorem canStart_reg (k : Nat) : (s.canStart c).reg k = s.reg k := by rw [State.reg, canStart_regs]; rfl

theorem canFree_reg (k : Nat) : (s.canFree c).reg k = s.reg k := (canStart_reg k).trans rfl

theorem canFree_fld (k hi lo : Nat) : (s.canFree c).fld k hi lo = s.fld k hi lo := fld_eq_of_reg (canFree_reg k)

/-- The channel is in bus-off after none of its counters has passed 255 (ISO 11898-1). -/
theorem canCounters_errors {tec rec : Nat} (h : tec ≤ 255) :
    (s.canCounters c tec rec).fld (Reg.canErr c) 8 0 = tec
      ∧ (s.canCounters c tec rec).fld (Reg.canErr c) 23 16 = min rec 255
      ∧ (s.canCounters c tec rec).canErr c = (if 127 < tec ∨ 127 < rec then 1 else 0)
      ∧ (s.canCounters c tec rec).fld (Reg.canErr c) 31 28 = s.fld (Reg.canErr c) 31 28 := by
  have irq : Reg.canErr c ≠ Reg.pgIrq (pCAN c) := by revert c; decide
  unfold State.canCounters
  extract_lets was t₁ t₂ t₃ t₄ i u₁ u₂ st u₃
  have shown (hi lo : Nat) : (if st = 1 ∧ was = 0 then u₃.raise (pCAN c) 3 else u₃).fld (Reg.canErr c) hi lo
      = u₃.fld (Reg.canErr c) hi lo := by
    split
    · exact fld_raise_ne irq
    · rfl
  have two : st < 4 := by unfold st; split <;> decide
  rw [if_neg (by omega), State.canErr, shown, shown, shown, shown]
  unfold u₃ u₂ u₁
  rw [State.fld_setFld_disjoint (by decide) (by decide), State.fld_setFld_disjoint (by decide) (by decide),
    State.fld_setFld_self, State.fld_setFld_disjoint (by decide) (by decide), State.fld_setFld_self,
    State.fld_setFld_self, State.fld_setFld_disjoint (by decide) (by decide),
    State.fld_setFld_disjoint (by decide) (by decide), State.fld_setFld_disjoint (by decide) (by decide)]
  exact ⟨Nat.mod_eq_of_lt (by omega), Nat.mod_eq_of_lt (by omega), Nat.mod_eq_of_lt two, rfl⟩

theorem canErr_ne (c : Fin 2) : Reg.canLife c ≠ Reg.canErr c ∧ Reg.canCtrl c ≠ Reg.canErr c
    ∧ Reg.canErr c ≠ Reg.pgIrq pTIM := by
  revert c; decide

section
variable {l : BitVec 4} {dom : Bool}

theorem canMode_setErr {hi lo v : Nat} : (s.setFld (Reg.canErr c) hi lo v).canMode c = s.canMode c := by
  obtain ⟨life, ctrl, -⟩ := canErr_ne c
  have retired : (s.setFld (Reg.canErr c) hi lo v).canRetired c = s.canRetired c :=
    congrArg (bit · 16) (State.reg_setFld_ne life)
  rw [State.canMode, State.canMode, retired, State.fld_setFld_ne ctrl]

/-- An error while receiving raises REC, but not in LISTEN (R488). -/
theorem canBusError_eq (mode : s.canMode c ≠ 0) (err : s.canErr c ≠ 2) :
    canBusError c l dom s = (if s.canMode c = 2 then s.setFld (Reg.canErr c) 31 28 l.toNat
      else (s.setFld (Reg.canErr c) 31 28 l.toNat).canCounters c (s.fld (Reg.canErr c) 8 0)
        (s.fld (Reg.canErr c) 23 16 + if dom then 8 else 1)).canFree c := by
  unfold canBusError
  dsimp only
  rw [if_neg (by omega), canMode_setErr, State.fld_setFld_disjoint (hi' := 8) (by decide) (by decide),
    State.fld_setFld_disjoint (hi' := 23) (by decide) (by decide)]

end

/-- RECOVER in bus-off (R499). -/
theorem canCmdRecover_off (up : s.domainUp 8 = true) (off : s.canErr c = 2) :
    canCmdRecover c s = s.setFld (Reg.canErr c) 26 26 1 :=
  (onPage_can up).trans (if_pos off)

theorem canCmdRecover_on (up : s.domainUp 8 = true) (on : s.canErr c ≠ 2) : canCmdRecover c s = s.refuse (Reg.canCmd c) :=
  (onPage_can up).trans (if_neg on)

theorem bit_setFld_self {k i : Nat} (hi : i < 32) : bit ((s.setFld k i i 1).reg k) i = true := by
  rw [State.setFld, State.reg_setReg_self, bit_withBits hi]
  rfl

theorem recovering (off : s.canErr c = 2) : bit ((s.setFld (Reg.canErr c) 26 26 1).reg (Reg.canErr c)) 26 = true
    ∧ (s.setFld (Reg.canErr c) 26 26 1).canErr c = 2 :=
  ⟨bit_setFld_self (by decide), (State.fld_setFld_disjoint (by decide) (by decide)).trans off⟩

theorem canRecoveryDelay_off (off : s.canErr c = 2) (waits : bit (s.reg (Reg.canErr c)) 26 = false)
    (delay : s.can[c].delayMs ≠ 0) (up : s.stewardUp = true) :
    canRecoveryDelay c s = canCmdRecover c (s.waitOp (s.can[c].offAt + s.can[c].delayMs * 1000000)) := by
  unfold canRecoveryDelay
  exact if_pos ⟨off, by rw [waits]; decide, delay, up⟩

/-- The steward issues RECOVER once its delay has passed (R501). -/
theorem canRecoveryDelay_recovers (up : s.domainUp 8 = true) (off : s.canErr c = 2)
    (waits : bit (s.reg (Reg.canErr c)) 26 = false) (delay : s.can[c].delayMs ≠ 0) (stw : s.stewardUp = true) :
    Does (.canRecoveryDelay c) s fun t => bit (t.reg (Reg.canErr c)) 26 = true ∧ t.canErr c = 2 ∧ t.can = s.can
      ∧ t.opNs = (s.waitOp (s.can[c].offAt + s.can[c].delayMs * 1000000)).opNs := by
  obtain ⟨-, -, irq⟩ := canErr_ne c
  have later := canRecoveryDelay_off off waits delay stw
  let u := s.waitOp (s.can[c].offAt + s.can[c].delayMs * 1000000)
  have dom : u.reg Reg.rstDom = s.reg Reg.rstDom := State.waitOp_reg_ne s _ (by decide)
  have up' : u.domainUp 8 = true := by rw [State.domainUp, dom]; exact up
  have off' : u.canErr c = 2 := (fld_eq_of_reg (State.waitOp_reg_ne s _ irq)).trans off
  obtain ⟨asked, still⟩ := recovering off'
  exact ⟨_, congrArg Host.Outcome.next (later.trans (canCmdRecover_off up' off')),
    asked, still, State.waitOp_can s _, rfl⟩

theorem canRecoveryDelay_never (never : s.can[c].delayMs = 0) : canRecoveryDelay c s = s :=
  if_neg fun ⟨_, _, delay, _⟩ => delay never

theorem canRecoveryDone_recovering (off : s.canErr c = 2) (asked : bit (s.reg (Reg.canErr c)) 26 = true) :
    canRecoveryDone c s = (s.setReg (Reg.canErr c) (s.reg (Reg.canErr c) &&& 0xF0000000)).canFree c :=
  if_pos ⟨off, asked⟩

theorem and_highNibble (w : Word) : w &&& (0xF0000000 : Word) = w >>> 28 <<< 28 := by
  have mask : ∀ i < 32, (0xF0000000 : Word).getLsbD i = decide (28 ≤ i) := by decide
  refine BitVec.eq_of_getLsbD_eq fun i hi => ?_
  rw [BitVec.getLsbD_and, mask i hi, BitVec.getLsbD_shiftLeft, BitVec.getLsbD_ushiftRight]
  by_cases h : 28 ≤ i
  · simp [h, hi, show ¬ i < 28 by omega, show 28 + (i - 28) = i by omega]
  · simp [h, show i < 28 by omega]

/-- TEC, REC and the error state are 0, the code of the last error stays. -/
theorem bits_lec (w : Word) : bits (w &&& 0xF0000000) 27 0 = 0 ∧ bits (w &&& 0xF0000000) 31 28 = bits w 31 28 := by
  have high : (w &&& 0xF0000000).toNat = w.toNat / 2 ^ 28 * 2 ^ 28 := by
    rw [and_highNibble, BitVec.toNat_shiftLeft, BitVec.toNat_ushiftRight, Nat.shiftLeft_eq, Nat.shiftRight_eq_div_pow]
    omega
  simp only [bits, high, Nat.shiftRight_eq_div_pow]
  omega
/-! ### Retirement -/

theorem canOff_ne (c : Fin 2) :
    ∀ k ∈ [Reg.canLife c, Reg.canCtrl c], ∀ x ∈ [Reg.canTxStat c, Reg.pgIrq (pCAN c)], k ≠ x := by
  revert c; decide

theorem canUnsent_reg_ne {k b : Nat} {aborted : Bool} (h : ∀ x ∈ [Reg.canTxStat c, Reg.pgIrq (pCAN c)], k ≠ x) :
    (s.canUnsent c b aborted).reg k = s.reg k := by
  simp only [List.forall_mem_cons, List.not_mem_nil, false_implies, implies_true, and_true] at h
  obtain ⟨stat, irq⟩ := h
  have ended (v : Nat) : (s.txEnds c b v).reg k = s.reg k := State.reg_setFld_ne stat
  unfold State.canUnsent
  split
  · rfl
  · split
    · exact ended 3
    · split
      · exact (State.reg_raise_ne irq).trans (ended 4)
      · rfl

theorem canUnsent_onBus {b : Nat} {aborted : Bool} : (s.canUnsent c b aborted).can[c].onBus = s.can[c].onBus := by
  have ended (v : Nat) : (s.txEnds c b v).can[c].onBus = s.can[c].onBus := by rw [State.txEnds, modCan_can_self]; rfl
  unfold State.canUnsent
  split
  · rfl
  · split
    · exact ended 3
    · split
      · exact (congrArg (fun v : Vector CanCh 2 => v[c].onBus) (State.raise_can ..)).trans (ended 4)
      · rfl

theorem canOff_reg_ne {k : Nat} (h : ∀ x ∈ [Reg.canTxStat c, Reg.pgIrq (pCAN c)], k ≠ x) :
    (s.canOff c).reg k = s.reg k := by
  unfold State.canOff
  dsimp only
  split
  · exact canUnsent_reg_ne h
  · rfl

theorem canOff_onBus : (s.canOff c).can[c].onBus = none := by
  unfold State.canOff
  dsimp only
  split
  · rw [canUnsent_onBus, modCan_can_self]
  · rw [modCan_can_self]

theorem canRetire_ne (c : Fin 2) : ∀ k ∈ [Reg.canLife c, Reg.canCtrl c],
    k ≠ Reg.pgErr (pCAN c) ∧ k ≠ Reg.pgErrInfo (pCAN c) ∧ k ≠ Reg.pgIrq (pCAN c) := by
  revert c; decide

/-- A retired channel is off the bus, in OFF (R503). -/
theorem canRetire_retired (s : State) (c : Fin 2) (cause : Nat) : (s.canRetire c cause).canRetired c = true
    ∧ (s.canRetire c cause).fld (Reg.canCtrl c) 1 0 = 0 ∧ (s.canRetire c cause).can[c].onBus = none := by
  have reg {k : Nat} (hk : k ∈ [Reg.canLife c, Reg.canCtrl c]) : (s.canRetire c cause).reg k
      = ((s.setFld (Reg.canLife c) 16 16 1).setFld (Reg.canCtrl c) 1 0 0).reg k := by
    obtain ⟨err, info, irq⟩ := canRetire_ne c k hk
    exact (State.reg_logErr_ne err info).trans ((State.reg_raise_ne irq).trans (canOff_reg_ne (canOff_ne c k hk)))
  have life : ∀ c : Fin 2, Reg.canLife c ≠ Reg.canCtrl c := by decide
  refine ⟨?_, ?_, ?_⟩
  · rw [State.canRetired, reg List.mem_cons_self, State.reg_setFld_ne (life c), bit_setFld_self (by decide)]
  · rw [fld_eq_of_reg (reg (List.mem_cons_of_mem _ List.mem_cons_self)), State.fld_setFld_self]
    rfl
  · unfold State.canRetire
    simp only [State.recErr, State.event_can, State.logErr_can, State.raise_can, canOff_onBus]

theorem canMode_retired (h : s.canRetired c = true) : s.canMode c = 0 := if_pos h

theorem canMode_unretired (h : s.canRetired c = false) : s.canMode c = s.fld (Reg.canCtrl c) 1 0 := by
  rw [State.canMode, h]; rfl

theorem unretired_of_canMode (h : s.canMode c ≠ 0) : s.canRetired c = false := by
  by_contra retired
  exact h (canMode_retired (by simpa using retired))

/-- The driver is released (R489). -/
def State.canLetGo (s : State) (c : Fin 2) : State := (s.modCan c fun x => { x with released := true }).send (.canRelease c)

/-- The timeout is remembered with those of the last hour (R503). -/
def State.canReleased (s : State) (c : Fin 2) : State := (s.canLetGo c).modCan c fun x =>
  { x with hist := s.opTime.toNat :: (s.canLetGo c).can[c].hist.filter fun h => decide (s.opTime.toNat ≤ h + 3600000) }

theorem canLetGo_can : (s.canLetGo c).can[c].hist = s.can[c].hist ∧ (s.canLetGo c).can[c].released = true := by
  have self := modCan_can_self s c fun x => { x with released := true }
  exact ⟨(congrArg CanCh.hist self).trans rfl, (congrArg CanCh.released self).trans rfl⟩

theorem canReleased_hist : (s.canReleased c).can[c].hist
    = s.opTime.toNat :: s.can[c].hist.filter fun h => decide (s.opTime.toNat ≤ h + 3600000) := by
  rw [State.canReleased, modCan_can_self, canLetGo_can.1]

theorem canReleased_released : (s.canReleased c).can[c].released = true := by
  rw [State.canReleased, modCan_can_self, canLetGo_can.2]

theorem canDominantTimeout_eq (up : s.domainUp 8 = true) (mode : s.canMode c = 1 ∨ s.canMode c = 2) :
    canDominantTimeout c s = if s.can[c].hist.any (fun h => decide (s.opTime.toNat ≤ h + 3600000))
      then (s.canReleased c).canRetire c 1 else s.canReleased c := by
  have retired : (s.canReleased c).canRetired c = false := unretired_of_canMode (s := s) (by omega)
  have held : ¬ (s.canMode c = 0 ∨ s.canMode c = 3 ∨ (!s.domainUp 8) = true) := by
    rw [up]
    rintro (h | h | h)
    · omega
    · omega
    · exact Bool.noConfusion h
  have empty (l : List Nat) (p : Nat → Bool) : (l.filter p).isEmpty = !l.any p := by
    rw [Bool.eq_iff_iff]
    simp [List.filter_eq_nil_iff]
  unfold canDominantTimeout
  rw [if_neg held]
  change (if ((List.filter (fun h => decide (s.opTime.toNat ≤ h + 3600000)) (s.canLetGo c).can[c].hist).isEmpty
    || (s.canReleased c).canRetired c) = true then s.canReleased c else (s.canReleased c).canRetire c 1) = _
  rw [retired, empty, Bool.or_false, canLetGo_can.1]
  generalize List.any _ _ = recent
  cases recent <;> rfl

/-! ### Leaving OFF -/

section
variable {v : Word} (up : s.domainUp 8 = true) (live : s.canRetired c = false) (off : s.canMode c = 0)
  (leaves : bits v 1 0 ≠ 0)

/-- The settings of CAN_CTRL are kept while the mode stays OFF. -/
def State.canSettings (s : State) (c : Fin 2) (v : Word) : State :=
  s.setReg (Reg.canCtrl c) (withBits (v &&& 0xF) 1 0 0)

theorem canSettings_ne (c : Fin 2) : ∀ x ∈ [Reg.canLife c, Reg.canNbt c, Reg.canDbt c], x ≠ Reg.canCtrl c := by
  revert c; decide

theorem canSettings_reg {k : Nat} (h : k ∈ [Reg.canLife c, Reg.canNbt c, Reg.canDbt c]) :
    (s.canSettings c v).reg k = s.reg k := State.reg_setReg_ne (canSettings_ne c k h)

theorem canSettings_retired : (s.canSettings c v).canRetired c = s.canRetired c :=
  congrArg (bit · 16) (canSettings_reg List.mem_cons_self)

theorem canSettings_off : (s.canSettings c v).fld (Reg.canCtrl c) 1 0 = 0 := by
  rw [State.fld, State.canSettings, State.reg_setReg_self, bits_withBits_self (by decide) (by decide)]
  rfl

include up live off leaves

/-- A mode is entered from OFF with valid timing and a passed check (R490, R503). -/
theorem canCtrlWrite_eq (check : Bool) : canCtrlWrite c v check s =
    if !canTimingOk (s.reg (Reg.canNbt c)) (s.reg (Reg.canDbt c)) (bit v 2) then
      (s.canSettings c v).logErr (pCAN c) 0x0103 (BitVec.ofNat 32 (bits v 1 0))
    else if !check then (s.canSettings c v).canRetire c 2
    else ((s.canSettings c v).setFld (Reg.canCtrl c) 1 0 (bits v 1 0)).canStart c := by
  have nbt : (s.canSettings c v).reg (Reg.canNbt c) = s.reg (Reg.canNbt c) := canSettings_reg (by simp)
  have dbt : (s.canSettings c v).reg (Reg.canDbt c) = s.reg (Reg.canDbt c) := canSettings_reg (by simp)
  refine (onPage_can up).trans ?_
  dsimp only
  rw [off]
  change (if (s.canSettings c v).canRetired c = true then _ else if 0 = 0 ∧ bits v 1 0 ≠ 0 then
    if (!canTimingOk ((s.canSettings c v).reg (Reg.canNbt c)) ((s.canSettings c v).reg (Reg.canDbt c)) (bit v 2)) = true
    then _ else _ else _) = _
  rw [canSettings_retired, live, if_neg Bool.false_ne_true, if_pos ⟨rfl, leaves⟩, nbt, dbt]
  rfl

/-- With a timing that R490 does not allow the channel stays in OFF. -/
theorem canCtrlWrite_bad (check : Bool)
    (bad : canTimingOk (s.reg (Reg.canNbt c)) (s.reg (Reg.canDbt c)) (bit v 2) = false) :
    (canCtrlWrite c v check s).canMode c = 0 ∧ bits ((canCtrlWrite c v check s).reg (Reg.pgErr (pCAN c))) 31 16
      = min 0xFFFF (bits (s.reg (Reg.pgErr (pCAN c))) 31 16 + 1) := by
  have ne : ∀ c : Fin 2,
      (∀ k ∈ [Reg.canLife c, Reg.canCtrl c], k ≠ Reg.pgErr (pCAN c) ∧ k ≠ Reg.pgErrInfo (pCAN c))
    ∧ Reg.pgErr (pCAN c) ≠ Reg.canCtrl c := by decide
  obtain ⟨logged, err⟩ := ne c
  obtain ⟨lifeErr, lifeInfo⟩ := logged (Reg.canLife c) (by simp)
  obtain ⟨ctrlErr, ctrlInfo⟩ := logged (Reg.canCtrl c) (by simp)
  have live' : ((s.canSettings c v).logErr (pCAN c) 0x0103 (BitVec.ofNat 32 (bits v 1 0))).canRetired c = false := by
    rw [State.canRetired, State.reg_logErr_ne lifeErr lifeInfo]
    exact canSettings_retired.trans live
  rw [canCtrlWrite_eq up live off leaves, bad, Bool.not_false, if_pos rfl]
  constructor
  · rw [canMode_unretired live', fld_eq_of_reg (State.reg_logErr_ne ctrlErr ctrlInfo), canSettings_off]
  · rw [logErr_count (by decide), State.canSettings, State.reg_setReg_ne err]

section
variable (good : canTimingOk (s.reg (Reg.canNbt c)) (s.reg (Reg.canDbt c)) (bit v 2) = true)
include good

/-- The internal check has passed: the channel takes the mode (R490). -/
theorem canCtrlWrite_passed :
    (canCtrlWrite c v true s).canMode c = bits v 1 0 ∧ (canCtrlWrite c v true s).canRetired c = false := by
  have life : ∀ c : Fin 2, Reg.canLife c ≠ Reg.canCtrl c := by decide
  have entered : canCtrlWrite c v true s = ((s.canSettings c v).setFld (Reg.canCtrl c) 1 0 (bits v 1 0)).canStart c := by
    rw [canCtrlWrite_eq up live off leaves, good]
    rfl
  have live' : (canCtrlWrite c v true s).canRetired c = false := by
    rw [entered, State.canRetired, canStart_reg, State.reg_setFld_ne (life c)]
    exact canSettings_retired.trans live
  refine ⟨?_, live'⟩
  rw [canMode_unretired live', entered, fld_eq_of_reg (canStart_reg _), State.fld_setFld_self]
  exact Nat.mod_eq_of_lt (bits_lt v 1 0)

/-- It has not: the channel is retired (R503). -/
theorem canCtrlWrite_failed : (canCtrlWrite c v false s).canRetired c = true := by
  rw [canCtrlWrite_eq up live off leaves, good]
  exact (canRetire_retired ..).1

end

end

/-- Settles O58. -/
theorem canReceiveAndErrors : Obligations.CanReceiveAndErrors := by
  unfold Obligations.CanReceiveAndErrors
  refine ⟨?_, ?_, ?_, ?_, ?_, ?_, ?_, ?_, ?_, ?_⟩
  · intro f c h0 h1 d s up mode err fits found first room
    have h : s.CanListens c h0 := ⟨up, mode, err, fits⟩
    obtain ⟨q0, q1, seq, out⟩ := canFrameRx_queued (h1 := h1) (d := d) h found first room
    exact ⟨_, rfl, q0, q1, seq, canFrameRx_foreign h, out, fun stw rec hand tim =>
      canFrameRx_stamped h found first room ⟨stw, rec, hand, tim⟩⟩
  · intro f c h0 h1 d s up mode err fits found first full
    exact ⟨_, rfl, canFrameRx_full ⟨up, mode, err, fits⟩ found first full⟩
  · intro c h0 h1 d s up mode err fits none
    exact ⟨_, rfl, canFrameRx_unmatched ⟨up, mode, err, fits⟩ none⟩
  · intro c s up
    have pop : canRxPop c s = if bit (s.reg (Reg.canRxSel c)) 0 then s.modCan c (fun x => { x with q1 := x.q1.drop 1 })
        else s.modCan c (fun x => { x with q0 := x.q0.drop 1 }) := onPage_can up
    constructor
    · intro sel
      rw [sel, if_neg Bool.false_ne_true] at pop
      refine ⟨_, congrArg Host.Outcome.next pop, ?_, ?_⟩ <;> rw [modCan_can_self]
    · intro sel
      rw [sel, if_pos rfl] at pop
      refine ⟨_, congrArg Host.Outcome.next pop, ?_, ?_⟩ <;> rw [modCan_can_self]
  · intro c l dom r s mode err tec hr
    obtain ⟨tecs, recs, state, lec⟩ :=
      canCounters_errors (s := s.setFld (Reg.canErr c) 31 28 l.toNat) (c := c) (rec := r) tec
    have eq := canBusError_eq (l := l) (dom := dom) (by omega : s.canMode c ≠ 0) err
    rw [mode, if_neg (by decide), ← hr] at eq
    refine ⟨_, congrArg Host.Outcome.next eq, ?_, ?_, ?_, ?_, canFree_foreign⟩
    · rw [canFree_fld, lec, State.fld_setFld_self]
      exact Nat.mod_eq_of_lt l.isLt
    · rw [canFree_fld, recs]
    · rw [canFree_fld, tecs]
    · rw [← state]
      exact canFree_fld ..
  · intro c l dom s mode err
    have eq := canBusError_eq (l := l) (dom := dom) (by omega : s.canMode c ≠ 0) err
    rw [if_pos mode] at eq
    exact congrArg Host.Outcome.next eq
  · intro c s up off
    obtain ⟨asked, still⟩ := recovering off
    refine ⟨⟨_, congrArg Host.Outcome.next (canCmdRecover_off up off), asked, still, rfl⟩,
      fun waits delay stw => ?_, fun never => ?_,
      fun asked => ⟨_, congrArg Host.Outcome.next (canRecoveryDone_recovering off asked), ?_⟩⟩
    · exact canRecoveryDelay_recovers up off waits delay stw
    · exact congrArg Host.Outcome.next (canRecoveryDelay_never never)
    · obtain ⟨low, high⟩ := bits_lec (s.reg (Reg.canErr c))
      constructor <;> rw [canFree_fld, State.fld, State.reg_setReg_self]
      · exact low
      · exact high
  · intro c s up on
    exact congrArg Host.Outcome.next (canCmdRecover_on up on)
  · intro c s up mode
    have eq := canDominantTimeout_eq up mode
    refine ⟨fun old => ?_, fun recent => ?_⟩
    · have none : s.can[c].hist.any (fun h => decide (s.opTime.toNat ≤ h + 3600000)) = false := by
        rw [List.any_eq_false]
        intro h hh
        have := of_decide_eq_true (List.all_eq_true.mp old h hh)
        simp only [decide_eq_true_eq]
        omega
      rw [none, if_neg Bool.false_ne_true] at eq
      refine ⟨_, congrArg Host.Outcome.next eq, ?_, canReleased_released, rfl, rfl⟩
      rw [canReleased_hist, List.filter_eq_nil_iff.mpr (List.any_eq_false.mp none)]
    · rw [recent, if_pos rfl] at eq
      obtain ⟨retired, ctrl, bus⟩ := canRetire_retired (s.canReleased c) c 1
      exact ⟨_, congrArg Host.Outcome.next eq, retired, canMode_retired retired, ctrl, bus⟩
  · intro c v k s up live off leaves
    exact ⟨fun bad => ⟨_, rfl, canCtrlWrite_bad up live off leaves k bad⟩, fun good =>
      ⟨⟨_, rfl, canCtrlWrite_passed up live off leaves good⟩, _, rfl, canCtrlWrite_failed up live off leaves good⟩⟩

end Sys2Proof.Machine
end

section
/-! PROOFS. What the work of the sequencer, the lanes, the gambit unit and the pair leaves alone: the time base, the reset
controller, and the registers that stand for both. Each shared operation has one lemma here, which later proofs chain. -/

namespace Sys2Proof.Machine

/-! ### The registers that stay -/

/-- The registers of the RST, CLK and TIM pages and of the Mebarid ports, but for the page headers, and the state of the
Dunly link. -/
def ClockKey (k : Nat) : Bool :=
  decide (0x40 ≤ k % 0x1000) && (decide (1 ≤ keyPage k ∧ keyPage k ≤ 3)
    || decide (0x60 ≤ keyPage k ∧ keyPage k ≤ 0x61)
    || k % 0x100000 == Reg.dxlState)

theorem ne_of_clockKey {j k : Nat} (hj : ClockKey j = true) (hk : ClockKey k = false) : j ≠ k := by
  rintro rfl
  exact Bool.noConfusion (hj.symm.trans hk)

theorem clockKey_mod (k : Nat) : ClockKey (k % 0x100000) = ClockKey k := by
  have h1 : k % 0x100000 % 0x1000 = k % 0x1000 := by omega
  have h2 : keyPage (k % 0x100000) = keyPage k := by unfold keyPage; omega
  simp only [ClockKey, h1, h2, Nat.mod_mod]

theorem clockKey_bank (i k : Nat) : ClockKey (Reg.bank i k) = ClockKey k := by
  rw [← clockKey_mod, ← clockKey_mod k, Nat.mul_add_mod_self_right]

theorem clockKey_header {p o : Nat} (h : o < 0x40) : ClockKey (p * 0x1000 + o) = false := by
  have header : decide (0x40 ≤ (p * 0x1000 + o) % 0x1000) = false := decide_eq_false (by omega)
  rw [ClockKey, header, Bool.false_and]

/-! ### The relation -/

/-- From `s` to `t` the queue, the time base, the reset controller, a WEDGE that waits for its reset and the registers of
`ClockKey` stay, events are only added, and outside the lanes of `w` every lane keeps its state and its ply. -/
structure Quiet (w : Fin 16 → Prop) (s t : State) : Prop where
  pending : t.pending = s.pending
  time : t.time = s.time
  rst : t.rst = s.rst
  wedge : t.host.wedgeAt = s.host.wedgeAt
  reg : ∀ k, ClockKey k = true → t.reg k = s.reg k
  events : s.events <+: t.events
  ply : ∀ n : Fin 16, ¬ w n → t.lanes[n].ply = s.lanes[n].ply
  state : ∀ n : Fin 16, ¬ w n → t.lanes[n].state = s.lanes[n].state

/-- What `Quiet` speaks of. -/
def State.watched (s : State) : List Instr × TimeBase × ResetCtl × RegFile × List Event × Vector Lane 16 × Option Nat :=
  (s.pending, s.time, s.rst, s.regs, s.events, s.lanes, s.host.wedgeAt)

theorem watched_eq {s t : State} (h : t.watched = s.watched) : t.pending = s.pending ∧ t.time = s.time ∧ t.rst = s.rst
    ∧ t.regs = s.regs ∧ t.events = s.events ∧ t.lanes = s.lanes ∧ t.host.wedgeAt = s.host.wedgeAt := by
  simpa only [State.watched, Prod.mk.injEq] using h

/-- No lane. -/
abbrev noLane : Fin 16 → Prop := fun _ => False

variable {w : Fin 16 → Prop} {s t u : State} {n : Fin 16}

namespace Quiet

theorem refl (w : Fin 16 → Prop) (s : State) : Quiet w s s :=
  ⟨rfl, rfl, rfl, rfl, fun _ _ => rfl, List.prefix_rfl, fun _ _ => rfl, fun _ _ => rfl⟩

theorem trans (h : Quiet w s t) (h' : Quiet w t u) : Quiet w s u where
  pending := h'.pending.trans h.pending
  time := h'.time.trans h.time
  rst := h'.rst.trans h.rst
  wedge := h'.wedge.trans h.wedge
  reg k hk := (h'.reg k hk).trans (h.reg k hk)
  events := h.events.trans h'.events
  ply n hn := (h'.ply n hn).trans (h.ply n hn)
  state n hn := (h'.state n hn).trans (h.state n hn)

theorem mono {v : Fin 16 → Prop} (h : Quiet w s t) (hv : ∀ n, w n → v n) : Quiet v s t :=
  { h with ply := fun n hn => h.ply n fun hw => hn (hv n hw), state := fun n hn => h.state n fun hw => hn (hv n hw) }

/-- A state that differs in other fields alone. -/
theorem like (h : Quiet w s t) (same : u.watched = t.watched) : Quiet w s u := by
  obtain ⟨pending, time, rst, regs, events, lanes, wedge⟩ := watched_eq same
  exact {
    pending := pending.trans h.pending
    time := time.trans h.time
    rst := rst.trans h.rst
    wedge := wedge.trans h.wedge
    reg := fun k hk => by rw [State.reg, regs]; exact h.reg k hk
    events := events ▸ h.events
    ply := fun n hn => by rw [lanes]; exact h.ply n hn
    state := fun n hn => by rw [lanes]; exact h.state n hn }

theorem ite {c : Prop} [Decidable c] (ht : Quiet w s t) (hu : Quiet w s u) : Quiet w s (if c then t else u) := by
  split
  · exact ht
  · exact hu

theorem foldl {α : Type} {f : State → α → State} (hf : ∀ x u, Quiet w s u → Quiet w s (f u x)) :
    ∀ {l : List α} {t : State}, Quiet w s t → Quiet w s (l.foldl f t)
  | [], _, h => h
  | x :: l, t, h => foldl (l := l) hf (hf x t h)

theorem over16 {f : State → Fin 16 → State} (h : Quiet w s t) (hf : ∀ n u, Quiet w s u → Quiet w s (f u n)) :
    Quiet w s (over16 f t) := foldl hf h

/-! ### Registers, records, messages -/

theorem setReg (h : Quiet w s t) {k : Nat} (v : Word) (hk : ClockKey k = false) : Quiet w s (t.setReg k v) :=
  { h with reg := fun j hj => (State.reg_setReg_ne (ne_of_clockKey hj hk)).trans (h.reg j hj) }

theorem setFld (h : Quiet w s t) {k hi lo : Nat} (v : Nat) (hk : ClockKey k = false) :
    Quiet w s (t.setFld k hi lo v) := h.setReg _ hk

theorem incSat (h : Quiet w s t) {k hi lo : Nat} (hk : ClockKey k = false) : Quiet w s (t.incSat k hi lo) :=
  h.setFld _ hk

theorem incWrap (h : Quiet w s t) {k hi lo : Nat} (hk : ClockKey k = false) : Quiet w s (t.incWrap k hi lo) :=
  h.setFld _ hk

theorem peak (h : Quiet w s t) {k hi lo v : Nat} (hk : ClockKey k = false) : Quiet w s (t.peak k hi lo v) :=
  ite (h.setFld _ hk) h

theorem raise (h : Quiet w s t) (p b : Nat) : Quiet w s (t.raise p b) := ite (h.setReg _ (clockKey_header (by decide))) h

theorem logErr (h : Quiet w s t) (p c : Nat) (i : Word) : Quiet w s (t.logErr p c i) :=
  have hk {o : Nat} (ho : o < 0x40) : ClockKey (p * 0x1000 + o) = false := clockKey_header ho
  ite ((h.setReg _ (hk (by decide))).setReg _ (hk (by decide))) (h.setReg _ (hk (by decide)))

theorem event (h : Quiet w s t) (ty src : Nat) (pr : Prio) (b : Bytes) : Quiet w s (t.event ty src pr b) :=
  { h with events := h.events.trans (List.prefix_append _ _) }

theorem recErr (h : Quiet w s t) (p c : Nat) (i : Word) (pr : Prio) (b : Bytes) : Quiet w s (t.recErr p c i pr b) :=
  h.event ..

theorem recIrq (h : Quiet w s t) (p b : Nat) (pr : Prio) (m : Bytes) : Quiet w s (t.recIrq p b pr m) := h.event ..

theorem send (h : Quiet w s t) (o : Output) : Quiet w s (t.send o) := h.like rfl
theorem modNet (h : Quiet w s t) (f : Net → Net) : Quiet w s (t.modNet f) := h.like rfl
theorem modPair (h : Quiet w s t) (f : Pair → Pair) : Quiet w s (t.modPair f) := h.like rfl
theorem modSeqr (h : Quiet w s t) (f : Seqr → Seqr) : Quiet w s (t.modSeqr f) := h.like rfl
theorem modCtx (h : Quiet w s t) (k : Fin 16) (f : GmbCtx → GmbCtx) : Quiet w s (t.modCtx k f) := h.like rfl
theorem modTask (h : Quiet w s t) (k : Fin 16) (f : TaskRun → TaskRun) : Quiet w s (t.modTask k f) := h.like rfl
theorem modFio (h : Quiet w s t) (c : Fin 16) (f : FioCh → FioCh) : Quiet w s (t.modFio c f) := h.like rfl
theorem writeMem (h : Quiet w s t) (a : Nat) (l : Bytes) : Quiet w s (t.writeMem a l) := h.like rfl
theorem evidence (h : Quiet w s t) : Quiet w s t.evidence := h.like rfl

end Quiet

/-! ### Lanes -/

theorem modLane_lanes_self (s : State) (n : Fin 16) (f : Lane → Lane) : (s.modLane n f).lanes[n] = f s.lanes[n] := by
  simp [State.modLane]

theorem modLane_lanes_ne (s : State) {n m : Fin 16} (f : Lane → Lane) (h : m ≠ n) :
    (s.modLane n f).lanes[m] = s.lanes[m] :=
  Vector.getElem_set_ne n.isLt m.isLt fun e => h (Fin.ext e.symm)

namespace Quiet

/-- A change of lane `n` in what is neither its state nor its ply. -/
theorem modLane (h : Quiet w s t) (n : Fin 16) {f : Lane → Lane} (ply : ∀ l, (f l).ply = l.ply)
    (state : ∀ l, (f l).state = l.state) : Quiet w s (t.modLane n f) := by
  refine { h with ply := fun m hm => ?_, state := fun m hm => ?_ } <;> by_cases e : m = n
  · subst e; rw [modLane_lanes_self, ply]; exact h.ply m hm
  · rw [modLane_lanes_ne _ _ e]; exact h.ply m hm
  · subst e; rw [modLane_lanes_self, state]; exact h.state m hm
  · rw [modLane_lanes_ne _ _ e]; exact h.state m hm

/-- Any change of a lane of `w`. -/
theorem modLaneOf (h : Quiet w s t) (hn : w n) (f : Lane → Lane) : Quiet w s (t.modLane n f) := by
  refine { h with ply := fun m hm => ?_, state := fun m hm => ?_ } <;> have e : m ≠ n := fun e => hm (e ▸ hn)
  · rw [modLane_lanes_ne _ _ e]; exact h.ply m hm
  · rw [modLane_lanes_ne _ _ e]; exact h.state m hm

theorem spoil (h : Quiet w s t) (k : Fin 16) (cause lane : Nat) : Quiet w s (t.spoil k cause lane) := by
  unfold State.spoil
  dsimp only
  split
  · exact h
  · split
    · exact (h.modCtx ..).raise ..
    · exact ite (h.modCtx ..) h

theorem setLane (h : Quiet w s t) (hn : w n) (st : LaneState) : Quiet w s (t.setLane n st) := by
  unfold State.setLane
  split
  · exact h
  · have spoilt : Quiet w s (match t.lanes[n].owner with
        | some k => if t.lanes[n].state = LaneState.running then t.spoil (Fin.ofNat 16 k) 6 n else t
        | none => t) := by
      split
      · exact ite (h.spoil ..) h
      · exact h
    have shown := ((spoilt.modLaneOf hn fun l => { l with
      state := st, rolls := if decide (st = .barred ∨ st = .borneOff) then 0 else l.rolls }))
    exact ite (((((shown.like (by rfl)).raise ..).recIrq ..).setReg _ (by decide)).raise ..)
      (((shown.like (by rfl)).raise ..).recIrq ..)

end Quiet

end Sys2Proof.Machine
end

section
namespace Sys2Proof.Machine
variable {w : Fin 16 → Prop} {s t u : State} {n : Fin 16}

theorem clockKey_lane (n : Fin 16) {o : Nat} (h : o < 0x1000) : ClockKey ((0x08 + n) * 0x1000 + o) = false := by
  have page : keyPage ((0x08 + n) * 0x1000 + o) = 0x08 + n := by unfold keyPage; omega
  have link : ¬ ((0x08 + n) * 0x1000 + o) % 0x100000 = Reg.dxlState := by show ¬ _ = 0x68040; omega
  have low : ¬ 0x08 + n.val ≤ 3 := by omega
  have port : ¬ 0x60 ≤ 0x08 + n.val := by omega
  simp [ClockKey, page, link, low, port]

theorem clockKey_bank_of {i k : Nat} (h : ClockKey k = false) : ClockKey (Reg.bank i k) = false :=
  (clockKey_bank i k).trans h

namespace Quiet

/-! ### Plies -/

theorem settleLane (h : Quiet w s t) (hn : w n) : Quiet w s (t.settleLane n) := ite (h.setLane hn _) h

theorem plyOutcome (h : Quiet w s t) (n : Fin 16) (k : Nat) : Quiet w s (t.plyOutcome n k) :=
  (h.setFld _ (clockKey_lane n (by decide))).modLane n (fun _ => rfl) fun _ => rfl

theorem plyUse (h : Quiet w s t) (n : Fin 16) : Quiet w s (t.plyUse n) := by
  have key : ClockKey (Reg.laneWlog n) = false := clockKey_lane n (by decide)
  unfold State.plyUse
  exact Quiet.modLane ((h.setFld _ key).peak key) n (fun _ => rfl) fun _ => rfl

theorem endOfPly (h : Quiet w s t) (n : Fin 16) (k : Nat) : Quiet w s (t.endOfPly n k) := (h.plyUse n).plyOutcome n k

theorem haltWork (h : Quiet w s t) (hn : w n) : Quiet w s (t.haltWork n) := by
  have restored := h.modLaneOf hn fun l =>
    if l.stuck ∨ !l.busy3 t.opNs then l else { l with busy := none, bgLost := true }
  unfold State.haltWork
  dsimp only
  split
  · split
    · exact restored
    · exact ((ite (restored.spoil ..) restored).endOfPly n 4 |>.modLane n (by intro; rfl) (by intro; rfl)).modLaneOf hn _
  · exact restored.modLaneOf hn _

theorem clearPly (h : Quiet w s t) (hn : w n) : Quiet w s (t.clearPly n) :=
  ((h.setFld _ (clockKey_lane n (by decide))).modLaneOf hn _).settleLane hn

theorem lateOutcome (h : Quiet w s t) (n : Fin 16) (p : Ply) : Quiet w s (t.lateOutcome n p) := by
  unfold State.lateOutcome
  split
  · exact h
  · exact h.plyOutcome ..
  · exact h.endOfPly ..

theorem countLate (h : Quiet w s t) (n : Fin 16) (p : Ply) : Quiet w s (t.countLate n p) := by
  have counted := (((h.lateOutcome n p).incSat (k := Reg.bank n Reg.bsqLaneCnt) (hi := 15) (lo := 0)
    (clockKey_bank_of (by decide))).setReg (k := Reg.bsqLastAbort)
    (BitVec.ofNat 32 (p.idx % 2 ^ 16 + n.val * 2 ^ 16)) (by decide)).raise pBSQ 2
  unfold State.countLate
  dsimp only
  have task : ∀ {v}, Quiet w s v → Quiet w s
      (if p.entry.raisesQual then v.modTask p.entry.task (fun t => { t with late := true }) else v) :=
    fun hv => ite (hv.modTask ..) hv
  exact ite ((task (counted.like (by rfl))).spoil ..) (task (counted.like (by rfl)))

theorem abortPly (h : Quiet w s t) (hn : w n) : Quiet w s (t.abortPly n) := by
  unfold State.abortPly
  split
  · exact h
  · exact ((ite h (h.countLate ..)).clearPly hn).modLane n (by intro; rfl) (by intro; rfl)

theorem abortAll (h : Quiet (fun _ => True) s t) : Quiet (fun _ => True) s t.abortAll :=
  h.over16 fun _ _ hu => hu.abortPly trivial

/-! ### Image memory and the units of a state transfer -/

theorem dunlySend (h : Quiet w s t) (lane : Fin 4) (kind : Nat) (b : Bytes) : Quiet w s (t.dunlySend lane kind b) :=
  ite h (h.like (by rfl))

theorem sendJoinc (h : Quiet w s t) (op reason : Nat) (r : Word) : Quiet w s (t.sendJoinc op reason r) := h.dunlySend ..

theorem sendUnit (h : Quiet w s t) (space ofs : Nat) (m : Bool) (b : Bytes) : Quiet w s (t.sendUnit space ofs m b) :=
  h.dunlySend ..

theorem closingOverrun (h : Quiet w s t) (x : XferRun) : Quiet w s (t.closingOverrun x) :=
  (((h.sendJoinc ..).modPair _).setFld _ (by decide)).setFld _ (by decide)

theorem touchUnit (h : Quiet w s t) (space unit ofs k : Nat) : Quiet w s (t.touchUnit space unit ofs k) := by
  unfold State.touchUnit
  split
  · exact h
  · dsimp only
    split
    · exact ite (((h.sendUnit ..).modPair _).closingOverrun _) ((h.sendUnit ..).modPair _)
    · exact h.modPair _

theorem touchLine (h : Quiet w s t) (line k : Nat) : Quiet w s (t.touchLine line k) := ite (h.touchUnit ..) h

theorem imemSet (h : Quiet w s t) (ofs : Nat) (v : Word) (q : BitVec 4) : Quiet w s (t.imemSet ofs v q) :=
  ite h (h.like (by rfl))

theorem imemPut (h : Quiet w s t) (ofs : Nat) (v : Word) (q : BitVec 4) : Quiet w s (t.imemPut ofs v q) :=
  (h.imemSet ..).touchLine ..

theorem qualEvent (h : Quiet w s t) (ev ofs : Nat) : Quiet w s (t.qualEvent ev ofs) :=
  ite h (ite (h.imemPut ..) (h.imemSet ..))

theorem qualRange (h : Quiet w s t) (ev ofs k : Nat) : Quiet w s (t.qualRange ev ofs k) :=
  foldl (fun _ _ hu => hu.qualEvent ..) h

/-! ### Stand-down causes and movers -/

theorem sdShow (h : Quiet w s t) : Quiet w s t.sdShow :=
  ite h (foldl (fun _ _ hu => (((hu.like (by rfl)).setReg _ (by decide)).raise ..).recIrq ..) h)

theorem sdCause (h : Quiet w s t) (c : Nat) : Quiet w s (t.sdCause c) := ite h (sdShow (h.like (by rfl)))

theorem moverQual (h : Quiet w s t) (e : Entry) : Quiet w s (t.moverQual e) := by
  unfold State.moverQual
  split
  · exact h.like (by rfl)
  · split
    · exact ite h (h.modTask ..)
    · exact foldl (fun _ _ hu => hu.qualRange ..) h

theorem moverFault (h : Quiet w s t) (x : MoverXfer) (cause addr : Nat) : Quiet w s (t.moverFault x cause addr) := by
  unfold State.moverFault
  extract_lets m t₁ t₂ t₃ t₄ i t₅ t₆ t₇
  have h₁ : Quiet w s t₁ := h.like rfl
  have h₃ : Quiet w s t₃ := ((h₁.setReg _ (by decide)).setReg _ (by decide)).setReg _ (by decide)
  have h₄ : Quiet w s t₄ := (h₃.setFld _ (by decide)).incSat (by decide)
  have h₇ : Quiet w s t₇ := ((((h₄.raise ..).logErr ..).recErr ..).evidence).moverQual _
  exact ite h₇ (h₇.sdCause 3)

theorem moverOverrun (h : Quiet w s t) (x : MoverXfer) : Quiet w s (t.moverOverrun x) :=
  moverFault (((h.raise ..).logErr ..).like (by rfl)) x 3 x.next

theorem stopMovers (h : Quiet w s t) : Quiet w s t.stopMovers := (foldl (fun _ _ hu => hu.moverOverrun _) h).like
    (by rfl)

/-! ### Gambit contexts -/

theorem leaveCtx (h : Quiet w s t) (n : Fin 16) (commit : Bool) : Quiet w s (t.leaveCtx n commit) := by
  unfold State.leaveCtx
  dsimp only
  have restored := foldl (l := t.lanes[n].shadowBuf) (f := fun s x => s.restoreLine n x)
    (fun _ _ hu => hu.like (by rfl)) h
  refine (ite h ?_).modLane n (by intro; rfl) (by intro; rfl)
  exact ((restored.setFld _ (clockKey_bank_of (by decide))).incSat (clockKey_bank_of (by decide))).modLane n
    (by intro; rfl) (by intro; rfl)

/-- A context that closes by an event of R218. -/
theorem closeCtx (h : Quiet w s t) (k : Fin 16) :
    Quiet w s (t.carryOut k ⟨false, 10, 0, none, none, none, none⟩ (some 0x0103)) := by
  have key {x : Nat} (hx : ClockKey x = false) : ClockKey (Reg.bank k x) = false := clockKey_bank_of hx
  have left := foldl (l := t.ctxLanes k) (f := fun u n => u.leaveCtx n false) (fun n _ hu => hu.leaveCtx n false) h
  have reset := left.modCtx k fun c => { GmbCtx.reset with result := c.result }
  exact (((((((reset.setReg _ (key (by decide))).setReg _ (key (by decide))).incSat (key (by decide))).modPair _).setFld _
    (key (by decide))).raise ..).logErr ..).recErr ..

theorem closeContexts (h : Quiet w s t) : Quiet w s t.closeContexts := h.over16 fun k _ hu => ite (hu.closeCtx k) hu

end Quiet
end Sys2Proof.Machine
end

section
/-! PROOFS. What a reset leaves of the field block's surroundings and of the episode that runs,
and the source that begins it. -/

namespace Sys2Proof.Machine
variable {w : Fin 16 → Prop} {s t u : State}

/-! ### The field block and the castle latch -/

namespace Quiet

theorem fioApply (h : Quiet w s t) (c : Fin 16) : Quiet w s (t.fioApply c) := by
  unfold State.fioApply
  extract_lets d t₁ t₂ t₃
  have h₁ : Quiet w s t₁ := ite (h.setFld _ (by decide)) h
  have h₂ : Quiet w s t₂ := ite h₁ (h₁.modFio ..)
  have h₃ : Quiet w s t₃ := h₂.setFld _ (by decide)
  exact ite (h₃.modFio ..) h₃

theorem loopSet (h : Quiet w s t) : Quiet w s t.loopSet :=
  (((ite (h.raise ..) h).setFld _ (by decide)).setFld _ (by decide)).setFld _ (by decide)

theorem loopFollow (h : Quiet w s t) : Quiet w s t.loopFollow := ite h.loopSet h

theorem releaseLine (h : Quiet w s t) : Quiet w s t.releaseLine :=
  ite (((h.setFld _ (by decide)).setFld _ (by decide)).raise ..) ((h.setFld _ (by decide)).setFld _ (by decide))

end Quiet

/-- FLD just after its registers and channels took their reset values. -/
def State.fldCleared (s : State) : State :=
  { s.resetRegs (fun p => (pageClass p).isSome && pageDomain p == 9) with fio := FieldIo.reset }

theorem fldCleared_rst : s.fldCleared.rst = s.rst := by
  unfold State.fldCleared State.resetRegs
  rfl

theorem resetDomain_field : s.resetDomain 9 = (s.setFld Reg.rstDom 9 9 0).resetFld := by
  unfold State.resetDomain
  rfl

theorem Quiet.resetFld : Quiet noLane s.fldCleared s.resetFld := by
  refine Quiet.over16 (t := s.fldCleared) (.refl ..) fun c u hu => ite ?_ hu
  exact (((hu.modFio ..).setFld _ (by decide)).setFld _ (by decide)).fioApply c

/-! ### The episode -/

/-- From `s` to `t` the queue and the episode's sources and reach stay, a clock that is not good stays so, and no WEDGE
begins to wait for its reset. -/
structure Sustains (s t : State) : Prop where
  pending : t.pending = s.pending
  running : t.rst.running = s.rst.running
  sources : t.rst.sources = s.rst.sources
  reach : t.rst.reach = s.rst.reach
  good : ∀ i, s.clockGood i = false → t.clockGood i = false
  wedge : s.host.wedgeAt = none → t.host.wedgeAt = none

namespace Sustains

theorem refl (s : State) : Sustains s s := ⟨rfl, rfl, rfl, rfl, fun _ => id, id⟩

theorem trans (h : Sustains s t) (h' : Sustains t u) : Sustains s u where
  pending := h'.pending.trans h.pending
  running := h'.running.trans h.running
  sources := h'.sources.trans h.sources
  reach := h'.reach.trans h.reach
  good i hi := h'.good i (h.good i hi)
  wedge hw := h'.wedge (h.wedge hw)

theorem like (h : Sustains s t)
    (same : (u.pending, u.rst, u.host.wedgeAt) = (t.pending, t.rst, t.host.wedgeAt)) : Sustains s u := by
  simp only [Prod.mk.injEq] at same
  obtain ⟨pending, rst, wedge⟩ := same
  exact h.trans ⟨pending, by rw [rst], by rw [rst], by rw [rst], fun i hi => by rwa [State.clockGood, rst],
    fun hw => wedge.trans hw⟩

theorem quiet (h : Sustains s t) (q : Quiet w t u) : Sustains s u := h.like (by rw [q.pending, q.rst, q.wedge])

theorem ite {c : Prop} [Decidable c] (ht : Sustains s t) (hu : Sustains s u) : Sustains s (if c then t else u) := by
  split
  · exact ht
  · exact hu

theorem foldl {α : Type} {f : State → α → State} (hf : ∀ x u, Sustains s u → Sustains s (f u x)) :
    ∀ {l : List α} {t : State}, Sustains s t → Sustains s (l.foldl f t)
  | [], _, h => h
  | x :: l, t, h => foldl (l := l) hf (hf x t h)

theorem clockGood_none (i : Nat) (h : s.rst.clkAt = Vector.replicate 20 none) : s.clockGood i = false := by
  rw [State.clockGood, h]
  by_cases hi : i < 20 <;> simp [hi]

theorem storeBroken (h : Sustains s t) : Sustains s t.storeBroken := by
  unfold State.storeBroken
  refine ite ?_ h
  unfold State.setImg
  split <;> exact h.like (by rfl)

theorem formerSettings (h : Sustains s t) : Sustains s t.formerSettings := ite (h.like (by rfl)) h

theorem fldCleared (h : Sustains s t) : Sustains s t.fldCleared := by
  unfold State.fldCleared State.resetRegs
  dsimp only
  exact h.like (by rfl)

/-- A domain's reset (R389). -/
theorem resetDomain (h : Sustains s t) (d : Nat) : Sustains s (t.resetDomain d) := by
  unfold State.resetDomain
  extract_lets +onlyGivenNames t₁ t₂
  have h₂ : Sustains s t₂ := ite (h.like (by rfl)) (h.like (by rfl))
  split
  · exact { h₂ with good := fun i _ => clockGood_none i rfl }
  · exact h₂.like (by rfl)
  · exact (h₂.like (by rfl)).quiet (Quiet.releaseLine (.refl noLane _))
  · exact h₂.like (by rfl)
  · have h₃ := h₂.storeBroken.formerSettings
    refine Sustains.quiet ?_ (Quiet.releaseLine (.refl noLane _))
    exact { h₃ with wedge := fun _ => rfl }
  · exact h₂.fldCleared.quiet Quiet.resetFld
  · exact foldl (fun _ _ hu => ite (hu.like (by rfl)) hu) h₂

theorem showRst (h : Sustains s t) : Sustains s t.showRst := h.like rfl

theorem driveExtest (h : Sustains s t) (was : Bool) : Sustains s (t.driveExtest was) := ite (h.like (by rfl)) h

theorem endWarm (h : Sustains s t) : Sustains s t.endWarm :=
  h.quiet (Quiet.over16 ((Quiet.refl noLane _).setReg _ (by decide)) fun c _ hu => (hu.modFio ..).fioApply c)

end Sustains

/-- A source that asserts (R390 to R393): the episode runs, with the source among its own and no narrower reach. -/
structure Asserted (b reach : Nat) (s t : State) : Prop where
  pending : t.pending = s.pending
  running : t.rst.running = true
  source : t.rst.sources.getLsbD b = true
  reach : t.rst.reach ≤ reach
  good : ∀ i, s.clockGood i = false → t.clockGood i = false
  wedge : s.host.wedgeAt = none → t.host.wedgeAt = none

theorem getLsbD_or_source (r : BitVec 13) {b : Nat} (hb : b < 13) : (r ||| BitVec.ofNat 13 (2 ^ b)).getLsbD b = true := by
  rw [BitVec.getLsbD_or, BitVec.getLsbD_ofNat, Nat.testBit_two_pow_self, decide_eq_true hb, Bool.and_true, Bool.or_true]

theorem assertSource_asserted {b : Nat} (reach : Nat) (level : Bool) (hb : b < 13) :
    Asserted b reach s (s.assertSource b reach level) := by
  unfold State.assertSource
  extract_lets +onlyGivenNames drove demoted reach' r r₁ first s₁ widest r₂ s₂ s₃ s₄ s₅ s₆ s₇ s₈ rst s₉
  have h₃ : Sustains s₂ s₃ := .ite ((Sustains.refl _).like (by rfl)) (.refl _)
  have h₄ : Sustains s₂ s₄ := .foldl (fun d _ hu => .ite (hu.resetDomain d) hu) h₃
  have h₅ : Sustains s₂ s₅ := .ite h₄ h₄.endWarm
  have h₆ : Sustains s₂ s₆ := .foldl (fun _ _ hu => (hu.like (by rfl))) h₅
  have h₉ : Sustains s₂ s₉ := .ite (h₆.like (by rfl)) { h₆ with }
  have h := (h₉.driveExtest drove).showRst
  have clk : r₁.clkAt = s.rst.clkAt := by unfold r₁; split <;> rfl
  have running : r₁.running = true := by
    unfold r₁
    split
    · assumption
    · rfl
  have host : s₁.host = s.host := by unfold s₁; split <;> rfl
  have pending : s₁.pending = s.pending := by unfold s₁; split <;> rfl
  exact {
    pending := h.pending.trans pending
    running := h.running.trans (running)
    source := by rw [h.sources]; exact getLsbD_or_source _ hb
    reach := by
      rw [h.reach]
      refine (Nat.min_le_right ..).trans ?_
      unfold reach'
      split <;> simp_all [demoted]
    good := fun i hi => h.good i (by rwa [State.clockGood, ← clk] at hi)
    wedge := fun hw => h.wedge (by rw [← hw, ← host]) }

end Sys2Proof.Machine
end

section
/-! PROOFS. The statement of 02_time_base.md about the passing of time on an empty queue (O2). -/

namespace Sys2Proof.Machine
variable {s : State}

/-! ### One BCLK edge -/

/-- The slew that has been applied grows with each cycle by that cycle's value (R546). -/
theorem slewGone_succ (total : Int) (c : Nat) : slewGone total (c + 1) - slewGone total c = slewAt total c := by
  unfold slewGone slewAt
  dsimp only
  generalize total.natAbs / 100000 = q
  generalize hm : total.natAbs % 100000 = m
  have hm : m < 100000 := by omega
  by_cases hc : c < 100000
  · have next : min (c + 1) 100000 = c + 1 := by omega
    have here : min c 100000 = c := by omega
    have unit : min (c + 1) m = min c m + b2n (decide (c < m)) := by
      by_cases h : c < m <;> simp [h, b2n] <;> omega
    rw [next, here, unit, Nat.succ_mul, if_pos hc]
    split <;> push_cast <;> omega
  · have next : min (c + 1) 100000 = 100000 := by omega
    have here : min c 100000 = 100000 := by omega
    rw [next, here, if_neg hc, sub_self]

/-- A cycle's share of the slew, with the slew's sign as a factor. -/
theorem slewAt_eq (total : Int) (c : Nat) : slewAt total c = if c < 100000 then (if total < 0 then -1 else 1) *
    ((total.natAbs / 100000 + b2n (decide (c < total.natAbs % 100000)) : Nat) : Int) else 0 := by
  unfold slewAt
  split
  · split
    · rw [neg_one_mul]
    · rw [one_mul]
  · rfl

theorem gain_one (tb : TimeBase) : tb.gain 1 = tb.rate := by
  rw [TimeBase.gain, slewGone_succ, TimeBase.rate]
  omega

theorem pipWrap_time (x : BitVec 64) : (s.pipWrap x).time = s.time := by
  unfold State.pipWrap; split <;> simp
theorem pipWrap_opTime (x : BitVec 64) : (s.pipWrap x).opTime = s.opTime := by
  unfold State.pipWrap; split <;> simp
theorem pipWrap_opFrac (x : BitVec 64) : (s.pipWrap x).opFrac = s.opFrac := by
  unfold State.pipWrap; split <;> simp

theorem edge_released (up : bit (s.reg Reg.rstDom) 2 = true) : s.edge = s.edges 1 := if_pos up

theorem edges_gt (k : Nat) : (s.edges k).time.gt = s.time.gt + BitVec.ofInt 96 (s.time.gain k) := by
  rw [State.edges, pipWrap_time]

theorem edges_slewCycle (k : Nat) : (s.edges k).time.slewCycle = s.time.slewCycle + k := by
  rw [State.edges, pipWrap_time]

theorem edges_opTime (k : Nat) : (s.edges k).opTime = s.opTime + BitVec.ofNat 48 ((s.opFrac + 5 * k) / 2000000) := by
  rw [State.edges, pipWrap_opTime]; rfl

theorem edges_opFrac (k : Nat) : (s.edges k).opFrac = (s.opFrac + 5 * k) % 2000000 := by
  rw [State.edges, pipWrap_opFrac]; rfl

/-! ### What the block does of its own -/

theorem step_empty (h : s.pending = []) : step s = .next s.tick := by rw [step, h]

theorem tick_unwedged (h : s.edge.host.wedgeAt = none) : s.tick = s.edge := by
  rw [State.tick, h]

theorem tick_wedged {w : Nat} (h : s.edge.host.wedgeAt = some w) :
    s.tick = if w + 10000000 ≤ s.edge.opNs then s.edge.wedgeReset else s.edge := by
  rw [State.tick, h]

theorem edges_stewardUp (k : Nat) : (s.edges k).stewardUp = s.stewardUp := by
  have stat : (s.edges k).reg Reg.secStat = s.reg Reg.secStat := State.edges_reg_ne _ _ (by decide)
  simp only [State.stewardUp, State.inRecovery, State.fld, stat]

theorem wedgeReset_due (h : s.host.wedgeAt.isSome = true) (up : s.stewardUp = true) :
    s.wedgeReset = { s with host := { s.host with wedgeAt := none } }.assertSource 10 1 false := by
  rw [State.wedgeReset, h, up]
  rfl

/-- Settles O2. -/
theorem emptyQueueTick : Obligations.EmptyQueueTick := by
  unfold Obligations.EmptyQueueTick
  refine ⟨fun s idle up calm => ?_, fun s idle down aon calm => ?_, fun s idle down off calm => ?_,
    fun w s idle up wedge => ?_⟩
  · have edge := edge_released up
    refine ⟨s.edge, by rw [step_empty idle, tick_unwedged (by rw [edge, State.edges_host, calm])], ?_⟩
    rw [edge]
    refine ⟨?_, edges_slewCycle 1, edges_opTime 1, edges_opFrac 1, State.edges_mem .., State.edges_lanes ..,
      (State.edges_pending ..).trans idle⟩
    rw [edges_gt, gain_one, TimeBase.rate, slewAt_eq]
    rfl
  · have edge : s.edge = s.opAdvance 5 := by simp [State.edge, down, aon]
    rw [step_empty idle, tick_unwedged (by rw [edge, State.opAdvance_host, calm]), edge]
    rfl
  · have edge : s.edge = s := by simp [State.edge, down, off]
    rw [step_empty idle, tick_unwedged (by rw [edge, calm]), edge]
  · have edge := edge_released up
    have host : s.edge.host = s.host := by rw [edge, State.edges_host]
    have pending : s.edge.pending = [] := by rw [edge, State.edges_pending, idle]
    have tick := tick_wedged (host ▸ wedge : s.edge.host.wedgeAt = some w)
    refine ⟨fun early => ⟨s.edge, ?_, ?_, ?_, ?_, host, pending⟩, fun due stw => ?_⟩
    · rw [step_empty idle, tick, if_neg (Nat.not_le.mpr early)]
    · rw [edge, edges_gt]
    · rw [edge, State.edges_mem]
    · rw [edge, State.edges_lanes]
    · have reset : s.edge.wedgeReset
          = { s.edge with host := { s.edge.host with wedgeAt := none } }.assertSource 10 1 false :=
        wedgeReset_due (by rw [host, wedge]; rfl) (by rw [edge, edges_stewardUp, stw])
      have asserted := assertSource_asserted (s := { s.edge with host := { s.edge.host with wedgeAt := none } })
        (b := 10) 1 false (by decide)
      rw [step_empty idle, tick, if_pos due, reset]
      exact ⟨_, rfl, asserted.running, asserted.source, asserted.reach, asserted.wedge rfl, asserted.pending.trans pending⟩

end Sys2Proof.Machine
end

section
/-! PROOFS. What a change of the module state leaves alone: the time base, the reset controller, the lanes' plies. -/

namespace Sys2Proof.Machine
variable {w : Fin 16 → Prop} {s t : State}

namespace Quiet

/-! ### Messages to the host -/

theorem hapSend (h : Quiet w s t) (dst : HostAddr) (key type flags status : Nat) (x : Word) (seg segs : Nat) (b : Bytes) :
    Quiet w s (t.hapSend dst key type flags status x seg segs b) := by
  unfold State.hapSend
  split <;> exact h.like (by rfl)

theorem notify (h : Quiet w s t) (kind : Nat) (b : Bytes) : Quiet w s (t.notify kind b) := by
  unfold State.notify
  refine ite h (foldl (fun i u hu => ?_) h)
  split
  · exact ite (hapSend (hu.like (by rfl)) ..) hu
  · exact hu

/-! ### The module state -/

theorem toState (h : Quiet w s t) (st : ModState) : Quiet w s (t.toState st) := by
  unfold State.toState
  extract_lets was t₁ pair t₂ t₃
  have h₁ : Quiet w s t₁ := ite h.releaseLine h
  have h₂ : Quiet w s t₂ := h₁.like (by rfl)
  have h₃ : Quiet w s t₃ := (h₂.raise ..).recIrq ..
  exact ite h (h₃.loopFollow.notify ..)

theorem joinPhase (h : Quiet w s t) (p : Nat) : Quiet w s (t.joinPhase p) := h.setFld p (by decide)

theorem enterJoining (h : Quiet w s t) : Quiet w s t.enterJoining := by
  unfold State.enterJoining
  extract_lets boot t₁ pair t₂
  have h₁ : Quiet w s t₁ := ((h.toState _).closeContexts).setFld 0 (by decide)
  clear_value t₁
  have h₂ : Quiet w s t₂ := h₁.like (by rfl)
  exact (h₂.sendJoinc ..).joinPhase 1

theorem seqStop (h : Quiet w s t) : Quiet w s t.seqStop := ite h (h.like (by rfl))

theorem initStore (h : Quiet w s t) (b : Tables) (area : Nat) : Quiet w s (t.initStore b area) :=
  foldl (fun _ _ hu => hu.writeMem ..) (h.like (by rfl))

theorem restoreRetained (h : Quiet w s t) (b : Tables) (area : Nat) : Quiet w s (t.restoreRetained b area) :=
  foldl (fun _ _ hu => ite (ite (hu.recErr ..) (hu.writeMem ..)) hu) h

theorem joinToBoot (h : Quiet w s t) : Quiet w s t.joinToBoot := by
  have boot := ((h.toState .boot).seqStop).joinPhase 0
  unfold State.joinToBoot
  dsimp only
  split
  · exact (boot.initStore ..).restoreRetained ..
  · exact boot

theorem abandonJoin (h : Quiet w s t) (reason : Nat) : Quiet w s (t.abandonJoin reason) :=
  ((((h.logErr ..).recErr ..).raise ..).joinPhase 0).setFld reason (by decide)

theorem bootNotes (h : Quiet w s t) : Quiet w s t.bootNotes := by
  unfold State.bootNotes
  extract_lets ep t₁ t₂
  have h₁ : Quiet w s t₁ := ite (h.recIrq ..) h
  have h₂ : Quiet w s t₂ := h₁.modPair _
  exact ite h (ite ((h₂.recIrq ..).modPair _) h₂)

theorem linkLost (h : Quiet w s t) : Quiet w s t.linkLost := by
  unfold State.linkLost
  split
  · exact ite (h.toState _) h
  · exact ite h.joinToBoot (ite (h.abandonJoin _) ((h.modPair _).joinPhase 0))
  · exact h.joinPhase 0
  · exact h.bootNotes
  · exact h

end Quiet

end Sys2Proof.Machine
end

section
/-! PROOFS. The statement of 02_time_base.md about the clock monitors, the crystal, a wedged block and a warm die (O20). -/

namespace Sys2Proof.Machine
variable {s t a : State} {i : Fin 20} {c : BitVec 16}

/-! ### A domain and a clock -/

theorem domainUp_of_reg (h : t.reg Reg.rstDom = s.reg Reg.rstDom) (d : Nat) : t.domainUp d = s.domainUp d := by
  simp only [State.domainUp, h]

theorem clockGood_of_rst (h : t.rst = s.rst) (j : Nat) : t.clockGood j = s.clockGood j := by
  simp only [State.clockGood, h]

theorem clockOff_bad (s : State) (j : Nat) : (s.clockOff j).clockGood j = false := by
  unfold State.clockGood State.clockOff
  by_cases h : j < 20 <;> simp [h]

/-! ### A clock that is good -/

/-- The clock is good for the reset controller from now on, or from when it was. -/
def State.clockKept (s : State) (i : Nat) : State :=
  if s.clockGood i then s else { s with rst := { s.rst with clkAt := s.rst.clkAt.setIfInBounds i (some s.opNs) } }

theorem clockKept_good (i : Fin 20) : (s.clockKept i).clockGood i = true := by
  unfold State.clockKept
  split
  · assumption
  · simp [State.clockGood]

theorem clockKept_regs (j : Nat) : (s.clockKept j).regs = s.regs := by unfold State.clockKept; split <;> rfl
theorem clockKept_lanes (j : Nat) : (s.clockKept j).lanes = s.lanes := by unfold State.clockKept; split <;> rfl
theorem clockKept_reg (j k : Nat) : (s.clockKept j).reg k = s.reg k := congrArg (tget 0 · k) (clockKept_regs j)

theorem clockOn_monitored (up : s.domainUp 2 = true) (hi : i.val < 18) :
    s.clockOn i = ((s.clockKept i).setFld Reg.clkLocked i i 1).setFld Reg.clkGood i i 1 := by
  have up' : (s.clockKept i).domainUp 2 = true := (domainUp_of_reg (clockKept_reg ..) 2).trans up
  refine if_neg ?_
  show ¬ (!(s.clockKept i).domainUp 2 || decide (18 ≤ i.val)) = true
  simp [up', hi]

theorem clockOn_unmonitored (hi : 18 ≤ i.val) : s.clockOn i = s.clockKept i := if_pos (by simp [hi])

/-! ### The commands -/

/-- A window's count is kept. -/
abbrev State.counted (s : State) (i : Fin 20) (c : BitVec 16) : State := s.setReg (Reg.bank i Reg.clkCount) (c.setWidth 32)

/-- The limits of clock `i` (R34). -/
abbrev State.InLimits (s : State) (i : Fin 20) (c : BitVec 16) : Prop :=
  bits (s.reg (Reg.bank i Reg.clkLim)) 15 0 ≤ c.toNat ∧ c.toNat ≤ bits (s.reg (Reg.bank i Reg.clkLim)) 31 16

theorem clockMonitorWindowEnd_counted (up : s.domainUp 2 = true) (hi : i.val < 18) : clockMonitorWindowEnd i c s
    = if s.InLimits i c then (s.counted i c).clockOn i else (s.counted i c).clockBad i := by
  unfold clockMonitorWindowEnd
  dsimp only
  rw [if_neg (by omega), if_pos up]

theorem pllLossOfLock_shown (up : s.domainUp 2 = true) (hi : i.val < 18) :
    pllLossOfLock i s = (s.setFld Reg.clkLocked i i 0).clockBad i := by
  unfold pllLossOfLock
  rw [if_neg (by simp [up, hi])]

theorem pllLossOfLock_hidden (hi : 18 ≤ i.val) : pllLossOfLock i s = s.clockBad i := by
  unfold pllLossOfLock
  rw [if_pos (by simp [hi])]

/-- What the commands show before a clock is judged leaves the rest of the module as it was. -/
structure SameClocks (s a : State) : Prop where
  rst : a.rst = s.rst
  dom : a.reg Reg.rstDom = s.reg Reg.rstDom
  lanes : a.lanes = s.lanes
  mem : a.mem = s.mem

theorem rstDom_ne_clk : Reg.rstDom ≠ Reg.clkLocked ∧ Reg.rstDom ≠ Reg.clkGood ∧ Reg.rstDom ≠ Reg.clkFail := by decide

theorem counted_dom : (s.counted i c).reg Reg.rstDom = s.reg Reg.rstDom :=
  State.reg_setReg_ne (by show 0x0104C ≠ i.val * 0x100000 + 0x02050; omega)

/-- A count outside the limits and the loss of lock are the same to the clock (R34). -/
theorem bad_clock (up : s.domainUp 2 = true) {P : State → Prop} (h : ∀ a, SameClocks s a → P (a.clockBad i)) :
    ((c.toNat < bits (s.reg (Reg.bank i Reg.clkLim)) 15 0 ∨ bits (s.reg (Reg.bank i Reg.clkLim)) 31 16 < c.toNat) →
      i.val < 18 → Does (.clockMonitorWindowEnd i c) s P) ∧ Does (.pllLossOfLock i) s P := by
  obtain ⟨locked, -, -⟩ := rstDom_ne_clk
  refine ⟨fun out hi => ⟨_, rfl, ?_⟩, _, rfl, ?_⟩
  · rw [clockMonitorWindowEnd_counted up hi, if_neg (by unfold State.InLimits; omega)]
    exact h _ ⟨rfl, counted_dom, rfl, rfl⟩
  · by_cases hi : i.val < 18
    · rw [pllLossOfLock_shown up hi]
      exact h _ ⟨rfl, State.reg_setFld_ne locked, rfl, rfl⟩
    · rw [pllLossOfLock_hidden (Nat.le_of_not_lt hi)]
      exact h _ ⟨rfl, rfl, rfl, rfl⟩

/-! ### A clock stops being good -/

/-- The clock is no longer good, and a monitored one shows it (R34, R36). -/
def State.clockGone (s : State) (i : Nat) : State :=
  if !s.domainUp 2 || decide (18 ≤ i) then s.clockOff i
  else (((s.clockOff i).setFld Reg.clkGood i i 0).setFld Reg.clkFail i i 1).raise pCLK i

theorem clockBad_good {j : Nat} (good : s.clockGood j = true) :
    s.clockBad j = ((s.clockGone j).clockLost j).recoveredLost j := by
  unfold State.clockBad State.clockGone
  dsimp only
  rw [good]
  rfl

theorem clockBad_bad {j : Nat} (up : s.domainUp 2 = true) (hj : j < 18) (bad : s.clockGood j = false) :
    s.clockBad j = (s.clockOff j).setFld Reg.clkGood j j 0 := by
  have up' : (s.clockOff j).domainUp 2 = true := up
  unfold State.clockBad
  dsimp only
  rw [bad, up']
  simp [hj]

theorem clockGone_cases {Q : State → Prop} (j : Nat) (off : Q (s.clockOff j))
    (shown : Q ((((s.clockOff j).setFld Reg.clkGood j j 0).setFld Reg.clkFail j j 1).raise pCLK j)) :
    Q (s.clockGone j) := by
  unfold State.clockGone
  split
  · exact off
  · exact shown

theorem clockGone_rst (j : Nat) : (s.clockGone j).rst = (s.clockOff j).rst :=
  clockGone_cases (Q := fun t => t.rst = (s.clockOff j).rst) j rfl (State.raise_rst ..)

theorem clockGone_lanes (j : Nat) : (s.clockGone j).lanes = s.lanes :=
  clockGone_cases (Q := fun t => t.lanes = s.lanes) j rfl (State.raise_lanes ..)

theorem clockGone_mem (j : Nat) : (s.clockGone j).mem = s.mem :=
  clockGone_cases (Q := fun t => t.mem = s.mem) j rfl (State.raise_mem ..)

theorem clockGone_bad (j : Nat) : (s.clockGone j).clockGood j = false :=
  (clockGood_of_rst (clockGone_rst j) j).trans (clockOff_bad s j)

theorem clockGone_dom (j : Nat) : (s.clockGone j).reg Reg.rstDom = s.reg Reg.rstDom := by
  obtain ⟨-, good, fail⟩ := rstDom_ne_clk
  exact clockGone_cases (Q := fun t => t.reg Reg.rstDom = s.reg Reg.rstDom) j rfl
    ((State.reg_raise_ne (by decide)).trans ((State.reg_setFld_ne fail).trans (State.reg_setFld_ne good)))

theorem clockGone_shown (up : s.domainUp 2 = true) (hi : i.val < 18) :
    (s.clockGone i).fld Reg.clkGood i i = 0 ∧ (s.clockGone i).fld Reg.clkFail i i = 1 := by
  have eq : s.clockGone i = (((s.clockOff i).setFld Reg.clkGood i i 0).setFld Reg.clkFail i i 1).raise pCLK i :=
    if_neg (by simp [up, hi])
  have one : 2 ^ (i.val + 1 - i.val) = 2 := by rw [Nat.add_sub_cancel_left]; rfl
  constructor
  · rw [eq, fld_raise_ne (by decide), State.fld_setFld_ne (by decide), State.fld_setFld_self le_rfl (by omega),
      Nat.zero_mod]
  · rw [eq, fld_raise_ne (by decide), State.fld_setFld_self le_rfl (by omega), one]

/-! ### What follows for its domain -/

theorem recoveredLost_gating {j d : Nat} (gates : clockDomain j = some d) : s.recoveredLost j = s := by
  have other : ¬ j = 5 ∧ ¬ (10 ≤ j ∧ j ≤ 17) := by
    unfold clockDomain at gates
    constructor <;> rintro h
    · subst h; simp at gates
    · simp [show j ≠ 0 by omega, show j ≠ 1 by omega, show j ≠ 2 by omega, show j ≠ 3 by omega, show j ≠ 4 by omega,
        show ¬ j ≤ 9 by omega, show j ≠ 18 by omega, show j ≠ 19 by omega] at gates
  rw [State.recoveredLost, if_neg other.1, if_neg other.2]

/-- An essential domain's clock is the clock-failure source (R401). -/
theorem clockLost_essential {j d : Nat} (gates : clockDomain j = some d) (up : s.domainUp d = true)
    (ess : d = 1 ∨ d = 2 ∨ d = 3 ∨ d = 8) : s.clockLost j = s.assertSource 8 1 false := by
  unfold State.clockLost
  rw [gates]
  rcases ess with rfl | rfl | rfl | rfl <;> simp [up]

/-! ### A lane group or the field block without its clock -/

theorem foldl_forall {α : Type} {P : α → State → Prop} {f : State → α → State} (own : ∀ u x, P x (f u x))
    (others : ∀ u x y, P y u → P y (f u x)) : ∀ (l : List α) (t : State) (y : α), y ∈ l ∨ P y t → P y (l.foldl f t)
  | [], _, _, h => h.resolve_left List.not_mem_nil
  | x :: l, t, y, h => by
    refine foldl_forall own others l (f t x) y ?_
    rcases h with h | h
    · rcases List.mem_cons.mp h with rfl | h
      · exact .inr (own ..)
      · exact .inl h
    · exact .inr (others _ _ _ h)

/-- What an update of each lane establishes for its own lane and keeps for the others holds of all. -/
theorem over16_forall {P : Fin 16 → State → Prop} {f : State → Fin 16 → State} (own : ∀ u n, P n (f u n))
    (others : ∀ u n m, P m u → P m (f u n)) (n : Fin 16) : P n (over16 f s) :=
  foldl_forall own others _ _ n (.inl (List.mem_finRange n))

/-- Lane `n` has lost its clock. -/
def State.failLane (s : State) (n : Fin 16) : State :=
  let s := s.setLane n .borneOff
  let s := if s.lanes[n].actAt s.opNs = .none then s else s.haltWork n
  s.modLane n (fun l => { Lane.reset with state := .borneOff, ply := l.ply, history := l.history })

theorem failLane_state (n : Fin 16) : (s.failLane n).lanes[n].state = .borneOff := by
  unfold State.failLane
  rw [modLane_lanes_self]

theorem Quiet.failLane {w : Fin 16 → Prop} {n : Fin 16} (h : Quiet w s t) (hn : w n) : Quiet w s (t.failLane n) := by
  unfold State.failLane
  extract_lets t₁ t₂
  have h₁ : Quiet w s t₁ := h.setLane hn _
  have h₂ : Quiet w s t₂ := ite h₁ (h₁.haltWork hn)
  exact h₂.modLaneOf hn _

theorem failLanes_eq (d : Nat) : s.failLanes d = over16 (fun s n => if 4 + n.val / 4 = d then s.failLane n else s) s := rfl

theorem Quiet.failLanes (d : Nat) : Quiet (fun n => 4 + n.val / 4 = d) s (s.failLanes d) := by
  rw [failLanes_eq]
  refine (Quiet.refl _ s).over16 fun n u hu => ?_
  split
  · next hn => exact hu.failLane hn
  · exact hu

theorem failLanes_state {d : Nat} {n : Fin 16} (hn : 4 + n.val / 4 = d) : (s.failLanes d).lanes[n].state = .borneOff := by
  rw [failLanes_eq]
  refine over16_forall (P := fun n u => 4 + n.val / 4 = d → u.lanes[n].state = .borneOff) (fun u n hn => ?_)
    (fun u n m held hm => ?_) n hn
  · rw [if_pos hn, failLane_state]
  · split
    · by_cases e : m = n
      · rw [e, failLane_state]
      · have keeps := Quiet.failLane (w := (· = n)) (.refl _ u) rfl
        rw [keeps.state m e]
        exact held hm
    · exact held hm

/-- A domain that has failed is not released (R398). -/
theorem markFailed_failed {d : Nat} (hd : d < 10) : (s.markFailed d).domainFailed d = true := by
  have irq : Reg.rstDom ≠ Reg.pgIrq pRST := by decide
  show bit (((s.setFld Reg.rstDom (16 + d) (16 + d) 1).raise pRST 0).reg Reg.rstDom) (16 + d) = true
  rw [State.reg_raise_ne irq, State.setFld, State.reg_setReg_self, bit_withBits (by omega)]
  rfl

theorem not_domainUp_of_failed {d : Nat} (h : s.domainFailed d = true) : s.domainUp d = false := by
  unfold State.domainFailed at h
  rw [State.domainUp, h, Bool.not_true, Bool.and_false]

/-- A lane group without its clock (R400, R401). -/
theorem clockLost_lanes {j d : Nat} (gates : clockDomain j = some d) (up : s.domainUp d = true) (hd : 4 ≤ d ∧ d ≤ 7) :
    (s.clockLost j).rst = s.rst ∧ (s.clockLost j).domainFailed d = true
      ∧ ∀ n : Fin 16, 4 + n.val / 4 = d → (s.clockLost j).lanes[n].state = .borneOff := by
  have eq : s.clockLost j = ((((s.failLanes d).setFld Reg.rstDom d d 0).resetRegs
      (fun p => (pageClass p).isSome && pageDomain p == d)).markFailed d) := by
    unfold State.clockLost
    rw [gates]
    obtain ⟨h4, h7⟩ := hd
    interval_cases d <;> simp [up]
  refine ⟨?_, ?_, fun n hn => ?_⟩
  · exact (congrArg State.rst eq).trans ((State.raise_rst ..).trans (Quiet.failLanes d).rst)
  · rw [eq]
    exact markFailed_failed (by omega)
  · rw [eq, ← failLanes_state hn]
    exact congrArg (fun v : Vector Lane 16 => v[n].state) (State.raise_lanes ..)

/-- The field block without its clock (R401). -/
theorem clockLost_field {j : Nat} (gates : clockDomain j = some 9) (up : s.domainUp 9 = true) :
    (s.clockLost j).rst = s.rst ∧ (s.clockLost j).domainFailed 9 = true := by
  have eq : s.clockLost j = ((s.resetDomain 9).markFailed 9).loopSet := by
    unfold State.clockLost
    rw [gates]
    simp [up]
  have loop : Quiet noLane ((s.resetDomain 9).markFailed 9) (s.clockLost j) := eq ▸ (Quiet.refl noLane _).loopSet
  have reset : (s.resetDomain 9).rst = s.rst := by
    rw [resetDomain_field, Quiet.resetFld.rst, fldCleared_rst, State.setFld_rst]
  refine ⟨?_, ?_⟩
  · exact loop.rst.trans ((State.raise_rst ..).trans reset)
  · rw [State.domainFailed, loop.reg Reg.rstDom (by decide)]
    exact markFailed_failed (by decide)

/-! ### A port or the Dunly link without its clock -/

theorem foldl_keeps {α β : Type} (g : State → β) {f : State → α → State} (h : ∀ u x, g (f u x) = g u) :
    ∀ (l : List α) (t : State), g (l.foldl f t) = g t
  | [], _ => rfl
  | x :: l, t => (foldl_keeps g h l (f t x)).trans (h t x)

theorem sdShow_lanes : s.sdShow.lanes = s.lanes ∧ s.sdShow.mem = s.mem := by
  unfold State.sdShow
  split
  · exact ⟨rfl, rfl⟩
  · constructor
    · rw [foldl_keeps State.lanes fun u x => by simp [State.recIrq]]
    · rw [foldl_keeps State.mem fun u x => by simp [State.recIrq]]

theorem sdCause_lanes (n : Nat) : (s.sdCause n).lanes = s.lanes ∧ (s.sdCause n).mem = s.mem := by
  unfold State.sdCause
  split
  · exact ⟨rfl, rfl⟩
  · obtain ⟨lanes, mem⟩ := sdShow_lanes (s := { s with sdPend := s.sdPend ++ [(n, false)] })
    exact ⟨lanes, mem⟩

theorem bearPort_lanes (c p : Nat) : (s.bearPort c p).lanes = s.lanes ∧ (s.bearPort c p).mem = s.mem := by
  unfold State.bearPort
  split
  · exact ⟨rfl, rfl⟩
  · extract_lets i t₁ t₂
    have h : t₂.lanes = s.lanes ∧ t₂.mem = s.mem := by
      simp [t₂, t₁, State.recErr, State.cutPort]
    split
    · exact ⟨(sdCause_lanes 2).1.trans h.1, (sdCause_lanes 2).2.trans h.2⟩
    · exact h

theorem portLost_lanes (c p : Nat) : (s.portLost c p).lanes = s.lanes ∧ (s.portLost c p).mem = s.mem := by
  unfold State.portLost
  split
  · exact ⟨rfl, rfl⟩
  · split
    · exact ⟨rfl, rfl⟩
    · split
      · extract_lets t₁ t₂ t₃
        have h : t₃.lanes = s.lanes ∧ t₃.mem = s.mem := by
          simp [t₃, t₂, t₁, State.cutPort]
        split
        · exact ⟨(bearPort_lanes c p).1.trans h.1, (bearPort_lanes c p).2.trans h.2⟩
        · exact h
      · exact ⟨rfl, rfl⟩

section
variable {p q k : Nat}

theorem clockKey_port (hq : q < 2) (hp : p < 4) : ClockKey (portKey q p) = true := by
  unfold portKey
  interval_cases q <;> interval_cases p <;> decide

theorem bearPort_quiet (sound : s.portBorne q p = false) :
    Quiet noLane (s.setFld (portKey q p) 1 0 3) (s.bearPort q p) := by
  have cut : Quiet noLane (s.setFld (portKey q p) 1 0 3) ((s.cutPort (4 * q + p)).setFld (portKey q p) 1 0 3) :=
    (Quiet.refl ..).like (by rfl)
  unfold State.bearPort
  rw [sound, if_neg Bool.false_ne_true]
  extract_lets i t₁ t₂
  have h₁ : Quiet noLane (s.setFld (portKey q p) 1 0 3) t₁ := cut.raise ..
  have h₂ : Quiet noLane (s.setFld (portKey q p) 1 0 3) t₂ := (h₁.logErr ..).recErr ..
  exact Quiet.ite (h₂.sdCause 2) h₂

/-- A port that was up is down and in training again, and counted (R324). -/
def State.portCounted (s : State) (q p : Nat) : State :=
  let s := (((s.cutPort (4 * q + p)).setFld (portKey q p) 1 0 0).incSat (portKey q p) 31 16).raise (pMB q) 0
  s.modNet fun n => { n with portHist := n.portHist ++ [(4 * q + p, s.opTime.toNat)] }

theorem portCounted_quiet :
    Quiet noLane ((s.setFld (portKey q p) 1 0 0).incSat (portKey q p) 31 16) (s.portCounted q p) := by
  have cut : Quiet noLane ((s.setFld (portKey q p) 1 0 0).incSat (portKey q p) 31 16)
      (((s.cutPort (4 * q + p)).setFld (portKey q p) 1 0 0).incSat (portKey q p) 31 16) :=
    (Quiet.refl ..).like (by rfl)
  unfold State.portCounted
  exact (cut.raise (pMB q) 0).modNet _

theorem portLost_cases (up : s.domainUp 3 = true) (P : State → Prop)
    (training : s.fld (portKey q p) 1 0 = 1 → P (s.setFld (portKey q p) 1 0 0))
    (lost : P (s.portCounted q p)) (borne : P ((s.portCounted q p).bearPort q p))
    (down : s.fld (portKey q p) 1 0 ≠ 2 → P s) : P (s.portLost q p) := by
  unfold State.portLost
  rw [up, Bool.not_true, if_neg Bool.false_ne_true]
  split
  · next h => exact training h
  · split
    · extract_lets t₁ t₂ t₃
      rw [show t₃ = s.portCounted q p from rfl]
      split
      · exact borne
      · exact lost
    · next h => exact down h

variable (hq : q < 2) (hp : p < 4)
include hq hp

theorem portCounted_fld : (s.portCounted q p).fld (portKey q p) 1 0 = 0 := by
  rw [fld_eq_of_reg (portCounted_quiet.reg _ (clockKey_port hq hp)), State.incSat,
    State.fld_setFld_disjoint (by decide) (by decide), State.fld_setFld_self]
  rfl

theorem portCounted_sound : (s.portCounted q p).portBorne q p = false := by
  have zero : (s.portCounted q p).fld (Reg.mbPort0 q + 4 * p) 1 0 = 0 := portCounted_fld hq hp
  rw [State.portBorne, zero]
  rfl

/-- The port is not up (R324, R325). -/
theorem portLost_fld (up : s.domainUp 3 = true) : (s.portLost q p).fld (portKey q p) 1 0 ≠ 2 := by
  refine portLost_cases up (fun t => t.fld (portKey q p) 1 0 ≠ 2) (fun _ => ?_) ?_ ?_ id
  · rw [State.fld_setFld_self]
    decide
  · rw [portCounted_fld hq hp]
    decide
  · rw [fld_eq_of_reg ((bearPort_quiet (portCounted_sound hq hp)).reg _ (clockKey_port hq hp)), State.fld_setFld_self]
    decide

/-- The rest of the clocks, the time base and the network does not see it. -/
theorem portLost_keeps (hk : ClockKey k = true) (ne : k ≠ portKey q p) :
    (s.portLost q p).rst = s.rst ∧ (s.portLost q p).reg k = s.reg k := by
  have counted : (s.portCounted q p).rst = s.rst ∧ (s.portCounted q p).reg k = s.reg k := by
    refine ⟨portCounted_quiet.rst, ?_⟩
    rw [portCounted_quiet.reg k hk, State.incSat, State.reg_setFld_ne ne, State.reg_setFld_ne ne]
  by_cases up : s.domainUp 3 = true
  · refine portLost_cases up (fun t => t.rst = s.rst ∧ t.reg k = s.reg k)
      (fun _ => ⟨rfl, State.reg_setFld_ne ne⟩) counted ?_
      fun _ => ⟨rfl, rfl⟩
    have borne := bearPort_quiet (portCounted_sound (s := s) hq hp)
    obtain ⟨rst, reg⟩ := counted
    exact ⟨borne.rst.trans rst, (borne.reg k hk).trans ((State.reg_setFld_ne ne).trans reg)⟩
  · rw [State.portLost, if_pos (by simpa using up)]
    exact ⟨rfl, rfl⟩

end

theorem showLock_keeps (lanes : BitVec 4) : (s.showLock lanes).rst = s.rst
    ∧ ∀ k ≠ Reg.dxlState, (s.showLock lanes).reg k = s.reg k := by
  unfold State.showLock
  dsimp only
  split
  · exact ⟨rfl, fun k ne => State.reg_setFld_ne ne⟩
  · exact ⟨rfl, fun k ne => State.reg_setFld_ne ne⟩

/-- What follows the fall of LINK_UP (R336). -/
theorem dropLink_quiet (lanes : BitVec 4) (health : Bool) (up : s.linkUp = true) :
    Quiet noLane ((s.showLock lanes).setFld Reg.dxlState 0 0 0) (s.dropLink lanes health) := by
  unfold State.dropLink
  rw [up, Bool.not_true, if_neg Bool.false_ne_true]
  exact (((((((Quiet.refl noLane _).incSat (by decide)).logErr ..).recErr ..).raise ..).setFld 0
    (by decide)).modPair _).linkLost

/-- The Dunly link is down (R336). -/
theorem dropLink_down (lanes : BitVec 4) (health : Bool) : (s.dropLink lanes health).linkUp = false := by
  cases up : s.linkUp
  · rw [State.dropLink, up]
    exact up
  · rw [State.linkUp, (dropLink_quiet lanes health up).reg _ (by decide), State.setFld, State.reg_setReg_self,
      bit_withBits (by decide)]
    rfl

theorem dropLink_keeps (lanes : BitVec 4) (health : Bool) {k : Nat} (hk : ClockKey k = true) (ne : k ≠ Reg.dxlState) :
    (s.dropLink lanes health).rst = s.rst ∧ (s.dropLink lanes health).reg k = s.reg k := by
  cases up : s.linkUp
  · rw [State.dropLink, up]
    exact ⟨rfl, rfl⟩
  · have quiet := dropLink_quiet lanes health up
    obtain ⟨rst, reg⟩ := showLock_keeps (s := s) lanes
    exact ⟨quiet.rst.trans rst, (quiet.reg k hk).trans ((State.reg_setFld_ne ne).trans (reg k ne))⟩

/-! ### The crystal, a wedged block, the die -/

theorem setXtal_released (up : s.domainUp 2 = true) (b : Bool) : (s.setXtal b).rst.xtal = b
    ∧ bit ((s.setXtal b).reg Reg.clkAclkTrim) 16 = b
    ∧ bits ((s.setXtal b).reg Reg.clkAclkTrim) 15 0 = bits (s.reg Reg.clkAclkTrim) 15 0 := by
  have eq : s.setXtal b = { s with rst := { s.rst with xtal := b } }.setFld Reg.clkAclkTrim 16 16 (b2n b) := if_pos up
  rw [eq, State.setFld, State.reg_setReg_self, bit_withBits (by decide), bits_withBits_disjoint (by decide) (by decide)]
  exact ⟨rfl, by cases b <;> rfl, rfl⟩

theorem setXtal_events (b : Bool) : (s.setXtal b).events = s.events := by unfold State.setXtal; dsimp only; split <;> rfl

theorem xtalStop_running (runs : s.rst.xtal = true) : xtalStop s
    = (s.setXtal false).recIrq pCLK 0 .normal (wordBytes ((s.setXtal false).reg Reg.clkAclkTrim)) := by
  rw [xtalStop, runs]
  rfl

theorem mem_sins (p : Nat) : ∀ l : List Nat, p ∈ sins l p
  | [] => List.mem_singleton.mpr rfl
  | a :: r => by
    unfold sins
    split
    · exact List.mem_cons_self
    · split
      · next e => exact e ▸ List.mem_cons_self
      · exact List.mem_cons_of_mem _ (mem_sins p r)

theorem reportWedge_shown {p : Nat} (hp : p < 256) : (s.reportWedge p).wedged.contains p = true
    ∧ (s.reportWedge p).fld Reg.hltWedge 7 0 = p
    ∧ (s.reportWedge p).fld Reg.hltWedge 31 16 = min 0xFFFF (s.fld Reg.hltWedge 31 16 + 1) := by
  have key : Reg.hltWedge ≠ Reg.pgErr pHLT ∧ Reg.hltWedge ≠ Reg.pgErrInfo pHLT ∧ Reg.hltWedge ≠ Reg.pgIrq pHLT := by decide
  obtain ⟨err, info, irq⟩ := key
  have reg : (s.reportWedge p).reg Reg.hltWedge
      = ((s.setFld Reg.hltWedge 7 0 p).incSat Reg.hltWedge 31 16).reg Reg.hltWedge :=
    (State.reg_logErr_ne err info).trans (State.reg_raise_ne irq)
  refine ⟨?_, ?_, ?_⟩
  · unfold State.reportWedge
    simp only [State.recErr, State.event_wedged, State.logErr_wedged, State.raise_wedged]
    exact List.contains_iff_mem.mpr (mem_sins ..)
  · rw [fld_eq_of_reg reg, State.incSat, State.fld_setFld_disjoint (by decide) (by decide), State.fld_setFld_self]
    exact Nat.mod_eq_of_lt hp
  · rw [fld_eq_of_reg reg, fld_incSat_self (by decide) (by decide), State.fld_setFld_disjoint (by decide) (by decide)]
    rfl

theorem stickLane_reg (p k : Nat) : (s.stickLane p).reg k = s.reg k := by unfold State.stickLane; split <;> rfl

theorem stewardOnWedge_wedged (p : Nat) : (s.stewardOnWedge p).wedged = s.wedged := by
  unfold State.stewardOnWedge; split <;> rfl

theorem stewardOnWedge_reg (p k : Nat) : (s.stewardOnWedge p).reg k = s.reg k := by
  unfold State.stewardOnWedge; split <;> rfl

theorem blockWedged_reported {p : BitVec 8} {w : Nat} (up : s.domainUp 2 = true) (late : s.wedgeAt p.toNat = some w)
    (fresh : s.wedged.contains p.toNat = false) :
    blockWedged p s = (((s.waitOp w).stickLane p.toNat).reportWedge p.toNat).stewardOnWedge p.toNat := by
  unfold blockWedged
  dsimp only
  rw [late, up, fresh]
  rfl

theorem blockWedged_fine {p : BitVec 8} (fine : s.wedgeAt p.toNat = none) : blockWedged p s = s := by
  unfold blockWedged
  dsimp only
  rw [fine]

theorem blockWedged_known {p : BitVec 8} (known : s.wedged.contains p.toNat = true) : blockWedged p s = s := by
  unfold blockWedged
  dsimp only
  split
  · rfl
  · rw [known, Bool.or_true, if_pos rfl]

/-- The measured temperature is kept; one that reaches the limit from below makes one record (R388). -/
theorem tempWarn_shown (up : s.domainUp 2 = true) (v : BitVec 16) : (tempWarn v s).fld Reg.hltEnv 15 0 = v.toNat
    ∧ (tempWarn v s).fld Reg.hltEnv 31 16 = s.fld Reg.hltEnv 31 16
    ∧ (tempWarn v s).events.length = s.events.length + b2n (decide ((10 * s.fld Reg.hltCtrl 15 8 : Int) ≤ v.toInt
      ∧ (BitVec.ofNat 16 (s.fld Reg.hltEnv 15 0)).toInt < 10 * s.fld Reg.hltCtrl 15 8)) := by
  let u := s.setFld Reg.hltEnv 15 0 v.toNat
  let warns : Prop := (10 * s.fld Reg.hltCtrl 15 8 : Int) ≤ v.toInt
    ∧ (BitVec.ofNat 16 (s.fld Reg.hltEnv 15 0)).toInt < 10 * s.fld Reg.hltCtrl 15 8
  have eq : tempWarn v s = if warns then (u.raise pHLT 4).recIrq pHLT 4 .normal (toLe 4 v.toNat) else u := by
    unfold tempWarn
    rw [up, Bool.not_true, if_neg Bool.false_ne_true]
  have reg : (tempWarn v s).reg Reg.hltEnv = u.reg Reg.hltEnv := by
    rw [eq]
    split
    · exact State.reg_raise_ne (by decide)
    · rfl
  refine ⟨?_, ?_, ?_⟩
  · rw [fld_eq_of_reg reg, State.fld_setFld_self]
    exact Nat.mod_eq_of_lt v.isLt
  · rw [fld_eq_of_reg reg, State.fld_setFld_disjoint (by decide) (by decide)]
  · rw [eq]
    split
    · next h =>
      rw [decide_eq_true h, State.recIrq, State.event_events, List.length_append, State.raise_events]
      rfl
    · next h => rw [decide_eq_false h]; rfl

/-! ### The statement -/

/-- A clock that NET, SEQ, MEM or HOST runs on (R401). -/
theorem bad_essential {d : Nat} (good : s.clockGood i = true) (gates : clockDomain i = some d) (up : s.domainUp d = true)
    (ess : d = 1 ∨ d = 2 ∨ d = 3 ∨ d = 8) : Asserted 8 1 (s.clockGone i) (s.clockBad i) := by
  have up' := (domainUp_of_reg (clockGone_dom (s := s) i) d).trans up
  rw [clockBad_good good, recoveredLost_gating gates, clockLost_essential gates up' ess]
  exact assertSource_asserted 1 false (by decide)

theorem SameClocks.up (h : SameClocks s a) (d : Nat) : a.domainUp d = s.domainUp d := domainUp_of_reg h.dom d

theorem SameClocks.good (h : SameClocks s a) (j : Nat) : a.clockGood j = s.clockGood j := clockGood_of_rst h.rst j

theorem fld_bit_self {k j v : Nat} (hj : j < 32) (hv : v < 2) : (s.setFld k j j v).fld k j j = v := by
  have one : 2 ^ (j + 1 - j) = 2 := by rw [Nat.add_sub_cancel_left]; rfl
  rw [State.fld_setFld_self le_rfl hj, one, Nat.mod_eq_of_lt hv]

/-- A count within the limits (R34). -/
theorem clockOn_shown (up : s.domainUp 2 = true) (hi : i.val < 18) :
    (s.clockOn i).fld Reg.clkGood i i = 1 ∧ (s.clockOn i).fld Reg.clkLocked i i = 1 ∧ (s.clockOn i).clockGood i = true
      ∧ (s.clockOn i).lanes = s.lanes ∧ ∀ k, k ≠ Reg.clkGood → k ≠ Reg.clkLocked → (s.clockOn i).reg k = s.reg k := by
  rw [clockOn_monitored up hi]
  refine ⟨fld_bit_self (by omega) (by decide), ?_, clockKept_good i, clockKept_lanes i, fun k good locked => ?_⟩
  · rw [State.fld_setFld_ne (by decide), fld_bit_self (by omega) (by decide)]
  · rw [State.reg_setFld_ne good, State.reg_setFld_ne locked, clockKept_reg]

theorem clkCount_ne (j : Nat) : Reg.bank j Reg.clkCount ≠ Reg.clkGood ∧ Reg.bank j Reg.clkCount ≠ Reg.clkLocked := by
  constructor
  · show j * 0x100000 + 0x02050 ≠ 0x02040; omega
  · show j * 0x100000 + 0x02050 ≠ 0x02044; omega

/-- A clock that gates no domain leaves the reset controller alone (R36). -/
theorem clockBad_recovered {j : Nat} (good : s.clockGood j = true) (free : clockDomain j = none) :
    s.clockBad j = (s.clockGone j).recoveredLost j := by
  rw [clockBad_good good, State.clockLost, free]

/-- The NCLK of a port (R36). -/
theorem clockBad_port (up : s.domainUp 2 = true) (good : s.clockGood i = true) (hi : 10 ≤ i.val ∧ i.val < 18) :
    (s.clockBad i).clockGood i = false ∧ (s.clockBad i).fld Reg.clkGood i i = 0 ∧ (s.clockBad i).fld Reg.clkFail i i = 1
      ∧ (s.domainUp 3 = true → (s.clockBad i).fld (portKey ((i.val - 10) / 4) ((i.val - 10) % 4)) 1 0 ≠ 2)
      ∧ (s.clockBad i).lanes = s.lanes ∧ (s.clockBad i).mem = s.mem := by
  obtain ⟨low, high⟩ := hi
  have free : clockDomain i = none := by
    unfold clockDomain
    simp [show i.val ≠ 0 by omega, show i.val ≠ 1 by omega, show i.val ≠ 2 by omega, show i.val ≠ 3 by omega,
      show i.val ≠ 4 by omega, show ¬ i.val ≤ 9 by omega, show i.val ≠ 18 by omega, show i.val ≠ 19 by omega]
  have eq : s.clockBad i = (s.clockGone i).portLost ((i.val - 10) / 4) ((i.val - 10) % 4) := by
    rw [clockBad_recovered good free, State.recoveredLost, if_neg (by omega), if_pos (by omega)]
  have hq : (i.val - 10) / 4 < 2 := by omega
  have hp : (i.val - 10) % 4 < 4 := by omega
  generalize (i.val - 10) / 4 = q at eq hq ⊢
  generalize (i.val - 10) % 4 = p at eq hp ⊢
  have keeps (k : Nat) (hk : k < 0x60000) (key : ClockKey k = true) :=
    portLost_keeps (s := s.clockGone i) hq hp key (by unfold portKey; show k ≠ (0x60 + q) * 0x1000 + 0x040 + 4 * p; omega)
  obtain ⟨rst, goods⟩ := keeps Reg.clkGood (by decide) (by decide)
  obtain ⟨-, fails⟩ := keeps Reg.clkFail (by decide) (by decide)
  obtain ⟨shown, fail⟩ := clockGone_shown up high
  obtain ⟨lanes, mem⟩ := portLost_lanes (s := s.clockGone i) q p
  rw [eq]
  refine ⟨?_, ?_, ?_, fun net => portLost_fld hq hp ((domainUp_of_reg (clockGone_dom i) 3).trans net), ?_, ?_⟩
  · rw [clockGood_of_rst rst, clockGone_bad]
  · rw [fld_eq_of_reg goods, shown]
  · rw [fld_eq_of_reg fails, fail]
  · rw [lanes, clockGone_lanes]
  · rw [mem, clockGone_mem]

/-- The recovered clock of the Dunly link (R36). -/
theorem clockBad_dunly (up : s.domainUp 2 = true) (good : s.clockGood i = true) (hi : i.val = 5) :
    (s.clockBad i).clockGood i = false ∧ (s.clockBad i).fld Reg.clkGood 5 5 = 0 ∧ (s.clockBad i).fld Reg.clkFail 5 5 = 1
      ∧ (s.clockBad i).linkUp = false := by
  have eq : s.clockBad i = (s.clockGone i).dropLink 0 false := by
    rw [clockBad_recovered good (by rw [hi]; rfl), State.recoveredLost, if_pos hi]
  have ne : Reg.clkGood ≠ Reg.dxlState ∧ Reg.clkFail ≠ Reg.dxlState := by decide
  obtain ⟨rst, goods⟩ := dropLink_keeps (s := s.clockGone i) 0 false (by decide) ne.1
  obtain ⟨-, fails⟩ := dropLink_keeps (s := s.clockGone i) 0 false (by decide) ne.2
  obtain ⟨shown, fail⟩ := clockGone_shown up (by omega : i.val < 18)
  rw [hi] at shown fail
  rw [eq]
  refine ⟨?_, ?_, ?_, dropLink_down 0 false⟩
  · rw [clockGood_of_rst rst, clockGone_bad]
  · rw [fld_eq_of_reg goods, hi, shown]
  · rw [fld_eq_of_reg fails, hi, fail]

/-- ACLK (R401). -/
theorem clockBad_aclk (good : s.clockGood i = true) (hi : i.val = 0) : Asserted 1 0 (s.clockGone i) (s.clockBad i) := by
  have eq : s.clockBad i = (s.clockGone i).assertSource 1 0 false := by
    rw [clockBad_good good, recoveredLost_gating (d := 0) (by rw [hi]; rfl), hi]
    rfl
  rw [eq]
  exact assertSource_asserted 0 false (by decide)

theorem clockDomain_local {j : Nat} (hj : j = 4 ∨ (6 ≤ j ∧ j ≤ 9)) : clockDomain j ≠ none := by
  rcases hj with rfl | ⟨low, high⟩
  · decide
  · interval_cases j <;> decide

/-- The clock of a lane group or of the field block (R401). -/
theorem clockBad_local (good : s.clockGood i = true) (hi : i.val = 4 ∨ (6 ≤ i.val ∧ i.val ≤ 9)) {d : Nat}
    (gates : clockDomain i = some d) (up : s.domainUp d = true) : (s.clockBad i).clockGood i = false
      ∧ (s.clockBad i).domainFailed d = true
      ∧ ∀ n : Fin 16, 4 + n.val / 4 = d → (s.clockBad i).lanes[n].state = .borneOff := by
  have up' := (domainUp_of_reg (clockGone_dom (s := s) i) d).trans up
  have eq : s.clockBad i = (s.clockGone i).clockLost i := by rw [clockBad_good good, recoveredLost_gating gates]
  rw [eq]
  rcases hi with field | lanes
  · obtain rfl : 9 = d := by simpa [clockDomain, field] using gates
    obtain ⟨rst, failed⟩ := clockLost_field gates up'
    exact ⟨(clockGood_of_rst rst i).trans (clockGone_bad i), failed, fun n hn => absurd n.isLt (by omega)⟩
  · have group : 4 + (i.val - 6) = d := by
      simpa [clockDomain, lanes, show i.val ≠ 0 by omega, show i.val ≠ 1 by omega, show i.val ≠ 2 by omega,
        show i.val ≠ 3 by omega, show i.val ≠ 4 by omega] using gates
    obtain ⟨rst, failed, borne⟩ := clockLost_lanes gates up' (by omega)
    exact ⟨(clockGood_of_rst rst i).trans (clockGone_bad i), failed, borne⟩

/-- Settles O20. -/
theorem clocksAndBlockHealth : Obligations.ClocksAndBlockHealth := by
  unfold Obligations.ClocksAndBlockHealth
  refine ⟨?_, ?_, ?_, ?_, ?_, ?_, ?_, ?_, ?_, ?_, ?_, ?_, ?_, ?_, ?_, ?_, ?_⟩
  · intro i c s up hi low high
    obtain ⟨good, locked, clock, lanes, reg⟩ := clockOn_shown (s := s.counted i c)
      ((domainUp_of_reg counted_dom 2).trans up) hi
    obtain ⟨ne, ne'⟩ := clkCount_ne i
    refine ⟨_, congrArg Host.Outcome.next ((clockMonitorWindowEnd_counted up hi).trans (if_pos ⟨low, high⟩)), good, locked,
      clock, ?_, lanes⟩
    rw [reg _ ne ne', State.reg_setReg_self]
  · intro i c s hi
    have eq : clockMonitorWindowEnd i c s = s.clockKept i := (if_pos hi).trans (clockOn_unmonitored hi)
    exact ⟨_, congrArg Host.Outcome.next eq, clockKept_good i, clockKept_regs i⟩
  · intro i c s up hi out bad
    obtain ⟨ne, -⟩ := clkCount_ne i
    have eq : clockMonitorWindowEnd i c s = ((s.counted i c).clockOff i).setFld Reg.clkGood i i 0 := by
      rw [clockMonitorWindowEnd_counted up hi, if_neg (by unfold State.InLimits; omega),
        clockBad_bad (j := i) ((domainUp_of_reg counted_dom 2).trans up) hi bad]
    refine ⟨_, congrArg Host.Outcome.next eq, fld_bit_self (by omega) (by decide), clockOff_bad (s.counted i c) i, ?_, rfl⟩
    rw [State.reg_setFld_ne ne]
    exact State.reg_setReg_self
  · intro i s up hi bad
    have eq : pllLossOfLock i s = ((s.setFld Reg.clkLocked i i 0).clockOff i).setFld Reg.clkGood i i 0 := by
      rw [pllLossOfLock_shown up hi,
        clockBad_bad (j := i) ((domainUp_of_reg (State.reg_setFld_ne rstDom_ne_clk.1) 2).trans up)
        hi bad]
    refine ⟨_, congrArg Host.Outcome.next eq, fld_bit_self (by omega) (by decide), ?_, rfl⟩
    rw [State.fld_setFld_ne (by decide)]
    exact fld_bit_self (by omega) (by decide)
  · intro i c s up good hi
    refine bad_clock up fun a same => ?_
    have port := clockBad_port ((same.up 2).trans up) ((same.good i).trans good) hi
    rwa [same.up, same.lanes, same.mem] at port
  · intro i c s up good hi
    exact bad_clock up fun a same => clockBad_dunly ((same.up 2).trans up) ((same.good i).trans good) hi
  · intro i c s up good ess held
    refine bad_clock up fun a same => ?_
    cases gates : clockDomain i with
    | none => rw [gates] at ess; exact Bool.noConfusion ess
    | some d =>
      rw [gates] at ess held
      have asserted := bad_essential ((same.good i).trans good) gates ((same.up d).trans held)
        (by simpa [or_assoc] using ess)
      exact ⟨asserted.good i (clockGone_bad i), asserted.running, asserted.source, asserted.reach⟩
  · intro i c s up good hi
    refine bad_clock up fun a same => ?_
    have asserted := clockBad_aclk ((same.good i).trans good) hi
    exact ⟨asserted.good i (clockGone_bad i), asserted.running, asserted.source, Nat.le_zero.mp asserted.reach⟩
  · intro i c s up good hi held
    refine bad_clock up fun a same => ?_
    have good' := (same.good i).trans good
    cases gates : clockDomain i with
    | none => exact absurd gates (clockDomain_local hi)
    | some d =>
      rw [gates] at held
      obtain ⟨bad, failed, borne⟩ := clockBad_local good' hi gates ((same.up d).trans held)
      refine ⟨bad, fun d' e => ?_⟩
      obtain rfl := Option.some.inj e
      exact ⟨not_domainUp_of_failed failed, failed, borne⟩
  · intro i s up hi
    exact congrArg Host.Outcome.next (pllLossOfLock_shown up hi)
  · intro s up runs
    obtain ⟨xtal, shown, trim⟩ := setXtal_released up false
    refine ⟨_, congrArg Host.Outcome.next (xtalStop_running runs), xtal, shown, trim, ?_⟩
    rw [State.recIrq, State.event_events, List.length_append, setXtal_events]
    rfl
  · intro s still
    exact congrArg Host.Outcome.next (show xtalStop s = s by rw [xtalStop, still]; rfl)
  · intro s up
    exact ⟨_, rfl, setXtal_released up true⟩
  · intro p w s up late fresh
    obtain ⟨known, page, count⟩ := reportWedge_shown (s := (s.waitOp w).stickLane p.toNat) p.isLt
    have before : ((s.waitOp w).stickLane p.toNat).fld Reg.hltWedge 31 16 = s.fld Reg.hltWedge 31 16 :=
      fld_eq_of_reg ((stickLane_reg ..).trans (State.waitOp_reg_ne s w (by decide)))
    refine ⟨_, congrArg Host.Outcome.next (blockWedged_reported up late fresh), ?_, ?_, ?_⟩
    · rw [stewardOnWedge_wedged, known]
    · rw [fld_eq_of_reg (stewardOnWedge_reg ..), page]
    · rw [fld_eq_of_reg (stewardOnWedge_reg ..), count, before]
  · intro p s fine
    exact congrArg Host.Outcome.next (blockWedged_fine fine)
  · intro p s known
    exact congrArg Host.Outcome.next (blockWedged_known known)
  · intro v s up
    exact ⟨_, rfl, tempWarn_shown up v⟩

end Sys2Proof.Machine
end

section
/-! PROOFS. A step of global time: what is in flight ends, and the time base stands as the step leaves it (R54, R139). -/

namespace Sys2Proof.Machine
variable {s t u : State} {n : Fin 16}

/-! ### No ply is in flight -/

theorem spoil_lanes (k : Fin 16) (cause lane : Nat) : (s.spoil k cause lane).lanes = s.lanes := by
  unfold State.spoil
  dsimp only
  split
  · rfl
  · split
    · exact State.raise_lanes ..
    · split <;> rfl

/-- A lane that changes its state keeps its ply. -/
theorem setLane_ply_self (st : LaneState) : (s.setLane n st).lanes[n].ply = s.lanes[n].ply := by
  unfold State.setLane
  split
  · rfl
  · extract_lets was t₁ out t₂ m seqr t₃ t₄ t₅ t₆
    have h₁ : t₁.lanes = s.lanes := by
      unfold t₁
      split
      · split
        · exact spoil_lanes ..
        · rfl
      · rfl
    have h₂ : t₂.lanes[n].ply = s.lanes[n].ply := by
      unfold t₂
      rw [modLane_lanes_self]
      exact congrArg (fun v : Vector Lane 16 => v[n].ply) h₁
    have h₅ : t₅.lanes = t₂.lanes := State.raise_lanes ..
    have h : (if st = .borneOff then t₆.raise pCMP 3 else t₅).lanes = t₂.lanes := by
      split
      · exact (State.raise_lanes ..).trans h₅
      · exact h₅
    exact (congrArg (fun v : Vector Lane 16 => v[n].ply) h).trans h₂

theorem settleLane_ply_self : (s.settleLane n).lanes[n].ply = s.lanes[n].ply := by
  unfold State.settleLane
  dsimp only
  split
  · exact setLane_ply_self _
  · rfl

theorem clearPly_ply_self : (s.clearPly n).lanes[n].ply = none := by
  unfold State.clearPly
  rw [settleLane_ply_self, modLane_lanes_self]

theorem abortPly_ply_self : (s.abortPly n).lanes[n].ply = none := by
  unfold State.abortPly
  split
  · assumption
  · rw [modLane_lanes_self]
    exact clearPly_ply_self

/-- Every ply ends (R139). -/
theorem abortAll_ply (n : Fin 16) : s.abortAll.lanes[n].ply = none := by
  refine over16_forall (P := fun n u => u.lanes[n].ply = none) (f := State.abortPly) (fun u n => abortPly_ply_self)
    (fun u n m held => ?_) n
  by_cases e : m = n
  · rw [e]
    exact abortPly_ply_self
  · exact ((Quiet.abortPly (w := (· = n)) (.refl _ u) rfl).ply m e).trans held

/-! ### The time base changes state -/

/-- The time base in a new state (R52, R545). -/
def TimeBase.enters (t : TimeBase) (st : TbState) : TimeBase :=
  { t with
    state := st, inState := 0, good := 0
    noCorr := if st = .unsync then 0 else t.noCorr
    search := if st = .unsync then [] else t.search
    stepPend := if t.state = .unsync then none else t.stepPend }

theorem Quiet.onUnsync {w : Fin 16 → Prop} (h : Quiet w s t) : Quiet w s t.onUnsync := ite h.enterJoining h

/-- What a change to `st` leaves, before the module reacts to the loss of its time base. -/
def State.tbEntered (s : State) (st : TbState) : State :=
  let s := { s with time := s.time.enters st }
  let s := if st = .synced then { s with net := { s.net with ownSeq := [] } } else s
  if st = .unsync then s.incSat Reg.timEvtCnt 15 0 else s

theorem toTb_self {st : TbState} (h : s.time.state = st) : s.toTb st = s := if_pos h

theorem toTb_ne {st : TbState} (h : s.time.state ≠ st) : s.toTb st
    = if st = .unsync then ((s.tbEntered st).raise pTIM 0).onUnsync else (s.tbEntered st).raise pTIM 0 := by
  have time : (let tb := { s.time with state := st, inState := 0, good := 0 }
      let tb := if st = .unsync then { tb with noCorr := 0, search := [] } else tb
      if s.time.state = .unsync then { tb with stepPend := none } else tb) = s.time.enters st := by
    unfold TimeBase.enters
    by_cases h : st = .unsync <;> by_cases h' : s.time.state = .unsync <;> simp [h, h']
  unfold State.toTb
  rw [if_neg h]
  unfold State.tbEntered
  rw [← time]

theorem toTb_quiet {st : TbState} (h : s.time.state ≠ st) : Quiet noLane (s.tbEntered st) (s.toTb st) := by
  rw [toTb_ne h]
  exact Quiet.ite ((Quiet.refl ..).raise ..).onUnsync ((Quiet.refl ..).raise ..)

theorem tbEntered_time (st : TbState) : (s.tbEntered st).time = s.time.enters st := by
  unfold State.tbEntered
  dsimp only
  split <;> split <;> rfl

theorem toTb_time {st : TbState} (h : s.time.state ≠ st) : (s.toTb st).time = s.time.enters st :=
  (toTb_quiet h).time.trans (tbEntered_time st)

end Sys2Proof.Machine
end

section
/-! PROOFS. A step of global time (R53, R54, R545). -/

namespace Sys2Proof.Machine
variable {s t u : State} {n : Fin 16}

/-! ### What a change of state keeps when it is no loss -/

theorem toTb_slots {st : TbState} (h : st = s.time.state ∨ st ≠ .unsync) : (s.toTb st).net.slots = s.net.slots := by
  by_cases e : s.time.state = st
  · rw [toTb_self e]
  · have held : st ≠ .unsync := h.resolve_left fun h => e h.symm
    rw [toTb_ne e, if_neg held, State.raise_net, State.tbEntered]
    dsimp only
    split <;> split <;> rfl

theorem toTb_lanes {st : TbState} (h : st = s.time.state ∨ st ≠ .unsync) : (s.toTb st).lanes = s.lanes := by
  by_cases e : s.time.state = st
  · rw [toTb_self e]
  · have held : st ≠ .unsync := h.resolve_left fun h => e h.symm
    rw [toTb_ne e, if_neg held, State.raise_lanes, State.tbEntered]
    dsimp only
    split <;> split <;> rfl

/-- A change of state moves nothing of global time, of the round and of the hold. -/
theorem toTb_clock (st : TbState) : (s.toTb st).time.gt = s.time.gt ∧ (s.toTb st).time.state = st
    ∧ (s.toTb st).time.epoch = s.time.epoch ∧ (s.toTb st).time.begun = s.time.begun
    ∧ (s.toTb st).time.hold = s.time.hold := by
  by_cases e : s.time.state = st
  · rw [toTb_self e]
    exact ⟨rfl, e, rfl, rfl, rfl⟩
  · rw [toTb_time e]
    exact ⟨rfl, rfl, rfl, rfl, rfl⟩

theorem toTb_stepPend (st : TbState) (h : s.time.stepPend = none) : (s.toTb st).time.stepPend = none := by
  by_cases e : s.time.state = st
  · rw [toTb_self e]
    exact h
  · rw [toTb_time e]
    exact (if_congr Iff.rfl rfl h).trans (ite_self _)

/-! ### The step -/

/-- Global time has stepped to `gt` in epoch `epoch` and state `st`, from a state `s` at the boundary. -/
structure Stepped (s : State) (gt : BitVec 96) (epoch : BitVec 64) (st : TbState) (t : State) : Prop where
  gt : t.time.gt = gt
  state : t.time.state = st
  epoch : t.time.epoch = epoch
  stepPend : t.time.stepPend = none
  begun : t.time.begun = false
  slots : t.net.slots = []
  hold : s.seqr.state = .run → t.time.hold.isSome = true
  ply : ∀ n : Fin 16, t.lanes[n].ply = none

theorem Stepped.of {gt gt' : BitVec 96} {epoch epoch' : BitVec 64} {st st' : TbState} (h : Stepped u gt epoch st t)
    (eGt : gt = gt') (eEpoch : epoch = epoch') (eState : st = st') (eSeqr : u.seqr = s.seqr) :
    Stepped s gt' epoch' st' t := by
  subst eGt eEpoch eState
  exact ⟨h.gt, h.state, h.epoch, h.stepPend, h.begun, h.slots, fun runs => h.hold (eSeqr ▸ runs), h.ply⟩

theorem stepTime_stepped (gt : BitVec 96) (epoch : BitVec 64) (fresh : Bool) {st : TbState}
    (h : st = s.time.state ∨ st ≠ .unsync) : Stepped s gt epoch st (s.stepTime gt epoch fresh st) := by
  unfold State.stepTime
  extract_lets last changed size t₁ first run keep held t₂ t₃ t₄ t₅
  have ended : Quiet noLane t₃.abortAll t₅ := by
    unfold t₅ t₄ State.dropSlots
    exact ((((Quiet.refl noLane _).stopMovers.closeContexts).setReg 0 (by decide)).modNet _).modSeqr _
  have all : Quiet (fun _ => True) t₂ t₅ :=
    (((Quiet.refl _ t₂).recIrq ..).abortAll).trans (ended.mono fun _ => False.elim)
  have time : t₅.time = t₂.time := all.time
  have entry : st = t₅.time.state ∨ st ≠ .unsync := h.imp_left fun e => by rw [time]; exact e
  obtain ⟨eGt, eState, eEpoch, eBegun, eHold⟩ := toTb_clock (s := t₅) st
  refine ⟨?_, eState, ?_, toTb_stepPend st ?_, ?_, toTb_slots entry, fun runs => ?_, fun n => ?_⟩
  · rw [eGt, time]; rfl
  · rw [eEpoch, time]; rfl
  · rw [time]; rfl
  · rw [eBegun, time]; rfl
  · have isRun : run = true := beq_iff_eq.mpr runs
    rw [eHold, time]
    exact congrArg Option.isSome (if_pos isRun)
  · rw [toTb_lanes entry, ended.ply n id]
    exact abortAll_ply n

/-! ### The boundary -/

/-- Counters of disagreement are no part of the time base and of the sequencer. -/
theorem countDisagree_keeps {β : Type} (g : State → β) (hg : ∀ u : State, g (u.incSat Reg.timEvtCnt 31 16) = g u)
    (k : Nat) :
    g (s.countDisagree k) = g s := foldl_keeps g (fun u _ => hg u) (List.range k) s

/-- What time passing moves of the time base is global time and the cycle of the slew. -/
theorem advanceTo_time (x : BitVec 64) : ∃ gt c, (s.advanceTo x).time = { s.time with gt := gt, slewCycle := c } := by
  unfold State.advanceTo
  split
  · exact ⟨_, _, pipWrap_time _⟩
  · exact ⟨_, _, rfl⟩

theorem two_pow_24 : (2 : Int) ^ 24 = 16777216 := by norm_num

/-- The step of a search (R53). -/
theorem makeStep_search {x : Int × BitVec 64} (found : searchStep s.time.search = some x) :
    Stepped s ((s.advanceTo s.nextBoundary).time.gt + BitVec.ofInt 96 (-(x.1 * 2 ^ 24))) x.2 .integrating s.makeStep := by
  unfold State.makeStep
  extract_lets l t
  have time : t.time = (s.advanceTo s.nextBoundary).time := countDisagree_keeps State.time (fun _ => rfl) _
  have seqr : t.seqr = s.seqr :=
    (countDisagree_keeps State.seqr (fun _ => rfl) _).trans (State.advanceTo_seqr ..)
  have step := stepTime_stepped (s := t) (t.time.moved (-(x.1 * 16777216))) x.2 false
    (st := .integrating) (.inr (by decide))
  rw [show searchStep l = some x from found, two_pow_24]
  clear_value t
  exact step.of (by rw [TimeBase.moved, time]) rfl rfl seqr

/-- The step to the value of TIM_STEP_CMD (R545). -/
theorem makeStep_cmd {v : BitVec 64} (lost : searchStep s.time.search = none) (pend : s.time.stepPend = some v) :
    Stepped s (BitVec.ofNat 96 (v.toNat * 2 ^ 32)) s.time.epoch s.time.state s.makeStep := by
  unfold State.makeStep
  extract_lets l t
  obtain ⟨gt, c, moved⟩ := advanceTo_time (s := s) s.nextBoundary
  have time : t.time = { s.time with gt := gt, slewCycle := c } :=
    (countDisagree_keeps State.time (fun _ => rfl) _).trans moved
  have seqr : t.seqr = s.seqr :=
    (countDisagree_keeps State.seqr (fun _ => rfl) _).trans (State.advanceTo_seqr ..)
  have state : t.time.state = s.time.state := by rw [time]
  have epoch : t.time.epoch = s.time.epoch := by rw [time]
  have pend : t.time.stepPend = some v := by rw [time]; exact pend
  have step := stepTime_stepped (s := t) (BitVec.ofNat 96 (v.toNat * 2 ^ 32)) t.time.epoch false (.inl rfl)
  rw [show searchStep l = .none from lost]
  dsimp only
  rw [pend]
  clear_value t
  exact step.of rfl epoch state seqr

/-- A step that is due is made in place of the round. -/
theorem roundBoundary_due (up : s.domainUp 2 = true) (due : s.stepDue = true) :
    roundBoundary s = ((s.advanceTo s.nextBoundary).endRound).makeStep := by
  unfold roundBoundary
  simp only [up, due, Bool.not_true, Bool.false_eq_true, if_false, if_true]

theorem timeStep_due (up : s.domainUp 2 = true) (due : s.stepDue = true) : timeStep s = roundBoundary s := by
  unfold timeStep
  rw [up, due]
  rfl

/-- Without a step the round begins. -/
theorem roundBoundary_begins (up : s.domainUp 2 = true) (due : s.stepDue = false) :
    roundBoundary s = ((s.advanceTo s.nextBoundary).endRound).beginRound := by
  unfold roundBoundary
  simp only [up, due, Bool.not_true, Bool.false_eq_true, if_false]

/-! ### Reading time (R43) -/

theorem readReg_timNowLo (s : State) : readReg s pTIM (Reg.timNowLo % 0x1000) = s.now.setWidth 32 := by
  have spec : regSpec pTIM (Reg.timNowLo % 0x1000) = some ⟨0x040, 0xFFFFFFFF, 0, 0, 0⟩ := by
    have page : pageClass pTIM = some .pTim := by decide
    unfold regSpec
    rw [page]
    dsimp only
    rw [if_neg (by decide)]
    exact List.find?_cons_of_pos (by decide)
  have key : s.keyOf pTIM (Reg.timNowLo % 0x1000) = Reg.timNowLo := by
    have bank : s.bankOf pTIM (Reg.timNowLo % 0x1000) = 0 := by
      have port : pTIM ≠ pCAN 1 := by decide
      simp [State.bankOf, port]
    rw [State.keyOf, bank]
    decide
  have view : viewReg s Reg.timNowLo = some (s.now.setWidth 32) := by
    have seq : viewSeq s Reg.timNowLo = some (s.now.setWidth 32) := if_pos rfl
    unfold viewReg
    rw [seq]
    rfl
  unfold readReg
  rw [if_neg (by decide), spec, key]
  dsimp only
  rw [view]

end Sys2Proof.Machine
end

section
/-! PROOFS. The work of a round's beginning leaves the round as begun and the list of its values as it is (R40, R41). -/

namespace Sys2Proof.Machine
variable {s t u : State} {n : Fin 16}

/-- From `s` to `t` the round stays begun or not, and its values stay. -/
structure SameRound (s t : State) : Prop where
  begun : t.time.begun = s.time.begun
  meas : t.time.meas = s.time.meas

namespace SameRound

theorem refl (s : State) : SameRound s s := ⟨rfl, rfl⟩

theorem like (h : SameRound s t) (time : u.time = t.time) : SameRound s u :=
  ⟨(congrArg TimeBase.begun time).trans h.begun, (congrArg TimeBase.meas time).trans h.meas⟩

theorem quiet (h : SameRound s t) (q : Quiet noLane t u) : SameRound s u := h.like q.time

theorem modTime (h : SameRound s t) {f : TimeBase → TimeBase} (begun : ∀ x, (f x).begun = x.begun)
    (meas : ∀ x, (f x).meas = x.meas) : SameRound s (t.modTime f) :=
  ⟨(begun _).trans h.begun, (meas _).trans h.meas⟩

theorem ite {c : Prop} [Decidable c] (ht : SameRound s t) (hu : SameRound s u) : SameRound s (if c then t else u) := by
  split
  · exact ht
  · exact hu

theorem foldl {α : Type} {f : State → α → State} (hf : ∀ x u, SameRound s u → SameRound s (f u x)) :
    ∀ {l : List α} {t : State}, SameRound s t → SameRound s (l.foldl f t)
  | [], _, h => h
  | x :: l, t, h => foldl (l := l) hf (hf x t h)

theorem over16 {f : State → Fin 16 → State} (h : SameRound s t) (hf : ∀ n u, SameRound s u → SameRound s (f u n)) :
    SameRound s (over16 f t) := foldl hf h

theorem raise (h : SameRound s t) (p b : Nat) : SameRound s (t.raise p b) := h.like (State.raise_time p b)

theorem modNet (h : SameRound s t) (f : Net → Net) : SameRound s (t.modNet f) := h.like rfl
theorem modPair (h : SameRound s t) (f : Pair → Pair) : SameRound s (t.modPair f) := h.like rfl
theorem modSeqr (h : SameRound s t) (f : Seqr → Seqr) : SameRound s (t.modSeqr f) := h.like rfl
theorem setReg (h : SameRound s t) (k : Nat) (v : Word) : SameRound s (t.setReg k v) := h.like rfl
theorem setFld (h : SameRound s t) (k hi lo v : Nat) : SameRound s (t.setFld k hi lo v) := h.like rfl
theorem send (h : SameRound s t) (o : Output) : SameRound s (t.send o) := h.like rfl
theorem recIrq (h : SameRound s t) (p b : Nat) (pr : Prio) (m : Bytes) : SameRound s (t.recIrq p b pr m) := h.like rfl

theorem dunlySend (h : SameRound s t) (lane : Fin 4) (kind : Nat) (b : Bytes) : SameRound s (t.dunlySend lane kind b) :=
  h.quiet ((Quiet.refl _ _).dunlySend lane kind b)

/-! ### The sequencer and the mask -/

theorem applyMask (h : SameRound s t) : SameRound s t.applyMask := by
  unfold State.applyMask
  dsimp only
  have shown : SameRound s (if (if t.seqr.pendAt = t.now then t.seqr.pendOld else t.seqr.pending) = t.seqr.applied then t
      else (t.modSeqr fun q => { q with
        applied := if t.seqr.pendAt = t.now then t.seqr.pendOld else t.seqr.pending }).raise pBSQ 4) :=
    ite h ((h.modSeqr _).raise ..)
  exact ite (shown.raise ..) shown

theorem passHold (h : SameRound s t) : SameRound s t.passHold := by
  unfold State.passHold
  split
  · exact h
  · extract_lets later v
    have dropped : SameRound s v := ite (h.over16 fun _ _ hu => ite hu (hu.like rfl)) h
    exact dropped.modTime (fun _ => rfl) fun _ => rfl

theorem runRound (h : SameRound s t) : SameRound s t.runRound := by
  unfold State.runRound
  split
  · exact h
  · have kick : SameRound s t.kick := h.modSeqr _
    have kicked : SameRound s t.kick.roundIrqs := ite ((kick.raise ..).raise ..) (kick.raise ..)
    exact ite kicked (kicked.modSeqr _)

theorem rolesWritten (h : SameRound s t) : SameRound s t.rolesWritten := ite (h.like rfl) h

/-! ### The pair -/

theorem showLead (h : SameRound s t) : SameRound s t.showLead := h.like rfl

theorem sdLanes (h : SameRound s t) : SameRound s t.sdLanes := by
  unfold State.sdLanes
  dsimp only
  split
  · exact h.quiet ((Quiet.refl _ _).sdCause 1)
  · split
    · split <;> exact h.like rfl
    · exact h

theorem castleRound (h : SameRound s t) : SameRound s t.castleRound := by
  unfold State.castleRound
  split
  · exact h
  · split
    · exact h.like rfl
    · split
      · exact h.dunlySend ..
      · have fallen : SameRound s t.lineFalls := h.like rfl
        exact ite ((ite h fallen).send _) h

theorem changeRound (h : SameRound s t) : SameRound s t.changeRound := by
  unfold State.changeRound
  split
  · exact h
  · exact ite h (ite (h.dunlySend ..) (ite h (h.dunlySend ..)))

/-! ### The switch of boards -/

theorem endGrant (h : SameRound s t) (slot : Nat) : SameRound s (t.endGrant slot) := by
  unfold State.endGrant
  split
  · exact h
  · extract_lets v₁ v₂ v₃
    have h₃ : SameRound s v₃ := recIrq (raise (ite (h.modNet _) ((h.modNet _).setReg ..)) ..) ..
    exact ite (h₃.dunlySend ..) h₃

theorem switchGrant (h : SameRound s t) (b : Tables) (g : Grant) : SameRound s (t.switchGrant b g) := by
  unfold State.switchGrant
  split
  · exact h.endGrant _
  · exact ite h (ite (h.like rfl) (h.endGrant _))

theorem deriveRegions (h : SameRound s t) (b : Tables) : SameRound s (t.deriveRegions b) :=
  h.over16 fun _ _ hu => foldl (fun _ _ hv => ((hv.setReg ..).setReg ..).setReg ..) hu

theorem fioTurned (h : SameRound s t) (c : Fin 16) (now : Bool) : SameRound s (t.fioTurned c now) := by
  unfold State.fioTurned
  extract_lets change v₁ v₂ v₃
  have h₃ : SameRound s v₃ := SameRound.like (ite (h.like rfl) h : SameRound s v₁) rfl
  exact h₃.quiet ((Quiet.refl _ _).fioApply c)

theorem fioDirections (h : SameRound s t) : SameRound s t.fioDirections :=
  h.over16 fun c _ hu => ite (hu.setFld ..) (fioTurned (hu.setFld ..) c _)

theorem freshTracks (h : SameRound s t) : SameRound s t.freshTracks := by
  unfold State.freshTracks
  extract_lets v₁ v₂ v₃
  have h₁ : SameRound s v₁ := h.modSeqr _
  have h₂ : SameRound s v₂ := ite (h₁.modSeqr _) h₁
  exact (modNet (h₂.like (u := v₃) rfl) _).modPair _

theorem switchBoards (h : SameRound s t) (mig : Bool) : SameRound s (t.switchBoards mig) := by
  unfold State.switchBoards
  split
  · extract_lets m v₁ v₂ v₃ v₄ v₅ v₆ v₇
    have h₁ : SameRound s v₁ := h.like rfl
    have h₂ : SameRound s v₂ := (h₁.setFld ..).deriveRegions _
    clear_value v₂
    have h₃ : SameRound s v₃ := h₂.like rfl
    have h₅ : SameRound s v₅ := foldl (fun g _ hu => hu.switchGrant _ g) (h₃.setFld ..)
    clear_value v₅
    have forgot : SameRound s v₅.forgetStations := h₅.like rfl
    have h₆ : SameRound s v₆ := forgot.fioDirections.freshTracks
    clear_value v₆
    have h₇ : SameRound s v₇ := h₆.modTime (fun _ => rfl) fun _ => rfl
    exact (h₇.raise ..).raise ..
  · exact h

theorem joinExchange (h : SameRound s t) : SameRound s t.joinExchange := by
  unfold State.joinExchange
  split
  · extract_lets v₁ v₂
    have h₂ : SameRound s v₂ := (h.switchBoards false).like rfl
    exact ite ((h₂.dunlySend ..).setFld ..) h₂
  · exact h

/-! ### The transfer of state -/

theorem sendUnit (h : SameRound s t) (space ofs : Nat) (m : Bool) (b : Bytes) : SameRound s (t.sendUnit space ofs m b) :=
  h.dunlySend ..

theorem sendPasses {k : Nat} : ∀ {t : State} {left : Nat}, SameRound s t → SameRound s (t.sendPasses k left) := by
  induction k with
  | zero => exact fun h => h
  | succ k ih =>
    intro t left h
    unfold State.sendPasses
    split
    · exact h
    · split
      · exact ite h (ih (h.like rfl))
      · exact ite h (ih ((h.sendUnit ..).modPair _))

theorem xferWork (h : SameRound s t) : SameRound s t.xferWork :=
  sendPasses (sendUnit (foldl (fun _ _ hu => hu.sendUnit ..) h) ..)

theorem answerJoin (h : SameRound s t) : SameRound s t.answerJoin := by
  unfold State.answerJoin
  extract_lets w id v x v'
  have h₁ : SameRound s v := h.modPair _
  have h₂ : SameRound s v' := (h₁.dunlySend ..).modPair _
  exact ite (((h.dunlySend ..).setFld ..).setFld ..)
    (ite (((h₁.dunlySend ..).setFld ..).setFld ..) ((h₂.setFld ..).setFld ..))

theorem xferRound (h : SameRound s t) : SameRound s t.xferRound := by
  unfold State.xferRound
  split
  · exact ite h.answerJoin h
  · split
    · exact h
    · split
      · exact raise (((h.dunlySend ..).modPair _).setFld ..) ..
      · exact ite (h.modPair _) (h.modPair _).xferWork

theorem pairRound (h : SameRound s t) : SameRound s t.pairRound := by
  unfold State.pairRound
  extract_lets v₁ v₂ v₃ v₄ v₅
  have h₁ : SameRound s v₁ := h.showLead
  have h₂ : SameRound s v₂ := ite (h₁.quiet ((Quiet.refl _ _).sdCause 2)) h₁
  have h₃ : SameRound s v₃ := h₂.sdLanes.quiet (Quiet.refl _ _).sdShow
  have h₄ : SameRound s v₄ := ite (h₃.like rfl) h₃
  have h₅ : SameRound s v₅ := h₄.castleRound.changeRound.joinExchange
  exact h₅.xferRound.quiet (Quiet.refl _ _).bootNotes

/-! ### The beginning of a round -/

theorem sendHealth (h : SameRound s t) : SameRound s t.sendHealth := (h.modPair _).dunlySend ..

theorem wdtWarn (h : SameRound s t) : SameRound s t.wdtWarn := by
  have warned : SameRound s { t with host := { t.host with wdtWarned := true } } := h.like rfl
  exact ite (warned.raise ..) h

theorem beginRound : SameRound s.beginTime s.beginRound := by
  unfold State.beginRound
  extract_lets v₁ v₂ v₃ v₄
  have h₁ : SameRound s.beginTime v₁ := (refl _).applyMask
  have h₂ : SameRound s.beginTime v₂ := h₁.passHold.runRound.rolesWritten
  have h₃ : SameRound s.beginTime v₃ := h₂.pairRound
  exact wdtWarn (ite h₃ h₃.sendHealth)

end SameRound

/-- A round that begins has no values yet (R45). -/
theorem beginRound_time (s : State) : s.beginRound.time.begun = true ∧ s.beginRound.time.meas = [] :=
  ⟨SameRound.beginRound.begun, SameRound.beginRound.meas⟩

end Sys2Proof.Machine
end

section
/-! PROOFS. The arithmetic of a correction: rounding half to even, the selection of values, the clamp of the trim (R49,
R546). -/

namespace Sys2Proof.Machine

/-! ### Rounding -/

/-- The quotient of `roundHalfEven` leaves a remainder between 0 and the divisor. -/
theorem fdiv_remainder (n : Int) {d : Nat} (pos : 0 < d) : 0 ≤ n - n.fdiv d * d ∧ n - n.fdiv d * d < d := by
  have split := Int.mul_fdiv_add_fmod n d
  have low := Int.fmod_nonneg_of_pos n (Int.natCast_pos.mpr pos)
  have high := Int.fmod_lt_of_pos n (Int.natCast_pos.mpr pos)
  rw [mul_comm] at split
  omega

theorem roundHalfEven_halfEven (n : Int) {d : Nat} (pos : 0 < d) : HalfEven n d (roundHalfEven n d) := by
  obtain ⟨low, high⟩ := fdiv_remainder n pos
  unfold HalfEven roundHalfEven
  dsimp only
  generalize n.fdiv d = q at *
  have up : (q + 1) * (d : Int) = q * d + d := by ring
  split
  · obtain ⟨e, _⟩ | ⟨e, _⟩ := abs_cases (q * (d : Int) - n) <;> omega
  · split
    · rw [up]
      obtain ⟨e, _⟩ | ⟨e, _⟩ := abs_cases (q * (d : Int) + d - n) <;> omega
    · split
      · obtain ⟨e, _⟩ | ⟨e, _⟩ := abs_cases (q * (d : Int) - n) <;> omega
      · rw [up]
        obtain ⟨e, _⟩ | ⟨e, _⟩ := abs_cases (q * (d : Int) + d - n) <;> omega

/-! ### The values between the lowest and the highest -/

theorem insInt_eq (x : Int) : ∀ l : List Int, insInt x l = l.orderedInsert (· ≤ ·) x
  | [] => rfl
  | a :: r => by rw [insInt, List.orderedInsert, insInt_eq x r]

/-- The values, put into their places one by one, are the same values in ascending order. -/
theorem foldl_insInt (l : List Int) : ∀ a : List Int, a.Pairwise (· ≤ ·) →
    (l.foldl (fun a x => insInt x a) a).Perm (a ++ l) ∧ (l.foldl (fun a x => insInt x a) a).Pairwise (· ≤ ·) := by
  induction l with
  | nil => exact fun a ordered => ⟨by rw [List.append_nil]; rfl, ordered⟩
  | cons x r ih =>
    intro a ordered
    have put : (insInt x a).Pairwise (· ≤ ·) := by
      rw [insInt_eq]
      exact ordered.orderedInsert x a
    obtain ⟨perm, sorted⟩ := ih (insInt x a) put
    refine ⟨perm.trans ?_, sorted⟩
    rw [insInt_eq]
    exact ((List.perm_orderedInsert (· ≤ ·) x a).append_right r).trans List.perm_middle.symm

/-- What R49 leaves of `n` values is not nothing. -/
theorem kOf_lt {n : Nat} (pos : 0 < n) : 2 * kOf n < n := by
  unfold kOf
  split
  · omega
  · split <;> omega

theorem meanDev_selected {l : List Int} (some : l ≠ []) : Selected l (meanDev l) := by
  obtain ⟨perm, sorted⟩ := foldl_insInt l [] List.Pairwise.nil
  unfold meanDev
  dsimp only
  generalize l.foldl (fun a x => insInt x a) [] = v at perm sorted ⊢
  refine ⟨v, perm, sorted, ?_⟩
  show HalfEven (128 * ((v.drop (kOf v.length)).take (v.length - 2 * kOf v.length)).sum)
    ((v.length - 2 * kOf v.length : Nat) : Int) _
  have kept : 2 * kOf v.length < v.length := kOf_lt (by
    rw [perm.length_eq]
    exact List.length_pos_of_ne_nil some)
  have count : ((v.drop (kOf v.length)).take (v.length - 2 * kOf v.length)).length = v.length - 2 * kOf v.length := by
    rw [List.length_take, List.length_drop]
    omega
  rw [count, ← List.sum_eq_foldl, mul_comm]
  exact roundHalfEven_halfEven _ (Nat.sub_pos_of_lt kept)

/-! ### The trim -/

theorem newTrim_clamp (trim d : Int) :
    newTrim trim d = max (-2147483) (min 2147483 (trim - roundHalfEven (d * 16777216) 1600000)) := by
  unfold newTrim
  dsimp only
  split
  · omega
  · split <;> omega

/-- The trim of a correction fits its register. -/
theorem toInt_newTrim (trim d : Int) : (BitVec.ofInt 32 (newTrim trim d)).toInt = newTrim trim d := by
  have bounds := newTrim_clamp trim d
  rw [BitVec.toInt_ofInt]
  exact Int.bmod_eq_of_le (by omega) (by omega)

end Sys2Proof.Machine
end

section
/-! PROOFS. The correction pip: the values it works on, the rounds without a correction, the slew, the trim and the state
that follow (R49 to R52, R60, R126, R317). -/

namespace Sys2Proof.Machine
variable {s t u : State}

/-! ### The values of the round -/

/-- From `s` to `t` nothing of the TIM page changes but its header, the disagreements counted and TIM_SYNC_USED; time,
boards, records and the other pages' registers stay. -/
structure Sampled (s t : State) : Prop where
  time : t.time = s.time
  boards : t.boards = s.boards
  option : t.option = s.option
  events : t.events = s.events
  reg : ∀ k, 0x40 ≤ k % 0x1000 → k ≠ Reg.timEvtCnt → k ≠ Reg.timSyncUsed → t.reg k = s.reg k
  losses : t.fld Reg.timEvtCnt 15 0 = s.fld Reg.timEvtCnt 15 0

theorem ne_header {k p o : Nat} (hk : 0x40 ≤ k % 0x1000) (ho : o < 0x40) : k ≠ p * 0x1000 + o := by
  rintro rfl
  omega

namespace Sampled

theorem refl (s : State) : Sampled s s := ⟨rfl, rfl, rfl, rfl, fun _ _ _ _ => rfl, rfl⟩

theorem trans (h : Sampled s t) (h' : Sampled t u) : Sampled s u where
  time := h'.time.trans h.time
  boards := h'.boards.trans h.boards
  option := h'.option.trans h.option
  events := h'.events.trans h.events
  reg k a b c := (h'.reg k a b c).trans (h.reg k a b c)
  losses := h'.losses.trans h.losses

theorem raise (s : State) (b : Nat) : Sampled s (s.raise pTIM b) where
  time := State.raise_time ..
  boards := State.raise_boards ..
  option := State.raise_option ..
  events := State.raise_events ..
  reg _ hk _ _ := State.reg_raise_ne (ne_header hk (by decide))
  losses := fld_raise_ne (by decide)

theorem logErr (s : State) (c : Nat) (i : Word) : Sampled s (s.logErr pTIM c i) where
  time := State.logErr_time ..
  boards := State.logErr_boards ..
  option := State.logErr_option ..
  events := State.logErr_events ..
  reg _ hk _ _ := State.reg_logErr_ne (ne_header hk (by decide)) (ne_header hk (by decide))
  losses := fld_eq_of_reg (State.reg_logErr_ne (by decide) (by decide))

theorem countDisagree (s : State) (k : Nat) : Sampled s (s.countDisagree k) := by
  have one (u : State) : Sampled u (u.incSat Reg.timEvtCnt 31 16) :=
    ⟨rfl, rfl, rfl, rfl, fun _ _ h _ => State.reg_setFld_ne h, State.fld_setFld_disjoint (by decide) (by decide)⟩
  unfold State.countDisagree
  induction List.range k generalizing s with
  | nil => exact refl s
  | cons x l ih => exact (one s).trans (ih _)

theorem syncUsed (s : State) (v : Word) : Sampled s (s.setReg Reg.timSyncUsed v) :=
  ⟨rfl, rfl, rfl, rfl, fun _ _ _ h => State.reg_setReg_ne h, fld_eq_of_reg (State.reg_setReg_ne (by decide))⟩

theorem ownSync (h : Sampled s t) : t.ownSync = s.ownSync := by
  have slot : t.fld Reg.sysSlot 0 0 = s.fld Reg.sysSlot 0 0 :=
    fld_eq_of_reg (h.reg _ (by decide) (by decide) (by decide))
  unfold State.ownSync State.nodeAddr State.pairDomain
  rw [h.boards, h.option, slot]

theorem ctrl (h : Sampled s t) (hi lo : Nat) : t.fld Reg.timCtrl hi lo = s.fld Reg.timCtrl hi lo :=
  fld_eq_of_reg (h.reg _ (by decide) (by decide) (by decide))

end Sampled

theorem corrValues_sampled (s : State) : Sampled s s.corrValues.1 := by
  unfold State.corrValues
  extract_lets vs used own v c
  clear_value own
  split
  · split
    · show Sampled s (if c = v then s else s.logErr pTIM 0x0101 (s.reg Reg.timExtOfs))
      split
      · exact .refl s
      · exact .logErr s ..
    · exact .raise s 5
  · cases own <;> exact .refl s

/-- The values of a pip stand in the round's values, in TIM_EXT_OFS and in the board. -/
theorem corrValues_eq {s t : State} (meas : t.time.meas = s.time.meas) (new : t.time.extNew = s.time.extNew)
    (regs : t.regs = s.regs) (boards : t.boards = s.boards) (option : t.option = s.option) :
    t.corrValues.2 = s.corrValues.2 := by
  have reg (k : Nat) : t.reg k = s.reg k := congrArg (tget 0 · k) regs
  have own : t.ownSync = s.ownSync := by
    unfold State.ownSync State.nodeAddr State.pairDomain State.fld
    rw [boards, option, reg]
  have ctrl : t.fld Reg.timCtrl 1 0 = s.fld Reg.timCtrl 1 0 := fld_eq_of_reg (reg _)
  unfold State.corrValues
  rw [meas, new, ctrl, own, reg]
  dsimp only
  split
  · split <;> rfl
  · split <;> rfl

/-! ### The pip -/

/-- The time base once the pip has taken the values of the round. -/
def TimeBase.measured (t : TimeBase) (fresh : Bool) (n k : Nat) : TimeBase :=
  { t.endSlew with meas := [], corrected := true, extNew := false, extFresh := fresh, nValid := n, kSel := k }

/-- The round has no correction: no value, or one alone on a node that is no sync node (R49). -/
abbrev State.noCorrection (u : State) : Prop :=
  u.corrValues.2.vals = [] ∨ (u.corrValues.2.vals.length = 1 ∧ u.ownSync = none ∧ u.corrValues.2.ext = false)

/-- In UNSYNC nothing is corrected (R52). -/
theorem correct_unsync (lost : u.time.state = .unsync) :
    u.correct = u.modTime fun t => { t.endSlew with meas := [], corrected := true, extNew := false } := if_pos lost

theorem correct_measured (kept : u.time.state ≠ .unsync) : ∃ f n k t,
    Sampled (u.modTime fun tb => tb.measured f n k) t ∧ u.correct
      = if u.noCorrection then t.uncorrected
        else (if 2 ≤ u.corrValues.2.vals.length ∧ u.corrValues.2.vals.length < 4 then t.raise pTIM 3
          else t).applyCorrection (meanDev u.corrValues.2.vals) := by
  unfold State.correct
  extract_lets l new s₁ tb c rej n s₂ s₃ s₄ s₅
  have values : c.2 = u.corrValues.2 := corrValues_eq rfl rfl rfl rfl rfl
  have taken : Sampled { s₁ with time := { s₁.time with meas := l, extNew := new } } s₃ :=
    (corrValues_sampled _).trans ((Sampled.countDisagree ..).trans (Sampled.syncUsed ..))
  have time : s₄.time = u.time.measured (s₃.time.extFresh && !c.2.ext) n (kOf n) := by
    unfold s₄
    rw [State.modTime_time, taken.time]
    rfl
  have sampled : Sampled (u.modTime fun tb => tb.measured (s₃.time.extFresh && !c.2.ext) n (kOf n)) s₄ :=
    ⟨time, taken.boards, taken.option, taken.events, taken.reg, taken.losses⟩
  have own : s₄.ownSync = u.ownSync := sampled.ownSync
  refine ⟨_, _, _, s₄, sampled, (if_neg kept).trans ?_⟩
  have none : (n == 0 || (n == 1 && s₄.ownSync.isNone && !c.2.ext)) = true ↔ u.noCorrection := by
    rw [own, show n = u.corrValues.2.vals.length from congrArg (·.vals.length) values, values]
    simp [State.noCorrection, and_assoc]
  by_cases h : u.noCorrection
  · rw [if_pos h, if_pos (none.mpr h)]
  · rw [if_neg h, if_neg (none.not.mpr h), ← values]

/-! ### What a change of state leaves of the TIM page -/

theorem tbEntered_reg {k : Nat} (st : TbState) (ne : k ≠ Reg.timEvtCnt) : (s.tbEntered st).reg k = s.reg k := by
  unfold State.tbEntered
  dsimp only
  have ring : (if st = TbState.synced then { ({ s with time := s.time.enters st } : State) with
      net := { s.net with ownSeq := [] } } else { s with time := s.time.enters st }).reg k = s.reg k := by split <;> rfl
  split
  · exact (State.reg_setFld_ne ne).trans ring
  · exact ring

theorem toTb_reg {k : Nat} (st : TbState) (hk : ClockKey k = true) (ne : k ≠ Reg.timEvtCnt) :
    (s.toTb st).reg k = s.reg k := by
  by_cases e : s.time.state = st
  · rw [toTb_self e]
  · rw [(toTb_quiet e).reg k hk, tbEntered_reg st ne]

/-- A loss of the time base is counted (R63). -/
theorem toTb_losses (kept : s.time.state ≠ .unsync) :
    (s.toTb .unsync).fld Reg.timEvtCnt 15 0 = min 0xFFFF (s.fld Reg.timEvtCnt 15 0 + 1) :=
  (fld_eq_of_reg ((toTb_quiet kept).reg _ (by decide))).trans (fld_incSat_self (by decide) (by decide))

theorem toTb_events (st : TbState) : s.events <+: (s.toTb st).events := by
  by_cases e : s.time.state = st
  · rw [toTb_self e]
  · have same : (s.tbEntered st).events = s.events := by
      unfold State.tbEntered
      dsimp only
      split <;> split <;> rfl
    exact same ▸ (toTb_quiet e).events

/-! ### A round without correction -/

/-- R52. -/
theorem uncorrected_after (kept : s.time.state ≠ .unsync) : s.uncorrected.time.corrected = s.time.corrected
    ∧ s.uncorrected.time.trim = s.time.trim ∧ s.uncorrected.time.slewTotal = s.time.slewTotal
    ∧ s.uncorrected.time.gt = s.time.gt ∧ s.uncorrected.time.good = 0
    ∧ s.uncorrected.time.state = (if s.fld Reg.timCtrl 15 8 ≤ s.time.noCorr then .unsync
        else if s.time.state = .synced then .holdover else s.time.state)
    ∧ (s.time.noCorr < s.fld Reg.timCtrl 15 8 → s.uncorrected.time.noCorr = s.time.noCorr + 1) := by
  unfold State.uncorrected
  extract_lets n tb t
  have ctrl : t.fld Reg.timCtrl 15 8 = s.fld Reg.timCtrl 15 8 := rfl
  have lost : t.time.state ≠ .unsync := kept
  by_cases lapsed : s.fld Reg.timCtrl 15 8 ≤ s.time.noCorr
  · rw [if_pos lapsed, if_pos (by rw [ctrl]; omega), toTb_time lost]
    exact ⟨rfl, rfl, rfl, rfl, rfl, rfl, fun h => absurd h (Nat.not_lt.mpr lapsed)⟩
  · rw [if_neg lapsed, if_neg (by rw [ctrl]; omega)]
    by_cases synced : s.time.state = .synced
    · have differs : t.time.state ≠ .holdover := by
        rw [show t.time.state = .synced from synced]
        decide
      rw [if_pos synced, if_pos synced, toTb_time differs]
      exact ⟨rfl, rfl, rfl, rfl, rfl, rfl, fun _ => rfl⟩
    · rw [if_neg synced, if_neg synced]
      exact ⟨rfl, rfl, rfl, rfl, rfl, rfl, fun _ => rfl⟩

/-! ### A correction -/

/-- The deviation of the round is shown (R49). -/
def State.devShown (s : State) (d : Int) : State :=
  let t := (s.setReg Reg.timDev (BitVec.ofInt 32 (roundHalfEven d 256))).peak Reg.timDevPeak 15 0
    (min 0xFFFF (roundHalfEven d 256).natAbs)
  { t with time := { t.time with noCorr := 0 } }

theorem devShown_time (d : Int) : (s.devShown d).time = { s.time with noCorr := 0 } := by
  show { State.time _ with noCorr := 0 } = _
  rw [State.peak_time]
  rfl

theorem devShown_events (d : Int) : (s.devShown d).events = s.events := State.peak_events ..

theorem devShown_dev (d : Int) : (s.devShown d).reg Reg.timDev = BitVec.ofInt 32 (roundHalfEven d 256) := by
  have peak (u : State) (v : Nat) : (u.peak Reg.timDevPeak 15 0 v).reg Reg.timDev = u.reg Reg.timDev := by
    unfold State.peak
    split
    · exact State.reg_setFld_ne (by decide)
    · rfl
  exact (peak _ _).trans State.reg_setReg_self

theorem devShown_fld {k hi lo : Nat} (d : Int) (h : k ≠ Reg.timDev) (h' : k ≠ Reg.timDevPeak) :
    (s.devShown d).fld k hi lo = s.fld k hi lo := by
  have peak (u : State) (v : Nat) : (u.peak Reg.timDevPeak 15 0 v).reg k = u.reg k := by
    unfold State.peak
    split
    · exact State.reg_setFld_ne h'
    · rfl
  exact fld_eq_of_reg ((peak _ _).trans (State.reg_setReg_ne h))

/-- Beyond 500 ns the time base is lost, with neither slew nor trim (R52). -/
theorem applyCorrection_lost {d : Int} (far : 128000 < |d|) (kept : s.time.state ≠ .unsync) :
    (s.applyCorrection d).time = TimeBase.enters { s.time with noCorr := 0 } .unsync
    ∧ (s.applyCorrection d).reg Reg.timDev = BitVec.ofInt 32 (roundHalfEven d 256)
    ∧ (s.applyCorrection d).fld Reg.timEvtCnt 15 0 = min 0xFFFF (s.fld Reg.timEvtCnt 15 0 + 1)
    ∧ s.events.length < (s.applyCorrection d).events.length := by
  obtain ⟨a, eq, raised⟩ : ∃ a, s.applyCorrection d
      = ((a.raise pTIM 2).recIrq pTIM 2 .normal (toLe 4 (BitVec.ofInt 32 (roundHalfEven d 256)).toNat)).toTb .unsync
      ∧ Sampled (s.devShown d) a := by
    refine ⟨_, if_pos (Int.abs_eq_natAbs d ▸ far |> Int.ofNat_lt.mp), ?_⟩
    split
    · exact .raise ..
    · exact .refl _
  have noted : Sampled (s.devShown d) (a.raise pTIM 2) := raised.trans (.raise ..)
  generalize hb : (a.raise pTIM 2).recIrq pTIM 2 .normal (toLe 4 (BitVec.ofInt 32 (roundHalfEven d 256)).toNat) = b at eq
  have time : b.time = { s.time with noCorr := 0 } := by
    rw [← hb]
    exact noted.time.trans (devShown_time d)
  have reg (k : Nat) : b.reg k = (a.raise pTIM 2).reg k := by
    rw [← hb]
    rfl
  have record : b.events.length = s.events.length + 1 := by
    rw [← hb, ← devShown_events (s := s) d, ← noted.events]
    exact List.length_append
  have lost : b.time.state ≠ .unsync := by
    rw [time]
    exact kept
  rw [eq]
  refine ⟨?_, ?_, ?_, ?_⟩
  · rw [toTb_time lost, time]
  · rw [toTb_reg _ (by decide) (by decide), reg, noted.reg _ (by decide) (by decide) (by decide), devShown_dev]
  · rw [toTb_losses lost, fld_eq_of_reg (reg _), noted.losses, devShown_fld _ (by decide) (by decide)]
  · have more := (toTb_events (s := b) .unsync).length_le
    omega

/-- A correction leads to SYNCED from HOLDOVER, and from INTEGRATING after enough rounds; nothing else of the time base
changes but what the change of state resets (R52). -/
theorem correctedState_time (kept : s.time.state ≠ .unsync) (d : Int) : ∃ st i g p, (s.correctedState d).time
    = { s.time with state := st, inState := i, good := g, stepPend := p } ∧ st = (if s.time.state = .integrating then
      (if max 1 (s.fld Reg.timCtrl 7 4) ≤ (if |d| ≤ 25600 then s.time.good + 1 else 0) then .synced else .integrating)
      else .synced) := by
  have near : d.natAbs ≤ 25600 ↔ |d| ≤ 25600 := by
    rw [Int.abs_eq_natAbs]
    omega
  cases h : s.time.state with
  | unsync => exact absurd h kept
  | integrating =>
    unfold State.correctedState
    rw [h, if_pos rfl]
    extract_lets g tb t
    have count : g = if |d| ≤ 25600 then s.time.good + 1 else 0 := if_congr near rfl rfl
    have ctrl : t.fld Reg.timCtrl 7 4 = s.fld Reg.timCtrl 7 4 := rfl
    show ∃ st i g' p, (if max 1 (t.fld Reg.timCtrl 7 4) ≤ g then t.toTb .synced else t).time
      = { s.time with state := st, inState := i, good := g', stepPend := p } ∧ _
    rw [ctrl, ← count]
    by_cases enough : max 1 (s.fld Reg.timCtrl 7 4) ≤ g
    · have differs : t.time.state ≠ .synced := by
        rw [show t.time.state = .integrating from h]
        decide
      rw [if_pos enough, if_pos enough, toTb_time differs]
      exact ⟨_, _, _, _, rfl, rfl⟩
    · rw [if_neg enough, if_neg enough]
      exact ⟨_, _, _, _, rfl, h⟩
  | synced =>
    have same : s.correctedState d = s := by
      unfold State.correctedState
      rw [h]
    rw [same]
    exact ⟨_, _, _, _, rfl, h⟩
  | holdover =>
    have back : s.correctedState d = s.toTb .synced := by
      unfold State.correctedState
      rw [h]
    have differs : s.time.state ≠ .synced := by
      rw [h]
      decide
    rw [back, toTb_time differs]
    exact ⟨_, _, _, _, rfl, rfl⟩

theorem correctedState_reg {k : Nat} (d : Int) (hk : ClockKey k = true) (ne : k ≠ Reg.timEvtCnt) :
    (s.correctedState d).reg k = s.reg k := by
  unfold State.correctedState
  split
  · extract_lets g tb t
    split
    · exact toTb_reg _ hk ne
    · rfl
  · exact toTb_reg _ hk ne
  · rfl

/-- What a correction makes of the time base, before its state changes: the slew and the trim of R49, unless SRC is 2. -/
def State.servo (s : State) (d : Int) : State :=
  if s.fld Reg.timCtrl 1 0 = 2 then s.devShown d
  else { s.devShown d with time := { (s.devShown d).time with
    slewTotal := -(d * 16777216) + (s.devShown d).time.slewRest, slewCycle := 0, slewRest := 0
    trim := BitVec.ofInt 32 (newTrim (s.devShown d).time.trim.toInt d) } }

/-- Within 500 ns slew, trim and state follow (R49, R52). -/
theorem applyCorrection_kept {d : Int} (near : |d| ≤ 128000) :
    Sampled ((s.servo d).correctedState d) (s.applyCorrection d) := by
  have within : ¬ 128000 < d.natAbs := by
    rw [Int.abs_eq_natAbs] at near
    omega
  have ctrl : (s.devShown d).fld Reg.timCtrl 1 0 = s.fld Reg.timCtrl 1 0 := devShown_fld _ (by decide) (by decide)
  have eq : s.applyCorrection d = if ((s.servo d).correctedState d).time.state = .synced ∧ 25600 < d.natAbs then
      ((s.servo d).correctedState d).raise pTIM 1 else (s.servo d).correctedState d := by
    unfold State.servo
    rw [← ctrl]
    exact if_neg within
  rw [eq]
  split
  · exact .raise ..
  · exact .refl _

end Sys2Proof.Machine
end

section
/-! PROOFS. The statement of 02_time_base.md about the time base: reading, corrections, steps and the servo (O21). -/

namespace Sys2Proof.Machine
variable {s t u : State} {i : Nat} {e : Entry}

/-! ### The correction pip of the round -/

theorem corrEntry_fevt (h : s.corrEntry = some e) : e.fevt = 5 := by
  have found := List.find?_some h
  rw [Bool.and_eq_true, beq_iff_eq] at found
  exact found.1

/-- In RUN and outside it the pip is the same, on the state that time and the walkers lead to (R126, R317). -/
theorem syncCorrect_at (h : s.correctsAt i e u) : syncCorrect s = u.correct := by
  obtain ⟨open_, begun, free, entry, cases⟩ := h
  have unheld : (s.time.corrected || !s.time.begun || s.time.hold.isSome) = false := by rw [open_, begun, free]; rfl
  unfold syncCorrect
  rw [if_neg (Bool.eq_false_iff.mp unheld), entry]
  obtain ⟨idle, board, at_⟩ | ⟨field, index, due, at_⟩ := cases
  · dsimp only
    rw [if_neg idle, if_neg board, at_]
  · have runs : s.seqr.state = .run := due.1.1
    dsimp only
    rw [if_pos runs, index]
    dsimp only
    rw [s.onField_due due field (corrEntry_fevt entry), at_]

/-! ### A round with a correction -/

theorem servo_ptp {d : Int} (src : s.fld Reg.timCtrl 1 0 = 2) : (s.servo d).time = { s.time with noCorr := 0 } := by
  unfold State.servo
  rw [if_pos src, devShown_time]

theorem servo_slews {d : Int} (src : s.fld Reg.timCtrl 1 0 ≠ 2) : (s.servo d).time = { s.time with
    noCorr := 0, slewTotal := -(d * 16777216) + s.time.slewRest, slewCycle := 0, slewRest := 0
    trim := BitVec.ofInt 32 (newTrim s.time.trim.toInt d) } := by
  unfold State.servo
  rw [if_neg src]
  dsimp only
  rw [devShown_time]

theorem servo_kept {d : Int} : (s.servo d).time.gt = s.time.gt ∧ (s.servo d).time.corrected = s.time.corrected
    ∧ (s.servo d).time.state = s.time.state ∧ (s.servo d).time.good = s.time.good ∧ (s.servo d).time.noCorr = 0 := by
  by_cases src : s.fld Reg.timCtrl 1 0 = 2
  · rw [servo_ptp src]
    exact ⟨rfl, rfl, rfl, rfl, rfl⟩
  · rw [servo_slews src]
    exact ⟨rfl, rfl, rfl, rfl, rfl⟩

theorem servo_reg (d : Int) (k : Nat) : (s.servo d).reg k = (s.devShown d).reg k := by
  unfold State.servo
  split <;> rfl

/-! ### The statements about the pip -/

/-- In UNSYNC the pip corrects nothing (R52). -/
theorem syncCorrect_unsync (h : s.correctsAt i e u) (lost : u.time.state = .unsync) :
    Does .syncCorrect s fun t => t.time.corrected = true ∧ t.time.state = .unsync ∧ t.time.trim = u.time.trim
      ∧ t.time.slewTotal = 0 ∧ t.time.gt = u.time.gt ∧ t.time.meas = [] :=
  ⟨_, congrArg Host.Outcome.next ((syncCorrect_at h).trans (correct_unsync lost)), rfl, lost, rfl, rfl, rfl, rfl⟩

/-- A round without a correction (R49, R52). -/
theorem syncCorrect_none (h : s.correctsAt i e u) (kept : u.time.state ≠ .unsync) (none : u.noCorrection) :
    Does .syncCorrect s fun t => t.time.corrected = true ∧ t.time.trim = u.time.trim ∧ t.time.slewTotal = 0
      ∧ t.time.gt = u.time.gt ∧ t.time.good = 0
      ∧ t.time.state = (if u.fld Reg.timCtrl 15 8 ≤ u.time.noCorr then .unsync
          else if u.time.state = .synced then .holdover else u.time.state)
      ∧ (u.time.noCorr < u.fld Reg.timCtrl 15 8 → t.time.noCorr = u.time.noCorr + 1) := by
  obtain ⟨f, n, k, a, sampled, eq⟩ := correct_measured kept
  rw [if_pos none] at eq
  have time : a.time = u.time.measured f n k := sampled.time
  have state : a.time.state = u.time.state := by rw [time]; rfl
  have rounds : a.time.noCorr = u.time.noCorr := by rw [time]; rfl
  have ctrl : a.fld Reg.timCtrl 15 8 = u.fld Reg.timCtrl 15 8 := sampled.ctrl 15 8
  obtain ⟨corrected, trim, slew, gt, good, next, more⟩ := uncorrected_after (s := a) (state ▸ kept)
  refine ⟨_, congrArg Host.Outcome.next ((syncCorrect_at h).trans eq), ?_, ?_, ?_, ?_, good, ?_, ?_⟩
  · rw [corrected, time]; rfl
  · rw [trim, time]; rfl
  · rw [slew, time]; rfl
  · rw [gt, time]; rfl
  · rw [next, state, rounds, ctrl]
  · rw [ctrl, rounds] at more
    exact more

/-- What the servo leaves of a round with deviation `d` (R49, R50, R52). -/
theorem applyCorrection_after {f : Bool} {n k : Nat} {a : State}
    (sampled : Sampled (u.modTime fun t => t.measured f n k) a)
    (kept : u.time.state ≠ .unsync) (d : Int) :
    (a.applyCorrection d).reg Reg.timDev = BitVec.ofInt 32 (roundHalfEven d 256)
    ∧ (a.applyCorrection d).time.gt = u.time.gt ∧ (a.applyCorrection d).time.corrected = true := by
  have time : a.time = u.time.measured f n k := sampled.time
  have state : a.time.state ≠ .unsync := by
    rw [time]
    exact kept
  by_cases far : 128000 < |d|
  · obtain ⟨after, dev, -, -⟩ := applyCorrection_lost far state
    rw [after, time]
    exact ⟨dev, rfl, rfl⟩
  · have near := applyCorrection_kept (s := a) (not_lt.mp far)
    obtain ⟨gt, corrected, eState, -, -⟩ := servo_kept (s := a) (d := d)
    obtain ⟨_, _, _, _, after, -⟩ := correctedState_time (s := a.servo d) (eState ▸ state) d
    rw [near.time, after]
    refine ⟨?_, gt.trans (by rw [time]; rfl), corrected.trans (by rw [time]; rfl)⟩
    rw [near.reg _ (by decide) (by decide) (by decide), correctedState_reg d (by decide) (by decide), servo_reg,
      devShown_dev]

/-- Beyond 500 ns the time base is lost (R52). -/
theorem applyCorrection_far {f : Bool} {n k : Nat} {a : State} (sampled : Sampled (u.modTime fun t => t.measured f n k) a)
    (kept : u.time.state ≠ .unsync) {d : Int} (far : 128000 < |d|) :
    (a.applyCorrection d).time.state = .unsync ∧ (a.applyCorrection d).time.trim = u.time.trim
    ∧ (a.applyCorrection d).time.slewTotal = 0
    ∧ (a.applyCorrection d).fld Reg.timEvtCnt 15 0 = min 0xFFFF (u.fld Reg.timEvtCnt 15 0 + 1)
    ∧ u.events.length < (a.applyCorrection d).events.length := by
  have time : a.time = u.time.measured f n k := sampled.time
  have state : a.time.state ≠ .unsync := by
    rw [time]
    exact kept
  have events : a.events = u.events := sampled.events
  have losses : a.fld Reg.timEvtCnt 15 0 = u.fld Reg.timEvtCnt 15 0 := sampled.losses
  obtain ⟨after, -, count, more⟩ := applyCorrection_lost far state
  rw [after, count, losses, time, ← events]
  exact ⟨rfl, rfl, rfl, rfl, more⟩

/-- Within 500 ns slew, trim and state follow the deviation (R49, R50, R52). -/
theorem applyCorrection_near {f : Bool} {n k : Nat} {a : State}
    (sampled : Sampled (u.modTime fun t => t.measured f n k) a)
    (kept : u.time.state ≠ .unsync) {d : Int} (near : |d| ≤ 128000) :
    (a.applyCorrection d).time.noCorr = 0
    ∧ (u.fld Reg.timCtrl 1 0 = 2 →
      (a.applyCorrection d).time.trim = u.time.trim ∧ (a.applyCorrection d).time.slewTotal = 0)
    ∧ (u.fld Reg.timCtrl 1 0 ≠ 2 → (a.applyCorrection d).time.slewTotal
          = -(d * 16777216) + (u.time.slewRest + (if u.time.slewMoved then u.time.slewLeft else 0))
      ∧ (a.applyCorrection d).time.slewCycle = 0 ∧ (a.applyCorrection d).time.slewRest = 0
      ∧ (a.applyCorrection d).time.trim = BitVec.ofInt 32 (newTrim u.time.trim.toInt d))
    ∧ (a.applyCorrection d).time.state = (if u.time.state = .integrating then
        (if max 1 (u.fld Reg.timCtrl 7 4) ≤ (if |d| ≤ 25600 then u.time.good + 1 else 0) then .synced else .integrating)
        else .synced) := by
  have time : a.time = u.time.measured f n k := sampled.time
  have state : a.time.state = u.time.state := by rw [time]; rfl
  have rounds : a.time.good = u.time.good := by rw [time]; rfl
  have ctrl (hi lo : Nat) : a.fld Reg.timCtrl hi lo = u.fld Reg.timCtrl hi lo := sampled.ctrl hi lo
  have integ : (a.servo d).fld Reg.timCtrl 7 4 = u.fld Reg.timCtrl 7 4 := by
    rw [fld_eq_of_reg (servo_reg d _), devShown_fld _ (by decide) (by decide), ctrl]
  obtain ⟨-, -, eState, eGood, eNone⟩ := servo_kept (s := a) (d := d)
  rw [state] at eState
  rw [rounds] at eGood
  obtain ⟨st, _, _, _, after, next⟩ := correctedState_time (s := a.servo d) (eState ▸ kept) d
  rw [eState, eGood, integ] at next
  rw [(applyCorrection_kept near).time, after]
  refine ⟨eNone, fun src => ?_, fun src => ?_, next⟩
  · dsimp only
    rw [servo_ptp ((ctrl 1 0).trans src), time]
    exact ⟨rfl, rfl⟩
  · dsimp only
    rw [servo_slews (by rw [ctrl]; exact src), time]
    exact ⟨rfl, rfl, rfl, rfl⟩

/-- A round with a correction (R49, R50, R52, R546). -/
theorem syncCorrect_some (h : s.correctsAt i e u) (kept : u.time.state ≠ .unsync) (some : ¬ u.noCorrection) :
    Does .syncCorrect s fun t => ∃ d r : Int, Selected u.corrValues.2.vals d ∧ HalfEven d 256 r
      ∧ t.reg Reg.timDev = BitVec.ofInt 32 r ∧ t.time.gt = u.time.gt ∧ t.time.corrected = true
      ∧ (128000 < |d| → t.time.state = .unsync ∧ t.time.trim = u.time.trim ∧ t.time.slewTotal = 0
        ∧ t.fld Reg.timEvtCnt 15 0 = min 0xFFFF (u.fld Reg.timEvtCnt 15 0 + 1) ∧ u.events.length < t.events.length)
      ∧ (|d| ≤ 128000 → t.time.noCorr = 0
        ∧ (u.fld Reg.timCtrl 1 0 = 2 → t.time.trim = u.time.trim ∧ t.time.slewTotal = 0)
        ∧ (u.fld Reg.timCtrl 1 0 ≠ 2 → t.time.slewTotal
              = -(d * 2 ^ 24) + (u.time.slewRest + (if u.time.slewMoved then u.time.slewLeft else 0))
          ∧ t.time.slewCycle = 0 ∧ t.time.slewRest = 0 ∧ ∃ x, HalfEven (d * 2 ^ 24) 1600000 x
            ∧ t.time.trim.toInt = max (-2147483) (min 2147483 (u.time.trim.toInt - x)))
        ∧ (let g := if |d| ≤ 25600 then u.time.good + 1 else 0
          t.time.state = (if u.time.state = .integrating then
            (if max 1 (u.fld Reg.timCtrl 7 4) ≤ g then .synced else .integrating) else .synced))) := by
  obtain ⟨f, n, k, a, sampled, eq⟩ := correct_measured kept
  rw [if_neg some] at eq
  have few : Sampled (u.modTime fun t => t.measured f n k)
      (if 2 ≤ u.corrValues.2.vals.length ∧ u.corrValues.2.vals.length < 4 then a.raise pTIM 3 else a) := by
    split
    · exact sampled.trans (.raise ..)
    · exact sampled
  have values : u.corrValues.2.vals ≠ [] := fun none => some (.inl none)
  obtain ⟨dev, gt, corrected⟩ := applyCorrection_after few kept (meanDev u.corrValues.2.vals)
  refine ⟨_, congrArg Host.Outcome.next ((syncCorrect_at h).trans eq), meanDev u.corrValues.2.vals,
    roundHalfEven (meanDev u.corrValues.2.vals) 256, meanDev_selected values, roundHalfEven_halfEven _ (by decide), dev,
    gt, corrected, applyCorrection_far few kept, fun near => ?_⟩
  obtain ⟨rounds, ptp, slews, state⟩ := applyCorrection_near few kept near
  refine ⟨rounds, ptp, fun src => ?_, state⟩
  obtain ⟨total, cycle, rest, trim⟩ := slews src
  rw [two_pow_24]
  refine ⟨total, cycle, rest, _, roundHalfEven_halfEven _ (by decide), ?_⟩
  rw [trim, toInt_newTrim, newTrim_clamp]

/-- Settles O21. -/
theorem timeCommands : Obligations.TimeCommands := by
  unfold Obligations.TimeCommands
  refine ⟨fun s up => ⟨readReg_timNowLo s, ?_⟩, fun v s up => ?_, fun s up lost => ?_, fun s up kept => ?_,
    fun w s up due hw => ?_, fun s up due => ?_, fun i e u s h lost => syncCorrect_unsync h lost,
    fun i e u s h kept none => syncCorrect_none h kept none, fun i e u s h kept some => syncCorrect_some h kept some⟩
  · exact congrArg Host.Outcome.next (if_pos up)
  · exact ⟨_, congrArg Host.Outcome.next (if_pos up), State.reg_setReg_self, rfl, rfl, rfl⟩
  · refine ⟨s.modTime fun t => { t with stepPend := some (BitVec.ofNat 64
      ((s.reg Reg.timStepLo).toNat + (s.reg Reg.timStepHi).toNat * 2 ^ 32)) }, congrArg Host.Outcome.next ?_, rfl, rfl⟩
    unfold timStepCmd
    rw [up, if_neg (by decide), if_neg (by decide), if_neg (not_not.mpr lost)]
  · refine congrArg Host.Outcome.next ?_
    unfold timStepCmd
    rw [up, if_neg (by decide), if_neg (by decide), if_pos kept]
  · have boundary : roundBoundary s = w.makeStep := hw ▸ roundBoundary_due up due
    have step : timeStep s = w.makeStep := (timeStep_due up due).trans boundary
    refine ⟨fun v lost pend => ?_, fun x found => ?_, congrArg Host.Outcome.next boundary⟩
    · obtain ⟨gt, state, epoch, stepPend, begun, slots, hold, ply⟩ := makeStep_cmd lost pend
      exact ⟨_, congrArg Host.Outcome.next step, gt, state, epoch, stepPend, begun, slots, hold, ply⟩
    · obtain ⟨gt, state, epoch, stepPend, begun, slots, hold, ply⟩ := makeStep_search found
      exact ⟨_, congrArg Host.Outcome.next step, gt, state, epoch, stepPend, begun, slots, hold, ply⟩
  · have begins : Gives .roundBoundary s ((s.advanceTo s.nextBoundary).endRound).beginRound :=
      congrArg Host.Outcome.next (roundBoundary_begins up due)
    exact ⟨begins, _, begins, beginRound_time _⟩

end Sys2Proof.Machine
end

section
/-! PROOFS. What the work on a board leaves of the board store: the load of a board, a refusal, the result of a command
(R104, R109, R542). -/

namespace Sys2Proof.Machine
variable {s : State}

/-! ### The load of a board -/

theorem over16_boards {f : State → Fin 16 → State} (h : ∀ u n, (f u n).boards = u.boards) :
    (over16 f s).boards = s.boards := foldl_keeps (·.boards) h _ s

theorem setRegion_boards (n k : Nat) (g : Nat × Nat × Nat) : (s.setRegion n k g).boards = s.boards := rfl

theorem deriveRegions_boards (t : Tables) : (s.deriveRegions t).boards = s.boards := by
  unfold State.deriveRegions
  exact over16_boards fun u n => foldl_keeps (·.boards) (fun v k => setRegion_boards n k (t.region n k)) _ u

theorem loadCode_boards (t : Tables) : (s.loadCode t).boards = s.boards :=
  foldl_keeps (·.boards) (fun _ _ => over16_boards fun _ _ => by split <;> rfl) _ s

theorem initStore_boards (t : Tables) (area : Nat) : (s.initStore t area).boards = s.boards := by
  unfold State.initStore
  exact foldl_keeps (·.boards) (fun u (r : LoadRec) => u.writeMem_boards (instBase area + r.dest) r.data) _ _

theorem restoreRetained_boards (t : Tables) (area : Nat) : (s.restoreRetained t area).boards = s.boards := by
  unfold State.restoreRetained
  refine foldl_keeps (·.boards) (fun u k => ?_) _ s
  split
  · extract_lets m
    split
    · exact State.event_boards ..
    · exact State.writeMem_boards ..
  · rfl

theorem fioApply_boards (c : Fin 16) : (s.fioApply c).boards = s.boards := by
  unfold State.fioApply
  extract_lets d s₁ s₂ s₃
  have h₁ : s₁.boards = s.boards := by unfold s₁; split <;> rfl
  have h₂ : s₂.boards = s₁.boards := by unfold s₂; split <;> rfl
  have h₃ : s₃.boards = s.boards := h₂.trans h₁
  split <;> exact h₃

theorem fioTurned_boards (c : Fin 16) (now : Bool) : (s.fioTurned c now).boards = s.boards := by
  unfold State.fioTurned
  extract_lets change s₁ s₂ s₃
  have h₁ : s₁.boards = s.boards := by unfold s₁; split <;> rfl
  exact (fioApply_boards c).trans h₁

theorem fioDirections_boards : s.fioDirections.boards = s.boards := over16_boards fun u c => by
  extract_lets m was now u₁
  split
  · rfl
  · exact fioTurned_boards ..

/-- A board that is installed is the active one; the areas and the standby board stay (R104). -/
theorem installBoard_boards (raw : Bytes) : (s.installBoard raw).boards
    = { s.boards with act := some (parseBoard raw), active := .loaded, loadDue := false } := by
  unfold State.installBoard
  extract_lets t b s₁ s₂ s₃ s₄ s₅ s₆
  have written : s₃.boards = s₁.boards := rfl
  have regions : s₅.boards = s₁.boards := by
    rw [← written, deriveRegions_boards, restoreRetained_boards, initStore_boards, loadCode_boards]
  have directions : s₆.boards = s₅.boards := by
    unfold s₆
    split
    · exact fioDirections_boards
    · rfl
  exact directions.trans regions

/-! ### A refusal, a result -/

variable {code info : Nat}

@[simp] theorem boardResult_boards : (s.boardResult code info).boards = s.boards := State.raise_boards ..
@[simp] theorem boardResult_mem : (s.boardResult code info).mem = s.mem := State.raise_mem ..

/-- The result of a command stands in CODE (R542). -/
theorem boardResult_code : (s.boardResult code info).fld Reg.brdResult 15 0 = code % 2 ^ 16 := by
  unfold State.boardResult
  rw [fld_raise_ne (by decide), State.incWrap, State.fld_setFld_disjoint (by decide) (by decide),
    State.fld_setReg_ne (by decide), State.fld_setFld_self]

@[simp] theorem boardRefused_boards : (s.boardRefused code info).boards = s.boards := by simp [State.boardRefused]
@[simp] theorem boardRefused_mem : (s.boardRefused code info).mem = s.mem := by simp [State.boardRefused]

theorem reg_boardRefused_brdInfo : (s.boardRefused code info).reg Reg.brdInfo = BitVec.ofNat 32 info := by
  unfold State.boardRefused
  rw [State.incSat, State.reg_setFld_ne (by decide), State.reg_raise_ne (by decide), State.reg_setReg_self]

theorem reg_boardRefused_brdResult : (s.boardRefused code info).reg Reg.brdResult = s.reg Reg.brdResult := by
  unfold State.boardRefused
  rw [State.incSat, State.reg_setFld_ne (by decide), State.reg_raise_ne (by decide), State.reg_setReg_ne (by decide),
    State.reg_logErr_ne (by decide) (by decide)]

end Sys2Proof.Machine
end

section
/-! PROOFS. The statement of 03_boards.md about the board commands: how each starts, is refused and ends, and the load at
reset (O33). -/

namespace Sys2Proof.Machine
variable {s : State} {op : BrdOp} {allowed r w : Bool}

/-! ### A command is written (R105, R542) -/

theorem boardCmd_runs (up : s.domainUp 2 = true) (idle : s.boards.running = none) (may : allowed = true) :
    s.boardCmd op allowed = s.boardRuns op := by
  rw [State.boardCmd, up, idle, may]
  rfl

theorem boardCmd_refused (up : s.domainUp 2 = true) (idle : s.boards.running = none) (may : allowed = false) :
    s.boardCmd op allowed = (s.refuse Reg.brdCmd).boardResult 0x0005 0x040 := by
  rw [State.boardCmd, up, idle, may]
  rfl

theorem boardCmd_busy {other : BrdOp} (up : s.domainUp 2 = true) (busy : s.boards.running = some other) :
    s.boardCmd op allowed = s.refuse Reg.brdCmd := by
  rw [State.boardCmd, up, busy]
  rfl

/-- A STORE whose flash write does not begin is a command like any other. -/
theorem brdCmdStore_unwritten (h : s.boards.running = none → s.boards.standby ≠ .armed → s.stagedCheck.isSome = true) :
    brdCmdStore s = s.boardCmd .store (s.boards.standby != .armed) := by
  refine if_neg fun begins => ?_
  obtain ⟨⟨idle, unarmed⟩, passes⟩ : (s.boards.running = none ∧ s.boards.standby ≠ .armed) ∧ s.stagedCheck = none := by
    simpa using begins
  simpa [passes] using h idle unarmed

/-- A STORE of a board that passes: its flash write begins, and the standby area is EMPTY (R105). -/
theorem brdCmdStore_writes (up : s.domainUp 2 = true) (idle : s.boards.running = none)
    (unarmed : s.boards.standby ≠ .armed) (passes : s.stagedCheck = none) :
    brdCmdStore s = { s.boardRuns .store with boards := { (s.boardRuns .store).boards with
      writing := s.stagedBoard, standbyArea := [], standby := .empty, stb := none } } := by
  have runs : s.boardCmd .store (s.boards.standby != .armed) = s.boardRuns .store :=
    boardCmd_runs up idle (by simpa using unarmed)
  rw [brdCmdStore, runs, passes, idle]
  exact if_pos (by simpa using unarmed)

theorem does_boardRuns {c : Instr} (h : exec c s = .next (s.boardRuns op)) : Does c s fun t =>
    t = s.boardRuns op ∧ t.boards.running = some op ∧ t.boards.writing = [] ∧ t.boards.standby = s.boards.standby
      ∧ t.regs = s.regs := ⟨_, h, rfl, rfl, rfl, rfl, rfl⟩

theorem brdCmdArm_refused (up : s.domainUp 2 = true) (idle : s.boards.running = none)
    (h : s.boards.standby ≠ .stored ∨ s.migr.isSome = true ∨ s.essentialFailed = true) :
    Gives .brdCmdArm s ((s.refuse Reg.brdCmd).boardResult 0x0005 0x040) := by
  refine congrArg Host.Outcome.next (boardCmd_refused up idle ?_)
  rcases h with unstored | migrates | failed
  · simp [unstored]
  · simp [Option.isNone_eq_false_iff.mpr migrates]
  · simp [failed]

theorem brdCmdActivate_refused (up : s.domainUp 2 = true) (idle : s.boards.running = none)
    (h : s.state ≠ .boot ∨ s.boards.standby ≠ .stored ∨ s.essentialFailed = true) :
    Gives .brdCmdActivate s ((s.refuse Reg.brdCmd).boardResult 0x0005 0x040) := by
  refine congrArg Host.Outcome.next (boardCmd_refused up idle ?_)
  rcases h with outside | unstored | failed
  · simp [outside]
  · simp [unstored]
  · simp [failed]

/-- While a command runs every other is refused (R542). -/
theorem boardCommand_busy {c : Instr} (up : s.domainUp 2 = true) (busy : s.boards.running = some op)
    (h : c ∈ [Instr.brdCmdVerify, .brdCmdStore, .brdCmdArm, .brdCmdDisarm, .brdCmdDiscard, .brdCmdActivate]) :
    Gives c s (s.refuse Reg.brdCmd) := by
  have refused {o : BrdOp} {a : Bool} : s.boardCmd o a = s.refuse Reg.brdCmd := boardCmd_busy up busy
  have store : brdCmdStore s = s.refuse Reg.brdCmd :=
    (brdCmdStore_unwritten fun idle => by simp [busy] at idle).trans refused
  simp only [List.mem_cons, List.not_mem_nil, or_false] at h
  rcases h with rfl | rfl | rfl | rfl | rfl | rfl
  case inr.inl => exact congrArg Host.Outcome.next store
  all_goals exact congrArg Host.Outcome.next refused

/-! ### A command completes (R103, R542) -/

/-- What the command `op` does as it completes, from the state of an idle board engine. -/
def State.boardEnds (s : State) (readErr writeErr : Bool) : BrdOp → State
  | .verify => (s.finishCheck s.stagedCheck id).endBoardClaim
  | .store => (s.storeDone writeErr).endBoardClaim
  | .arm => s.finishCheck (s.commandCheck s.boards.standbyArea s.boards.standbyArea.length true readErr) State.armBoard
  | .disarm => { s with boards := { s.boards with standby := .stored, stb := none } }.boardResult 0 0
  | .discard =>
    let t := if writeErr then s.raise pBRD 3 else s
    { t with boards := { t.boards with standbyArea := [], standby := .empty, stb := none } }.boardResult 0 0
  | .activate =>
    s.finishCheck (s.commandCheck s.boards.standbyArea s.boards.standbyArea.length false readErr) State.activateBoard

theorem brdCmdDone_ends (running : s.boards.running = some op) (sound : s.wedged.contains pBRD = false) :
    Gives (.brdCmdDone r w) s (s.boardIdle.boardEnds r w op) := by
  refine congrArg Host.Outcome.next ?_
  rw [brdCmdDone, running, sound]
  cases op <;> rfl

theorem brdCmdDone_wedged (running : s.boards.running = some op) (wedged : s.wedged.contains pBRD = true) :
    Gives (.brdCmdDone r w) s s := by
  refine congrArg Host.Outcome.next ?_
  rw [brdCmdDone, running]
  exact if_pos wedged

theorem storeDone_refused {f : Nat × Nat} (unwritten : s.boards.writing = []) (fails : s.stagedCheck = some f) :
    s.storeDone w = s.finishCheck (some f) id := by
  rw [State.storeDone, unwritten, fails]

theorem brdCmdDone_store_refused {f : Nat × Nat} (running : s.boards.running = some .store)
    (sound : s.wedged.contains pBRD = false) (unwritten : s.boards.writing = [])
    (fails : s.boardIdle.stagedCheck = some f) :
    Gives (.brdCmdDone r w) s (s.boardIdle.finishCheck (some f) id).endBoardClaim :=
  storeDone_refused (s := s.boardIdle) (w := w) unwritten fails ▸ brdCmdDone_ends running sound

/-- The bytes that a STORE leaves in the standby area: those whose write has begun, or else the staged board. -/
def State.storedBytes (s : State) : Bytes := if s.boards.writing.isEmpty then s.stagedBoard else s.boards.writing

theorem storedBytes_begun {b : Bytes} (given : b ≠ []) (begun : s.boards.writing = b) : s.storedBytes = b := by
  rw [State.storedBytes, begun]
  exact if_neg (by simpa using given)

theorem storedBytes_staged (unwritten : s.boards.writing = []) : s.storedBytes = s.stagedBoard := by
  rw [State.storedBytes, unwritten]
  rfl

theorem storeDone_written (h : s.boards.writing = [] → s.stagedCheck = none) : s.storeDone w
    = if w then (s.storeBoard s.storedBytes w).takeFree.boardResult (Config.boardWriteCode s.free).toNat 0
      else (s.storeBoard s.storedBytes w).boardResult 0 0 := by
  unfold State.storeDone
  split
  case h_1 f unwritten fails => simp [h unwritten] at fails
  case h_2 => rfl

/-- A STORE that no check refuses ends with the board STORED, or EMPTY when the flash write fails (R105). -/
theorem brdCmdDone_store (running : s.boards.running = some .store) (sound : s.wedged.contains pBRD = false)
    (h : s.boards.writing = [] → s.boardIdle.stagedCheck = none) {b : Bytes} (stores : s.storedBytes = b) :
    (Does (.brdCmdDone r false) s fun t => t.boards.standby = .stored ∧ t.boards.standbyArea = b
        ∧ t.fld Reg.brdResult 15 0 = 0 ∧ t.boards.running = none)
      ∧ Does (.brdCmdDone r true) s fun t => t.boards.standby = .empty ∧ t.boards.standbyArea = []
        ∧ t.boards.running = none := by
  subst stores
  have ends (w : Bool) : Gives (.brdCmdDone r w) s (s.boardIdle.storeDone w).endBoardClaim :=
    brdCmdDone_ends running sound
  simp only [storeDone_written (s := s.boardIdle) h] at ends
  refine ⟨⟨_, ends false, ?_⟩, _, ends true, ?_⟩
  · have code := boardResult_code (s := s.boardIdle.storeBoard s.storedBytes false) (code := 0) (info := 0)
    have boards := boardResult_boards (s := s.boardIdle.storeBoard s.storedBytes false) (code := 0) (info := 0)
    exact ⟨congrArg (·.standby) boards, congrArg (·.standbyArea) boards, code, congrArg (·.running) boards⟩
  · simp [State.endBoardClaim, State.storeBoard, State.boardIdle]

theorem brdCmdDone_disarm (running : s.boards.running = some .disarm) (sound : s.wedged.contains pBRD = false) :
    Does (.brdCmdDone r w) s fun t => t.boards.standby = .stored ∧ t.boards.stb = none
      ∧ t.boards.standbyArea = s.boards.standbyArea ∧ t.fld Reg.brdResult 15 0 = 0 ∧ t.mem = s.mem := by
  refine ⟨_, brdCmdDone_ends running sound, ?_⟩
  simp [State.boardEnds, State.boardIdle, boardResult_code]

theorem brdCmdDone_discard (running : s.boards.running = some .discard) (sound : s.wedged.contains pBRD = false) :
    Does (.brdCmdDone r w) s fun t => t.boards.standby = .empty ∧ t.boards.standbyArea = []
      ∧ t.fld Reg.brdResult 15 0 = 0 ∧ t.mem = s.mem := by
  refine ⟨_, brdCmdDone_ends running sound, ?_⟩
  cases w <;> simp [State.boardEnds, State.boardIdle, boardResult_code]

/-! ### The load at reset (R104, R399) -/

/-- No board is active, and the load that follows a reset has been made. -/
def State.boardGone (s : State) : State :=
  { s with boards := { s.boards with act := none, active := .none, loadDue := false } }

/-- The loader makes the load that follows a reset. -/
structure LoadBegins (s : State) : Prop where
  boot : s.state = .boot
  up : s.domainUp 1 = true ∧ s.domainUp 2 = true
  sound : s.essentialFailed = false
  due : s.boards.loadDue = true
  idle : s.boards.running = none

theorem boardLoadAtReset_due (h : LoadBegins s) : boardLoadAtReset r s
    = if s.boards.activeArea.isEmpty then s.boardGone
      else (s.commandCheck s.boards.activeArea s.boards.activeArea.length false r).elim
        (s.installBoard s.boards.activeArea) fun f => s.boardGone.takeFree.boardRefused f.1 f.2 := by
  unfold boardLoadAtReset
  rw [if_neg (by simp [h.boot, h.up, h.sound, h.due, h.idle])]
  dsimp only
  cases s.commandCheck s.boards.activeArea s.boards.activeArea.length false r <;> rfl

section
variable (begins : LoadBegins s)
include begins

theorem boardLoadAtReset_empty (empty : s.boards.activeArea = []) : Does (.boardLoadAtReset r) s fun t =>
    t.boards.active = .none ∧ t.boards.act = none ∧ t.boards.loadDue = false ∧ t.regs = s.regs := by
  have gone : boardLoadAtReset r s = s.boardGone := by
    rw [boardLoadAtReset_due begins, empty, List.isEmpty_nil, if_pos rfl]
  exact ⟨_, congrArg Host.Outcome.next gone, rfl, rfl, rfl, rfl⟩

variable (given : s.boards.activeArea ≠ [])
include given

theorem boardLoadAtReset_passes
    (passes : s.commandCheck s.boards.activeArea s.boards.activeArea.length false r = none) :
    Gives (.boardLoadAtReset r) s (s.installBoard s.boards.activeArea) ∧ Does (.boardLoadAtReset r) s fun t =>
      t.boards.active = .loaded ∧ t.boards.act = some (parseBoard s.boards.activeArea)
        ∧ t.boards.activeArea = s.boards.activeArea ∧ t.boards.loadDue = false := by
  have loads : Gives (.boardLoadAtReset r) s (s.installBoard s.boards.activeArea) := by
    refine congrArg Host.Outcome.next ((boardLoadAtReset_due begins).trans ?_)
    rw [if_neg (by simpa using given), passes, Option.elim_none]
  have boards := installBoard_boards (s := s) s.boards.activeArea
  exact ⟨loads, _, loads, congrArg (·.active) boards, congrArg (·.act) boards, congrArg (·.activeArea) boards,
    congrArg (·.loadDue) boards⟩

theorem boardLoadAtReset_fails {f : Nat × Nat}
    (fails : s.commandCheck s.boards.activeArea s.boards.activeArea.length false r = some f) :
    Does (.boardLoadAtReset r) s fun t => t.boards.active = .none ∧ t.boards.act = none ∧ t.boards.loadDue = false
      ∧ t.reg Reg.brdInfo = BitVec.ofNat 32 f.2 ∧ t.reg Reg.brdResult = s.reg Reg.brdResult ∧ t.mem = s.mem := by
  have refused : boardLoadAtReset r s = s.boardGone.takeFree.boardRefused f.1 f.2 := by
    rw [boardLoadAtReset_due begins, if_neg (by simpa using given), fails, Option.elim_some]
  have boards := boardRefused_boards (s := s.boardGone.takeFree) (code := f.1) (info := f.2)
  exact ⟨_, congrArg Host.Outcome.next refused, congrArg (·.active) boards, congrArg (·.act) boards,
    congrArg (·.loadDue) boards, reg_boardRefused_brdInfo, reg_boardRefused_brdResult, boardRefused_mem⟩

end

/-! ### The statement -/

/-- Settles O33: a command falls in one case of `boardCmd` as it is written and in one of `boardEnds` as it completes; the
load at reset goes by `boardLoadAtReset_due`. -/
theorem boardCommands : Obligations.BoardCommands := by
  unfold Obligations.BoardCommands
  refine ⟨
    -- a command that may start
    fun s up idle => does_boardRuns (congrArg Host.Outcome.next (boardCmd_runs up idle rfl)),
    fun s up idle unarmed fails => does_boardRuns (congrArg Host.Outcome.next
      ((brdCmdStore_unwritten fun _ _ => fails).trans (boardCmd_runs up idle (by simpa using unarmed)))),
    fun s up idle stored noMigr sound => does_boardRuns (congrArg Host.Outcome.next
      (boardCmd_runs up idle (by simp [stored, noMigr, sound]))),
    fun s up idle armed => does_boardRuns (congrArg Host.Outcome.next (boardCmd_runs up idle (by simp [armed]))),
    fun s up idle stored => does_boardRuns (congrArg Host.Outcome.next (boardCmd_runs up idle (by simp [stored]))),
    fun s up idle boot stored sound => does_boardRuns (congrArg Host.Outcome.next
      (boardCmd_runs up idle (by simp [boot, stored, sound]))),
    fun s up idle unarmed passes =>
      ⟨_, congrArg Host.Outcome.next (brdCmdStore_writes up idle unarmed passes), rfl, rfl, rfl, rfl, rfl, rfl, rfl⟩,
    -- a command that may not
    fun s up idle armed => congrArg Host.Outcome.next
      ((brdCmdStore_unwritten fun _ unarmed => absurd armed unarmed).trans (boardCmd_refused up idle (by simp [armed]))),
    fun s up idle h => brdCmdArm_refused up idle h,
    fun s up idle unarmed => congrArg Host.Outcome.next (boardCmd_refused up idle (by simpa using unarmed)),
    fun s up idle unstored => congrArg Host.Outcome.next (boardCmd_refused up idle (by simpa using unstored)),
    fun s up idle h => brdCmdActivate_refused up idle h,
    fun op c s up busy h => boardCommand_busy up busy h,
    -- a command that completes
    fun r w s running sound => brdCmdDone_ends running sound,
    fun r w f s running sound unwritten fails => brdCmdDone_store_refused running sound unwritten fails,
    fun r b s running sound given begun =>
      brdCmdDone_store running sound (fun unwritten => absurd (begun.symm.trans unwritten) given)
        (storedBytes_begun given begun),
    fun r s running sound unwritten passes =>
      brdCmdDone_store running sound (fun _ => passes) (storedBytes_staged unwritten),
    fun r w s running sound => brdCmdDone_ends running sound,
    fun r w s running sound => brdCmdDone_ends running sound,
    fun r w s running sound => brdCmdDone_disarm running sound,
    fun r w s running sound => brdCmdDone_discard running sound,
    fun op r w s running wedged => brdCmdDone_wedged running wedged,
    -- the load at reset
    fun r s boot up sound due given idle passes => boardLoadAtReset_passes ⟨boot, up, sound, due, idle⟩ given passes,
    fun r f s boot up sound due given idle fails => boardLoadAtReset_fails ⟨boot, up, sound, due, idle⟩ given fails,
    fun r s boot up sound due empty idle => boardLoadAtReset_empty ⟨boot, up, sound, due, idle⟩ empty⟩

end Sys2Proof.Machine
end

section
/-! PROOFS. What the work of lanes, of plies and of gambit contexts has no part in: memory, the boards, the state of the
sequencer. -/

namespace Sys2Proof.Machine

/-- What the work of lanes, of plies and of gambit contexts has no part in: `g` is the same whatever becomes of the
registers, the lanes, the contexts, the tasks, the pair, the records and all of the sequencer but its state. -/
structure Beside {α : Type} (g : State → α) : Prop where
  reg : ∀ s k v, g (State.setReg s k v) = g s
  lane : ∀ s n f, g (State.modLane s n f) = g s
  ctx : ∀ s k f, g (State.modCtx s k f) = g s
  task : ∀ s k f, g (State.modTask s k f) = g s
  pair : ∀ s p, g { s with pair := p } = g s
  seqr : ∀ s q, q.state = s.seqr.state → g { s with seqr := q } = g s
  event : ∀ s ty src pr b, g (State.event s ty src pr b) = g s

theorem beside_mem : Beside State.mem :=
  ⟨fun _ _ _ => rfl, fun _ _ _ => rfl, fun _ _ _ => rfl, fun _ _ _ => rfl, fun _ _ => rfl, fun _ _ _ => rfl,
    fun _ _ _ _ _ => rfl⟩

theorem beside_boards : Beside State.boards :=
  ⟨fun _ _ _ => rfl, fun _ _ _ => rfl, fun _ _ _ => rfl, fun _ _ _ => rfl, fun _ _ => rfl, fun _ _ _ => rfl,
    fun _ _ _ _ _ => rfl⟩

theorem beside_seqrState : Beside fun s => s.seqr.state :=
  ⟨fun _ _ _ => rfl, fun _ _ _ => rfl, fun _ _ _ => rfl, fun _ _ _ => rfl, fun _ _ => rfl, fun _ _ h => h,
    fun _ _ _ _ _ => rfl⟩

namespace Beside
variable {α : Type} {g : State → α} {s : State} {n : Fin 16}

theorem raise (h : Beside g) (p b : Nat) : g (s.raise p b) = g s := by
  unfold State.raise
  split
  · exact h.reg ..
  · rfl

theorem peak (h : Beside g) (k hi lo v : Nat) : g (s.peak k hi lo v) = g s := by
  unfold State.peak
  split
  · exact h.reg ..
  · rfl

/-! ### Lanes (R193, R209) -/

theorem spoil (h : Beside g) (k : Fin 16) (cause lane : Nat) : g (s.spoil k cause lane) = g s := by
  unfold State.spoil
  dsimp only
  split
  · rfl
  · split
    · exact (h.raise ..).trans (h.ctx ..)
    · split
      · exact h.ctx ..
      · rfl

theorem setLane (h : Beside g) (st : LaneState) : g (s.setLane n st) = g s := by
  unfold State.setLane
  split
  · rfl
  · extract_lets was t₁ out t₂ m seqr t₃ t₄ t₅ t₆
    have h₁ : g t₁ = g s := by
      unfold t₁
      split
      · split
        · exact h.spoil ..
        · rfl
      · rfl
    have h₃ : g t₃ = g s := (h.seqr t₂ t₃.seqr rfl).trans ((h.lane ..).trans h₁)
    have h₅ : g t₅ = g s := (h.event ..).trans ((h.raise ..).trans h₃)
    split
    · exact (h.raise ..).trans ((h.reg ..).trans h₅)
    · exact h₅

theorem settleLane (h : Beside g) : g (s.settleLane n) = g s := by
  unfold State.settleLane
  dsimp only
  split
  · exact h.setLane _
  · rfl

/-! ### The end of a ply (R120, R122, R148) -/

theorem plyOutcome (h : Beside g) (outcome : Nat) : g (s.plyOutcome n outcome) = g s := (h.lane ..).trans (h.reg ..)

theorem plyUse (h : Beside g) : g (s.plyUse n) = g s := by
  unfold State.plyUse
  exact (h.lane ..).trans ((h.peak ..).trans (h.reg ..))

theorem endOfPly (h : Beside g) (outcome : Nat) : g (s.endOfPly n outcome) = g s :=
  (h.plyOutcome outcome).trans h.plyUse

theorem clearPly (h : Beside g) : g (s.clearPly n) = g s := h.settleLane.trans ((h.lane ..).trans (h.reg ..))

theorem lateOutcome (h : Beside g) (p : Ply) : g (s.lateOutcome n p) = g s := by
  unfold State.lateOutcome
  split
  · rfl
  · exact h.plyOutcome 2
  · exact h.endOfPly 2

theorem countLate (h : Beside g) (p : Ply) : g (s.countLate n p) = g s := by
  unfold State.countLate
  extract_lets e t₁ t₂ log seqr pair t₃ t₄
  have h₂ : g t₂ = g s := (h.raise ..).trans ((h.reg ..).trans ((h.reg ..).trans (h.lateOutcome p)))
  have h₃ : g t₃ = g s := (h.pair { t₂ with seqr := t₃.seqr } t₃.pair).trans ((h.seqr t₂ t₃.seqr rfl).trans h₂)
  have h₄ : g t₄ = g s := by
    unfold t₄
    split
    · exact (h.task ..).trans h₃
    · exact h₃
  split
  · exact (h.spoil ..).trans h₄
  · exact h₄

theorem abortPly (h : Beside g) : g (s.abortPly n) = g s := by
  unfold State.abortPly
  split
  · rfl
  · rename_i p _
    extract_lets t
    have counted : g t = g s := by
      unfold t
      split
      · rfl
      · exact h.countLate p
    exact (h.lane ..).trans (h.clearPly.trans counted)

theorem trapSeen (h : Beside g) : g (s.trapSeen n) = g s := by
  unfold State.trapSeen
  split
  · rfl
  · extract_lets e t₁ t₂
    have h₁ : g t₁ = g s := by
      unfold t₁
      split
      · exact h.task ..
      · rfl
    have h₂ : g t₂ = g s := by
      unfold t₂
      split
      · exact (h.spoil ..).trans h₁
      · exact h₁
    exact (h.lane ..).trans ((h.plyOutcome 3).trans h₂)

end Beside

end Sys2Proof.Machine
end

section
/-! PROOFS. The statement of 04_sequencer.md about the sequencer's states, the walk of the coming round and the watchdog
(O22). -/

namespace Sys2Proof.Machine
variable {s : State} {n : Fin 16}

theorem over16_keeps {β : Type} (g : State → β) {f : State → Fin 16 → State} (h : ∀ u n, g (f u n) = g u) (s : State) :
    g (over16 f s) = g s := foldl_keeps g h _ s

/-! ### Entering RUN and OFF (R112, R113, R193) -/

theorem laneRun_course (n : Fin 16) : (s.laneRun n).boards = s.boards ∧ (s.laneRun n).seqr.state = s.seqr.state := by
  have boards : (s.setLane n .running).boards = s.boards := beside_boards.setLane _
  have state : (s.setLane n .running).seqr.state = s.seqr.state := beside_seqrState.setLane _
  unfold State.laneRun
  dsimp only
  split <;> exact ⟨boards, state⟩

theorem roundIrqs_course : s.roundIrqs.boards = s.boards ∧ s.roundIrqs.seqr = s.seqr := by
  unfold State.roundIrqs
  dsimp only
  split <;> simp

/-- The sequencer enters RUN: lane `n` becomes RUNNING if it is IDLE and waits for no test (R112, R193). -/
def State.takeUp (s : State) (n : Fin 16) : State :=
  if s.lanes[n].state = .idle ∧ s.lanes[n].test = .none then s.laneRun n else s

theorem takeUp_course (n : Fin 16) : (s.takeUp n).boards = s.boards ∧ (s.takeUp n).seqr.state = s.seqr.state := by
  unfold State.takeUp
  split
  · exact laneRun_course n
  · exact ⟨rfl, rfl⟩

/-- In RUN the active board is RUNNING. -/
theorem enterRun_running (s : State) : s.enterRun.seqr.state = .run ∧ s.enterRun.boards.active = .running := by
  unfold State.enterRun
  extract_lets boards t₁ t₂ t₃ t₄
  have lanes : t₃ = over16 State.takeUp t₂ := rfl
  have eBoards : t₃.boards = t₂.boards := lanes ▸ over16_keeps State.boards (fun _ n => (takeUp_course n).1) t₂
  have eState : t₃.seqr.state = t₂.seqr.state := by
    rw [lanes]
    exact over16_keeps (f := State.takeUp) (fun u => u.seqr.state) (fun _ n => (takeUp_course n).2) t₂
  clear_value t₃
  have run : t₄.seqr.state = .run := eState
  have running : t₄.boards.active = .running := by
    unfold t₄ State.kick
    rw [State.modSeqr_boards, eBoards]
    rfl
  split
  · obtain ⟨boards, seqr⟩ := roundIrqs_course (s := t₄)
    exact ⟨(congrArg Seqr.state seqr).trans run, (congrArg Boards.active boards).trans running⟩
  · exact ⟨run, running⟩

theorem enterOff_off (s : State) : s.enterOff.seqr.state = .off := by
  unfold State.enterOff
  extract_lets t₁ t₂ boards t₃ t₄ t₅
  exact over16_keeps (fun u => u.seqr.state) (fun u n => beside_seqrState.settleLane) t₅

/-! ### The walk of the coming round (R114, R118) -/

theorem toPip_roundRsn (p : Nat) : (s.toPip p).roundRsn = s.roundRsn := by
  obtain ⟨gt, c, moved⟩ := advanceTo_time (s := s) (s.time.roundStart + BitVec.ofNat 64 (p * 50))
  rw [State.roundRsn, State.toPip, moved]
  rfl

theorem fld_toPip {k hi lo : Nat} (p : Nat) (h : k ≠ Reg.pgIrq pTIM) : (s.toPip p).fld k hi lo = s.fld k hi lo :=
  fld_advanceTo _ h

/-- The walkers stand at pip 4,936, and the corrected entries are counted (R114, R118). -/
def State.walksAt (s : State) (k : Nat) : State :=
  (s.toPip 4936).setFld Reg.bsqEcc 15 0 (min 0xFFFF ((s.toPip 4936).fld Reg.bsqEcc 15 0 + k))

/-- The walk of the next round is in the buffers (R114). -/
def State.walked (s : State) : State := s.modSeqr fun q => { q with walkNext := some (s.walkOf (s.roundRsn + 1)) }

theorem track_of_boards {t : State} (h : t.boards = s.boards) (k : Track) : t.track k = s.track k := by
  unfold State.track
  rw [h]

theorem walksAt_track (k : Nat) (tr : Track) : (s.walksAt k).track tr = s.track tr :=
  track_of_boards ((State.setFld_boards ..).trans (State.toPip_boards ..)) tr

theorem roundRsn_of_time {t : State} (h : t.time = s.time) : t.roundRsn = s.roundRsn :=
  congrArg (fun tb : TimeBase => tb.rsnAt tb.roundStart) h

theorem walksAt_roundRsn (k : Nat) : (s.walksAt k).roundRsn = s.roundRsn :=
  (roundRsn_of_time (State.setFld_time ..)).trans (toPip_roundRsn 4936)

theorem walked_rsn : (s.walked.seqr.walkNext.map fun w => w.rsn) = some (s.roundRsn + 1) := rfl

theorem fld_walksAt (k : Nat) : (s.walksAt k).fld Reg.bsqEcc 15 0 = min 0xFFFF (s.fld Reg.bsqEcc 15 0 + k) := by
  unfold State.walksAt
  rw [State.fld_setFld_self, fld_toPip _ (by decide)]
  exact Nat.mod_eq_of_lt (by omega)

section
variable (run : s.seqr.state = .run) (free : s.time.hold = none) (begun : s.time.begun = true)
  (first : s.seqr.walkNext = none)
include run free begun first

/-- The walk begins in RUN, once a round. -/
theorem walk_begins : ¬ (s.seqr.state ≠ .run ∨ s.time.hold.isSome = true ∨ (!s.time.begun) = true
    ∨ s.seqr.walkNext.isSome = true) := by simp [run, free, begun, first]

theorem trackWalkBegin_sound (k : Nat) : trackWalkBegin k none s = (s.walksAt k).walked :=
  if_neg (walk_begins run free begun first)

theorem trackWalkBegin_bad (k : Nat) {tr : Fin 4} {i : Nat} (h : i < (s.track (trackOf tr)).length) :
    trackWalkBegin k (some (tr, i)) s = (s.walksAt k).tableError (trackOf tr) i := by
  rw [← walksAt_track k] at h
  exact (if_neg (walk_begins run free begun first)).trans (if_pos h)

end

/-! ### The watchdog (R140) -/

theorem seqWatchdogExpiry_requests (up : s.domainUp 0 = true) (runs : s.seqr.state = .run ∨ s.seqr.state = .fault) :
    seqWatchdogExpiry s
      = (s.waitOp (s.seqr.kick + max 1 (s.fld Reg.bsqCtrl 7 0) * roundNs)).assertSource 6 1 false := by
  unfold seqWatchdogExpiry
  rcases runs with runs | runs <;> simp [up, runs]

/-! ### The statement -/

/-- Settles O22. -/
theorem sequencer : Obligations.Sequencer := by
  unfold Obligations.Sequencer
  refine ⟨fun s up off loaded => ?_, fun s up h => ?_, fun s up where_ on => ?_, fun s up h => ?_, fun s wait edge => ?_,
    fun s pend h => ?_, fun k s run free begun first => ?_, fun k tr i s run free begun first h => ?_, fun s up runs => ?_⟩
  · have start : bsqStart s = { s with seqr := { s.seqr with state := .wait, cmdAt := s.now } } := by
      simp [bsqStart, State.seqStart, up, off, loaded]
    exact ⟨_, congrArg Host.Outcome.next start, rfl, rfl, rfl⟩
  · have refused : bsqStart s = s.refuse Reg.bsqCmd := by simp [bsqStart, up, h]
    exact congrArg Host.Outcome.next refused
  · have stop : bsqStop s = { s with seqr := { s.seqr with stopPend := true, cmdAt := s.now } } := by
      simp [bsqStop, State.seqStop, up, where_, on]
    exact ⟨_, congrArg Host.Outcome.next stop, rfl, rfl, rfl⟩
  · have refused : bsqStop s = s.refuse Reg.bsqCmd := by
      rcases h with h | h | h | h <;> simp [bsqStop, up, h]
    exact congrArg Host.Outcome.next refused
  · have run : seqEnterRun s = s.nextAfterCmd.enterRun := by simp [seqEnterRun, wait, edge]
    exact ⟨_, congrArg Host.Outcome.next run, rfl, enterRun_running _⟩
  · have off : seqStopTakesEffect s = s.nextAfterCmd.enterOff := if_pos ⟨pend, h⟩
    have gives : Gives .seqStopTakesEffect s _ := congrArg Host.Outcome.next off
    exact ⟨gives, _, gives, enterOff_off _⟩
  · have walks : trackWalkBegin k none s = (s.walksAt k).walked := trackWalkBegin_sound run free begun first k
    refine ⟨_, congrArg Host.Outcome.next walks, ?_, ?_⟩
    · rw [walked_rsn, walksAt_roundRsn]
    · rw [State.walked, State.modSeqr_fld, fld_walksAt]
  · exact congrArg Host.Outcome.next (trackWalkBegin_bad run free begun first k h)
  · have gives : Gives .seqWatchdogExpiry s _ := congrArg Host.Outcome.next (seqWatchdogExpiry_requests up runs)
    have asserted := assertSource_asserted
      (s := s.waitOp (s.seqr.kick + max 1 (s.fld Reg.bsqCtrl 7 0) * roundNs)) (b := 6) 1 false (by decide)
    exact ⟨gives, _, gives, asserted.running, asserted.source⟩

end Sys2Proof.Machine
end

section
/-! PROOFS. The statement of 04_sequencer.md about the end of a ply and its dispatch (O23). -/

namespace Sys2Proof.Machine
variable {s : State} {n m : Fin 16} {p : Ply} {i : Nat} {e : Entry}

/-! ### What is left on the lane (R120, R122, R148) -/

/-- A lane that changes its state keeps what neither its state nor its count of rolls has a part in. -/
theorem setLane_lane_self {β : Type} (g : Lane → β) (hg : ∀ l st r, g { l with state := st, rolls := r } = g l)
    (st : LaneState) : g (s.setLane n st).lanes[n] = g s.lanes[n] := by
  unfold State.setLane
  split
  · rfl
  · extract_lets was t₁ out t₂ m seqr t₃ t₄ t₅ t₆
    have h₁ : t₁.lanes = s.lanes := by
      unfold t₁
      split
      · split
        · exact spoil_lanes ..
        · rfl
      · rfl
    have h₂ : g t₂.lanes[n] = g s.lanes[n] := by
      unfold t₂
      rw [modLane_lanes_self, hg]
      exact congrArg (fun v : Vector Lane 16 => g v[n]) h₁
    have h₅ : t₅.lanes = t₂.lanes := State.raise_lanes ..
    have h : (if st = .borneOff then t₆.raise pCMP 3 else t₅).lanes = t₂.lanes := by
      split
      · exact (State.raise_lanes ..).trans h₅
      · exact h₅
    exact (congrArg (fun v : Vector Lane 16 => g v[n]) h).trans h₂

theorem settleLane_log_self : (s.settleLane n).lanes[n].log = s.lanes[n].log := by
  unfold State.settleLane
  dsimp only
  split
  · exact setLane_lane_self Lane.log (fun _ _ _ => rfl) _
  · rfl

theorem clearPly_log_self : (s.clearPly n).lanes[n].log = .empty := by
  unfold State.clearPly
  rw [settleLane_log_self, modLane_lanes_self]

theorem endOfPly_log_self (k : Nat) : (s.endOfPly n k).lanes[n].log = s.lanes[n].log := by
  unfold State.endOfPly State.plyOutcome State.plyUse
  simp [State.modLane]

/-- A ply that has written nothing publishes nothing. -/
theorem publish_empty (h : s.lanes[n].log = .empty) (e : Entry) : s.publish n e = s.noteCommit n [] := by
  unfold State.publish
  simp only [h, WriteLog.empty, List.filter_nil, List.map_nil, List.append_nil, List.foldl_nil, ite_self]

theorem commitPly_eq (h : s.lanes[n].ply = some p) :
    s.commitPly n = ((((s.endOfPly n 1).publish n p.entry).incWrap (Reg.laneCnt n) 15 0).clearPly n) := by
  unfold State.commitPly
  rw [h]

/-- A ply that is committed is over; if it has written nothing, memory is as before. -/
theorem commitPly_over (h : s.lanes[n].ply = some p) : (s.commitPly n).lanes[n].ply = none
    ∧ (s.commitPly n).lanes[n].log = .empty ∧ (s.lanes[n].log = .empty → (s.commitPly n).mem = s.mem) := by
  rw [commitPly_eq h]
  refine ⟨clearPly_ply_self, clearPly_log_self, fun empty => ?_⟩
  rw [beside_mem.clearPly, State.incWrap_mem, publish_empty ((endOfPly_log_self 1).trans empty)]
  exact beside_mem.endOfPly 1

/-- A ply that is aborted is over, and memory is as before. -/
theorem abortPly_over (h : s.lanes[n].ply = some p) : (s.abortPly n).lanes[n].ply = none
    ∧ (s.abortPly n).lanes[n].log = .empty ∧ (s.abortPly n).mem = s.mem := by
  refine ⟨abortPly_ply_self, ?_, beside_mem.abortPly⟩
  unfold State.abortPly
  rw [h]
  dsimp only
  rw [modLane_lanes_self]
  exact clearPly_log_self

theorem plyOutcome_lanes_ne (k : Nat) (h : m ≠ n) : (s.plyOutcome n k).lanes[m] = s.lanes[m] := modLane_lanes_ne _ _ h

/-- What a trap that is seen leaves beside the ply itself: quality event 6, a context spoiled with cause 2 (R166, R209). -/
def State.trapMarks (s : State) (n : Fin 16) (e : Entry) : State :=
  let s := if e.raisesQual then s.modTask e.task (fun t => { t with trapped := true }) else s
  if e.isGambit then s.spoil e.task 2 n else s

theorem trapSeen_eq (h : s.lanes[n].ply = some p) : s.trapSeen n = ((s.trapMarks n p.entry).plyOutcome n 3).modLane n
    fun l => { l with ply := some { p with phase := .seen } } := by
  unfold State.trapSeen
  rw [h]
  rfl

theorem trapMarks_lanes (e : Entry) : (s.trapMarks n e).lanes = s.lanes := by
  unfold State.trapMarks
  extract_lets t
  have marked : t.lanes = s.lanes := by
    unfold t
    split <;> rfl
  split
  · exact (spoil_lanes ..).trans marked
  · exact marked

/-- A trap that is seen is a matter of its lane, whose ply stays in flight (R166). -/
theorem trapSeen_seen (h : s.lanes[n].ply = some p) : (s.trapSeen n).lanes[n].ply = some { p with phase := .seen }
    ∧ ∀ m : Fin 16, m ≠ n → (s.trapSeen n).lanes[m] = s.lanes[m] := by
  rw [trapSeen_eq h]
  refine ⟨by rw [modLane_lanes_self], fun m other => ?_⟩
  rw [modLane_lanes_ne _ _ other, plyOutcome_lanes_ne 3 other, trapMarks_lanes]

/-! ### The decision (R120, R122, R166) -/

theorem plyReadyCommit_eq (h : s.lanes[n].ply = some p) (ready : p.phase = .ready) :
    plyReadyCommit n s = if s.pastDeadline n p then s.abortPly n else s.commitPly n := by
  unfold plyReadyCommit
  simp only [h, ready, ne_eq, not_true_eq_false, if_false]

theorem plyDeadlineAbort_eq (h : s.lanes[n].ply = some p) :
    plyDeadlineAbort n s = (s.advanceTo (s.lanes[n].deadline p)).abortPly n := by
  unfold plyDeadlineAbort
  rw [h]

theorem plyTrapSeen_eq (h : s.lanes[n].ply = some p) (trapped : p.phase = .trapped) :
    plyTrapSeen n s = if s.pastDeadline n p then s.abortPly n else s.trapSeen n := by
  unfold plyTrapSeen
  simp only [h, trapped, ne_eq, not_true_eq_false, if_false]

/-! ### Dispatch (R119, R130, R143, R203) -/

/-- An entry that comes up leaves the buffer; it is reported as slipped if it is enabled and late (R115, R116). -/
theorem issueEntry_comesUp {k : Track} (h : s.comesUp k i e) :
    s.issueEntry k i = some (if (s.toIssue k i e).openDue.slipped k i e && (s.atEntry k i e).enabled k e
      then (s.atEntry k i e).slip k i else s.atEntry k i e, e, (s.toIssue k i e).openDue.slipped k i e) := by
  obtain ⟨run, free, entry, up⟩ := h
  unfold State.issueEntry
  cases walk : s.seqr.walk with
  | none => simp [walk] at up
  | some w =>
    have first : ((w.buf k).contains i && !s.waitsBefore k w i e) = true := by simpa [walk] using up
    simp only [run, free, entry, first, ne_eq, not_true_eq_false, Option.isSome_none, Bool.false_eq_true, or_false,
      if_false, if_true]
    rfl

theorem plyDispatch_issued (entry : (s.track .l)[i]? = some e) (ply : e.etype = 1) (window : s.isWindow e = false)
    (runs : s.kindRuns e = true) {t : State} {late : Bool} (issue : s.issueEntry .l i = some (t, e, late))
    (seg : SegResult) : plyDispatch i seg s
      = if t.enabled .l e then t.issuePly i e seg else if t.unpaired i e then t.dropEntry e else t := by
  unfold plyDispatch
  simp only [entry, ply, window, runs, issue, ne_eq, not_true_eq_false, Bool.false_eq_true, Bool.not_true, or_self,
    if_false]

/-- An entry that is due is issued to its lane. -/
theorem plyDispatch_due (h : s.due .l i e) (ply : e.etype = 1) (window : s.isWindow e = false)
    (runs : s.kindRuns e = true) (seg : SegResult) : plyDispatch i seg s = (s.atEntry .l i e).issuePly i e seg := by
  obtain ⟨up, inTime, enabled⟩ := h
  have issue := issueEntry_comesUp up
  rw [inTime, Bool.false_and, if_neg Bool.false_ne_true] at issue
  obtain ⟨-, -, entry, -⟩ := up
  rw [plyDispatch_issued entry ply window runs issue, if_pos enabled]

/-- One that is not enabled issues nothing. -/
theorem plyDispatch_disabled (h : s.comesUp .l i e) (off : (s.atEntry .l i e).enabled .l e = false) (ply : e.etype = 1)
    (window : s.isWindow e = false) (runs : s.kindRuns e = true) (paired : (s.atEntry .l i e).unpaired i e = false)
    (seg : SegResult) : plyDispatch i seg s = s.atEntry .l i e := by
  have issue := issueEntry_comesUp h
  rw [off, Bool.and_false, if_neg Bool.false_ne_true] at issue
  obtain ⟨-, -, entry, -⟩ := h
  rw [plyDispatch_issued entry ply window runs issue, off, paired, if_neg Bool.false_ne_true, if_neg Bool.false_ne_true]

theorem freeLane_idle (ply : s.lanes[n].ply = none) (idle : s.lanes[n].act = .none) : s.freeLane n = s := by
  unfold State.freeLane
  simp only [ply, idle, Option.isSome_none, Bool.false_eq_true, if_false, reduceCtorEq]

/-- A GAMBIT ply goes to a RUNNING lane of its own task's context. -/
theorem issuePly_gambit (free : s.freeLane e.lane = s) (gambit : e.isGambit = true)
    (own : s.lanes[e.lane].owner = some e.task.val) (run : s.lanes[e.lane].state = .running) (seg : SegResult) :
    s.issuePly i e seg = s.goPly i e := by
  unfold State.issuePly
  simp only [free, gambit, own, run, ne_eq, not_true_eq_false, if_true, if_false]

/-- A ply of another kind is dropped on a lane that is not RUNNING. -/
theorem issuePly_halted (free : s.freeLane e.lane = s) (other : e.isGambit = false)
    (halted : s.lanes[e.lane].state ≠ .running) (seg : SegResult) : s.issuePly i e seg = s.dropPly e.lane e := by
  unfold State.issuePly State.dropEntry
  simp only [free, other, halted, ne_eq, not_false_eq_true, Bool.false_eq_true, if_true, if_false]

/-- The lane runs the ply with the registers of R143. -/
theorem goPly_runs (s : State) (i : Nat) (e : Entry) : (s.goPly i e).lanes[e.lane].ply = some ⟨i, e, s.roundRsn, .running⟩
    ∧ (s.goPly i e).lanes[e.lane].main = dispatchCore e s.roundRsn ∧ (s.goPly i e).lanes[e.lane].act = .ply
    ∧ (s.goPly i e).lanes[e.lane].log = .empty ∧ (s.goPly i e).mem = s.mem
    ∧ ∀ m : Fin 16, m ≠ e.lane → (s.goPly i e).lanes[m] = s.lanes[m] := by
  unfold State.goPly
  dsimp only
  rw [modLane_lanes_self]
  exact ⟨rfl, rfl, rfl, rfl, rfl, fun m other => modLane_lanes_ne _ _ other⟩

theorem bank_ne {i k j : Nat} (h : k % 0x100000 ≠ j % 0x100000) : Reg.bank i k ≠ j := by
  rintro rfl
  exact h (by unfold Reg.bank; omega)

theorem dropPly_keeps (s : State) (n : Fin 16) (e : Entry) :
    (s.dropPly n e).lanes = s.lanes ∧ (s.dropPly n e).mem = s.mem := by
  unfold State.dropPly
  dsimp only
  split <;> simp

/-- A drop is counted (R141). -/
theorem dropPly_count (s : State) (n : Fin 16) (e : Entry) : (s.dropPly n e).fld (Reg.bank n Reg.bsqLaneCnt) 31 16
    = min 0xFFFF (s.fld (Reg.bank n Reg.bsqLaneCnt) 31 16 + 1) := by
  have key : Reg.bank n Reg.bsqLaneCnt ≠ Reg.pgIrq pBSQ := bank_ne (by decide)
  have counted : ((s.incSat (Reg.bank n Reg.bsqLaneCnt) 31 16).raise pBSQ 3).fld (Reg.bank n Reg.bsqLaneCnt) 31 16
      = min 0xFFFF (s.fld (Reg.bank n Reg.bsqLaneCnt) 31 16 + 1) :=
    (fld_raise_ne key).trans (fld_incSat_self (by decide) (by decide))
  unfold State.dropPly
  dsimp only
  split
  · exact counted
  · exact counted

/-! ### The statement -/

/-- Settles O23. -/
theorem plies : Obligations.Plies := by
  unfold Obligations.Plies
  refine ⟨fun n p s ply ready inTime => ?_, fun n p s ply => ⟨?_, ?_, fun ready late => ?_⟩,
    fun n p s ply trapped inTime => ?_, fun i seg e s due isPly window runs => ?_,
    fun i seg e s due isPly window runs _ ⟨run, ply, idle⟩ gambit own => ?_,
    fun i seg e s due isPly window runs other ⟨halted, ply, idle⟩ => ?_,
    fun i seg e s up off isPly window runs paired => ?_⟩
  · have gives : Gives (.plyReadyCommit n) s (s.commitPly n) := by
      refine congrArg Host.Outcome.next ?_
      rw [plyReadyCommit_eq ply ready, inTime, if_neg Bool.false_ne_true]
    exact ⟨gives, _, gives, commitPly_over ply⟩
  · exact congrArg Host.Outcome.next (plyDeadlineAbort_eq ply)
  · have held : (s.advanceTo (s.lanes[n].deadline p)).lanes[n].ply = some p := by rw [State.advanceTo_lanes, ply]
    obtain ⟨ended, log, mem⟩ := abortPly_over held
    exact ⟨_, congrArg Host.Outcome.next (plyDeadlineAbort_eq ply), ended, log, mem.trans (State.advanceTo_mem ..)⟩
  · have aborts : plyReadyCommit n s = s.abortPly n := by rw [plyReadyCommit_eq ply ready, late, if_pos rfl]
    exact ⟨_, congrArg Host.Outcome.next aborts, rfl, abortPly_over ply⟩
  · have gives : Gives (.plyTrapSeen n) s (s.trapSeen n) := by
      refine congrArg Host.Outcome.next ?_
      rw [plyTrapSeen_eq ply trapped, inTime, if_neg Bool.false_ne_true]
    obtain ⟨seen, others⟩ := trapSeen_seen ply
    exact ⟨gives, _, gives, seen, beside_mem.trapSeen, others⟩
  · exact congrArg Host.Outcome.next (plyDispatch_due due isPly window runs seg)
  · have free : (s.atEntry .l i e).freeLane e.lane = s.atEntry .l i e :=
      freeLane_idle ((State.atEntry_lane_ply ..).trans ply) ((State.atEntry_lane_act ..).trans idle)
    have goes := (plyDispatch_due due isPly window runs seg).trans
      (issuePly_gambit free gambit own ((State.atEntry_lane_state ..).trans run) seg)
    obtain ⟨hPly, hMain, hAct, hLog, hMem, others⟩ := goPly_runs (s.atEntry .l i e) i e
    exact ⟨_, congrArg Host.Outcome.next goes, hPly, hMain, hAct, hLog, hMem.trans (State.atEntry_mem ..), others⟩
  · have free : (s.atEntry .l i e).freeLane e.lane = s.atEntry .l i e :=
      freeLane_idle ((State.atEntry_lane_ply ..).trans ply) ((State.atEntry_lane_act ..).trans idle)
    have dropped := (plyDispatch_due due isPly window runs seg).trans
      (issuePly_halted free other (fun run => halted ((State.atEntry_lane_state ..).symm.trans run)) seg)
    obtain ⟨lanes, mem⟩ := dropPly_keeps (s.atEntry .l i e) e.lane e
    refine ⟨_, congrArg Host.Outcome.next dropped, rfl, ?_, lanes, mem.trans (State.atEntry_mem ..)⟩
    have key : Reg.bank e.lane Reg.bsqLaneCnt ≠ Reg.pgIrq pTIM := bank_ne (by decide)
    rw [dropPly_count, fld_eq_of_reg (State.atEntry_reg_ne s .l i e key)]
  · refine ⟨_, congrArg Host.Outcome.next (plyDispatch_disabled up off isPly window runs paired seg), rfl,
      State.atEntry_mem .., fun n => ⟨State.atEntry_lane_ply .., State.atEntry_lane_main ..⟩⟩

end Sys2Proof.Machine
end

section
/-! PROOFS. The statement of 04_sequencer.md about the board movers (O24). -/

namespace Sys2Proof.Machine
variable {s t u : State} {i : Nat} {e : Entry} {x : MoverXfer}

/-! ### What a fault brings with it (R243, R244, R376) -/

/-- From `s` to `t` the transfers in flight and MOV_BM_LAST stay. -/
structure KeepsMovers (s t : State) : Prop where
  movers : t.movers = s.movers
  last : t.reg Reg.movBmLast = s.reg Reg.movBmLast

theorem header_ne_movBmLast (p : Nat) {o : Nat} (h : o < 0x40) : p * 0x1000 + o ≠ Reg.movBmLast := by
  have offset : 0x40 ≤ Reg.movBmLast % 0x1000 := by decide
  omega

namespace KeepsMovers

theorem refl (s : State) : KeepsMovers s s := ⟨rfl, rfl⟩

/-- A state that differs in other fields alone. -/
theorem like (h : KeepsMovers s t) (same : (u.movers, u.regs) = (t.movers, t.regs)) : KeepsMovers s u := by
  obtain ⟨movers, regs⟩ := Prod.mk.inj same
  exact ⟨movers.trans h.movers, (congrArg (fun r => tget 0 r Reg.movBmLast) regs).trans h.last⟩

theorem ite {c : Prop} [Decidable c] (ht : KeepsMovers s t) (hu : KeepsMovers s u) :
    KeepsMovers s (if c then t else u) := by
  split
  · exact ht
  · exact hu

theorem foldl {α : Type} {f : State → α → State} (hf : ∀ x u, KeepsMovers s u → KeepsMovers s (f u x)) :
    ∀ {l : List α} {t : State}, KeepsMovers s t → KeepsMovers s (l.foldl f t)
  | [], _, h => h
  | x :: l, t, h => foldl (l := l) hf (hf x t h)

theorem setReg (h : KeepsMovers s t) {k : Nat} (v : Word) (hk : k ≠ Reg.movBmLast) : KeepsMovers s (t.setReg k v) :=
  ⟨h.movers, (State.reg_setReg_ne hk.symm).trans h.last⟩

theorem raise (h : KeepsMovers s t) (p b : Nat) : KeepsMovers s (t.raise p b) :=
  ite (h.setReg _ (header_ne_movBmLast p (by decide))) h

theorem logErr (h : KeepsMovers s t) (p c : Nat) (i : Word) : KeepsMovers s (t.logErr p c i) :=
  have hk {o : Nat} (ho : o < 0x40) : p * 0x1000 + o ≠ Reg.movBmLast := header_ne_movBmLast p ho
  ite ((h.setReg _ (hk (by decide))).setReg _ (hk (by decide))) (h.setReg _ (hk (by decide)))

theorem setFld (h : KeepsMovers s t) {k hi lo : Nat} (v : Nat) (hk : k ≠ Reg.movBmLast) :
    KeepsMovers s (t.setFld k hi lo v) := h.setReg _ hk

theorem modPair (h : KeepsMovers s t) (f : Pair → Pair) : KeepsMovers s (t.modPair f) := h.like rfl

theorem recIrq (h : KeepsMovers s t) (p b : Nat) (pr : Prio) (m : Bytes) : KeepsMovers s (t.recIrq p b pr m) :=
  h.like rfl

/-! #### Quality events (R244, R264) -/

theorem dunlySend (h : KeepsMovers s t) (lane : Fin 4) (kind : Nat) (b : Bytes) :
    KeepsMovers s (t.dunlySend lane kind b) := ite h (h.like rfl)

theorem sendJoinc (h : KeepsMovers s t) (op reason : Nat) (r : Word) : KeepsMovers s (t.sendJoinc op reason r) :=
  h.dunlySend ..

theorem sendUnit (h : KeepsMovers s t) (space ofs : Nat) (m : Bool) (b : Bytes) :
    KeepsMovers s (t.sendUnit space ofs m b) := h.dunlySend ..

theorem closingOverrun (h : KeepsMovers s t) (x : XferRun) : KeepsMovers s (t.closingOverrun x) :=
  (((h.sendJoinc ..).modPair _).setFld _ (by decide)).setFld _ (by decide)

theorem touchUnit (h : KeepsMovers s t) (space unit ofs k : Nat) : KeepsMovers s (t.touchUnit space unit ofs k) := by
  unfold State.touchUnit
  split
  · exact h
  · dsimp only
    split
    · exact ite (((h.sendUnit ..).modPair _).closingOverrun _) ((h.sendUnit ..).modPair _)
    · exact h.modPair _

theorem imemSet (h : KeepsMovers s t) (ofs : Nat) (v : Word) (q : BitVec 4) : KeepsMovers s (t.imemSet ofs v q) :=
  ite h (h.like rfl)

theorem imemPut (h : KeepsMovers s t) (ofs : Nat) (v : Word) (q : BitVec 4) : KeepsMovers s (t.imemPut ofs v q) :=
  have set := h.imemSet ofs v q
  ite (set.touchUnit ..) set

theorem qualEvent (h : KeepsMovers s t) (ev ofs : Nat) : KeepsMovers s (t.qualEvent ev ofs) :=
  ite h (ite (h.imemPut ..) (h.imemSet ..))

theorem moverQual (h : KeepsMovers s t) (e : Entry) : KeepsMovers s (t.moverQual e) := by
  unfold State.moverQual
  split
  · exact h.like rfl
  · split
    · exact ite h (h.like rfl)
    · exact foldl (fun r _ hu => foldl (fun _ _ hv => hv.qualEvent ..) hu) h

/-! #### A stand-down cause (R376) -/

theorem sdShow (h : KeepsMovers s t) : KeepsMovers s t.sdShow :=
  ite h (foldl (fun _ _ hu => (((hu.like (by rfl)).setReg _ (by decide)).raise ..).recIrq ..) h)

theorem sdCause (h : KeepsMovers s t) (cause : Nat) : KeepsMovers s (t.sdCause cause) :=
  ite h (sdShow (h.like rfl))

end KeepsMovers

/-- A fault stops the mover's transfers and stands in MOV_BM_LAST (R243). -/
theorem moverFault_stops (x : MoverXfer) (cause addr : Nat) :
    (s.moverFault x cause addr).movers = s.movers.filter (fun y => y.entry.mover != x.entry.mover)
      ∧ (s.moverFault x cause addr).reg Reg.movBmLast
        = BitVec.ofNat 32 (x.idx % 2 ^ 17 + x.entry.mover * 2 ^ 17 + cause * 2 ^ 20) := by
  unfold State.moverFault
  extract_lets m t₁ t₂ t₃ t₄ i t₅ t₆ t₇
  have h₄ : KeepsMovers t₂ t₄ := by
    exact (((KeepsMovers.refl t₂).setReg _ (by decide)).setReg _ (by decide)).setReg _ (by decide) |>.setReg _ (by decide)
  have h₅ : KeepsMovers t₂ t₅ := ((h₄.raise ..).logErr ..).like rfl
  have h₆ : KeepsMovers t₂ t₆ := h₅.like rfl
  have h₇ : KeepsMovers t₂ t₇ := h₆.moverQual _
  have h : KeepsMovers t₂ (if cause = 2 then t₇ else t₇.sdCause 3) := .ite h₇ (h₇.sdCause 3)
  exact ⟨h.movers, h.last.trans State.reg_setReg_self⟩

theorem filter_all_ne (l : List MoverXfer) (m : Nat) :
    (l.filter fun y => y.entry.mover != m).all (fun y => y.entry.mover != m) = true := by
  rw [List.all_filter]
  simp

/-! ### LOAD_OUT (R298) -/

/-- The words of a LOAD_OUT are read from memory. -/
theorem outWords_congr (mem : t.mem = s.mem) (poison : t.poison = s.poison) (l : List IomapRec) (ks : List Nat) :
    t.outWords l ks = s.outWords l ks := by
  have poisoned : t.poisoned = s.poisoned := by
    funext a n
    rw [State.poisoned, State.poisoned, poison]
  have word : t.imemWord = s.imemWord := by
    funext ofs
    rw [State.imemWord, State.imemWord, mem]
  have qual : t.imemQual = s.imemQual := by
    funext ofs
    rw [State.imemQual, State.imemQual, mem]
  induction ks with
  | nil => rfl
  | cons k ks ih => rw [State.outWords, State.outWords, ih, poisoned, word, qual]

section
variable {b : Tables} {r : SlotRec} {ws : List (Word × BitVec 4)}

theorem runLoad_fills (act : s.boards.act = some b) (slot : b.slotRec (e.ref % 0x10000) = some r)
    (words : s.outWords (b.iomapOf (e.ref % 0x10000)) (List.range (valueWords r.payload)) = .ok ws) :
    s.runLoad e none
      = (s.modNet fun n => { n with txBuf := tput n.txBuf (e.ref % 0x10000) (outPayload r.payload ws) }, .isDone) := by
  unfold State.runLoad
  simp only [act, slot, words, stopsShort, Bool.false_eq_true, if_false]

theorem runMove_load (load : e.mkind = 3) {limit : Option Nat} : s.runMove e limit = s.runLoad e limit := by
  unfold State.runMove
  rw [load]
  rfl

/-- No transfer of mover `m` is left (R124). -/
def State.clearMover (s : State) (m : Nat) : State :=
  { s with movers := s.movers.filter (fun x => x.entry.mover != m) }

theorem startMover_done (free : s.movers.find? (fun y => y.entry.mover == e.mover && !y.isDone) = none)
    {limit : Option Nat} (run : (s.clearMover e.mover).runMove e limit = (t, .isDone)) (i : Nat) :
    s.startMover i e limit = { t with
      movers := t.movers ++ [⟨i, e, (s.clearMover e.mover).startOf e + BitVec.ofNat 64 (e.dur * 50), true, 0⟩] } := by
  unfold State.clearMover at run
  unfold State.startMover
  simp only [free, run]
  rfl

/-- A LOAD_OUT on a mover that is free fills the buffer and is done (assumption 37). -/
theorem startMover_loadOut (load : e.mkind = 3)
    (free : s.movers.find? (fun y => y.entry.mover == e.mover && !y.isDone) = none) (act : s.boards.act = some b)
    (slot : b.slotRec (e.ref % 0x10000) = some r)
    (words : s.outWords (b.iomapOf (e.ref % 0x10000)) (List.range (valueWords r.payload)) = .ok ws) (i : Nat) :
    (s.startMover i e none).net.txBuf = tput s.net.txBuf (e.ref % 0x10000) (outPayload r.payload ws)
      ∧ (s.startMover i e none).movers = s.movers.filter (fun x => x.entry.mover != e.mover)
        ++ [⟨i, e, s.startOf e + BitVec.ofNat 64 (e.dur * 50), true, 0⟩]
      ∧ (s.startMover i e none).mem = s.mem ∧ (s.startMover i e none).lanes = s.lanes := by
  have read := (outWords_congr (s := s) (t := s.clearMover e.mover) rfl rfl _ _).trans words
  have run := (runMove_load load).trans (runLoad_fills (s := s.clearMover e.mover) act slot read)
  rw [startMover_done free run i]
  exact ⟨rfl, rfl, rfl, rfl⟩

end

/-! ### The deadline and the faults (R124, R243) -/

section
variable {m : Fin 8}

theorem moveDeadline_eq (h : s.movers.find? (fun y => y.entry.mover == m.val) = some x) : moveDeadline m s
    = if x.isDone then { s.advanceTo x.ends with
        movers := (s.advanceTo x.ends).movers.filter (fun y => y.entry.mover != m.val) }
      else (s.advanceTo x.ends).moverOverrun x := by
  unfold moveDeadline
  simp only [h]

theorem boardMoverFault_eq (h : s.movers.find? (fun y => y.entry.mover == m.val && !y.isDone) = some x)
    (a : BitVec 40) : boardMoverFault m 1 a s = s.moverFault x 1 a.toNat
      ∧ boardMoverFault m 2 a s = (s.moverFault x 2 a.toNat).moverBad (x.entry.mkind == 1) a.toNat
      ∧ boardMoverFault m 3 a s = (s.advanceTo x.ends).moverOverrun x := by
  unfold boardMoverFault
  simp only [h]
  exact ⟨rfl, rfl, rfl⟩

end

/-! ### The statement -/

/-- Settles O24. -/
theorem boardMovers : Obligations.BoardMovers := by
  unfold Obligations.BoardMovers
  refine ⟨fun i limit e s due => ?_, fun i e b r ws s due load free act slot words => ?_,
    fun m x s found => ⟨fun isDone => ?_, fun short => ?_⟩, fun m x a s found => ?_⟩
  · exact congrArg Host.Outcome.next (State.onEntry_due s due _)
  · have free' : (s.atEntry .m i e).movers.find? (fun y => y.entry.mover == e.mover && !y.isDone) = none := by
      rw [State.atEntry_movers, free]
    have act' : (s.atEntry .m i e).boards.act = some b := by rw [State.atEntry_boards, act]
    obtain ⟨buffer, movers, mem, lanes⟩ := startMover_loadOut load free' act' slot words i
    rw [State.atEntry_net] at buffer
    rw [State.atEntry_movers] at movers
    exact ⟨_, congrArg Host.Outcome.next (State.onEntry_due s due _), buffer, movers,
      mem.trans (State.atEntry_mem ..), lanes⟩
  · have ends := moveDeadline_eq found
    rw [isDone, if_pos rfl] at ends
    exact ⟨_, congrArg Host.Outcome.next ends, filter_all_ne _ _⟩
  · have overruns := moveDeadline_eq found
    rw [short, if_neg Bool.false_ne_true] at overruns
    exact congrArg Host.Outcome.next overruns
  · obtain ⟨range, ecc, overrun⟩ := boardMoverFault_eq found a
    have mover : x.entry.mover = m.val := by
      have holds := List.find?_some found
      simp only [Bool.and_eq_true, beq_iff_eq] at holds
      exact holds.1
    obtain ⟨stopped, last⟩ := moverFault_stops (s := s) x 1 a.toNat
    rw [mover] at stopped last
    refine ⟨⟨_, congrArg Host.Outcome.next range, rfl, ?_, ?_⟩, congrArg Host.Outcome.next ecc,
      congrArg Host.Outcome.next overrun⟩
    · rw [stopped]
      exact filter_all_ne _ _
    · rw [last, Nat.one_mul]

end Sys2Proof.Machine
end

section
/-! PROOFS. The statement of 04_sequencer.md about FIELD entries (O25) fails at one entry: an FIO_SAMPLE that names no
channel. Of its latches the module keeps those that give some channel its newest usable level (R258, R345); the latch of
such a sample gives none and is not kept. What follows is a board with that entry, whose mask R86 leaves free, and a state in
which it comes up. -/

namespace Sys2Proof.Machine

namespace EmptySample

/-- FIO_SAMPLE at pip 0 of every round, with an empty channel mask. -/
def entry : Entry := ⟨5, 0x60000, 0, 0⟩

/-- The sequencer runs in BOOT and the entry waits in the buffer of track F; no latch is kept. -/
def running : State :=
  { State.reset with
    boards := { State.reset.boards with act := some { parseBoard [] with trackF := [entry] } }
    seqr := { State.reset.seqr with state := .run, walk := some ⟨0, [], [], [], [0], []⟩ } }

theorem due_running : running.due .f 0 entry := by decide +kernel

theorem latches_running : (fioSample 0 running).pair.latches = [] := by decide +kernel

end EmptySample

open EmptySample in
/-- Refutes O25: FIO_SAMPLE in `running` is due and the module takes its own latches, but it keeps none. -/
theorem not_fieldEvents : ¬ Obligations.FieldEvents := by
  unfold Obligations.FieldEvents
  intro holds
  obtain ⟨-, -, -, -, -, -, ownLatch, -, -⟩ := holds
  obtain ⟨t, sampled, first, -⟩ := ownLatch 0 entry running due_running (by decide) (by decide) (by decide)
  have same : fioSample 0 running = t := Host.Outcome.next.inj sampled
  rw [← same, latches_running] at first
  exact nomatch first

end Sys2Proof.Machine
end

section
/-! PROOFS. The statement of 04_sequencer.md about slots and guardian windows (O26). -/

namespace Sys2Proof.Machine
variable {s u : State} {i : Nat} {e : Entry} {t : Tables} {r : SlotRec} {run : SlotRun} {g : GuardRec}

/-! ### A slot opens (R125, R304) -/

theorem edges_roundStart (k : Nat) : (s.edges k).time.roundStart = s.time.roundStart := by
  rw [State.edges, pipWrap_time]

theorem advanceTo_roundStart (x : BitVec 64) : (s.advanceTo x).time.roundStart = s.time.roundStart := by
  obtain ⟨gt, c, moved⟩ := advanceTo_time (s := s) x
  rw [moved]

theorem toIssue_roundStart (k : Track) : (s.toIssue k i e).time.roundStart = s.time.roundStart := by
  unfold State.toIssue
  dsimp only
  split
  · rw [edges_roundStart, edges_roundStart, advanceTo_roundStart]
  · rw [edges_roundStart, advanceTo_roundStart]

/-- The round in progress stays the same as an entry comes up. -/
theorem atEntry_roundStart (k : Track) : (s.atEntry k i e).time.roundStart = s.time.roundStart :=
  ((s.toIssue k i e).openDue_keeps (fun u => u.time.roundStart) (fun _ _ => rfl) (fun _ _ _ => rfl)
    fun _ _ _ _ => rfl).trans (toIssue_roundStart k)

theorem slotOpen_due (due : s.due .n i e) (up : s.domainUp 3 = true) (act : s.boards.act = some t) :
    slotOpen i s = (s.atEntry .n i e).openSlot t e false := by
  obtain ⟨⟨runs, -⟩, -⟩ := id due
  unfold slotOpen
  simp only [act, up, runs, Bool.not_true, Bool.false_eq_true, if_false, if_true]
  exact s.onEntry_due due _

theorem noteStation_keeps (r : SlotRec) (rsn : Word) (landed : Bool) : (s.noteStation r rsn landed).net.slots = s.net.slots
    ∧ (s.noteStation r rsn landed).mem = s.mem ∧ (s.noteStation r rsn landed).lanes = s.lanes
    ∧ (s.noteStation r rsn landed).regs = s.regs ∧ (s.noteStation r rsn landed).time = s.time := by
  unfold State.noteStation
  split <;> exact ⟨rfl, rfl, rfl, rfl, rfl⟩

theorem runOf_of_slots {s u : State} (h : u.net.slots = s.net.slots) (slot : Nat) (rsn : Word) :
    u.runOf slot rsn = s.runOf slot rsn := by
  rw [State.runOf, State.runOf, h]

/-- The slot of a station opens with no frame yet. -/
theorem openSlot_station (slot : t.slotRec e.slot = some r) (other : s.ownSlot r = false)
    (first : s.runOf r.slot s.rsn = none) (late : Bool) :
    (s.openSlot t e late).net.slots = s.net.slots ++ [newRun e s.rsn s.time.roundStart]
      ∧ (s.openSlot t e late).mem = s.mem ∧ (s.openSlot t e late).lanes = s.lanes := by
  obtain ⟨slots, mem, lanes, -, time⟩ := noteStation_keeps (s := s) r s.rsn false
  have rsn : (s.noteStation r s.rsn false).rsn = s.rsn := by rw [State.rsn, State.now, time]; rfl
  have none' := (runOf_of_slots slots r.slot s.rsn).trans first
  have opens : s.openSlot t e late = (s.noteStation r s.rsn false).modNet fun n =>
      { n with slots := n.slots ++ [newRun e s.rsn s.time.roundStart] } := by
    unfold State.openSlot
    simp only [slot, other, rsn, none', Bool.false_eq_true, if_false, Option.isSome_none]
  rw [opens]
  exact ⟨congrArg (· ++ _) slots, mem, lanes⟩

/-! ### A slot closes (R304, R305, R306) -/

theorem slotClose_open {slot : BitVec 16} (act : s.boards.act = some t)
    (open_ : s.net.slots.find? (fun x => x.slot == slot.toNat && x.isOpen) = some run)
    (rec_ : t.slotRec slot.toNat = some r) :
    slotClose slot s = if run.own then s.slotEnds run r else (s.slotEnds run r).closeRun t r run := by
  unfold slotClose
  simp only [act, open_, rec_]
  rfl

theorem slotEnds_keeps (run : SlotRun) (r : SlotRec) :
    (s.slotEnds run r).mem = s.mem ∧ (s.slotEnds run r).lanes = s.lanes :=
  ⟨State.advanceTo_mem .., State.advanceTo_lanes ..⟩

theorem outcomeOf_lt (run : SlotRun) (l : List RxCopy) : outcomeOf run l < 4 := by
  unfold outcomeOf
  split
  · decide
  · split
    · decide
    · split <;> decide
  · decide

theorem bank_ne_bank {n k j : Nat} (h : k ≠ j) : Reg.bank n k ≠ Reg.bank n j := fun same => h (Nat.add_left_cancel same)

/-- The outcome of a channel stands in its field of MBS_INFO, the rest of which stays (R305). -/
theorem keepOutcome_info {c : Nat} (hc : c < 2) (l : List RxCopy) :
    (s.keepOutcome t r run c l).reg (Reg.bank r.slot Reg.mbsInfo)
      = withBits (s.reg (Reg.bank r.slot Reg.mbsInfo)) (7 + 2 * c) (6 + 2 * c) (outcomeOf run l)
      ∧ (s.keepOutcome t r run c l).mem = s.mem := by
  have stamp : Reg.bank r.slot Reg.mbsInfo ≠ Reg.bank r.slot (Reg.mbsTsA + 4 * c) :=
    bank_ne_bank (by interval_cases c <;> decide)
  have seq : Reg.bank r.slot Reg.mbsInfo ≠ Reg.bank r.slot Reg.mbsSeq := bank_ne_bank (by decide)
  have rx : Reg.bank r.slot Reg.mbsInfo ≠ Reg.mbRxCnt c := bank_ne (by interval_cases c <;> decide)
  have count : Reg.bank r.slot Reg.mbsInfo ≠ Reg.bank r.slot (Reg.mbsCntA + 4 * c) :=
    bank_ne_bank (by interval_cases c <;> decide)
  have win : Reg.bank r.slot Reg.mbsInfo ≠ Reg.bank r.slot Reg.mbsWin := bank_ne_bank (by decide)
  unfold State.keepOutcome
  extract_lets o t₁ ts t₂
  have h₂ : t₂.reg (Reg.bank r.slot Reg.mbsInfo)
      = withBits (s.reg (Reg.bank r.slot Reg.mbsInfo)) (7 + 2 * c) (6 + 2 * c) o :=
    (State.reg_setReg_ne stamp).trans State.reg_setReg_self
  have mem₂ : t₂.mem = s.mem := rfl
  clear_value t₂
  change _ = withBits _ _ _ o ∧ _
  clear_value o
  split
  · exact ⟨(State.reg_setReg_ne rx).trans ((State.reg_setReg_ne seq).trans h₂), mem₂⟩
  · exact ⟨(State.reg_setReg_ne count).trans h₂, mem₂⟩
  · exact ⟨(State.reg_setReg_ne count).trans h₂, mem₂⟩
  · exact ⟨(State.reg_setReg_ne win).trans h₂, mem₂⟩

/-- What the close of a station slot leaves, before a VALID frame of it is used. -/
def State.outcomesKept (s : State) (t : Tables) (r : SlotRec) (run : SlotRun) : State :=
  let s := (s.keepOutcome t r run 0 run.a).keepOutcome t r run 1 run.b
  let s := s.noteStation r run.rsn (!run.fwd.isEmpty && s.landable r run.rsn)
  if s.landable r run.rsn && run.differs then s.chMismatch r.slot else s

theorem closeRun_unused (a : outcomeOf run run.a ≠ 0) (b : outcomeOf run run.b ≠ 0) :
    s.closeRun t r run = s.outcomesKept t r run := by
  unfold State.closeRun
  extract_lets t₁ oa ob t₂ t₃
  split
  · exact absurd (by assumption) a
  · exact absurd (by assumption) b
  · rfl

theorem outcomesKept_info (s : State) (t : Tables) (r : SlotRec) (run : SlotRun) :
    (s.outcomesKept t r run).fld (Reg.bank r.slot Reg.mbsInfo) 7 6 = outcomeOf run run.a
      ∧ (s.outcomesKept t r run).fld (Reg.bank r.slot Reg.mbsInfo) 9 8 = outcomeOf run run.b
      ∧ (s.outcomesKept t r run).mem = s.mem := by
  unfold State.outcomesKept
  extract_lets t₁ t₂
  obtain ⟨infoA, memA⟩ := keepOutcome_info (s := s) (t := t) (r := r) (run := run) (c := 0) (by decide) run.a
  obtain ⟨infoB, memB⟩ := keepOutcome_info (s := s.keepOutcome t r run 0 run.a) (t := t) (r := r) (run := run) (c := 1)
    (by decide) run.b
  obtain ⟨-, mem₂, -, regs₂, -⟩ := noteStation_keeps (s := t₁) r run.rsn (!run.fwd.isEmpty && t₁.landable r run.rsn)
  have info₂ : t₂.reg (Reg.bank r.slot Reg.mbsInfo) = withBits (withBits (s.reg (Reg.bank r.slot Reg.mbsInfo)) 7 6
      (outcomeOf run run.a)) 9 8 (outcomeOf run run.b) := by
    rw [← infoA]
    exact (congrArg (fun l => tget 0 l _) regs₂).trans infoB
  have fieldA : t₂.fld (Reg.bank r.slot Reg.mbsInfo) 7 6 = outcomeOf run run.a := by
    rw [State.fld, info₂, bits_withBits_disjoint (by decide) (by decide), bits_withBits_self (by decide) (by decide)]
    exact Nat.mod_eq_of_lt (outcomeOf_lt ..)
  have fieldB : t₂.fld (Reg.bank r.slot Reg.mbsInfo) 9 8 = outcomeOf run run.b := by
    rw [State.fld, info₂, bits_withBits_self (by decide) (by decide)]
    exact Nat.mod_eq_of_lt (outcomeOf_lt ..)
  have mem : t₂.mem = s.mem := mem₂.trans (memB.trans memA)
  have irq : Reg.bank r.slot Reg.mbsInfo ≠ Reg.pgIrq pMBS := bank_ne (by decide)
  split
  · unfold State.chMismatch
    rw [fld_raise_ne irq, fld_raise_ne irq, State.raise_mem]
    exact ⟨(State.fld_setFld_disjoint (by decide) (by decide)).trans fieldA,
      (State.fld_setFld_disjoint (by decide) (by decide)).trans fieldB, mem⟩
  · exact ⟨fieldA, fieldB, mem⟩

/-! ### Guardian windows (R303) -/

theorem toPip_inRound (p : Nat) : (s.toPip p).inRound = s.inRound := by
  obtain ⟨gt, c, moved⟩ := advanceTo_time (s := s) (s.time.roundStart + BitVec.ofNat 64 (p * 50))
  have up : (s.toPip p).domainUp 3 = s.domainUp 3 := by
    rw [State.domainUp, State.domainUp, State.toPip_reg_ne _ _ (by decide)]
  rw [State.inRound, State.inRound, up, State.toPip, moved]

theorem guardianWindowOpen_opens (act : s.boards.act = some t) (rec_ : t.guards[i]? = some g) (round : s.inRound = true)
    (on : (s.toPip g.start).guardOn g = true) : guardianWindowOpen i s = ((s.toPip g.start).modNet fun n =>
      { n with windows := (i, g.slot) :: n.windows.filter (fun w => w.1 != i) }).showWindows t := by
  unfold guardianWindowOpen
  simp only [act, rec_, round, on, toPip_inRound, Bool.not_true, Bool.or_self, Bool.false_eq_true, if_true, if_false]

theorem sdShow_net : s.sdShow.net = s.net := by
  unfold State.sdShow
  split
  · rfl
  · exact foldl_keeps State.net (fun u c => by simp [State.recIrq]) _ s

theorem sdCause_net (cause : Nat) : (s.sdCause cause).net = s.net := by
  unfold State.sdCause
  split
  · rfl
  · exact sdShow_net

theorem bearPort_net (c p : Nat) : (s.bearPort c p).net = s.net := by
  unfold State.bearPort
  split
  · rfl
  · extract_lets info t₁ t₂
    have borne : t₂.net = s.net := by simp [t₂, t₁, State.recErr, State.cutPort]
    split
    · exact (sdCause_net 2).trans borne
    · exact borne

/-- A port that is blocked closes no window. -/
theorem guardBlock_windows (q slot : Nat) : (s.guardBlock q slot).net.windows = s.net.windows := by
  unfold State.guardBlock
  extract_lets info t₁ t₂ again t₃
  have blocked : t₃.net.windows = s.net.windows := by simp [t₃, t₂, t₁, State.recErr, State.modNet]
  split
  · exact (congrArg Net.windows (bearPort_net ..)).trans blocked
  · exact blocked

/-- The window of record `i` closes at its end, whatever of a frame is then cut. -/
theorem guardianWindowClose_closes (act : s.boards.act = some t) (rec_ : t.guards[i]? = some g)
    (open_ : s.net.windows.any (fun w => w.1 == i) = true) :
    (guardianWindowClose i s).net.windows = s.net.windows.filter (fun w => w.1 != i) := by
  unfold guardianWindowClose
  simp only [act, rec_, open_, Bool.not_true, Bool.false_eq_true, if_false]
  have closed : (((s.toPip (g.start + g.len)).modNet fun n =>
      { n with windows := n.windows.filter (fun w => w.1 != i) }).showWindows t).net.windows
        = s.net.windows.filter (fun w => w.1 != i) := by
    rw [← State.toPip_net s (g.start + g.len)]
    rfl
  split
  · exact closed
  · have cut : ∀ (q : Nat) (u : State) (c : RxCopy),
        (if later64 (c.start + BitVec.ofNat 64 (frameNs c.payload.length)) u.now then
          (u.cutOut q c.start ((u.now - c.start).toNat * 5 / 4 - 8)).guardBlock q g.slot else u).net.windows
          = u.net.windows := fun q u c => by
      split
      · exact guardBlock_windows ..
      · rfl
    exact (foldl_keeps (fun u => u.net.windows) (cut (4 + g.port)) _ _).trans
      ((foldl_keeps (fun u => u.net.windows) (cut g.port) _ _).trans closed)

/-! ### The statement -/

/-- Settles O26. -/
theorem slotsAndGuardian : Obligations.SlotsAndGuardian := by
  unfold Obligations.SlotsAndGuardian
  refine ⟨fun i e t s due up act => ?_, fun i e t r s due up act slot other first => ?_,
    fun slot t run r s act found slotRec => ⟨fun own => ?_, fun other a b => ?_, fun other => ?_⟩,
    fun i t g s act guard round on => ?_, fun i t g s act guard open_ => ?_⟩
  · exact congrArg Host.Outcome.next (slotOpen_due due up act)
  · obtain ⟨slots, mem, lanes⟩ := openSlot_station slot other first false
    rw [State.atEntry_net, atEntry_roundStart] at slots
    exact ⟨_, congrArg Host.Outcome.next (slotOpen_due due up act), slots, mem.trans (State.atEntry_mem ..), lanes⟩
  · have ends := slotClose_open act found slotRec
    rw [own, if_pos rfl] at ends
    exact ⟨_, congrArg Host.Outcome.next ends, rfl, slotEnds_keeps run r⟩
  · have closes := slotClose_open act found slotRec
    rw [other, if_neg Bool.false_ne_true, closeRun_unused a b] at closes
    obtain ⟨infoA, infoB, mem⟩ := outcomesKept_info (s.slotEnds run r) t r run
    exact ⟨_, congrArg Host.Outcome.next closes, infoA, infoB, mem.trans (slotEnds_keeps run r).1⟩
  · have closes := slotClose_open act found slotRec
    rw [other, if_neg Bool.false_ne_true] at closes
    exact congrArg Host.Outcome.next closes
  · refine ⟨_, congrArg Host.Outcome.next (guardianWindowOpen_opens act guard round on), ?_, State.toPip_mem ..⟩
    exact List.contains_iff_mem.mpr List.mem_cons_self
  · refine ⟨_, rfl, ?_⟩
    change (guardianWindowClose i s).net.windows.any (fun w => w.1 == i) = false
    rw [guardianWindowClose_closes act guard open_, List.any_filter]
    simp

end Sys2Proof.Machine
end

section
/-! PROOFS. What a lane instruction does on a lane that issues, for each form of body (R151 to R169). -/

namespace Sys2Proof.Machine
variable {n : Fin 16} {c : Instr} {s t : State} {rd ra rb : BitVec 5} {imm : BitVec 16} {v : Word} {lat : Nat} {body : Body}

/-! ### One instruction -/

/-- An instruction command on a lane that issues leaves what the issue of its body leaves. -/
theorem does_issue {P : State → Prop} (h : s.issues n) (hc : exec c s = .next (s.command n body))
    (hp : P (s.issue n body)) : Does c s P :=
  ⟨_, hc.trans (congrArg _ (command_eq h body)), hp⟩

theorem Does.mono {P Q : State → Prop} (h : Does c s P) (imp : ∀ t, P t → Q t) : Does c s Q := by
  obtain ⟨t, next, holds⟩ := h
  exact ⟨t, next, imp t holds⟩

/-- A result on one register and QA, in sequence; `t` is the state that the body leaves. -/
theorem does_writes {qa : BitVec 8} (h : s.issues n) (hc : exec c s = .next (s.command n body))
    (hb : body s s.lanes[n].main = (t, .write { s.lanes[n].main with qa := qa } rd v lat))
    (hl : t.lanes[n].main = s.lanes[n].main) : Does c s (Writes n rd v qa t) :=
  does_issue h hc (issue_writes h hb hl)

/-- A jump: one register and the PC. -/
theorem does_jumps {pc : Word} (h : s.issues n) (hc : exec c s = .next (s.command n body))
    (hb : body s s.lanes[n].main = (s, .done ((s.lanes[n].main.put rd v).jump pc) lat)) :
    Does c s (Leaves n rd v (s.qa n) pc s) := by
  refine does_issue h hc ?_
  rw [issue_done h hb]
  exact laneDone_leaves (fun r => get_put _ rd r v) (put_qa _ _ _) rfl (put_tc _ _ _)

theorem put_zero (c : Core) (v : Word) : c.put 0 v = c := if_pos rfl

/-! ### Register pairs (R152) -/

theorem get_putPair (c : Core) {rd : BitVec 5} (v : BitVec 64) (nonzero : rd ≠ 0) (even : rd.toNat % 2 = 0) (r : BitVec 5) :
    (c.putPair rd v).get r = if r = rd then v.setWidth 32 else if r = rd + 1 then v.extractLsb' 32 32 else c.get r := by
  have succ : rd + 1 ≠ 0 := by bv_omega
  have apart : rd ≠ rd + 1 := by bv_omega
  rw [Core.putPair, get_put, get_put]
  by_cases low : r = rd
  · rw [if_neg (fun h => apart (low.symm.trans h.1)), if_pos ⟨low, nonzero⟩, if_pos low]
  · rw [if_neg (show ¬ (r = rd ∧ rd ≠ 0) from fun h => low h.1), if_neg low]
    exact if_congr (and_iff_left succ) rfl rfl

theorem pairOk_iff : pairOk rd = true ↔ rd ≠ 0 ∧ rd.toNat % 2 = 0 := by simp [pairOk]

/-- A result on a register pair, in sequence. -/
theorem does_writesPair {v : BitVec 64} (h : s.issues n) (nonzero : rd ≠ 0) (even : rd.toNat % 2 = 0)
    (hc : exec c s = .next (s.command n body))
    (hb : body s s.lanes[n].main = (s, .done (s.lanes[n].main.putPair rd v).seq lat)) : Does c s (WritesPair n rd v s) := by
  refine does_issue h hc ?_
  rw [issue_done h hb]
  refine ⟨fun r => ?_, ?_, ?_, ?_, laneDone_frame _ _ _⟩
  · rw [State.g, laneDone_lane]
    exact get_putPair _ v nonzero even r
  · rw [State.qa, laneDone_lane]
    exact (put_qa _ _ _).trans (put_qa _ _ _)
  · rw [State.pc, laneDone_lane]
    exact congrArg (· + 4) ((put_pc _ _ _).trans (put_pc _ _ _))
  · rw [laneDone_lane]
    exact (put_tc _ _ _).trans (put_tc _ _ _)

/-! ### Clamped results (R153) -/

theorem clampS_toInt (z : Int) : (clampS z).1.toInt = max (-2147483648) (min 2147483647 z) := by
  unfold clampS
  split
  · rw [show (0x80000000 : Word).toInt = -2147483648 by decide]
    omega
  · split
    · rw [show (0x7FFFFFFF : Word).toInt = 2147483647 by decide]
      omega
    · rw [BitVec.toInt_ofInt, Int.bmod_eq_of_le (by omega) (by omega)]
      omega

/-- A clamp is reported if and only if it changes the value. -/
theorem clampS_snd (z : Int) : (clampS z).2 = decide ((clampS z).1.toInt ≠ z) := by
  rw [clampS_toInt]
  unfold clampS
  split
  · exact (decide_eq_true (by omega)).symm
  · split
    · exact (decide_eq_true (by omega)).symm
    · exact (decide_eq_false (by omega)).symm

/-- A flag that takes the report of a clamp. -/
theorem clampS_flag (qa b : BitVec 8) (z : Int) :
    (if (clampS z).2 then qa ||| b else qa) = if (clampS z).1.toInt = z then qa else qa ||| b := by
  rw [clampS_snd]
  simp only [decide_eq_true_eq, ne_eq, ite_not]

/-! ### The forms of bodies -/

theorem does_aluT {f : Word → Word → Word} (h : s.issues n) (hc : exec c s = .next (s.command n (aluT f rd ra rb)))
    (hv : f (s.g n ra) (s.g n rb) = v) : Does c s (Writes n rd v (s.qa n) s) :=
  hv ▸ does_writes h hc rfl rfl

theorem does_aluK {f : Word → BitVec 16 → Word} (h : s.issues n) (hc : exec c s = .next (s.command n (aluK f rd ra imm)))
    (hv : f (s.g n ra) imm = v) : Does c s (Writes n rd v (s.qa n) s) :=
  hv ▸ does_writes h hc rfl rfl

theorem does_divT {f : Word → Word → Word × Bool} (h : s.issues n) (nonzero : s.g n rb ≠ 0)
    (hc : exec c s = .next (s.command n (divT f rd ra rb))) :
    Does c s (Writes n rd (f (s.g n ra) (s.g n rb)).1 (qaSet (s.qa n) qSAT (f (s.g n ra) (s.g n rb)).2) s) :=
  does_writes h hc (by rw [divT, pureBody]; exact congrArg _ (if_neg nonzero)) rfl

theorem does_satT {f : Word → Word → Word × Bool} (h : s.issues n)
    (hc : exec c s = .next (s.command n (satT lat f rd ra rb))) :
    Does c s (Writes n rd (f (s.g n ra) (s.g n rb)).1 (qaSet (s.qa n) qSAT (f (s.g n ra) (s.g n rb)).2) s) :=
  does_writes h hc rfl rfl

theorem does_fltT {f : Word → Word → FRes} (h : s.issues n) (hc : exec c s = .next (s.command n (fltT lat f rd ra rb))) :
    Does c s (Writes n rd (f (s.g n ra) (s.g n rb)).val (qaFloat (s.qa n) (f (s.g n ra) (s.g n rb))) s) :=
  does_writes h hc rfl rfl

theorem does_fltU {f : Word → FRes} (h : s.issues n) (hc : exec c s = .next (s.command n (fltU lat f rd ra 0))) :
    Does c s (Writes n rd (f (s.g n ra)).val (qaFloat (s.qa n) (f (s.g n ra))) s) :=
  does_writes h hc rfl rfl

end Sys2Proof.Machine
end

section
/-! PROOFS. The statements of 05_lanes.md about integers: the operations of opcode 0x01, the constant operations, products,
quotients and clamped results (O8, O9). -/

namespace Sys2Proof.Machine
variable {n : Fin 16} {c : Instr} {s : State} {rd ra rb : BitVec 5} {imm : BitVec 16} {a b v : Word} {lat : Nat}

/-! ### Comparisons and shifts (R153, R154) -/

theorem cmpWord_decide (p : Prop) [Decidable p] : cmpWord (decide p) = if p then 1 else 0 := by
  by_cases h : p <;> simp [cmpWord, b2n, h]

theorem toInt_sext16 (imm : BitVec 16) : (sext16 imm).toInt = imm.toInt :=
  BitVec.toInt_signExtend_of_le (by norm_num)

/-- The smaller and the larger of two operands, as the model and as the statement choose them. -/
theorem ite_le_eq_ite_lt {α β : Type} [LinearOrder β] (f : α → β) (inj : Function.Injective f) (a b : α) :
    (if f a ≤ f b then a else b) = (if f a < f b then a else b) ∧
      (if f a ≤ f b then b else a) = if f b < f a then a else b := by
  rcases lt_trichotomy (f a) (f b) with lt | eq | gt
  · exact ⟨by rw [if_pos lt.le, if_pos lt], by rw [if_pos lt.le, if_neg lt.not_gt]⟩
  · rw [inj eq]
    exact ⟨by rw [ite_self, ite_self], by rw [ite_self, ite_self]⟩
  · exact ⟨by rw [if_neg gt.not_ge, if_neg gt.not_gt], by rw [if_neg gt.not_ge, if_pos gt]⟩

theorem toInt_injective : Function.Injective (BitVec.toInt (n := 32)) := fun _ _ => BitVec.eq_of_toInt_eq

theorem toNat_injective : Function.Injective (BitVec.toNat (w := 32)) := fun _ _ => BitVec.eq_of_toNat_eq

theorem does_shk (h : s.issues n) (kind : imm.toNat < 96) : Does (.shk n rd ra imm) s (Writes n rd
    (if imm.toNat < 32 then s.g n ra <<< imm.toNat else if imm.toNat < 64 then s.g n ra >>> (imm.toNat - 32)
      else (s.g n ra).sshiftRight (imm.toNat - 64)) (s.qa n) s) := by
  refine does_writes (lat := 1) (t := s) h rfl (congrArg (Prod.mk s) ?_) rfl
  change (if imm.toNat / 128 ≠ 0 then CoreRes.mustBe0 else _) = _
  rw [if_neg (by omega)]
  rcases lt_or_ge imm.toNat 32 with sll | ge
  · rw [show imm.toNat / 32 % 4 = 0 by omega, show imm.toNat % 32 = imm.toNat by omega, if_pos sll]
    rfl
  · rw [if_neg (not_lt.mpr ge)]
    rcases lt_or_ge imm.toNat 64 with srl | ge'
    · rw [show imm.toNat / 32 % 4 = 1 by omega, show imm.toNat % 32 = imm.toNat - 32 by omega, if_pos srl]
      rfl
    · rw [show imm.toNat / 32 % 4 = 2 by omega, show imm.toNat % 32 = imm.toNat - 64 by omega, if_neg (not_lt.mpr ge')]
      rfl

/-- Settles O8. -/
theorem laneIntegerAndConstant : Obligations.LaneIntegerAndConstant := by
  unfold Obligations.LaneIntegerAndConstant
  refine ⟨fun n rd ra rb s h => ?_, fun n rd ra imm s h => ?_, fun n rd ra imm s h kind => does_shk h kind,
    fun n rd imm s h => does_writes h rfl rfl rfl⟩
  · obtain ⟨min, max⟩ := ite_le_eq_ite_lt _ toInt_injective (s.g n ra) (s.g n rb)
    obtain ⟨minu, maxu⟩ := ite_le_eq_ite_lt _ toNat_injective (s.g n ra) (s.g n rb)
    exact ⟨does_aluT h rfl rfl, does_aluT h rfl rfl, does_aluT h rfl rfl, does_aluT h rfl rfl, does_aluT h rfl rfl,
      does_aluT h rfl rfl, does_aluT h rfl rfl, does_aluT h rfl rfl, does_aluT h rfl (cmpWord_decide _),
      does_aluT h rfl (cmpWord_decide _), does_aluT h rfl min, does_aluT h rfl max, does_aluT h rfl minu,
      does_aluT h rfl maxu⟩
  · refine ⟨does_aluK h rfl rfl, does_aluK h rfl rfl, does_aluK h rfl rfl, does_aluK h rfl rfl, does_aluK h rfl ?_⟩
    rw [cmpWord_decide, toInt_sext16]

/-! ### Quotients and clamped results (R153, R155) -/

/-- A flag that takes the report of a clamp, and the clamped value. -/
theorem clampS_spec (qa : BitVec 8) (z : Int) : (clampS z).1.toInt = max (-2147483648) (min 2147483647 z)
    ∧ qaSet qa qSAT (clampS z).2 = if (clampS z).1.toInt = z then qa else qa ||| 0x10 :=
  ⟨clampS_toInt z, clampS_flag qa 0x10 z⟩

theorem clampU_toNat (z : Int) : ((clampU z).1.toNat : Int) = max 0 (min 4294967295 z) := by
  unfold clampU
  split
  · simp
    omega
  · split
    · simp
      omega
    · rw [BitVec.toNat_ofInt]
      omega

theorem clampU_spec (qa : BitVec 8) (z : Int) : ((clampU z).1.toNat : Int) = max 0 (min 4294967295 z)
    ∧ qaSet qa qSAT (clampU z).2 = if ((clampU z).1.toNat : Int) = z then qa else qa ||| 0x10 := by
  refine ⟨clampU_toNat z, ?_⟩
  rw [clampU_toNat]
  unfold clampU
  split
  · exact (if_neg (by omega)).symm
  · split
    · exact (if_neg (by omega)).symm
    · exact (if_pos (by omega)).symm

theorem does_clampS {f : Word → Word → Int} (h : s.issues n)
    (hc : exec c s = .next (s.command n (satT lat (fun a b => clampS (f a b)) rd ra rb))) : Does c s fun t => ∃ w q,
    Writes n rd w q s t ∧ w.toInt = max (-2147483648) (min 2147483647 (f (s.g n ra) (s.g n rb)))
      ∧ q = if w.toInt = f (s.g n ra) (s.g n rb) then s.qa n else s.qa n ||| 0x10 :=
  (does_satT h hc).mono fun _ writes => ⟨_, _, writes, clampS_spec _ _⟩

theorem does_clampU {f : Word → Word → Int} (h : s.issues n)
    (hc : exec c s = .next (s.command n (satT lat (fun a b => clampU (f a b)) rd ra rb))) : Does c s fun t => ∃ w q,
    Writes n rd w q s t ∧ (w.toNat : Int) = max 0 (min 4294967295 (f (s.g n ra) (s.g n rb)))
      ∧ q = if (w.toNat : Int) = f (s.g n ra) (s.g n rb) then s.qa n else s.qa n ||| 0x10 :=
  (does_satT h hc).mono fun _ writes => ⟨_, _, writes, clampU_spec _ _⟩

/-- A quotient of words is not below the signed range, so only its upper end clamps. -/
theorem tdiv_ge (a b : Word) : -2147483648 ≤ a.toInt.tdiv b.toInt := by
  have lo := BitVec.le_toInt a
  have hi := BitVec.toInt_lt (x := a)
  have mag := Int.natAbs_tdiv_le_natAbs a.toInt b.toInt
  omega

/-- The remainder of a signed division is a word. -/
theorem toInt_ofInt_tmod (a b : Word) : (BitVec.ofInt 32 (a.toInt.tmod b.toInt)).toInt = a.toInt.tmod b.toInt := by
  have lo := BitVec.le_toInt a
  have hi := BitVec.toInt_lt (x := a)
  have mag := Int.natAbs_tmod a.toInt b.toInt
  have le := Nat.mod_le a.toInt.natAbs b.toInt.natAbs
  have nonpos : a.toInt ≤ 0 → a.toInt.tmod b.toInt ≤ 0 := fun h => by
    have := Int.tmod_nonneg b.toInt (Int.neg_nonneg.mpr h)
    rw [Int.neg_tmod] at this
    omega
  rw [BitVec.toInt_ofInt, Int.bmod_eq_of_le (by omega) (by omega)]

theorem does_mulPair {f : Word → Word → Int} {v : BitVec 64} (h : s.issues n) (nonzero : rd ≠ 0) (even : rd.toNat % 2 = 0)
    (hc : exec c s = .next (s.command n (mulPair f rd ra rb))) (hv : BitVec.ofInt 64 (f (s.g n ra) (s.g n rb)) = v) :
    Does c s (WritesPair n rd v s) :=
  hv ▸ does_writesPair h nonzero even hc (congrArg _ (if_pos (pairOk_iff.mpr ⟨nonzero, even⟩)))

theorem does_div (h : s.issues n) (nonzero : s.g n rb ≠ 0) : Does (.div n rd ra rb) s fun t => ∃ w q,
    Writes n rd w q s t ∧ w.toInt = min 2147483647 ((s.g n ra).toInt.tdiv (s.g n rb).toInt)
      ∧ q = if w.toInt = (s.g n ra).toInt.tdiv (s.g n rb).toInt then s.qa n else s.qa n ||| 0x10 := by
  refine (does_divT h nonzero rfl).mono fun _ writes => ⟨_, _, writes, ?_, (clampS_spec _ _).2⟩
  have ge := tdiv_ge (s.g n ra) (s.g n rb)
  rw [divS, clampS_toInt]
  omega

theorem does_addsk (h : s.issues n) : Does (.addsk n rd ra imm) s fun t => ∃ w q, Writes n rd w q s t
    ∧ w.toInt = max (-2147483648) (min 2147483647 ((s.g n ra).toInt + imm.toInt))
      ∧ q = if w.toInt = (s.g n ra).toInt + imm.toInt then s.qa n else s.qa n ||| 0x10 := by
  have done : Does (.addsk n rd ra imm) s _ := does_writes h rfl rfl rfl
  rw [← toInt_sext16 imm]
  exact done.mono fun _ writes => ⟨_, _, writes, clampS_spec _ _⟩

/-- Settles O9. -/
theorem laneMultiplyAndSaturate : Obligations.LaneMultiplyAndSaturate := by
  unfold Obligations.LaneMultiplyAndSaturate
  refine ⟨fun n rd ra rb s h => does_writes h rfl rfl rfl,
    fun n rd ra rb s h nonzero even => ⟨does_mulPair h nonzero even rfl rfl, ?_⟩,
    fun n rd ra rb s h nonzero => ⟨does_div h nonzero, ?_, ?_, ?_⟩,
    fun n rd ra rb s h => ⟨does_clampS (f := fun a b => a.toInt + b.toInt) h rfl,
      does_clampS (f := fun a b => a.toInt - b.toInt) h rfl, does_clampS (f := fun a b => a.toInt * b.toInt) h rfl,
      does_clampU (f := fun a b => a.toNat + b.toNat) h rfl, does_clampU (f := fun a b => a.toNat - b.toNat) h rfl⟩,
    fun n rd ra imm s h => does_addsk h⟩
  · exact does_mulPair h nonzero even rfl (by rw [← Nat.cast_mul, BitVec.ofInt_natCast])
  · exact (does_divT h nonzero rfl).mono fun t writes => ⟨_, writes, BitVec.toNat_udiv⟩
  · exact (does_divT h nonzero rfl).mono fun t writes => ⟨_, writes, toInt_ofInt_tmod _ _⟩
  · exact (does_divT h nonzero rfl).mono fun t writes => ⟨_, writes, BitVec.toNat_umod⟩

end Sys2Proof.Machine
end

section
/-! PROOFS. The statement of 05_lanes.md about bit fields, the quality accumulator and TIME (O14). -/

namespace Sys2Proof.Machine
variable {n : Fin 16} {c : Instr} {s : State} {rd ra pos wm1 : BitVec 5} {i p w : Nat}

/-! ### The bits of a field (R160) -/

theorem getLsbD_extField (a : Word) (hi : i < 32) :
    (extField a p (w + 1)).getLsbD i = (decide (i ≤ w) && a.getLsbD (p + i)) := by
  rw [extField, BitVec.getLsbD_ofNat, Nat.testBit_mod_two_pow, Nat.testBit_shiftRight, BitVec.testBit_toNat, decide_eq_true hi,
    Bool.true_and, decide_eq_decide.mpr Nat.lt_succ_iff]

/-- A sign extension is the number less 2^w if the top bit is set. -/
theorem signExtend_eq (x : BitVec (w + 1)) :
    x.signExtend 32 = BitVec.ofInt 32 (if 2 ^ w ≤ x.toNat then (x.toNat : Int) - 2 ^ (w + 1) else x.toNat) := by
  have twice : 2 ^ (w + 1) = 2 * 2 ^ w := pow_succ' 2 w
  rw [BitVec.signExtend, BitVec.toInt_eq_toNat_cond]
  rcases Nat.lt_or_ge x.toNat (2 ^ w) with low | high
  · rw [if_neg (not_le.mpr low), if_pos (by omega)]
  · rw [if_pos high, if_neg (by omega)]
    push_cast
    rfl

/-- EXTS extends the field with its sign. -/
theorem extSField_eq_signExtend (a : Word) : extSField a p (w + 1) = (a.extractLsb' p (w + 1)).signExtend 32 := by
  rw [signExtend_eq, extSField, BitVec.extractLsb'_toNat]
  rfl

theorem getLsbD_extSField (a : Word) (hi : i < 32) :
    (extSField a p (w + 1)).getLsbD i = a.getLsbD (p + min i w) := by
  rw [extSField_eq_signExtend, BitVec.getLsbD_signExtend, decide_eq_true hi, Bool.true_and]
  split
  · rename_i inside
    rw [BitVec.getLsbD_extractLsb', decide_eq_true inside, Bool.true_and, min_eq_left (by omega)]
  · rename_i above
    rw [BitVec.msb_eq_getLsbD_last, BitVec.getLsbD_extractLsb', decide_eq_true (by omega), Bool.true_and,
      min_eq_right (by omega)]
    rfl

/-- The bits of a word with a range replaced. -/
theorem getLsbD_withBits (d : Word) {hi lo : Nat} (v : Nat) (range : i < 32) :
    (withBits d hi lo v).getLsbD i = if lo ≤ i ∧ i ≤ hi then v.testBit (i - lo) else d.getLsbD i := by
  rw [withBits]
  simp only [BitVec.getLsbD_or, BitVec.getLsbD_and, BitVec.getLsbD_not, BitVec.getLsbD_ofNat, Nat.testBit_shiftLeft,
    Nat.testBit_two_pow_sub_one, decide_eq_true range, Bool.true_and]
  by_cases low : lo ≤ i
  · by_cases high : i ≤ hi
    · simp [low, high, show i - lo < hi + 1 - lo by omega]
    · simp [low, high, show ¬ i - lo < hi + 1 - lo by omega]
  · simp [low]

theorem getLsbD_insField (d a : Word) (hi : i < 32) : (insField d a p (w + 1)).getLsbD i
    = if p ≤ i ∧ i ≤ p + w then a.getLsbD (i - p) else d.getLsbD i := by
  rw [insField, getLsbD_withBits _ _ hi, Nat.testBit_mod_two_pow, BitVec.testBit_toNat, show p + (w + 1) - 1 = p + w by omega]
  split
  · rw [decide_eq_true (by omega), Bool.true_and]
  · rfl

theorem does_fieldBody {f : Word → Word → Nat → Nat → Word} (h : s.issues n) (fits : pos.toNat + wm1.toNat < 32)
    (hc : exec c s = .next (s.command n (fieldBody f rd ra pos wm1 0))) :
    Does c s (Writes n rd (f (s.g n rd) (s.g n ra) pos.toNat (wm1.toNat + 1)) (s.qa n) s) :=
  does_writes h hc (congrArg _ ((if_neg (not_not.mpr rfl)).trans (if_neg (by omega)))) rfl

/-! ### QMRG (R161) -/

theorem does_qmrg (h : s.issues n) :
    Does (.qmrg n 0 ra 0) s (Writes n 0 0 (qaMerge (s.qa n) ((s.g n ra).setWidth 4)) s) := by
  refine does_writes (t := s) (lat := 1) h rfl ?_ rfl
  rw [CoreRes.write, put_zero]
  rfl

/-- Settles O14. -/
theorem laneFieldsAndQuality : Obligations.LaneFieldsAndQuality := by
  unfold Obligations.LaneFieldsAndQuality
  refine ⟨fun n rd ra pos wm1 s h fits => ⟨?_, ?_, ?_⟩, fun n ra s h => does_qmrg h,
    fun n rd s h => ⟨does_writes h rfl rfl rfl, does_writes h rfl rfl rfl⟩,
    fun n rd s h nonzero even => does_writesPair h nonzero even rfl
      (congrArg _ ((if_neg (by simp)).trans (if_pos (pairOk_iff.mpr ⟨nonzero, even⟩))))⟩
  · have done : Does (.ext n rd ra pos wm1 0) s (Writes n rd (extField (s.g n ra) pos.toNat (wm1.toNat + 1)) (s.qa n) s) :=
      does_fieldBody (f := fun _ => extField) h fits rfl
    exact done.mono fun t writes => ⟨_, writes, fun i hi => getLsbD_extField _ hi⟩
  · have done : Does (.exts n rd ra pos wm1 0) s (Writes n rd (extSField (s.g n ra) pos.toNat (wm1.toNat + 1)) (s.qa n) s) :=
      does_fieldBody (f := fun _ => extSField) h fits rfl
    exact done.mono fun t writes => ⟨_, writes, fun i hi => getLsbD_extSField _ hi⟩
  · have done : Does (.ins n rd ra pos wm1 0) s
        (Writes n rd (insField (s.g n rd) (s.g n ra) pos.toNat (wm1.toNat + 1)) (s.qa n) s) :=
      does_fieldBody (f := insField) h fits rfl
    exact done.mono fun t writes => ⟨_, writes, fun i hi => getLsbD_insField _ _ hi⟩

end Sys2Proof.Machine
end

section
/-! PROOFS. The statement of 05_lanes.md about loads and stores (O12). -/

namespace Sys2Proof.Machine
variable {n : Fin 16} {c : Instr} {s t : State} {rd rs ra : BitVec 5} {imm : BitVec 16} {a v : Word} {body : Body}

/-! ### The value of a load (R158) -/

theorem leNat_lt : ∀ l : Bytes, leNat l < 256 ^ l.length
  | [] => Nat.one_pos
  | b :: r => by
    have := leNat_lt r
    have := b.isLt
    rw [leNat, List.length_cons, pow_succ]
    omega

theorem plyBytes_length (s : State) (n : Fin 16) : ∀ (a k : Nat), (s.plyBytes n a k).length = k
  | _, 0 => rfl
  | a, k + 1 => by rw [State.plyBytes, List.length_cons, plyBytes_length s n (a + 1) k]

/-- A load of less than a word is not from the register window, and its bytes are within its size. -/
theorem loadValue_lt {a size : Nat} (part : size ≠ 4) (allowed : s.loadProt n a size false = none) :
    s.loadValue n a size < 256 ^ size := by
  have memory : laneRange a ≠ .regs := fun regs => by simp [State.loadProt, regs, part] at allowed
  rw [State.loadValue, if_neg memory]
  exact (leNat_lt _).trans_eq (by rw [plyBytes_length])

/-- The word that a load of `size` bytes makes of the value `v`. -/
def loadWord (size : Nat) (signed : Bool) (v : Nat) : Word :=
  if signed && decide (2 ^ (8 * size - 1) ≤ v) then BitVec.ofInt 32 ((v : Int) - 2 ^ (8 * size)) else BitVec.ofNat 32 v

theorem loadWord_signed {k v : Nat} (lt : v < 2 ^ (8 * k + 7 + 1)) :
    loadWord (k + 1) true v = (BitVec.ofNat (8 * k + 7 + 1) v).signExtend 32 := by
  rw [signExtend_eq, BitVec.toNat_ofNat, Nat.mod_eq_of_lt lt, loadWord, Bool.true_and, apply_ite (BitVec.ofInt 32),
    BitVec.ofInt_natCast]
  simp only [decide_eq_true_eq]
  rfl

theorem loadWord_unsigned {w size v : Nat} (lt : v < 2 ^ w) :
    loadWord size false v = (BitVec.ofNat w v).setWidth 32 := by
  refine BitVec.eq_of_toNat_eq ?_
  rw [loadWord, Bool.false_and, if_neg Bool.false_ne_true, BitVec.toNat_setWidth, BitVec.toNat_ofNat, BitVec.toNat_ofNat,
    Nat.mod_eq_of_lt lt]

theorem noteRead_main (s : State) (n : Fin 16) (a : Nat) : (s.noteRead n a).lanes[n].main = s.lanes[n].main := by
  unfold State.noteRead
  split
  · dsimp only
    split
    · rfl
    · rw [modLane_lanes_self]
  · rfl

theorem does_load {size : Nat} {signed : Bool} (h : s.issues n)
    (hc : exec c s = .next (s.command n (loadBody n size signed rd ra imm))) (ha : a = s.g n ra + imm.signExtend 32)
    (aligned : a.toNat % size = 0) (allowed : s.loadProt n a.toNat size false = none)
    (clean : s.loadPoisoned n a.toNat = false) (hv : loadWord size signed (s.loadValue n a.toNat size) = v) :
    Does c s (Writes n rd v (s.qa n) (s.noteRead n a.toNat)) := by
  have ea : a = s.lanes[n].main.get ra + sext16 imm := ha
  refine hv ▸ does_writes (lat := loadLat (laneRange a.toNat)) h hc ?_ (noteRead_main s n a.toNat)
  simp only [loadBody, ← ea, aligned, allowed, clean, ne_eq, not_true_eq_false, Bool.false_eq_true, if_false]
  rfl

theorem does_qld (h : s.issues n) (ha : a = s.g n ra + imm.signExtend 32) (aligned : a.toNat % 4 = 0)
    (allowed : s.loadProt n a.toNat 4 true = none) (clean : s.loadPoisoned n a.toNat = false) :
    Does (.qld n rd ra imm) s (Writes n rd ((s.plyImemQual n (a.toNat - 0x10000000)).setWidth 32)
      (qaMerge (s.qa n) (s.plyImemQual n (a.toNat - 0x10000000))) (s.noteRead n a.toNat)) := by
  have ea : a = s.lanes[n].main.get ra + sext16 imm := ha
  refine does_writes (lat := 4) (body := insQld n rd ra imm) h rfl ?_ (noteRead_main s n a.toNat)
  simp only [insQld, qldBody, ← ea, aligned, allowed, clean, ne_eq, not_true_eq_false, Bool.false_eq_true, if_false]
  rfl

/-! ### Stores (R148, R158, R171) -/

theorem storeDtcm_main (s : State) (n : Fin 16) (a : Nat) (l : Bytes) :
    (s.storeDtcm n a l).lanes[n].main = s.lanes[n].main := by
  unfold State.storeDtcm
  split
  · rfl
  · rw [modLane_lanes_self]

theorem storeImem_main (s : State) (n : Fin 16) (a : Nat) (w : Option Word) (q : BitVec 4) :
    (s.storeImem n a w q).lanes[n].main = s.lanes[n].main := by
  unfold State.storeImem
  rw [modLane_lanes_self]

/-- A body that makes a store and moves on. -/
theorem does_stores (h : s.issues n) (hc : exec c s = .next (s.command n body))
    (hb : body s s.lanes[n].main = (t, .done s.lanes[n].main.seq 1)) (hl : t.lanes[n].main = s.lanes[n].main) :
    Does c s (Stores n t) := by
  have same : t.qa n = s.lanes[n].main.qa := congrArg Core.qa hl
  rw [show Stores n t = Writes n 0 0 (s.lanes[n].main.qa) t by rw [← same]; rfl]
  refine does_writes (lat := 1) h hc (hb.trans ?_) hl
  rw [CoreRes.write, put_zero]

theorem does_storeDtcm {size : Nat} (h : s.issues n) (hc : exec c s = .next (s.command n (storeBody n size rs ra imm)))
    (ha : a = s.g n ra + imm.signExtend 32) (aligned : a.toNat % size = 0)
    (allowed : s.storeProt n a.toNat (size != 4) false = none) (dtcm : laneRange a.toNat = .dtcm) :
    Does c s (Stores n (s.storeDtcm n a.toNat ((toLe 4 (s.g n rs).toNat).take size))) := by
  have ea : a = s.lanes[n].main.get ra + sext16 imm := ha
  refine does_stores h hc ?_ (storeDtcm_main ..)
  simp only [storeBody, ← ea, aligned, allowed, dtcm, ne_eq, not_true_eq_false, if_false, reduceCtorEq]
  rfl

theorem does_storeImem (h : s.issues n) (ha : a = s.g n ra + imm.signExtend 32) (aligned : a.toNat % 4 = 0)
    (allowed : s.storeProt n a.toNat false false = none) (imem : laneRange a.toNat = .imem) :
    Does (.stw n rs ra imm) s (Stores n (s.storeImem n a.toNat (some (s.g n rs)) ((s.qa n).extractLsb' 0 4))) := by
  have ea : a = s.lanes[n].main.get ra + sext16 imm := ha
  refine does_stores (body := insStw n rs ra imm) h rfl ?_ (storeImem_main ..)
  simp only [insStw, storeBody, ← ea, aligned, bne_self_eq_false, allowed, imem, ne_eq, not_true_eq_false, if_false, if_true]
  rfl

theorem does_stq (h : s.issues n) (ha : a = s.g n ra + imm.signExtend 32) (aligned : a.toNat % 4 = 0)
    (allowed : s.storeProt n a.toNat false true = none) :
    Does (.stq n rs ra imm) s (Stores n (s.storeImem n a.toNat none ((s.g n rs).setWidth 4))) := by
  have ea : a = s.lanes[n].main.get ra + sext16 imm := ha
  refine does_stores (body := insStq n rs ra imm) h rfl ?_ (storeImem_main ..)
  simp only [insStq, stqBody, ← ea, aligned, allowed, ne_eq, not_true_eq_false, if_false]
  rfl

/-- Settles O12. -/
theorem laneLoadsAndStores : Obligations.LaneLoadsAndStores := by
  unfold Obligations.LaneLoadsAndStores
  refine ⟨fun n rd ra imm a s h ha aligned allowed clean => does_load h rfl ha aligned allowed clean rfl,
    fun n rd ra imm a s h ha aligned allowed clean => ?_, fun n rd ra imm a s h ha allowed clean => ?_,
    fun n rd ra imm a s h ha aligned allowed clean => does_qld h ha aligned allowed clean,
    fun n rs ra imm a s h ha aligned allowed => ⟨does_storeDtcm h rfl ha aligned allowed,
      does_storeImem h ha aligned allowed⟩,
    fun n rs ra imm a s h ha aligned allowed => does_storeDtcm h rfl ha aligned allowed,
    fun n rs ra imm a s h ha allowed => does_storeDtcm h rfl ha (Nat.mod_one _) allowed,
    fun n rs ra imm a s h ha aligned allowed => does_stq h ha aligned allowed⟩
  · have lt := loadValue_lt (by norm_num) allowed
    exact ⟨does_load h rfl ha aligned allowed clean (loadWord_signed (k := 1) lt),
      does_load h rfl ha aligned allowed clean (loadWord_unsigned lt)⟩
  · have lt := loadValue_lt (by norm_num) allowed
    exact ⟨does_load h rfl ha (Nat.mod_one _) allowed clean (loadWord_signed (k := 0) lt),
      does_load h rfl ha (Nat.mod_one _) allowed clean (loadWord_unsigned lt)⟩

end Sys2Proof.Machine
end

section
/-! PROOFS. The statement of 05_lanes.md about jumps and PLYEND (O13). -/

namespace Sys2Proof.Machine
variable {n : Fin 16} {s : State} {rd ra rb : BitVec 5} {imm : BitVec 16} {p : Ply}

/-! ### Jumps (R159) -/

theorem does_jc {cond : BitVec 4} {off : BitVec 12} {x : Bool} (h : s.issues n)
    (holds : jcHolds cond (s.g n ra) (s.g n rb) = some x) (unused : cond.toNat < 6 ∨ rb = 0) :
    Does (.jc n cond ra rb off) s
      (Leaves n 0 0 (s.qa n) (if x then s.pc n + 4 + off.signExtend 32 * 4 else s.pc n + 4) s) := by
  have zero : ¬ (6 ≤ cond.toNat ∧ cond.toNat ≤ 9 ∧ rb ≠ 0) := fun ⟨ge, _, nonzero⟩ =>
    unused.elim (fun lt => absurd ge (not_le.mpr lt)) nonzero
  refine does_jumps (body := insJc cond ra rb off) (lat := if x then 2 else 1) h rfl ?_
  rw [put_zero]
  refine congrArg (Prod.mk s) ((if_neg zero).trans ?_)
  have holds' : jcHolds cond (s.lanes[n].main.get ra) (s.lanes[n].main.get rb) = some x := holds
  rw [holds']
  cases x <;> rfl

theorem does_callr (h : s.issues n) (aligned : (s.g n ra + imm.signExtend 32).toNat % 4 = 0) :
    Does (.callr n rd ra imm) s (Leaves n rd (s.pc n + 4) (s.qa n) (s.g n ra + imm.signExtend 32) s) :=
  does_jumps (body := callrBody rd ra imm) h rfl (congrArg _ (if_neg (not_not.mpr aligned)))

/-! ### PLYEND (R119, R169, R171) -/

/-- Two registers of a lane's page at different offsets. -/
theorem lanePage_ne {k i j : Nat} (h : i ≠ j) : k * 0x1000 + i ≠ k * 0x1000 + j := fun eq => h (Nat.add_left_cancel eq)

theorem reg_peak_ne {k j hi lo v : Nat} (h : j ≠ k) : (s.peak k hi lo v).reg j = s.reg j := by
  unfold State.peak
  split
  · exact State.reg_setFld_ne h
  · rfl

theorem laneDone_reg (c : Core) (pc : Word) (lat k : Nat) : (s.laneDone n c pc lat).reg k = s.reg k := rfl

theorem laneDone_mem (c : Core) (pc : Word) (lat : Nat) : (s.laneDone n c pc lat).mem = s.mem := rfl

/-- The ply of the lane is ready, its cycles recorded (R169). -/
def State.plyReady (s : State) (n : Fin 16) (p : Ply) : State :=
  ((s.setReg (Reg.laneCycLast n) (BitVec.ofNat 32 (s.lanes[n].cyc + 1))).peak (Reg.laneCycMax n) 31 0
    (s.lanes[n].cyc + 1)).modLane n fun l => { l with
      ply := some { p with phase := .ready }
      trace := modAt l.trace 0 fun t => { t with cyc := s.lanes[n].cyc + 1 } }

theorem insPlyend_ply (ply : s.lanes[n].ply = some p) (c : Core) :
    insPlyend n 0 0 0 s c = (s.plyReady n p, .done c.seq 1) := by
  rw [insPlyend, plyendBody, if_neg (by simp)]
  simp only [ply]
  rfl

theorem insPlyend_job (none' : s.lanes[n].ply = none) (job : s.lanes[n].state ≠ .bench) (c : Core) :
    insPlyend n 0 0 0 s c = (s.saveJob n (jobState s.lanes[n].jobStat 2) (lclkNs 40), .done c.seq 1) := by
  rw [insPlyend, plyendBody, if_neg (by simp)]
  simp only [none', if_neg job]

theorem insPlyend_bench (none' : s.lanes[n].ply = none) (bench : s.lanes[n].state = .bench) (c : Core) :
    insPlyend n 0 0 0 s c = (s.modLane n (fun l => { l with halted := true }), .done c.seq 1) := by
  rw [insPlyend, plyendBody, if_neg (by simp)]
  simp only [none', if_pos bench]

/-- PLYEND on a lane that issues: what its body leaves, and the lane one instruction on. -/
theorem does_plyend {t : State} {P : State → Prop} (h : s.issues n)
    (hb : insPlyend n 0 0 0 s s.lanes[n].main = (t, .done s.lanes[n].main.seq 1))
    (hp : P (t.laneDone n s.lanes[n].main.seq (s.pc n) 1)) : Does (.plyend n 0 0 0) s P :=
  does_issue h rfl ((issue_done h hb).symm ▸ hp)

theorem plyend_ply (h : s.issues n) (ply : s.lanes[n].ply = some p) : Does (.plyend n 0 0 0) s fun t =>
    t.lanes[n].ply = some { p with phase := .ready } ∧ t.reg (Reg.laneCycLast n) = BitVec.ofNat 32 (s.lanes[n].cyc + 1)
      ∧ t.mem = s.mem := by
  refine does_plyend h (insPlyend_ply ply _) ⟨?_, ?_, ?_⟩
  · rw [laneDone_lane, State.plyReady, modLane_lanes_self]
  · rw [laneDone_reg, State.plyReady, State.modLane_reg, reg_peak_ne (lanePage_ne (by decide)), State.reg_setReg_self]
  · rw [laneDone_mem, State.plyReady, State.modLane_mem, State.peak_mem, State.setReg_mem]

/-- A lane that may go IDLE keeps what neither its state nor its count of rolls has a part in. -/
theorem settleLane_lane_self {β : Type} (g : Lane → β) (hg : ∀ l st r, g { l with state := st, rolls := r } = g l) :
    g (s.settleLane n).lanes[n] = g s.lanes[n] := by
  unfold State.settleLane
  dsimp only
  split
  · exact setLane_lane_self g hg _
  · rfl

/-- A job that is saved no longer runs, and its status word is the one given. -/
theorem saveJob_lane (stat : Word) (d : Nat) :
    (s.saveJob n stat d).lanes[n].act = .none ∧ (s.saveJob n stat d).lanes[n].jobStat = stat := by
  unfold State.saveJob
  dsimp only
  rw [settleLane_lane_self Lane.act (fun _ _ _ => rfl), settleLane_lane_self Lane.jobStat (fun _ _ _ => rfl),
    modLane_lanes_self]
  exact ⟨rfl, rfl⟩

theorem plyend_job (h : s.issues n) (none' : s.lanes[n].ply = none) (job : s.lanes[n].state ≠ .bench) :
    Does (.plyend n 0 0 0) s fun t => t.lanes[n].act = .none ∧ bits t.lanes[n].jobStat 1 0 = 2 := by
  refine does_plyend h (insPlyend_job none' job _) ?_
  obtain ⟨act, stat⟩ := saveJob_lane (s := s) (n := n) (jobState s.lanes[n].jobStat 2) (lclkNs 40)
  rw [laneDone_lane]
  refine ⟨act, (congrArg (bits · 1 0) stat).trans ?_⟩
  exact bits_withBits_self (by norm_num) (by norm_num)

theorem plyend_bench (h : s.issues n) (none' : s.lanes[n].ply = none) (bench : s.lanes[n].state = .bench) :
    Does (.plyend n 0 0 0) s fun t => t.lanes[n].halted = true := by
  refine does_plyend h (insPlyend_bench none' bench _) ?_
  rw [laneDone_lane, modLane_lanes_self]

/-- Settles O13. -/
theorem laneJumpsAndPlyend : Obligations.LaneJumpsAndPlyend := by
  unfold Obligations.LaneJumpsAndPlyend
  exact ⟨fun n cond ra rb off x s h holds unused => does_jc h holds unused,
    fun n rd off s h => does_jumps h rfl rfl,
    fun n rd ra imm s h aligned => does_callr h aligned,
    fun n p s h ply => plyend_ply h ply,
    fun n s h none' job => plyend_job h none' job,
    fun n s h none' bench => plyend_bench h none' bench⟩

end Sys2Proof.Machine
end

section
/-! PROOFS. The statement of 05_lanes.md about the traps of a ply (O15): what a trap leaves, and which instructions trap. -/

namespace Sys2Proof.Machine
variable {n : Fin 16} {c : Instr} {s : State} {rd ra rb : BitVec 5} {imm : BitVec 16} {p : Ply} {a addr tc : Word} {body : Body}
  {cause detail : Nat}

/-! ### What a trap leaves (R164, R166) -/

theorem recordTrap_lanes (s : State) (n : Fin 16) (tc addr : Word) (i : Nat) (bg : Bool) :
    (s.recordTrap n tc addr i bg).lanes = s.lanes := by
  simp [State.recordTrap]

theorem recordTrap_mem (s : State) (n : Fin 16) (tc addr : Word) (i : Nat) (bg : Bool) :
    (s.recordTrap n tc addr i bg).mem = s.mem := by
  simp [State.recordTrap]

/-- A trap leaves its word in LANE_TRAP and its address in LANE_TRAP_ADDR. -/
theorem recordTrap_reg (s : State) (n : Fin 16) (tc addr : Word) (i : Nat) (bg : Bool) :
    (s.recordTrap n tc addr i bg).reg (Reg.laneTrap n) = tc
      ∧ (s.recordTrap n tc addr i bg).reg (Reg.laneTrapAddr n) = addr := by
  unfold State.recordTrap State.incSat
  constructor
  · rw [State.reg_logErr_ne (lanePage_ne (by decide)) (lanePage_ne (by decide)), State.reg_raise_ne (lanePage_ne (by decide)),
      State.reg_setFld_ne (lanePage_ne (by decide)), State.reg_setReg_ne (lanePage_ne (by decide)),
      State.reg_setReg_ne (lanePage_ne (by decide)), State.reg_setReg_self]
  · rw [State.reg_logErr_ne (lanePage_ne (by decide)) (lanePage_ne (by decide)), State.reg_raise_ne (lanePage_ne (by decide)),
      State.reg_setFld_ne (lanePage_ne (by decide)), State.reg_setReg_ne (lanePage_ne (by decide)), State.reg_setReg_self]

theorem plyUse_reg_ne {j : Nat} (h : j ≠ Reg.laneWlog n) : (s.plyUse n).reg j = s.reg j := by
  unfold State.plyUse
  rw [State.modLane_reg, reg_peak_ne h, State.reg_setFld_ne h]

theorem plyUse_main : (s.plyUse n).lanes[n].main = s.lanes[n].main := by
  unfold State.plyUse
  rw [modLane_lanes_self]
  simp

/-- The lane of a ply that has trapped stands still with its TC, its writes are discarded. -/
theorem takeTrap_ply (ply : s.lanes[n].ply = some p) (w : Nat) :
    s.takeTrap n cause detail w addr = ((((s.setCore n { s.lanes[n].main with tc := trapWord cause detail w }).recordTrap n
      (trapWord cause detail w) addr p.idx false).plyUse n).dropLog n).modLane n fun l =>
        { l with ply := some { p with phase := .trapped }, act := .none } := by
  unfold State.takeTrap
  simp only [ply]

theorem takeTrap_traps (ply : s.lanes[n].ply = some p) (w : Nat) :
    Traps n (trapWord cause detail w) addr s (s.takeTrap n cause detail w addr) := by
  rw [takeTrap_ply ply]
  obtain ⟨trap, trapAddr⟩ := recordTrap_reg (s.setCore n { s.lanes[n].main with tc := trapWord cause detail w }) n
    (trapWord cause detail w) addr p.idx false
  have main : ((((s.setCore n { s.lanes[n].main with tc := trapWord cause detail w }).recordTrap n (trapWord cause detail w)
      addr p.idx false).plyUse n).dropLog n).lanes[n].main = { s.lanes[n].main with tc := trapWord cause detail w } := by
    rw [State.dropLog, modLane_lanes_self]
    dsimp only
    rw [plyUse_main, recordTrap_lanes, State.setCore, modLane_lanes_self]
  refine ⟨?_, ?_, ?_, fun q running => ?_, ?_, ?_, fun r => ?_⟩
  · rw [modLane_lanes_self]
    dsimp only
    rw [main]
  · rw [State.modLane_reg, State.dropLog, State.modLane_reg, plyUse_reg_ne (lanePage_ne (by decide)), trap]
  · rw [State.modLane_reg, State.dropLog, State.modLane_reg, plyUse_reg_ne (lanePage_ne (by decide)), trapAddr]
  · obtain rfl := Option.some_inj.mp (ply.symm.trans running)
    rw [modLane_lanes_self]
  · rw [modLane_lanes_self, State.dropLog, modLane_lanes_self]
  · rw [State.modLane_mem, State.dropLog, State.modLane_mem, beside_mem.plyUse, recordTrap_mem]
    rfl
  · rw [State.g, modLane_lanes_self]
    dsimp only
    rw [main]
    rfl

/-- An instruction whose body traps while a ply runs. -/
theorem does_traps (h : s.issues n) (ply : s.lanes[n].ply = some p) (hc : exec c s = .next (s.command n body))
    (hb : (body s s.lanes[n].main).2 = .trap cause detail addr) :
    Does c s (Traps n (BitVec.ofNat 32 (cause + detail * 16 + (s.pc n).toNat / 4 % 2 ^ 20 * 256)) addr s) := by
  refine does_issue h hc ?_
  rw [issue_trap h (Prod.ext rfl hb)]
  exact takeTrap_traps ply _

/-! ### The instructions that trap (R152, R164) -/

section
variable (h : s.issues n) (ply : s.lanes[n].ply = some p)
include h ply

theorem does_divT_zero {f : Word → Word → Word × Bool} (zero : s.g n rb = 0)
    (hc : exec c s = .next (s.command n (divT f rd ra rb))) :
    Does c s (Traps n (BitVec.ofNat 32 (4 + 0 * 16 + (s.pc n).toNat / 4 % 2 ^ 20 * 256)) 0 s) :=
  does_traps h ply hc (if_pos zero)

theorem does_mulPair_valueRule {f : Word → Word → Int} (odd : rd = 0 ∨ rd.toNat % 2 = 1)
    (hc : exec c s = .next (s.command n (mulPair f rd ra rb))) :
    Does c s (Traps n (BitVec.ofNat 32 (3 + 3 * 16 + (s.pc n).toNat / 4 % 2 ^ 20 * 256)) 0 s) := by
  refine does_traps h ply hc (if_neg fun ok => ?_)
  obtain ⟨nonzero, even⟩ := pairOk_iff.mp ok
  exact odd.elim nonzero fun h => by omega

theorem does_load_misaligned {size : Nat} {signed : Bool} (ha : a = s.g n ra + imm.signExtend 32)
    (misaligned : a.toNat % size ≠ 0) (hc : exec c s = .next (s.command n (loadBody n size signed rd ra imm))) :
    Does c s (Traps n (BitVec.ofNat 32 (1 + 1 * 16 + (s.pc n).toNat / 4 % 2 ^ 20 * 256)) a s) := by
  have ea : a = s.lanes[n].main.get ra + sext16 imm := ha
  refine does_traps h ply hc ?_
  simp only [loadBody, ← ea, if_pos misaligned]

theorem does_store_misaligned {size : Nat} (ha : a = s.g n ra + imm.signExtend 32) (misaligned : a.toNat % size ≠ 0)
    (hc : exec c s = .next (s.command n (storeBody n size rd ra imm))) :
    Does c s (Traps n (BitVec.ofNat 32 (1 + 1 * 16 + (s.pc n).toNat / 4 % 2 ^ 20 * 256)) a s) := by
  have ea : a = s.lanes[n].main.get ra + sext16 imm := ha
  refine does_traps h ply hc ?_
  simp only [storeBody, ← ea, if_pos misaligned]

theorem does_callr_misaligned (ha : a = s.g n ra + imm.signExtend 32) (misaligned : a.toNat % 4 ≠ 0) :
    Does (.callr n rd ra imm) s (Traps n (BitVec.ofNat 32 (1 + 2 * 16 + (s.pc n).toNat / 4 % 2 ^ 20 * 256)) a s) := by
  subst ha
  exact does_traps (body := callrBody rd ra imm) h ply rfl (if_pos misaligned)

theorem does_load_outside {size : Nat} {signed : Bool} (ha : a = s.g n ra + imm.signExtend 32) (aligned : a.toNat % size = 0)
    (outside : laneRange a.toNat = .outside) (hc : exec c s = .next (s.command n (loadBody n size signed rd ra imm))) :
    Does c s (Traps n (BitVec.ofNat 32 (2 + 1 * 16 + (s.pc n).toNat / 4 % 2 ^ 20 * 256)) a s) := by
  have ea : a = s.lanes[n].main.get ra + sext16 imm := ha
  have denied : s.loadProt n a.toNat size false = some 1 := by simp only [State.loadProt, outside]
  refine does_traps h ply hc ?_
  simp only [loadBody, ← ea, aligned, denied, ne_eq, not_true_eq_false, if_false]

theorem does_store_outside {size : Nat} (ha : a = s.g n ra + imm.signExtend 32) (aligned : a.toNat % size = 0)
    (outside : laneRange a.toNat = .outside) (hc : exec c s = .next (s.command n (storeBody n size rd ra imm))) :
    Does c s (Traps n (BitVec.ofNat 32 (2 + 1 * 16 + (s.pc n).toNat / 4 % 2 ^ 20 * 256)) a s) := by
  have ea : a = s.lanes[n].main.get ra + sext16 imm := ha
  have denied : s.storeProt n a.toNat (size != 4) false = some 1 := by simp only [State.storeProt, outside]
  refine does_traps h ply hc ?_
  simp only [storeBody, ← ea, aligned, denied, ne_eq, not_true_eq_false, if_false]

theorem does_plyend_mustBe0 (unused : ra ≠ 0) :
    Does (.plyend n rd ra rb) s (Traps n (BitVec.ofNat 32 (3 + 2 * 16 + (s.pc n).toNat / 4 % 2 ^ 20 * 256)) 0 s) := by
  refine does_traps (body := insPlyend n rd ra rb) h ply rfl ?_
  rw [insPlyend, plyendBody, if_pos fun zero => unused zero.2.1]
  rfl

theorem does_shk_illegal (kind : 96 ≤ imm.toNat) : Does (.shk n rd ra imm) s (Traps n
    (BitVec.ofNat 32 (3 + (if imm.toNat < 128 then 3 else 2) * 16 + (s.pc n).toNat / 4 % 2 ^ 20 * 256)) 0 s) := by
  refine does_traps (body := insShk rd ra imm) h ply rfl ?_
  change (if imm.toNat / 128 ≠ 0 then CoreRes.mustBe0 else _) = _
  by_cases valid : imm.toNat < 128
  · rw [if_neg (by omega), if_pos valid, show imm.toNat / 32 % 4 = 3 by omega]
    rfl
  · rw [if_pos (by omega), if_neg valid]
    rfl

theorem does_jc_valueRule {cond : BitVec 4} {off : BitVec 12} (above : 10 ≤ cond.toNat) :
    Does (.jc n cond ra rb off) s (Traps n (BitVec.ofNat 32 (3 + 3 * 16 + (s.pc n).toNat / 4 % 2 ^ 20 * 256)) 0 s) := by
  have none' : jcHolds cond (s.lanes[n].main.get ra) (s.lanes[n].main.get rb) = none := by
    obtain ⟨k, hk⟩ : ∃ k, cond.toNat = k + 10 := ⟨cond.toNat - 10, by omega⟩
    rw [jcHolds, hk]
    rfl
  refine does_traps (body := insJc cond ra rb off) h ply rfl ((if_neg fun within => ?_).trans ?_)
  · omega
  · rw [none']
    rfl

end

/-- Settles O15. -/
theorem laneTraps : Obligations.LaneTraps := by
  unfold Obligations.LaneTraps
  exact ⟨fun n rd ra imm p a s h ply ha misaligned => ⟨does_load_misaligned h ply ha misaligned rfl,
      does_store_misaligned h ply ha misaligned rfl, does_callr_misaligned h ply ha misaligned⟩,
    fun n rd ra imm p a s h ply ha aligned outside => ⟨does_load_outside h ply ha aligned outside rfl,
      does_store_outside h ply ha aligned outside rfl⟩,
    fun n rd ra rb p s h ply zero => ⟨does_divT_zero h ply zero rfl, does_divT_zero h ply zero rfl,
      does_divT_zero h ply zero rfl, does_divT_zero h ply zero rfl⟩,
    fun n rd ra rb p s h ply odd => ⟨does_mulPair_valueRule h ply odd rfl, does_mulPair_valueRule h ply odd rfl⟩,
    fun n rd ra rb imm p s h ply unused => ⟨does_traps (body := kcatBody rd ra imm) h ply rfl (if_neg unused),
      does_traps (body := qgetBody rd ra rb) h ply rfl (if_neg fun zero => unused zero.1),
      does_traps (body := qtakeBody rd ra rb) h ply rfl (if_neg fun zero => unused zero.1),
      does_plyend_mustBe0 h ply unused⟩,
    fun n rd ra imm p s h ply kind => does_shk_illegal h ply kind,
    fun n cond ra rb off p s h ply above => does_jc_valueRule h ply above⟩

end Sys2Proof.Machine
end

section
/-! PROOFS. The binary32 words as numbers: the place of a word in their order, the number at a place, and what
F32.of reads from a word (R156, R157). -/

namespace Sys2Proof.Machine
variable {w x y : Word} {k : Nat}

/-! ### The fields of a word -/

theorem bits_magnitude (w : Word) : bits w 30 0 = bits w 30 23 * 2 ^ 23 + bits w 22 0 := by
  simp only [bits, Nat.shiftRight_eq_div_pow]
  omega

theorem bits_fraction_lt (w : Word) : bits w 22 0 < 2 ^ 23 := bits_lt w 22 0

theorem bits_exponent_lt (w : Word) : bits w 30 23 < 2 ^ 8 := bits_lt w 30 23

/-- A word is its sign and its magnitude. -/
theorem toNat_eq_sign_magnitude (w : Word) : w.toNat = b2n (bit w 31) * 2 ^ 31 + bits w 30 0 := by
  have sign : b2n (bit w 31) = w.toNat / 2 ^ 31 := by
    have lt := w.isLt
    simp only [bit, BitVec.getLsbD, Nat.testBit_eq_decide_div_mod_eq, b2n, decide_eq_true_eq]
    split <;> omega
  rw [sign]
  simp only [bits, Nat.shiftRight_eq_div_pow]
  omega

theorem word_ext (sign : bit x 31 = bit y 31) (mag : bits x 30 0 = bits y 30 0) : x = y :=
  BitVec.eq_of_toNat_eq (by rw [toNat_eq_sign_magnitude x, toNat_eq_sign_magnitude y, sign, mag])

theorem toNat_fPack (neg : Bool) (hk : k < 2 ^ 31) : (fPack neg k).toNat = b2n neg * 2 ^ 31 + k := by
  rw [fPack, BitVec.toNat_ofNat]
  refine Nat.mod_eq_of_lt ?_
  cases neg <;> simp [b2n] <;> omega

@[simp] theorem bit_fPack (neg : Bool) (hk : k < 2 ^ 31) : bit (fPack neg k) 31 = neg := by
  rw [bit, BitVec.getLsbD, toNat_fPack neg hk, Nat.testBit_eq_decide_div_mod_eq]
  cases neg <;> simp [b2n] <;> omega

@[simp] theorem bits_fPack (neg : Bool) (hk : k < 2 ^ 31) : bits (fPack neg k) 30 0 = k := by
  simp only [bits, toNat_fPack neg hk, Nat.shiftRight_eq_div_pow]
  cases neg <;> simp [b2n] <;> omega

theorem fPack_sign_magnitude (w : Word) : fPack (bit w 31) (bits w 30 0) = w :=
  word_ext (bit_fPack _ (bits_lt w 30 0)) (bits_fPack _ (bits_lt w 30 0))

theorem fIsInf_iff : fIsInf w = true ↔ bits w 30 0 = 0x7F800000 := beq_iff_eq

theorem fIsZero_iff : fIsZero w = true ↔ bits w 30 0 = 0 := beq_iff_eq

theorem fIsFin_iff : fIsFin w = true ↔ bits w 30 0 < 0x7F800000 := by
  have := bits_magnitude w
  have := bits_fraction_lt w
  have := bits_exponent_lt w
  rw [fIsFin, bne_iff_ne]
  omega

theorem fIsNan_iff : fIsNan w = true ↔ 0x7F800000 < bits w 30 0 := by
  have := bits_magnitude w
  have := bits_fraction_lt w
  have := bits_exponent_lt w
  rw [fIsNan, Bool.and_eq_true, beq_iff_eq, bne_iff_ne]
  omega

/-- A word that is no NaN is finite or an infinity. -/
theorem fin_or_inf (h : fIsNan w = false) : fIsFin w = true ∨ fIsInf w = true := by
  have no : ¬ 0x7F800000 < bits w 30 0 := fun nan => Bool.false_ne_true (h.symm.trans (fIsNan_iff.mpr nan))
  rw [fIsFin_iff, fIsInf_iff]
  omega

theorem bit_low_eq_magnitude_odd (w : Word) : bit w 0 = decide (bits w 30 0 % 2 = 1) := by
  rw [bit, BitVec.getLsbD, Nat.testBit_eq_decide_div_mod_eq, toNat_eq_sign_magnitude w]
  congr 1
  simp only [eq_iff_iff]
  omega

/-! ### The number at a place -/

/-- The number that a finite word of magnitude `k` spells, without its sign; beyond the words it goes on with rising
exponents. -/
def fMag (k : Nat) : ℚ :=
  (((if k / 2 ^ 23 = 0 then 0 else 2 ^ 23) + k % 2 ^ 23 : Nat) : ℚ) * 2 ^ (((max (k / 2 ^ 23) 1 : Nat) : Int) - 150)

/-- The place with `r` units of 2^(l - 149): a normal number, the power of two above them, or a subnormal one. -/
theorem fMag_units {l r : Nat} (top : r ≤ 2 ^ 24) (normal : r < 2 ^ 23 → l = 0) :
    fMag (l * 2 ^ 23 + r) = r * 2 ^ ((l : Int) - 149) := by
  rcases Nat.lt_or_ge r (2 ^ 23) with sub | norm
  · obtain rfl := normal sub
    have div : (0 * 2 ^ 23 + r) / 2 ^ 23 = 0 := by omega
    have mod : (0 * 2 ^ 23 + r) % 2 ^ 23 = r := by omega
    rw [fMag, div, mod, if_pos rfl, Nat.zero_add]
    rfl
  · rcases Nat.lt_or_ge r (2 ^ 24) with below | at'
    · have div : (l * 2 ^ 23 + r) / 2 ^ 23 = l + 1 := by omega
      have mod : (l * 2 ^ 23 + r) % 2 ^ 23 = r - 2 ^ 23 := by omega
      have mant : 2 ^ 23 + (r - 2 ^ 23) = r := by omega
      have expo : ((max (l + 1) 1 : Nat) : Int) - 150 = l - 149 := by omega
      rw [fMag, div, mod, if_neg (by omega), mant, expo]
    · obtain rfl : r = 2 ^ 24 := by omega
      have div : (l * 2 ^ 23 + 2 ^ 24) / 2 ^ 23 = l + 2 := by omega
      have mod : (l * 2 ^ 23 + 2 ^ 24) % 2 ^ 23 = 0 := by omega
      have expo : ((max (l + 2) 1 : Nat) : Int) - 150 = 1 + (l - 149) := by omega
      rw [fMag, div, mod, if_neg (by omega), expo, zpow_add₀ two_ne_zero]
      push_cast
      ring

/-- Every place is a number of units. -/
theorem exists_units (k : Nat) : ∃ l r : Nat, k = l * 2 ^ 23 + r ∧ r < 2 ^ 24 ∧ (r < 2 ^ 23 → l = 0) := by
  rcases Nat.lt_or_ge k (2 ^ 23) with sub | norm
  · exact ⟨0, k, by omega, by omega, fun _ => rfl⟩
  · exact ⟨k / 2 ^ 23 - 1, 2 ^ 23 + k % 2 ^ 23, by omega, by omega, by omega⟩

theorem fMag_strictMono : StrictMono fMag := by
  refine strictMono_nat_of_lt_succ fun k => ?_
  obtain ⟨l, r, rfl, top, normal⟩ := exists_units k
  rw [fMag_units top.le normal, Nat.add_assoc, fMag_units top (fun h => normal (by omega))]
  have : (0 : ℚ) < 2 ^ ((l : Int) - 149) := by positivity
  push_cast
  linarith

@[simp] theorem fMag_zero : fMag 0 = 0 := by simp [fMag]

theorem fMag_nonneg (k : Nat) : 0 ≤ fMag k := by
  rw [← fMag_zero]
  exact fMag_strictMono.monotone (Nat.zero_le k)

theorem fMag_largest : fMag 0x7F7FFFFF = 2 ^ 128 - 2 ^ 104 := by
  rw [show 0x7F7FFFFF = 253 * 2 ^ 23 + (2 ^ 24 - 1) by norm_num, fMag_units (by norm_num) (by norm_num)]
  norm_num

theorem fMag_overflow : fMag 0x7F800000 = 2 ^ 128 := by
  rw [show 0x7F800000 = 253 * 2 ^ 23 + 2 ^ 24 by norm_num, fMag_units (by norm_num) (by norm_num)]
  norm_num

/-- A number with a sign. -/
def signed (neg : Bool) (q : ℚ) : ℚ := if neg then -q else q

/-- The number that a word spells is the number at its place, with its sign. -/
theorem fRat_eq_signed (w : Word) : fRat w = signed (bit w 31) (fMag (bits w 30 0)) := by
  have mag := bits_magnitude w
  have lt := bits_fraction_lt w
  have div : bits w 30 0 / 2 ^ 23 = bits w 30 23 := by omega
  have mod : bits w 30 0 % 2 ^ 23 = bits w 22 0 := by omega
  rw [fRat, fMag, div, mod, signed]
  split <;> ring

end Sys2Proof.Machine
end

section
/-! PROOFS. What F32.of reads from a word, and the order of the words that are no NaN (R156, R157). -/

namespace Sys2Proof.Machine
variable {w x y : Word}

/-! ### The kinds of words -/

/-- The fraction of a word with the hidden bit. -/
def fMant (w : Word) : Nat := (if bits w 30 23 = 0 then 0 else 2 ^ 23) + bits w 22 0

/-- The exponent of the last bit of a word. -/
def fExp (w : Word) : Int := ((max (bits w 30 23) 1 : Nat) : Int) - 150

theorem fRat_eq_mant (w : Word) : fRat w = signed (bit w 31) (fMant w * 2 ^ fExp w) := by
  rw [fRat, signed, fMant, fExp]
  split <;> ring

theorem fMant_eq_zero : fMant w = 0 ↔ fIsZero w = true := by
  have mag := bits_magnitude w
  rw [fIsZero_iff, fMant]
  split <;> omega

theorem fMant_lt (w : Word) : fMant w < 2 ^ 24 := by
  have := bits_fraction_lt w
  rw [fMant]
  split <;> omega

theorem F32.of_fin (h : fIsFin w = true) : F32.of w = .fin (bit w 31) (fMant w) (fExp w) := by
  have max1 : bits w 30 23 ≠ 0 → max (bits w 30 23) 1 = bits w 30 23 := by omega
  rw [F32.of, if_neg (bne_iff_ne.mp h), fMant, fExp]
  split
  · rename_i sub
    rw [sub, Nat.zero_add]
    rfl
  · rename_i norm
    rw [max1 norm, Nat.add_comm]

theorem F32.of_nan (h : fIsNan w = true) : F32.of w = .nan (!bit w 22) := by
  obtain ⟨expo, frac⟩ := Bool.and_eq_true_iff.mp h
  rw [F32.of, if_pos (beq_iff_eq.mp expo), if_neg (bne_iff_ne.mp frac)]

theorem F32.of_inf (h : fIsInf w = true) : F32.of w = .inf (bit w 31) := by
  have mag := bits_magnitude w
  have lt := bits_fraction_lt w
  rw [fIsInf_iff] at h
  rw [F32.of, if_pos (by omega), if_pos (by omega)]

theorem bit_fInf (neg : Bool) : bit (fInf neg) 31 = neg := bit_fPack neg (by norm_num)

theorem bits_fInf (neg : Bool) : bits (fInf neg) 30 0 = 0x7F800000 := bits_fPack neg (by norm_num)

theorem eq_fInf (h : fIsInf w = true) : w = fInf (bit w 31) :=
  word_ext (bit_fInf _).symm ((fIsInf_iff.mp h).trans (bits_fInf _).symm)

theorem F32.isNan_of (w : Word) : (F32.of w).isNan = fIsNan w := by
  cases h : fIsNan w
  · rcases fin_or_inf h with fin | inf
    · rw [F32.of_fin fin]
      rfl
    · rw [F32.of_inf inf]
      rfl
  · rw [F32.of_nan h]
    rfl

theorem F32.isSig_of (w : Word) : (F32.of w).isSig = fIsSig w := by
  rw [fIsSig]
  cases h : fIsNan w
  · rcases fin_or_inf h with fin | inf
    · rw [F32.of_fin fin]
      rfl
    · rw [F32.of_inf inf]
      rfl
  · rw [F32.of_nan h]
    rfl

/-! ### The order of the numbers -/

/-- The number at a place in the order of the words, that of a negative word below zero. -/
def numAt (i : Int) : ℚ := signed (decide (i < 0)) (fMag i.natAbs)

theorem numAt_strictMono : StrictMono numAt := by
  refine strictMono_of_odd_strictMonoOn_nonneg (fun i => ?_) fun i hi j hj lt => ?_
  · rcases lt_trichotomy i 0 with neg | rfl | pos
    · simp [numAt, signed, neg, not_lt.mpr neg.le]
    · simp [numAt, signed]
    · simp [numAt, signed, pos, not_lt.mpr pos.le]
  · rw [Set.mem_Ici] at hi hj
    simp only [numAt, signed, not_lt.mpr hi, not_lt.mpr hj, decide_false, Bool.false_eq_true, if_false]
    exact fMag_strictMono (by omega)

theorem fRat_eq_numAt (w : Word) : fRat w = numAt (fKey w) := by
  rw [fRat_eq_signed, numAt, fKey]
  cases bit w 31
  · simp [signed]
  · rcases Nat.eq_zero_or_pos (bits w 30 0) with zero | pos
    · simp [signed, zero]
    · simp [signed, pos]

theorem fRat_lt_iff : fRat x < fRat y ↔ fKey x < fKey y := by
  rw [fRat_eq_numAt, fRat_eq_numAt, numAt_strictMono.lt_iff_lt]

theorem fRat_inj : fRat x = fRat y ↔ fKey x = fKey y := by
  rw [fRat_eq_numAt, fRat_eq_numAt, numAt_strictMono.injective.eq_iff]

/-! ### Comparison -/

/-- A finite operand as a multiple of a power of two below its last bit. -/
theorem fixedPoint (neg : Bool) (m : Nat) {e lo : Int} (h : lo ≤ e) :
    (((if neg then -1 else 1) * ((m <<< (e - lo).toNat : Nat) : Int) : Int) : ℚ) * 2 ^ lo = signed neg (m * 2 ^ e) := by
  have expo : (2 : ℚ) ^ (e - lo).toNat * 2 ^ lo = 2 ^ e := by
    rw [← zpow_natCast, ← zpow_add₀ two_ne_zero]
    congr 1
    omega
  rw [Nat.shiftLeft_eq, signed, ← expo]
  cases neg <;> push_cast <;> simp <;> ring

/-- A comparison of integers that stand to each other as places do. -/
theorem cmp_eq_sign {a b i j : Int} (lt : a < b ↔ i < j) (eq : a = b ↔ i = j) :
    (if a < b then -1 else if a = b then 0 else 1 : Int) = (i - j).sign := by
  rcases lt_trichotomy i j with below | same | above
  · rw [if_pos (lt.mpr below), Int.sign_eq_neg_one_of_neg (by omega)]
  · rw [if_neg (fun h => absurd (lt.mp h) (by omega)), if_pos (eq.mpr same), same, Int.sub_self, Int.sign_zero]
  · rw [if_neg (fun h => absurd (lt.mp h) (by omega)), if_neg (fun h => absurd (eq.mp h) (by omega)),
      Int.sign_eq_one_of_pos (by omega)]

theorem cmp_fin (hx : fIsFin x = true) (hy : fIsFin y = true) :
    (F32.of x).cmp (F32.of y) = (fKey x - fKey y).sign := by
  rw [F32.of_fin hx, F32.of_fin hy]
  unfold F32.cmp
  dsimp only
  have px := fixedPoint (bit x 31) (fMant x) (min_le_left (fExp x) (fExp y))
  have py := fixedPoint (bit y 31) (fMant y) (min_le_right (fExp x) (fExp y))
  rw [← fRat_eq_mant] at px py
  have pos : (0 : ℚ) < 2 ^ min (fExp x) (fExp y) := by positivity
  refine cmp_eq_sign ?_ ?_
  · rw [← fRat_lt_iff, ← px, ← py, mul_lt_mul_iff_left₀ pos, Int.cast_lt]
  · rw [← fRat_inj, ← px, ← py, mul_left_inj' pos.ne', Int.cast_inj]

theorem fKey_fin (h : fIsFin w = true) : -0x7F800000 < fKey w ∧ fKey w < 0x7F800000 := by
  have := fIsFin_iff.mp h
  rw [fKey]
  split <;> omega

theorem fKey_inf (h : fIsInf w = true) : fKey w = if bit w 31 then -0x7F800000 else 0x7F800000 := by
  rw [fKey, fIsInf_iff.mp h]
  rfl

/-- The comparison of two words that are no NaN is that of their places. -/
theorem cmp_eq_sign_fKey (hx : fIsNan x = false) (hy : fIsNan y = false) :
    (F32.of x).cmp (F32.of y) = (fKey x - fKey y).sign := by
  rcases fin_or_inf hx with fx | ix
  · rcases fin_or_inf hy with fy | iy
    · exact cmp_fin fx fy
    · obtain ⟨lo, hi⟩ := fKey_fin fx
      rw [F32.of_fin fx, F32.of_inf iy, fKey_inf iy]
      cases bit y 31
      · exact (Int.sign_eq_neg_one_of_neg (by simp; omega)).symm
      · exact (Int.sign_eq_one_of_pos (by simp; omega)).symm
  · rcases fin_or_inf hy with fy | iy
    · obtain ⟨lo, hi⟩ := fKey_fin fy
      rw [F32.of_fin fy, F32.of_inf ix, fKey_inf ix]
      cases bit x 31
      · exact (Int.sign_eq_one_of_pos (by simp; omega)).symm
      · exact (Int.sign_eq_neg_one_of_neg (by simp; omega)).symm
    · rw [F32.of_inf ix, F32.of_inf iy, fKey_inf ix, fKey_inf iy]
      cases bit x 31 <;> cases bit y 31 <;> rfl

end Sys2Proof.Machine
end

section
/-! PROOFS. Rounding to nearest, ties to even: the place that fRound chooses is the nearest one, and the word at it is
the number rounded once (R157). -/

namespace Sys2Proof.Machine

/-! ### The nearest place -/

/-- No place spells a number nearer to `q` than place `k`; if another one is as near, `k` is even. -/
def IsNearest (k : Nat) (q : ℚ) : Prop :=
  ∀ j, |fMag k - q| ≤ |fMag j - q| ∧ (|fMag k - q| = |fMag j - q| → j ≠ k → k % 2 = 0)

theorem isNearest_zero : IsNearest 0 0 := fun j => by simp

/-- The place above one of `r` units lies at least a unit above it. -/
theorem fMag_above {l r j : Nat} (top : r ≤ 2 ^ 24) (normal : r < 2 ^ 23 → l = 0) (above : l * 2 ^ 23 + r < j) :
    (r + 1 : ℚ) * 2 ^ ((l : Int) - 149) ≤ fMag j := by
  refine le_trans ?_ (fMag_strictMono.monotone above)
  rcases Nat.lt_or_ge r (2 ^ 24) with below | at'
  · rw [Nat.succ_eq_add_one, Nat.add_assoc, fMag_units below (fun h => normal (by omega))]
    push_cast
    exact le_rfl
  · obtain rfl : r = 2 ^ 24 := by omega
    have place : (l * 2 ^ 23 + 2 ^ 24).succ = (l + 1) * 2 ^ 23 + (2 ^ 23 + 1) := by omega
    have expo : ((l + 1 : Nat) : Int) - 149 = 1 + ((l : Int) - 149) := by omega
    have pos : (0 : ℚ) < 2 ^ ((l : Int) - 149) := by positivity
    rw [place, fMag_units (by norm_num) (by norm_num), expo, zpow_add₀ two_ne_zero]
    push_cast
    linarith

/-- The place below one of `r` units, more than a power of two, lies at least a unit below it. -/
theorem fMag_below {l r j : Nat} (top : r ≤ 2 ^ 24) (normal : r ≤ 2 ^ 23 → l = 0) (below : j < l * 2 ^ 23 + r) :
    fMag j ≤ (r - 1 : ℚ) * 2 ^ ((l : Int) - 149) := by
  obtain ⟨r, rfl⟩ : ∃ r', r = r' + 1 := ⟨r - 1, by omega⟩
  have units := fMag_units (l := l) (r := r) (by omega) (fun h => normal (by omega))
  calc fMag j ≤ fMag (l * 2 ^ 23 + r) := fMag_strictMono.monotone (by omega)
    _ = _ := by rw [units]; push_cast; ring

/-- A number within half a unit of `r` units, with at least 2^23 units unless they are the smallest. -/
theorem isNearest_of_units {l r : Nat} {q u : ℚ} (hu : u = 2 ^ ((l : Int) - 149)) (half : 2 * |r * u - q| ≤ u)
    (tie : 2 * |r * u - q| = u → r % 2 = 0) (low : 2 ^ 23 * u ≤ q ∨ l = 0) (top : r ≤ 2 ^ 24)
    (normal : r < 2 ^ 23 → l = 0) :
    IsNearest (l * 2 ^ 23 + r) q := by
  intro j
  have at' := fMag_units top normal
  rw [← hu] at at'
  rw [at']
  obtain ⟨lo, hi⟩ := abs_le.mp (show |r * u - q| ≤ u / 2 by linarith)
  have even : |r * u - q| = u / 2 → (l * 2 ^ 23 + r) % 2 = 0 := fun h => by
    have := tie (by linarith)
    omega
  have far : u / 2 ≤ |fMag j - q| → |r * u - q| ≤ |fMag j - q|
      ∧ (|r * u - q| = |fMag j - q| → j ≠ l * 2 ^ 23 + r → (l * 2 ^ 23 + r) % 2 = 0) :=
    fun h => ⟨by linarith, fun eq _ => even (by linarith)⟩
  rcases lt_trichotomy j (l * 2 ^ 23 + r) with below | rfl | above
  · by_cases power : r ≤ 2 ^ 23 ∧ l ≠ 0
    · obtain rfl : r = 2 ^ 23 := by have := mt normal power.2; omega
      have least : 2 ^ 23 * u ≤ q := low.resolve_right power.2
      have lt := fMag_strictMono below
      rw [at'] at lt
      push_cast at lt ⊢
      have near : |2 ^ 23 * u - q| < |fMag j - q| := by
        rw [abs_of_nonpos (by linarith), abs_of_nonpos (by linarith)]
        linarith
      exact ⟨near.le, fun eq => absurd eq near.ne⟩
    · have le := fMag_below top (fun h => by_contra fun h' => power ⟨h, h'⟩) below
      rw [← hu] at le
      exact far (by rw [abs_of_nonpos (by linarith)]; linarith)
  · rw [at']
    exact ⟨le_rfl, fun _ h => absurd rfl h⟩
  · have le := fMag_above top normal above
    rw [← hu] at le
    exact far (by rw [abs_of_nonneg (by linarith)]; linarith)

/-! ### The units that fRound chooses -/

/-- The exponent of the last bit of the rounded number (R157). -/
def roundLsb (m : Nat) (e : Int) : Int := max ((Nat.log2 m : Int) + e - 23) (-149)

/-- `m`, with a part below cut off if `sticky`, in units of 2^q, rounded to nearest, ties to even. -/
def roundUnits (m : Nat) (q : Int) (sticky : Bool) : Nat :=
  if q ≤ 0 then m <<< (-q).toNat
  else if 2 ^ (q.toNat - 1) < m % 2 ^ q.toNat
      ∨ (m % 2 ^ q.toNat = 2 ^ (q.toNat - 1) ∧ (sticky ∨ m >>> q.toNat % 2 = 1)) then m >>> q.toNat + 1
  else m >>> q.toNat

/-- The word of `p.1` units of 2^p.2, at least 2^23 of them or units of 2^-149; an infinity beyond the range. -/
def roundPack (neg : Bool) (p : Nat × Int) : Word × Bool :=
  if p.1 < 2 ^ 23 then (fPack neg p.1, false)
  else if 255 ≤ p.2 + 150 then (fInf neg, true)
  else (fPack neg ((p.2 + 150).toNat * 2 ^ 23 + (p.1 - 2 ^ 23)), false)

theorem fRound_eq {neg sticky : Bool} {m r : Nat} {e : Int} (hm : m ≠ 0) (hr : roundUnits m (roundLsb m e - e) sticky = r) :
    fRound neg m e sticky
      = roundPack neg (if r = 2 ^ 24 then (2 ^ 23, roundLsb m e + 1) else (r, roundLsb m e)) := by
  rw [fRound, if_neg hm, ← hr]
  rfl

/-- The place that fRound packs. -/
theorem fRound_eq_place {neg sticky : Bool} {m l r : Nat} {e : Int} (hm : m ≠ 0) (hl : roundLsb m e = l - 149)
    (hr : roundUnits m (roundLsb m e - e) sticky = r) (top : r ≤ 2 ^ 24) (normal : r < 2 ^ 23 → l = 0) :
    fRound neg m e sticky = if 0x7F800000 ≤ l * 2 ^ 23 + r then (fInf neg, true)
      else (fPack neg (l * 2 ^ 23 + r), false) := by
  rw [fRound_eq hm hr, hl, roundPack]
  rcases Nat.lt_or_ge r (2 ^ 23) with sub | norm
  · obtain rfl := normal sub
    simp only [if_neg (show ¬ r = 2 ^ 24 by omega), if_pos sub, Nat.zero_mul, Nat.zero_add,
      if_neg (show ¬ 0x7F800000 ≤ r by omega)]
  · by_cases full : r = 2 ^ 24
    · have place : ((l : Int) - 149 + 1 + 150).toNat * 2 ^ 23 + (2 ^ 23 - 2 ^ 23) = l * 2 ^ 23 + r := by omega
      simp only [if_pos full, lt_irrefl, if_false, place]
      exact if_congr (by omega) rfl rfl
    · have place : ((l : Int) - 149 + 150).toNat * 2 ^ 23 + (r - 2 ^ 23) = l * 2 ^ 23 + r := by omega
      simp only [if_neg full, if_neg (not_lt.mpr norm), place]
      exact if_congr (by omega) rfl rfl

/-- Units above the last bit of `m` hold it exactly. -/
theorem roundUnits_exact (m : Nat) {q : Int} (le : q ≤ 0) : (roundUnits m q false : ℚ) * 2 ^ q = m := by
  have one : (2 : ℚ) ^ (-q).toNat * 2 ^ q = 1 := by
    rw [← zpow_natCast, ← zpow_add₀ two_ne_zero, show ((-q).toNat : Int) + q = 0 by omega, zpow_zero]
  rw [roundUnits, if_pos le, Nat.shiftLeft_eq]
  push_cast
  rw [mul_assoc, one, mul_one]

/-- Where bits are cut, the rounded units are within half a unit, and even in the middle between two. -/
theorem roundUnits_cut (m k : Nat) {sticky : Bool} {d : ℚ} (h0 : 0 ≤ d) (h1 : d < 1) (hs : sticky = decide (d ≠ 0)) :
    2 * |(roundUnits m (k + 1 : Nat) sticky : ℚ) * 2 ^ (k + 1) - (m + d)| ≤ 2 ^ (k + 1)
      ∧ (2 * |(roundUnits m (k + 1 : Nat) sticky : ℚ) * 2 ^ (k + 1) - (m + d)| = 2 ^ (k + 1)
        → roundUnits m (k + 1 : Nat) sticky % 2 = 0) := by
  have parts : (m : ℚ) = (m >>> (k + 1) : Nat) * 2 ^ (k + 1) + (m % 2 ^ (k + 1) : Nat) := by
    rw [Nat.shiftRight_eq_div_pow]
    exact_mod_cast (Nat.div_add_mod' m (2 ^ (k + 1))).symm
  have lt : m % 2 ^ (k + 1) + 1 ≤ 2 ^ (k + 1) := Nat.mod_lt _ (Nat.two_pow_pos _)
  have twice : (2 : ℚ) ^ (k + 1) = 2 * 2 ^ k := pow_succ' 2 k
  rw [roundUnits, if_neg (by omega), Int.toNat_natCast, Nat.add_sub_cancel, parts]
  generalize m >>> (k + 1) = hi at *
  generalize m % 2 ^ (k + 1) = lo at *
  have ltQ : (lo : ℚ) + 1 ≤ 2 ^ (k + 1) := by exact_mod_cast lt
  have lo0 : (0 : ℚ) ≤ lo := by positivity
  split
  · rename_i up
    push_cast
    rw [show ((hi : ℚ) + 1) * 2 ^ (k + 1) - (hi * 2 ^ (k + 1) + lo + d) = 2 ^ (k + 1) - (lo + d) by ring,
      abs_of_nonneg (by linarith)]
    rcases up with above | ⟨mid, up⟩
    · have aboveQ : (2 : ℚ) ^ k + 1 ≤ lo := by exact_mod_cast above
      exact ⟨by linarith, fun h => absurd h (by linarith)⟩
    · have midQ : (lo : ℚ) = 2 ^ k := by exact_mod_cast mid
      refine ⟨by linarith, fun h => ?_⟩
      rcases up with cut | odd
      · have := lt_of_le_of_ne h0 (Ne.symm (of_decide_eq_true (hs.symm.trans cut)))
        linarith
      · omega
  · rename_i down
    rw [show (hi : ℚ) * 2 ^ (k + 1) - (hi * 2 ^ (k + 1) + lo + d) = -(lo + d) by ring, abs_neg, abs_of_nonneg (by linarith)]
    rcases Nat.lt_or_ge lo (2 ^ k) with below | ge
    · have belowQ : (lo : ℚ) + 1 ≤ 2 ^ k := by exact_mod_cast below
      exact ⟨by linarith, fun h => absurd h (by linarith)⟩
    · have mid : lo = 2 ^ k := le_antisymm (not_lt.mp fun h => down (.inl h)) ge
      have midQ : (lo : ℚ) = 2 ^ k := by exact_mod_cast mid
      have whole : d = 0 := by_contra fun h => down (.inr ⟨mid, .inl (hs.trans (decide_eq_true h))⟩)
      have even : ¬ hi % 2 = 1 := fun h => down (.inr ⟨mid, .inr h⟩)
      exact ⟨by linarith, fun _ => by omega⟩

/-- The rounded units are within half a unit, and even in the middle between two. -/
theorem roundUnits_near {m : Nat} {q : Int} {sticky : Bool} {d : ℚ} (h0 : 0 ≤ d) (h1 : d < 1)
    (hs : sticky = decide (d ≠ 0)) (cut : d ≠ 0 → 0 < q) :
    2 * |(roundUnits m q sticky : ℚ) * 2 ^ q - (m + d)| ≤ 2 ^ q
      ∧ (2 * |(roundUnits m q sticky : ℚ) * 2 ^ q - (m + d)| = 2 ^ q → roundUnits m q sticky % 2 = 0) := by
  rcases le_or_gt q 0 with le | gt
  · have whole : d = 0 := by_contra fun h => absurd (cut h) (not_lt.mpr le)
    have pos : (0 : ℚ) < 2 ^ q := by positivity
    rw [hs, whole, decide_eq_false (not_not.mpr rfl), roundUnits_exact m le, add_zero, sub_self, abs_zero, mul_zero]
    exact ⟨pos.le, fun h => absurd h pos.ne⟩
  · obtain ⟨k, rfl⟩ : ∃ k : Nat, q = (k + 1 : Nat) := ⟨q.toNat - 1, by omega⟩
    rw [zpow_natCast]
    exact roundUnits_cut m k h0 h1 hs

/-- Units within half a unit of a number below 2^24 units are at most 2^24. -/
theorem units_le {r : Nat} {q u : ℚ} (pos : 0 < u) (half : 2 * |r * u - q| ≤ u) (high : q < 2 ^ 24 * u) : r ≤ 2 ^ 24 := by
  have near := abs_le.mp (show |r * u - q| ≤ u / 2 by linarith)
  have : (r : ℚ) < 2 ^ 24 + 1 := lt_of_mul_lt_mul_right (by linarith [near.2]) pos.le
  exact Nat.lt_succ_iff.mp (by exact_mod_cast this)

/-- Units within half a unit of a number of at least 2^23 units are at least 2^23. -/
theorem le_units {r : Nat} {q u : ℚ} (pos : 0 < u) (half : 2 * |r * u - q| ≤ u) (low : 2 ^ 23 * u ≤ q) :
    2 ^ 23 ≤ r := by
  have near := abs_le.mp (show |r * u - q| ≤ u / 2 by linarith)
  have : (2 : ℚ) ^ 23 < r + 1 := lt_of_mul_lt_mul_right (by linarith [near.1]) pos.le
  exact Nat.lt_succ_iff.mp (by exact_mod_cast this)

/-- A number cut to `m` units of 2^e lies below 2^24 of the units that it is rounded to. -/
theorem lt_units {m l : Nat} {e : Int} {d : ℚ} (h1 : d < 1) (hl : roundLsb m e = l - 149) :
    (m + d) * 2 ^ e < 2 ^ 24 * 2 ^ ((l : Int) - 149) := by
  have lsb : roundLsb m e = max ((Nat.log2 m : Int) + e - 23) (-149) := rfl
  have pos : (0 : ℚ) < 2 ^ e := by positivity
  have bound : (m : ℚ) + 1 ≤ 2 ^ (Nat.log2 m + 1) := by exact_mod_cast (Nat.lt_log2_self : m < _)
  calc (m + d) * 2 ^ e < 2 ^ (Nat.log2 m + 1) * 2 ^ e := mul_lt_mul_of_pos_right (by linarith) pos
    _ = 2 ^ (((Nat.log2 m + 1 : Nat) : Int) + e) := by rw [zpow_add₀ two_ne_zero, zpow_natCast]
    _ ≤ 2 ^ ((24 : Nat) + ((l : Int) - 149)) := zpow_le_zpow_right₀ one_le_two (by omega)
    _ = 2 ^ 24 * 2 ^ ((l : Int) - 149) := by rw [zpow_add₀ two_ne_zero, zpow_natCast]

/-- It is at least 2^23 of these units, unless they are the smallest. -/
theorem units_le_or_least {m l : Nat} {e : Int} {d : ℚ} (hm : m ≠ 0) (h0 : 0 ≤ d) (hl : roundLsb m e = l - 149) :
    2 ^ 23 * 2 ^ ((l : Int) - 149) ≤ (m + d) * 2 ^ e ∨ l = 0 := by
  have lsb : roundLsb m e = max ((Nat.log2 m : Int) + e - 23) (-149) := rfl
  have pos : (0 : ℚ) < 2 ^ e := by positivity
  have bound : (2 : ℚ) ^ Nat.log2 m ≤ m := by exact_mod_cast Nat.log2_self_le hm
  refine or_iff_not_imp_right.mpr fun least => ?_
  calc (2 : ℚ) ^ 23 * 2 ^ ((l : Int) - 149) = 2 ^ ((23 : Nat) + ((l : Int) - 149)) := by
        rw [zpow_add₀ two_ne_zero, zpow_natCast]
    _ = 2 ^ ((Nat.log2 m : Int) + e) := by congr 1; omega
    _ = 2 ^ Nat.log2 m * 2 ^ e := by rw [zpow_add₀ two_ne_zero, zpow_natCast]
    _ ≤ (m + d) * 2 ^ e := mul_le_mul_of_nonneg_right (by linarith) pos.le

/-- What fRound makes of (m + d) * 2^e: the nearest place, or an infinity where that lies beyond the words. -/
theorem fRound_nearest (neg : Bool) {sticky : Bool} {m : Nat} {e : Int} {d : ℚ} (h0 : 0 ≤ d) (h1 : d < 1)
    (hs : sticky = decide (d ≠ 0)) (wide : d ≠ 0 → 2 ^ 25 ≤ m) :
    ∃ k, IsNearest k ((m + d) * 2 ^ e)
      ∧ fRound neg m e sticky = if 0x7F800000 ≤ k then (fInf neg, true) else (fPack neg k, false) := by
  by_cases hm : m = 0
  · have whole : d = 0 := by_contra fun h => absurd (wide h) (by omega)
    refine ⟨0, ?_, by rw [fRound, if_pos hm]; rfl⟩
    rw [hm, whole, Nat.cast_zero, add_zero, zero_mul]
    exact isNearest_zero
  · have lsb : roundLsb m e = max ((Nat.log2 m : Int) + e - 23) (-149) := rfl
    obtain ⟨l, hl⟩ : ∃ l : Nat, roundLsb m e = l - 149 := ⟨(roundLsb m e + 149).toNat, by omega⟩
    obtain ⟨half, tie⟩ := roundUnits_near (m := m) (q := roundLsb m e - e) h0 h1 hs fun h => by
      have := (Nat.le_log2 hm).mpr (wide h)
      omega
    generalize hr : roundUnits m (roundLsb m e - e) sticky = r at half tie
    have pos : (0 : ℚ) < 2 ^ e := by positivity
    have unit : (2 : ℚ) ^ (roundLsb m e - e) * 2 ^ e = 2 ^ ((l : Int) - 149) := by
      rw [← zpow_add₀ two_ne_zero, sub_add_cancel, hl]
    have scaled : 2 * |r * 2 ^ ((l : Int) - 149) - (m + d) * 2 ^ e|
        = 2 * |r * 2 ^ (roundLsb m e - e) - (m + d)| * 2 ^ e := by
      rw [← unit, ← mul_assoc, ← sub_mul, abs_mul, abs_of_pos pos, mul_assoc]
    rw [← mul_le_mul_iff_left₀ pos, ← scaled, unit] at half
    rw [← mul_left_inj' pos.ne', ← scaled, unit] at tie
    have low := units_le_or_least hm h0 hl
    have top := units_le (by positivity) half (lt_units h1 hl)
    have normal : r < 2 ^ 23 → l = 0 := fun h =>
      low.resolve_left fun h' => absurd (le_units (by positivity) half h') (not_le.mpr h)
    exact ⟨_, isNearest_of_units rfl half tie low top normal, fRound_eq_place hm hl hr top normal⟩

/-! ### The rounded word -/

theorem abs_signed_sub_signed (neg : Bool) (p q : ℚ) : |signed neg p - signed neg q| = |p - q| := by
  cases neg
  · rfl
  · rw [signed, signed, if_pos rfl, if_pos rfl, neg_sub_neg, abs_sub_comm]

theorem abs_signed_not_sub_signed (neg : Bool) (p q : ℚ) : |signed (!neg) p - signed neg q| = |p + q| := by
  cases neg
  · rw [← abs_neg]
    congr 1
    simp [signed]
    ring
  · simp [signed]

theorem abs_signed (neg : Bool) (q : ℚ) : |signed neg q| = |q| := by
  cases neg <;> simp [signed]

/-- The magnitude of a number of either sign is at least as near to `q` as the number is to `q` with any sign. -/
theorem abs_sub_le_abs_signed_sub (neg : Bool) {q : ℚ} (hq : 0 ≤ q) (v : ℚ) : |(|v|) - q| ≤ |v - signed neg q| := by
  have := abs_abs_sub_abs_le_abs_sub v (signed neg q)
  rwa [abs_signed, abs_of_nonneg hq] at this

theorem abs_fRat (w : Word) : |fRat w| = fMag (bits w 30 0) := by
  rw [fRat_eq_signed, abs_signed, abs_of_nonneg (fMag_nonneg _)]

/-- The nearest place lies beyond the words from the middle between the largest word and 2^128 on. -/
theorem nearest_beyond {k : Nat} {q : ℚ} (near : IsNearest k q) : 0x7F800000 ≤ k ↔ 2 ^ 128 - 2 ^ 103 ≤ q := by
  have mid : (2 : ℚ) ^ 104 = 2 * 2 ^ 103 := by norm_num
  have pos : (0 : ℚ) < 2 ^ 103 := by norm_num
  constructor
  · intro beyond
    have le := (near 0x7F7FFFFF).1
    have top := fMag_strictMono.monotone beyond
    rw [fMag_overflow] at top
    rw [fMag_largest] at le
    by_contra lt
    rw [abs_of_nonneg (by linarith)] at le
    rcases abs_cases ((2 : ℚ) ^ 128 - 2 ^ 104 - q) with ⟨h, -⟩ | ⟨h, -⟩ <;> rw [h] at le <;> linarith
  · intro far
    by_contra within
    obtain ⟨le, even⟩ := near 0x7F800000
    have top := fMag_strictMono.monotone (show k ≤ 0x7F7FFFFF by omega)
    rw [fMag_largest] at top
    rw [fMag_overflow, abs_of_nonpos (by linarith)] at le even
    rcases abs_cases ((2 : ℚ) ^ 128 - q) with ⟨h, -⟩ | ⟨h, -⟩
    · rw [h] at le even
      have last : fMag k = fMag 0x7F7FFFFF := by rw [fMag_largest]; linarith
      have odd := fMag_strictMono.injective last
      have := even (by rw [last, fMag_largest]; linarith) (by omega)
      omega
    · linarith

/-- No finite word is nearer to a number than the word at the nearest place; if another number is as near, that word is
even. -/
theorem nearest_word {neg : Bool} {k : Nat} {q : ℚ} (hq : 0 ≤ q) (near : IsNearest k q) (small : k < 2 ^ 31) (v : Word) :
    |fRat (fPack neg k) - signed neg q| ≤ |fRat v - signed neg q|
      ∧ (|fRat (fPack neg k) - signed neg q| = |fRat v - signed neg q| → fRat v ≠ fRat (fPack neg k)
        → bit (fPack neg k) 0 = false) := by
  have at' : fRat (fPack neg k) = signed neg (fMag k) := by rw [fRat_eq_signed, bit_fPack _ small, bits_fPack _ small]
  have step := abs_sub_le_abs_signed_sub neg hq (fRat v)
  rw [abs_fRat] at step
  obtain ⟨le, even⟩ := near (bits v 30 0)
  rw [at', abs_signed_sub_signed]
  refine ⟨le.trans step, fun eq ne => ?_⟩
  rw [bit_low_eq_magnitude_odd, bits_fPack _ small, decide_eq_false_iff_not]
  have mid : |fMag k - q| = |fMag (bits v 30 0) - q| := le_antisymm le (eq ▸ step)
  by_cases same : bits v 30 0 = k
  · have other : bit v 31 = !neg := Bool.eq_not.mpr fun h => ne (by rw [fRat_eq_signed, same, h])
    have none' := (near 0).1
    rw [fRat_eq_signed, same, other, abs_signed_not_sub_signed, abs_of_nonneg (add_nonneg (fMag_nonneg k) hq)] at eq
    rw [eq, fMag_zero, zero_sub, abs_neg, abs_of_nonneg hq] at none'
    have zero : fMag k = 0 := le_antisymm (by linarith) (fMag_nonneg k)
    refine absurd ?_ ne
    rw [fRat_eq_signed, same, zero, signed, signed, neg_zero, ite_self, ite_self]
  · have := even mid same
    omega

theorem sign_eq_of_signed_ne_zero {neg : Bool} {q : ℚ} (hq : 0 ≤ q) (ne : signed neg q ≠ 0) :
    neg = decide (signed neg q < 0) := by
  have pos : 0 < q := lt_of_le_of_ne hq fun h => ne (by rw [← h, signed, neg_zero, ite_self])
  cases neg
  · simp [signed, hq]
  · simp [signed, pos]

/-- fRound gives the number rounded to nearest, ties to even, or an infinity beyond the range. -/
theorem fRound_rounded (neg : Bool) {sticky : Bool} {m : Nat} {e : Int} {d : ℚ} (h0 : 0 ≤ d) (h1 : d < 1)
    (hs : sticky = decide (d ≠ 0)) (wide : d ≠ 0 → 2 ^ 25 ≤ m) :
    FRounded (signed neg ((m + d) * 2 ^ e)) (fRound neg m e sticky).1 (fRound neg m e sticky).2
      ∧ bit (fRound neg m e sticky).1 31 = neg := by
  obtain ⟨k, near, eq⟩ := fRound_nearest neg (e := e) h0 h1 hs wide
  have hq : 0 ≤ (m + d) * (2 : ℚ) ^ e := by positivity
  rw [eq]
  unfold FRounded
  rw [abs_signed, abs_of_nonneg hq, if_congr (nearest_beyond near).symm rfl rfl]
  by_cases beyond : 0x7F800000 ≤ k
  · rw [if_pos beyond, if_pos beyond]
    exact ⟨⟨fun h => (bit_fInf neg).trans (sign_eq_of_signed_ne_zero hq h), fIsInf_iff.mpr (bits_fInf neg), rfl⟩,
      bit_fInf neg⟩
  · have small : k < 2 ^ 31 := by omega
    rw [if_neg beyond, if_neg beyond]
    refine ⟨⟨fun h => (bit_fPack neg small).trans (sign_eq_of_signed_ne_zero hq h), ?_, rfl,
      fun v _ => nearest_word hq near small v⟩, bit_fPack neg small⟩
    rw [fIsFin_iff, bits_fPack _ small]
    omega

/-- fRound of a number that is not cut. -/
theorem fRound_exact (neg : Bool) (m : Nat) (e : Int) :
    FRounded (signed neg (m * 2 ^ e)) (fRound neg m e false).1 (fRound neg m e false).2
      ∧ bit (fRound neg m e false).1 31 = neg := by
  have rounded := fRound_rounded neg (sticky := false) (m := m) (e := e) (d := 0) le_rfl one_pos (by simp) (by simp)
  rwa [add_zero] at rounded

end Sys2Proof.Machine
end

section
/-! PROOFS. The statement of 05_lanes.md about exact floating-point results (O11): each operation on numbers is the
exact one, rounded once (R156, R157). -/

namespace Sys2Proof.Machine
variable {x y : Word}

/-! ### Numbers with a sign -/

theorem signed_mul (neg : Bool) (p q : ℚ) : signed neg (p * q) = signed neg p * q := by
  cases neg <;> simp [signed]

theorem signed_mul_signed (a b : Bool) (p q : ℚ) : signed a p * signed b q = signed (a != b) (p * q) := by
  cases a <;> cases b <;> simp [signed]

theorem signed_div_signed (a b : Bool) (p q : ℚ) : signed a p / signed b q = signed (a != b) (p / q) := by
  cases a <;> cases b <;> simp [signed, neg_div, div_neg]

theorem signed_natAbs (z : Int) : signed (decide (z < 0)) z.natAbs = z := by
  rw [signed, Nat.cast_natAbs]
  rcases lt_or_ge z 0 with neg | nonneg
  · rw [if_pos (decide_eq_true neg), abs_of_neg neg]
    push_cast
    ring
  · rw [if_neg (by simpa using nonneg), abs_of_nonneg nonneg]

/-- A rounded integer multiple of a power of two. -/
theorem fRound_int (z : Int) (e : Int) : FRounded (z * 2 ^ e) (fRound (decide (z < 0)) z.natAbs e false).1
    (fRound (decide (z < 0)) z.natAbs e false).2 := by
  have rounded := (fRound_exact (decide (z < 0)) z.natAbs e).1
  rwa [signed_mul, signed_natAbs] at rounded

theorem fRounded_zero (neg : Bool) : FRounded 0 (fPack neg 0) false := by
  have rounded := (fRound_exact neg 0 0).1
  rwa [Nat.cast_zero, zero_mul, signed, neg_zero, ite_self] at rounded

theorem fRat_eq_zero : fRat x = 0 ↔ fIsZero x = true := by
  have key : fKey 0 = 0 := by decide
  rw [show (0 : ℚ) = fRat 0 by rw [fRat_eq_numAt, key]; simp [numAt, signed], fRat_inj, key, fKey, fIsZero_iff]
  split <;> omega

/-! ### Addition and subtraction -/

/-- A sum of numbers that is 0 has the sign of its operands if they agree, and is +0 if not. -/
theorem sign_of_zero_sum (zero : fRat x + fRat y = 0) :
    (bit x 31 && bit y 31 && decide (fMant x = 0 ∧ fMant y = 0)) = (bit x 31 && bit y 31) := by
  cases hx : bit x 31
  · rfl
  cases hy : bit y 31
  · rfl
  have negX := fRat_eq_signed x
  have negY := fRat_eq_signed y
  have magX := fMag_nonneg (bits x 30 0)
  have magY := fMag_nonneg (bits y 30 0)
  simp only [hx, hy, signed, if_true] at negX negY
  have zeroX : fRat x = 0 := by linarith
  have zeroY : fRat y = 0 := by linarith
  rw [fRat_eq_zero, ← fMant_eq_zero] at zeroX zeroY
  simp [zeroX, zeroY]

theorem fAdd_exact (hx : fIsFin x = true) (hy : fIsFin y = true) :
    ∃ v o, fAdd x y = ⟨v, false, o, false⟩ ∧ FRounded (fRat x + fRat y) v o
      ∧ (fRat x + fRat y = 0 → bit v 31 = (bit x 31 && bit y 31)) := by
  have px := fixedPoint (bit x 31) (fMant x) (min_le_left (fExp x) (fExp y))
  have py := fixedPoint (bit y 31) (fMant y) (min_le_right (fExp x) (fExp y))
  rw [← fRat_eq_mant] at px py
  unfold fAdd
  rw [F32.of_fin hx, F32.of_fin hy]
  dsimp only
  generalize (if bit x 31 = true then (-1 : Int) else 1) * _ = a at px ⊢
  generalize (if bit y 31 = true then (-1 : Int) else 1) * _ = b at py ⊢
  have sum : fRat x + fRat y = ((a + b : Int) : ℚ) * 2 ^ min (fExp x) (fExp y) := by
    rw [← px, ← py]
    push_cast
    ring
  by_cases zero : a + b = 0
  · have none' : fRat x + fRat y = 0 := by rw [sum, zero, Int.cast_zero, zero_mul]
    refine ⟨_, false, if_pos zero, ?_, fun h => (bit_fPack _ (by norm_num)).trans (sign_of_zero_sum h)⟩
    rw [none']
    exact fRounded_zero _
  · refine ⟨_, _, if_neg zero, ?_, fun h => absurd h ?_⟩
    · rw [sum]
      exact fRound_int _ _
    · rw [sum]
      exact mul_ne_zero (Int.cast_ne_zero.mpr zero) (by positivity)

theorem bit_flip (w : Word) : bit (w ^^^ 0x80000000) 31 = !bit w 31 := by
  simp [bit]

theorem bits_flip (w : Word) {hi lo : Nat} (h : hi < 31) : bits (w ^^^ 0x80000000) hi lo = bits w hi lo := by
  apply Nat.eq_of_testBit_eq
  intro i
  simp only [bits, Nat.testBit_mod_two_pow, Nat.testBit_shiftRight, BitVec.testBit_toNat, BitVec.getLsbD_xor]
  by_cases below : i < hi + 1 - lo
  · have top : (0x80000000 : Word).getLsbD (lo + i) = false := by
      rw [show (0x80000000 : Word) = BitVec.ofNat 32 (2 ^ 31) from rfl, BitVec.getLsbD_ofNat,
        Nat.testBit_two_pow_of_ne (by omega), Bool.and_false]
    rw [top, Bool.xor_false]
  · simp [below]

theorem fRat_flip (w : Word) : fRat (w ^^^ 0x80000000) = -fRat w := by
  rw [fRat_eq_signed, fRat_eq_signed, bit_flip, bits_flip w (by norm_num)]
  cases bit w 31 <;> simp [signed]

theorem fSub_exact (hx : fIsFin x = true) (hy : fIsFin y = true) :
    ∃ v o, fSub x y = ⟨v, false, o, false⟩ ∧ FRounded (fRat x - fRat y) v o
      ∧ (fRat x - fRat y = 0 → bit v 31 = (bit x 31 && !bit y 31)) := by
  have exact' := fAdd_exact (y := y ^^^ 0x80000000) hx (by rwa [fIsFin_iff, bits_flip y (by norm_num), ← fIsFin_iff])
  rwa [fRat_flip, bit_flip, ← sub_eq_add_neg] at exact'

/-! ### Multiplication and division -/

theorem fMul_exact (hx : fIsFin x = true) (hy : fIsFin y = true) :
    ∃ v o, fMul x y = ⟨v, false, o, false⟩ ∧ FRounded (fRat x * fRat y) v o ∧ bit v 31 = (bit x 31 != bit y 31) := by
  have product : fRat x * fRat y
      = signed (bit x 31 != bit y 31) ((fMant x * fMant y : Nat) * 2 ^ (fExp x + fExp y)) := by
    rw [fRat_eq_mant, fRat_eq_mant, signed_mul_signed, zpow_add₀ two_ne_zero]
    push_cast
    ring_nf
  unfold fMul
  rw [F32.of_fin hx, F32.of_fin hy, product]
  exact ⟨_, _, rfl, fRound_exact _ _ _⟩

/-- A quotient of integers is its whole part and the part that the division cuts off. -/
theorem div_add_mod_div {m k : Nat} (pos : 0 < k) : ((m / k : Nat) : ℚ) + (m % k : Nat) / k = m / k := by
  have posQ : (0 : ℚ) < k := by exact_mod_cast pos
  rw [eq_div_iff posQ.ne', add_mul, div_mul_cancel₀ _ posQ.ne']
  exact_mod_cast Nat.div_add_mod' m k

/-- The quotient of two numbers, its mantissa taken with 64 more bits. -/
theorem fRat_div (x y : Word) : fRat x / fRat y
    = signed (bit x 31 != bit y 31) ((fMant x <<< 64 : Nat) / fMant y * 2 ^ (fExp x - fExp y - 64)) := by
  have shift : ((fMant x <<< 64 : Nat) : ℚ) = fMant x * 2 ^ (64 : Int) := by
    rw [Nat.shiftLeft_eq]
    push_cast
    rfl
  have unit : (2 : ℚ) ^ (64 : Int) ≠ 0 := by positivity
  rw [fRat_eq_mant, fRat_eq_mant, signed_div_signed, shift, zpow_sub₀ two_ne_zero, zpow_sub₀ two_ne_zero, mul_div_mul_comm]
  congr 1
  generalize (2 : ℚ) ^ (64 : Int) = c at unit
  rw [mul_div_right_comm, mul_assoc, mul_div_cancel₀ _ unit]

theorem fDiv_exact (hx : fIsFin x = true) (hy : fIsFin y = true) (nonzero : fIsZero y = false) :
    ∃ v o, fDiv x y = ⟨v, false, o, false⟩ ∧ FRounded (fRat x / fRat y) v o ∧ bit v 31 = (bit x 31 != bit y 31) := by
  have divisor : fMant y ≠ 0 := fun h => Bool.false_ne_true (nonzero.symm.trans (fMant_eq_zero.mp h))
  have pos := Nat.pos_of_ne_zero divisor
  have posQ : (0 : ℚ) < fMant y := by exact_mod_cast pos
  unfold fDiv
  rw [F32.of_fin hx, F32.of_fin hy, fRat_div, ← div_add_mod_div pos]
  dsimp only
  rw [if_neg divisor]
  generalize hm : fMant x <<< 64 = m
  have rest : ((m % fMant y : Nat) : ℚ) < fMant y := by exact_mod_cast Nat.mod_lt _ pos
  have sticky : decide (m % fMant y ≠ 0) = decide (((m % fMant y : Nat) : ℚ) / fMant y ≠ 0) := by
    refine decide_eq_decide.mpr (not_congr ?_)
    rw [div_eq_zero_iff, or_iff_left posQ.ne', Nat.cast_eq_zero]
  have wide : ((m % fMant y : Nat) : ℚ) / fMant y ≠ 0 → 2 ^ 25 ≤ m / fMant y := fun h => by
    have cut : fMant x ≠ 0 := fun h' => h (by rw [← hm, h', Nat.zero_shiftLeft, Nat.zero_mod, Nat.cast_zero, zero_div])
    rw [Nat.le_div_iff_mul_le pos, ← hm, Nat.shiftLeft_eq]
    calc 2 ^ 25 * fMant y ≤ 2 ^ 25 * 2 ^ 24 := Nat.mul_le_mul_left _ (fMant_lt y).le
      _ ≤ 1 * 2 ^ 64 := by norm_num
      _ ≤ fMant x * 2 ^ 64 := Nat.mul_le_mul_right _ (Nat.pos_of_ne_zero cut)
  exact ⟨_, _, rfl, fRound_rounded _ (div_nonneg (Nat.cast_nonneg _) posQ.le) ((div_lt_one posQ).mpr rest) sticky wide⟩

/-! ### Conversion -/

theorem fOfInt_exact (x : Word) :
    ∃ v, fOfInt x = ⟨v, false, false, false⟩ ∧ FRounded x.toInt v false ∧ (x = 0 → v = 0) := by
  have rounded := fRound_int x.toInt 0
  rw [zpow_zero, mul_one] at rounded
  have within : ¬ (2 : ℚ) ^ 128 - 2 ^ 103 ≤ |(x.toInt : ℚ)| := by
    have lo := BitVec.le_toInt x
    have hi := BitVec.toInt_lt (x := x)
    rw [not_le, abs_lt]
    have loQ : ((-(2 ^ 31) : Int) : ℚ) ≤ x.toInt := Int.cast_le.mpr lo
    have hiQ : (x.toInt : ℚ) < ((2 ^ 31 : Int) : ℚ) := Int.cast_lt.mpr hi
    push_cast at loQ hiQ
    constructor <;> norm_num <;> linarith
  have noOvf : (fRound (decide (x.toInt < 0)) x.toInt.natAbs 0 false).2 = false := by
    have := rounded.2
    rw [if_neg within] at this
    exact this.2.1
  rw [noOvf] at rounded
  refine ⟨_, ?_, rounded, ?_⟩
  · rw [fOfInt, FRes.rnd, noOvf]
  · rintro rfl
    decide

/-- The integer part of a number with a sign. -/
theorem tdiv_signed (neg : Bool) {q : ℚ} (hq : 0 ≤ q) :
    (signed neg q).num.tdiv (signed neg q).den = if neg then -⌊q⌋ else ⌊q⌋ := by
  have part : q.num.tdiv q.den = ⌊q⌋ := by
    rw [Rat.floor_def', Int.tdiv_eq_ediv_of_nonneg (Rat.num_nonneg.mpr hq)]
  cases neg
  · exact part
  · simp only [signed, if_true, Rat.neg_num, Rat.neg_den, Int.neg_tdiv, part]

/-- The integer part that FCVTWS takes. -/
theorem floor_shift (m : Nat) (e : Int) :
    ⌊(m * 2 ^ e : ℚ)⌋ = ((if 0 ≤ e then m <<< e.toNat else m >>> (-e).toNat : Nat) : Int) := by
  split
  · rename_i nonneg
    obtain ⟨k, rfl⟩ := Int.eq_ofNat_of_zero_le nonneg
    rw [zpow_natCast, Int.toNat_natCast, Nat.shiftLeft_eq, ← Int.floor_natCast (R := ℚ)]
    push_cast
    rfl
  · rename_i neg
    obtain ⟨k, rfl⟩ : ∃ k : Nat, e = -(k : Int) := ⟨(-e).toNat, by omega⟩
    rw [neg_neg, Int.toNat_natCast, zpow_neg, zpow_natCast, ← div_eq_mul_inv, Nat.shiftRight_eq_div_pow,
      show (2 : ℚ) ^ k = ((2 ^ k : Nat) : ℚ) by push_cast; rfl, Rat.floor_natCast_div_natCast]
    rfl

theorem fToInt_exact (hx : fIsFin x = true) : fToInt x =
    ⟨(clampS ((fRat x).num.tdiv (fRat x).den)).1, false, false, (clampS ((fRat x).num.tdiv (fRat x).den)).2⟩ := by
  rw [fToInt, F32.of_fin hx, fRat_eq_mant, tdiv_signed _ (by positivity), floor_shift]

/-! ### Comparison -/

theorem fEq_number (hx : fIsNan x = false) (hy : fIsNan y = false) :
    fEq x y = .ok (if fKey x = fKey y then 1 else 0) := by
  rw [fEq, F32.isNan_of, F32.isNan_of, hx, hy, cmp_eq_sign_fKey hx hy]
  rcases lt_trichotomy (fKey x) (fKey y) with lt | eq | gt
  · rw [Int.sign_eq_neg_one_of_neg (by omega), if_neg lt.ne]
    rfl
  · rw [eq, sub_self, Int.sign_zero, if_pos rfl]
    rfl
  · rw [Int.sign_eq_one_of_pos (by omega), if_neg gt.ne']
    rfl

theorem fLt_number (hx : fIsNan x = false) (hy : fIsNan y = false) :
    fLess false x y = .ok (if fKey x < fKey y then 1 else 0) := by
  rw [fLess, F32.isNan_of, F32.isNan_of, hx, hy, cmp_eq_sign_fKey hx hy]
  rcases lt_trichotomy (fKey x) (fKey y) with lt | eq | gt
  · rw [Int.sign_eq_neg_one_of_neg (by omega), if_pos lt]
    rfl
  · rw [eq, sub_self, Int.sign_zero, if_neg (lt_irrefl _)]
    rfl
  · rw [Int.sign_eq_one_of_pos (by omega), if_neg gt.le.not_gt]
    rfl

theorem fLe_number (hx : fIsNan x = false) (hy : fIsNan y = false) :
    fLess true x y = .ok (if fKey x ≤ fKey y then 1 else 0) := by
  rw [fLess, F32.isNan_of, F32.isNan_of, hx, hy, cmp_eq_sign_fKey hx hy]
  rcases lt_trichotomy (fKey x) (fKey y) with lt | eq | gt
  · rw [Int.sign_eq_neg_one_of_neg (by omega), if_pos lt.le]
    rfl
  · rw [eq, sub_self, Int.sign_zero, if_pos le_rfl]
    rfl
  · rw [Int.sign_eq_one_of_pos (by omega), if_neg gt.not_ge]
    rfl

/-- Two words at one place are the same word or two zeros. -/
theorem eq_or_zeros_of_fKey (eq : fKey x = fKey y) : x = y ∨ bits x 30 0 = 0 ∧ bits y 30 0 = 0 := by
  unfold fKey at eq
  by_cases sign : bit x 31 = bit y 31
  · refine .inl (word_ext sign ?_)
    rw [sign] at eq
    split at eq <;> omega
  · refine .inr ?_
    rw [show bit y 31 = !bit x 31 from Bool.eq_not.mpr (Ne.symm sign)] at eq
    generalize bit x 31 = b at eq
    cases b
    · simp only [Bool.false_eq_true, if_false, Bool.not_false, if_true] at eq
      omega
    · simp only [Bool.false_eq_true, if_false, Bool.not_true, if_true] at eq
      omega

/-- Of two words at one place, the negative one if there is one, and the positive one. -/
theorem ite_sign_of_fKey (eq : fKey x = fKey y) :
    (if bit x 31 then x else y) = x ||| y ∧ (if bit x 31 then y else x) = x &&& y := by
  rcases eq_or_zeros_of_fKey eq with rfl | ⟨zeroX, zeroY⟩
  · rw [BitVec.or_self, BitVec.and_self, ite_self]
    exact ⟨rfl, rfl⟩
  · rw [← fPack_sign_magnitude x, ← fPack_sign_magnitude y, zeroX, zeroY, bit_fPack _ (by norm_num)]
    generalize bit x 31 = a
    generalize bit y 31 = b
    revert a b
    decide

theorem fMin_number (hx : fIsNan x = false) (hy : fIsNan y = false) :
    fMinMax false x y = .ok (if fKey x < fKey y then x else if fKey y < fKey x then y else x ||| y) := by
  rw [fMinMax, F32.isNan_of, F32.isNan_of, hx, hy, cmp_eq_sign_fKey hx hy]
  rcases lt_trichotomy (fKey x) (fKey y) with lt | eq | gt
  · rw [Int.sign_eq_neg_one_of_neg (by omega), if_pos lt]
    rfl
  · rw [← (ite_sign_of_fKey eq).1, eq, sub_self, Int.sign_zero, if_neg (lt_irrefl _), if_neg (lt_irrefl _)]
    cases bit x 31 <;> rfl
  · rw [Int.sign_eq_one_of_pos (by omega), if_neg gt.le.not_gt, if_pos gt]
    rfl

theorem fMax_number (hx : fIsNan x = false) (hy : fIsNan y = false) :
    fMinMax true x y = .ok (if fKey x < fKey y then y else if fKey y < fKey x then x else x &&& y) := by
  rw [fMinMax, F32.isNan_of, F32.isNan_of, hx, hy, cmp_eq_sign_fKey hx hy]
  rcases lt_trichotomy (fKey x) (fKey y) with lt | eq | gt
  · rw [Int.sign_eq_neg_one_of_neg (by omega), if_pos lt]
    rfl
  · rw [← (ite_sign_of_fKey eq).2, eq, sub_self, Int.sign_zero, if_neg (lt_irrefl _), if_neg (lt_irrefl _)]
    cases bit x 31 <;> rfl
  · rw [Int.sign_eq_one_of_pos (by omega), if_neg gt.le.not_gt, if_pos gt]
    rfl

/-! ### The statement -/

section
variable {n : Fin 16} {rd ra rb : BitVec 5} {s : State} {c : Instr} {lat : Nat} {f : Word → Word → FRes}

/-- An exact operation on the operands of a lane; `o` is its overflow. -/
theorem does_rounded {P : Word → Bool → Prop} (h : s.issues n)
    (hc : exec c s = .next (s.command n (fltT lat f rd ra rb)))
    (exact' : ∃ v o, f (s.g n ra) (s.g n rb) = ⟨v, false, o, false⟩ ∧ P v o) :
    Does c s fun t => ∃ v o, Writes n rd v (if o then s.qa n ||| 0x40 else s.qa n) s t ∧ P v o := by
  obtain ⟨v, o, eq, holds⟩ := exact'
  have done := does_fltT h hc
  rw [eq] at done
  exact done.mono fun t writes => ⟨v, o, writes, holds⟩

/-- An operation that reports nothing. -/
theorem does_ok {v : Word} (h : s.issues n)
    (hc : exec c s = .next (s.command n (fltT lat f rd ra rb))) (exact' : f (s.g n ra) (s.g n rb) = .ok v) :
    Does c s (Writes n rd v (s.qa n) s) := by
  have done := does_fltT h hc
  rwa [exact'] at done

theorem does_fcvtsw (h : s.issues n) : Does (.fcvtsw n rd ra 0) s fun t => ∃ v, Writes n rd v (s.qa n) s t
    ∧ FRounded (s.g n ra).toInt v false ∧ (s.g n ra = 0 → v = 0) := by
  obtain ⟨v, eq, holds⟩ := fOfInt_exact (s.g n ra)
  have done : Does (.fcvtsw n rd ra 0) s _ := does_fltU h rfl
  rw [eq] at done
  exact done.mono fun t writes => ⟨v, writes, holds⟩

theorem does_fcvtws (h : s.issues n) (fin : fIsFin (s.g n ra) = true) : Does (.fcvtws n rd ra 0) s fun t => ∃ v q,
    Writes n rd v q s t ∧ v.toInt = max (-2147483648) (min 2147483647 ((fRat (s.g n ra)).num.tdiv (fRat (s.g n ra)).den))
      ∧ q = (if v.toInt = (fRat (s.g n ra)).num.tdiv (fRat (s.g n ra)).den then s.qa n else s.qa n ||| 0x80) := by
  have done : Does (.fcvtws n rd ra 0) s _ := does_fltU h rfl
  rw [fToInt_exact fin] at done
  exact done.mono fun t writes => ⟨_, _, writes, clampS_toInt _, clampS_flag _ _ _⟩

end

/-- Settles O11: a sum is an integer multiple of a power of two, a product has the product of the mantissas, a quotient is
taken with 64 more bits and a sticky bit; fRound rounds each once (`fRound_rounded`). -/
theorem laneFloatExact : Obligations.LaneFloatExact := by
  unfold Obligations.LaneFloatExact
  refine ⟨fun n rd ra rb x y s h hx hy finX finY => ?_, fun n rd ra x s h hx => ?_, fun n rd ra x s h hx fin => ?_,
    fun n rd ra rb x y s h hx hy numX numY => ?_⟩
  · subst hx hy
    exact ⟨does_rounded h rfl (fAdd_exact finX finY), does_rounded h rfl (fSub_exact finX finY),
      does_rounded h rfl (fMul_exact finX finY), fun nonzero => does_rounded h rfl (fDiv_exact finX finY nonzero)⟩
  · subst hx
    exact does_fcvtsw h
  · subst hx
    exact does_fcvtws h fin
  · subst hx hy
    exact ⟨does_ok h rfl (fEq_number numX numY), does_ok h rfl (fLt_number numX numY), does_ok h rfl (fLe_number numX numY),
      does_ok h rfl (fMin_number numX numY), does_ok h rfl (fMax_number numX numY)⟩

end Sys2Proof.Machine
end

section
/-! PROOFS. The statement of 05_lanes.md about floating-point operations (O10): NaNs, infinities, zeros and the conditions
that QA records (R156, R157). -/

namespace Sys2Proof.Machine
variable {n : Fin 16} {c : Instr} {s : State} {rd ra rb : BitVec 5} {x y v : Word} {lat : Nat} {f : Word → Word → FRes}

/-! ### NaN operands (R157) -/

theorem fIsSig_of_number (h : fIsNan x = false) : fIsSig x = false := by rw [fIsSig, h, Bool.false_and]

theorem fIsNan_flip (w : Word) : fIsNan (w ^^^ 0x80000000) = fIsNan w := by
  rw [fIsNan, bits_flip w (by norm_num), bits_flip w (by norm_num)]

theorem fIsInf_flip (w : Word) : fIsInf (w ^^^ 0x80000000) = fIsInf w := by
  rw [fIsInf, bits_flip w (by norm_num)]

theorem fIsFin_flip (w : Word) : fIsFin (w ^^^ 0x80000000) = fIsFin w := by
  rw [fIsFin, bits_flip w (by norm_num)]

theorem fIsSig_flip (w : Word) : fIsSig (w ^^^ 0x80000000) = fIsSig w := by
  have quiet : bit (w ^^^ 0x80000000) 22 = bit w 22 := by simp [bit]
  rw [fIsSig, fIsNan_flip, quiet]

/-- An operation that answers a NaN operand of either side by the canonical NaN, invalid for a signalling one. -/
theorem nan_of_operand (left : ∀ s, F32.of x = .nan s → f x y = .nan (s || (F32.of y).isSig))
    (inf : ∀ neg s, F32.of x = .inf neg → F32.of y = .nan s → f x y = .nan s)
    (fin : ∀ neg m e s, F32.of x = .fin neg m e → F32.of y = .nan s → f x y = .nan s)
    (h : fIsNan x = true ∨ fIsNan y = true) : f x y = .nan (fIsSig x || fIsSig y) := by
  cases hx : fIsNan x
  · have hy := h.resolve_left (by simp [hx])
    have right : f x y = .nan (!bit y 22) := by
      rcases fin_or_inf hx with finX | infX
      · exact fin _ _ _ _ (F32.of_fin finX) (F32.of_nan hy)
      · exact inf _ _ (F32.of_inf infX) (F32.of_nan hy)
    rw [right, fIsSig_of_number hx, fIsSig, hy, Bool.false_or, Bool.true_and]
  · have sig : fIsSig x = !bit x 22 := by rw [fIsSig, hx, Bool.true_and]
    rw [left _ (F32.of_nan hx), F32.isSig_of, sig]

theorem fAdd_nan (h : fIsNan x = true ∨ fIsNan y = true) : fAdd x y = .nan (fIsSig x || fIsSig y) :=
  nan_of_operand (fun _ hx => by rw [fAdd, hx]) (fun _ _ hx hy => by rw [fAdd, hx, hy])
    (fun _ _ _ _ hx hy => by rw [fAdd, hx, hy]) h

theorem fSub_nan (h : fIsNan x = true ∨ fIsNan y = true) : fSub x y = .nan (fIsSig x || fIsSig y) := by
  rw [← fIsSig_flip y]
  exact fAdd_nan (by rwa [fIsNan_flip])

theorem fMul_nan (h : fIsNan x = true ∨ fIsNan y = true) : fMul x y = .nan (fIsSig x || fIsSig y) :=
  nan_of_operand (fun _ hx => by rw [fMul, hx]) (fun _ _ hx hy => by rw [fMul, hx, hy])
    (fun _ _ _ _ hx hy => by rw [fMul, hx, hy]) h

theorem fDiv_nan (h : fIsNan x = true ∨ fIsNan y = true) : fDiv x y = .nan (fIsSig x || fIsSig y) :=
  nan_of_operand (fun _ hx => by rw [fDiv, hx]) (fun _ _ hx hy => by rw [fDiv, hx, hy])
    (fun _ _ _ _ hx hy => by rw [fDiv, hx, hy]) h

theorem fMinMax_nan (mx : Bool) (h : fIsNan x = true ∨ fIsNan y = true) : fMinMax mx x y =
    ⟨if !fIsNan x then x else if !fIsNan y then y else 0x7FC00000, fIsSig x || fIsSig y, false, false⟩ := by
  rw [fMinMax, F32.isNan_of, F32.isNan_of, F32.isSig_of, F32.isSig_of]
  cases hx : fIsNan x
  · rw [h.resolve_left (by simp [hx])]
    rfl
  · cases fIsNan y <;> rfl

theorem fEq_nan (h : fIsNan x = true ∨ fIsNan y = true) : fEq x y = ⟨0, fIsSig x || fIsSig y, false, false⟩ := by
  rw [fEq, F32.isNan_of, F32.isNan_of, F32.isSig_of, F32.isSig_of]
  exact if_pos (Bool.or_eq_true_iff.mpr h)

theorem fLess_nan (le : Bool) (h : fIsNan x = true ∨ fIsNan y = true) : fLess le x y = ⟨0, true, false, false⟩ := by
  rw [fLess, F32.isNan_of, F32.isNan_of]
  exact if_pos (Bool.or_eq_true_iff.mpr h)

/-! ### Infinities (R157) -/

theorem fInf_bne (a b : Bool) : fInf (a != b) = if a = b then 0x7F800000 else 0xFF800000 := by
  revert a b
  decide

theorem fPack_bne (a b : Bool) : fPack (a != b) 0 = if a = b then 0 else 0x80000000 := by
  revert a b
  decide

theorem fAdd_inf_inf (hx : fIsInf x = true) (hy : fIsInf y = true) : fAdd x y =
    ⟨if bit x 31 = bit y 31 then x else 0x7FC00000, decide (bit x 31 ≠ bit y 31), false, false⟩ := by
  rw [fAdd, F32.of_inf hx, F32.of_inf hy]
  by_cases same : bit x 31 = bit y 31
  · simp only [if_pos same, ← eq_fInf hx, decide_eq_false (not_not.mpr same)]
    rfl
  · simp only [if_neg same, decide_eq_true same]
    rfl

theorem fSub_inf_inf (hx : fIsInf x = true) (hy : fIsInf y = true) : fSub x y =
    ⟨if bit x 31 = bit y 31 then 0x7FC00000 else x, decide (bit x 31 = bit y 31), false, false⟩ := by
  rw [fSub, fAdd_inf_inf hx ((fIsInf_flip y).trans hy), bit_flip]
  cases bit x 31 <;> cases bit y 31 <;> rfl

theorem fAdd_inf_fin (hx : fIsInf x = true) (hy : fIsFin y = true) : fAdd x y = .ok x := by
  rw [fAdd, F32.of_inf hx, F32.of_fin hy]
  exact congrArg FRes.ok (eq_fInf hx).symm

theorem fAdd_fin_inf (hx : fIsFin x = true) (hy : fIsInf y = true) : fAdd x y = .ok y := by
  rw [fAdd, F32.of_fin hx, F32.of_inf hy]
  exact congrArg FRes.ok (eq_fInf hy).symm

theorem fMul_inf_inf (hx : fIsInf x = true) (hy : fIsInf y = true) :
    fMul x y = .ok (if bit x 31 = bit y 31 then 0x7F800000 else 0xFF800000) := by
  rw [fMul, F32.of_inf hx, F32.of_inf hy, ← fInf_bne]

theorem fMul_inf_fin (hx : fIsInf x = true) (hy : fIsFin y = true) : fMul x y =
    ⟨if fIsZero y then 0x7FC00000 else if bit x 31 = bit y 31 then 0x7F800000 else 0xFF800000, fIsZero y, false,
      false⟩ := by
  rw [fMul, F32.of_inf hx, F32.of_fin hy, ← fInf_bne]
  simp only [fMant_eq_zero]
  cases fIsZero y <;> rfl

theorem fMul_fin_inf (hx : fIsFin x = true) (hy : fIsInf y = true) : fMul x y =
    ⟨if fIsZero x then 0x7FC00000 else if bit x 31 = bit y 31 then 0x7F800000 else 0xFF800000, fIsZero x, false,
      false⟩ := by
  rw [fMul, F32.of_fin hx, F32.of_inf hy, ← fInf_bne]
  simp only [fMant_eq_zero]
  cases fIsZero x <;> rfl

theorem fDiv_inf_inf (hx : fIsInf x = true) (hy : fIsInf y = true) : fDiv x y = .nan true := by
  rw [fDiv, F32.of_inf hx, F32.of_inf hy]

theorem fDiv_inf_fin (hx : fIsInf x = true) (hy : fIsFin y = true) :
    fDiv x y = .ok (if bit x 31 = bit y 31 then 0x7F800000 else 0xFF800000) := by
  rw [fDiv, F32.of_inf hx, F32.of_fin hy, ← fInf_bne]

theorem fDiv_fin_inf (hx : fIsFin x = true) (hy : fIsInf y = true) :
    fDiv x y = .ok (if bit x 31 = bit y 31 then 0 else 0x80000000) := by
  rw [fDiv, F32.of_fin hx, F32.of_inf hy, ← fPack_bne]

/-! ### Division by zero and conversion (R157) -/

theorem fIsFin_of_zero (h : fIsZero x = true) : fIsFin x = true := by
  rw [fIsFin_iff, fIsZero_iff.mp h]
  norm_num

theorem fDiv_zero (hx : fIsFin x = true) (hy : fIsZero y = true) : fDiv x y =
    ⟨if fIsZero x then 0x7FC00000 else if bit x 31 = bit y 31 then 0x7F800000 else 0xFF800000, fIsZero x,
      !fIsZero x, false⟩ := by
  rw [fDiv, F32.of_fin hx, F32.of_fin (fIsFin_of_zero hy), ← fInf_bne]
  simp only [if_pos (fMant_eq_zero.mpr hy)]
  simp only [fMant_eq_zero]
  cases fIsZero x <;> rfl

theorem fToInt_not_fin (h : fIsNan x = true ∨ fIsInf x = true) : fToInt x =
    ⟨if fIsNan x then 0 else if bit x 31 then 0x80000000 else 0x7FFFFFFF, false, false, true⟩ := by
  cases nan : fIsNan x
  · rw [fToInt, F32.of_inf (h.resolve_left (by simp [nan]))]
    rfl
  · rw [fToInt, F32.of_nan nan]
    rfl

/-! ### The statement -/

section
variable (h : s.issues n) (hc : exec c s = .next (s.command n (fltT lat f rd ra rb)))
include h hc

/-- An operation that may be invalid. -/
theorem does_invalid_if {p : Prop} [Decidable p] (eq : f (s.g n ra) (s.g n rb) = ⟨v, decide p, false, false⟩) :
    Does c s (Writes n rd v (if p then s.qa n ||| 0x20 else s.qa n) s) := by
  have done := does_fltT h hc
  rw [eq] at done
  by_cases holds : p
  · rw [if_pos holds]
    rwa [decide_eq_true holds] at done
  · rw [if_neg holds]
    rwa [decide_eq_false holds] at done

/-- An operation that is invalid for a condition of the words. -/
theorem does_invalid_iff {b : Bool} (eq : f (s.g n ra) (s.g n rb) = ⟨v, b, false, false⟩) :
    Does c s (Writes n rd v (if b then s.qa n ||| 0x20 else s.qa n) s) :=
  does_invalid_if h hc (eq.trans (by rw [Bool.decide_coe]))

theorem does_invalid (eq : f (s.g n ra) (s.g n rb) = ⟨v, true, false, false⟩) :
    Does c s (Writes n rd v (s.qa n ||| 0x20) s) := by
  have done := does_fltT h hc
  rwa [eq] at done

end

theorem does_fdiv_zero (h : s.issues n) (hx : fIsFin (s.g n ra) = true) (hy : fIsZero (s.g n rb) = true) :
    Does (.fdiv n rd ra rb) s (Writes n rd (if fIsZero (s.g n ra) then 0x7FC00000
      else if bit (s.g n ra) 31 = bit (s.g n rb) 31 then 0x7F800000 else 0xFF800000)
      (if fIsZero (s.g n ra) then s.qa n ||| 0x20 else s.qa n ||| 0x40) s) := by
  have done : Does (.fdiv n rd ra rb) s _ := does_fltT h rfl
  rw [fDiv_zero hx hy] at done
  cases zero : fIsZero (s.g n ra) <;> rw [zero] at done <;> exact done

theorem does_fcvtws_not_fin (h : s.issues n) (not_fin : fIsNan (s.g n ra) = true ∨ fIsInf (s.g n ra) = true) :
    Does (.fcvtws n rd ra 0) s (Writes n rd
      (if fIsNan (s.g n ra) then 0 else if bit (s.g n ra) 31 then 0x80000000 else 0x7FFFFFFF) (s.qa n ||| 0x80) s) := by
  have done : Does (.fcvtws n rd ra 0) s _ := does_fltU h rfl
  rwa [fToInt_not_fin not_fin] at done

/-- Settles O10. -/
theorem laneFloat : Obligations.LaneFloat := by
  unfold Obligations.LaneFloat
  refine ⟨fun n rd ra rb s h => ⟨does_fltT h rfl, does_fltT h rfl, does_fltT h rfl, does_fltT h rfl, does_fltT h rfl,
      does_fltT h rfl, does_fltT h rfl, does_fltT h rfl, does_fltT h rfl, does_fltU h rfl, does_fltU h rfl,
      does_fltU (f := fun a => .ok (a &&& 0x7FFFFFFF)) h rfl, does_fltU (f := fun a => .ok (a ^^^ 0x80000000)) h rfl⟩,
    fun n rd ra rb x y s h hx hy nan => ?_, fun n rd ra rb x y s h hx hy infX infY => ?_,
    fun n rd ra rb x y s h hx hy infX finY => ?_, fun n rd ra rb x y s h hx hy finX infY => ?_,
    fun n rd ra rb x y s h hx hy finX zeroY => ?_, fun n rd ra x s h hx notFin => ?_⟩
  · subst hx hy
    exact ⟨does_invalid_iff h rfl (fAdd_nan nan), does_invalid_iff h rfl (fSub_nan nan),
      does_invalid_iff h rfl (fMul_nan nan),
      does_invalid_iff h rfl (fDiv_nan nan), does_invalid_iff h rfl (fMinMax_nan false nan),
      does_invalid_iff h rfl (fMinMax_nan true nan), does_invalid_iff h rfl (fEq_nan nan),
      does_invalid h rfl (fLess_nan false nan), does_invalid h rfl (fLess_nan true nan)⟩
  · subst hx hy
    exact ⟨does_invalid_if h rfl (fAdd_inf_inf infX infY), does_invalid_if h rfl (fSub_inf_inf infX infY),
      does_ok h rfl (fMul_inf_inf infX infY), does_invalid h rfl (fDiv_inf_inf infX infY)⟩
  · subst hx hy
    exact ⟨does_ok h rfl (fAdd_inf_fin infX finY), does_ok h rfl (fAdd_inf_fin infX ((fIsFin_flip _).trans finY)),
      does_invalid_iff h rfl (fMul_inf_fin infX finY), does_ok h rfl (fDiv_inf_fin infX finY)⟩
  · subst hx hy
    exact ⟨does_ok h rfl (fAdd_fin_inf finX infY), does_ok h rfl (fAdd_fin_inf finX ((fIsInf_flip _).trans infY)),
      does_invalid_iff h rfl (fMul_fin_inf finX infY), does_ok h rfl (fDiv_fin_inf finX infY)⟩
  · subst hx hy
    exact does_fdiv_zero h finX zeroY
  · subst hx
    exact does_fcvtws_not_fin h notFin

end Sys2Proof.Machine
end

section
/-! PROOFS. The invariant of the block (95_what_each_step_holds.md, R175, R221): it holds at reset, every command keeps it
and leaves the queue alone, and so does every step (O5, O6, O7). -/

open Sys2Proof
namespace Sys2Proof.Machine

variable {s t : State} {q : List Instr}

theorem inv_iff_good : Inv s ↔ Good s.pending s := by simp [Good]

/-- Every command completes and keeps the invariant and the queue. A lane instruction acts on its lane's core and does to
the state only what its body does; of the other commands the `_good` lemma of the meaning, a rule of `simp`, says it. -/
theorem exec_good (h : Good q s) (c : Instr) : Does c s (Good q) := by
  cases c
  case add | sub | and | or | xor | sll | srl | sra | cmplt | cmpltu | min | max | minu | maxu | adds | subs | addsu
    | subsu | addk | addsk | andk | ork | xork | cmpltk | shk | kcat | mul | mull | mullu | muls | div | divu | rem | remu
    | fadd | fsub | fmul | fdiv | fmin | fmax | feq | flt | fle | fcvtws | fcvtsw | fabs | fneg | jc | call | callr | ext
    | exts | ins | qmrg | qget | qtake | time => exact ⟨_, rfl, State.command_good h fun _ _ h => h⟩
  case ldw | ldh | ldhu | ldb | ldbu => exact ⟨_, rfl, State.command_good h fun _ _ => loadBody_good⟩
  case qld => exact ⟨_, rfl, State.command_good h fun _ _ => qldBody_good⟩
  case stw | sth | stb => exact ⟨_, rfl, State.command_good h fun _ _ => storeBody_good⟩
  case stq => exact ⟨_, rfl, State.command_good h fun _ _ => stqBody_good⟩
  case plyend => exact ⟨_, rfl, State.command_good h fun _ _ => plyendBody_good⟩
  all_goals exact ⟨_, rfl, by simp [h]⟩

/-- The command has one outcome, and `exec_good` says what it leaves. -/
theorem Good.of_exec {c : Instr} (h : Good q s) (ht : exec c s = .next t) : Good q t := by
  obtain ⟨u, hu, good⟩ := exec_good h c
  cases ht.symm.trans hu
  exact good

theorem step_of_empty (h : s.pending = []) : step s = .next s.tick := by
  simp only [step, h]

theorem step_of_cons {c : Instr} (h : s.pending = c :: q) : step s = exec c { s with pending := q } := by
  simp only [step, h]

/-- Settles O5. -/
theorem invAtReset : Obligations.InvAtReset := by
  unfold Obligations.InvAtReset
  exact ⟨rfl, by decide⟩

/-- Settles O7. -/
theorem execKeepsQueueAndInv : Obligations.ExecKeepsQueueAndInv := by
  unfold Obligations.ExecKeepsQueueAndInv
  intro c s t inv ht
  exact (inv_iff_good.mp inv).of_exec ht

/-- Settles O6: a step is a BCLK edge on an empty queue, else the command at the front on the queue's rest. -/
theorem stepKeepsInv : Obligations.StepKeepsInv := by
  unfold Obligations.StepKeepsInv
  intro s t inv ht
  cases queue : s.pending with
  | nil =>
    cases (step_of_empty queue).symm.trans ht
    exact (State.tick_good (inv_iff_good.mp inv)).2
  | cons c rest =>
    have good : Good rest { s with pending := rest } := ⟨rfl, inv⟩
    exact (good.of_exec ((step_of_cons queue).symm.trans ht)).2

end Sys2Proof.Machine
end

section
/-! PROOFS. The statement of 06_lockstep.md about the comparator, the bar sequence and the power-on test (O28) fails at a roll
segment that passes: by the end of the bar sequence the bad ITCM words of the lane have been repaired (R229), which the state
that the statement names leaves out. What follows is a lane in its roll segment with one bad word of its library half. -/

open Sys2Proof
namespace Sys2Proof.Machine

namespace BadCode

/-- The first word of the library half of lane 0's ITCM. -/
abbrev word : Nat := 0x10200000

/-- Every domain is released; lane 0 is BARRED and in its roll segment, and `word` is poisoned. -/
def rolling : State :=
  { (State.reset.setReg Reg.rstDom 0x3FF).modLane 0 (fun l => { l with state := .barred, test := .roll }) with
    poison := [word] }

/-- The roll passes, and the word has been rewritten from the library's DRAM copy (R229). -/
theorem poison_barRollDone : (barRollDone 0 .pass rolling).poison = [] := by decide +kernel

theorem poison_barPassed : ((rolling.waitOp rolling.lanes[0].testEnd).barPassed 0).poison = [word] := by decide +kernel

end BadCode

open BadCode in
/-- Refutes O28: in `rolling` the lane's bad word is no longer poisoned once the roll has passed, while the state named for a
roll that passes has it poisoned still. -/
theorem not_lockstep : ¬ Obligations.Lockstep := by
  unfold Obligations.Lockstep
  intro holds
  obtain ⟨-, -, -, -, -, rollEnds, -⟩ := holds
  obtain ⟨passes, -⟩ := rollEnds 0 0 rolling (by decide)
  have same : barRollDone 0 .pass rolling = (rolling.waitOp rolling.lanes[0].testEnd).barPassed 0 :=
    Host.Outcome.next.inj passes
  have kept := congrArg State.poison same
  rw [poison_barRollDone, poison_barPassed] at kept
  exact List.cons_ne_nil _ _ kept.symm

end Sys2Proof.Machine
end

section
/-! PROOFS. The statement of 06_lockstep.md about the debug commands of a lane (O29). -/

open Sys2Proof
namespace Sys2Proof.Machine

variable {s : State} {n : Fin 16}

/-- A command does what is shown of a state that its meaning is shown to answer. -/
theorem Does.of_meaning {c : Instr} {t u : State} {P : State → Prop} (means : exec c s = .next u) (eq : u = t)
    (left : P t) : Does c s P := ⟨t, eq ▸ means, left⟩

theorem Gives.of_meaning {c : Instr} {t u : State} (means : exec c s = .next u) (eq : u = t) : Gives c s t := eq ▸ means

/-! ### A lane enters BENCH and leaves it (R193) -/

/-- A lane that changes its state changes beside it its count of rolls at most. -/
theorem setLane_lane_eq (st : LaneState) :
    ∃ r, (s.setLane n st).lanes[n] = { s.lanes[n] with state := st, rolls := r } := by
  unfold State.setLane
  split
  case isTrue same =>
    subst same
    exact ⟨_, rfl⟩
  case isFalse =>
    extract_lets was t₁ out t₂ m seqr t₃ t₄ t₅ t₆
    have h₁ : t₁.lanes = s.lanes := by
      unfold t₁
      split
      · split
        · exact spoil_lanes ..
        · rfl
      · rfl
    have h₂ : t₂.lanes[n] = { s.lanes[n] with state := st, rolls := if out then 0 else s.lanes[n].rolls } :=
      (modLane_lanes_self t₁ n _).trans (congrArg (fun v : Vector Lane 16 =>
        { v[n] with state := st, rolls := if out then 0 else v[n].rolls }) h₁)
    have h₅ : t₅.lanes = t₂.lanes := State.raise_lanes ..
    have h : (if st = .borneOff then t₆.raise pCMP 3 else t₅).lanes = t₂.lanes := by
      split
      · exact (State.raise_lanes ..).trans h₅
      · exact h₅
    exact ⟨_, (congrArg (fun v : Vector Lane 16 => v[n]) h).trans h₂⟩

/-- A lane that becomes RUNNING may beside it mark a lost job (R173). -/
theorem laneRun_lane_eq :
    ∃ r b, (s.laneRun n).lanes[n] = { s.lanes[n] with state := .running, rolls := r, bgLost := b } := by
  obtain ⟨r, entered⟩ := setLane_lane_eq (s := s) (n := n) .running
  unfold State.laneRun
  dsimp only
  split
  · refine ⟨r, false, (modLane_lanes_self ..).trans ?_⟩
    exact congrArg (fun l : Lane => { l with bgLost := false }) entered
  · exact ⟨r, s.lanes[n].bgLost, entered⟩

/-- The sequencer goes on as it was while a round boundary is awaited. -/
theorem nextAfter_seqr (t₀ : BitVec 64) : (s.nextAfter t₀).seqr = s.seqr := by
  unfold State.nextAfter State.atBoundary State.coldEdge
  dsimp only
  split <;> split <;> simp

theorem laneBenchChangeApply_claim (claimed : s.lanes[n].benchReq = .claim)
    (free : s.lanes[n].state = .idle ∨ s.lanes[n].state = .running) : laneBenchChangeApply n s
      = ((((s.nextAfter s.lanes[n].benchAt).freeLane n).setLane n .bench).modLane n fun l =>
        { l with benchReq := .none }) := by
  have entered : ¬ (s.lanes[n].state ≠ .idle ∧ s.lanes[n].state ≠ .running) := by tauto
  unfold laneBenchChangeApply
  simp only [claimed, if_neg entered]

/-- The lane at the boundary at which it leaves BENCH. -/
def State.released (s : State) (n : Fin 16) : State :=
  (s.nextAfter s.lanes[n].benchAt).modLane n fun l => { l with benchReq := .none, halted := false }

theorem laneBenchChangeApply_release (asked : s.lanes[n].benchReq = .release) (bench : s.lanes[n].state = .bench) :
    laneBenchChangeApply n s
      = if s.seqr.state = .run then (s.released n).laneRun n else (s.released n).setLane n .idle := by
  have seqr : (s.released n).seqr = s.seqr := nextAfter_seqr _
  rw [← seqr]
  unfold laneBenchChangeApply State.released
  simp only [asked, bench, ne_eq, not_true_eq_false, if_false]

theorem claim_applied (claimed : s.lanes[n].benchReq = .claim)
    (free : s.lanes[n].state = .idle ∨ s.lanes[n].state = .running) : Does (.laneBenchChangeApply n) s fun t =>
      t.lanes[n].state = .bench ∧ t.lanes[n].benchReq = .none := by
  obtain ⟨r, entered⟩ := setLane_lane_eq (s := (s.nextAfter s.lanes[n].benchAt).freeLane n) (n := n) .bench
  refine .of_meaning rfl (laneBenchChangeApply_claim claimed free) ⟨?_, ?_⟩
  · rw [modLane_lanes_self, entered]
  · rw [modLane_lanes_self]

theorem release_applied (asked : s.lanes[n].benchReq = .release) (bench : s.lanes[n].state = .bench) :
    Does (.laneBenchChangeApply n) s fun t => t.lanes[n].state = (if s.seqr.state = .run then .running else .idle)
      ∧ t.lanes[n].benchReq = .none ∧ t.lanes[n].halted = false := by
  have req : (s.released n).lanes[n].benchReq = .none := congrArg Lane.benchReq (modLane_lanes_self ..)
  have runs : (s.released n).lanes[n].halted = false := congrArg Lane.halted (modLane_lanes_self ..)
  refine .of_meaning rfl (laneBenchChangeApply_release asked bench) ?_
  split
  case isTrue =>
    obtain ⟨r, b, entered⟩ := laneRun_lane_eq (s := s.released n) (n := n)
    rw [entered]
    exact ⟨rfl, req, runs⟩
  case isFalse =>
    obtain ⟨r, entered⟩ := setLane_lane_eq (s := s.released n) (n := n) .idle
    rw [entered]
    exact ⟨rfl, req, runs⟩

/-! ### When a debug command is taken (R198) -/

/-- Debug commands reach lane `n`: SEQ is released, the module is in BENCH, the lane is trusted. -/
abbrev State.debugs (s : State) (n : Fin 16) : Prop :=
  s.domainUp 2 = true ∧ s.state = .bench ∧ s.lanes[n].state ≠ .barred ∧ s.lanes[n].state ≠ .borneOff

theorem onDebug_taken (h : s.debugs n) (f : State → State) : s.onDebug n f = f s := by
  obtain ⟨up, bench, trusted, held⟩ := h
  unfold State.onDebug
  simp only [up, bench, trusted, held, Bool.not_true, Bool.false_eq_true, ne_eq, not_true_eq_false, or_self, if_false]

theorem onDebug_refused (up : s.domainUp 2 = true)
    (closed : s.state ≠ .bench ∨ s.lanes[n].state = .barred ∨ s.lanes[n].state = .borneOff) (f : State → State) :
    s.onDebug n f = s.refuse Reg.cmpDbgCmd := by
  unfold State.onDebug
  rw [up, if_neg (by decide), if_pos closed]

theorem debug_refused (up : s.domainUp 2 = true)
    (closed : s.state ≠ .bench ∨ s.lanes[n].state = .barred ∨ s.lanes[n].state = .borneOff) :
    ∀ c ∈ [Instr.claim n, .release n, .halt n, .resume n, .step n], Gives c s (s.refuse Reg.cmpDbgCmd) := by
  simp only [List.forall_mem_cons, List.not_mem_nil, false_imp_iff, implies_true, and_true]
  have refused f : s.onDebug n f = s.refuse Reg.cmpDbgCmd := onDebug_refused up closed f
  exact ⟨.of_meaning rfl (refused _), .of_meaning rfl (refused _), .of_meaning rfl (refused _),
    .of_meaning rfl (refused _), .of_meaning rfl (refused _)⟩

/-! ### CLAIM, RELEASE, HALT, RESUME, STEP (R193, R196) -/

theorem dbgHalt_halted : (s.dbgHalt n).lanes[n].halted = true := by
  have lane : (s.dbgHalt n).lanes[n] = _ :=
    (congrArg (fun v : Vector Lane 16 => v[n]) (State.raise_lanes ..)).trans (modLane_lanes_self ..)
  rw [lane]

section
variable (h : s.debugs n)
include h

theorem claim_asks (other : s.lanes[n].state ≠ .bench) : Does (.claim n) s fun t =>
    t.lanes[n].benchReq = .claim ∧ t.lanes[n].state = s.lanes[n].state := by
  refine .of_meaning rfl ((onDebug_taken h _).trans (if_neg other)) ⟨?_, ?_⟩
  · rw [modLane_lanes_self]
  · rw [modLane_lanes_self]

theorem release_asks (bench : s.lanes[n].state = .bench) : Does (.release n) s fun t =>
    t.lanes[n].benchReq = .release ∧ t.lanes[n].state = .bench := by
  refine .of_meaning rfl ((onDebug_taken h _).trans (if_pos bench)) ?_
  exact ⟨congrArg Lane.benchReq (modLane_lanes_self ..), (congrArg Lane.state (modLane_lanes_self ..)).trans bench⟩

theorem claim_again (bench : s.lanes[n].state = .bench) : Gives (.claim n) s s :=
  .of_meaning rfl ((onDebug_taken h _).trans (if_pos bench))

theorem release_unclaimed (other : s.lanes[n].state ≠ .bench) : Gives (.release n) s s :=
  .of_meaning rfl ((onDebug_taken h _).trans (if_neg other))

theorem resume_gives : Gives (.resume n) s (s.modLane n fun l => { l with halted := false }) :=
  .of_meaning rfl (onDebug_taken h _)

/-- HALT is a matter of its lane, and DBG_HALT rises if the lane has not stood still before. -/
theorem halt_halts : Does (.halt n) s fun t => t.lanes[n].halted = true ∧ t.mem = s.mem
    ∧ (∀ m : Fin 16, m ≠ n → t.lanes[m] = s.lanes[m]) ∧ (bit (s.reg (Reg.pgIrqEn pCMP)) 5 = true →
      s.lanes[n].halted = false → bit (t.reg (Reg.pgIrq pCMP)) 5 = true) := by
  cases stands : s.lanes[n].halted with
  | false =>
    refine .of_meaning rfl ((onDebug_taken h _).trans (if_neg (Bool.eq_false_iff.mp stands)))
      ⟨dbgHalt_halted, beside_mem.raise .., fun m other => ?_, fun enabled _ => State.raise_latched enabled (by decide)⟩
    unfold State.dbgHalt
    rw [State.raise_lanes]
    exact modLane_lanes_ne _ _ other
  | true =>
    exact .of_meaning rfl ((onDebug_taken h _).trans (if_pos stands))
      ⟨stands, rfl, fun _ _ => rfl, fun _ runs => absurd runs (by decide)⟩

theorem step_issues (work : s.executes n true = true) : Does (.step n) s fun t =>
    t = (s.issueAs n true (fetchBody n)).dbgHalt n ∧ t.lanes[n].halted = true :=
  .of_meaning rfl ((onDebug_taken h _).trans (if_neg (by simp [work]))) ⟨rfl, dbgHalt_halted⟩

theorem step_idle (idle : s.executes n true = false) : Gives (.step n) s s :=
  .of_meaning rfl ((onDebug_taken h _).trans (if_pos (by simp [idle])))

end

/-! ### CMP_DBG_REG_DATA (R197) -/

section
variable (up : s.domainUp 2 = true) (sel : n.val = s.fld Reg.cmpDbgRegSel 3 0) (v : Word)
include up sel

theorem cmpDbgRegDataWrite_eq : cmpDbgRegDataWrite v s = if !s.lanes[n].halted then s.refuse Reg.cmpDbgRegData
    else s.modLane n fun l => { l with
      main := l.main.dbgSet (s.fld Reg.cmpDbgRegSel 9 4) v, shadow := l.shadow.dbgSet (s.fld Reg.cmpDbgRegSel 9 4) v } := by
  obtain rfl : n = Fin.ofNat 16 (s.fld Reg.cmpDbgRegSel 3 0) := sel ▸ (Fin.ofNat_val_eq_self n).symm
  exact if_neg (by rw [up]; decide)

theorem cmpDbgRegDataWrite_halted (halted : s.lanes[n].halted = true) : Does (.cmpDbgRegDataWrite v) s fun t =>
    t.lanes[n].main = s.lanes[n].main.dbgSet (s.fld Reg.cmpDbgRegSel 9 4) v
      ∧ t.lanes[n].shadow = s.lanes[n].shadow.dbgSet (s.fld Reg.cmpDbgRegSel 9 4) v
      ∧ (∀ m : Fin 16, m ≠ n → t.lanes[m] = s.lanes[m]) := by
  refine .of_meaning rfl ((cmpDbgRegDataWrite_eq up sel v).trans (if_neg (by rw [halted]; decide)))
    ⟨congrArg Lane.main (modLane_lanes_self ..), congrArg Lane.shadow (modLane_lanes_self ..), fun m other => ?_⟩
  exact modLane_lanes_ne _ _ other

theorem cmpDbgRegDataWrite_refused (runs : s.lanes[n].halted = false) :
    Gives (.cmpDbgRegDataWrite v) s (s.refuse Reg.cmpDbgRegData) :=
  .of_meaning rfl ((cmpDbgRegDataWrite_eq up sel v).trans (if_pos (by rw [runs]; decide)))

end

/-- Settles O29. -/
theorem debugAccess : Obligations.DebugAccess := by
  unfold Obligations.DebugAccess
  exact ⟨fun n s up bench trusted other => claim_asks ⟨up, bench, trusted⟩ other,
    fun n s up bench trusted own => release_asks ⟨up, bench, trusted⟩ own,
    fun n s claimed free => claim_applied claimed free,
    fun n s asked bench => release_applied asked bench,
    fun n s up bench trusted => ⟨halt_halts ⟨up, bench, trusted⟩, resume_gives ⟨up, bench, trusted⟩⟩,
    fun n s up bench trusted => ⟨step_issues ⟨up, bench, trusted⟩, step_idle ⟨up, bench, trusted⟩⟩,
    fun n s up bench trusted => ⟨claim_again ⟨up, bench, trusted⟩, release_unclaimed ⟨up, bench, trusted⟩⟩,
    fun n s up closed => debug_refused up closed,
    fun n v s up sel => ⟨cmpDbgRegDataWrite_halted up sel v, cmpDbgRegDataWrite_refused up sel v⟩⟩

end Sys2Proof.Machine
end

section
/-! PROOFS. The statement of 08_memory_and_movers.md about memory errors (O30): poison marks, the counts of the IMG page, the
repair of code words and the end of a sweep. -/

open Sys2Proof
namespace Sys2Proof.Machine

variable {s : State} {a : Nat}

/-! ### Poison marks (R229) -/

theorem mem_sins_of_mem {p : Nat} (k : Nat) : ∀ {l : List Nat}, p ∈ l → p ∈ sins l k
  | b :: r, h => by
    unfold sins
    split
    · exact List.mem_cons_of_mem _ h
    · split
      · exact h
      · exact List.mem_cons.mpr ((List.mem_cons.mp h).imp_right (mem_sins_of_mem k))

theorem poisonAt_marks (s : State) {p : Nat} (word : a / 4 * 4 = p) : (s.poisonAt a).poison.contains p = true :=
  List.contains_iff_mem.mpr (word ▸ mem_sins _ _)

theorem poisonAt_marked {p : Nat} (b : Nat) (h : s.poison.contains p = true) : (s.poisonAt b).poison.contains p = true :=
  List.contains_iff_mem.mpr (mem_sins_of_mem _ (List.contains_iff_mem.mp h))

/-! ### Uncorrectable words of SRAM and MRAM (R229, R254) -/

theorem sramError_mem : (s.sramError a).mem = s.mem := by simp [State.sramError, State.recErr, State.evidence]

theorem sramError_addr : (s.sramError a).reg Reg.imgSramAddr = BitVec.ofNat 32 a := by
  unfold State.sramError State.recErr
  dsimp only
  rw [State.event_reg, State.reg_logErr_ne (by decide) (by decide), State.reg_raise_ne (by decide), State.reg_setReg_self]

section
variable {addr : BitVec 40} {n : Fin 16} {o : Nat} (up : s.domainUp 1 = true)
include up

theorem sramUncorr_mram (kind : memKind addr.toNat = .mram) :
    sramUncorr addr s = (s.sramError addr.toNat).poisonAt addr.toNat := by simp [sramUncorr, up, kind]

theorem sramUncorr_tcm (kind : memKind addr.toNat = .itcm n o ∨ memKind addr.toNat = .dtcm n o) :
    sramUncorr addr s = (s.sramError addr.toNat).poisonAt addr.toNat := by
  rcases kind with kind | kind <;> simp [sramUncorr, up, kind]

theorem sramUncorr_imem (kind : memKind addr.toNat = .imem o) :
    sramUncorr addr s = (s.sramError addr.toNat).imemPut o 0 0xC := by simp [sramUncorr, up, kind]

end

/-! ### Uncorrectable words of DRAM (R229, R230) -/

/-- The retirement of a page moves neither a byte nor a poison mark, and of the registers at most IMG's count and interrupt. -/
theorem retirePage_keeps (page : Nat) : (s.retirePage page).mem = s.mem ∧ (s.retirePage page).poison = s.poison
    ∧ ∀ k, k ≠ Reg.imgRetire → k ≠ Reg.pgIrq pIMG → (s.retirePage page).reg k = s.reg k := by
  have raised : (s.raise pIMG 3).mem = s.mem ∧ (s.raise pIMG 3).poison = s.poison
      ∧ ∀ k, k ≠ Reg.imgRetire → k ≠ Reg.pgIrq pIMG → (s.raise pIMG 3).reg k = s.reg k :=
    ⟨State.raise_mem .., State.raise_poison .., fun k _ irq => State.reg_raise_ne irq⟩
  unfold State.retirePage
  split
  · exact ⟨rfl, rfl, fun _ _ _ => rfl⟩
  · split
    · exact ⟨rfl, rfl, fun _ _ _ => rfl⟩
    · dsimp only
      split
      · exact raised
      · split
        · exact raised
        · obtain ⟨mem, poison, reg⟩ := raised
          exact ⟨mem, poison, fun k count irq => (State.reg_setFld_ne count).trans (reg k count irq)⟩

/-- An uncorrectable DRAM word is counted and recorded (R230, R254). -/
def State.dramError (s : State) (a : Nat) : State :=
  let i := BitVec.ofNat 32 (a / 0x1000)
  let s := (s.evidence.incSat Reg.imgDramEcc 31 16).setReg Reg.imgDramAddrLo (BitVec.ofNat 32 a)
  let s := s.setReg Reg.imgDramAddrHi (BitVec.ofNat 32 (a / 2 ^ 32 % 256))
  ((s.raise pIMG 1).logErr pIMG 0x0102 i).recErr pIMG 0x0102 i .normal []

theorem dramError_mem : (s.dramError a).mem = s.mem := by simp [State.dramError, State.recErr, State.evidence]

theorem dramError_count : (s.dramError a).fld Reg.imgDramEcc 31 16 = min 0xFFFF (s.fld Reg.imgDramEcc 31 16 + 1) := by
  unfold State.dramError State.recErr
  dsimp only
  rw [State.event_fld, fld_eq_of_reg (State.reg_logErr_ne (by decide) (by decide)), fld_raise_ne (by decide),
    State.fld_setReg_ne (by decide), State.fld_setReg_ne (by decide), fld_incSat_self (by decide) (by decide)]
  rfl

section
variable {addr : BitVec 40} (up : s.domainUp 1 = true) (kind : memKind (addr.toNat / 8 * 8) = .dram)
include up kind

/-- SECDED covers 64 bits: both words of the pair are poisoned. -/
theorem dramUncorr_dram : dramUncorr addr s
    = (((s.dramError (addr.toNat / 8 * 8)).poisonAt (addr.toNat / 8 * 8)).poisonAt (addr.toNat / 8 * 8 + 4)).retirePage
        (addr.toNat / 8 * 8 / 0x1000) :=
  if_neg (by rw [up, kind]; decide)

theorem dramUncorr_poisons : Does (.dramUncorr addr) s fun t => t.poison.contains (addr.toNat / 8 * 8) = true
    ∧ t.poison.contains (addr.toNat / 8 * 8 + 4) = true
    ∧ t.fld Reg.imgDramEcc 31 16 = min 0xFFFF (s.fld Reg.imgDramEcc 31 16 + 1) ∧ t.mem = s.mem := by
  obtain ⟨mem, poison, reg⟩ := retirePage_keeps (addr.toNat / 8 * 8 / 0x1000)
    (s := ((s.dramError (addr.toNat / 8 * 8)).poisonAt (addr.toNat / 8 * 8)).poisonAt (addr.toNat / 8 * 8 + 4))
  refine .of_meaning rfl (dramUncorr_dram up kind) ⟨?_, ?_, ?_, mem.trans dramError_mem⟩
  · rw [poison]
    exact poisonAt_marked _ (poisonAt_marks _ (by omega))
  · rw [poison]
    exact poisonAt_marks _ (by omega)
  · exact (fld_eq_of_reg (reg _ (by decide) (by decide))).trans dramError_count

end

/-! ### Corrected words (R168, R227, R230) -/

section
variable {addr : BitVec 40} (up : s.domainUp 1 = true)
include up

/-- Without CE_LIM a corrected word of DRAM is counted in its page and in IMG_DRAM_ECC, and that is all. -/
theorem dramCorrectedError_counts (kind : memKind addr.toNat = .dram) (unlimited : s.fld Reg.imgCtrl 27 24 = 0)
    (l : Option (Fin 16)) : Does (.dramCorrectedError ⟨addr, l⟩) s fun t =>
      tget 0 t.retire.counts (addr.toNat / 0x1000) = tget 0 s.retire.counts (addr.toNat / 0x1000) + 1
      ∧ t.fld Reg.imgDramEcc 15 0 = min 0xFFFF (s.fld Reg.imgDramEcc 15 0 + 1) ∧ t.mem = s.mem := by
  have counted : dramCorrectedError addr l s = { s.incSat Reg.imgDramEcc 15 0 with retire := { s.retire with
      counts := tput s.retire.counts (addr.toNat / 0x1000) (tget 0 s.retire.counts (addr.toNat / 0x1000) + 1) } } := by
    simp [dramCorrectedError, State.dramCorrected, up, kind, unlimited]
  exact .of_meaning rfl counted ⟨tget_tput_self, fld_incSat_self (by decide) (by decide), rfl⟩

/-- A corrected word of instance memory is counted in IMG_SRAM_ECC and in the lane that read it. -/
theorem dramCorrectedError_imem {o : Nat} {n : Fin 16} (kind : memKind addr.toNat = .imem o)
    (lane : s.domainUp (4 + n.val / 4) = true) : Does (.dramCorrectedError ⟨addr, some n⟩) s fun t =>
      t.fld Reg.imgSramEcc 15 0 = min 0xFFFF (s.fld Reg.imgSramEcc 15 0 + 1)
      ∧ t.fld (Reg.laneEcc n) 15 0 = min 0xFFFF (s.fld (Reg.laneEcc n) 15 0 + 1) ∧ t.mem = s.mem := by
  have key : Reg.laneEcc n ≠ Reg.imgSramEcc := by unfold Reg.laneEcc Reg.imgSramEcc; omega
  have lane' : (s.incSat Reg.imgSramEcc 15 0).domainUp (4 + n.val / 4) = true :=
    (domainUp_of_reg (State.reg_setFld_ne (by decide)) _).trans lane
  have counted : dramCorrectedError addr (some n) s
      = (s.incSat Reg.imgSramEcc 15 0).incSat (Reg.laneEcc n) 15 0 := by
    simp [dramCorrectedError, State.laneCorrected, up, kind, lane']
  refine .of_meaning rfl counted ⟨?_, ?_, rfl⟩
  · exact (State.fld_setFld_ne key.symm).trans (fld_incSat_self (by decide) (by decide))
  · rw [fld_incSat_self (by decide) (by decide), State.incSat, State.fld_setFld_ne key]
    rfl

end

/-! ### Code repair, sweeps, remapped pages (R228 to R231) -/

theorem codeRepairDone_repairs {addr : BitVec 40} {n : Fin 16} {o : Nat} {b : Bytes}
    (kind : memKind addr.toNat = .itcm n o) (bad : s.poison.contains (laneBase n.val + o) = true)
    (copy : s.repairWord n o = some b) : codeRepairDone addr s
      = ((s.writeMem (laneBase n.val + o) b).incSat Reg.imgRepair 15 0).raise pIMG 4 := by
  simp only [codeRepairDone, kind, State.repairCode, bad, copy, Bool.not_true, Bool.false_eq_true, if_false]

theorem fld_incWrap_self {k hi lo : Nat} (h : lo ≤ hi) (hh : hi < 32) :
    (s.incWrap k hi lo).fld k hi lo = (s.fld k hi lo + 1) % 2 ^ (hi + 1 - lo) :=
  (State.fld_setFld_self h hh).trans (Nat.mod_mod ..)

theorem sramSweepEnd_sram (up : s.domainUp 1 = true) : sramSweepEnd false s = s.incWrap Reg.imgSweep 15 0 := by
  simp [sramSweepEnd, up]

/-- The page counts begin anew with the sweep of the DRAM. -/
theorem sramSweepEnd_dram (up : s.domainUp 1 = true) :
    sramSweepEnd true s = { s with retire := { s.retire with counts := [] } }.incWrap Reg.imgSweep 31 16 := by
  simp [sramSweepEnd, up]

/-- A page that does not take the last spare page is remapped to the next one. -/
theorem pageRetireDone_remaps {page : Nat} {rest : List Nat} (copying : s.retire.copying = page :: rest)
    (room : s.fld Reg.imgRetire 14 0 + 1 < sparePages) : pageRetireDone s
      = ({ s with retire := { s.retire with
          copying := rest
          table := tput s.retire.table page (s.fld Reg.imgRetire 14 0) } }.setFld
        Reg.imgRetire 14 0 (s.fld Reg.imgRetire 14 0 + 1)).raise pIMG 2 := by
  simp only [pageRetireDone, copying, if_neg (Nat.ne_of_lt room)]

theorem pageRetireDone_counts {page : Nat} {rest : List Nat} (copying : s.retire.copying = page :: rest)
    (room : s.fld Reg.imgRetire 14 0 + 1 < sparePages) : Does .pageRetireDone s fun t => t.retire.copying = rest
      ∧ tget 0 t.retire.table page = s.fld Reg.imgRetire 14 0
      ∧ t.fld Reg.imgRetire 14 0 = s.fld Reg.imgRetire 14 0 + 1 := by
  refine .of_meaning rfl (pageRetireDone_remaps copying room) ⟨?_, ?_, ?_⟩
  · rw [State.raise_retire]
    rfl
  · rw [State.raise_retire]
    exact tget_tput_self
  · rw [fld_raise_ne (by decide), State.fld_setFld_self]
    exact Nat.mod_eq_of_lt (room.trans (by decide))

/-- Settles O30. -/
theorem memoryErrors : Obligations.MemoryErrors := by
  unfold Obligations.MemoryErrors
  refine ⟨fun a s up kind => ?_, fun a n o s up kind => ?_, fun a o s up kind => .of_meaning rfl (sramUncorr_imem up kind),
    fun a s up kind => dramUncorr_poisons up kind,
    fun a l s up kind unlimited => dramCorrectedError_counts up kind unlimited l,
    fun a o n s up kind lane => dramCorrectedError_imem up kind lane,
    fun a n o b s kind bad copy => ?_, fun s up => ?_, fun p r s copying room => pageRetireDone_counts copying room⟩
  · have means := sramUncorr_mram up kind
    exact ⟨.of_meaning rfl means, .of_meaning rfl means ⟨poisonAt_marks _ rfl, sramError_addr, sramError_mem⟩⟩
  · exact .of_meaning rfl (sramUncorr_tcm up kind) ⟨poisonAt_marks _ rfl, sramError_mem⟩
  · have means := codeRepairDone_repairs kind bad copy
    refine ⟨.of_meaning rfl means, .of_meaning rfl means ⟨?_, State.raise_mem ..⟩⟩
    exact (fld_raise_ne (by decide)).trans (fld_incSat_self (by decide) (by decide))
  · refine ⟨.of_meaning rfl (sramSweepEnd_sram up), .of_meaning rfl (sramSweepEnd_dram up) ⟨rfl, ?_⟩⟩
    exact fld_incWrap_self (by decide) (by decide)

end Sys2Proof.Machine
end

section
/-! PROOFS. The statement of 08_memory_and_movers.md about the descriptor rings (O32): the head, the configuration, the life of
a descriptor, RING_CMD. -/

open Sys2Proof
namespace Sys2Proof.Machine

variable {s t u : State} {r : Nat}

/-! ### Register keys -/

/-- Two registers of one page. -/
theorem page_ofs_ne {p i j : Nat} (h : i ≠ j) : p * 0x1000 + i ≠ p * 0x1000 + j := fun e => h (Nat.add_left_cancel e)

/-- The pages of the rings come after that of the MMU. -/
theorem ringKey_ne {i k : Nat} (h : k < 0x20000) : pRING r * 0x1000 + i ≠ k := by unfold pRING; omega

/-! ### The descriptor in progress on a ring -/

theorem descOf_setDesc_none (s : State) (r : Nat) : (s.setDesc r none).descOf r = none := by
  simp [State.descOf, State.setDesc, List.find?_eq_none]

theorem descOf_setDesc_some {d : DescRun} (own : d.ring = r) : (s.setDesc r (some d)).descOf r = some d := by
  have others : (s.descs.filter (fun x => x.ring != r)).find? (fun d => d.ring == r) = none := by
    simp [List.find?_eq_none]
  simp [State.descOf, State.setDesc, List.find?_append, others, own]

theorem descOf_ring {d : DescRun} (h : s.descOf r = some d) : d.ring = r := by simpa using List.find?_some h

theorem descOf_of_descs (h : t.descs = s.descs) : t.descOf r = s.descOf r := congrArg (List.find? _) h

/-! ### The head (R246) -/

section
variable {ring : Fin 64} {v : Word} (up : s.domainUp 1 = true)
include up

theorem ringHeadWrite_taken (ahead : 0 ≤ (v - s.reg (Reg.ringTail ring)).toInt)
    (fits : (v - s.reg (Reg.ringTail ring)).toInt ≤ s.ringSize ring) :
    ringHeadWrite ring v s = s.setReg (Reg.ringHead ring) v := by
  have inside : ¬ ((v - s.reg (Reg.ringTail ring)).toInt < 0
      ∨ (s.ringSize ring : Int) < (v - s.reg (Reg.ringTail ring)).toInt) := by omega
  exact (if_neg (by simp [up])).trans (if_neg inside)

theorem ringHeadWrite_refused (outside : (v - s.reg (Reg.ringTail ring)).toInt < 0
      ∨ (s.ringSize ring : Int) < (v - s.reg (Reg.ringTail ring)).toInt) :
    ringHeadWrite ring v s = s.logErr (pRING ring) 0x0101 v :=
  (if_neg (by simp [up])).trans (if_pos outside)

end

/-! ### The configuration (R252, R257) -/

/-- A ring with work to do may have this configuration: its SIZE, base and CTX in `u`. -/
abbrev State.ringAllowed (u : State) (r : Nat) : Prop :=
  u.ringSize r ∈ (List.range 13).map (fun k => 16 * 2 ^ k) ∧ u.ringBase r % 0x1000 = 0 ∧ bgMem ≤ u.ringBase r
    ∧ u.ringBase r + 32 * u.ringSize r ≤ sparePool ∧ u.ringCtx r ≠ 0
    ∧ (bit (u.reg (Reg.ringCfg r)) 23 = true → u.ringCtx r ≠ 15)

theorem ringSizeOk_iff (n : Nat) : ringSizeOk n = true ↔ n ∈ (List.range 13).map (fun k => 16 * 2 ^ k) :=
  List.contains_iff_mem

theorem bits_one_eq_zero (w : Word) (i : Nat) : bits w i i = 0 ↔ bit w i = false := by
  simp only [bits, bit, BitVec.getLsbD, Nat.testBit_eq_decide_div_mod_eq, Nat.shiftRight_eq_div_pow, Nat.add_sub_cancel_left,
    pow_one, decide_eq_false_iff_not]
  omega

theorem ringValid_iff : u.ringValid r = true ↔ u.ringAllowed r := by
  have host : u.fld (Reg.ringCfg r) 23 23 = 0 ↔ bit (u.reg (Reg.ringCfg r)) 23 = false := bits_one_eq_zero ..
  simp only [State.ringValid, State.ringAllowed, Bool.and_eq_true, Bool.or_eq_true, ringSizeOk_iff, beq_iff_eq, bne_iff_ne,
    decide_eq_true_eq, host]
  cases bit (u.reg (Reg.ringCfg r)) 23 <;> simp [and_assoc]

/-- The offsets of RING_CFG, RING_BASE_LO and RING_BASE_HI. -/
abbrev IsRingCfg (o : BitVec 12) : Prop := o = 0x040 ∨ o = 0x044 ∨ o = 0x048

theorem IsRingCfg.known {o : BitVec 12} (h : IsRingCfg o) :
    ¬ (o.toNat != 0x040 && o.toNat != 0x044 && o.toNat != 0x048) = true := by
  rcases h with rfl | rfl | rfl <;> decide

/-- They lie between the header of the page and RING_HEAD. -/
theorem IsRingCfg.between {o : BitVec 12} (h : IsRingCfg o) : 0x040 ≤ o.toNat ∧ o.toNat < 0x04C := by
  rcases h with rfl | rfl | rfl <;> decide

/-- The ring with `w` at offset `o` and with its head and tail cleared. -/
def State.ringConfigured (t : State) (r : Nat) (o : BitVec 12) (w : Word) : State :=
  ((t.setReg (pRING r * 0x1000 + o.toNat) w).setReg (Reg.ringHead r) 0).setReg (Reg.ringTail r) 0

theorem ringConfigured_regs {o : BitVec 12} (cfg : IsRingCfg o) (w : Word) :
    (t.ringConfigured r o w).reg (Reg.ringHead r) = 0 ∧ (t.ringConfigured r o w).reg (Reg.ringTail r) = 0
    ∧ (t.ringConfigured r o w).reg (pRING r * 0x1000 + o.toNat) = w := by
  obtain ⟨-, below⟩ := cfg.between
  unfold State.ringConfigured
  refine ⟨?_, State.reg_setReg_self, ?_⟩
  · rw [State.reg_setReg_ne (page_ofs_ne (by decide)), State.reg_setReg_self]
  · rw [State.reg_setReg_ne (page_ofs_ne (by omega)), State.reg_setReg_ne (page_ofs_ne (by omega)), State.reg_setReg_self]

section
variable {ring : Fin 64} {o : BitVec 12} {v : Word} (up : s.domainUp 1 = true) (cfg : IsRingCfg o)
include up cfg

theorem ringCfgWrite_running {d : DescRun} (desc : s.descOf ring = some d) (runs : d.halt = none) :
    ringCfgWrite ring o v s = s.refuse (pRING ring * 0x1000 + o.toNat) := by
  unfold ringCfgWrite
  simp only [up, cfg.known, desc, runs, Bool.not_true, Bool.false_eq_true, if_false, Option.isNone_none, if_true]

variable (still : (s.descOf ring).all (fun d => d.halt.isSome) = true)
  (new : u = s.setReg (pRING ring * 0x1000 + o.toNat) (v &&& ringCfgMask o.toNat))
include still new

/-- A ring without a running descriptor takes the new configuration if it may have it, and logs it otherwise. -/
theorem ringCfgWrite_eq : ringCfgWrite ring o v s =
    if u.ringSize ring ≠ 0 && !u.ringValid ring then (s.logErr (pRING ring) 0x0102 0).logErr pMMU 0x0102 0
    else (s.abortDesc ring).ringConfigured ring o (v &&& ringCfgMask o.toNat) := by
  have halted : ¬ (match s.descOf ring with | some d => d.halt.isNone | none => false) = true := by
    cases desc : s.descOf ring with
    | none => simp
    | some d =>
      rw [desc] at still
      simpa [Option.isSome_iff_ne_none] using still
  subst new
  exact (if_neg (by simp [up])).trans ((if_neg cfg.known).trans (if_neg halted))

theorem ringCfgWrite_taken (good : u.ringSize ring = 0 ∨ u.ringAllowed ring) : ringCfgWrite ring o v s
    = (s.abortDesc ring).ringConfigured ring o (v &&& ringCfgMask o.toNat) := by
  rw [ringCfgWrite_eq up cfg still new, if_neg]
  rcases good with off | good
  · simp [off]
  · simp [ringValid_iff.mpr good]

theorem ringCfgWrite_bad (on : u.ringSize ring ≠ 0) (bad : ¬ u.ringAllowed ring) :
    ringCfgWrite ring o v s = (s.logErr (pRING ring) 0x0102 0).logErr pMMU 0x0102 0 := by
  rw [ringCfgWrite_eq up cfg still new, if_pos]
  simp [on, Bool.eq_false_iff.mpr (mt ringValid_iff.mp bad)]

end

theorem abortDesc_none (h : s.descOf r = none) : s.abortDesc r = s := by rw [State.abortDesc, h]

theorem abortDesc_some {d : DescRun} (h : s.descOf r = some d) : s.abortDesc r
    = ((s.writeMem (s.descAddr r (s.reg (Reg.ringTail r)).toNat + 0x18) (toLe 4 5)).setDesc r none).setFld
      (Reg.ringStat r) 4 4 0 := by rw [State.abortDesc, h]

/-- The descriptor that a new configuration finds halted ends with status ABORTED. -/
theorem abortDesc_aborted {d : DescRun} (h : s.descOf r = some d) (wf : s.mem.wf = true) :
    (s.abortDesc r).mem.word (s.descAddr r (s.reg (Reg.ringTail r)).toNat + 0x18) = 5 ∧ (s.abortDesc r).descOf r = none := by
  rw [abortDesc_some h]
  exact ⟨congrArg bytesWord (Memory.read_write wf (l := toLe 4 5)), descOf_setDesc_none ..⟩

/-- A configuration that is not taken leaves the registers of the ring from offset 0x040 on. -/
theorem reg_ringCfg_bad {i : Nat} (h : 0x040 ≤ i) :
    ((s.logErr (pRING r) 0x0102 0).logErr pMMU 0x0102 0).reg (pRING r * 0x1000 + i) = s.reg (pRING r * 0x1000 + i) := by
  rw [State.reg_logErr_ne (ringKey_ne (by decide)) (ringKey_ne (by decide)),
    State.reg_logErr_ne (page_ofs_ne (by omega)) (page_ofs_ne (by omega))]

/-! ### A descriptor begins (R247) -/

/-- Descriptor `d` is in progress on ring `r`, whose turn among the rings of its priority is over. -/
def State.takeRing (s : State) (r : Nat) (d : DescRun) : State :=
  { s.setDesc r (some d) with
    ringTurn := s.ringTurn.set (Fin.ofNat 4 (s.fld (Reg.ringCfg r) 22 21)) ((r + 1) % 64) }

theorem takeRing_takes {d : DescRun} (own : d.ring = r) : (s.takeRing r d).descOf r = some d
    ∧ (s.takeRing r d).regs = s.regs ∧ (s.takeRing r d).mem = s.mem := ⟨descOf_setDesc_some own, rfl, rfl⟩

section
variable {m : Fin 4} (up : s.domainUp 1 = true) (free : s.descs.any (fun d => d.mover == some m.val) = false)
  (next : s.nextRing = some r)
include up free next

theorem descriptorStart_new (new : s.descOf r = none) :
    descriptorStart m s = s.takeRing r ⟨r, some m.val, 0, s.opNs, none, 0⟩ := by
  simp only [descriptorStart, up, free, next, new, Bool.not_true, Bool.or_self, Bool.false_eq_true, if_false]
  rfl

theorem descriptorStart_resumed {d : DescRun} (old : s.descOf r = some d) :
    descriptorStart m s = s.takeRing r { d with mover := some m.val, doneAt := s.opNs } := by
  simp only [descriptorStart, up, free, next, old, Bool.not_true, Bool.or_self, Bool.false_eq_true, if_false]
  rfl

/-- A free mover takes the next ring: its next descriptor, or the one that RESUME has restarted. -/
theorem descriptorStart_takes : Does (.descriptorStart m) s fun t =>
    (s.descOf r = none → t.descOf r = some ⟨r, some m.val, 0, s.opNs, none, 0⟩)
    ∧ (∀ d, s.descOf r = some d → t.descOf r = some { d with mover := some m.val, doneAt := s.opNs })
    ∧ t.regs = s.regs ∧ t.mem = s.mem := by
  cases desc : s.descOf r with
  | none =>
    obtain ⟨taken, same⟩ := takeRing_takes (s := s) (d := ⟨r, some m.val, 0, s.opNs, none, 0⟩) rfl
    exact .of_meaning rfl (descriptorStart_new up free next desc) ⟨fun _ => taken, nofun, same⟩
  | some d =>
    obtain ⟨taken, same⟩ := takeRing_takes (s := s) (d := { d with mover := some m.val, doneAt := s.opNs })
      (descOf_ring (d := d) desc)
    refine .of_meaning rfl (descriptorStart_resumed up free next desc) ⟨nofun, fun e he => ?_, same⟩
    exact Option.some.inj he ▸ taken

end

/-! ### A descriptor ends (R248, R251) -/

/-- A descriptor of ring `r` has ended with `code`, the tail has gone on from `tail`. -/
abbrev State.descEnded (t : State) (r : Nat) (tail : Word) (code : Nat) : Prop :=
  t.reg (Reg.ringTail r) = tail + 1 ∧ t.fld (Reg.ringStat r) 3 0 = code ∧ t.descOf r = none

theorem State.descEnded.raise {tail : Word} {code : Nat} (h : t.descEnded r tail code) (b : Nat) :
    (t.raise (pRING r) b).descEnded r tail code := by
  obtain ⟨moved, status, ended⟩ := h
  exact ⟨(State.reg_raise_ne (page_ofs_ne (by decide))).trans moved, (fld_raise_ne (page_ofs_ne (by decide))).trans status,
    (descOf_of_descs (State.raise_descs ..)).trans ended⟩

theorem endDesc_ended (code : Nat) (status : Word) (done : Nat) (irq : Bool) :
    (s.endDesc r code status done irq).descEnded r (s.reg (Reg.ringTail r)) (code % 16) := by
  unfold State.endDesc
  extract_lets tail a t₁ t₂ t₃
  have ended : t₃.descEnded r tail (code % 16) := by
    refine ⟨?_, ?_, descOf_setDesc_none t₁ r⟩
    · exact (State.reg_setFld_ne (page_ofs_ne (by decide))).trans
        ((State.reg_setFld_ne (page_ofs_ne (by decide))).trans State.reg_setReg_self)
    · exact (State.fld_setFld_disjoint (by decide) (by decide)).trans State.fld_setFld_self
  split
  · exact ended.raise 0
  · exact ended

/-! ### A page fault halts a ring (R250) -/

/-- The ring halts at a fault with `code` at virtual address `va`, `done` bytes of its descriptor done. -/
def State.haltRing (t : State) (r done code : Nat) (side : Bool) (va : Nat) : State :=
  let st := BitVec.ofNat 32 (code + b2n side * 16 + va / 0x1000 % 2 ^ 20 * 2 ^ 12)
  let a := t.descAddr r (t.reg (Reg.ringTail r)).toNat
  let t := (t.writeMem (a + 0x18) (wordBytes st ++ toLe 4 done)).setDesc r (some ⟨r, none, done, t.opNs, some code, st⟩)
  let t := ((t.setFld (Reg.ringStat r) 3 0 code).setFld (Reg.ringStat r) 4 4 1).incSat (Reg.ringStat r) 31 16
  let i := BitVec.ofNat 32 (r + b2n side * 64 + b2n (code == 6) * 128 + t.ringCtx r * 256)
  let t := (t.raise (pRING r) 1).setReg Reg.mmuFaultVa (BitVec.ofNat 32 va)
  let t := (t.setReg Reg.mmuFaultInfo i).raise pMMU 0
  t.logErr pMMU 0x0101 i

theorem haltRing_halted (t : State) (r done code : Nat) (side : Bool) (va : Nat) :
    ((t.haltRing r done code side va).descOf r).map (fun y => (y.mover, y.done, y.halt)) = some (none, done, some code)
    ∧ (t.haltRing r done code side va).reg Reg.mmuFaultVa = BitVec.ofNat 32 va
    ∧ (t.haltRing r done code side va).fld (Reg.ringStat r) 4 4 = 1
    ∧ (t.haltRing r done code side va).reg (Reg.ringTail r) = t.reg (Reg.ringTail r) := by
  unfold State.haltRing
  extract_lets st a t₁ t₂ i t₃ t₄
  have desc : t₁.descOf r = some ⟨r, none, done, t.opNs, some code, st⟩ := descOf_setDesc_some rfl
  have descs : (t₄.logErr pMMU 0x0101 i).descs = t₁.descs := by
    rw [State.logErr_descs, State.raise_descs, State.setReg_descs, State.setReg_descs, State.raise_descs]
    rfl
  have ring {j : Nat} (hj : 0x040 ≤ j) :
      (t₄.logErr pMMU 0x0101 i).reg (pRING r * 0x1000 + j) = t₂.reg (pRING r * 0x1000 + j) := by
    rw [State.reg_logErr_ne (ringKey_ne (by decide)) (ringKey_ne (by decide)), State.reg_raise_ne (ringKey_ne (by decide)),
      State.reg_setReg_ne (ringKey_ne (by decide)), State.reg_setReg_ne (ringKey_ne (by decide)),
      State.reg_raise_ne (page_ofs_ne (by omega))]
  refine ⟨?_, ?_, ?_, ?_⟩
  · rw [descOf_of_descs descs, desc]
    rfl
  · rw [State.reg_logErr_ne (by decide) (by decide), State.reg_raise_ne (by decide), State.reg_setReg_ne (by decide),
      State.reg_setReg_self]
  · exact (fld_eq_of_reg (ring (by decide))).trans
      ((State.fld_setFld_disjoint (by decide) (by decide)).trans State.fld_setFld_self)
  · refine (ring (by decide)).trans ?_
    exact (State.reg_setFld_ne (page_ofs_ne (by decide))).trans ((State.reg_setFld_ne (page_ofs_ne (by decide))).trans
      (State.reg_setFld_ne (page_ofs_ne (by decide))))

/-! ### What ends a descriptor, or halts it -/

section
variable {ring : Fin 64} {x : DescRun} {d : Desc} (active : s.activeDesc ring = some (x, d))
include active

theorem descriptorComplete_bad (bad : d.bad = true) :
    descriptorComplete ring s = (s.endDesc ring 4 4 0 d.irq).raise (pRING ring) 2 := by
  simp only [descriptorComplete, active, bad, if_true]

variable (good : d.bad = false)
include good

theorem descriptorComplete_empty (empty : d.len = 0) : descriptorComplete ring s = s.endDesc ring 1 1 0 d.irq := by
  simp only [descriptorComplete, active, good, empty, Bool.false_eq_true, if_false, if_true]

variable (work : d.len ≠ 0)
include work

theorem descriptorComplete_ok {k : Nat} (ok : s.workDesc x = (t, k, .ok)) :
    descriptorComplete ring s = t.endDesc ring 1 1 k d.irq := by
  simp only [descriptorComplete, active, good, work, ok, Bool.false_eq_true, if_false]

theorem ringPageFault_halts {k code va : Nat} {side : Bool} (fault : s.workDesc x = (t, k, .fault code side va)) :
    ringPageFault ring s = t.haltRing ring k code side va := by
  simp only [ringPageFault, active, good, work, fault, Bool.false_or, beq_iff_eq, if_false]
  rfl

end

/-! ### RING_CMD (R250, R257) -/

section
variable (up : s.domainUp 1 = true) (f : State → DescRun → Nat → State)
include up

theorem ringCmd_halted {d : DescRun} {code : Nat} (desc : s.descOf r = some d) (halt : d.halt = some code) :
    s.ringCmd r f = f s d code := by simp [State.ringCmd, up, desc, halt]

theorem ringCmd_refused (busy : (s.descOf r).all (fun d => d.halt.isNone) = true) :
    s.ringCmd r f = s.refuse (Reg.ringCmd r) := by
  cases desc : s.descOf r with
  | none => simp [State.ringCmd, up, desc]
  | some d =>
    have runs : d.halt = none := by simpa [desc] using busy
    simp [State.ringCmd, up, desc, runs]

end

/-! ### The statement -/

/-- Settles O32. -/
theorem rings : Obligations.Rings := by
  unfold Obligations.Rings
  refine ⟨fun r v s up ahead fits => .of_meaning rfl (ringHeadWrite_taken up ahead fits),
    fun r v s up outside => .of_meaning rfl (ringHeadWrite_refused up outside),
    fun r o v u s up cfg new idle good => ?_, fun r o v u s up cfg new still on bad => ?_,
    fun r o v d code u s up cfg new desc halt wf good => ?_,
    fun r o v d s up cfg desc runs => .of_meaning rfl (ringCfgWrite_running up cfg desc runs),
    fun m r s up free next => descriptorStart_takes up free next,
    fun r x d s active bad => ?_, fun r x d s active good empty => ?_, fun r x d t k s active good work ok => ?_,
    fun r x d t k code va side s active good work fault => ?_,
    fun r d code s up desc halt => ⟨?_, ?_⟩, fun r s up busy => ⟨?_, ?_⟩⟩
  · have still : (s.descOf r).all (fun d => d.halt.isSome) = true := by rw [idle]; rfl
    have means := ringCfgWrite_taken up cfg still new good
    rw [abortDesc_none idle] at means
    obtain ⟨head, tail, written⟩ := ringConfigured_regs (t := s) (r := r) cfg (v &&& ringCfgMask o.toNat)
    exact .of_meaning rfl means ⟨head, tail, written, rfl, rfl⟩
  · have means := ringCfgWrite_bad up cfg still new on bad
    obtain ⟨above, -⟩ := IsRingCfg.between cfg
    exact ⟨.of_meaning rfl means, .of_meaning rfl means
      ⟨reg_ringCfg_bad (by decide), reg_ringCfg_bad (by decide), reg_ringCfg_bad above⟩⟩
  · have still : (s.descOf r).all (fun d => d.halt.isSome) = true := by rw [desc]; simp [halt]
    obtain ⟨head, tail, written⟩ := ringConfigured_regs (t := s.abortDesc r) (r := r) cfg (v &&& ringCfgMask o.toNat)
    obtain ⟨aborted, ended⟩ := abortDesc_aborted desc wf
    exact .of_meaning rfl (ringCfgWrite_taken up cfg still new good) ⟨aborted, ended, head, tail, written⟩
  · have means := descriptorComplete_bad active bad
    exact ⟨.of_meaning rfl means, .of_meaning rfl means ((endDesc_ended ..).raise _)⟩
  · have means := descriptorComplete_empty active good empty
    exact ⟨.of_meaning rfl means, .of_meaning rfl means (endDesc_ended ..)⟩
  · have means := descriptorComplete_ok active good work ok
    exact ⟨.of_meaning rfl means, .of_meaning rfl means (endDesc_ended ..)⟩
  · exact .of_meaning rfl (ringPageFault_halts active good work fault) (haltRing_halted ..)
  · exact .of_meaning rfl (ringCmd_halted up _ desc halt)
      ⟨descOf_setDesc_some (descOf_ring (d := d) desc), State.fld_setFld_self⟩
  · obtain ⟨moved, status, ended⟩ := endDesc_ended (s := s) (r := r) code d.status d.done _
    exact .of_meaning rfl (ringCmd_halted up _ desc halt) ⟨ended, moved, status⟩
  · exact .of_meaning rfl (ringCmd_refused up _ busy)
  · exact .of_meaning rfl (ringCmd_refused up _ busy)

end Sys2Proof.Machine
end

section
/-! PROOFS. The statement of 09_tasks_and_function_blocks.md about the standard library (O16): how a lane passes a routine,
what each routine of R271 leaves. -/

namespace Sys2Proof.Machine

variable {n : Fin 16} {s u : State} {c : Core} {k : Nat}

/-! ### The core after a routine (R270) -/

theorem foldl_put_get (f : Nat → Word) (r : BitVec 5) : ∀ (l : List Nat) (c : Core), (∀ k ∈ l, 0 < k ∧ k < 32) →
    (l.foldl (fun c k => c.put (BitVec.ofNat 5 k) (f k)) c).get r = if r.toNat ∈ l then f r.toNat else c.get r
  | [], _, _ => rfl
  | k :: ks, c, within => by
    obtain ⟨pos, lt⟩ := within k List.mem_cons_self
    have same : (r = BitVec.ofNat 5 k ∧ BitVec.ofNat 5 k ≠ 0) ↔ r.toNat = k := by
      constructor
      · rintro ⟨rfl, -⟩
        exact Nat.mod_eq_of_lt lt
      · rintro rfl
        exact ⟨by simp, fun zero => by simp_all⟩
    rw [List.foldl_cons, foldl_put_get f r ks _ fun j hj => within j (List.mem_cons_of_mem _ hj), get_put,
      if_congr same rfl rfl]
    by_cases here : r.toNat = k
    · simp [here]
    · simp [here]

theorem foldl_put_keeps {α : Type} {g : Core → α} (put : ∀ c r v, g (Core.put c r v) = g c) (f : Nat → Word)
    (c : Core) : ∀ l : List Nat, g (l.foldl (fun c k => c.put (BitVec.ofNat 5 k) (f k)) c) = g c := by
  intro l
  induction l generalizing c with
  | nil => rfl
  | cons k ks ih => exact (ih _).trans (put ..)

variable (o : LibOut) (free : Nat) (ret : Word)

theorem libCore_get (r : BitVec 5) :
    (libCore c o free ret).get r = if r.toNat ∈ libRegs then libReg o free r.toNat else c.get r :=
  foldl_put_get _ r libRegs c (by decide)

theorem libCore_pc : (libCore c o free ret).pc = ret := rfl

theorem libCore_qa : (libCore c o free ret).qa = qaSet c.qa qSAT o.sat :=
  congrArg (qaSet · qSAT o.sat) (foldl_put_keeps (g := Core.qa) put_qa (libReg o free) c libRegs)

theorem libCore_tc : (libCore c o free ret).tc = c.tc := by
  unfold libCore
  dsimp only
  exact foldl_put_keeps (g := Core.tc) put_tc (libReg o free) c libRegs

/-- The low bits of g10 are a routine's answer. -/
theorem bit_libReg_answer (i : Nat) (low : i < o.qbits) (fits : o.qbits ≤ 32) :
    bit (libReg o free 10) i = o.q.testBit i := by
  have field : bits (libReg o free 10) (o.qbits - 1) 0 = o.q % 2 ^ o.qbits := by
    rw [libReg, if_pos rfl, bits_withBits_self (Nat.zero_le _) (by omega), Nat.sub_zero, Nat.sub_add_cancel (by omega)]
  have place := congrArg (Nat.testBit · i) field
  rw [bits, Nat.sub_zero, Nat.sub_add_cancel (by omega)] at place
  simpa [bit, low, BitVec.getLsbD] using place

/-! ### The words that a routine stores (R270, R271) -/

/-- Words stored to DTCM change the memory and the lane's write log at most. -/
theorem storeDtcm_lane (s : State) (n : Fin 16) (a : Nat) (l : Bytes) :
    ∃ lg, (s.storeDtcm n a l).lanes[n] = { s.lanes[n] with log := lg } := by
  unfold State.storeDtcm
  split
  · exact ⟨s.lanes[n].log, rfl⟩
  · exact ⟨_, modLane_lanes_self ..⟩

theorem storeWords_lane : ∀ (ws : List Word) {s : State} {a : Nat}, s.storeWords n a ws = some u →
    ∃ lg, u.lanes[n] = { s.lanes[n] with log := lg }
  | [], s, _, stored => ⟨s.lanes[n].log, by cases stored; rfl⟩
  | w :: ws, s, a, stored => by
    rw [State.storeWords] at stored
    split at stored
    · obtain ⟨rest, eq⟩ := storeWords_lane ws stored
      obtain ⟨first, eq'⟩ := storeDtcm_lane s n a (wordBytes w)
      exact ⟨rest, by rw [eq, eq']⟩
    · cases stored

theorem modLane_congr {f g : Lane → Lane} (same : f s.lanes[n] = g s.lanes[n]) : s.modLane n f = s.modLane n g := by
  unfold State.modLane
  rw [same]

/-! ### A routine is passed (R270, assumption 61) -/

/-- A lane that comes to the entry of routine `k` leaves the routine's words as stored in `u` and is back at
its return address. -/
theorem libraryStep_routine (enters : s.enters n k c)
    (stored : s.storeWords n (c.get 5).toNat (libRun k c s.lanes[n].start (s.instWord n (c.get 5).toNat)).words = some u) :
    s.libraryStep n = u.takeFree.laneDone n
      (libCore c (libRun k c s.lanes[n].start (s.instWord n (c.get 5).toNat)) s.free (c.get 31)) u.lanes[n].lastPc
      (libRun k c s.lanes[n].start (s.instWord n (c.get 5).toNat)).cyc := by
  obtain ⟨runs, rfl, entry, ready⟩ := enters
  have number : s.libEntry n s.lanes[n].main.pc.toNat = some k := by
    unfold State.libAt at entry
    dsimp only at entry
    split at entry
    · rename_i e; rw [e]; cases entry; rfl
    · split at entry <;> cases entry
  have called : s.libCall n s.lanes[n].main.pc.toNat s.lanes[n].main = some (u.takeFree, libCore s.lanes[n].main
      (libRun k s.lanes[n].main s.lanes[n].start (s.instWord n (s.lanes[n].main.get 5).toNat)) s.free
      (s.lanes[n].main.get 31),
      (libRun k s.lanes[n].main s.lanes[n].start (s.instWord n (s.lanes[n].main.get 5).toNat)).cyc) := by
    simp only [State.libCall, number, ready, stored, if_true]
  unfold State.libraryStep
  simp only [runs, entry, called, Bool.not_true, Bool.false_eq_true, if_false]
  refine modLane_congr ?_
  rw [State.setCore, modLane_lanes_self]
  rfl

/-- What a lane finds in state `t` once a routine that leaves `o` has run from state `s`; `u` is the state with its
words stored. -/
structure Answers (n : Fin 16) (c : Core) (o : LibOut) (s u t : State) : Prop where
  returns : Returns n c u t
  qa : t.qa n = qaSet (s.qa n) qSAT o.sat
  result : ∀ r : BitVec 5, r.toNat ∈ libRegs → t.g n r = libReg o s.free r.toNat
  cycles : t.lanes[n].cyc = s.lanes[n].cyc + o.cyc

theorem passes_routine {o : LibOut} (enters : s.enters n k c)
    (leaves : libRun k c s.lanes[n].start (s.instWord n (c.get 5).toNat) = o)
    (stored : s.storeWords n (c.get 5).toNat o.words = some u) : Passes n s (Answers n c o s u) := by
  subst leaves
  obtain ⟨lg, lane⟩ := storeWords_lane _ stored (n := n)
  have core := enters.2.1
  rw [Passes, libraryStep_routine enters stored]
  refine ⟨⟨fun r other => ?_, ?_, ?_, laneDone_frame (s := u.takeFree) ..⟩, ?_, fun r free => ?_, ?_⟩
  · rw [State.g, laneDone_lane]
    exact (libCore_get ..).trans (if_neg other)
  · rw [State.pc, laneDone_lane]
    rfl
  · rw [laneDone_lane, State.takeFree_lanes, lane, ← core]
    exact libCore_tc ..
  · rw [State.qa, laneDone_lane, State.qa, ← core]
    exact libCore_qa ..
  · rw [State.g, laneDone_lane]
    exact (libCore_get ..).trans (if_pos free)
  · rw [laneDone_lane, State.takeFree_lanes, lane]

theorem Passes.mono {P Q : State → Prop} (passes : Passes n s P) (imp : ∀ t, P t → Q t) : Passes n s Q := imp _ passes

/-- Bit `i` of g10 after a routine. -/
theorem Answers.bit_g10 {o : LibOut} {t : State} (h : Answers n c o s u t) (i : Nat) (low : i < o.qbits)
    (fits : o.qbits ≤ 32) : bit (t.g n 10) i = o.q.testBit i := by
  rw [h.result 10 (by decide)]
  exact bit_libReg_answer o s.free i low fits

/-- A routine that does not count leaves QA. -/
theorem Answers.qa_kept {o : LibOut} {t : State} (h : Answers n c o s u t) (quiet : o.sat = false) : t.qa n = s.qa n := by
  rw [h.qa, quiet]
  rfl

theorem testBit_b2n (q : Bool) : (b2n q).testBit 0 = q := by cases q <;> rfl

theorem testBit_zero_b2n_pair (p q : Bool) : (b2n p + 2 * b2n q).testBit 0 = p := by cases p <;> cases q <;> rfl

theorem testBit_one_b2n_pair (p q : Bool) : (b2n p + 2 * b2n q).testBit 1 = q := by cases p <;> cases q <;> rfl

/-! ### The edges (R276) -/

theorem passes_edge {rise : Bool} {f : Word} (enters : s.enters n (if rise then 4 else 5) c)
    (flags : f = s.instWord n (c.get 5).toNat 0)
    (stored : s.storeWords n (c.get 5).toNat [BitVec.ofNat 32 (b2n (bit (c.get 6) 0) + 2)] = some u) :
    Passes n s fun t => Returns n c u t ∧ t.qa n = s.qa n
      ∧ bit (t.g n 10) 0 = (bit f 1 && (if rise then bit (c.get 6) 0 && !bit f 0 else !bit (c.get 6) 0 && bit f 0))
      ∧ t.lanes[n].cyc = s.lanes[n].cyc + 12 := by
  subst flags
  have leaves : libRun (if rise then 4 else 5) c s.lanes[n].start (s.instWord n (c.get 5).toNat)
      = libEdge rise (bit (c.get 6) 0) (s.instWord n (c.get 5).toNat) := by
    cases rise <;> rfl
  refine (passes_routine enters leaves stored).mono fun t h => ⟨h.returns, h.qa_kept rfl, ?_, h.cycles⟩
  rw [h.bit_g10 0 Nat.one_pos (Nat.le_of_ble_eq_true rfl)]
  exact testBit_b2n _

/-! ### The counter (R275) -/

/-- What a count comes to, and whether it stopped. -/
theorem libCount_eq {cv pv v : Word} {wrap up dn reset load stop : Bool}
    (stops : stop = (!reset && !load && !wrap && ((up && !dn && cv == 0x7FFFFFFF) || (dn && !up && cv == 0x80000000))))
    (value : v = if reset then 0 else if load then pv else if stop then cv else if up && !dn then cv + 1
      else if dn && !up then cv - 1 else cv) : libCount cv pv wrap up dn reset load = (v, stop) := by
  subst value stops
  unfold libCount
  cases reset with
  | true => rfl
  | false => cases load with
    | true => rfl
    | false =>
      match up, dn with
      | true, true => simp
      | false, false => simp
      | true, false => cases wrap with
        | true => rfl
        | false => by_cases top : cv = 0x7FFFFFFF#32 <;> simp [top]
      | false, true => cases wrap with
        | true => rfl
        | false => by_cases bottom : cv = 0x80000000#32 <;> simp [bottom]

theorem passes_count {v f : Word} {stop : Bool} (enters : s.enters n 3 c)
    (counts : libCount (s.instWord n (c.get 5).toNat 0) (c.get 8) (bit f 0) (bit (c.get 6) 0 && !bit f 1 && bit f 3)
      (bit (c.get 6) 1 && !bit f 2 && bit f 3) (bit (c.get 6) 2) (bit (c.get 6) 3) = (v, stop))
    (flags : f = s.instWord n (c.get 5).toNat 1)
    (stored : s.storeWords n (c.get 5).toNat [v, BitVec.ofNat 32 (b2n (bit f 0) + 2 * b2n (bit (c.get 6) 0)
      + 4 * b2n (bit (c.get 6) 1) + 8)] = some u) :
    Passes n s fun t => Returns n c u t ∧ t.qa n = (if stop then s.qa n ||| 0x10 else s.qa n) ∧ t.g n 11 = v
      ∧ bit (t.g n 10) 0 = decide ((c.get 8).toInt ≤ v.toInt) ∧ bit (t.g n 10) 1 = decide (v.toInt ≤ 0)
      ∧ t.lanes[n].cyc = s.lanes[n].cyc + 36 := by
  subst flags
  have leaves : libRun 3 c s.lanes[n].start (s.instWord n (c.get 5).toNat)
      = libCounter (c.get 8) (c.get 6) (s.instWord n (c.get 5).toNat) := rfl
  simp only [libCounter, counts] at leaves
  refine (passes_routine enters leaves stored).mono fun t h => ⟨h.returns, h.qa, ?_, ?_, ?_, h.cycles⟩
  · exact h.result 11 (by decide)
  · rw [h.bit_g10 0 Nat.two_pos (Nat.le_of_ble_eq_true rfl)]
    exact testBit_zero_b2n_pair ..
  · rw [h.bit_g10 1 Nat.one_lt_two (Nat.le_of_ble_eq_true rfl)]
    exact testBit_one_b2n_pair ..

/-! ### The timers (R272, R273) -/

/-- What timer `k` makes of what it held, with input `inp` and the flags `f` of before. -/
def timerAfter (k : Nat) (now pt : BitVec 64) (inp : Bool) (f : Word) (t : LibTimer) : LibTimer :=
  if k = 0 then libOnDelay now pt inp t
  else if k = 1 then libOffDelay now pt inp (bit f 2) (bit f 3) t
  else libPulse now pt inp (bit f 2) (bit f 3) t

/-- The cycles of timer `k` (R271). -/
def timerCycles (k : Nat) : Nat := if k = 0 then 52 else if k = 1 then 56 else 58

/-- What timer `k` with preset `pt` and input `inp` leaves when it then holds `t`. -/
def LibTimer.out (t : LibTimer) (k : Nat) (pt : BitVec 64) (inp : Bool) : LibOut where
  words := words64 t.start ++ words64 t.et ++ words64 pt ++ [BitVec.ofNat 32 (b2n t.q + 2 * b2n t.run + 4 * b2n inp + 8)]
  q := b2n t.q
  qbits := 1
  res := [(12, t.et.setWidth 32), (13, t.et.extractLsb' 32 32)]
  sat := false
  cyc := timerCycles k

/-- What the words from lane address `a` on hold of a timer (R272). -/
def State.timerAt (s : State) (n : Fin 16) (a : Nat) : LibTimer :=
  { start := s.instWord n a 1 ++ s.instWord n a 0, et := s.instWord n a 3 ++ s.instWord n a 2
    q := bit (s.instWord n a 6) 0, run := bit (s.instWord n a 6) 1 }

theorem words64_append (hi lo : Word) : words64 (hi ++ lo) = [lo, hi] := by
  rw [words64, BitVec.setWidth_append, BitVec.extractLsb'_append_eq_left]
  simp

theorem append_words (v : BitVec 64) : v.extractLsb' 32 32 ++ v.setWidth 32 = v := by
  rw [BitVec.setWidth_eq_extractLsb' (by decide)]
  exact (BitVec.extractLsb'_append_extractLsb'_eq_extractLsb' (by decide)).trans (by simp)

/-- Timer `k` comes to START `st`, ET `et`, Q `q` and RUN `run`; `e` is what IN_PREV and INIT_DONE then add to its flags. -/
theorem passes_timer {st et : BitVec 64} {q run : Bool} {e : Nat} (enters : s.enters n k c) (timer : k < 3)
    (after : timerAfter k s.lanes[n].start (c.get 9 ++ c.get 8) (bit (c.get 6) 0) (s.instWord n (c.get 5).toNat 6)
      (s.timerAt n (c.get 5).toNat) = ⟨st, et, q, run⟩)
    (input : 4 * b2n (bit (c.get 6) 0) + 8 = e)
    (stored : s.storeWords n (c.get 5).toNat [st.setWidth 32, st.extractLsb' 32 32, et.setWidth 32, et.extractLsb' 32 32,
      c.get 8, c.get 9, BitVec.ofNat 32 (b2n q + 2 * b2n run + e)] = some u) :
    Passes n s fun t => Returns n c u t ∧ t.qa n = s.qa n ∧ t.g n 13 ++ t.g n 12 = et ∧ bit (t.g n 10) 0 = q
      ∧ t.lanes[n].cyc = s.lanes[n].cyc + timerCycles k := by
  subst input
  have leaves : libRun k c s.lanes[n].start (s.instWord n (c.get 5).toNat) = LibTimer.out ⟨st, et, q, run⟩ k
      (c.get 9 ++ c.get 8) (bit (c.get 6) 0) := by
    rw [← after]
    match k, timer with
    | 0, _ => rfl
    | 1, _ => rfl
    | 2, _ => rfl
  refine (passes_routine enters leaves ?_).mono fun t h => ⟨h.returns, h.qa_kept rfl, ?_, ?_, h.cycles⟩
  · rw [LibTimer.out, words64_append]
    exact stored
  · have low : t.g n 12 = et.setWidth 32 := h.result 12 (by decide)
    have high : t.g n 13 = et.extractLsb' 32 32 := h.result 13 (by decide)
    rw [low, high]
    exact append_words et
  · rw [h.bit_g10 0 Nat.one_pos (Nat.le_of_ble_eq_true rfl)]
    exact testBit_b2n q

section
variable {now pt : BitVec 64} {prev init : Bool} {t : LibTimer}

/-- A timer that runs from `st` on, while ET is below PT. -/
def LibTimer.running (now pt st : BitVec 64) : LibTimer where
  start := st
  et := libEt (libElapsed now st) pt
  q := decide (libElapsed now st < pt.toNat)
  run := decide (libElapsed now st < pt.toNat)

theorem libOffDelay_runs (runs : t.run = true ∨ (prev = true ∧ init = true)) :
    libOffDelay now pt false prev init t = .running now pt (if prev && init then now else t.start) := by
  unfold libOffDelay LibTimer.running
  by_cases starts : (prev && init) = true
  · simp [starts]
  · have holds : t.run = true := runs.resolve_right fun both => starts (by simp [both])
    simp [starts, holds]

theorem libOffDelay_rests (rests : t.run = false ∧ (prev = false ∨ init = false)) :
    libOffDelay now pt false prev init t = ⟨t.start, t.et, false, false⟩ := by
  obtain ⟨still, stays⟩ := rests
  have no : (prev && init) = false := Bool.and_eq_false_iff.mpr stays
  simp [libOffDelay, no, still]

theorem libPulse_begins (runs : t.run = true ∨ (prev = false ∧ init = true)) :
    libPulse now pt true prev init t = .running now pt (if t.run then t.start else now) := by
  unfold libPulse LibTimer.running
  cases holds : t.run with
  | true => simp [holds]
  | false =>
    obtain ⟨was, known⟩ := runs.resolve_left (by simp [holds])
    simp [was, known]

theorem libPulse_rests (rests : t.run = false ∧ (prev = true ∨ init = false)) :
    libPulse now pt true prev init t = ⟨t.start, t.et, false, false⟩ := by
  obtain ⟨still, stays⟩ := rests
  rcases stays with was | unknown <;> simp [libPulse, *]

theorem libPulse_goes_on (runs : t.run = true) : libPulse now pt false prev init t = .running now pt t.start := by
  simp [libPulse, runs, LibTimer.running]

theorem libPulse_ends (still : t.run = false) : libPulse now pt false prev init t = ⟨t.start, 0, false, false⟩ := by
  simp [libPulse, still]

end

/-! ### An entry without a routine (R269) -/

/-- The lane of a ply that has trapped as it was but for its copies, its log, its newest trace record and its work. -/
theorem takeTrap_lane {p : Ply} {cause detail w : Nat} {addr : Word} (ply : s.lanes[n].ply = some p) :
    ∃ main shadow trace, (s.takeTrap n cause detail w addr).lanes[n] =
      { s.lanes[n] with main, shadow, trace, log := .empty, ply := some { p with phase := .trapped }, act := .none } := by
  rw [takeTrap_ply ply, modLane_lanes_self, State.dropLog, modLane_lanes_self, State.plyUse, modLane_lanes_self,
    State.peak_lanes, State.setFld_lanes, recordTrap_lanes, State.setCore, modLane_lanes_self]
  exact ⟨_, _, _, rfl⟩

theorem takeTrap_opNs {p : Ply} {cause detail w : Nat} {addr : Word} (ply : s.lanes[n].ply = some p) :
    (s.takeTrap n cause detail w addr).opNs = s.opNs := by
  rw [takeTrap_ply ply]
  simp [State.opNs, State.dropLog, State.plyUse, State.recordTrap, State.setCore]

theorem executes_ply {p : Ply} (runs : s.executes n false = true) (ply : s.lanes[n].ply = some p) :
    s.lanes[n].busy3 s.opNs = false ∧ s.lanes[n].ready ≤ s.opNs := by
  unfold State.executes at runs
  simp only [ply, Bool.and_eq_true, Bool.not_eq_true', decide_eq_true_eq] at runs
  obtain ⟨⟨-, idle⟩, -, ready⟩ := runs
  exact ⟨idle, ready⟩

/-- A lane that has neither a save nor a register load to wait for. -/
theorem awaitLane_due (idle : s.lanes[n].busy3 s.opNs = false) (ready : s.lanes[n].ready ≤ s.opNs) :
    s.awaitLane n = s := by
  have saved : (s.lanes[n].busy.map (·.till)).getD 0 ≤ s.opNs := by
    obtain ⟨-, done⟩ := Bool.or_eq_false_iff.mp idle
    cases busy : s.lanes[n].busy with
    | none => exact Nat.zero_le _
    | some b =>
      rw [busy] at done
      simpa using done
  have loaded : (if s.lanes[n].ply.isSome then s.lanes[n].ready else 0) ≤ s.opNs := by
    split
    · exact ready
    · exact Nat.zero_le _
  have due : ¬ s.opNs < max ((s.lanes[n].busy.map (·.till)).getD 0)
      (if s.lanes[n].ply.isSome then s.lanes[n].ready else 0) := Nat.not_lt.mpr (Nat.max_le.mpr ⟨saved, loaded⟩)
  unfold State.awaitLane
  dsimp only
  rw [decide_eq_false due, Bool.and_false, if_neg Bool.false_ne_true]

/-- A lane that executes a ply and traps issues nothing. -/
theorem issue_trapped {p : Ply} {cause detail w : Nat} {addr : Word} {body : Body} (runs : s.executes n false = true)
    (ply : s.lanes[n].ply = some p) :
    (s.takeTrap n cause detail w addr).issue n body = s.takeTrap n cause detail w addr := by
  obtain ⟨main, shadow, trace, lane⟩ := takeTrap_lane (cause := cause) (detail := detail) (w := w) (addr := addr) ply
  have stopped : (s.takeTrap n cause detail w addr).executes n false = false := by
    unfold State.executes
    rw [lane]
    exact Bool.and_false _
  have waits : (s.takeTrap n cause detail w addr).awaitLane n = s.takeTrap n cause detail w addr := by
    obtain ⟨idle, ready⟩ := executes_ply runs ply
    refine awaitLane_due ?_ ?_
    · rw [takeTrap_opNs ply, lane]
      exact idle
    · rw [takeTrap_opNs ply, lane]
      exact ready
  unfold State.issue State.issueAs
  simp [waits, stopped]

theorem takeFree_executes {step : Bool} : s.takeFree.executes n step = s.executes n step := by
  unfold State.executes
  rfl

/-- What a lane passes at the entry of an unassigned number. -/
theorem libraryStep_illegal (runs : s.executes n false = true) (entry : s.libAt n = .illegal) : ∃ d, 1 ≤ d ∧ d ≤ 3
    ∧ s.libraryStep n = s.takeFree.takeTrap n 3 d ((s.pc n).toNat / 4) 0 := by
  refine ⟨1 + (Config.libTrap s.free).val, Nat.le_add_right .., by omega, ?_⟩
  unfold State.libraryStep
  simp only [runs, entry, Bool.not_true, Bool.false_eq_true, if_false]
  rfl

/-! ### The statement -/

/-- Settles O16. -/
theorem libraryRoutines : Obligations.LibraryRoutines := by
  unfold Obligations.LibraryRoutines
  refine ⟨fun n rd ra rb s issues => ⟨_, rfl, issue_writes issues rfl rfl⟩, fun n rd ra rb p s runs entry ply => ?_,
    fun n c rise f s u enters flags stored => ?_,
    fun n c f cv v up dn stop s u enters count flags rises falls stops value stored => ?_,
    ?_, ?_, ?_, ?_, ?_, ?_, ?_, ?_, ?_⟩
  · obtain ⟨d, low, high, step⟩ := libraryStep_illegal runs entry
    refine ⟨_, rfl, d, low, high, ?_⟩
    rw [State.command, step, issue_trapped (takeFree_executes.trans runs) ply]
    have traps := takeTrap_traps (s := s.takeFree) (addr := 0) (cause := 3) (detail := d) ply ((s.pc n).toNat / 4)
    unfold Traps at traps ⊢
    exact traps
  · exact passes_edge enters flags stored
  · subst count rises falls
    exact passes_count enters (libCount_eq stops value) flags stored
  · rintro n c f st0 st et pt d s u enters rfl off rfl rfl rfl rfl rfl stored
    exact passes_timer enters (by decide) (by rw [off]; rfl) (by rw [off]; rfl) stored
  · rintro n c f st0 st et pt d s u enters rfl on rfl rfl rfl rfl rfl stored
    exact passes_timer enters (by decide) (by rw [on]; rfl) (by rw [on]; rfl) stored
  · rintro n c f st0 st et pt d s u enters rfl on rfl rfl rfl rfl rfl stored
    exact passes_timer enters (by decide) (by rw [on]; rfl) (by rw [on]; rfl) stored
  · rintro n c f st0 st et pt d s u enters rfl off rfl rfl runs rfl rfl rfl stored
    exact passes_timer enters (by decide) (by rw [off]; exact libOffDelay_runs runs) (by rw [off]; rfl) stored
  · rintro n c f st0 st et pt d s u enters rfl off rfl rfl rests rfl rfl rfl stored
    exact passes_timer enters (by decide) (by rw [off]; exact libOffDelay_rests rests) (by rw [off]; rfl) stored
  · rintro n c f st0 st et pt d s u enters rfl on rfl rfl runs rfl rfl rfl stored
    exact passes_timer enters (by decide) (by rw [on]; exact libPulse_begins runs) (by rw [on]; rfl) stored
  · rintro n c f st0 st et pt d s u enters rfl on rfl rfl rests rfl rfl rfl stored
    exact passes_timer enters (by decide) (by rw [on]; exact libPulse_rests rests) (by rw [on]; rfl) stored
  · rintro n c f st0 st et pt d s u enters rfl off rfl rfl runs rfl rfl rfl stored
    exact passes_timer enters (by decide) (by rw [off]; exact libPulse_goes_on runs) (by rw [off]; rfl) stored
  · rintro n c f st0 st et pt d s u enters rfl off rfl rfl still rfl rfl rfl stored
    exact passes_timer enters (by decide) (by rw [off]; exact libPulse_ends still) (by rw [off]; rfl) stored

end Sys2Proof.Machine
end

section
/-! PROOFS. The statement of 09_tasks_and_function_blocks.md about the online change (O34): the agreement, the switch, the
conversion and the migration. -/

namespace Sys2Proof.Machine

variable {s t : State} {x : ChangeRun} {lane : Fin 4} {msg : Bytes}

/-! ### At a round boundary -/

theorem atBoundary_keeps {α : Type} {g : State → α} (advance : ∀ s t, g (State.advanceTo s t) = g s) :
    g s.atBoundary = g s := by
  unfold State.atBoundary State.coldEdge
  split
  · rfl
  · exact advance ..

theorem atBoundary_state : s.atBoundary.state = s.state := atBoundary_keeps State.advanceTo_state
theorem atBoundary_boards : s.atBoundary.boards = s.boards := atBoundary_keeps State.advanceTo_boards
theorem atBoundary_tlb : s.atBoundary.tlb = s.tlb := atBoundary_keeps State.advanceTo_tlb
theorem atBoundary_migr : s.atBoundary.migr = s.migr := atBoundary_keeps State.advanceTo_migr
theorem atBoundary_reg_ne {k : Nat} (h : k ≠ Reg.pgIrq pTIM) : s.atBoundary.reg k = s.reg k :=
  atBoundary_keeps (g := fun s => s.reg k) fun s t => s.advanceTo_reg_ne t h

/-! ### The request and the decision (R280 to R283) -/

theorem pairCmdChange_taken (up : s.domainUp 2 = true) (free : s.changeRefusal = 0) :
    pairCmdChange s = (s.modPair fun p => { p with
      change := some ⟨s.switchRound, s.standbyId, false, false, s.partnerOut, false, none⟩ }).changeRecord 1
        s.switchRound := by
  simp [pairCmdChange, up, free]

/-- A refused request leaves the error, and a record of the refusal at most. -/
theorem pairCmdChange_refused (up : s.domainUp 2 = true) (refused : s.changeRefusal ≠ 0) :
    (pairCmdChange s).pair = (s.refuse Reg.pairCmd).pair ∧ (pairCmdChange s).regs = (s.refuse Reg.pairCmd).regs := by
  simp only [pairCmdChange, up, Bool.not_true, Bool.false_eq_true, if_false]
  split <;> exact ⟨rfl, rfl⟩

/-- What the decision at the edge of pip 0 of round S - 4 leaves of the change. -/
theorem changeDecision_change (change : s.pair.change = some x) (undecided : x.decided = none)
    (due : later (x.s - 4) s.atBoundary.rsn = false) : (changeDecision s).pair.change =
      if (if s.state = .leader then x.accepted || s.atBoundary.changeAlone x else x.commit) then
        some { x with decided := some true } else none := by
  unfold changeDecision
  simp only [change, undecided, due, atBoundary_state, ne_eq, not_true_eq_false, Bool.false_eq_true, or_self, if_false]
  generalize (if s.state = .leader then x.accepted || s.atBoundary.changeAlone x else x.commit) = agreed
  cases agreed <;> rfl

theorem changeDecision_early (change : s.pair.change = some x) (early : later (x.s - 4) s.atBoundary.rsn = true) :
    changeDecision s = s := by
  unfold changeDecision
  simp only [change, early, or_true, if_true]

/-! ### The messages (R282) -/

/-- What neither the registers nor the link's counts touch stays when a message's SEQ is taken (R343). -/
theorem taken_keeps {α : Type} {g : State → α} (reg : ∀ u k v, g (State.setReg u k v) = g u)
    (raise : ∀ u p b, g (State.raise u p b) = g u)
    (counts : ∀ (u : State) lost seq, g { u with pair := { u.pair with lostRound := lost, seqIn := seq } } = g u) :
    g (s.taken lane msg) = g s := by
  unfold State.taken State.seqGap
  extract_lets lost k u v w
  have counted : g w = g s := by
    unfold w
    split
    · exact (raise ..).trans ((counts ..).trans (reg ..))
    · rfl
  exact (counts w w.pair.lostRound _).trans counted

theorem taken_state : (s.taken lane msg).state = s.state :=
  taken_keeps (fun _ _ _ => rfl) (fun u p b => u.raise_state p b) fun _ _ _ => rfl

theorem taken_boards : (s.taken lane msg).boards = s.boards :=
  taken_keeps (fun _ _ _ => rfl) (fun u p b => u.raise_boards p b) fun _ _ _ => rfl

theorem taken_change : (s.taken lane msg).pair.change = s.pair.change :=
  taken_keeps (g := fun s => s.pair.change) (fun _ _ _ => rfl) (fun u p b => congrArg Pair.change (u.raise_pair p b))
    fun _ _ _ => rfl

theorem taken_partner : (s.taken lane msg).pair.partner = s.pair.partner :=
  taken_keeps (g := fun s => s.pair.partner) (fun _ _ _ => rfl) (fun u p b => congrArg Pair.partner (u.raise_pair p b))
    fun _ _ _ => rfl

/-- A CHG message with the OP that its command is for. -/
theorem chgRx_eq {op : Nat} {f : State → Word → Bytes → State} (gets : s.gets 3 msg)
    (same : leAt (dunlyBody msg) 0 1 = op) : s.chgRx lane op msg f
      = f (s.taken lane msg) (BitVec.ofNat 32 (leAt (dunlyBody msg) 4 4)) (slice (dunlyBody msg) 8 48) := by
  obtain ⟨up, ok, kind⟩ := gets
  unfold State.chgRx State.dunlyRx
  simp only [up, ok, kind, Bool.not_true, Bool.false_eq_true, if_false, ne_eq, not_true_eq_false]
  exact if_pos same

theorem onChange_change {sr : Word} {f : ChangeRun → ChangeRun} (change : s.pair.change = some x) (round : x.s = sr)
    (undecided : x.decided = none) : (s.onChange sr f).pair.change = some (f x) := by
  unfold State.onChange
  simp only [change]
  rw [if_pos ⟨round, undecided⟩]
  rfl

theorem taken_ids : (s.taken lane msg).activeId = s.activeId ∧ (s.taken lane msg).standbyId = s.standbyId := by
  unfold State.activeId State.standbyId
  rw [taken_boards]
  exact ⟨rfl, rfl⟩

/-- What a Follower answers to a PROPOSE, and the change that it then holds. -/
theorem chgProposeRx_eq (gets : s.gets 3 msg) (op : leAt (dunlyBody msg) 0 1 = 1) (follows : s.state = .follower) :
    chgProposeRx lane msg s =
      if blockId s.pair.partner ≠ s.activeId.take 8 then
        (s.taken lane msg).sendChg 3 1 (BitVec.ofNat 32 (leAt (dunlyBody msg) 4 4)) (slice (dunlyBody msg) 8 48)
      else if s.boards.standby = .armed ∧ s.standbyId = slice (dunlyBody msg) 8 48 then
        ((s.taken lane msg).sendChg 2 0 (BitVec.ofNat 32 (leAt (dunlyBody msg) 4 4)) (slice (dunlyBody msg) 8 48)).modPair
          fun p => { p with change := some ⟨BitVec.ofNat 32 (leAt (dunlyBody msg) 4 4), slice (dunlyBody msg) 8 48, true,
            false, false, false, none⟩ }
      else (s.taken lane msg).sendChg 3 4 (BitVec.ofNat 32 (leAt (dunlyBody msg) 4 4)) (slice (dunlyBody msg) 8 48) := by
  obtain ⟨active, standby⟩ := taken_ids (s := s) (lane := lane) (msg := msg)
  rw [chgProposeRx, chgRx_eq gets op]
  simp only [taken_state, follows, taken_partner, active, standby, taken_boards, ne_eq, not_true_eq_false, if_false]

/-- A message about the change of round `x.s`, while it is undecided. -/
theorem taken_onChange {f : ChangeRun → ChangeRun} (change : s.pair.change = some x) (undecided : x.decided = none)
    (round : leAt (dunlyBody msg) 4 4 = x.s.toNat) :
    ((s.taken lane msg).onChange (BitVec.ofNat 32 (leAt (dunlyBody msg) 4 4)) f).pair.change = some (f x) := by
  exact onChange_change (taken_change.trans change) (by rw [round, BitVec.ofNat_toNat, BitVec.setWidth_eq]) undecided

theorem chgAcceptRx_eq (gets : s.gets 3 msg) (op : leAt (dunlyBody msg) 0 1 = 2) (leads : s.state = .leader) :
    chgAcceptRx lane msg s = (s.taken lane msg).onChange (BitVec.ofNat 32 (leAt (dunlyBody msg) 4 4))
      fun x => { x with accepted := true } := by
  rw [chgAcceptRx, chgRx_eq gets op]
  simp only [taken_state, leads, if_true]

theorem chgRefuseRx_eq (gets : s.gets 3 msg) (op : leAt (dunlyBody msg) 0 1 = 3) (leads : s.state = .leader) :
    chgRefuseRx lane msg s = (s.taken lane msg).onChange (BitVec.ofNat 32 (leAt (dunlyBody msg) 4 4))
      fun x => { x with refused := true } := by
  rw [chgRefuseRx, chgRx_eq gets op]
  simp only [taken_state, leads, if_true]

theorem chgCommitRx_eq (gets : s.gets 3 msg) (op : leAt (dunlyBody msg) 0 1 = 4) (follows : s.state ≠ .leader) :
    chgCommitRx lane msg s = (s.taken lane msg).onChange (BitVec.ofNat 32 (leAt (dunlyBody msg) 4 4))
      fun x => { x with commit := true } := by
  rw [chgCommitRx, chgRx_eq gets op]
  simp only [taken_state, follows, if_false]

/-- A CANCEL drops a change of its round that is not decided. -/
theorem chgCancelRx_change (gets : s.gets 3 msg) (op : leAt (dunlyBody msg) 0 1 = 5) (follows : s.state ≠ .leader)
    (change : s.pair.change = some x) (undecided : x.decided = none) (round : leAt (dunlyBody msg) 4 4 = x.s.toNat) :
    (chgCancelRx lane msg s).pair.change = none := by
  have number : x.s = BitVec.ofNat 32 (leAt (dunlyBody msg) 4 4) := by rw [round, BitVec.ofNat_toNat, BitVec.setWidth_eq]
  rw [chgCancelRx, chgRx_eq gets op]
  simp only [taken_state, taken_change, change]
  rw [if_pos ⟨follows, number, by simp [undecided]⟩]
  rfl

/-! ### The switch (R285) -/

/-- The registers of the switch: the running store area, an invalidation in progress, the interrupts that BRD enables. -/
def switchKeys : List Nat := [Reg.movInst, Reg.mmuInvStat, Reg.pgIrqEn pBRD]

/-- What a switch changes itself: the board store, the translations and the registers of `switchKeys`. -/
def State.switchView (s : State) : Boards × List TlbEntry × List Word := (s.boards, s.tlb, switchKeys.map s.reg)

theorem switchView_setReg {k : Nat} (v : Word) (other : switchKeys.contains (k % 0x100000) = false) :
    (s.setReg k v).switchView = s.switchView := by
  have apart : ∀ j ∈ switchKeys, (s.setReg k v).reg j = s.reg j := fun j key => by
    refine State.reg_setReg_ne ?_
    rintro rfl
    have page : j % 0x100000 = j := by revert j; decide
    rw [page] at other
    exact absurd key (by simpa using other)
  unfold State.switchView
  rw [List.map_congr_left apart]
  rfl

theorem switchView_bank {i k : Nat} (v : Word) (other : switchKeys.contains (k % 0x100000) = false) :
    (s.setReg (Reg.bank i k) v).switchView = s.switchView :=
  switchView_setReg v (by rwa [Reg.bank, Nat.mul_add_mod_self_right])

theorem switchView_setFld {k hi lo v : Nat} (other : switchKeys.contains (k % 0x100000) = false) :
    (s.setFld k hi lo v).switchView = s.switchView := switchView_setReg _ other

theorem switchView_modFio (c : Fin 16) (f : FioCh → FioCh) : (s.modFio c f).switchView = s.switchView := rfl

theorem switchView_raise {p b : Nat} (other : switchKeys.contains (Reg.pgIrq p % 0x100000) = false) :
    (s.raise p b).switchView = s.switchView := by
  unfold State.raise
  split
  · exact switchView_setReg _ other
  · rfl

theorem switchView_dunlySend (lane : Fin 4) (kind : Nat) (b : Bytes) :
    (s.dunlySend lane kind b).switchView = s.switchView := by
  unfold State.dunlySend
  split <;> rfl

theorem switchView_endGrant (slot : Nat) : (s.endGrant slot).switchView = s.switchView := by
  unfold State.endGrant
  split
  · rfl
  · extract_lets u v w
    have forgotten : v.switchView = s.switchView := by
      unfold v
      split
      · rfl
      · exact (switchView_bank 0 (by decide)).trans rfl
    have shown : w.switchView = s.switchView := Eq.trans (switchView_raise (s := v) (by decide)) forgotten
    split
    · exact (switchView_dunlySend ..).trans shown
    · exact shown

theorem switchView_switchGrant (b : Tables) (g : Grant) : (s.switchGrant b g).switchView = s.switchView := by
  unfold State.switchGrant
  split
  · exact switchView_endGrant _
  · split
    · rfl
    · split
      · rfl
      · exact switchView_endGrant _

theorem switchView_setRegion (n r : Nat) (g : Nat × Nat × Nat) : (s.setRegion n r g).switchView = s.switchView := by
  unfold State.setRegion
  dsimp only
  rw [switchView_bank _ (by decide), switchView_bank _ (by decide), switchView_bank _ (by decide)]

theorem switchView_deriveRegions (b : Tables) : (s.deriveRegions b).switchView = s.switchView :=
  over16_keeps State.switchView (fun u _ => foldl_keeps State.switchView (fun _ _ => switchView_setRegion ..) _ u) s

theorem switchView_fioApply (c : Fin 16) : (s.fioApply c).switchView = s.switchView := by
  unfold State.fioApply
  extract_lets d u₁ u₂ u₃
  have h₁ : u₁.switchView = s.switchView := by
    unfold u₁
    split
    · exact switchView_setFld (by decide)
    · rfl
  have h₂ : u₂.switchView = s.switchView := by
    unfold u₂
    split <;> exact h₁
  have h₃ : u₃.switchView = s.switchView := by
    unfold u₃
    rw [switchView_setFld (by decide), h₂]
  split <;> exact h₃

theorem switchView_fioTurned (c : Fin 16) (now : Bool) : (s.fioTurned c now).switchView = s.switchView := by
  unfold State.fioTurned
  extract_lets change u₁ u₂ u₃
  have h₁ : u₁.switchView = s.switchView := by
    unfold u₁
    split
    · rw [switchView_modFio, switchView_setFld (by decide)]
    · rfl
  have h₂ : u₂.switchView = s.switchView := by
    unfold u₂
    rw [switchView_setFld (by decide), switchView_setFld (by decide), h₁]
  exact (switchView_fioApply c).trans h₂

theorem switchView_fioDirections : s.fioDirections.switchView = s.switchView :=
  over16_keeps State.switchView (fun u c => by
    extract_lets m was now v
    have shown : v.switchView = u.switchView := switchView_bank _ (by decide)
    split
    · exact shown
    · exact (switchView_fioTurned ..).trans shown) s

/-- A change of values leaves the value of a key that it does not touch. -/
theorem tget_map {β : Type} {d : β} {f : Nat × β → Nat × β} {k : Nat} (key : ∀ x, (f x).1 = x.1)
    (other : ∀ x, x.1 = k → f x = x) : ∀ l : List (Nat × β), tget d (l.map f) k = tget d l k
  | [] => rfl
  | x :: l => by
    rw [List.map_cons, tget, tget, key, tget_map key other l]
    by_cases here : k = x.1
    · rw [other x here.symm]
    · rw [if_neg here, if_neg here]

theorem switchView_forgetStations : s.forgetStations.switchView = s.switchView := by
  have same : ∀ j ∈ switchKeys, s.forgetStations.reg j = s.reg j := fun j key => by
    have station : j % 0x100000 ≠ Reg.mbsStn := by revert j; decide
    refine tget_map (fun x => ?_) (fun x at_ => ?_) s.regs
    · split <;> rfl
    · subst at_
      simp [station]
  unfold State.switchView
  rw [List.map_congr_left same]
  rfl

theorem switchView_freshTracks : s.freshTracks.switchView = s.switchView := by
  unfold State.freshTracks
  extract_lets u v w
  have walked : v.switchView = s.switchView := by
    unfold v
    split <;> rfl
  exact Eq.trans rfl walked

/-- The board store after the switch to board `new` (R138). -/
def Boards.switched (b : Boards) (new : Tables) : Boards :=
  { b with
    act := some new, stb := none, activeArea := b.standbyArea, standbyArea := b.activeArea, standby := .stored
    rolesDirty := true }

/-- What the switch leaves of `switchView`. -/
structure Switched (new : Tables) (s t : State) : Prop where
  boards : t.boards = s.boards.switched new
  tlb : t.tlb = s.tlb.filter fun e => e.ctx == 0 || decide (8 < e.ctx)
  store : t.fld Reg.movInst 0 0 = 1 - s.fld Reg.movInst 0 0
  invalidation : t.fld Reg.mmuInvStat 0 0 = 1
  enabled : t.reg (Reg.pgIrqEn pBRD) = s.reg (Reg.pgIrqEn pBRD)

theorem switchView_eq (same : t.switchView = s.switchView) : t.boards = s.boards ∧ t.tlb = s.tlb
    ∧ t.reg Reg.movInst = s.reg Reg.movInst ∧ t.reg Reg.mmuInvStat = s.reg Reg.mmuInvStat
    ∧ t.reg (Reg.pgIrqEn pBRD) = s.reg (Reg.pgIrqEn pBRD) := by
  simpa [State.switchView, switchKeys] using same

theorem Switched.like {new : Tables} {u : State} (h : Switched new s t) (same : u.switchView = t.switchView) :
    Switched new s u := by
  obtain ⟨boards, tlb, store, invalidation, enabled⟩ := switchView_eq same
  exact {
    boards := boards.trans h.boards
    tlb := tlb.trans h.tlb
    store := (congrArg (bits · 0 0) store).trans h.store
    invalidation := (congrArg (bits · 0 0) invalidation).trans h.invalidation
    enabled := enabled.trans h.enabled }

/-- The switch is complete: an enabled SWITCHED is raised (R285). -/
structure SwitchDone (new : Tables) (s t : State) : Prop extends Switched new s t where
  raised : bit (s.reg (Reg.pgIrqEn pBRD)) 2 = true → bit (t.reg (Reg.pgIrq pBRD)) 2 = true

theorem Switched.raise {new : Tables} (h : Switched new s t) : SwitchDone new s (t.raise pBRD 2) :=
  { h.like (switchView_raise (by decide)) with
    raised := fun on => State.raise_latched (by rw [h.enabled, on]) (by decide) }

theorem swapBoards_boards (old new : Tables) : (s.swapBoards old new).boards = s.boards.switched new := rfl

theorem swapBoards_regs (old new : Tables) : (s.swapBoards old new).regs = s.regs := rfl

theorem swapBoards_reg (old new : Tables) (k : Nat) : (s.swapBoards old new).reg k = s.reg k :=
  congrArg (tget 0 · k) (swapBoards_regs old new)

theorem swapBoards_tlb (old new : Tables) : (s.swapBoards old new).tlb = s.tlb := rfl

theorem Switched.of_swapped {new : Tables} {v : State} {m : Option Migration} {marks : List Nat} {now : Nat}
    (boards : v.boards = s.boards.switched new) (tlb : v.tlb = s.tlb)
    (store : v.fld Reg.movInst 0 0 = 1 - s.fld Reg.movInst 0 0)
    (enabled : v.reg (Reg.pgIrqEn pBRD) = s.reg (Reg.pgIrqEn pBRD)) :
    Switched new s ({ v with
      migr := m, retMark := marks
      tlb := v.tlb.filter (fun e => e.ctx == 0 || decide (8 < e.ctx)), invAt := now }.setFld Reg.mmuInvStat 0 0 1) where
  boards := boards
  tlb := congrArg _ tlb
  store := (State.fld_setFld_ne (by decide)).trans store
  invalidation := State.fld_setFld_self
  enabled := (State.reg_setFld_ne (by decide)).trans enabled

/-- The running store area changes with the boards, and the regions are derived anew (R223, R235). -/
theorem swapBoards_derived {u v : State} {old new : Tables} (swapped : u = s.swapBoards old new)
    (derived : v = (u.setFld Reg.movInst 0 0 (1 - u.fld Reg.movInst 0 0)).deriveRegions new) :
    v.boards = s.boards.switched new ∧ v.tlb = s.tlb ∧ v.fld Reg.movInst 0 0 = 1 - s.fld Reg.movInst 0 0
      ∧ v.reg (Reg.pgIrqEn pBRD) = s.reg (Reg.pgIrqEn pBRD) := by
  have same : ∀ k, u.reg k = s.reg k := fun k => by rw [swapped, swapBoards_reg]
  have area : u.fld Reg.movInst 0 0 = s.fld Reg.movInst 0 0 := congrArg (bits · 0 0) (same _)
  have inRange : (1 - s.fld Reg.movInst 0 0) % 2 ^ (0 + 1 - 0) = 1 - s.fld Reg.movInst 0 0 := Nat.mod_eq_of_lt (by omega)
  obtain ⟨boards, tlb, store, -, enabled⟩ := switchView_eq (derived ▸ switchView_deriveRegions new)
  refine ⟨?_, ?_, ?_, ?_⟩
  · rw [boards, State.setFld_boards, swapped, swapBoards_boards]
  · rw [tlb, State.setFld_tlb, swapped, swapBoards_tlb]
  · rw [State.fld, store, ← State.fld, State.fld_setFld_self, area, inRange]
  · rw [enabled, State.reg_setFld_ne (by decide), same]

theorem switchBoards_done {old new : Tables} (act : s.boards.act = some old) (stb : s.boards.stb = some new) :
    SwitchDone new s (s.switchBoards true) := by
  unfold State.switchBoards
  split
  · rename_i o w isOld isNew
    obtain rfl := Option.some_inj.mp (act.symm.trans isOld)
    obtain rfl := Option.some_inj.mp (stb.symm.trans isNew)
    extract_lets m u₁ u₂ u₃ u₄ u₅ u₆ u₇
    obtain ⟨boards, tlb, store, enabled⟩ := swapBoards_derived (s := s) (u := u₁) (v := u₂) rfl rfl
    have h₄ : Switched new s u₄ := .of_swapped boards tlb store enabled
    have h₅ : u₅.switchView = u₄.switchView :=
      foldl_keeps State.switchView (fun _ _ => switchView_switchGrant new _) _ u₄
    have h₆ : u₆.switchView = u₄.switchView :=
      switchView_freshTracks.trans (switchView_fioDirections.trans (switchView_forgetStations.trans h₅))
    have h₇ : (u₇.raise pBSQ 9).switchView = u₄.switchView := (switchView_raise (by decide)).trans h₆
    exact (h₄.like h₇).raise
  · rename_i none_
    exact (none_ old new act stb).elim

theorem onlineChangeSwitch_eq (change : s.pair.change = some x) (decided : x.decided = some true)
    (round : s.atBoundary.rsn = x.s) (armed : s.boards.standby = .armed) : onlineChangeSwitch s =
      ((s.atBoundary.switchBoards true).modPair fun p => { p with change := none }).recIrq pBRD 2 .normal
        (wordBytes x.s) := by
  unfold onlineChangeSwitch
  simp only [change, decided, round, atBoundary_boards, armed, ne_eq, not_true_eq_false, or_self, if_false]

/-! ### The migration (R288, R289) -/

theorem migrateLine_migr {k : Nat} (running : s.migr.isSome = true) : (s.migrateLine k).migr.isSome = true := by
  unfold State.migrateLine
  split
  · exact running
  · split
    · rfl
    · exact running

theorem mirrorLine_migr {k : Nat} : (s.mirrorLine k).migr = s.migr := by
  unfold State.mirrorLine
  split
  · dsimp only
    rw [State.writeMem_migr]
  · rfl

theorem engineLine_migr {k : Nat} (running : s.migr.isSome = true) : (s.engineLine k).migr.isSome = true := by
  unfold State.engineLine
  split
  · exact running
  · split
    · exact running
    · extract_lets u mir v
      have mirrored : v.migr = u.migr := by
        unfold v
        split
        · exact mirrorLine_migr
        · rfl
      split
      · rw [mirrored]
        exact migrateLine_migr running
      · rfl

theorem engineLines_migr : ∀ {l : List Nat} {s : State}, s.migr.isSome = true →
    (l.foldl State.engineLine s).migr.isSome = true
  | [], _, running => running
  | _ :: l, _, running => engineLines_migr (l := l) (engineLine_migr running)

theorem convertRoundEnd_converts {m : Migration} {r : Word} (running : s.migr = some m) (switched : s.seqr.switched = some r)
    (converting : m.convDone = false) (ended : later s.atBoundary.rsn r = true) :
    (convertRoundEnd s).migr.map (fun n => n.convDone) = some true := by
  unfold convertRoundEnd
  simp only [running, switched, converting, ended, Bool.not_true, Bool.or_self, Bool.false_eq_true, if_false]
  have left : ((m.linesOf 2).foldl State.engineLine s.atBoundary).migr.isSome = true :=
    engineLines_migr (by rw [atBoundary_migr, running]; rfl)
  split
  · rename_i gone
    rw [gone] at left
    cases left
  · rfl

theorem migrationDone_ends {m : Migration} (running : s.migr = some m) (converted : m.convDone = true) :
    (migrationDone s).migr = none := by
  unfold migrationDone
  simp only [running, converted, Bool.not_true, Bool.false_eq_true, if_false]
  split
  · assumption
  · rfl

/-! ### The statement -/

/-- Settles O34. -/
theorem onlineChange : Obligations.OnlineChange := by
  unfold Obligations.OnlineChange
  refine ⟨fun s up free => ?_, fun s up refused => ?_, fun x s change undecided due leads => ⟨fun agreed => ?_,
      fun declined apart => ?_⟩, fun x old new s change decided round armed act stb => ?_,
    fun m r s running switched converting ended => ?_, fun m s running converted => ?_,
    fun x s change undecided => ⟨fun early => ?_, fun due follows committed => ?_, fun due follows open_ => ?_⟩,
    fun lane msg s gets op follows same armed ident => ?_, fun lane msg s gets op follows same differs => ?_,
    fun lane msg s gets op follows differs => ?_,
    fun x lane msg s gets leads change undecided round => ⟨fun op => ?_, fun op => ?_⟩,
    fun x lane msg s gets follows change undecided round => ⟨fun op => ?_, fun op => ?_⟩⟩
  · exact .of_meaning rfl (pairCmdChange_taken up free) ⟨rfl, rfl⟩
  · obtain ⟨pair, regs⟩ := pairCmdChange_refused up refused
    exact ⟨_, rfl, (congrArg Pair.change pair).trans (by rw [State.refuse, State.logErr_pair]), regs⟩
  · refine ⟨_, rfl, (changeDecision_change change undecided due).trans ?_⟩
    simp [leads, agreed]
  · refine ⟨_, rfl, (changeDecision_change change undecided due).trans ?_⟩
    simp [leads, declined, apart]
  · obtain ⟨⟨boards, tlb, store, invalidation, -⟩, raised⟩ := switchBoards_done
      (s := s.atBoundary) (by rw [atBoundary_boards, act]) (by rw [atBoundary_boards, stb])
    rw [atBoundary_boards] at boards
    rw [atBoundary_tlb] at tlb
    rw [State.fld, State.fld, atBoundary_reg_ne (by decide)] at store
    rw [atBoundary_reg_ne (by decide)] at raised
    exact .of_meaning rfl (onlineChangeSwitch_eq change decided round armed)
      ⟨congrArg Boards.act boards, congrArg Boards.stb boards, congrArg Boards.activeArea boards,
        congrArg Boards.standbyArea boards, rfl, store, invalidation, tlb, raised⟩
  · exact ⟨_, rfl, convertRoundEnd_converts running switched converting ended⟩
  · exact ⟨_, rfl, migrationDone_ends running converted⟩
  · exact .of_meaning rfl (changeDecision_early change early)
  · refine ⟨_, rfl, (changeDecision_change change undecided due).trans ?_⟩
    simp [follows, committed]
  · refine ⟨_, rfl, (changeDecision_change change undecided due).trans ?_⟩
    simp [follows, open_]
  · exact .of_meaning rfl ((chgProposeRx_eq gets op follows).trans
      ((if_neg (not_not.mpr same)).trans (if_pos ⟨armed, ident⟩))) rfl
  · exact .of_meaning rfl ((chgProposeRx_eq gets op follows).trans
      ((if_neg (not_not.mpr same)).trans (if_neg (not_and_or.mpr differs))))
  · exact .of_meaning rfl ((chgProposeRx_eq gets op follows).trans (if_pos differs))
  · exact .of_meaning rfl (chgAcceptRx_eq gets op leads) (taken_onChange change undecided round)
  · exact .of_meaning rfl (chgRefuseRx_eq gets op leads) (taken_onChange change undecided round)
  · exact .of_meaning rfl (chgCommitRx_eq gets op follows) (taken_onChange change undecided round)
  · exact ⟨_, rfl, chgCancelRx_change gets op follows change undecided round⟩

end Sys2Proof.Machine
end

section
/-! PROOFS. The statement of 10_mebarid.md about the links of the ports, the counts of the slots and the cold-start engine
(O36). -/

namespace Sys2Proof.Machine

variable {s : State} {q p : Nat}

/-! ### Ports (R324 to R327) -/

theorem chanNum_lt (ch : Chan) : chanNum ch < 2 := by cases ch <;> decide

theorem portKey_ne_header {o : Nat} (h : o < 0x40) : portKey q p ≠ pMB q * 0x1000 + o := by
  show pMB q * 0x1000 + 0x040 + 4 * p ≠ _
  omega

theorem portKey_inj {x : Nat} (h : x ≠ p) : portKey q p ≠ portKey q x := fun same =>
  h (Nat.eq_of_mul_eq_mul_left (by decide) (Nat.add_left_cancel same)).symm

theorem portBorne_eq_false : s.portBorne q p = false ↔ s.fld (portKey q p) 1 0 ≠ 3 := beq_eq_false_iff_ne

theorem portBorne_eq_true : s.portBorne q p = true ↔ s.fld (portKey q p) 1 0 = 3 := beq_iff_eq

theorem portCounted_net : (s.portCounted q p).net
    = { s.net with portHist := s.net.portHist ++ [(4 * q + p, s.opTime.toNat)] } := by
  simp [State.portCounted, State.incSat, State.cutPort]

/-- The loss itself stands in its hour. -/
theorem portCounted_hour : (s.portCounted q p).portHour q p = s.portHour q p + 1 := by
  have time : (s.portCounted q p).opTime = s.opTime := by simp [State.portCounted, State.incSat, State.cutPort]
  rw [State.portHour, portCounted_net, time]
  simp [State.portHour, List.filter_append]

theorem portCounted_retrains (hq : q < 2) (hp : p < 4) :
    (s.portCounted q p).fld (portKey q p) 31 16 = min 0xFFFF (s.fld (portKey q p) 31 16 + 1) := by
  rw [fld_eq_of_reg (portCounted_quiet.reg _ (clockKey_port hq hp)), fld_incSat_self (by decide) (by decide),
    State.fld_setFld_disjoint (by decide) (by decide)]
  rfl

/-- The loss of a link that was up is the fourth of its hour, or it is counted alone (R324, R325). -/
theorem portLost_up (up : s.domainUp 3 = true) (link : s.fld (portKey q p) 1 0 = 2) : s.portLost q p
    = if 3 ≤ s.portHour q p then (s.portCounted q p).bearPort q p else s.portCounted q p := by
  have fourth : (4 ≤ (s.portCounted q p).portHour q p) = (3 ≤ s.portHour q p) := by
    rw [portCounted_hour, Nat.succ_le_succ_iff]
  simp only [← fourth, State.portLost, up, link]
  rfl

theorem portLost_training (up : s.domainUp 3 = true) (link : s.fld (portKey q p) 1 0 = 1) :
    s.portLost q p = s.setFld (portKey q p) 1 0 0 := by
  simp [State.portLost, up, link]

theorem bearPort_link (hq : q < 2) (hp : p < 4) (sound : s.portBorne q p = false) :
    (s.bearPort q p).fld (portKey q p) 1 0 = 3 := by
  rw [fld_eq_of_reg ((bearPort_quiet sound).reg _ (clockKey_port hq hp)), State.fld_setFld_self]
  rfl

theorem portUp_comes_up {ch : Chan} {p : Fin 4} (up : s.domainUp 3 = true)
    (down : s.fld (portKey (chanNum ch) p) 1 0 < 2) (clock : s.clockGood (10 + 4 * chanNum ch + p) = true) :
    portUp ch p s = (s.setFld (portKey (chanNum ch) p) 1 0 2).raise (pMB (chanNum ch)) 1 := by
  simp [portUp, up, clock, Nat.not_le.mpr down]

theorem portUp_stays {ch : Chan} {p : Fin 4}
    (still : s.clockGood (10 + 4 * chanNum ch + p) = false ∨ 2 ≤ s.fld (portKey (chanNum ch) p) 1 0) :
    portUp ch p s = s := by
  refine if_pos ?_
  rcases still with bad | shown
  · simp [bad]
  · simp [shown]

/-! ### RETRAIN (R327) -/

/-- RETRAIN at one port of channel `q`. -/
def State.retrainPort (ports : BitVec 4) (q : Nat) (s : State) (x : Nat) : State :=
  if !ports.getLsbD x || s.portBorne q x then s
  else
    let was := s.fld (portKey q x) 1 0
    let s := s.setFld (portKey q x) 1 0 1
    if was = 2 then s.raise (pMB q) 0 else s

theorem retrain_eq {ch : Chan} {ports : BitVec 4} (up : s.domainUp 3 = true) : retrain ch ports s =
    let t := (List.range 4).foldl (State.retrainPort ports (chanNum ch)) s
    if (List.range 4).any (fun p => ports.getLsbD p && t.portBorne (chanNum ch) p) then t.refuse (Reg.mbCmd (chanNum ch))
    else t := by
  rw [retrain, up]
  rfl

section
variable {ports : BitVec 4}

theorem retrainPort_link (x : Nat) : (s.retrainPort ports q x).fld (portKey q p) 1 0
    = if x = p ∧ ports.getLsbD p = true ∧ s.portBorne q p = false then 1 else s.fld (portKey q p) 1 0 := by
  unfold State.retrainPort
  split
  · next skipped =>
    rw [if_neg]
    rintro ⟨rfl, named, sound⟩
    rw [named, sound] at skipped
    cases skipped
  · next taken =>
    obtain ⟨named, sound⟩ : ports.getLsbD x = true ∧ s.portBorne q x = false := by simpa using taken
    have shown : (if s.fld (portKey q x) 1 0 = 2 then (s.setFld (portKey q x) 1 0 1).raise (pMB q) 0
        else s.setFld (portKey q x) 1 0 1).fld (portKey q p) 1 0
          = (s.setFld (portKey q x) 1 0 1).fld (portKey q p) 1 0 := by
      split
      · exact fld_raise_ne (portKey_ne_header (by decide))
      · rfl
    refine shown.trans ?_
    by_cases own : x = p
    · subst own
      rw [if_pos ⟨rfl, named, sound⟩, State.fld_setFld_self]
      rfl
    · rw [if_neg fun h => own h.1, State.fld_setFld_ne (portKey_inj own)]

/-- A borne-off port stays so as the ports named are gone through. -/
theorem retrainPorts_borne (borne : s.portBorne q p = true) (l : List Nat) :
    (l.foldl (State.retrainPort ports q) s).portBorne q p = true := by
  induction l generalizing s with
  | nil => exact borne
  | cons x l ih =>
    refine ih (portBorne_eq_true.mpr ?_)
    rw [retrainPort_link, borne, if_neg (by simp), portBorne_eq_true.mp borne]

theorem retrainPorts_training (link : s.fld (portKey q p) 1 0 = 1) (l : List Nat) :
    (l.foldl (State.retrainPort ports q) s).fld (portKey q p) 1 0 = 1 := by
  induction l generalizing s with
  | nil => exact link
  | cons x l ih => exact ih (by rw [retrainPort_link, link, ite_self])

/-- A sound port that is named is in training once it has been reached. -/
theorem retrainPorts_named (named : ports.getLsbD p = true) (sound : s.portBorne q p = false) {l : List Nat}
    (reached : p ∈ l) : (l.foldl (State.retrainPort ports q) s).fld (portKey q p) 1 0 = 1 := by
  induction l generalizing s with
  | nil => cases reached
  | cons x l ih =>
    by_cases own : x = p
    · exact retrainPorts_training (by rw [retrainPort_link, if_pos ⟨own, named, sound⟩]) l
    · have same : (s.retrainPort ports q x).fld (portKey q p) 1 0 = s.fld (portKey q p) 1 0 := by
        rw [retrainPort_link, if_neg fun h => own h.1]
      refine ih (portBorne_eq_false.mpr ?_) ((List.mem_cons.mp reached).resolve_left fun h => own h.symm)
      rw [same]
      exact portBorne_eq_false.mp sound

end

/-- The refusal of a borne-off port leaves the links alone. -/
theorem retrain_link {ch : Chan} {ports : BitVec 4} {p : Fin 4} (up : s.domainUp 3 = true) :
    (retrain ch ports s).fld (portKey (chanNum ch) p) 1 0
      = ((List.range 4).foldl (State.retrainPort ports (chanNum ch)) s).fld (portKey (chanNum ch) p) 1 0 := by
  rw [retrain_eq up]
  dsimp only
  split
  · exact fld_eq_of_reg (((Quiet.refl noLane _).logErr ..).reg _ (clockKey_port (chanNum_lt ch) p.isLt))
  · rfl

/-! ### The counts of the slots (R329) -/

theorem tget_map_values {β : Type} {d : β} {k : Nat} {f : Nat → β → β} (absent : f k d = d) :
    ∀ {l : List (Nat × β)}, tget d (l.map fun x => (x.1, f x.1 x.2)) k = f k (tget d l k)
  | [] => absent.symm
  | (a, x) :: r => by
    simp only [List.map_cons, tget, tget_map_values absent (l := r)]
    split
    · exact absent.symm
    · split
      · subst_vars; rfl
      · rfl

/-- What MBS_CLR_ALL leaves of the register of key `k`. -/
def clearedCount (k : Nat) (w : Word) : Word :=
  if k % 0x100000 = Reg.mbsCntA ∨ k % 0x100000 = Reg.mbsCntB ∨ k % 0x100000 = Reg.mbsWin then 0
  else if k % 0x100000 = Reg.mbsInfo then withBits w 31 16 0
  else w

theorem clearedCount_zero (k : Nat) : clearedCount k 0 = 0 := by
  have info : withBits 0 31 16 0 = 0 := by decide
  rw [clearedCount, info, ite_self, ite_self]

theorem mbsClrAll_reg (up : s.domainUp 3 = true) (k : Nat) : (mbsClrAll s).reg k = clearedCount k (s.reg k) := by
  have cleared : (mbsClrAll s).regs = s.regs.map fun x => (x.1, clearedCount x.1 x.2) := by
    simp only [mbsClrAll, up, Bool.not_true, Bool.false_eq_true, if_false]
    refine List.map_congr_left fun x _ => ?_
    unfold clearedCount
    split
    · rfl
    · split <;> rfl
  rw [State.reg, cleared, tget_map_values (clearedCount_zero k)]
  rfl

theorem clearedCount_count {i k : Nat} (count : k ∈ [Reg.mbsCntA, Reg.mbsCntB, Reg.mbsWin]) (w : Word) :
    clearedCount (Reg.bank i k) w = 0 := by
  simp only [List.mem_cons, List.not_mem_nil, or_false] at count
  have page : Reg.bank i k % 0x100000 = k := by
    rw [Nat.mul_add_mod_self_right]
    rcases count with rfl | rfl | rfl <;> rfl
  rw [clearedCount, page, if_pos count]

theorem clearedCount_info (i : Nat) (w : Word) : clearedCount (Reg.bank i Reg.mbsInfo) w = withBits w 31 16 0 := by
  have page : Reg.bank i Reg.mbsInfo % 0x100000 = Reg.mbsInfo := Nat.mul_add_mod_self_right ..
  rw [clearedCount, page]
  rfl

theorem clearCounts_reg (k : Nat) : (s.clearCounts k).reg (Reg.bank k Reg.mbsCntA) = 0
    ∧ (s.clearCounts k).reg (Reg.bank k Reg.mbsCntB) = 0 ∧ (s.clearCounts k).reg (Reg.bank k Reg.mbsWin) = 0
    ∧ (s.clearCounts k).fld (Reg.bank k Reg.mbsInfo) 31 16 = 0
    ∧ (s.clearCounts k).fld (Reg.bank k Reg.mbsInfo) 15 0 = s.fld (Reg.bank k Reg.mbsInfo) 15 0 := by
  have apart {a b : Nat} (h : a ≠ b) : Reg.bank k a ≠ Reg.bank k b := bank_ne_bank h
  refine ⟨?_, ?_, ?_, State.fld_setFld_self, ?_⟩
  · rw [State.clearCounts, State.reg_setFld_ne (apart (by decide)), State.reg_setReg_ne (apart (by decide)),
      State.reg_setReg_ne (apart (by decide)), State.reg_setReg_self]
  · rw [State.clearCounts, State.reg_setFld_ne (apart (by decide)), State.reg_setReg_ne (apart (by decide)),
      State.reg_setReg_self]
  · rw [State.clearCounts, State.reg_setFld_ne (apart (by decide)), State.reg_setReg_self]
  · rw [State.clearCounts, State.fld_setFld_disjoint (by decide) (by decide), State.fld_setReg_ne (apart (by decide)),
      State.fld_setReg_ne (apart (by decide)), State.fld_setReg_ne (apart (by decide))]

/-! ### The state of the cold-start engine -/

theorem coldEdge_reg {k : Nat} (h : k ≠ Reg.pgIrq pTIM) : s.coldEdge.1.reg k = s.reg k := atBoundary_reg_ne h

theorem coldEdge_fld {k hi lo : Nat} (h : k ≠ Reg.pgIrq pTIM) : s.coldEdge.1.fld k hi lo = s.fld k hi lo :=
  fld_eq_of_reg (coldEdge_reg h)

theorem coldEdge_net : s.coldEdge.1.net = s.net := atBoundary_keeps State.advanceTo_net

theorem coldEdge_extFresh : s.coldEdge.1.time.extFresh = s.time.extFresh :=
  atBoundary_keeps (g := fun s => s.time.extFresh) fun s x => by
    obtain ⟨gt, c, moved⟩ := advanceTo_time (s := s) x
    rw [moved]

theorem coldEdge_ownCsidx : s.coldEdge.1.ownCsidx = s.ownCsidx := by
  have boards : s.coldEdge.1.boards = s.boards := atBoundary_boards
  have option : s.coldEdge.1.option = s.option := atBoundary_keeps State.advanceTo_option
  have slot : s.coldEdge.1.fld Reg.sysSlot 0 0 = s.fld Reg.sysSlot 0 0 := coldEdge_fld (by decide)
  simp only [State.ownCsidx, State.nodeAddr, State.pairDomain, boards, option, slot]

theorem toCold_cold {n : Nat} (h : n < 8) : (s.toCold n).cold = n := by
  unfold State.toCold
  split
  · assumption
  · rw [State.cold, fld_raise_ne (by decide), State.fld_setFld_self]
    exact Nat.mod_eq_of_lt h

theorem toCold_fld {n hi lo : Nat} (h : 2 < lo) : (s.toCold n).fld Reg.mbCold hi lo = s.fld Reg.mbCold hi lo := by
  unfold State.toCold
  split
  · rfl
  · rw [fld_raise_ne (by decide), State.fld_setFld_disjoint (.inl h) (by decide)]

theorem toCold_net (n : Nat) : (s.toCold n).net = s.net := by unfold State.toCold; split <;> simp

theorem toCold_time (n : Nat) : (s.toCold n).time = s.time := by unfold State.toCold; split <;> simp

/-! ### LISTEN (R313, R315) -/

theorem coldWait_cold (ahead : Bool) : (s.coldWait ahead).cold = 1 := by
  rw [State.cold, State.coldWait, State.modNet_fld, State.fld_setFld_disjoint (by decide) (by decide)]
  exact toCold_cold (by decide)

theorem coldWait_timer (ahead : Bool) : (s.coldWait ahead).fld Reg.mbCold 15 8 = (4 + 2 * s.ownCsidx) % 256 := by
  rw [State.coldWait, State.modNet_fld, State.fld_setFld_self]
  rfl

theorem coldWait_unanswered (ahead : Bool) : (s.coldWait ahead).fld Reg.mbCold 7 4 = s.fld Reg.mbCold 7 4 := by
  rw [State.coldWait, State.modNet_fld, State.fld_setFld_disjoint (by decide) (by decide), toCold_fld (by decide)]

theorem coldWait_time (ahead : Bool) : (s.coldWait ahead).time = s.time := toCold_time 1

theorem coldListen_eq (up : s.domainUp 3 = true) (eligible : s.coldEligible = true) (idle : s.cold ≠ 1 ∧ s.cold ≠ 2)
    (nothing : searchStep s.time.search = none) : coldListen s = s.coldEdge.1.coldWait s.coldEdge.2 := by
  simp [coldListen, up, eligible, idle, nothing]

/-! ### ATTEMPT (R314, R316) -/

theorem beginAttempt_cold (ahead : Bool) : (s.beginAttempt ahead).cold = 2 := by
  unfold State.beginAttempt
  extract_lets n alone t₁ t₂
  have begun : t₂.cold = 2 := by
    unfold t₂ t₁ State.incSat
    rw [State.cold, State.modNet_fld, State.fld_setFld_disjoint (by decide) (by decide),
      State.fld_setFld_disjoint (by decide) (by decide)]
    exact toCold_cold (by decide)
  split
  · exact (fld_raise_ne (by decide)).trans begun
  · exact begun

theorem coldAttempt_eq (up : s.domainUp 3 = true) (eligible : s.coldEligible = true) (listens : s.cold = 1)
    (expired : s.coldEdge.1.fld Reg.mbCold 15 8 ≤ s.coldEdge.1.coldEnded s.coldEdge.2) : coldAttempt s
      = if s.fld Reg.timCtrl 1 0 = 1 ∧ s.time.extFresh = true then s.coldEdge.1.epochStepped.beginAttempt true
        else s.coldEdge.1.epochHere.beginAttempt s.coldEdge.2 := by
  have mode : s.coldEdge.1.fld Reg.timCtrl 1 0 = s.fld Reg.timCtrl 1 0 := coldEdge_fld (by decide)
  simp [coldAttempt, up, eligible, listens, Nat.not_lt.mpr expired, mode, coldEdge_extFresh]

/-! ### The end of an attempt (R314, R315) -/

/-- The COLDSTART of another node ends the attempt at the next boundary, and the search frames of the round stay. -/
theorem coldAbandon_eq (up : s.domainUp 3 = true) (attempt : s.cold = 2) (unused : s.net.usable = false)
    (ending : s.net.ending = true) (ahead : s.coldEdge.2 = true) (old : s.net.fresh = false) : coldAbandon s
      = ((s.coldEdge.1.toTb .unsync).modTime fun b => { b with search := s.coldEdge.1.time.search }).coldWait true := by
  simp [coldAbandon, up, attempt, coldEdge_net, unused, ending, ahead, old]

theorem coldDone_eq (up : s.domainUp 3 = true) (attempt : s.cold = 2) (usable : s.net.usable = true)
    (round : 1 ≤ s.net.rounds + s.coldEdge.1.coldEnded s.coldEdge.2) : coldDone s = s.coldEdge.1.toCold 3 := by
  rw [← coldEdge_net] at round
  simp [coldDone, up, attempt, usable, round]

/-! ### The statement -/

/-- Settles O36. -/
theorem mebaridPortsAndColdStart : Obligations.MebaridPortsAndColdStart := by
  unfold Obligations.MebaridPortsAndColdStart
  refine ⟨fun ch p s up link few => ?_, fun ch p s up link many => ?_, fun ch p s up link => ?_,
    fun ch p s up down clock => ?_, fun ch p s _ still => .of_meaning rfl (portUp_stays still),
    fun ch ports p s up named => ⟨fun sound => ⟨_, rfl, (retrain_link up).trans ?_⟩,
      fun borne => ⟨_, rfl, (retrain_link up).trans ?_⟩⟩,
    fun s up => ⟨?_, ⟨_, rfl, fun k => ⟨?_, ?_, ?_, ?_⟩⟩⟩, fun s up eligible idle nothing => ?_,
    fun s up eligible listens expired mode => ?_, fun s up eligible listens expired mode fresh => ?_,
    fun s up attempt unused ending ahead old => ?_, fun s up attempt usable round => ?_⟩
  · have hq := chanNum_lt ch
    exact .of_meaning rfl ((portLost_up up link).trans (if_neg (Nat.not_le.mpr few)))
      ⟨portCounted_fld hq p.isLt, portCounted_retrains hq p.isLt, congrArg Net.portHist portCounted_net⟩
  · have hq := chanNum_lt ch
    exact .of_meaning rfl ((portLost_up up link).trans (if_pos many))
      (bearPort_link hq p.isLt (portCounted_sound hq p.isLt))
  · exact .of_meaning rfl (portLost_training up link)
      ⟨State.fld_setFld_self, State.fld_setFld_disjoint (by decide) (by decide)⟩
  · refine .of_meaning rfl (portUp_comes_up up down clock) ⟨?_, State.raise_net ..⟩
    rw [fld_raise_ne (portKey_ne_header (by decide)), State.fld_setFld_self]
    rfl
  · exact retrainPorts_named named sound (List.mem_range.mpr p.isLt)
  · exact portBorne_eq_true.mp (retrainPorts_borne borne _)
  · refine .of_meaning rfl (if_pos up) ?_
    rintro _ rfl
    exact clearCounts_reg _
  · rw [mbsClrAll_reg up, clearedCount_count (by decide)]
  · rw [mbsClrAll_reg up, clearedCount_count (by decide)]
  · rw [mbsClrAll_reg up, clearedCount_count (by decide)]
  · rw [State.fld, mbsClrAll_reg up, clearedCount_info, bits_withBits_self (by decide) (by decide)]
    rfl
  · refine .of_meaning rfl (coldListen_eq up eligible idle nothing) ⟨coldWait_cold _, ?_⟩
    rw [coldWait_timer, coldEdge_ownCsidx]
  · have begins := (coldAttempt_eq up eligible listens expired).trans (if_neg fun h => mode h.1)
    exact ⟨.of_meaning rfl begins, .of_meaning rfl begins (beginAttempt_cold _)⟩
  · exact .of_meaning rfl ((coldAttempt_eq up eligible listens expired).trans (if_pos ⟨mode, fresh⟩))
  · refine .of_meaning rfl (coldAbandon_eq up attempt unused ending ahead old) ⟨coldWait_cold _, ?_, ?_⟩
    · obtain ⟨-, unsync, -⟩ := toTb_clock (s := s.coldEdge.1) .unsync
      rw [coldWait_time]
      exact unsync
    · rw [coldWait_unanswered, State.modTime_fld, fld_eq_of_reg (toTb_reg _ (by decide) (by decide)),
        coldEdge_fld (by decide)]
  · refine .of_meaning rfl (coldDone_eq up attempt usable round) ⟨toCold_cold (by decide), ?_⟩
    rw [toCold_net, coldEdge_net]

end Sys2Proof.Machine
end

section
/-! PROOFS. What the work beside the redundant pair leaves of the module state, of the pair's data and of its registers: what
the statements of 11_redundant_pair.md (O37 to O42) share. -/

namespace Sys2Proof.Machine

variable {s t u : State} {k : Nat}

/-! ### The view -/

/-- The registers that the statements about the pair speak of, and the released domains. -/
def pairKeys : List Nat := [Reg.pairState, Reg.pairDigCnt, Reg.pairJoin, Reg.pairXfer, Reg.ilkStat, Reg.ilkCnt, Reg.hltSd,
  Reg.mbgStat, Reg.dxlState, Reg.rstDom]

/-- The pair's data but for the counts of frames and of squashes, and the marks of the records that a module in BOOT
writes (R331, R380). -/
def Pair.settled (p : Pair) : Pair :=
  { p with
    seqOut := Vector.replicate 4 0, seqIn := Vector.replicate 4 0, lostRound := 0, squash := 0, episode := false
    replaced := false }

/-- The module state, the pair's data and registers, the stand-down causes and when the partner's line went dead. -/
structure PairView where
  state : ModState
  pair : Pair
  sdPend : List (Nat × Bool)
  lineDead : Nat
  regs : List Word

/-- What the statements about the pair speak of. -/
def State.pairView (s : State) : PairView := ⟨s.state, s.pair.settled, s.sdPend, s.lineDead, pairKeys.map s.reg⟩

theorem state_of_view (same : t.pairView = s.pairView) : t.state = s.state := congrArg PairView.state same

theorem sdPend_of_view (same : t.pairView = s.pairView) : t.sdPend = s.sdPend := congrArg PairView.sdPend same

theorem lineDead_of_view (same : t.pairView = s.pairView) : t.lineDead = s.lineDead := congrArg PairView.lineDead same

theorem pair_of_view {β : Type} (g : Pair → β) (same : t.pairView = s.pairView) : g t.pair.settled = g s.pair.settled :=
  congrArg (fun v => g v.pair) same

theorem reg_of_view (same : t.pairView = s.pairView) (key : k ∈ pairKeys) : t.reg k = s.reg k :=
  List.map_inj_left.mp (congrArg PairView.regs same) k key

theorem fld_of_view (same : t.pairView = s.pairView) (key : k ∈ pairKeys) (hi lo : Nat) : t.fld k hi lo = s.fld k hi lo :=
  fld_eq_of_reg (reg_of_view same key)

theorem pairView_foldl {α : Type} {f : State → α → State} (step : ∀ u x, (f u x).pairView = u.pairView) (l : List α) :
    (l.foldl f s).pairView = s.pairView := foldl_keeps State.pairView step l s

theorem pairView_over16 {f : State → Fin 16 → State} (step : ∀ u n, (f u n).pairView = u.pairView) :
    (over16 f s).pairView = s.pairView := pairView_foldl step _

theorem pairView_ite {c : Prop} [Decidable c] (ht : t.pairView = s.pairView) (hu : u.pairView = s.pairView) :
    (if c then t else u).pairView = s.pairView := by
  split
  · exact ht
  · exact hu

/-! ### Registers, records, messages -/

theorem pairView_setReg (v : Word) (other : pairKeys.contains (k % 0x100000) = false) :
    (s.setReg k v).pairView = s.pairView := by
  have apart : ∀ j ∈ pairKeys, (s.setReg k v).reg j = s.reg j := fun j key => by
    refine State.reg_setReg_ne ?_
    rintro rfl
    have page : j % 0x100000 = j := by revert j; decide
    rw [page] at other
    exact absurd key (by simpa using other)
  unfold State.pairView
  rw [List.map_congr_left apart]
  rfl

theorem pairView_setFld {hi lo v : Nat} (other : pairKeys.contains (k % 0x100000) = false) :
    (s.setFld k hi lo v).pairView = s.pairView := pairView_setReg _ other

theorem pairView_setBank {i : Nat} (v : Word) (other : pairKeys.contains (k % 0x100000) = false) :
    (s.setReg (Reg.bank i k) v).pairView = s.pairView :=
  pairView_setReg v (by rwa [Reg.bank, Nat.mul_add_mod_self_right])

theorem header_not_pairKey {p o : Nat} (low : o < 0x40) : pairKeys.contains ((p * 0x1000 + o) % 0x100000) = false := by
  have above : ∀ j ∈ pairKeys, 0x40 ≤ j % 0x1000 := by decide
  simp only [List.contains_eq_mem, decide_eq_false_iff_not]
  intro key
  have := above _ key
  omega

@[simp] theorem pairView_raise (p b : Nat) : (s.raise p b).pairView = s.pairView :=
  pairView_ite (pairView_setReg _ (header_not_pairKey (by decide))) rfl

@[simp] theorem pairView_logErr (p c : Nat) (i : Word) : (s.logErr p c i).pairView = s.pairView := by
  have key (o : Nat) (low : o < 0x40) : pairKeys.contains ((p * 0x1000 + o) % 0x100000) = false := header_not_pairKey low
  refine pairView_ite ?_ (pairView_setReg _ (key 0x01C (by decide)))
  rw [pairView_setReg _ (key 0x020 (by decide)), pairView_setReg _ (key 0x01C (by decide))]

@[simp] theorem pairView_recErr (p c : Nat) (i : Word) (pr : Prio) (b : Bytes) :
    (s.recErr p c i pr b).pairView = s.pairView := rfl

@[simp] theorem pairView_recIrq (p b : Nat) (pr : Prio) (m : Bytes) : (s.recIrq p b pr m).pairView = s.pairView := rfl

theorem pairView_modPair {f : Pair → Pair} (marks : ∀ p, (f p).settled = p.settled) :
    (s.modPair f).pairView = s.pairView := by
  unfold State.pairView State.modPair
  dsimp only
  rw [marks]
  rfl

@[simp] theorem pairView_modFio (c : Fin 16) (f : FioCh → FioCh) : (s.modFio c f).pairView = s.pairView := rfl

@[simp] theorem pairView_modLane (n : Fin 16) (f : Lane → Lane) : (s.modLane n f).pairView = s.pairView := rfl

@[simp] theorem pairView_modCtx (k : Fin 16) (f : GmbCtx → GmbCtx) : (s.modCtx k f).pairView = s.pairView := rfl

@[simp] theorem pairView_writeMem (a : Nat) (l : Bytes) : (s.writeMem a l).pairView = s.pairView := rfl

@[simp] theorem pairView_dunlySend (lane : Fin 4) (kind : Nat) (b : Bytes) :
    (s.dunlySend lane kind b).pairView = s.pairView := pairView_ite rfl rfl

@[simp] theorem pairView_sendJoinc (op reason : Nat) (r : Word) : (s.sendJoinc op reason r).pairView = s.pairView :=
  pairView_dunlySend ..

@[simp] theorem pairView_sendCastle (op : Nat) (c : Word) : (s.sendCastle op c).pairView = s.pairView :=
  pairView_dunlySend ..

@[simp] theorem pairView_sendCheck (result cause : Nat) (start : Word) :
    (s.sendCheck result cause start).pairView = s.pairView := pairView_dunlySend ..

theorem pairView_hapSend (dst : HostAddr) (key type flags status : Nat) (x : Word) (seg segs : Nat) (b : Bytes) :
    (s.hapSend dst key type flags status x seg segs b).pairView = s.pairView := by
  unfold State.hapSend
  split <;> rfl

@[simp] theorem pairView_notify (kind : Nat) (b : Bytes) : (s.notify kind b).pairView = s.pairView := by
  unfold State.notify
  refine pairView_ite rfl (pairView_foldl (fun u i => ?_) _)
  split
  · exact pairView_ite ((pairView_hapSend ..).trans rfl) rfl
  · rfl

/-! ### Time -/

theorem pairView_pipWrap (x : BitVec 64) : (s.pipWrap x).pairView = s.pairView := pairView_ite (pairView_raise ..) rfl

theorem pairView_edges (n : Nat) : (s.edges n).pairView = s.pairView := (pairView_pipWrap _).trans rfl

@[simp] theorem pairView_advanceTo (x : BitVec 64) : (s.advanceTo x).pairView = s.pairView :=
  pairView_ite (pairView_edges _) rfl

@[simp] theorem pairView_waitOp (n : Nat) : (s.waitOp n).pairView = s.pairView := pairView_ite (pairView_edges _) rfl

@[simp] theorem pairView_toPip (p : Nat) : (s.toPip p).pairView = s.pairView := pairView_advanceTo _

@[simp] theorem pairView_atBoundary : s.atBoundary.pairView = s.pairView :=
  atBoundary_keeps fun _ _ => pairView_advanceTo _

/-! ### The field block, the gambit unit, the boot, the sequencer -/

theorem pairView_fioApply (c : Fin 16) : (s.fioApply c).pairView = s.pairView := by
  unfold State.fioApply
  extract_lets d v₁ v₂ v₃
  have h₁ : v₁.pairView = s.pairView := pairView_ite (pairView_setFld (by decide)) rfl
  have h₂ : v₂.pairView = s.pairView := pairView_ite h₁ ((pairView_modFio ..).trans h₁)
  have h₃ : v₃.pairView = s.pairView := (pairView_setFld (by decide)).trans h₂
  exact pairView_ite ((pairView_modFio ..).trans h₃) h₃

@[simp] theorem pairView_fioApplyAll : s.fioApplyAll.pairView = s.pairView := pairView_over16 fun _ c => pairView_fioApply c

@[simp] theorem pairView_loopSet : s.loopSet.pairView = s.pairView := by
  unfold State.loopSet State.loopDeliver
  extract_lets test ua v w
  have h : v.pairView = s.pairView := pairView_ite (pairView_raise ..) rfl
  rw [pairView_setFld (by decide), pairView_setFld (by decide)]
  exact (pairView_setFld (by decide)).trans h

@[simp] theorem pairView_loopFollow : s.loopFollow.pairView = s.pairView := pairView_ite pairView_loopSet rfl

theorem pairView_restoreLine (n : Fin 16) (l : ShadowLine) : (s.restoreLine n l).pairView = s.pairView := rfl

theorem pairView_leaveCtx (n : Fin 16) (commit : Bool) : (s.leaveCtx n commit).pairView = s.pairView := by
  unfold State.leaveCtx
  extract_lets l v key w now x
  have restored : v.pairView = s.pairView := pairView_foldl (fun _ _ => pairView_restoreLine ..) _
  have h : w.pairView = s.pairView := by
    unfold w
    rw [State.incSat, State.setFld, pairView_setBank _ (by decide), State.setFld, pairView_setBank _ (by decide), restored]
  exact (pairView_modLane ..).trans (pairView_ite rfl ((pairView_modLane ..).trans h))

/-- A squash that is shown, of a context with no staged line to show. -/
theorem pairView_gmbShow (k : Fin 16) (cause : Nat) :
    (s.gmbShow k ⟨false, cause, 0, none, none, none, none⟩).pairView = s.pairView := by
  unfold State.gmbShow
  extract_lets key v w x y z
  have h₁ : v.pairView = s.pairView := pairView_setBank _ (by decide)
  have h₂ : w.pairView = s.pairView := (pairView_setBank _ (by decide)).trans h₁
  have h₃ : x.pairView = s.pairView := Eq.trans (pairView_setBank (s := w) _ (by decide)) h₂
  exact (pairView_setBank _ (by decide)).trans h₃

theorem pairView_gmbReport (k : Fin 16) (r : GmbRes) (code : Option Nat) :
    (s.gmbReport k r code).pairView = s.pairView := by
  unfold State.gmbReport
  extract_lets more v w info
  have h₁ : v.pairView = s.pairView := pairView_raise ..
  have h₂ : w.pairView = s.pairView := pairView_ite ((pairView_raise ..).trans h₁) h₁
  refine pairView_ite (pairView_raise ..) ?_
  split
  · exact (pairView_logErr ..).trans h₂
  · exact pairView_ite h₂ h₂

/-- A context that closes by an event of R218. -/
theorem pairView_closeCtx (k : Fin 16) :
    (s.carryOut k ⟨false, 10, 0, none, none, none, none⟩ (some 0x0103)).pairView = s.pairView := by
  unfold State.carryOut
  rw [pairView_gmbReport, pairView_gmbShow, pairView_modCtx]
  exact pairView_foldl (fun _ _ => pairView_leaveCtx ..) _

@[simp] theorem pairView_closeContexts : s.closeContexts.pairView = s.pairView :=
  pairView_over16 fun _ k => pairView_ite (pairView_closeCtx k) rfl

@[simp] theorem pairView_initStore (b : Tables) (area : Nat) : (s.initStore b area).pairView = s.pairView := by
  unfold State.initStore
  exact (pairView_foldl (fun _ _ => pairView_writeMem ..) _).trans rfl

@[simp] theorem pairView_restoreRetained (b : Tables) (area : Nat) : (s.restoreRetained b area).pairView = s.pairView := by
  unfold State.restoreRetained
  exact pairView_foldl (fun _ _ => pairView_ite (pairView_ite (pairView_recErr ..) (pairView_writeMem ..)) rfl) _

@[simp] theorem pairView_seqStop : s.seqStop.pairView = s.pairView := pairView_ite rfl rfl

@[simp] theorem pairView_seqStart : s.seqStart.pairView = s.pairView := pairView_ite rfl rfl

@[simp] theorem pairView_bootNotes : s.bootNotes.pairView = s.pairView := by
  unfold State.bootNotes
  extract_lets ep v w
  have h₁ : v.pairView = s.pairView := pairView_ite (pairView_recIrq ..) rfl
  have h₂ : w.pairView = s.pairView := (pairView_modPair fun _ => rfl).trans h₁
  exact pairView_ite rfl (pairView_ite ((pairView_modPair fun _ => rfl).trans ((pairView_recIrq ..).trans h₂)) h₂)

end Sys2Proof.Machine
end

section
/-! PROOFS. What a change of the module state leaves of the pair's data and of its registers (R330 to R333, R376). -/

namespace Sys2Proof.Machine

variable {s : State} {st : ModState} {k : Nat}

/-! ### The lead line (R333, R352) -/

theorem releaseLine_view : s.releaseLine.pairView
    = ((s.setFld Reg.ilkStat 0 0 0).setFld Reg.ilkStat 3 3 0).pairView :=
  pairView_ite (pairView_raise ..) rfl

theorem driveLine_view : s.driveLine.pairView
    = ((s.setFld Reg.ilkStat 0 0 1).setFld Reg.ilkStat 3 3 0).pairView := pairView_raise ..

/-- DRIVE as set, whatever ARMED becomes. -/
theorem setFld_drive (v w : Nat) :
    bit (((s.setFld Reg.ilkStat 0 0 v).setFld Reg.ilkStat 3 3 w).reg Reg.ilkStat) 0 = (v % 2 == 1) := by
  rw [State.setFld, State.reg_setReg_self, bit_withBits_ne (by decide) (by decide), State.setFld, State.reg_setReg_self,
    bit_withBits (by decide)]

theorem releaseLine_drive : bit (s.releaseLine.reg Reg.ilkStat) 0 = false := by
  rw [reg_of_view releaseLine_view (by decide), setFld_drive]
  rfl

theorem driveLine_drive : bit (s.driveLine.reg Reg.ilkStat) 0 = true := by
  rw [reg_of_view driveLine_view (by decide), setFld_drive]
  rfl

theorem releaseLine_reg (key : k ∈ pairKeys) (ne : k ≠ Reg.ilkStat) : s.releaseLine.reg k = s.reg k := by
  rw [reg_of_view releaseLine_view key, State.reg_setFld_ne ne, State.reg_setFld_ne ne]

theorem driveLine_reg (key : k ∈ pairKeys) (ne : k ≠ Reg.ilkStat) : s.driveLine.reg k = s.reg k := by
  rw [reg_of_view driveLine_view key, State.reg_setFld_ne ne, State.reg_setFld_ne ne]

theorem driveLine_state : s.driveLine.state = s.state := State.raise_state ..

theorem driveLine_pair : s.driveLine.pair = s.pair := State.raise_pair ..

/-! ### The change itself (R330, R333) -/

/-- What a change to `st` leaves of the pair's view: the line of R333, the state, the releases and a join request. -/
def State.entering (s : State) (st : ModState) : State :=
  let s := if s.state = .leader ∨ st = .stoodDown then s.releaseLine else s
  { s with state := st, pair := { s.pair with leadRel := false, joinRel := false, episode := false, xfer := none, reqId := [] } }

theorem toState_self (same : s.state = st) : s.toState st = s := if_pos same

theorem toState_view (ne : s.state ≠ st) : (s.toState st).pairView = (s.entering st).pairView := by
  unfold State.toState
  rw [if_neg ne, pairView_notify, pairView_loopFollow, pairView_recIrq, pairView_raise]
  rfl

@[simp] theorem toState_state : (s.toState st).state = st := by
  by_cases same : s.state = st
  · rw [toState_self same, same]
  · exact state_of_view (toState_view same)

theorem entering_reg (key : k ∈ pairKeys) (ne : k ≠ Reg.ilkStat) : (s.entering st).reg k = s.reg k := by
  unfold State.entering
  dsimp only
  split
  · exact releaseLine_reg key ne
  · rfl

theorem toState_reg (key : k ∈ pairKeys) (ne : k ≠ Reg.ilkStat) : (s.toState st).reg k = s.reg k := by
  by_cases same : s.state = st
  · rw [toState_self same]
  · rw [reg_of_view (toState_view same) key, entering_reg key ne]

theorem toState_fld (key : k ∈ pairKeys) (ne : k ≠ Reg.ilkStat) (hi lo : Nat) :
    (s.toState st).fld k hi lo = s.fld k hi lo := fld_eq_of_reg (toState_reg key ne)

/-- The line stays as it is when the module does not leave the lead and does not stand down (R333). -/
theorem toState_line (follows : s.state ≠ .leader) (serves : st ≠ .stoodDown) :
    (s.toState st).reg Reg.ilkStat = s.reg Reg.ilkStat := by
  by_cases same : s.state = st
  · rw [toState_self same]
  · rw [reg_of_view (toState_view same) (by decide), State.entering, if_neg (not_or.mpr ⟨follows, serves⟩)]
    rfl

/-- A leader that leaves the lead releases its line (R333). -/
theorem toState_released (leads : s.state = .leader) (ne : st ≠ .leader) :
    bit ((s.toState st).reg Reg.ilkStat) 0 = false := by
  have left : s.state ≠ st := fun same => ne (same.symm.trans leads)
  rw [reg_of_view (toState_view left) (by decide), State.entering, if_pos (.inl leads)]
  exact releaseLine_drive

/-- What a change of state touches of the pair's data. -/
theorem toState_pair : ∃ l j x r, (s.toState st).pair.settled
    = { s.pair.settled with leadRel := l, joinRel := j, xfer := x, reqId := r } ∧ (s.pair.xfer = none → x = none)
      ∧ (s.pair.reqId = [] → r = []) := by
  by_cases same : s.state = st
  · rw [toState_self same]
    exact ⟨_, _, _, _, rfl, id, id⟩
  · have pair : (s.entering st).pair.settled
        = { s.pair.settled with leadRel := false, joinRel := false, xfer := none, reqId := [] } := by
      unfold State.entering
      dsimp only
      split
      · exact congrArg (fun p : Pair => { p with leadRel := false, joinRel := false, xfer := none, reqId := [] })
          (congrArg PairView.pair releaseLine_view)
      · rfl
    exact ⟨_, _, _, _, (congrArg PairView.pair (toState_view same)).trans pair, fun _ => rfl, fun _ => rfl⟩

/-- What neither the releases nor a join request touch stays of the pair's data. -/
theorem toState_pair_keeps {β : Type} {g : Pair → β} (settled : ∀ p, g p.settled = g p)
    (keeps : ∀ (p : Pair) l j x r, g { p with leadRel := l, joinRel := j, xfer := x, reqId := r } = g p) :
    g (s.toState st).pair = g s.pair := by
  obtain ⟨l, j, x, r, pair, -, -⟩ := toState_pair (s := s) (st := st)
  rw [← settled, pair, keeps, settled]

theorem toState_lineDead : (s.toState st).lineDead = s.lineDead := by
  by_cases same : s.state = st
  · rw [toState_self same]
  · refine (lineDead_of_view (toState_view same)).trans ?_
    unfold State.entering
    dsimp only
    split
    · exact congrArg PairView.lineDead releaseLine_view
    · rfl

/-! ### LEADER (R331, R352) -/

theorem seqStart_ite (c : Prop) [Decidable c] : (if c then s.seqStart else s).pairView = s.pairView :=
  pairView_ite pairView_seqStart rfl

theorem takeLead_state : s.takeLead.state = .leader :=
  (state_of_view (seqStart_ite _)).trans toState_state

theorem takeLead_drive (follows : s.state ≠ .leader) : bit (s.takeLead.reg Reg.ilkStat) 0 = true := by
  have state : (s.driveLine.incSat Reg.ilkCnt 7 0).state ≠ .leader := by
    rw [State.incSat_state, driveLine_state]
    exact follows
  unfold State.takeLead
  dsimp only
  rw [reg_of_view (seqStart_ite _) (by decide), toState_line state (by decide), State.incSat,
    State.reg_setFld_ne (by decide), driveLine_drive]

theorem dropLead_state : s.dropLead.state = if s.linkUp then .follower else .mute := toState_state

theorem dropLead_released (leads : s.state = .leader) : bit (s.dropLead.reg Reg.ilkStat) 0 = false :=
  toState_released leads (by split <;> decide)

/-! ### JOINING and BOOT (R332, R334) -/

/-- A module that has entered JOINING (R334, R360). -/
structure Rejoined (s t : State) : Prop where
  state : t.state = .joining
  phase : t.fld Reg.pairJoin 2 0 = 1
  check : t.pair.check = none
  reg : ∀ k ∈ pairKeys, k ≠ Reg.ilkStat → k ≠ Reg.pairJoin → t.reg k = s.reg k

theorem joinPhase_fld (p : Nat) : (s.joinPhase p).fld Reg.pairJoin 2 0 = p % 8 := State.fld_setFld_self

theorem enterJoining_rejoined : Rejoined s s.enterJoining := by
  unfold State.enterJoining
  extract_lets boot v pair w
  have sent : (w.sendJoinc 1 0 w.rsn).pairView = w.pairView := pairView_sendJoinc ..
  have state : v.state = .joining := by
    unfold v
    rw [State.setFld_state, state_of_view pairView_closeContexts, toState_state]
  have reg : ∀ k ∈ pairKeys, k ≠ Reg.ilkStat → v.reg k = s.reg k := fun k key ne => by
    rw [State.reg_setFld_ne ne, reg_of_view pairView_closeContexts key, toState_reg key ne]
  clear_value v
  exact {
    state := (state_of_view sent).trans state
    phase := joinPhase_fld 1
    check := (pair_of_view Pair.check sent).trans rfl
    reg := fun k key line join => (State.reg_setFld_ne join).trans ((reg_of_view sent key).trans (reg k key line)) }

theorem joinToBoot_view : s.joinToBoot.pairView = ((s.toState .boot).joinPhase 0).pairView := by
  have stopped : ((s.toState .boot).seqStop.joinPhase 0).pairView = ((s.toState .boot).joinPhase 0).pairView := by
    unfold State.joinPhase State.seqStop
    split <;> rfl
  unfold State.joinToBoot
  dsimp only
  split
  · rw [pairView_restoreRetained, pairView_initStore, stopped]
  · exact stopped

theorem joinToBoot_state : s.joinToBoot.state = .boot := (state_of_view joinToBoot_view).trans toState_state

theorem joinToBoot_phase : s.joinToBoot.fld Reg.pairJoin 2 0 = 0 :=
  (fld_of_view joinToBoot_view (by decide) 2 0).trans (joinPhase_fld 0)

/-! ### STOOD_DOWN (R376, R378) -/

/-- A module that has stood down for a cause. -/
structure StoodDown (cause : Nat) (t : State) : Prop where
  state : t.state = .stoodDown
  pending : t.sdPend = []
  check : t.pair.check = none
  shown : t.reg Reg.hltSd = BitVec.ofNat 32 (cause + 16)

theorem standDown_stoodDown (cause : Nat) : StoodDown cause (s.standDown cause) := by
  unfold State.standDown
  extract_lets v pair w x i y
  have view : y.fioApplyAll.loopSet.pairView = x.pairView := by
    rw [pairView_loopSet, pairView_fioApplyAll]
    unfold y
    rw [pairView_recErr, pairView_logErr, pairView_raise]
  exact {
    state := (state_of_view view).trans ((state_of_view pairView_seqStop).trans toState_state)
    pending := sdPend_of_view view
    check := pair_of_view Pair.check view
    shown := (reg_of_view view (by decide)).trans State.reg_setReg_self }

end Sys2Proof.Machine
end

section
/-! PROOFS. The statement of 11_redundant_pair.md about PAIR_CMD (O37). -/

namespace Sys2Proof.Machine

variable {s : State} {d : Nat}

/-! ### Messages sent (R336, R337) -/

theorem dunlySend_regs (lane : Fin 4) (kind : Nat) (b : Bytes) : (s.dunlySend lane kind b).regs = s.regs := by
  unfold State.dunlySend
  split <;> rfl

theorem dunlySend_state (lane : Fin 4) (kind : Nat) (b : Bytes) : (s.dunlySend lane kind b).state = s.state :=
  state_of_view (pairView_dunlySend ..)

/-- While NET is released and the link is up a message is sent. -/
theorem dunlySend_sends (lane : Fin 4) (kind : Nat) (b : Bytes) (up : s.domainUp 3 = true) (link : s.linkUp = true) :
    (s.dunlySend lane kind b).out.length = s.out.length + 1 := by
  simp [State.dunlySend, up, link, State.send]

/-! ### Commands (R330, R331, R346, R355, R376) -/

/-- A command whose domain is released. -/
theorem when_released (up : s.domainUp d = true) (down meant : State) : (if !s.domainUp d then down else meant) = meant := by
  rw [up]
  rfl

/-- A command that its condition lets through. -/
theorem when_taken {c : Prop} [Decidable c] (up : s.domainUp d = true) (holds : c) (down taken refused : State) :
    (if !s.domainUp d then down else if c then taken else refused) = taken :=
  (when_released up ..).trans (if_pos holds)

/-- A command that its condition keeps out. -/
theorem when_refused {c : Prop} [Decidable c] (up : s.domainUp d = true) (fails : ¬ c) (down taken refused : State) :
    (if !s.domainUp d then down else if c then taken else refused) = refused :=
  (when_released up ..).trans (if_neg fails)

/-- BENCH is refused when BOOT may not be left, and without the option or the service key (R330, R399, R413). -/
theorem bench_barred (barred : s.heldInBoot = true ∨ (leAt s.option 0x0D 1).testBit 0 = false ∨ s.svcKey = false) :
    ¬ (s.state = .boot ∧ !s.heldInBoot ∧ (leAt s.option 0x0D 1).testBit 0 ∧ s.svcKey) := by
  rintro ⟨-, free, enabled, key⟩
  rcases barred with held | disabled | keyless
  · simp [held] at free
  · exact Bool.noConfusion (enabled.symm.trans disabled)
  · exact Bool.noConfusion (key.symm.trans keyless)

/-- Settles O37. -/
theorem pairCommands : Obligations.PairCommands := by
  unfold Obligations.PairCommands
  refine ⟨fun s up boot => ⟨?_, ?_⟩, fun s up elsewhere => ⟨?_, ?_, ?_⟩, fun s up may => ?_, fun s up not => ?_,
    fun s up may => ⟨?_, ?_⟩, fun s up not => ?_, fun s up boot free enabled key => ?_, fun s up barred => ?_,
    fun s up joins => ?_, fun s up elsewhere => ?_, fun s up leads link down => ⟨?_, fun net => ?_⟩, fun s up not => ?_⟩
  · exact .of_meaning rfl (when_taken up boot ..) ⟨rfl, rfl⟩
  · exact .of_meaning rfl (when_taken up boot ..) ⟨rfl, rfl⟩
  · exact .of_meaning rfl (when_refused up elsewhere ..)
  · exact .of_meaning rfl (when_refused up elsewhere ..)
  · exact .of_meaning rfl (when_refused up (fun h => elsewhere h.1) ..)
  · exact .of_meaning rfl (when_taken up may ..) ⟨rfl, dunlySend_regs ..⟩
  · exact .of_meaning rfl (when_refused up (Bool.not_eq_true _ ▸ not) ..)
  · exact .of_meaning rfl (when_taken up may ..)
  · exact .of_meaning rfl (when_taken up may ..) (standDown_stoodDown 4).state
  · exact .of_meaning rfl (when_refused up (Bool.not_eq_true _ ▸ not) ..)
  · exact .of_meaning rfl (when_taken up ⟨boot, by rw [free]; rfl, enabled, key⟩ ..) toState_state
  · exact .of_meaning rfl (when_refused up (bench_barred barred) ..)
  · exact .of_meaning rfl (when_taken up joins ..) ⟨joinToBoot_state, joinToBoot_phase⟩
  · exact .of_meaning rfl (when_refused up elsewhere ..)
  · exact .of_meaning rfl (when_taken up ⟨leads, link, down⟩ ..)
  · exact .of_meaning rfl (when_taken up ⟨leads, link, down⟩ ..)
      ⟨dunlySend_sends _ _ _ net link, dunlySend_regs .., (dunlySend_state ..).trans leads⟩
  · exact .of_meaning rfl (when_refused up not ..)

end Sys2Proof.Machine
end

section
/-! PROOFS. The statement of 11_redundant_pair.md about the lead line, joining and standing down (O38). -/

namespace Sys2Proof.Machine

variable {s : State}

/-! ### The own line (R350, R354) -/

/-- Waiting for the next pulse moves time alone. -/
theorem toPulse_keeps {β : Type} {g : State → β} (advance : ∀ u p, g (State.toPip u p) = g u)
    (wait : ∀ u n, g (State.waitOp u n) = g u) : g s.toPulse = g s := by
  unfold State.toPulse
  extract_lets v
  have h : g v = g s := by
    unfold v
    split
    · split
      · exact advance ..
      · rfl
    · rfl
  split
  · exact (wait ..).trans h
  · exact h

theorem opNs_eq {t : State} (ms : t.opTime = s.opTime) (frac : t.opFrac = s.opFrac) : t.opNs = s.opNs := by
  rw [State.opNs, ms, frac, State.opNs]

/-- The pulse itself (R350). -/
def State.pulsed (s : State) : State :=
  (s.lineFalls.modPair fun p => { p with pulseRsn := none }).send (.leadLow 1000)

theorem pulsed_out : s.pulsed.out = s.out ++ [.leadLow 1000] := rfl

theorem pulsed_fall : s.pulsed.ownFall.head? = some s.pulsed.opNs := by
  have now : s.pulsed.opNs = s.opNs := opNs_eq rfl rfl
  rw [now]
  rfl

theorem pulsed_first : s.pulsed.pair.pulseRsn = none := rfl

theorem pulsed_state : s.pulsed.state = s.state := rfl

theorem leadPulse_eq (drives : bit (s.reg Reg.ilkStat) 0 = true) (holds : s.handingOff = false) :
    leadPulse s = s.toPulse.pulsed := by
  simp [leadPulse, drives, holds, State.pulsed]

/-- What is logged and recorded when a driver is turned off for a fault of the line. -/
theorem pairView_lineFault (b code : Nat) :
    (((s.raise pILK b).logErr pILK code 0).recErr pILK code 0 .normal []).pairView = s.pairView := by
  rw [pairView_recErr, pairView_logErr, pairView_raise]

/-- A leader that gives up its line for a fault of it (R330, R352, R354). -/
theorem dropLead_of_fault {t : State} {hi lo : Nat} (fault : t.pairView = (s.incSat Reg.ilkCnt hi lo).pairView)
    (leads : s.state = .leader) : t.dropLead.state = (if s.linkUp then .follower else .mute)
      ∧ bit (t.dropLead.reg Reg.ilkStat) 0 = false := by
  have link : t.linkUp = s.linkUp := by
    unfold State.linkUp
    rw [reg_of_view fault (by decide), State.incSat, State.reg_setFld_ne (by decide)]
  exact ⟨by rw [dropLead_state, link], dropLead_released ((state_of_view fault).trans leads)⟩

theorem readback_leader (drives : bit (s.reg Reg.ilkStat) 0 = true) (leads : s.state = .leader) :
    (readback s).state = (if s.linkUp then .follower else .mute) ∧ bit ((readback s).reg Reg.ilkStat) 0 = false := by
  unfold readback
  rw [drives, Bool.not_true, if_neg Bool.false_ne_true]
  extract_lets v w x
  have fault : x.pairView = (s.incSat Reg.ilkCnt 31 24).pairView := pairView_lineFault (s := v.incSat Reg.ilkCnt 31 24) 3 0x0101
  rw [if_pos ((state_of_view fault).trans leads)]
  exact dropLead_of_fault fault leads

/-- What B logs as it gives way (R352). -/
def State.yielding (s : State) : State :=
  (((s.incSat Reg.ilkCnt 23 16).raise pILK 4).logErr pILK 0x0102 0).recErr pILK 0x0102 0 .normal []

theorem yielding_view : s.yielding.pairView = (s.incSat Reg.ilkCnt 23 16).pairView := pairView_lineFault 4 0x0102

theorem yield_eq (second : s.isB = true) (drives : bit (s.reg Reg.ilkStat) 0 = true) (live : s.partnerLive = true) :
    yield s = if s.state = .leader then s.yielding.dropLead else s.yielding.releaseLine := by
  have state : s.yielding.state = s.state := congrArg PairView.state yielding_view
  unfold yield
  rw [second, drives, live]
  rw [← state]
  rfl

/-- B counts that it gave way (R352). -/
theorem yield_counted (second : s.isB = true) (drives : bit (s.reg Reg.ilkStat) 0 = true)
    (live : s.partnerLive = true) :
    (yield s).fld Reg.ilkCnt 23 16 = min 0xFF (s.fld Reg.ilkCnt 23 16 + 1) := by
  have counted : s.yielding.fld Reg.ilkCnt 23 16 = min 0xFF (s.fld Reg.ilkCnt 23 16 + 1) := by
    rw [fld_of_view yielding_view (by decide)]
    exact fld_incSat_self (by decide) (by decide)
  rw [yield_eq second drives live]
  split
  · exact (toState_fld (by decide) (by decide) 23 16).trans counted
  · exact (fld_eq_of_reg (releaseLine_reg (by decide) (by decide))).trans counted

/-! ### The partner's line (R351, R352) -/

theorem partnerLineDead_takes (dead : s.partnerLive = false) (up : s.domainUp 2 = true)
    (waits : s.state = .follower ∨ s.state = .mute) : partnerLineDead2ms s = (s.waitOp s.latchAt).takeLead := by
  rcases waits with state | state <;> simp [partnerLineDead2ms, dead, up, state]

theorem partnerLineDead_joiner (dead : s.partnerLive = false) (up : s.domainUp 2 = true) (joins : s.state = .joining) :
    partnerLineDead2ms s = (s.waitOp (s.lineDead + 2000000)).joinToBoot := by
  simp [partnerLineDead2ms, dead, up, joins]

/-- The change of the partner's line as it shows in ILK_STAT (R351). -/
def State.lineShown (s : State) (live : Bool) : State :=
  let s := (s.setFld Reg.ilkStat 2 2 (b2n live)).raise pILK 2
  if live then s else { s with lineDead := s.opNs }

theorem lineShown_reg (live : Bool) (k : Nat) :
    (s.lineShown live).reg k = ((s.setFld Reg.ilkStat 2 2 (b2n live)).raise pILK 2).reg k := by
  unfold State.lineShown
  dsimp only
  split <;> rfl

theorem lineShown_state (live : Bool) : (s.lineShown live).state = s.state := by
  unfold State.lineShown
  dsimp only
  split <;> exact State.raise_state ..

theorem lineShown_live (live : Bool) : (s.lineShown live).partnerLive = live := by
  unfold State.partnerLive
  rw [lineShown_reg, State.reg_raise_ne (by decide), State.setFld, State.reg_setReg_self, bit_withBits (by decide)]
  cases live <;> rfl

theorem raise_opNs (p b : Nat) : (s.raise p b).opNs = s.opNs :=
  opNs_eq (State.raise_opTime ..) (State.raise_opFrac ..)

theorem lineShown_dead : (s.lineShown false).lineDead = s.opNs := raise_opNs ..

theorem partnerLineChange_eq {live : Bool} (turns : s.partnerLive = !live) (up : s.domainUp 0 = true) :
    partnerLineChange live s = if !(s.lineShown live).domainUp 2 then s.lineShown live
      else if live ∧ (s.lineShown live).state = .follower ∧ !(s.lineShown live).linkUp then
        (s.lineShown live).toState .mute
      else (s.lineShown live).bootNotes := by
  have change : ¬ (s.partnerLive = live ∨ !s.domainUp 0) := by
    rw [turns, up]
    cases live <;> decide
  exact if_neg change

/-- What follows a change of the partner's line leaves of it. -/
theorem partnerLineChange_line {live : Bool} (turns : s.partnerLive = !live) (up : s.domainUp 0 = true) :
    (partnerLineChange live s).partnerLive = live ∧ (partnerLineChange live s).lineDead = (s.lineShown live).lineDead := by
  have shown := lineShown_live (s := s) live
  rw [partnerLineChange_eq turns up]
  split
  · exact ⟨shown, rfl⟩
  · split
    · next turn =>
      obtain ⟨-, follows, -⟩ := turn
      have line := toState_line (st := .mute) (by rw [follows]; decide) (by decide)
      exact ⟨(congrArg (bit · 2) line).trans shown, toState_lineDead⟩
    · exact ⟨(congrArg (bit · 2) (reg_of_view pairView_bootNotes (by decide))).trans shown,
        lineDead_of_view pairView_bootNotes⟩

/-- A Follower without link whose leader's line becomes live is MUTE (R330, R358). -/
theorem partnerLineChange_mute (turns : s.partnerLive = false) (up : s.domainUp 0 = true) (seq : s.domainUp 2 = true)
    (follows : s.state = .follower) (link : s.linkUp = false) : (partnerLineChange true s).state = .mute := by
  have reg {k : Nat} (key : k ≠ Reg.pgIrq pILK) (ne : k ≠ Reg.ilkStat) : (s.lineShown true).reg k = s.reg k := by
    rw [lineShown_reg, State.reg_raise_ne key, State.reg_setFld_ne ne]
  have seq' : (s.lineShown true).domainUp 2 = true := (domainUp_of_reg (reg (by decide) (by decide)) 2).trans seq
  have link' : (s.lineShown true).linkUp = false := (congrArg (bit · 0) (reg (by decide) (by decide))).trans link
  rw [partnerLineChange_eq turns up, when_taken seq' ⟨rfl, (lineShown_state _).trans follows, by rw [link']; rfl⟩]
  exact toState_state

/-! ### Standing down (R376, R377) -/

theorem standDownTakeEffect_eq {c : Nat} {b : Bool} {l : List (Nat × Bool)} (pend : s.sdPend = (c, b) :: l)
    (may : s.mayStandDown = true) : standDownTakeEffect s
      = if s.atBoundary.partnerCarries then s.atBoundary.standDown c else s.atBoundary.sdShow := by
  simp [standDownTakeEffect, pend, may]

/-- The one cause that has arisen shows as pending (R377). -/
theorem sdShow_single {c : Nat} (pend : s.sdPend = [(c, false)]) (alone : s.partnerCarries = false) : s.sdShow
    = ((({ s with sdPend := [(c, true)] } : State).setReg Reg.hltSd (BitVec.ofNat 32 (c + 8))).raise pHLT 2).recIrq pHLT 2
      .critical (toLe 4 c) := by
  simp [State.sdShow, alone, pend]

/-! ### The statement -/

/-- Settles O38. -/
theorem leadAndJoin : Obligations.LeadAndJoin := by
  unfold Obligations.LeadAndJoin
  refine ⟨fun s ready => ⟨?_, ?_⟩, fun s ready => ?_, fun s drives holds => ?_, fun s dead up waits => ?_,
    fun s dead up joins => ?_, fun live s turns up => ?_, fun s drives leads => ⟨fun second live => ?_, ?_⟩,
    fun s drives second live => ?_, fun c b l s pend may carries => ?_, fun c s pend may alone => ?_⟩
  · exact .of_meaning rfl (if_pos ready)
  · exact .of_meaning rfl (if_pos ready) takeLead_state
  · obtain ⟨state, phase, -, -⟩ := enterJoining_rejoined (s := s)
    exact .of_meaning rfl (if_pos ready) ⟨state, phase⟩
  · have out : s.toPulse.out = s.out := toPulse_keeps State.toPip_out State.waitOp_out
    have state : s.toPulse.state = s.state := toPulse_keeps State.toPip_state State.waitOp_state
    exact .of_meaning rfl (leadPulse_eq drives holds)
      ⟨by rw [pulsed_out, out], pulsed_fall, pulsed_first, pulsed_state.trans state⟩
  · have follows : (s.waitOp s.latchAt).state ≠ .leader := by
      rw [State.waitOp_state]
      rcases waits with state | state <;> rw [state] <;> decide
    exact .of_meaning rfl (partnerLineDead_takes dead up waits) ⟨takeLead_state, takeLead_drive follows⟩
  · exact .of_meaning rfl (partnerLineDead_joiner dead up joins) joinToBoot_state
  · obtain ⟨shown, since⟩ := partnerLineChange_line turns up
    refine ⟨_, rfl, shown, ?_, ?_⟩
    · rintro rfl
      exact since.trans lineShown_dead
    · rintro rfl seq follows link
      exact partnerLineChange_mute turns up seq follows link
  · refine .of_meaning rfl ((yield_eq second drives live).trans (if_pos leads)) ?_
    exact dropLead_of_fault yielding_view leads
  · exact ⟨_, rfl, readback_leader drives leads⟩
  · exact ⟨_, rfl, yield_counted second drives live⟩
  · obtain ⟨state, pending, -, shown⟩ := standDown_stoodDown (s := s.atBoundary) c
    exact .of_meaning rfl ((standDownTakeEffect_eq pend may).trans (if_pos carries)) ⟨state, pending, shown⟩
  · have pend' : s.atBoundary.sdPend = [(c, false)] := (sdPend_of_view pairView_atBoundary).trans pend
    refine .of_meaning rfl ((standDownTakeEffect_eq pend may).trans ((if_neg (by rw [alone]; decide)).trans
      (sdShow_single pend' alone))) ⟨?_, ?_, ?_⟩
    · exact (state_of_view (pairView_raise ..)).trans atBoundary_state
    · exact sdPend_of_view (pairView_raise ..)
    · exact (reg_of_view (pairView_raise ..) (by decide)).trans State.reg_setReg_self

end Sys2Proof.Machine
end

section
/-! PROOFS. A Dunly message that arrives: the checks, its SEQ, and what taking it leaves alone (R337, R343). -/

namespace Sys2Proof.Machine

variable {s : State} {lane : Fin 4} {kind : Nat} {msg : Bytes} {f : State → Word → Bytes → State}

/-! ### The checks (R337) -/

theorem dunlyRx_good (gets : s.gets kind msg) :
    s.dunlyRx lane kind msg f = f (s.taken lane msg) (BitVec.ofNat 32 (beAt msg 18 4)) (dunlyBody msg) := by
  obtain ⟨up, ok, same⟩ := gets
  unfold State.dunlyRx
  rw [up, ok, same]
  exact if_neg (not_not.mpr rfl)

theorem dunlyRx_bad (up : s.domainUp 3 = true) (bad : dunlyOk msg = false) : s.dunlyRx lane kind msg f = s.dunlyBad := by
  unfold State.dunlyRx
  rw [up, bad]
  rfl

theorem dunlyRx_other (up : s.domainUp 3 = true) (ok : dunlyOk msg = true) (other : beAt msg 15 1 ≠ kind) :
    s.dunlyRx lane kind msg f = s := by
  unfold State.dunlyRx
  rw [up, ok]
  exact if_pos other

theorem dunlyBad_counted : s.dunlyBad.fld Reg.dxlErr 15 0 = min 0xFFFF (s.fld Reg.dxlErr 15 0 + 1) :=
  (fld_raise_ne (by decide)).trans (fld_incSat_self (by decide) (by decide))

/-- The commands of messages, each with the kind that it is for. -/
noncomputable def dunlyCommands (lane : Fin 4) (msg : Bytes) : List (Nat × Instr) :=
  [(1, .healthMsgRx lane msg), (2, .digestMsgRx lane msg), (8, .checkMsgRx lane msg), (3, .chgProposeRx lane msg),
    (3, .chgAcceptRx lane msg), (3, .chgRefuseRx lane msg), (3, .chgCommitRx lane msg), (3, .chgCancelRx lane msg),
    (4, .castleOfferRx lane msg), (4, .castleTakeRx lane msg), (4, .castleCancelRx lane msg), (5, .grantMsgRx lane msg),
    (6, .hostwRx lane msg), (7, .fiolRx lane msg), (10, .resetReqRx lane msg), (11, .fwdRx lane msg),
    (9, .joincRequestRx lane msg), (9, .joincWaitRx lane msg), (9, .joincStartRx lane msg), (9, .joincCloseRx lane msg),
    (9, .joincDoneRx lane msg), (9, .joincAbortRx lane msg), (9, .joincRefuseRx lane msg), (12, .xferRx lane msg)]

theorem chgRx_rx {op : Nat} {g : State → Word → Bytes → State} :
    ∃ f, ∀ s : State, Host.Outcome.next (φ := Fault) (ρ := Refusal) (s.chgRx lane op msg g)
      = .next (s.dunlyRx lane 3 msg f) := ⟨_, fun _ => rfl⟩

theorem joincRx_rx {op : Nat} {g : State → Nat → State} :
    ∃ f, ∀ s : State, Host.Outcome.next (φ := Fault) (ρ := Refusal) (s.joincRx lane op msg g)
      = .next (s.dunlyRx lane 9 msg f) := ⟨_, fun _ => rfl⟩

/-- Every one of them is a reception of its kind. -/
theorem dunlyCommands_rx : ∀ x ∈ dunlyCommands lane msg, ∃ f, ∀ s, exec x.2 s = .next (s.dunlyRx lane x.1 msg f) := by
  have rx {c : Instr} {k : Nat} {g : State → Word → Bytes → State} (same : ∀ s, exec c s = .next (s.dunlyRx lane k msg g)) :
      ∃ f, ∀ s, exec c s = .next (s.dunlyRx lane k msg f) := ⟨g, same⟩
  unfold dunlyCommands
  simp only [List.forall_mem_cons]
  exact ⟨rx fun _ => rfl, rx fun _ => rfl, rx fun _ => rfl, chgRx_rx, chgRx_rx, chgRx_rx, chgRx_rx, chgRx_rx,
    rx fun _ => rfl, rx fun _ => rfl, rx fun _ => rfl, rx fun _ => rfl, rx fun _ => rfl, rx fun _ => rfl, rx fun _ => rfl,
    rx fun _ => rfl, rx fun _ => rfl, joincRx_rx, joincRx_rx, joincRx_rx, joincRx_rx, joincRx_rx, joincRx_rx,
    rx fun _ => rfl, List.forall_mem_nil _⟩

/-! ### What the SEQ leaves (R343, R344) -/

theorem taken_seqIn : (s.taken lane msg).pair.seqIn[lane] = BitVec.ofNat 32 (beAt msg 22 4) + 1 :=
  Vector.getElem_set_self lane.isLt

@[simp] theorem pairView_taken : (s.taken lane msg).pairView = s.pairView := by
  unfold State.taken State.seqGap
  extract_lets lost k u v w
  have h : w.pairView = s.pairView :=
    pairView_ite ((pairView_raise ..).trans (Eq.trans rfl (pairView_setFld (by decide) : u.pairView = s.pairView))) rfl
  exact Eq.trans rfl h

theorem taken_mem : (s.taken lane msg).mem = s.mem :=
  taken_keeps (fun _ _ _ => rfl) (fun u p b => u.raise_mem p b) fun _ _ _ => rfl

theorem taken_net : (s.taken lane msg).net = s.net :=
  taken_keeps (fun _ _ _ => rfl) (fun u p b => u.raise_net p b) fun _ _ _ => rfl

theorem taken_time : (s.taken lane msg).time = s.time :=
  taken_keeps (fun _ _ _ => rfl) (fun u p b => u.raise_time p b) fun _ _ _ => rfl

theorem taken_option : (s.taken lane msg).option = s.option :=
  taken_keeps (fun _ _ _ => rfl) (fun u p b => u.raise_option p b) fun _ _ _ => rfl

theorem taken_out : (s.taken lane msg).out = s.out :=
  taken_keeps (fun _ _ _ => rfl) (fun u p b => u.raise_out p b) fun _ _ _ => rfl

theorem taken_events : (s.taken lane msg).events = s.events :=
  taken_keeps (fun _ _ _ => rfl) (fun u p b => u.raise_events p b) fun _ _ _ => rfl

theorem taken_rst : (s.taken lane msg).rst = s.rst :=
  taken_keeps (fun _ _ _ => rfl) (fun u p b => u.raise_rst p b) fun _ _ _ => rfl

theorem taken_migr : (s.taken lane msg).migr = s.migr :=
  taken_keeps (fun _ _ _ => rfl) (fun u p b => u.raise_migr p b) fun _ _ _ => rfl

end Sys2Proof.Machine
end

section
/-! PROOFS. What the leader's messages leave: health blocks, digests, grants, plant writes, latches, copies (R341, R345 to R348,
R367, R396). -/

namespace Sys2Proof.Machine

variable {s : State} {lane : Fin 4} {msg : Bytes}

/-! ### Health blocks and digests (R348, R367) -/

/-- A new block brings about nothing on a module that neither follows nor joins. -/
theorem partnerSeen_aside (was block : Bytes) (aside : s.state ≠ .follower ∧ s.state ≠ .joining) :
    s.partnerSeen was block = s := by
  obtain ⟨leads, done⟩ := aside
  unfold State.partnerSeen
  rw [if_neg fun h => leads h.1, if_neg fun h => done h.1]

/-- The run of rounds with a health block, as block `b` continues it (R336). -/
def State.healthRun (s : State) (b : Bytes) : Nat :=
  let d := (BitVec.ofNat 32 (leAt b 0 4) - BitVec.ofNat 32 (leAt s.pair.partner 0 4)).toNat
  if s.pair.partner.isEmpty then 1 else if d = 0 then max 1 s.pair.goodRun else if d = 1 then s.pair.goodRun + 1 else 1

/-- Block `b` has been kept as the partner's last. -/
def State.healthKept (s : State) (b : Bytes) : State :=
  s.modPair fun p => { p with partner := b, goodRun := min 2 (s.healthRun b), heardRsn := s.roundRsn }

theorem healthMsgRx_aside (gets : s.gets 1 msg)
    (crc : leAt (dunlyBody msg) 0xFC 4 = (crc32c ((dunlyBody msg).take 0xFC)).toNat)
    (aside : s.state ≠ .follower ∧ s.state ≠ .joining) :
    healthMsgRx lane msg s = (s.taken lane msg).healthKept (dunlyBody msg) := by
  have aside' : ((s.taken lane msg).healthKept (dunlyBody msg)).state ≠ .follower
      ∧ ((s.taken lane msg).healthKept (dunlyBody msg)).state ≠ .joining := by
    rw [State.healthKept, State.modPair_state, taken_state]
    exact aside
  exact (dunlyRx_good gets).trans ((if_neg (not_not.mpr crc)).trans (partnerSeen_aside _ _ aside'))

theorem healthKept_first {b : Bytes} (new : s.pair.partner = []) : (s.healthKept b).pair.goodRun = 1 := by
  show min 2 (s.healthRun b) = 1
  rw [State.healthRun, new]
  rfl

theorem digestMsgRx_eq (gets : s.gets 2 msg) : digestMsgRx lane msg s = (s.taken lane msg).modPair fun p =>
    { p with digPart := p.digPart.filter (fun x => x.task != leAt (dunlyBody msg) 0 1)
      ++ [⟨leAt (dunlyBody msg) 0 1, BitVec.ofNat 32 (leAt (dunlyBody msg) 4 4), BitVec.ofNat 64 (leAt (dunlyBody msg) 8 8)⟩] } :=
  dunlyRx_good gets

/-! ### Grants (R346) -/

/-- The table answers with the grant that was put into it. -/
theorem find_putGrant (g : Grant) : ∀ l : List Grant, (putGrant g l).find? (fun x => x.slot == g.slot) = some g
  | [] => by simp [putGrant]
  | x :: l => by
    unfold putGrant
    split
    · simp
    · split
      · simp
      · next other =>
        rw [List.find?_cons_of_neg (by simpa using Ne.symm other)]
        exact find_putGrant g l

theorem takeGrant_grantOf (g : Grant) : ∃ a, (s.takeGrant g).grantOf g.slot = some { g with age := a } := by
  have put (a : Nat) : (s.modNet fun n => { n with grants := putGrant { g with age := a } n.grants }).grantOf g.slot
      = some { g with age := a } := find_putGrant { g with age := a } s.net.grants
  unfold State.takeGrant
  dsimp only
  split
  · next x _ =>
    split
    · exact ⟨x.age, put x.age⟩
    · exact ⟨g.age, put g.age⟩
  · exact ⟨g.age, put g.age⟩

theorem pairView_endGrant (slot : Nat) : (s.endGrant slot).pairView = s.pairView := by
  unfold State.endGrant
  split
  · rfl
  · extract_lets v w x
    have forgotten : w.pairView = s.pairView := pairView_ite rfl (pairView_setBank _ (by decide))
    have shown : x.pairView = s.pairView := (pairView_raise ..).trans forgotten
    exact pairView_ite ((pairView_dunlySend ..).trans shown) shown

theorem dunlySend_net (lane : Fin 4) (kind : Nat) (b : Bytes) : (s.dunlySend lane kind b).net = s.net := by
  unfold State.dunlySend
  split <;> rfl

theorem endGrant_grantOf (slot : Nat) : (s.endGrant slot).grantOf slot = none := by
  unfold State.endGrant
  split
  · assumption
  · extract_lets v w x
    have gone : v.grantOf slot = none := by
      simp [v, State.grantOf, State.modNet]
    have forgotten : w.net = v.net := by
      unfold w
      split <;> rfl
    have shown : x.net = v.net := (State.raise_net ..).trans forgotten
    have same {t : State} (net : t.net = v.net) : t.grantOf slot = none := by rw [State.grantOf, net]; exact gone
    split
    · exact same ((dunlySend_net ..).trans shown)
    · exact same shown

theorem grantMsgRx_eq (gets : s.gets 5 msg) (follows : s.state ≠ .leader) : grantMsgRx lane msg s
    = if (parseGrant (dunlyBody msg)).node = 0 then (s.taken lane msg).endGrant (parseGrant (dunlyBody msg)).slot
      else (s.taken lane msg).takeGrant (parseGrant (dunlyBody msg)) :=
  (dunlyRx_good gets).trans (if_neg (taken_state.symm ▸ follows))

/-! ### Plant writes and latches (R345, R346) -/

theorem hostwRx_eq (gets : s.gets 6 msg) (waits : s.state = .follower ∨ s.state = .joining) : hostwRx lane msg s
    = (s.taken lane msg).modPair fun p => { p with plant := p.plant ++ [⟨BitVec.ofNat 32 (leAt (dunlyBody msg) 0 4),
      leAt (dunlyBody msg) 4 4,
      (List.range (leAt (dunlyBody msg) 8 4)).map (fun i => bytesWord (slice (dunlyBody msg) (16 + 4 * i) 4))⟩] } :=
  (dunlyRx_good gets).trans (if_pos (taken_state.symm ▸ waits))

/-- A latch of some channel is kept as the newest. -/
theorem keepLatch_head {l : Latch} (some_ : l.chans ≠ 0) : (s.keepLatch l).pair.latches.head? = some l := by
  have first : liveLatches s.now 0 (l :: s.pair.latches)
      = l :: liveLatches s.now (if later64 l.usable s.now then 0 else 0 ||| l.chans) s.pair.latches := by
    have all : l.chans &&& ~~~(0 : BitVec 16) = l.chans := BitVec.and_allOnes
    rw [liveLatches]
    exact if_neg (by rwa [all])
  exact congrArg List.head? first

theorem taken_track (k : Track) : (s.taken lane msg).track k = s.track k := by
  unfold State.track
  rw [taken_boards]

theorem fiolRx_kept {e : Entry} (gets : s.gets 7 msg) (entry : (s.track .f)[leAt (dunlyBody msg) 0 4]? = some e)
    (takes : s.takesLatches = true) : ∃ base, fiolRx lane msg s = (s.taken lane msg).keepLatch
      ⟨leAt (dunlyBody msg) 0 4, e.channels, BitVec.ofNat 16 (leAt (dunlyBody msg) 4 2),
        BitVec.ofNat 16 (leAt (dunlyBody msg) 6 2), (leAt (dunlyBody msg) 8 4).testBit 0, base⟩ := by
  have takes' : (s.taken lane msg).takesLatches = true := by
    unfold State.takesLatches
    rw [taken_state]
    exact takes
  have kept : fiolRx lane msg s = _ := dunlyRx_good gets
  simp only [taken_track, entry, takes', if_true] at kept
  exact ⟨_, kept⟩

/-! ### RESET_REQ (R396) -/

theorem taken_partnerLive : (s.taken lane msg).partnerLive = s.partnerLive :=
  congrArg (bit · 2) (reg_of_view pairView_taken (by decide))

theorem resetReqRx_eq (gets : s.gets 10 msg) : resetReqRx lane msg s
    = if s.state = .stoodDown ∧ s.partnerLive then (s.taken lane msg).assertSource 5 1 false
      else (s.taken lane msg).recIrq pDXL 3 .normal [] :=
  (dunlyRx_good gets).trans (if_congr (by rw [taken_state, taken_partnerLive]) rfl rfl)

/-! ### Forwarded copies (R341) -/

/-- A run that replaces the occurrence it stands for is found in its place. -/
theorem find_putRun {p : SlotRun → Bool} {y z : SlotRun} (slot : z.slot = y.slot) (rsn : z.rsn = y.rsn) (hit : p z = true)
    {l : List SlotRun} (found : l.find? p = some y) : (putRun l z).find? p = some z := by
  have listed : l.any (fun x => x.slot == z.slot && x.rsn == z.rsn) = true :=
    List.any_eq_true.mpr ⟨y, List.mem_of_find?_eq_some found, by simp [slot, rsn]⟩
  unfold putRun
  rw [if_pos listed]
  clear listed
  induction l with
  | nil => cases found
  | cons x l ih =>
    rw [List.map_cons]
    by_cases same : x.slot = z.slot ∧ x.rsn = z.rsn
    · rw [if_pos same, List.find?_cons_of_pos hit]
    · rw [if_neg same]
      cases met : p x
      · rw [List.find?_cons_of_neg (by simp [met])] at found ⊢
        exact ih found
      · rw [List.find?_cons_of_pos met] at found
        obtain rfl := Option.some_inj.mp found
        exact absurd ⟨slot.symm, rsn.symm⟩ same

theorem stationHeard_net (r : SlotRec) (rsn : Word) : (s.stationHeard r rsn).net = s.net := by
  unfold State.stationHeard
  split
  · rfl
  · split <;> rfl

/-- A forward record of an occurrence that is kept is taken as a copy of it. -/
theorem takeForward_slots {tb : Tables} {r : SlotRec} {y : SlotRun} {slot ch : Nat} {x : RxCopy}
    (act : s.boards.act = some tb) (rec : tb.slotRec slot = some r)
    (found : s.net.slots.find? (fun y => y.slot == slot && y.pip == BitVec.ofNat 32 (beAt x.header 16 4)) = some y)
    (lands : s.landable r y.rsn = true) :
    (s.takeForward slot ch x).net.slots = putRun s.net.slots { y with fwd := y.fwd ++ [(ch, x)] } := by
  unfold State.takeForward
  simp only [act, rec, found, lands, if_true]
  obtain ⟨slots, -⟩ := noteStation_keeps (r := r) (rsn := y.rsn) (landed := true)
    (s := State.stationHeard (if (!y.isOpen && ({ y with fwd := y.fwd ++ [(ch, x)] } : SlotRun).differs && !y.differs) = true
      then (s.modNet fun n => { n with slots := putRun n.slots { y with fwd := y.fwd ++ [(ch, x)] } }).chMismatch r.slot
      else s.modNet fun n => { n with slots := putRun n.slots { y with fwd := y.fwd ++ [(ch, x)] } }) r y.rsn)
  rw [slots, stationHeard_net]
  split
  · exact congrArg Net.slots (State.raise_net ..)
  · rfl

theorem taken_landable (r : SlotRec) (rsn : Word) : (s.taken lane msg).landable r rsn = s.landable r rsn := by
  unfold State.landable State.grantIn State.grantOf State.foreignPeer State.pairDomain
  rw [taken_net, taken_option]

/-- A payload with one record. -/
theorem takeForwards_single {b : Bytes} (single : b.length / 32 = 1) : s.takeForwards (b.length / 32) b
    = s.takeForward (splitForward b).1 (splitForward b).2.1 (splitForward b).2.2.1 := by
  rw [single]
  exact if_neg (by omega)

theorem fwdRx_single (gets : s.gets 11 msg) (single : (dunlyBody msg).length / 32 = 1) : fwdRx lane msg s
    = (s.taken lane msg).takeForward (splitForward (dunlyBody msg)).1 (splitForward (dunlyBody msg)).2.1
      (splitForward (dunlyBody msg)).2.2.1 :=
  (dunlyRx_good gets).trans (takeForwards_single single)

end Sys2Proof.Machine
end

section
/-! PROOFS. The statement of 11_redundant_pair.md about the Dunly link and its messages (O39): the link comes up and goes
down. -/

namespace Sys2Proof.Machine

variable {s t : State} {lane : Fin 4} {msg : Bytes}

/-! ### DXL_STATE (R336, R368) -/

/-- A bit of a field is a bit of its number. -/
theorem bit_of_bits {w : Word} {hi lo i : Nat} (within : i < hi + 1 - lo) : bit w (lo + i) = (bits w hi lo).testBit i := by
  rw [bits, Nat.testBit_mod_two_pow, decide_eq_true within, Bool.true_and, Nat.testBit_shiftRight]
  rfl

theorem linkUp_of_fld {n : Nat} (state : s.fld Reg.dxlState 4 0 = n) : s.linkUp = n.testBit 0 := by
  rw [← state]
  exact bit_of_bits (i := 0) (by decide)

theorem showLock_left (lanes : BitVec 4) : (s.showLock lanes).fld Reg.dxlState 4 1 = 15 - lanes.toNat
    ∧ (s.showLock lanes).linkUp = s.linkUp ∧ (s.showLock lanes).state = s.state
    ∧ (s.fld Reg.dxlState 4 1 ≠ 15 → lanes = 0 → (s.showLock lanes).pair.lockAt = s.opNs) := by
  have reg : (s.showLock lanes).reg Reg.dxlState = (s.setFld Reg.dxlState 4 1 (15 - lanes.toNat)).reg Reg.dxlState := by
    unfold State.showLock
    dsimp only
    split <;> rfl
  refine ⟨?_, ?_, ?_, fun was full => ?_⟩
  · rw [fld_eq_of_reg reg, State.fld_setFld_self]
    exact Nat.mod_eq_of_lt (by omega)
  · unfold State.linkUp
    rw [reg, State.setFld, State.reg_setReg_self, bit_withBits_ne (by decide) (by decide)]
  · unfold State.showLock
    dsimp only
    split <;> rfl
  · unfold State.showLock
    dsimp only
    rw [if_pos ⟨was, full⟩]
    exact opNs_eq rfl rfl

/-! ### The link comes up (R336) -/

/-- The link is up and counts its frames from 0. -/
def State.linkRaised (s : State) : State :=
  let s := s.waitOp (max ((s.rst.clkAt[5]?.join).getD 0) s.pair.lockAt + 1000000)
  let s := ((s.setFld Reg.dxlState 4 0 31).raise pDXL 1).recIrq pDXL 1 .normal []
  s.modPair fun p => { p with seqOut := Vector.replicate 4 0, seqIn := Vector.replicate 4 0 }

/-- What the module state does at a link that is up (R330, R336). -/
def State.linkFound (s : State) : State :=
  match s.state with
  | .mute => s.enterJoining
  | .joining => (s.sendJoinc 1 0 s.rsn).joinPhase 1
  | .boot => s.bootNotes
  | _ => s

theorem dxlLinkUp_eq (up : s.domainUp 3 = true) (down : s.linkUp = false) (heard : 2 ≤ s.pair.goodRun)
    (clock : s.clockGood 5 = true) (lock : s.fld Reg.dxlState 4 1 = 15) : dxlLinkUp s = s.linkRaised.linkFound := by
  unfold dxlLinkUp
  rw [up, down, clock, lock, decide_eq_false (by omega)]
  rfl

theorem dxlLinkUp_stays
    (waits : s.linkUp = true ∨ s.pair.goodRun < 2 ∨ s.clockGood 5 = false ∨ s.fld Reg.dxlState 4 1 ≠ 15) :
    dxlLinkUp s = s := by
  refine if_pos ?_
  rcases waits with link | few | clock | lock
  · simp [link]
  · simp [few]
  · simp [clock]
  · simp [lock]

theorem linkRaised_state : s.linkRaised.state = s.state := by
  unfold State.linkRaised
  simp [State.recIrq]

theorem linkRaised_fld : s.linkRaised.fld Reg.dxlState 4 0 = 31 :=
  (fld_raise_ne (by decide)).trans State.fld_setFld_self

theorem linkFound_quiet : Quiet noLane s s.linkFound := by
  unfold State.linkFound
  split
  · exact (Quiet.refl ..).enterJoining
  · exact ((Quiet.refl ..).sendJoinc ..).joinPhase 1
  · exact (Quiet.refl ..).bootNotes
  · exact .refl ..

theorem linkFound_mute (mute : s.state = .mute) : s.linkFound = s.enterJoining := by
  unfold State.linkFound
  rw [mute]

theorem linkFound_leader (leads : s.state = .leader) : s.linkFound = s := by
  unfold State.linkFound
  rw [leads]

/-! ### The link goes down (R336, R357 to R359) -/

/-- Nothing waits for the partner any more. -/
structure Unlinked (p : Pair) : Prop where
  castle : p.castle = none
  check : p.check = none
  xfer : p.xfer = none
  request : p.reqId = []
  heard : p.goodRun = 0

theorem unlinked_of_settled {p q : Pair} (same : q.settled = p.settled) (h : Unlinked p) : Unlinked q where
  castle := (congrArg Pair.castle same).trans h.castle
  check := (congrArg Pair.check same).trans h.check
  xfer := (congrArg Pair.xfer same).trans h.xfer
  request := (congrArg Pair.reqId same).trans h.request
  heard := (congrArg Pair.goodRun same).trans h.heard

theorem unlinked_of_view (same : t.pairView = s.pairView) (h : Unlinked s.pair) : Unlinked t.pair :=
  unlinked_of_settled (congrArg PairView.pair same) h

theorem toState_unlinked (st : ModState) (h : Unlinked s.pair) : Unlinked (s.toState st).pair := by
  obtain ⟨l, j, x, r, pair, noXfer, noRequest⟩ := toState_pair (s := s) (st := st)
  exact {
    castle := (congrArg Pair.castle pair).trans h.castle
    check := (congrArg Pair.check pair).trans h.check
    xfer := (congrArg Pair.xfer pair).trans (noXfer h.xfer)
    request := (congrArg Pair.reqId pair).trans (noRequest h.request)
    heard := (congrArg Pair.goodRun pair).trans h.heard }

theorem abandonJoin_pair (reason : Nat) : (s.abandonJoin reason).pair = s.pair := by
  simp [State.abandonJoin, State.joinPhase, State.recErr]

theorem linkLost_unlinked (h : Unlinked s.pair) : Unlinked s.linkLost.pair := by
  unfold State.linkLost
  split
  · split
    · exact toState_unlinked _ h
    · exact h
  · split
    · exact unlinked_of_view joinToBoot_view (toState_unlinked .boot h)
    · split
      · rw [abandonJoin_pair]
        exact h
      · exact { h with }
  · exact h
  · exact unlinked_of_view pairView_bootNotes h
  · exact h

/-- The state in which the module meets the loss of the link. -/
def State.linkCut (s : State) (lanes : BitVec 4) (health : Bool) : State :=
  let i := BitVec.ofNat 32 (lanes.toNat + b2n health * 16)
  let s := (s.showLock lanes).setFld Reg.dxlState 0 0 0
  let s := ((s.incSat Reg.dxlDowns 15 0).logErr pDXL 0x0101 i).recErr pDXL 0x0101 i .normal []
  let s := (s.raise pDXL 0).setFld Reg.ilkStat 3 3 0
  s.modPair fun p => { p with goodRun := 0, check := none, castle := none, xfer := none, reqId := [], downIn := true }

theorem dropLink_eq (lanes : BitVec 4) (health : Bool) (up : s.linkUp = true) :
    s.dropLink lanes health = (s.linkCut lanes health).linkLost := by
  unfold State.dropLink
  rw [up]
  rfl

theorem linkCut_unlinked (lanes : BitVec 4) (health : Bool) : Unlinked (s.linkCut lanes health).pair :=
  ⟨rfl, rfl, rfl, rfl, rfl⟩

theorem linkCut_keeps (lanes : BitVec 4) (health : Bool) : (s.linkCut lanes health).state = s.state
    ∧ (s.linkCut lanes health).partnerLive = s.partnerLive
    ∧ (s.linkCut lanes health).reg Reg.pairJoin = s.reg Reg.pairJoin := by
  unfold State.linkCut
  extract_lets i u v w
  have logged : (v.raise pDXL 0).pairView = u.pairView := by
    rw [pairView_raise]
    unfold v
    rw [pairView_recErr, pairView_logErr, State.incSat, pairView_setFld (by decide)]
  obtain ⟨-, -, state, -⟩ := showLock_left (s := s) lanes
  obtain ⟨-, reg⟩ := showLock_keeps (s := s) lanes
  have kept {k : Nat} (key : k ∈ pairKeys) (ne : k ≠ Reg.dxlState) : (v.raise pDXL 0).reg k = s.reg k := by
    rw [reg_of_view logged key, State.reg_setFld_ne ne, reg k ne]
  refine ⟨(state_of_view logged).trans state, ?_, ?_⟩
  · unfold State.partnerLive w
    rw [State.modPair_reg, State.setFld, State.reg_setReg_self, bit_withBits_ne (by decide) (by decide),
      kept (by decide) (by decide)]
  · rw [State.modPair_reg, State.reg_setFld_ne (by decide), kept (by decide) (by decide)]

theorem linkLost_follower (follows : s.state = .follower) :
    s.linkLost.state = if s.partnerLive then .mute else .follower := by
  unfold State.linkLost
  rw [follows]
  dsimp only
  split
  · exact toState_state
  · exact follows

theorem linkLost_leader (leads : s.state = .leader) : s.linkLost.state = .leader := by
  unfold State.linkLost
  rw [leads]
  exact leads

/-- A joiner whose transfer is complete begins again (R359). -/
theorem linkLost_joined (joins : s.state = .joining) (complete : s.fld Reg.pairJoin 2 0 = 6) :
    s.linkLost = (s.modPair fun p => { p with joinDone := false }).joinPhase 0 := by
  unfold State.linkLost
  rw [joins, complete]
  rfl

/-- What the loss of the link leaves (R336, R357 to R359). -/
structure LinkLost (s t : State) : Prop where
  down : t.linkUp = false
  unlinked : Unlinked t.pair
  follower : s.state = .follower → t.state = if s.partnerLive then .mute else .follower
  leader : s.state = .leader → t.state = .leader
  joined : s.state = .joining → s.fld Reg.pairJoin 2 0 = 6 →
    t.state = .joining ∧ t.pair.joinDone = false ∧ t.fld Reg.pairJoin 2 0 = 0

theorem dropLink_lost (lanes : BitVec 4) (health : Bool) (up : s.linkUp = true) : LinkLost s (s.dropLink lanes health) := by
  have down := dropLink_down (s := s) lanes health
  rw [dropLink_eq lanes health up] at down ⊢
  obtain ⟨state, live, join⟩ := linkCut_keeps (s := s) lanes health
  refine ⟨down, linkLost_unlinked (linkCut_unlinked lanes health), fun follows => ?_, fun leads => ?_,
    fun joins complete => ?_⟩
  · rw [linkLost_follower (state.trans follows), live]
  · exact linkLost_leader (state.trans leads)
  · rw [linkLost_joined (state.trans joins) ((fld_eq_of_reg join).trans complete)]
    exact ⟨state.trans joins, rfl, joinPhase_fld 0⟩

theorem linkLost_of_view {u : State} (same : u.pairView = s.pairView) (h : LinkLost u t) : LinkLost s t where
  down := h.down
  unlinked := h.unlinked
  follower follows := by
    rw [h.follower ((state_of_view same).trans follows), State.partnerLive, reg_of_view same (by decide)]
    rfl
  leader leads := h.leader ((state_of_view same).trans leads)
  joined joins complete := h.joined ((state_of_view same).trans joins) ((fld_of_view same (by decide) 2 0).trans complete)

theorem linkUp_of_view (same : t.pairView = s.pairView) : t.linkUp = s.linkUp :=
  congrArg (bit · 0) (reg_of_view same (by decide))

theorem dxlLinkDown_lost {lanes : BitVec 4} {health : Bool} (up : s.linkUp = true)
    (cause : health = true ∨ lanes ≠ 0 ∨ s.clockGood 5 = false) : LinkLost s (dxlLinkDown lanes health s) := by
  unfold dxlLinkDown
  rw [if_pos up]
  cases health with
  | true =>
    have silent : (s.advanceTo s.silentAt).pairView = s.pairView := pairView_advanceTo _
    exact linkLost_of_view silent (dropLink_lost lanes true ((linkUp_of_view silent).trans up))
  | false =>
    have lost : ¬ (lanes = 0 ∧ s.clockGood 5 = true) := by
      rintro ⟨lock, clock⟩
      rcases cause with health | lanes | bad
      · cases health
      · exact lanes lock
      · exact Bool.noConfusion (clock.symm.trans bad)
    rw [if_neg Bool.false_ne_true, if_neg lost]
    exact dropLink_lost lanes false up

theorem dxlLinkDown_stays {lanes : BitVec 4} (up : s.linkUp = true) (lock : lanes = 0) (clock : s.clockGood 5 = true) :
    dxlLinkDown lanes false s = s := by
  unfold dxlLinkDown
  rw [if_pos up, if_neg Bool.false_ne_true, if_pos ⟨lock, clock⟩]

theorem dxlLinkDown_down {lanes : BitVec 4} {health : Bool} (down : s.linkUp = false) (up : s.domainUp 3 = true) :
    dxlLinkDown lanes health s = s.showLock lanes := (if_neg (by rw [down]; decide)).trans (if_pos up)

/-! ### The statement -/

/-- Settles O39. -/
theorem dunly : Obligations.Dunly := by
  unfold Obligations.Dunly
  refine ⟨fun c lane msg s up bad listed => ?_, fun lane msg s gets crc aside => ?_, fun lane msg s gets => ?_,
    fun lane msg s gets follows node => ?_, fun lane msg s gets follows node => ?_, fun lane msg s gets waits => ?_,
    fun e lane msg s gets entry takes some_ => ?_, fun lane msg s gets stood live => ⟨?_, ?_⟩,
    fun lane msg s gets serves => ?_, fun tb r y lane msg s gets single act rec found lands => ?_,
    fun x lane msg s up ok listed other => ?_, fun s up down heard clock lock => ?_, fun s _ waits => ?_,
    fun m h s up cause => ?_, fun m h s up calm lock clock => ?_, fun m h s down up => ?_⟩
  · have named : c ∈ (dunlyCommands lane msg).map Prod.snd := listed
    obtain ⟨x, command, rfl⟩ := List.mem_map.mp named
    obtain ⟨f, rx⟩ := dunlyCommands_rx x command
    exact .of_meaning (rx s) (dunlyRx_bad up bad)
      ⟨dunlyBad_counted, State.raise_pair .., State.raise_state .., State.raise_mem ..⟩
  · exact .of_meaning rfl (healthMsgRx_aside gets crc aside)
      ⟨rfl, taken_state, fun new => healthKept_first (taken_partner.trans new)⟩
  · exact .of_meaning rfl (digestMsgRx_eq gets) ⟨List.getLast?_concat, taken_seqIn, taken_mem⟩
  · obtain ⟨age, granted⟩ := takeGrant_grantOf (s := s.taken lane msg) (parseGrant (dunlyBody msg))
    refine .of_meaning rfl ((grantMsgRx_eq gets follows).trans (if_neg node)) ⟨?_, taken_state⟩
    rw [granted]
    rfl
  · exact .of_meaning rfl ((grantMsgRx_eq gets follows).trans (if_pos node))
      ⟨endGrant_grantOf _, (state_of_view (pairView_endGrant _)).trans taken_state⟩
  · refine .of_meaning rfl (hostwRx_eq gets waits) ⟨?_, ?_, taken_mem⟩
    · have plant : (s.taken lane msg).pair.plant = s.pair.plant := pair_of_view Pair.plant pairView_taken
      exact (List.length_append ..).trans (by rw [plant]; rfl)
    · exact congrArg (Option.map fun w : PlantWrite => (w.eff, w.ofs)) List.getLast?_concat
  · obtain ⟨base, kept⟩ := fiolRx_kept (lane := lane) gets entry takes
    refine .of_meaning rfl kept ?_
    rw [keepLatch_head some_]
    rfl
  · exact .of_meaning rfl ((resetReqRx_eq gets).trans (if_pos ⟨stood, live⟩))
  · have asserted := assertSource_asserted (s := s.taken lane msg) (b := 5) 1 false (by decide)
    exact .of_meaning rfl ((resetReqRx_eq gets).trans (if_pos ⟨stood, live⟩)) ⟨asserted.running, asserted.source⟩
  · refine .of_meaning rfl ((resetReqRx_eq gets).trans (if_neg fun h => serves h.1)) ⟨taken_rst, ?_⟩
    rw [State.recIrq, State.event_events, List.length_append, taken_events]
    rfl
  · refine .of_meaning rfl (fwdRx_single gets single) ?_
    have place := List.find?_some found
    simp only [Bool.and_eq_true, beq_iff_eq] at place
    obtain ⟨slot, pip⟩ := place
    rw [takeForward_slots (taken_boards.symm ▸ act) rec (by rw [taken_net]; exact found) ((taken_landable ..).trans lands),
      taken_net]
    rw [← slot, ← pip] at found
    exact congrArg (Option.map SlotRun.fwd) (find_putRun (by rfl) (by rfl) (by simp) found)
  · obtain ⟨f, rx⟩ := dunlyCommands_rx x listed
    exact .of_meaning (rx s) (dunlyRx_other up ok other)
  · have shown : s.linkRaised.linkFound.fld Reg.dxlState 4 0 = 31 :=
      (fld_eq_of_reg (linkFound_quiet.reg _ (by decide))).trans linkRaised_fld
    refine .of_meaning rfl (dxlLinkUp_eq up down heard clock lock)
      ⟨shown, linkUp_of_fld shown, fun mute => ?_, fun leads => ?_⟩
    · obtain ⟨state, phase, -, -⟩ := enterJoining_rejoined (s := s.linkRaised)
      rw [linkFound_mute (linkRaised_state.trans mute)]
      exact ⟨state, phase⟩
    · rw [linkFound_leader (linkRaised_state.trans leads)]
      exact ⟨linkRaised_state.trans leads, rfl, rfl⟩
  · exact .of_meaning rfl (dxlLinkUp_stays waits)
  · obtain ⟨down, ⟨castle, check, xfer, request, heard⟩, follower, leader, joined⟩ := dxlLinkDown_lost up cause
    exact ⟨_, rfl, down, castle, check, xfer, request, heard, follower, leader, joined⟩
  · subst calm
    exact .of_meaning rfl (dxlLinkDown_stays up lock clock)
  · obtain ⟨shown, link, state, since⟩ := showLock_left (s := s) m
    exact .of_meaning rfl (dxlLinkDown_down down up) ⟨shown, link.trans down, state, since⟩

end Sys2Proof.Machine
end

section
/-! PROOFS. The statement of 11_redundant_pair.md about castling (O40). -/

namespace Sys2Proof.Machine

variable {s : State} {x : CastleRun} {lane : Fin 4} {msg : Bytes}

/-! ### Offer, take, cancel (R355, R356) -/

/-- What a Follower in SYNCED answers to an OFFER. -/
theorem castleOfferRx_taken (gets : s.gets 4 msg) (op : leAt (dunlyBody msg) 0 1 = 1) (follows : s.state = .follower)
    (synced : s.time.state = .synced) : castleOfferRx lane msg s
      = (((s.taken lane msg).setFld Reg.ilkStat 3 3 1).sendCastle 2 (BitVec.ofNat 32 (leAt (dunlyBody msg) 4 4))).modPair
        fun p => { p with castle := some ⟨BitVec.ofNat 32 (leAt (dunlyBody msg) 4 4), true⟩ } := by
  have follows' : (s.taken lane msg).state = .follower := taken_state.trans follows
  have synced' : (s.taken lane msg).time.state = .synced := (congrArg TimeBase.state taken_time).trans synced
  exact (dunlyRx_good gets).trans ((if_neg (by rw [op, follows']; decide)).trans (if_pos ⟨follows', synced'⟩))

/-- While NET is released a message of the link's own leaves the module when the link is up. -/
theorem sendCastle_sends {op : Nat} {c : Word} (up : s.domainUp 3 = true) (link : s.linkUp = true) :
    (s.sendCastle op c).out.length = s.out.length + 1 := dunlySend_sends _ _ _ up link

theorem castleTakeRx_taken (gets : s.gets 4 msg) (op : leAt (dunlyBody msg) 0 1 = 2) (leads : s.state = .leader)
    (castle : s.pair.castle = some x) (round : leAt (dunlyBody msg) 4 4 = x.c.toNat) : castleTakeRx lane msg s
      = (s.taken lane msg).modPair fun p => { p with castle := some { x with take := true } } := by
  have castle' : (s.taken lane msg).pair.castle = some x := (pair_of_view Pair.castle pairView_taken).trans castle
  refine (dunlyRx_good gets).trans ?_
  rw [castle']
  exact if_pos ⟨op, taken_state.trans leads, round⟩

theorem endCastle_armed : s.endCastle.fld Reg.ilkStat 3 3 = 0 := State.fld_setFld_self

theorem endCastle_reg {k : Nat} (ne : k ≠ Reg.ilkStat) : s.endCastle.reg k = s.reg k := State.reg_setFld_ne ne

/-! ### The deadline and the hand-off (R355, R356) -/

theorem castleDeadline_cancels (castle : s.pair.castle = some x) (leads : s.state = .leader) (open_ : x.take = false)
    (due : later (x.c - 2) s.atBoundary.rsn = false) :
    castleDeadline s = (s.atBoundary.sendCastle 3 x.c).endCastle := by
  unfold castleDeadline
  simp only [castle]
  exact if_pos ⟨leads, by rw [open_]; rfl, by rw [due]; rfl⟩

theorem castleHandOff_hands (castle : s.pair.castle = some x) (leads : s.state = .leader) (taken : x.take = true)
    (round : s.atBoundary.rsn = x.c + 1) : castleHandOff s
      = ((((s.atBoundary.incSat Reg.ilkCnt 15 8).raise pPAIR 5).endCastle).toState .follower).showLead := by
  simp [castleHandOff, castle, leads, taken, round]

theorem showLead_reg {k : Nat} (ne : k ≠ Reg.mbgStat) : s.showLead.reg k = s.reg k := State.reg_setFld_ne ne

theorem showLead_pair : s.showLead.pair = s.pair := rfl

theorem showLead_leader (leads : s.state = .leader) : bit (s.showLead.reg Reg.mbgStat) 8 = true := by
  unfold State.showLead
  rw [leads, State.modNet_reg, State.setFld, State.reg_setReg_self, bit_withBits (by decide)]
  rfl

/-- The counter of castlings once the module has changed its state. -/
theorem castled_count {u v : State} (st : ModState) (before : u.fld Reg.ilkCnt 15 8 = s.fld Reg.ilkCnt 15 8)
    (after : v.reg Reg.ilkCnt = (u.incSat Reg.ilkCnt 15 8).reg Reg.ilkCnt) :
    (v.toState st).showLead.fld Reg.ilkCnt 15 8 = min 0xFF (s.fld Reg.ilkCnt 15 8 + 1) := by
  have shown : (v.toState st).showLead.reg Reg.ilkCnt = (u.incSat Reg.ilkCnt 15 8).reg Reg.ilkCnt := by
    rw [showLead_reg (by decide), toState_reg (by decide) (by decide), after]
  rw [fld_eq_of_reg shown, ← before]
  exact fld_incSat_self (by decide) (by decide)

/-- What neither the releases nor a join request touch of the castling data. -/
theorem toState_castle (st : ModState) : (s.toState st).pair.castle = s.pair.castle :=
  toState_pair_keeps (g := Pair.castle) (fun _ => rfl) fun _ _ _ _ _ => rfl

theorem toState_pulseRsn (st : ModState) : (s.toState st).pair.pulseRsn = s.pair.pulseRsn :=
  toState_pair_keeps (g := Pair.pulseRsn) (fun _ => rfl) fun _ _ _ _ _ => rfl

/-! ### The Follower takes the lead (R356) -/

/-- The latch enables the driver, and the round C + 1 comes. -/
def State.castleDriven (u : State) : State :=
  let t := (u.endCastle.driveLine.atBoundary.incSat Reg.ilkCnt 15 8).raise pPAIR 5
  t.modPair fun p => { p with pulseRsn := some u.endCastle.driveLine.atBoundary.rsn }

theorem castleTakeLead_takes {u : State} (castle : s.pair.castle = some x) (follows : s.state = .follower)
    (armed : bit (s.reg Reg.ilkStat) 3 = true) (dead : s.partnerLive = false)
    (wait : u = if s.rsn = x.c ∧ s.pipInRound < 4000 then s.toPip 4000 else s)
    (round : u.endCastle.driveLine.atBoundary.rsn = x.c + 1) :
    castleTakeLead s = (u.castleDriven.toState .leader).showLead := by
  subst wait
  unfold castleTakeLead
  simp only [castle]
  refine (if_pos ⟨follows, armed, by rw [dead]; rfl, round⟩).trans ?_
  unfold State.castleDriven
  have rsn (t : State) : (((t.incSat Reg.ilkCnt 15 8).raise pPAIR 5).rsn = t.rsn) := by
    unfold State.rsn State.now
    rw [State.raise_time, State.incSat_time]
  dsimp only
  rw [rsn]

theorem castleDriven_state {u : State} : u.castleDriven.state = u.state := by
  unfold State.castleDriven
  rw [State.modPair_state, State.raise_state, State.incSat_state, atBoundary_state, driveLine_state]
  rfl

theorem castleDriven_castle {u : State} : u.castleDriven.pair.castle = none := by
  have raised (t : State) : ((t.incSat Reg.ilkCnt 15 8).raise pPAIR 5).pair = t.pair := State.raise_pair ..
  show ((u.endCastle.driveLine.atBoundary.incSat Reg.ilkCnt 15 8).raise pPAIR 5).pair.castle = none
  rw [raised, atBoundary_keeps (g := State.pair) State.advanceTo_pair, driveLine_pair]
  rfl

theorem castleDriven_drive {u : State} : bit (u.castleDriven.reg Reg.ilkStat) 0 = true := by
  unfold State.castleDriven
  rw [State.modPair_reg, State.reg_raise_ne (by decide), State.incSat, State.reg_setFld_ne (by decide),
    atBoundary_reg_ne (by decide), driveLine_drive]

theorem castleDriven_count {u : State} : u.endCastle.driveLine.atBoundary.reg Reg.ilkCnt = u.reg Reg.ilkCnt := by
  rw [atBoundary_reg_ne (by decide), driveLine_reg (by decide) (by decide), endCastle_reg (by decide)]

/-- What the Follower that takes the lead shows. -/
theorem castleDriven_leads {u : State} (same : u.pairView = s.pairView) (follows : s.state = .follower) :
    (u.castleDriven.toState .leader).showLead.state = .leader
      ∧ (u.castleDriven.toState .leader).showLead.pair.castle = none
      ∧ bit ((u.castleDriven.toState .leader).showLead.reg Reg.ilkStat) 0 = true
      ∧ bit ((u.castleDriven.toState .leader).showLead.reg Reg.mbgStat) 8 = true
      ∧ (u.castleDriven.toState .leader).showLead.fld Reg.ilkCnt 15 8 = min 0xFF (s.fld Reg.ilkCnt 15 8 + 1)
      ∧ (u.castleDriven.toState .leader).showLead.pair.pulseRsn = some u.endCastle.driveLine.atBoundary.rsn := by
  have state : u.castleDriven.state = .follower := castleDriven_state.trans ((state_of_view same).trans follows)
  have line : (u.castleDriven.toState .leader).reg Reg.ilkStat = u.castleDriven.reg Reg.ilkStat :=
    toState_line (by rw [state]; decide) (by decide)
  refine ⟨toState_state, ?_, ?_, showLead_leader toState_state, ?_, ?_⟩
  · rw [showLead_pair, toState_castle, castleDriven_castle]
  · rw [showLead_reg (by decide), line, castleDriven_drive]
  · exact castled_count .leader ((fld_eq_of_reg castleDriven_count).trans (fld_of_view same (by decide) 15 8))
      (State.reg_raise_ne (by decide))
  · rw [showLead_pair, toState_pulseRsn]
    rfl

/-! ### The statement -/

/-- Settles O40. -/
theorem castling : Obligations.Castling := by
  unfold Obligations.Castling
  refine ⟨fun lane msg s gets op follows synced => ?_, fun x lane msg s gets op leads castle round => ?_,
    fun lane msg s gets op => ?_, fun x s castle leads open_ due => ?_, fun x s castle leads taken round => ?_,
    fun x u s castle follows armed dead wait round => ?_⟩
  · refine .of_meaning rfl (castleOfferRx_taken gets op follows synced) ⟨rfl, ?_, fun link => ?_⟩
    · exact (fld_of_view (pairView_sendCastle ..) (by decide) 3 3).trans State.fld_setFld_self
    · obtain ⟨up, -, -⟩ := gets
      have kept {k : Nat} (key : k ∈ pairKeys) (ne : k ≠ Reg.ilkStat) :
          ((s.taken lane msg).setFld Reg.ilkStat 3 3 1).reg k = s.reg k := by
        rw [State.reg_setFld_ne ne, reg_of_view pairView_taken key]
      have sent := sendCastle_sends (s := (s.taken lane msg).setFld Reg.ilkStat 3 3 1) (op := 2)
        (c := BitVec.ofNat 32 (leAt (dunlyBody msg) 4 4)) ((domainUp_of_reg (kept (by decide) (by decide)) 3).trans up)
        ((congrArg (bit · 0) (kept (by decide) (by decide))).trans link)
      rw [State.setFld_out, taken_out] at sent
      exact sent
  · exact .of_meaning rfl (castleTakeRx_taken gets op leads castle round) rfl
  · exact .of_meaning rfl ((dunlyRx_good gets).trans (if_pos op)) ⟨rfl, endCastle_armed⟩
  · exact .of_meaning rfl (castleDeadline_cancels castle leads open_ due)
      ⟨rfl, (state_of_view (pairView_sendCastle ..)).trans (atBoundary_state.trans leads)⟩
  · have leads' : ((s.atBoundary.incSat Reg.ilkCnt 15 8).raise pPAIR 5).endCastle.state = .leader :=
      (State.raise_state ..).trans (atBoundary_state.trans leads)
    refine .of_meaning rfl (castleHandOff_hands castle leads taken round) ⟨toState_state, toState_castle _, ?_, ?_⟩
    · rw [showLead_reg (by decide)]
      exact toState_released leads' (by decide)
    · exact castled_count .follower (fld_of_view pairView_atBoundary (by decide) 15 8)
        ((endCastle_reg (by decide)).trans (State.reg_raise_ne (by decide)))
  · have same : u.pairView = s.pairView := wait ▸ pairView_ite (pairView_toPip _) rfl
    obtain ⟨state, ended, line, shown, count, pulse⟩ := castleDriven_leads same follows
    exact .of_meaning rfl (castleTakeLead_takes castle follows armed dead wait round)
      ⟨state, ended, line, shown, count, pulse.trans (congrArg some round)⟩

end Sys2Proof.Machine
end

section
/-! PROOFS. The statement of 11_redundant_pair.md about digests, the pair check and plant writes (O41). -/

namespace Sys2Proof.Machine

variable {s : State} {c : CheckRun} {lane : Fin 4} {msg : Bytes} {k : Nat} {p : Bool}

/-! ### Digests (R348) -/

/-- The digests of a period leave the module as they are compared. -/
def State.digestTaken (s : State) (e : Entry) (rsn : Word) : State :=
  (s.toPip ((e.start + 8) % 5000)).modPair fun p => { p with
    digOwn := p.digOwn.filter (fun d => d.task != e.task.val)
    digPart := p.digPart.filter (fun d => !(d.task == e.task.val && d.rsn == rsn)) }

/-- What a comparison of the own digest with the partner's, if there is one, brings about. -/
def State.digestJudged (s : State) (task : Fin 16) (own : BitVec 64) (part : Option DigRec) : State :=
  match part with
  | none => s.incSat Reg.pairDigCnt 31 28
  | some d => if d.dig = own then s.incWrap Reg.pairDigCnt 15 0 else s.digestsDiffer task.val s.pair.digStart[task]

theorem digestTaken_pair (e : Entry) (rsn : Word) : (s.digestTaken e rsn).pair.check = s.pair.check
    ∧ (s.digestTaken e rsn).pair.partner = s.pair.partner := by
  unfold State.digestTaken State.modPair
  simp

theorem digestTaken_fld (e : Entry) (rsn : Word) {key hi lo : Nat} (other : key ≠ Reg.pgIrq pTIM) :
    (s.digestTaken e rsn).fld key hi lo = s.fld key hi lo := by
  rw [State.digestTaken, State.modPair_fld, fld_toPip _ other]

theorem digestTaken_compares (e : Entry) (rsn : Word) (both : s.coExecuting = true) (link : s.linkUp = true) :
    (!(s.digestTaken e rsn).coExecuting || !((s.digestTaken e rsn).linkUp || (s.digestTaken e rsn).pair.downIn)) = false := by
  obtain ⟨-, partner⟩ := digestTaken_pair (s := s) e rsn
  have state : (s.digestTaken e rsn).state = s.state := by
    rw [State.digestTaken, State.modPair_state, State.toPip_state]
  have both' : (s.digestTaken e rsn).coExecuting = true := by
    unfold State.coExecuting State.partnerState
    rw [state, partner]
    exact both
  have link' : (s.digestTaken e rsn).linkUp = true := by
    rw [State.linkUp, State.digestTaken, State.modPair_reg, State.toPip_reg_ne _ _ (by decide)]
    exact link
  rw [both', link']
  rfl

theorem digestCompare_eq {i : Nat} {e : Entry} {own : DigRec} (entry : (s.track .f)[i]? = some e)
    (found : s.pair.digOwn.find? (fun d => d.task == e.task.val
      && d.rsn == (if 5000 ≤ e.start + 8 then s.roundRsn - 1 else s.roundRsn)) = some own)
    (both : s.coExecuting = true) (link : s.linkUp = true) : digestCompare i s = (s.digestTaken e own.rsn).digestJudged
      e.task own.dig (s.pair.digPart.find? fun d => d.task == e.task.val && d.rsn == own.rsn) := by
  unfold digestCompare
  simp only [entry, decide_eq_true_eq, found]
  refine (if_neg (Bool.not_eq_true _ ▸ digestTaken_compares e own.rsn both link)).trans ?_
  rw [State.toPip_pair]
  unfold State.digestJudged State.digestTaken
  rfl

theorem digestJudged_missing {task : Fin 16} {own : BitVec 64} :
    s.digestJudged task own none = s.incSat Reg.pairDigCnt 31 28 := rfl

theorem digestJudged_agreed {task : Fin 16} {own : BitVec 64} {d : DigRec} (same : d.dig = own) :
    s.digestJudged task own (some d) = s.incWrap Reg.pairDigCnt 15 0 := if_pos same

theorem digestJudged_differs {task : Fin 16} {own : BitVec 64} {d : DigRec} (differ : d.dig ≠ own) :
    s.digestJudged task own (some d) = s.digestsDiffer task.val s.pair.digStart[task] := if_neg differ

theorem incWrap_fld {key hi lo : Nat} (h : lo ≤ hi) (hh : hi < 32) :
    (s.incWrap key hi lo).fld key hi lo = (s.fld key hi lo + 1) % 2 ^ (hi + 1 - lo) :=
  (State.fld_setFld_self h hh).trans (Nat.mod_mod ..)

/-- A pair check that starts (R349). -/
theorem startCheck_left (since : Nat) : (s.startCheck since).pair.check.isSome = true
    ∧ ∀ key ∈ pairKeys, (s.startCheck since).reg key = s.reg key := by
  have lanes : (over16 (fun s n => if s.lanes[n].state = .running then s.modLane n (fun l => { l with rolls := 7 }) else s)
      s).pairView = s.pairView := pairView_over16 fun _ n => pairView_ite (pairView_modLane ..) rfl
  refine ⟨rfl, fun key listed => ?_⟩
  unfold State.startCheck
  rw [State.modPair_reg, reg_of_view lanes listed]

/-- Digests that differ are counted, and a check runs (R348, R349). -/
theorem digestsDiffer_left (task since : Nat) :
    (s.digestsDiffer task since).fld Reg.pairDigCnt 23 16 = min 0xFF (s.fld Reg.pairDigCnt 23 16 + 1)
      ∧ (s.digestsDiffer task since).pair.check.isSome = true := by
  unfold State.digestsDiffer
  extract_lets i v w
  have view : w.pairView = (s.incSat Reg.pairDigCnt 23 16).pairView := by
    unfold w v
    rw [pairView_recErr, pairView_logErr, pairView_raise, pairView_setReg _ (by decide)]
  have counted : w.fld Reg.pairDigCnt 23 16 = min 0xFF (s.fld Reg.pairDigCnt 23 16 + 1) := by
    rw [fld_of_view view (by decide)]
    exact fld_incSat_self (by decide) (by decide)
  split
  · obtain ⟨runs, reg⟩ := startCheck_left (s := w) since
    exact ⟨(fld_eq_of_reg (reg _ (by decide))).trans counted, runs⟩
  · next runs => exact ⟨counted, Option.isSome_iff_ne_none.mpr (by simpa using runs)⟩

/-! ### The pair check (R349) -/

/-- The result of the own check as it is shown, recorded and sent. -/
def State.checkShown (s : State) (c : CheckRun) (engine : Bool) : State :=
  let r := s.checkResult c engine
  let i := BitVec.ofNat 32 r
  let t := (s.setFld Reg.pairState 9 8 (if r = 0 then 1 else 2)).raise pPAIR 2
  let t := if r = 0 then t else (t.logErr pPAIR 0x0102 i).recErr pPAIR 0x0102 i .normal []
  let t := t.sendCheck (if r = 0 then 1 else 2) r c.start
  t.modPair fun p => { p with check := some { c with own := some r } }

theorem pairCheckEnd_eq {engine : Bool} (check : s.pair.check = some c) (own : c.own = none)
    (ended : (List.finRange 16).all (fun n => s.atBoundary.lanes[n].rolls == 0) = true
      ∨ 1280 ≤ (s.atBoundary.rsn - c.start).toInt) :
    pairCheckEnd engine s = (s.atBoundary.checkShown c engine).checkOutcome := by
  have ends : ¬ (c.own.isSome || !((List.finRange 16).all (fun n => s.atBoundary.lanes[n].rolls == 0)
      || decide (1280 ≤ (s.atBoundary.rsn - c.start).toInt))) = true := by
    rw [own]
    rcases ended with rolled | late
    · rw [rolled]
      exact Bool.false_ne_true
    · rw [decide_eq_true late, Bool.or_true]
      exact Bool.false_ne_true
  unfold pairCheckEnd
  simp only [check]
  exact if_neg ends

theorem checkShown_left (engine : Bool) : (s.checkShown c engine).state = s.state
    ∧ (s.checkShown c engine).fld Reg.pairState 9 8 = (if s.checkResult c engine = 0 then 1 else 2)
    ∧ (s.checkShown c engine).fld Reg.pairDigCnt 27 24 = s.fld Reg.pairDigCnt 27 24
    ∧ (s.checkShown c engine).pair.check = some { c with own := some (s.checkResult c engine) } := by
  unfold State.checkShown
  extract_lets r i v w x
  have view : x.pairView = (s.setFld Reg.pairState 9 8 (if r = 0 then 1 else 2)).pairView := by
    have logged : w.pairView = v.pairView := pairView_ite rfl ((pairView_recErr ..).trans (pairView_logErr ..))
    exact (pairView_sendCheck ..).trans (logged.trans (pairView_raise ..))
  refine ⟨(state_of_view view).trans rfl, ?_, ?_, rfl⟩
  · rw [State.modPair_fld, fld_of_view view (by decide), State.fld_setFld_self]
    split <;> rfl
  · rw [State.modPair_fld, fld_of_view view (by decide), State.fld_setFld_ne (by decide)]

/-- What the two results of a check decide, for a module in state `st` with a count of `n` agreed checks. -/
structure CheckJudged (k : Nat) (p : Bool) (st : ModState) (n : Nat) (t : State) : Prop where
  check : t.pair.check = none
  state : t.state = if k = 0 ∧ st = .follower then (if p = true then .joining else .follower) else if k = 0 then st
    else if st = .follower ∨ (st = .leader ∧ p = true) then .stoodDown else st
  count : k = 0 → p = true → st = .leader ∨ st = .follower → t.fld Reg.pairDigCnt 27 24 = min 0xF (n + 1)
  cause : t.state = .stoodDown → st ≠ .stoodDown → t.reg Reg.hltSd = 21

/-- What the two results lead to (R349). -/
def State.checkVerdict (v : State) (k : Nat) (p : Bool) : State :=
  match v.state, k == 0, p with
  | .leader, true, true => v.incSat Reg.pairDigCnt 27 24
  | .follower, true, true => (v.incSat Reg.pairDigCnt 27 24).enterJoining
  | .leader, false, true => v.standDown 5
  | .follower, false, _ => v.standDown 5
  | .leader, false, false => v.recErr pPAIR 0x0102 (BitVec.ofNat 32 k) .critical []
  | _, _, _ => v

theorem checkOutcome_eq {a : Word} {b : Nat} (check : s.pair.check = some ⟨a, b, some k, some p⟩) :
    s.checkOutcome = (s.modPair fun p => { p with check := none }).checkVerdict k p := by
  unfold State.checkOutcome
  rw [check]
  rfl

theorem checkOutcome_waits (check : s.pair.check = some c) (waits : c.own = none ∨ c.partner = none) :
    s.checkOutcome = s := by
  unfold State.checkOutcome
  split
  · next known =>
    rw [check] at known
    obtain rfl := Option.some_inj.mp known
    simp at waits
  · rfl

theorem checkJudged_standDown {v : State} (failed : k ≠ 0)
    (decides : v.state = .follower ∨ (v.state = .leader ∧ p = true)) (n : Nat) :
    CheckJudged k p v.state n (v.standDown 5) := by
  have down := standDown_stoodDown (s := v) 5
  exact {
    check := down.check
    state := by rw [down.state, if_neg (fun h => failed h.1), if_neg failed, if_pos decides]
    count := fun passed => absurd passed failed
    cause := fun _ _ => down.shown }

theorem checkVerdict_judged {v : State} (check : v.pair.check = none) :
    CheckJudged k p v.state (v.fld Reg.pairDigCnt 27 24) (v.checkVerdict k p) := by
  have counted : (v.incSat Reg.pairDigCnt 27 24).fld Reg.pairDigCnt 27 24 = min 0xF (v.fld Reg.pairDigCnt 27 24 + 1) :=
    fld_incSat_self (by decide) (by decide)
  unfold State.checkVerdict
  split
  · next leads passed =>
    obtain rfl : k = 0 := by simpa using passed
    exact ⟨check, by simp [leads], fun _ _ _ => counted, fun down other => absurd down other⟩
  · next follows passed =>
    obtain rfl : k = 0 := by simpa using passed
    have joins := enterJoining_rejoined (s := v.incSat Reg.pairDigCnt 27 24)
    refine ⟨joins.check, by simp [joins.state, follows], fun _ _ _ => ?_, fun down _ => ?_⟩
    · rw [fld_eq_of_reg (joins.reg _ (by decide) (by decide) (by decide)), counted]
    · rw [joins.state] at down
      cases down
  · next leads failed =>
    exact checkJudged_standDown (by simpa using failed) (.inr ⟨leads, rfl⟩) _
  · next follows failed =>
    exact checkJudged_standDown (by simpa using failed) (.inl follows) _
  · next leads failed =>
    have failed' : k ≠ 0 := by simpa using failed
    have state : (v.recErr pPAIR 0x0102 (BitVec.ofNat 32 k) .critical []).state = .leader := leads
    exact ⟨check, by simp [leads, failed', state], fun passed => absurd passed failed', fun down other => absurd down other⟩
  · next stays joinsNot agreesNot yieldsNot goesNot =>
    clear counted
    refine ⟨check, ?_, fun passed agreed serves => ?_, fun down other => absurd down other⟩
    · by_cases passed : k = 0 <;> simp_all
    · rcases serves with leads | follows <;> simp_all

theorem checkOutcome_judged {a : Word} {b : Nat} (check : s.pair.check = some ⟨a, b, some k, some p⟩) :
    CheckJudged k p s.state (s.fld Reg.pairDigCnt 27 24) s.checkOutcome := by
  rw [checkOutcome_eq check]
  exact checkVerdict_judged (v := s.modPair fun p => { p with check := none }) rfl

/-! ### Plant writes (R346, R473) -/

theorem pairView_sendUnit (space ofs : Nat) (mirror : Bool) (body : Bytes) :
    (s.sendUnit space ofs mirror body).pairView = s.pairView := pairView_dunlySend ..

theorem closingOverrun_plant (x : XferRun) : (s.closingOverrun x).pair.plant = s.pair.plant :=
  pair_of_view Pair.plant (pairView_sendJoinc 6 2 s.rsn)

theorem touchUnit_plant (space unit ofs n : Nat) : (s.touchUnit space unit ofs n).pair.plant = s.pair.plant := by
  unfold State.touchUnit
  split
  · rfl
  · extract_lets _ body y v d
    have sent : v.pair.plant = s.pair.plant := pair_of_view Pair.plant (pairView_sendUnit ..)
    split
    · split
      · exact (closingOverrun_plant y).trans sent
      · exact sent
    · rfl

theorem touchStore_plant (ofs n : Nat) : (s.touchStore ofs n).pair.plant = s.pair.plant := by
  unfold State.touchStore
  split
  · rfl
  · exact foldl_keeps (fun s => s.pair.plant) (fun _ _ => touchUnit_plant ..) _ _

theorem migrateLine_pair (n : Nat) : (s.migrateLine n).pair = s.pair := by
  unfold State.migrateLine
  split
  · rfl
  · split
    · dsimp only
      rw [State.writeMem_pair]
    · rfl

theorem migrateRange_pair (a n : Nat) : (s.migrateRange a n).pair = s.pair := by
  unfold State.migrateRange
  split
  · rfl
  · split
    · exact foldl_keeps State.pair (fun _ _ => migrateLine_pair _) _ _
    · rfl

theorem mirrorLine_pair (n : Nat) : (s.mirrorLine n).pair = s.pair := by
  unfold State.mirrorLine
  split
  · dsimp only
    rw [State.writeMem_pair]
  · rfl

theorem storeWrite_plant (ofs : Nat) (l : Bytes) : (s.storeWrite ofs l).pair.plant = s.pair.plant := by
  unfold State.storeWrite
  extract_lets v w
  have written : w.pair.plant = s.pair.plant := by
    unfold w
    rw [touchStore_plant, State.writeMem_pair, migrateRange_pair]
  split
  · exact written
  · exact (foldl_keeps (fun s => s.pair.plant) (fun _ _ => congrArg Pair.plant (mirrorLine_pair _)) _ _).trans written

theorem atBoundary_pair : s.atBoundary.pair = s.pair := atBoundary_keeps (g := State.pair) State.advanceTo_pair

/-- The boundary with the writes that are due taken out of the queue. -/
def State.plantTaken (s : State) : State :=
  s.atBoundary.modPair fun p => { p with plant := p.plant.filter (fun w => later w.eff s.atBoundary.rsn) }

theorem plantWriteApply_eq (due : s.pair.plant.any (fun w => !later w.eff s.atBoundary.rsn) = true) :
    plantWriteApply s = if s.state = .leader ∨ s.state = .follower
      then (s.pair.plant.filter (fun w => !later w.eff s.atBoundary.rsn)).foldl
        (fun t w => t.storeWrite w.ofs ((w.words.map wordBytes).flatten)) s.plantTaken
      else s.plantTaken := by
  have some_ : s.pair.plant.filter (fun w => !later w.eff s.atBoundary.rsn) ≠ [] := by
    obtain ⟨w, listed, now⟩ := List.any_eq_true.mp due
    exact List.ne_nil_of_mem (List.mem_filter.mpr ⟨listed, now⟩)
  have state : s.plantTaken.state = s.state := atBoundary_state
  unfold plantWriteApply
  refine (if_neg some_).trans (if_congr ?_ rfl rfl)
  exact state ▸ Iff.rfl

theorem plantTaken_plant : s.plantTaken.pair.plant = s.pair.plant.filter (fun w => later w.eff s.atBoundary.rsn) := by
  show s.atBoundary.pair.plant.filter _ = _
  rw [atBoundary_pair]

theorem plantTaken_all (all : s.pair.plant.filter (fun w => later w.eff s.atBoundary.rsn) = []) :
    s.plantTaken = s.atBoundary.modPair fun p => { p with plant := [] } := by
  unfold State.plantTaken State.modPair
  dsimp only
  rw [atBoundary_pair, all]

theorem any_since_of_all_before {l : List Nat} {since : Nat} (clean : l.all (fun r => decide (r < since)) = true) :
    l.any (fun r => decide (since ≤ r)) = false := by
  simpa using clean

/-! ### The statement -/

theorem checkMsgRx_eq (gets : s.gets 8 msg) (check : s.pair.check = some c)
    (start : leAt (dunlyBody msg) 4 4 = c.start.toNat) : checkMsgRx lane msg s
      = ((s.taken lane msg).modPair fun p =>
          { p with check := some { c with partner := some (leAt (dunlyBody msg) 0 1 == 1) } }).checkOutcome := by
  have check' : (s.taken lane msg).pair.check = some c := (pair_of_view Pair.check pairView_taken).trans check
  refine (dunlyRx_good gets).trans ?_
  rw [check']
  exact if_neg (not_not.mpr start)

/-- Settles O41. -/
theorem pairChecks : Obligations.PairChecks := by
  unfold Obligations.PairChecks
  refine ⟨fun i e own d s entry found part both link same => ?_, fun i e own d s entry found part both link differ => ?_,
    fun i e own s entry found part both link => ?_, fun c g u s check own partner boundary ended => ?_,
    fun c lane msg s gets check own start => ?_, fun c g p u s check own partner boundary ended => ?_,
    fun c k p lane msg s gets check own start agreed => ?_, fun s due => ?_, fun w s queue now serves => ?_, fun c g s => ?_⟩
  · refine .of_meaning rfl (digestCompare_eq entry found both link) ?_
    rw [part, digestJudged_agreed same]
    refine ⟨?_, ?_⟩
    · rw [incWrap_fld (by decide) (by decide), digestTaken_fld e own.rsn (by decide)]
      norm_num
    · rw [State.incWrap_pair, (digestTaken_pair e own.rsn).1]
  · refine .of_meaning rfl (digestCompare_eq entry found both link) ?_
    rw [part, digestJudged_differs differ]
    obtain ⟨count, runs⟩ := digestsDiffer_left (s := s.digestTaken e own.rsn) e.task.val
      (s.digestTaken e own.rsn).pair.digStart[e.task]
    rw [digestTaken_fld e own.rsn (by decide)] at count
    exact ⟨count, runs⟩
  · refine .of_meaning rfl (digestCompare_eq entry found both link) ?_
    rw [part, digestJudged_missing]
    refine ⟨?_, ?_⟩
    · rw [fld_incSat_self (by decide) (by decide), digestTaken_fld e own.rsn (by decide)]
      norm_num
    · rw [State.incSat_pair, (digestTaken_pair e own.rsn).1]
  · subst boundary
    obtain ⟨-, shown, -, run⟩ := checkShown_left (s := s.atBoundary) (c := c) g
    refine .of_meaning rfl ((pairCheckEnd_eq check own ended).trans (checkOutcome_waits run (.inr partner))) ⟨run, shown⟩
  · refine .of_meaning rfl ((checkMsgRx_eq gets check start).trans (checkOutcome_waits rfl (.inl own))) ⟨rfl, taken_state⟩
  · subst boundary
    obtain ⟨state, -, count, run⟩ := checkShown_left (s := s.atBoundary) (c := c) g
    rw [partner] at run
    have judged := checkOutcome_judged run
    rw [state, count, atBoundary_state, fld_of_view pairView_atBoundary (by decide)] at judged
    exact .of_meaning rfl (pairCheckEnd_eq check own ended) ⟨judged.check, judged.state, judged.count, judged.cause⟩
  · subst agreed
    have judged := checkOutcome_judged (s := (s.taken lane msg).modPair fun p =>
      { p with check := some { c with partner := some (leAt (dunlyBody msg) 0 1 == 1) } }) (k := k)
      (p := leAt (dunlyBody msg) 0 1 == 1) (a := c.start) (b := c.since) (by rw [← own]; rfl)
    rw [State.modPair_state, taken_state, State.modPair_fld, fld_of_view pairView_taken (by decide)] at judged
    exact .of_meaning rfl (checkMsgRx_eq gets check start) ⟨judged.check, judged.state, judged.count, judged.cause⟩
  · refine .of_meaning rfl (plantWriteApply_eq due) ⟨?_, fun boot => ?_⟩
    · rw [← plantTaken_plant]
      split
      · exact foldl_keeps (fun s => s.pair.plant) (fun _ _ => storeWrite_plant ..) _ _
      · rfl
    · rw [if_neg (by rw [boot]; decide)]
      exact atBoundary_keeps (g := State.mem) State.advanceTo_mem
  · have due := (plantWriteApply_eq (s := s) (by simp [queue, now])).trans (if_pos serves)
    rw [plantTaken_all (by simp [queue, now]), queue, List.filter_cons_of_pos (by rw [now]; rfl)] at due
    exact .of_meaning rfl due
  · unfold State.checkResult
    refine ⟨fun torn => ?_, fun intact engine => ?_, fun intact engine fault => ?_, fun intact engine clean => ?_⟩
    · rw [torn]
      rfl
    · rw [intact, engine]
      rfl
    · rw [intact, engine, fault]
      rfl
    · rw [intact, engine, any_since_of_all_before clean]
      rfl

end Sys2Proof.Machine
end

section
/-! PROOFS. The statement of 11_redundant_pair.md about joining (O42). -/

namespace Sys2Proof.Machine

variable {s t : State} {x : XferRun} {lane : Fin 4} {msg : Bytes} {op k : Nat} {f : State → Nat → State}

/-! ### PAIR_JOIN (R360) -/

theorem joinReason_left (phase reason : Nat) : (s.joinReason phase reason).fld Reg.pairJoin 2 0 = phase % 8
    ∧ (s.joinReason phase reason).fld Reg.pairJoin 23 16 = reason % 256 :=
  ⟨(State.fld_setFld_disjoint (.inr (by decide)) (by decide)).trans (joinPhase_fld phase), State.fld_setFld_self⟩

/-- A phase 4 whose first pass begins. -/
theorem firstPass_left : ((s.joinPhase 4).setFld Reg.pairJoin 15 8 1).fld Reg.pairJoin 2 0 = 4
    ∧ ((s.joinPhase 4).setFld Reg.pairJoin 15 8 1).fld Reg.pairJoin 15 8 = 1 :=
  ⟨(State.fld_setFld_disjoint (.inr (by decide)) (by decide)).trans (joinPhase_fld 4), State.fld_setFld_self⟩

/-- Another phase leaves the reason. -/
theorem joinPhase_reason (phase : Nat) : (s.joinPhase phase).fld Reg.pairJoin 23 16 = s.fld Reg.pairJoin 23 16 :=
  State.fld_setFld_disjoint (.inl (by decide)) (by decide)

/-! ### The leader answers a request (R360) -/

theorem answerJoin_waits (waits : s.joinWait ≠ 0) :
    s.answerJoin = (s.sendJoinc 2 s.joinWait s.rsn).joinReason 2 s.joinWait := if_pos waits

/-- The request that a leader answers is no longer held. -/
def State.joinAnswered (s : State) : State := s.modPair fun p => { p with reqId := [] }

theorem answerJoin_refuses (free : s.joinWait = 0) (other : s.pair.reqId ≠ s.activeId) :
    s.answerJoin = (s.joinAnswered.sendJoinc 6 1 s.rsn).joinReason 3 1 :=
  (if_neg (not_not.mpr free)).trans (if_pos other)

theorem answerJoin_starts (free : s.joinWait = 0) (same : s.pair.reqId = s.activeId) :
    s.answerJoin = ((((s.joinAnswered.sendJoinc 3 0 (s.rsn + 1)).modPair fun p =>
      { p with xfer := some ⟨s.rsn + 1, 1, s.allUnits, [], 0, 0, 0, false, true⟩ }).joinPhase 4).setFld
        Reg.pairJoin 15 8 1) :=
  (if_neg (not_not.mpr free)).trans (if_neg (not_not.mpr same))

theorem joinWait_byte : s.joinWait % 256 = s.joinWait := by
  unfold State.joinWait
  split
  · rfl
  · split <;> rfl

/-- A leader that holds a request (R360). -/
def State.joinAsked (s : State) (lane : Fin 4) (msg : Bytes) : State :=
  (s.taken lane msg).modPair fun p => { p with reqId := slice (dunlyBody msg) 8 48, xfer := none }

theorem joincRequestRx_eq (gets : s.gets 9 msg) (op : leAt (dunlyBody msg) 0 1 = 1) (leads : s.state = .leader) :
    joincRequestRx lane msg s = (s.joinAsked lane msg).answerJoin :=
  (dunlyRx_good gets).trans (if_pos ⟨op, taken_state.trans leads⟩)

theorem joinWait_of_view (same : t.pairView = s.pairView) (migr : t.migr = s.migr) : t.joinWait = s.joinWait := by
  have state := state_of_view same
  have link := linkUp_of_view same
  have change : t.pair.change = s.pair.change := pair_of_view Pair.change same
  have castle : t.pair.castle = s.pair.castle := pair_of_view Pair.castle same
  have check : t.pair.check = s.pair.check := pair_of_view Pair.check same
  have partner : t.pair.partner = s.pair.partner := pair_of_view Pair.partner same
  unfold State.joinWait State.changeAgreed State.changeAlone State.partnerOut State.partnerState
  rw [state, link, change, castle, check, partner, migr]

theorem joinAsked_wait : (s.joinAsked lane msg).joinWait = s.joinWait := by
  have held : (s.joinAsked lane msg).joinWait = (s.taken lane msg).joinWait := rfl
  rw [held, joinWait_of_view pairView_taken taken_migr]

theorem joinAsked_activeId : (s.joinAsked lane msg).activeId = s.activeId := by
  obtain ⟨active, -⟩ := taken_ids (s := s) (lane := lane) (msg := msg)
  exact active

theorem joinAsked_allUnits : (s.joinAsked lane msg).allUnits = s.allUnits := by
  unfold State.allUnits State.joinAsked
  rw [State.modPair_boards, taken_boards]

theorem joinAsked_rsn : (s.joinAsked lane msg).rsn = s.rsn := by
  unfold State.rsn State.now State.joinAsked
  rw [State.modPair_time, taken_time]

/-! ### The messages to a joiner (R360, R364, R365) -/

theorem joincRx_eq (gets : s.gets 9 msg) (same : leAt (dunlyBody msg) 0 1 = op) (joins : s.state = .joining) :
    s.joincRx lane op msg f = f (s.taken lane msg).xferHeard (leAt (dunlyBody msg) 1 1) :=
  (dunlyRx_good gets).trans (if_pos ⟨same, taken_state.trans joins⟩)

/-- A transfer begins (R334, R360). -/
theorem transferBegins_left :
    let t := (((s.modPair fun p => { p with joinLand := if p.joinLand = 2 then 2 else 1, joinDone := false }).joinPhase
      4).setFld Reg.pairJoin 15 8 1).seqStart
    t.fld Reg.pairJoin 2 0 = 4 ∧ t.fld Reg.pairJoin 15 8 = 1 ∧ t.pair.joinDone = false := by
  intro t
  have view : t.pairView = (((s.modPair fun p =>
      { p with joinLand := if p.joinLand = 2 then 2 else 1, joinDone := false }).joinPhase 4).setFld
        Reg.pairJoin 15 8 1).pairView := pairView_seqStart
  obtain ⟨phase, pass⟩ := firstPass_left
    (s := s.modPair fun p => { p with joinLand := if p.joinLand = 2 then 2 else 1, joinDone := false })
  rw [← fld_of_view view (by decide)] at phase pass
  exact ⟨phase, pass, pair_of_view Pair.joinDone view⟩

theorem joinCompleted_left : s.joinCompleted.fld Reg.pairJoin 2 0 = 6 ∧ s.joinCompleted.pair.joinDone = true := by
  unfold State.joinCompleted
  extract_lets v
  exact ⟨(fld_raise_ne (by decide)).trans (joinPhase_fld 6), congrArg Pair.joinDone (State.raise_pair ..)⟩

/-- A transfer that is given up (R359, R365). -/
theorem abandonJoin_left (reason : Nat) : (s.abandonJoin reason).fld Reg.pairJoin 23 16 = reason % 256
    ∧ (s.abandonJoin reason).state = s.state
    ∧ (s.abandonJoin reason).fld Reg.pairJoin 2 0 = 0
    ∧ (s.abandonJoin reason).linkUp = s.linkUp := by
  unfold State.abandonJoin
  extract_lets i v
  have view : v.pairView = s.pairView := by
    unfold v
    rw [pairView_raise, pairView_recErr, pairView_logErr]
  refine ⟨State.fld_setFld_self, state_of_view (t := v) view, (joinReason_left 0 reason).1, ?_⟩
  rw [← linkUp_of_view view, State.linkUp, State.reg_setFld_ne (by decide), State.joinPhase,
    State.reg_setFld_ne (by decide)]
  rfl

/-- A refusal that is recorded once an episode (R360). -/
def State.refusalNoted (s : State) : State :=
  let s := (s.joinReason 3 1).logErr pPAIR 0x0104 1
  if s.pair.episode then s
  else (s.recErr pPAIR 0x0104 1 .normal []).modPair fun p => { p with episode := true }

theorem refusalNoted_left : s.refusalNoted.fld Reg.pairJoin 2 0 = 3 ∧ s.refusalNoted.fld Reg.pairJoin 23 16 = 1
    ∧ s.refusalNoted.pair.episode = true := by
  unfold State.refusalNoted
  extract_lets v
  have view : v.pairView = (s.joinReason 3 1).pairView := pairView_logErr ..
  obtain ⟨phase, reason⟩ := joinReason_left (s := s) 3 1
  rw [← fld_of_view view (by decide)] at phase reason
  clear_value v
  split
  · next noted => exact ⟨phase, reason, noted⟩
  · exact ⟨phase, reason, rfl⟩

/-! ### Units at the joiner (R363) -/

theorem xferRx_eq (gets : s.gets 12 msg) (joins : s.state = .joining)
    (phase : s.fld Reg.pairJoin 2 0 = 4 ∨ s.fld Reg.pairJoin 2 0 = 5) :
    xferRx lane msg s = (s.taken lane msg).xferHeard.takeUnits ((dunlyBody msg).length / 8) (dunlyBody msg) := by
  refine (dunlyRx_good gets).trans (if_pos ⟨taken_state.trans joins, ?_⟩)
  rw [fld_of_view pairView_taken (by decide)]
  exact phase

theorem takeUnits_nil (n : Nat) : s.takeUnits n [] = s := by
  cases n with
  | zero => rfl
  | succ n => exact if_pos (by decide)

/-- A payload of one unit. -/
theorem takeUnits_single {b : Bytes} (whole : b.length = 8 + leAt b 2 2) :
    s.takeUnits (b.length / 8) b = s.takeUnit (leAt b 0 1) (leAt b 4 4) (slice b 8 (leAt b 2 2)) := by
  obtain ⟨n, count⟩ : ∃ n, b.length / 8 = n + 1 := ⟨b.length / 8 - 1, by omega⟩
  rw [count]
  refine (if_neg (by omega)).trans ?_
  dsimp only
  rw [List.drop_of_length_le (by omega), takeUnits_nil]

/-- The unit of the grants replaces those that the joiner held. -/
theorem takeUnit_grants {space ofs : Nat} {b : Bytes} (tables : space = 2) (last : 16384 ≤ ofs) :
    s.takeUnit space ofs b = s.modNet fun n => { n with
      grants := (List.range (b.length / 16)).foldl (fun l i => putGrant (parseGrant (slice b (16 * i) 16)) l) [] } :=
  (if_neg (by omega)).trans ((if_neg (by omega)).trans (if_neg (by omega)))

theorem slice_payload {b : Bytes} {n : Nat} (whole : b.length = 8 + n) : (slice b 8 n).length = n := by
  rw [slice, List.length_take, List.length_drop]
  omega

/-! ### The closing test (R364) -/

theorem sendTables_keeps {α : Type} {g : State → α}
    (unit : ∀ (u : State) space ofs mirror body, g (u.sendUnit space ofs mirror body) = g u) : g s.sendTables = g s := by
  unfold State.sendTables
  exact (unit ..).trans (foldl_keeps g (fun _ _ => unit ..) _ _)

/-- CLOSE, the pair tables and the dirty units are sent. -/
def State.closingSent (s : State) (d : List (Nat × Nat)) : State :=
  let s := (s.sendJoinc 4 0 s.rsn).joinPhase 5
  d.foldl (fun s u => s.sendUnit u.1 (unitOfs u.1 u.2) false (s.unitBytes u.1 u.2)) s.sendTables

theorem closingSent_keeps {α : Type} {g : State → α} {d : List (Nat × Nat)}
    (unit : ∀ (u : State) space ofs mirror body, g (u.sendUnit space ofs mirror body) = g u) :
    g (s.closingSent d) = g ((s.sendJoinc 4 0 s.rsn).joinPhase 5) := by
  unfold State.closingSent
  exact (foldl_keeps g (fun _ _ => unit ..) d _).trans (sendTables_keeps unit)

/-- A transfer whose closing round has begun. -/
def XferRun.closed (x : XferRun) (sent : Nat) : XferRun :=
  { x with todo := [], dirty := [], sent := sent, closing := true, tested := true }

theorem closingSent_sizes {d : List (Nat × Nat)} :
    (s.closingSent d).tablesSize = s.tablesSize ∧ (s.closingSent d).budget = s.budget := by
  have net : (s.closingSent d).net = s.net :=
    (closingSent_keeps (g := State.net) fun _ _ _ _ _ => dunlySend_net ..).trans (dunlySend_net ..)
  have view : (s.closingSent d).pairView = ((s.sendJoinc 4 0 s.rsn).joinPhase 5).pairView :=
    closingSent_keeps fun _ => pairView_sendUnit
  have sent : (s.sendJoinc 4 0 s.rsn).pairView = s.pairView := pairView_sendJoinc ..
  unfold State.tablesSize State.budget
  rw [net, fld_of_view view (by decide), State.joinPhase, State.fld_setFld_ne (by decide), fld_of_view sent (by decide)]
  exact ⟨rfl, rfl⟩

theorem closingSent_phase {d : List (Nat × Nat)} : (s.closingSent d).fld Reg.pairJoin 2 0 = 5 :=
  (fld_of_view (closingSent_keeps fun _ => pairView_sendUnit) (by decide) 2 0).trans (joinPhase_fld 5)

/-- The closing round begins, and overruns when it has no room for the pair tables. -/
theorem joinClosingTest_closes (run : s.pair.xfer = some x) (untested : x.tested = false) (last : s.lastRound = true)
    (fits : unitsSize x.dirtyUnits + x.last ≤ s.budget) : joinClosingTest s =
      let y := x.closed (unitsSize x.dirtyUnits + s.tablesSize)
      let t := (s.closingSent x.dirtyUnits).modPair fun p => { p with xfer := some y }
      if s.budget < unitsSize x.dirtyUnits + s.tablesSize then t.closingOverrun y else t := by
  obtain ⟨tables, budget⟩ := closingSent_sizes (s := s) (d := x.dirtyUnits)
  rw [← budget, ← tables]
  unfold joinClosingTest
  simp only [run, untested, last]
  exact if_pos fits

theorem joinClosingTest_goes (run : s.pair.xfer = some x) (untested : x.tested = false) (last : s.lastRound = true)
    (full : s.budget < unitsSize x.dirtyUnits + x.last) :
    joinClosingTest s = (s.modPair fun p => { p with xfer := some { x with tested := true } }).xferWork := by
  unfold joinClosingTest
  simp only [run, untested, last]
  exact if_neg (not_le.mpr full)

theorem closingOverrun_left : (s.closingOverrun x).fld Reg.pairJoin 2 0 = 4
    ∧ (s.closingOverrun x).fld Reg.pairJoin 23 16 = 2 := joinReason_left 4 2

/-! ### The end at the joiner (R364, R365) -/

/-- The joiner at the turn boundary, its transfer complete. -/
def State.joinLanded (s : State) : State := if s.atBoundary.pair.joinDone then s.atBoundary else s.atBoundary.joinCompleted

theorem joinerToFollower_follows (joins : s.state = .joining)
    (done : s.pair.joinDone = true ∨ s.fld Reg.pairJoin 2 0 = 5)
    (turn : s.atBoundary.rsn.toNat % s.atBoundary.turnLen = 0) : joinerToFollower s
      = (s.joinLanded.toState .follower).modPair fun p => { p with joinDone := false, joinLand := 0 } :=
  if_pos ⟨joins, done, turn⟩

/-- A transfer that has fallen silent. -/
def State.transferSilent (s : State) : State :=
  let s := (s.waitOp (s.pair.xferAt + 2000000)).abandonJoin 3
  if s.linkUp then (s.sendJoinc 1 0 s.rsn).joinPhase 1 else s

theorem transferSilent_left : s.transferSilent.fld Reg.pairJoin 2 0 = (if s.linkUp then 1 else 0)
    ∧ s.transferSilent.fld Reg.pairJoin 23 16 = 3 ∧ s.transferSilent.state = s.state := by
  obtain ⟨reason, state, phase, link⟩ := abandonJoin_left (s := s.waitOp (s.pair.xferAt + 2000000)) 3
  have waited : (s.waitOp (s.pair.xferAt + 2000000)).pairView = s.pairView := pairView_waitOp _
  rw [linkUp_of_view waited] at link
  rw [state_of_view waited] at state
  unfold State.transferSilent
  extract_lets v
  have sent : (v.sendJoinc 1 0 v.rsn).pairView = v.pairView := pairView_sendJoinc ..
  split
  · next up =>
    rw [if_pos (link.symm.trans up)]
    exact ⟨joinPhase_fld 1, (joinPhase_reason 1).trans ((fld_of_view sent (by decide) 23 16).trans reason),
      (state_of_view sent).trans state⟩
  · next down =>
    rw [if_neg (link ▸ down)]
    exact ⟨phase, reason, state⟩

/-! ### The statement -/

/-- Settles O42. -/
theorem joining : Obligations.Joining := by
  unfold Obligations.Joining
  refine ⟨fun lane msg s gets op leads => ⟨fun waits => ?_, fun free other => ?_, fun free same => ?_⟩,
    fun lane msg s gets op joins => ?_, fun lane msg s gets op joins => ?_, fun lane msg s gets op joins => ?_,
    fun lane msg s gets op joins => ⟨fun new => ?_, fun done => ?_⟩, fun lane msg s gets op joins reason => ?_,
    fun lane msg s gets op joins reason => ?_, fun lane msg s gets joins phase => ?_,
    fun lane msg s gets joins phase space ofs whole => ?_, fun x s run untested last fits room => ?_,
    fun x s run untested last fits short => ?_, fun x s run untested last full => ?_, fun s joins done turn => ?_,
    fun s joins busy => ?_⟩
  · have waits' : (s.joinAsked lane msg).joinWait ≠ 0 := by rwa [joinAsked_wait]
    obtain ⟨phase, reason⟩ := joinReason_left
      (s := (s.joinAsked lane msg).sendJoinc 2 (s.joinAsked lane msg).joinWait (s.joinAsked lane msg).rsn) 2
      (s.joinAsked lane msg).joinWait
    refine .of_meaning rfl ((joincRequestRx_eq gets op leads).trans (answerJoin_waits waits')) ⟨phase, ?_, ?_⟩
    · rw [reason, joinWait_byte, joinAsked_wait]
    · exact pair_of_view Pair.reqId (pairView_sendJoinc ..)
  · have refused := answerJoin_refuses (joinAsked_wait.trans free)
      (show slice (dunlyBody msg) 8 48 ≠ (s.joinAsked lane msg).activeId by rwa [joinAsked_activeId])
    obtain ⟨phase, reason⟩ := joinReason_left
      (s := (s.joinAsked lane msg).joinAnswered.sendJoinc 6 1 (s.joinAsked lane msg).rsn) 3 1
    exact .of_meaning rfl ((joincRequestRx_eq gets op leads).trans refused)
      ⟨phase, reason, pair_of_view Pair.xfer (pairView_sendJoinc ..)⟩
  · have started := answerJoin_starts (joinAsked_wait.trans free)
      (show slice (dunlyBody msg) 8 48 = (s.joinAsked lane msg).activeId by rwa [joinAsked_activeId])
    rw [joinAsked_rsn, joinAsked_allUnits] at started
    obtain ⟨phase, pass⟩ := firstPass_left
      (s := ((s.joinAsked lane msg).joinAnswered.sendJoinc 3 0 (s.rsn + 1)).modPair fun p =>
        { p with xfer := some ⟨s.rsn + 1, 1, s.allUnits, [], 0, 0, 0, false, true⟩ })
    exact .of_meaning rfl ((joincRequestRx_eq gets op leads).trans started) ⟨phase, pass, rfl⟩
  · exact .of_meaning rfl (joincRx_eq gets op joins) (joinReason_left ..)
  · obtain ⟨phase, pass, new⟩ := transferBegins_left (s := (s.taken lane msg).xferHeard)
    exact .of_meaning rfl (joincRx_eq gets op joins) ⟨phase, pass, new⟩
  · exact .of_meaning rfl (joincRx_eq gets op joins) ⟨joinPhase_fld 5, taken_mem⟩
  · have new' : (s.taken lane msg).pair.joinDone = false := (pair_of_view Pair.joinDone pairView_taken).trans new
    obtain ⟨phase, complete⟩ := joinCompleted_left (s := (s.taken lane msg).xferHeard)
    exact .of_meaning rfl ((joincRx_eq gets op joins).trans (if_neg (ne_true_of_eq_false new'))) ⟨phase, complete⟩
  · have done' : (s.taken lane msg).pair.joinDone = true := (pair_of_view Pair.joinDone pairView_taken).trans done
    exact .of_meaning rfl ((joincRx_eq gets op joins).trans (if_pos done')) rfl
  · obtain ⟨shown, -⟩ := abandonJoin_left (s := (s.taken lane msg).xferHeard) (leAt (dunlyBody msg) 1 1)
    exact .of_meaning rfl ((joincRx_eq gets op joins).trans (if_neg reason))
      ⟨joinPhase_fld 4, (joinPhase_reason 4).trans shown⟩
  · obtain ⟨phase, shown, noted⟩ := refusalNoted_left (s := (s.taken lane msg).xferHeard)
    exact .of_meaning rfl ((joincRx_eq gets op joins).trans (if_neg (not_not.mpr reason))) ⟨phase, shown, noted⟩
  · exact .of_meaning rfl (xferRx_eq gets joins phase)
  · have unit := (takeUnits_single (s := (s.taken lane msg).xferHeard) whole).trans
      (takeUnit_grants space ofs)
    rw [slice_payload whole] at unit
    refine .of_meaning rfl ((xferRx_eq gets joins phase).trans unit) ⟨?_, ?_⟩
    · rfl
    · rw [State.modNet_mem]
      exact taken_mem
  · refine .of_meaning rfl ((joinClosingTest_closes run untested last fits).trans (if_neg (not_lt.mpr room))) ⟨?_, rfl⟩
    exact closingSent_phase
  · obtain ⟨phase, reason⟩ := closingOverrun_left
      (s := (s.closingSent x.dirtyUnits).modPair fun p =>
        { p with xfer := some (x.closed (unitsSize x.dirtyUnits + s.tablesSize)) })
      (x := x.closed (unitsSize x.dirtyUnits + s.tablesSize))
    exact .of_meaning rfl ((joinClosingTest_closes run untested last fits).trans (if_pos short)) ⟨phase, reason, rfl⟩
  · exact .of_meaning rfl (joinClosingTest_goes run untested last full)
  · exact .of_meaning rfl (joinerToFollower_follows joins done turn) ⟨toState_state, rfl, rfl⟩
  · obtain ⟨phase, reason, state⟩ := transferSilent_left (s := s)
    exact .of_meaning rfl (if_pos ⟨joins, busy⟩) ⟨phase, reason, state.trans joins⟩

end Sys2Proof.Machine
end

section
/-! PROOFS. What the operations of the event recorder leave: the registers that show it, admission, the records that the
engine owes, recycling, messages to the host, the writing of a record (R427 to R437). -/

namespace Sys2Proof.Machine
variable {s t u : State} {e : Event} {q : QEntry} {k : Nat} {β : Type} {g : State → β}

theorem ite_keeps {c : Prop} [Decidable c] (h : g t = g u) : g (if c then t else u) = g u := by
  split
  · exact h
  · rfl

/-! ### The registers that show the recorder (R441) -/

@[simp] theorem recShow_rcd : s.recShow.rcd = s.rcd := rfl
@[simp] theorem recShow_events : s.recShow.events = s.events := rfl
@[simp] theorem recShow_host : s.recShow.host = s.host := rfl

theorem recShow_reg (stat : k ≠ Reg.recStat) (queue : k ≠ Reg.recQueue) (oldest : k ≠ Reg.recOldestSeq) :
    s.recShow.reg k = s.reg k := by
  unfold State.recShow
  dsimp only
  rw [State.reg_setReg_ne oldest, State.reg_setFld_ne queue, State.reg_setFld_ne queue, State.reg_setFld_ne stat,
    State.reg_setFld_ne stat, State.reg_setFld_ne stat]

/-- REC_STAT shows its counts beside STATE. -/
theorem recShow_state : s.recShow.fld Reg.recStat 1 0 = s.fld Reg.recStat 1 0 := by
  have beside {v : State} {hi lo n : Nat} (h : 1 < lo) (hh : hi < 32) :
      (v.setFld Reg.recStat hi lo n).fld Reg.recStat 1 0 = v.fld Reg.recStat 1 0 :=
    State.fld_setFld_disjoint (.inr h) hh
  unfold State.recShow
  dsimp only
  rw [State.fld_setReg_ne (by decide), State.fld_setFld_ne (by decide), State.fld_setFld_ne (by decide),
    beside (by decide) (by decide), beside (by decide) (by decide), beside (by decide) (by decide)]

theorem ne_bank_recDrop (i : Nat) (h : k % 0x100000 ≠ Reg.recDrop) : k ≠ Reg.bank i Reg.recDrop := by
  rintro rfl
  exact h (Nat.mul_add_mod_self_right ..)

/-! ### Admission (R427, R436) -/

theorem recAdmit_room (low : (s.rcd.queue.filter (fun x => x.prio != .critical)).length < 7936)
    (room : s.rcd.queue.length < 8192) : (s.recAdmit e).1
      = { s with rcd := { s.rcd with queue := s.rcd.queue ++ [s.stamp e], lastOp := (s.stamp e).op } } := by
  unfold State.recAdmit
  dsimp only
  split
  · rw [decide_eq_true ⟨low, room⟩, if_pos rfl]
  · rw [decide_eq_true ⟨low, room⟩, if_pos rfl]
  · rw [if_pos room]

theorem recAdmit_bulk_full (bulk : e.prio = .bulk) (full : 8192 ≤ s.rcd.queue.length) :
    (s.recAdmit e).1 = s.dropEvent (s.stamp e) := by
  unfold State.recAdmit
  dsimp only
  rw [bulk, decide_eq_false fun room => Nat.not_le.mpr room.2 full]
  rfl

theorem dropEvent_queue : (s.dropEvent q).rcd.queue = s.rcd.queue := by
  unfold State.dropEvent
  dsimp only
  rw [State.raise_rcd]
  split <;> rfl

theorem dropEvent_events : (s.dropEvent q).events = s.events := by
  unfold State.dropEvent
  dsimp only
  rw [State.raise_events]
  split <;> rfl

/-- REC_DROP counts a bulk event and stops at 0xFFFF (R441). -/
theorem dropEvent_bulk (bulk : q.prio = .bulk) : (s.dropEvent q).fld (Reg.bank q.src Reg.recDrop) 15 0
    = min 0xFFFF (s.fld (Reg.bank q.src Reg.recDrop) 15 0 + 1) := by
  unfold State.dropEvent
  dsimp only
  rw [bulk, fld_raise_ne (ne_bank_recDrop _ (by decide)).symm]
  exact fld_incSat_self (by decide) (by decide)

/-! ### Records that the engine owes (R432 to R437) -/

/-- The sources of the records that the engine owes, in the order in which it writes them. -/
def State.dueSources (s : State) : List Nat := s.rcd.due.map fun d => d.1.src

theorem length_dueSources : s.dueSources.length = s.rcd.due.length := List.length_map _

theorem oweEvent_dueSources (e : Event) : (s.oweEvent e).dueSources = s.dueSources ++ [e.src] := List.map_append

theorem owe_dueSources (type : Nat) (b : Bytes) : (s.owe type b).dueSources = s.dueSources ++ [pREC] :=
  oweEvent_dueSources _

theorem foldl_dueSources {α : Type} {f : State → α → State} {src : α → Nat}
    (one : ∀ u x, (f u x).dueSources = u.dueSources ++ [src x]) :
    ∀ (l : List α) (s : State), (l.foldl f s).dueSources = s.dueSources ++ l.map src
  | [], s => (List.append_nil _).symm
  | x :: l, s => by
    rw [List.foldl_cons, foldl_dueSources one l, one, List.append_assoc]
    rfl

/-- The SUPPRESS record of one count is owed, and REC_DROP counts anew (R437). -/
def State.dropsReported (s : State) (d : DropCnt) : State :=
  (s.setReg (Reg.bank d.src Reg.recDrop) 0).owe 0xF002
    (toLe 1 d.src ++ zeros 3 ++ toLe 4 d.bulk ++ toLe 4 d.normal ++ toLe 4 d.crit
      ++ toLe 8 d.first.toNat ++ toLe 8 d.last.toNat)

theorem dropsReported_dueSources (d : DropCnt) : (s.dropsReported d).dueSources = s.dueSources ++ [pREC] :=
  owe_dueSources ..

/-- The SUPPRESS records of the counts that `p` picks are owed. -/
def State.dropsOwed (s : State) (p : DropCnt → Bool) : State := (s.rcd.drops.filter p).foldl State.dropsReported s

theorem suppress_eq (p : DropCnt → Bool) : s.suppress p = { s.dropsOwed p with rcd := { (s.dropsOwed p).rcd with
    drops := (s.dropsOwed p).rcd.drops.filter fun d => !p d } } := rfl

/-- What neither REC_DROP nor the engine's own records touch. -/
theorem suppress_keeps {p : DropCnt → Bool} (shown : ∀ u i, g (State.setReg u (Reg.bank i Reg.recDrop) 0) = g u)
    (owed : ∀ u ty b, g (State.owe u ty b) = g u)
    (cleared : ∀ u l, g { u with rcd := { u.rcd with drops := l } } = g u) :
    g (s.suppress p) = g s := by
  have one (u : State) (d : DropCnt) : g (u.dropsReported d) = g u := by
    unfold State.dropsReported
    rw [owed, shown]
  rw [suppress_eq, cleared (s.dropsOwed p), State.dropsOwed, foldl_keeps g one]

theorem suppress_reg {p : DropCnt → Bool} (other : k % 0x100000 ≠ Reg.recDrop) : (s.suppress p).reg k = s.reg k :=
  suppress_keeps (g := fun u => u.reg k) (fun _ i => State.reg_setReg_ne (ne_bank_recDrop i other))
    (fun _ _ _ => rfl) fun _ _ => rfl

theorem suppress_drops (p : DropCnt → Bool) : (s.suppress p).rcd.drops = s.rcd.drops.filter fun d => !p d := by
  have same : (s.dropsOwed p).rcd.drops = s.rcd.drops :=
    foldl_keeps (fun u => u.rcd.drops) (f := State.dropsReported) (fun _ _ => rfl) _ s
  rw [suppress_eq, same]

/-- One SUPPRESS record falls due for each count that is picked (R437). -/
theorem suppress_dueSources (p : DropCnt → Bool) :
    (s.suppress p).dueSources = s.dueSources ++ (s.rcd.drops.filter p).map fun _ => pREC :=
  foldl_dueSources (fun _ => dropsReported_dueSources) _ s

/-! ### Recycling (R434) -/

theorem mem_of_mem_sortPut {α : Type} {le : α → α → Bool} {a x : α} :
    ∀ {l : List α}, x ∈ sortPut le a l → x = a ∨ x ∈ l
  | [], h => .inl (List.mem_singleton.mp h)
  | b :: l, h => by
    unfold sortPut at h
    split at h
    · exact List.mem_cons.mp h
    · rcases List.mem_cons.mp h with rfl | h
      · exact .inr List.mem_cons_self
      · exact (mem_of_mem_sortPut h).imp_right (List.mem_cons_of_mem _)

theorem mem_of_mem_sortBy {α : Type} {le : α → α → Bool} {x : α} : ∀ {l : List α}, x ∈ sortBy le l → x ∈ l
  | _ :: l, h => by
    rcases mem_of_mem_sortPut h with rfl | h
    · exact List.mem_cons_self
    · exact List.mem_cons_of_mem _ (mem_of_mem_sortBy (l := l) h)

/-- Only a segment that a reader finds has a place in the order. -/
theorem live_of_mem_ordered {r : Recorder} {o : Nat} (h : o ∈ r.ordered) :
    (r.segs[o]?.map Segment.live).getD false = true :=
  (List.mem_filter.mp (mem_of_mem_sortBy h)).2

/-- Recycling does nothing, or one segment in use gets its RECYCLE record and begins to be erased. -/
theorem keepErased_cases (s : State) : s.keepErased = s ∨ ∃ o ∈ s.rcd.ordered, ∃ b, s.keepErased =
    { s.owe 0xF003 b with rcd := { (s.owe 0xF003 b).rcd with
        segs := modAt s.rcd.segs o fun g => { g with state := .erasing } } } := by
  unfold State.keepErased
  split
  · exact .inl rfl
  · split
    case _ => exact .inl rfl
    case _ o found => exact .inr ⟨o, List.mem_of_find?_eq_some found, _, rfl⟩

theorem keepErased_keeps (owed : ∀ u ty b, g (State.owe u ty b) = g u)
    (erasing : ∀ u l, g { u with rcd := { u.rcd with segs := l } } = g u) : g s.keepErased = g s := by
  obtain same | ⟨o, -, b, begun⟩ := keepErased_cases s
  · rw [same]
  · rw [begun]
    exact (erasing (s.owe 0xF003 b) _).trans (owed s ..)

theorem keepErased_due : s.rcd.due.length ≤ s.keepErased.rcd.due.length := by
  obtain same | ⟨o, -, b, begun⟩ := keepErased_cases s
  · rw [same]
  · rw [begun]
    simp [State.owe, State.oweEvent]

/-- A segment that was removed from use is not recycled (R433). -/
theorem keepErased_removed {i : Nat} (removed : (s.rcd.segs[i]?).map (fun g => g.state) = some .removed) :
    (s.keepErased.rcd.segs[i]?).map (fun g => g.state) = some .removed := by
  obtain same | ⟨o, ordered, b, begun⟩ := keepErased_cases s
  · rwa [same]
  · have other : o ≠ i := by
      rintro rfl
      obtain ⟨g, here, state⟩ := Option.map_eq_some_iff.mp removed
      have live := live_of_mem_ordered ordered
      simp [here, Segment.live, state] at live
    rw [begun]
    show ((s.rcd.segs.modify o _)[i]?).map _ = _
    rwa [List.getElem?_modify_ne _ _ other]

/-! ### Messages to the host (R479) -/

/-- A message changes the host interface and what was sent. -/
theorem hapSend_keeps (sends : ∀ u h o, h.wedgeAt = u.host.wedgeAt → g { u with host := h, out := o } = g u)
    (dst : HostAddr) (key type flags status : Nat) (x : Word) (seg segs : Nat) (b : Bytes) :
    g (s.hapSend dst key type flags status x seg segs b) = g s := by
  unfold State.hapSend
  split
  · exact sends s _ _ rfl
  · exact sends s _ _ rfl

theorem notify_keeps (sends : ∀ u h o, h.wedgeAt = u.host.wedgeAt → g { u with host := h, out := o } = g u)
    (kind : Nat) (b : Bytes) : g (s.notify kind b) = g s := by
  unfold State.notify
  split
  · rfl
  · refine foldl_keeps g (fun u i => ?_) _ s
    split
    · exact ite_keeps ((hapSend_keeps sends ..).trans (sends u { u.host with targets := _ } u.out rfl))
    · rfl

/-! ### Writing a record (R428, R430, R431) -/

/-- The record of `q` fits behind the write point of the open segment. -/
structure State.Fits (s : State) (q : QEntry) : Prop where
  isOpen : (s.rcd.segs[s.rcd.wseg]?).map (fun g => g.state) = some .inUse
  header : 0x40 ≤ (s.reg Reg.recWptr).toNat
  room : (s.reg Reg.recWptr).toNat + (q.record (s.reg Reg.recNextSeq)).length ≤ segBytes

theorem room_fits (fits : s.Fits q) :
    s.room (q.record (s.reg Reg.recNextSeq)).length (s.reg Reg.recNextSeq) = some s := by
  obtain ⟨isOpen, header, room⟩ := fits
  obtain ⟨g, here, inUse⟩ := Option.map_eq_some_iff.mp isOpen
  simp [State.room, here, inUse, header, room]

theorem writeRec_fits (fits : s.Fits q) : s.writeRec q none .ok
    = ((s.setReg Reg.recNextSeq (s.reg Reg.recNextSeq + 1)).program (q.record (s.reg Reg.recNextSeq))).written_ q
        (q.record (s.reg Reg.recNextSeq)) := by
  unfold State.writeRec
  simp only [Option.getD_none, room_fits fits]
  rfl

/-- What follows MARK beside the new write point: interrupt bits, the life counts, a message to the host. -/
theorem written_keeps (raise : ∀ u b, g (State.raise u pREC b) = g u)
    (count : ∀ u v, g (State.setReg u Reg.recCnt v) = g u)
    (sends : ∀ u h o, h.wedgeAt = u.host.wedgeAt → g { u with host := h, out := o } = g u) (b : Bytes) :
    g (s.written_ q b) = g (s.setReg Reg.recWptr (s.reg Reg.recWptr + BitVec.ofNat 32 b.length)) := by
  unfold State.written_
  extract_lets t₁ t₂ t₃ t₄
  have h₂ : g t₂ = g t₁ := ite_keeps (raise ..)
  have h₃ : g t₃ = g t₂ := ite_keeps ((count ..).trans (raise ..))
  have h₄ : g t₄ = g t₃ := ite_keeps ((count ..).trans (raise ..))
  exact (ite_keeps ((notify_keeps sends ..).trans (raise ..))).trans (h₄.trans (h₃.trans h₂))

theorem written_reg {b : Bytes} (irq : k ≠ Reg.pgIrq pREC) (cnt : k ≠ Reg.recCnt) : (s.written_ q b).reg k
    = (s.setReg Reg.recWptr (s.reg Reg.recWptr + BitVec.ofNat 32 b.length)).reg k :=
  written_keeps (g := fun u => u.reg k) (fun _ _ => State.reg_raise_ne irq) (fun _ _ => State.reg_setReg_ne cnt)
    (fun _ _ _ _ => rfl) b

/-- From `s` to `t` the record of `q` has been written at the write point, with the next SEQ. -/
structure Wrote (q : QEntry) (s t : State) : Prop where
  next : t.reg Reg.recNextSeq = s.reg Reg.recNextSeq + 1
  point : t.reg Reg.recWptr = s.reg Reg.recWptr + BitVec.ofNat 32 (q.record (s.reg Reg.recNextSeq)).length
  segs : t.rcd.segs = modAt s.rcd.segs s.rcd.wseg fun g =>
    { g with bytes := flashAt g.bytes 0 (s.reg Reg.recWptr).toNat ++ q.record (s.reg Reg.recNextSeq) }
  queue : t.rcd.queue = s.rcd.queue
  wedge : t.host.wedgeAt = s.host.wedgeAt
  steward : t.reg Reg.secStat = s.reg Reg.secStat

theorem writeRec_rcd (fits : s.Fits q) : (s.writeRec q none .ok).rcd
    = { s.rcd with segs := modAt s.rcd.segs s.rcd.wseg fun g =>
        { g with bytes := flashAt g.bytes 0 (s.reg Reg.recWptr).toNat ++ q.record (s.reg Reg.recNextSeq) } } := by
  have point : (s.setReg Reg.recNextSeq (s.reg Reg.recNextSeq + 1)).reg Reg.recWptr = s.reg Reg.recWptr :=
    State.reg_setReg_ne (by decide)
  rw [writeRec_fits fits,
    written_keeps (g := State.rcd) (fun _ _ => State.raise_rcd ..) (fun _ _ => rfl) fun _ _ _ _ => rfl, ← point]
  rfl

theorem writeRec_wrote (fits : s.Fits q) : Wrote q s (s.writeRec q none .ok) := by
  have reg {k : Nat} (irq : k ≠ Reg.pgIrq pREC) (cnt : k ≠ Reg.recCnt) :=
    (congrArg (State.reg · k) (writeRec_fits fits)).trans (written_reg irq cnt)
  have point : (s.setReg Reg.recNextSeq (s.reg Reg.recNextSeq + 1)).reg Reg.recWptr = s.reg Reg.recWptr :=
    State.reg_setReg_ne (by decide)
  exact {
    next := (reg (by decide) (by decide)).trans ((State.reg_setReg_ne (by decide)).trans State.reg_setReg_self)
    point := (reg (by decide) (by decide)).trans (State.reg_setReg_self.trans (congrArg (· + _) point))
    segs := by rw [writeRec_rcd fits]
    queue := by rw [writeRec_rcd fits]
    wedge := by
      rw [writeRec_fits fits]
      exact written_keeps (g := fun u => u.host.wedgeAt) (fun _ _ => by rw [State.raise_host]) (fun _ _ => rfl)
        (fun _ _ _ same => same) _
    steward := (reg (by decide) (by decide)).trans
      ((State.reg_setReg_ne (by decide)).trans (State.reg_setReg_ne (by decide))) }

namespace Wrote

theorem bytes (h : Wrote q s t) : (t.rcd.segs[s.rcd.wseg]?).map (fun g => g.bytes)
    = (s.rcd.segs[s.rcd.wseg]?).map fun g =>
        flashAt g.bytes 0 (s.reg Reg.recWptr).toNat ++ q.record (s.reg Reg.recNextSeq) := by
  rw [h.segs, modAt, List.getElem?_modify_eq, Option.map_eq_map, Option.map_map]
  rfl

theorem recShow (h : Wrote q s t) : Wrote q s t.recShow where
  next := (recShow_reg (by decide) (by decide) (by decide)).trans h.next
  point := (recShow_reg (by decide) (by decide) (by decide)).trans h.point
  segs := h.segs
  queue := h.queue
  wedge := h.wedge
  steward := (recShow_reg (by decide) (by decide) (by decide)).trans h.steward

theorem suppress (h : Wrote q s t) (p : DropCnt → Bool) : Wrote q s (t.suppress p) where
  next := (suppress_reg (by decide)).trans h.next
  point := (suppress_reg (by decide)).trans h.point
  segs := (suppress_keeps (g := fun u => u.rcd.segs) (fun _ _ => rfl) (fun _ _ _ => rfl) fun _ _ => rfl).trans h.segs
  queue := (suppress_keeps (g := fun u => u.rcd.queue) (fun _ _ => rfl) (fun _ _ _ => rfl) fun _ _ => rfl).trans h.queue
  wedge :=
    (suppress_keeps (g := fun u => u.host.wedgeAt) (fun _ _ => rfl) (fun _ _ _ => rfl) fun _ _ => rfl).trans h.wedge
  steward := (suppress_reg (by decide)).trans h.steward

end Wrote

/-! ### The steward's record of a WEDGE (R384) -/

theorem wedgeRecorded_other {r : ProgRes} (h : q.src ≠ pSTW ∨ q.type ≠ 0xE007) : s.wedgeRecorded q r = s :=
  if_neg fun ⟨src, type, _⟩ => h.elim (· src) (· type)

/-- With no record of the steward's owed, the record of the WEDGE is written, and the steward, which waits for it, requests
the System reset (R384). -/
theorem wedgeRecorded_resets (src : q.src = pSTW) (type : q.type = 0xE007) (own : ∀ d ∈ s.rcd.due, d.1.src = pREC)
    (waits : s.host.wedgeAt.isSome = true) (up : s.stewardUp = true) :
    (s.wedgeRecorded q .ok).rst.running = true ∧ (s.wedgeRecorded q .ok).rst.sources.getLsbD 10 = true
    ∧ (s.wedgeRecorded q .ok).rst.reach ≤ 1 ∧ (s.wedgeRecorded q .ok).host.wedgeAt = none := by
  have others : s.rcd.due.all (fun d => d.1 != q) = true := List.all_eq_true.mpr fun d hd => by
    refine bne_iff_ne.mpr fun same => ?_
    have := own d hd
    rw [same, src] at this
    exact absurd this (by decide)
  have recorded : s.wedgeRecorded q .ok = s.wedgeReset := if_pos ⟨src, type, rfl, others⟩
  have asserted := assertSource_asserted (s := { s with host := { s.host with wedgeAt := none } }) (b := 10) 1 false
    (by decide)
  rw [recorded, wedgeReset_due waits up]
  exact ⟨asserted.running, asserted.source, asserted.reach, asserted.wedge rfl⟩

theorem stewardUp_of_reg (same : t.reg Reg.secStat = s.reg Reg.secStat) : t.stewardUp = s.stewardUp := by
  simp only [State.stewardUp, State.inRecovery, State.fld, same]

end Sys2Proof.Machine
end

section
/-! PROOFS. The statement of 12_faults_and_degradation.md about the event recorder (O48): admission, writing, the end of an
erase, the reports of drops, the start, submission and reading (R430 to R440). -/

namespace Sys2Proof.Machine
variable {s t : State} {e : Event} {q : QEntry} {r : ProgRes}

/-! ### Admission (R436) -/

theorem recordEventAdmit_runs {l : List Event} (runs : s.recRuns = true) (raised : s.events = e :: l) :
    recordEventAdmit s = ({ s with events := l }.recAdmit e).1.recShow := by
  simp only [recordEventAdmit, runs, raised]
  rfl

/-! ### Writing (R430, R436, R437) -/

/-- Where the last entry has left the queue, the drop counts are reported. -/
def State.emptied (s : State) (l : List QEntry) : State := if l.isEmpty then s.suppress (fun _ => true) else s

theorem emptied_drops {l : List QEntry} (last : l = []) : (s.emptied l).rcd.drops = [] := by
  subst last
  exact (suppress_drops _).trans (List.filter_eq_nil_iff.mpr (by simp))

theorem emptied_owes (l : List QEntry) (due : s.rcd.due = []) : ∀ d ∈ (s.emptied l).rcd.due, d.1.src = pREC := by
  unfold State.emptied
  split
  · intro d hd
    have mem : d.1.src ∈ (s.suppress fun _ => true).dueSources := List.mem_map_of_mem hd
    rw [suppress_dueSources, State.dueSources, due] at mem
    obtain ⟨-, -, same⟩ := List.mem_map.mp mem
    exact same.symm
  · simp [due]

theorem Wrote.emptied (h : Wrote q s t) (l : List QEntry) : Wrote q s (t.emptied l) := by
  unfold State.emptied
  split
  · exact h.suppress _
  · exact h

section
variable (runs : s.recRuns = true) (indexed : s.fld Reg.recStat 1 0 ≠ 2)
include runs indexed

theorem recordWrite_due {k : Option Word} {l : List (QEntry × Option Word)} (due : s.rcd.due = (q, k) :: l) :
    recordWrite r s = (({ s with rcd := { s.rcd with due := l } }.writeRec q k r).recShow).wedgeRecorded q r := by
  simp only [recordWrite, runs, beq_eq_false_iff_ne.mpr indexed, due]
  rfl

theorem recordWrite_queued {l : List QEntry} (due : s.rcd.due = []) (next : nextQueued s.rcd.queue = some (q, l)) :
    recordWrite r s = ((({ s with rcd := { s.rcd with queue := l } }.writeRec q none r).emptied l).recShow).wedgeRecorded
      q r := by
  simp only [recordWrite, runs, beq_eq_false_iff_ne.mpr indexed, due, next]
  rfl

end

/-! ### The end of an erase (R433, R434) -/

theorem eraseRuns_modAt {i : Nat} (erases : s.eraseRuns = some i) :
    ∃ g, ∀ f : Segment → Segment, (modAt s.rcd.segs i f)[i]? = some (f g) := by
  have present : ∃ g, s.rcd.segs[i]? = some g := by
    unfold State.eraseRuns at erases
    split at erases
    · contradiction
    · have found := List.find?_some erases
      cases here : s.rcd.segs[i]? with
      | none => simp [here] at found
      | some g => exact ⟨g, rfl⟩
  obtain ⟨g, here⟩ := present
  exact ⟨g, fun f => by rw [modAt, List.getElem?_modify_eq, here, Option.map_eq_map, Option.map_some]⟩

/-- A segment that is erased is free again. -/
theorem segmentEraseDone_erased {i : Nat} (erases : s.eraseRuns = some i) :
    (segmentEraseDone true s).rcd.segs[i]? = some ⟨.erased, []⟩
    ∧ (segmentEraseDone true s).rcd.queue = s.rcd.queue := by
  have left : (segmentEraseDone true s).rcd
      = { s.rcd with segs := modAt s.rcd.segs i fun _ => ⟨.erased, []⟩ } := by
    simp only [segmentEraseDone, erases, if_true, recShow_rcd]
    exact ite_keeps (g := State.rcd) rfl
  obtain ⟨g, changed⟩ := eraseRuns_modAt erases
  rw [left]
  exact ⟨changed _, rfl⟩

/-- The segment whose erase failed is removed and the failure logged and recorded. -/
def State.eraseFailed (s : State) (i : Nat) : State :=
  let s := { s with rcd := { s.rcd with segs := modAt s.rcd.segs i (fun g => { g with state := .removed }) } }
  ((s.raise pREC 5).logErr pREC 0x0101 (BitVec.ofNat 32 (i + 0x100))).owe 0xF005 (toLe 4 i ++ toLe 4 1)

theorem eraseFailed_segs (i : Nat) :
    (s.eraseFailed i).rcd.segs = modAt s.rcd.segs i fun g => { g with state := .removed } := by
  simp [State.eraseFailed, State.owe, State.oweEvent]

theorem eraseFailed_due (i : Nat) : (s.eraseFailed i).rcd.due.length = s.rcd.due.length + 1 := by
  simp [State.eraseFailed, State.owe, State.oweEvent]

/-- A segment whose erase fails is removed, for another one to be recycled, and FLASH_FAIL is owed. -/
theorem segmentEraseDone_failed {i : Nat} (erases : s.eraseRuns = some i) :
    ((segmentEraseDone false s).rcd.segs[i]?).map (fun g => g.state) = some .removed
    ∧ s.rcd.due.length + 1 ≤ (segmentEraseDone false s).rcd.due.length := by
  have left : segmentEraseDone false s = (s.eraseFailed i).keepErased.recShow := by
    simp only [segmentEraseDone, erases]
    rfl
  obtain ⟨g, changed⟩ := eraseRuns_modAt erases
  rw [left, recShow_rcd]
  refine ⟨keepErased_removed ?_, (eraseFailed_due i).ge.trans keepErased_due⟩
  rw [eraseFailed_segs, changed, Option.map_some]

/-! ### The reports of drops (R437) -/

theorem suppressTimeout_runs (runs : s.recRuns = true) :
    suppressTimeout s = s.suppress fun d => decide (d.since.toNat + 60000 ≤ s.opTime.toNat) := by
  simp only [suppressTimeout, runs]
  rfl

/-! ### The start (R432) -/

/-- The examination of the write point moves it at most. -/
theorem examine_keeps {β : Type} {g : State → β} (moved : ∀ v, g (s.setReg Reg.recWptr v) = g s) :
    g s.examine.1 = g s := by
  unfold State.examine
  dsimp only
  split
  · rfl
  · exact moved _

/-- From `s` to `t` the engine has started: it comes to owe at least `n` records, and neither the queue nor the next SEQ
changes. -/
structure Started (n : Nat) (s t : State) : Prop where
  runs : t.fld Reg.recStat 1 0 = 1
  events : t.events = s.events
  due : s.rcd.due.length + n ≤ t.rcd.due.length
  queue : t.rcd.queue = s.rcd.queue
  next : t.reg Reg.recNextSeq = s.reg Reg.recNextSeq

/-- The engine runs and owes nothing yet; a segment whose RECYCLE record was not written is in use again. -/
def State.engineOn (s : State) : State :=
  { s.setFld Reg.recStat 1 0 1 with rcd := { s.rcd with
      segs := s.rcd.segs.map fun g =>
        if g.state == .erasing && !s.rcd.recycled g then { g with state := .inUse } else g
      due := [] } }

/-- The first records of a run are owed ahead of those asked for before. -/
def State.firstOwed (s : State) (l : List (Nat × Bytes)) : State :=
  let t := l.foldl (fun u r => State.owe u r.1 r.2) s.engineOn.examine.1
  { t with rcd := { t.rcd with due := t.rcd.due ++ s.rcd.due } }

/-- The first records of a run are those of `first`, those of the write point, and START. -/
theorem recStart_eq (first : List (Nat × Bytes)) :
    ∃ l, first.length + 1 ≤ l.length ∧ s.recStart first = (s.firstOwed l).keepErased.recShow :=
  ⟨first ++ s.engineOn.examine.2 ++ [_], by simp only [List.length_append, List.length_singleton]; omega, rfl⟩

theorem firstOwed_keeps {β : Type} {g : State → β} {l : List (Nat × Bytes)}
    (moved : ∀ v, g (s.engineOn.setReg Reg.recWptr v) = g s.engineOn) (owed : ∀ u ty b, g (State.owe u ty b) = g u)
    (behind : ∀ u l, g { u with rcd := { u.rcd with due := l } } = g u)
    (erasing : ∀ u l, g { u with rcd := { u.rcd with segs := l } } = g u) :
    g (s.firstOwed l).keepErased = g s.engineOn := by
  rw [keepErased_keeps owed erasing, State.firstOwed, behind,
    foldl_keeps g fun u (r : Nat × Bytes) => owed u r.1 r.2]
  exact examine_keeps moved

theorem firstOwed_due (l : List (Nat × Bytes)) : s.rcd.due.length + l.length ≤ (s.firstOwed l).rcd.due.length := by
  have sources := foldl_dueSources (f := fun u r => State.owe u r.1 r.2) (fun _ _ => owe_dueSources ..) l
    s.engineOn.examine.1
  have length := congrArg List.length sources
  simp only [length_dueSources, List.length_append, List.length_map] at length
  simp only [State.firstOwed, List.length_append]
  omega

theorem recStart_started (first : List (Nat × Bytes)) : Started (first.length + 1) s (s.recStart first) := by
  obtain ⟨l, count, eq⟩ := recStart_eq (s := s) first
  have regs {k : Nat} (point : k ≠ Reg.recWptr) := firstOwed_keeps (s := s) (l := l) (g := fun u => u.reg k)
    (fun _ => State.reg_setReg_ne point) (fun _ _ _ => rfl) (fun _ _ => rfl) fun _ _ => rfl
  rw [eq]
  exact {
    runs := recShow_state.trans ((fld_eq_of_reg (regs (by decide))).trans State.fld_setFld_self)
    events := firstOwed_keeps (g := State.events) (fun _ => rfl) (fun _ _ _ => rfl) (fun _ _ => rfl) fun _ _ => rfl
    due := (Nat.add_le_add_left count _).trans ((firstOwed_due l).trans keepErased_due)
    queue := firstOwed_keeps (g := fun u => u.rcd.queue) (fun _ => rfl) (fun _ _ _ => rfl) (fun _ _ => rfl)
      fun _ _ => rfl
    next := (recShow_reg (by decide) (by decide) (by decide)).trans
      ((regs (by decide)).trans (State.reg_setFld_ne (by decide))) }

/-- The events that were raised before the engine runs are taken as records asked for. -/
def State.eventsOwed (s : State) : State := s.events.foldl State.oweEvent { s with events := [] }

theorem eventsOwed_keeps {β : Type} {g : State → β} (owed : ∀ u e, g (State.oweEvent u e) = g u) :
    g s.eventsOwed = g { s with events := [] } := foldl_keeps g owed _ _

theorem eventsOwed_due : s.eventsOwed.rcd.due.length = s.rcd.due.length + s.events.length := by
  have owed : s.eventsOwed.dueSources = s.dueSources ++ s.events.map Event.src :=
    foldl_dueSources (fun _ => oweEvent_dueSources) _ _
  simpa only [length_dueSources, List.length_append, List.length_map] using congrArg List.length owed

section
variable (up : s.domainUp 8 = true)
include up

theorem recorderStart_waits (stands : s.fld Reg.recStat 1 0 = 0) :
    recorderStart false s = s.eventsOwed.setFld Reg.recStat 1 0 2 := by
  simp only [recorderStart, up, stands]
  rfl

theorem recorderStart_starts (stands : s.fld Reg.recStat 1 0 = 0) : recorderStart true s = s.eventsOwed.recStart [] := by
  simp only [recorderStart, up, stands]
  rfl

end

/-- The SEQ behind those of the records held, unless the retained one has passed them (R431). -/
def State.seqAfter (s : State) : Word :=
  (s.rcd.valid.map (fun b => recSeq b + 1)).foldl (fun a b => if later b a then b else a) (s.reg Reg.recNextSeq)

/-- The state in which the scan of the segments leaves the index. -/
def State.reindexed (s : State) : State :=
  let t := s.setReg Reg.recNextSeq s.seqAfter
  match s.rcd.ordered.getLast? with
  | none => t
  | some i =>
    let g := s.rcd.segs.getD i ⟨.erased, []⟩
    { t with rcd := { t.rcd with wseg := i, opened := g.serial + 1 } }.setReg Reg.recWptr (BitVec.ofNat 32 g.point)

theorem indexRebuilt_starts {ms : Word} (up : s.domainUp 8 = true) (scans : s.fld Reg.recStat 1 0 = 2) :
    indexRebuilt ms s = s.reindexed.recStart [(0xF006, wordBytes ms)] := by
  simp only [indexRebuilt, up, scans]
  rfl

theorem reindexed_rcd : s.reindexed.rcd.due = s.rcd.due ∧ s.reindexed.rcd.queue = s.rcd.queue := by
  unfold State.reindexed
  dsimp only
  split <;> exact ⟨rfl, rfl⟩

theorem reindexed_next : s.reindexed.reg Reg.recNextSeq = s.seqAfter := by
  unfold State.reindexed
  dsimp only
  split
  · exact State.reg_setReg_self
  · exact (State.reg_setReg_ne (by decide)).trans State.reg_setReg_self

theorem seqAfter_empty (empty : s.rcd.valid = []) : s.seqAfter = s.reg Reg.recNextSeq := by
  rw [State.seqAfter, empty]
  rfl

/-! ### Submission and reading (R439, R440) -/

section
variable (up : s.domainUp 8 = true)
include up

theorem recSubCmd_hap : recSubCmd true s = s.refuse Reg.recSubCmd := by
  simp only [recSubCmd, up]
  rfl

theorem recRdCmdRead_refused {hap : Bool} (no : (hap || s.rcd.reading.isSome) = true) :
    recRdCmdRead hap s = s.refuse Reg.recRdCmd := by
  simp only [recRdCmdRead, up, no]
  rfl

theorem recRdCmdRead_begins (idle : s.rcd.reading = none) : recRdCmdRead false s = s.readBegin := by
  simp only [recRdCmdRead, up, idle]
  rfl

end

/-- A TYPE that the steward may submit. -/
def typeOk (type : Nat) : Bool :=
  decide (1 ≤ type ∧ type ≤ 0x101F) || decide (0xE000 ≤ type ∧ type ≤ 0xEFFF)

theorem typeOk_iff {type : Nat} :
    typeOk type = true ↔ (1 ≤ type ∧ type ≤ 0x101F) ∨ (0xE000 ≤ type ∧ type ≤ 0xEFFF) := by
  simp [typeOk]

section
variable {a : Nat} (up : s.domainUp 8 = true) (block : a = s.addrOf Reg.recSubLo Reg.recSubHi)
include up block

theorem recSubCmd_invalid (bad : 4059 < leNat (s.mem.read (a + 4) 2) ∨ 3 ≤ (s.mem.byte (a + 3)).toNat
    ∨ ¬ typeOk (leNat (s.mem.read a 2))) :
    recSubCmd false s = (s.setFld Reg.recSubStat 1 0 3).logErr pREC 0x0102 (s.reg Reg.recSubLo) := by
  subst block
  simp only [recSubCmd, up]
  exact if_pos bad

theorem recSubCmd_valid {v : State × Bool} (good : ¬ (4059 < leNat (s.mem.read (a + 4) 2)
      ∨ 3 ≤ (s.mem.byte (a + 3)).toNat ∨ ¬ typeOk (leNat (s.mem.read a 2))))
    (admits : v = s.recAdmit ⟨leNat (s.mem.read a 2), (s.mem.byte (a + 2)).toNat,
      if (s.mem.byte (a + 3)).toNat = 0 then .critical else if (s.mem.byte (a + 3)).toNat = 1 then .normal else .bulk,
      s.mem.read (a + 8) (leNat (s.mem.read (a + 4) 2))⟩) :
    recSubCmd false s = (v.1.setFld Reg.recSubStat 1 0 (if v.2 then 1 else 2)).recShow := by
  subst block admits
  simp only [recSubCmd, up]
  exact if_neg good

end

/-- REC_RD_STAT RECORDS stands below the flags of the batch. -/
theorem bits_readStat (n : Nat) (gap ahead : Bool) :
    bits (BitVec.ofNat 32 (n % 2 ^ 16 + b2n gap * 2 ^ 17 + b2n ahead * 2 ^ 18)) 15 0 = n % 0x10000 := by
  simp only [bits, BitVec.toNat_ofNat, Nat.shiftRight_zero]
  omega

theorem recReadDone_left {r : ReadRun} (reads : s.rcd.reading = some r) :
    (recReadDone s).rcd.reading = none
    ∧ (recReadDone s).mem = s.mem.write (s.addrOf Reg.recRdBaseLo Reg.recRdBaseHi) r.bytes
    ∧ (recReadDone s).reg Reg.recRdCursor = r.cursor ∧ (recReadDone s).reg Reg.recRdFirst = r.first
    ∧ (recReadDone s).fld Reg.recRdStat 15 0 = r.count % 0x10000 := by
  simp only [recReadDone, reads]
  refine ⟨?_, ?_, ?_, ?_, ?_⟩
  · rw [State.raise_rcd]
    rfl
  · rw [State.raise_mem]
    rfl
  · rw [State.reg_raise_ne (by decide), State.reg_setReg_ne (by decide), State.reg_setReg_self]
  · rw [State.reg_raise_ne (by decide), State.reg_setReg_self]
  · rw [fld_raise_ne (by decide), State.fld_setReg_ne (by decide), State.fld_setReg_ne (by decide), State.fld,
      State.reg_setReg_self]
    exact bits_readStat ..

/-! ### The statement -/

/-- Settles O48. -/
theorem recorderPage : Obligations.RecorderPage := by
  unfold Obligations.RecorderPage
  refine ⟨fun e l s runs raised low room => ?_, fun e l s runs raised bulk full => ?_,
    fun q l s runs indexed due other isOpen header room => ?_,
    fun q k l r s runs indexed due => .of_meaning rfl (recordWrite_due runs indexed due),
    fun q l s runs indexed due next other isOpen header room => ?_,
    fun q l s runs indexed due next wedge waits isOpen header room => ?_,
    fun i s erases => ⟨.of_meaning rfl rfl (segmentEraseDone_erased erases),
      .of_meaning rfl rfl (segmentEraseDone_failed erases)⟩,
    fun s runs => ?_, fun s up stands => ?_, fun ms s up scans => ?_,
    fun s up => ⟨.of_meaning rfl (recSubCmd_hap up), .of_meaning rfl (recRdCmdRead_refused up rfl)⟩,
    fun a p s up block type prio same len => ?_, fun a s up block bad => ?_,
    fun s up idle => .of_meaning rfl (recRdCmdRead_begins up idle) ⟨rfl, rfl⟩,
    fun s up reads => .of_meaning rfl (recRdCmdRead_refused up reads),
    fun r s reads => .of_meaning rfl rfl (recReadDone_left reads)⟩
  · refine .of_meaning rfl (recordEventAdmit_runs runs raised) ?_
    rw [recShow_events, recShow_rcd, recAdmit_room (s := { s with events := l }) low room]
    exact ⟨rfl, rfl, rfl⟩
  · refine .of_meaning rfl (recordEventAdmit_runs runs raised) ?_
    rw [recShow_events, recShow_rcd, recAdmit_bulk_full (s := { s with events := l }) bulk full]
    refine ⟨dropEvent_events, dropEvent_queue, ?_⟩
    have other {k : Nat} (h : k % 0x100000 ≠ Reg.recDrop) := (ne_bank_recDrop e.src h).symm
    rw [fld_eq_of_reg (recShow_reg (other (by decide)) (other (by decide)) (other (by decide)))]
    exact dropEvent_bulk bulk
  · have fits : ({ s with rcd := { s.rcd with due := l } } : State).Fits q := ⟨isOpen, header, room⟩
    have wrote := (writeRec_wrote fits).recShow
    exact .of_meaning rfl ((recordWrite_due runs indexed due).trans (wedgeRecorded_other other))
      ⟨congrArg Recorder.due (writeRec_rcd fits), wrote.queue, wrote.next, wrote.point, wrote.bytes⟩
  · have wrote := ((writeRec_wrote (s := { s with rcd := { s.rcd with queue := l } })
      ⟨isOpen, header, room⟩).emptied l).recShow
    exact .of_meaning rfl ((recordWrite_queued runs indexed due next).trans (wedgeRecorded_other other))
      ⟨wrote.queue, emptied_drops, wrote.next, wrote.point, wrote.bytes⟩
  · have fits : ({ s with rcd := { s.rcd with queue := l } } : State).Fits q := ⟨isOpen, header, room⟩
    have wrote := ((writeRec_wrote fits).emptied l).recShow
    have unowed := (congrArg Recorder.due (writeRec_rcd fits)).trans due
    obtain ⟨src, type⟩ := wedge
    exact .of_meaning rfl (recordWrite_queued runs indexed due next)
      (wedgeRecorded_resets src type (emptied_owes l unowed) (wrote.wedge ▸ waits.1)
        ((stewardUp_of_reg wrote.steward).trans waits.2))
  · refine .of_meaning rfl (suppressTimeout_runs runs) ⟨?_, ?_⟩
    · rw [suppress_drops]
      exact List.filter_congr fun d _ => by rw [← decide_not, decide_eq_decide, Nat.not_le]
    · simpa only [length_dueSources, List.length_append, List.length_map]
        using congrArg List.length (suppress_dueSources _)
  · have queue : s.eventsOwed.rcd.queue = s.rcd.queue := eventsOwed_keeps (g := fun u => u.rcd.queue) fun _ _ => rfl
    have events : s.eventsOwed.events = [] := eventsOwed_keeps (g := State.events) fun _ _ => rfl
    have started := recStart_started (s := s.eventsOwed) []
    have owes := started.due
    rw [eventsOwed_due] at owes
    exact ⟨.of_meaning rfl (recorderStart_waits up stands) ⟨State.fld_setFld_self, events, eventsOwed_due, queue⟩,
      .of_meaning rfl (recorderStart_starts up stands) ⟨started.runs, started.events.trans events,
        owes, started.queue.trans queue⟩⟩
  · obtain ⟨due, queue⟩ := reindexed_rcd (s := s)
    have started := recStart_started (s := s.reindexed) [(0xF006, wordBytes ms)]
    have owes := started.due
    rw [due] at owes
    exact .of_meaning rfl (indexRebuilt_starts up scans) ⟨started.runs, owes, started.queue.trans queue,
      fun empty => started.next.trans (reindexed_next.trans (seqAfter_empty empty))⟩
  · have good : ¬ (4059 < leNat (s.mem.read (a + 4) 2) ∨ 3 ≤ (s.mem.byte (a + 3)).toNat
        ∨ ¬ typeOk (leNat (s.mem.read a 2))) := by
      rw [typeOk_iff]
      omega
    subst same
    exact .of_meaning rfl (recSubCmd_valid up block good rfl)
  · have invalid := recSubCmd_invalid up block (by rw [typeOk_iff]; omega)
    refine ⟨.of_meaning rfl invalid, .of_meaning rfl invalid ⟨?_, State.logErr_rcd .., State.logErr_mem ..⟩⟩
    exact (fld_eq_of_reg (State.reg_logErr_ne (by decide) (by decide))).trans State.fld_setFld_self

end Sys2Proof.Machine
end
